-- ==== Sys2Proof/Word.lean ====
section
/-!
DEFINITION. The word types of the CZG-4810 and their plainest arithmetic: bit fields, saturating
counters, and little-endian bytes (R3).
-/
namespace Sys2Proof

/-- A register, a payload word or a channel value: 32 bits. -/
abbrev Word := BitVec 32

/-- An angle, a frequency word or a host address: 64 bits. -/
abbrev W64 := BitVec 64

/-- A byte of a packet, a frame, a flit or a memory. -/
abbrev Byte := BitVec 8

/-- A number as a 32-bit word, modulo 2^32. -/
def mkW (n : Nat) : Word := BitVec.ofNat 32 n

/-- Bits `hi:lo` of a number. -/
def nfld (n hi lo : Nat) : Nat := (n >>> lo) % 2 ^ (hi + 1 - lo)

/-- Bits `hi:lo` of a word, as the manual writes them. -/
def fld (w : Word) (hi lo : Nat) : Nat := nfld w.toNat hi lo

/-- Bit `i` of a word. -/
def bit (w : Word) (i : Nat) : Bool := w.getLsbD i

/-- A Bool as bit `i` of a word. -/
def bitW (b : Bool) (i : Nat) : Word := if b then mkW (2 ^ i) else 0

/-- A number placed from bit `lo` up. -/
def putF (n lo : Nat) : Word := mkW (n * 2 ^ lo)

/-- Bit `i` of a word set or cleared. -/
def setBit (w : Word) (i : Nat) (b : Bool) : Word :=
  if b then w ||| mkW (2 ^ i) else w &&& ~~~ mkW (2 ^ i)

/-- `new` on the bits of `mask`, `old` on the others. -/
def blend (mask old new : Word) : Word := (old &&& ~~~ mask) ||| (new &&& mask)

/-- One count of a saturating 32-bit counter (R5, R76). -/
def satInc (w : Word) : Word := if w = BitVec.allOnes 32 then w else w + 1

/-- The word of a list of Bool flags, flag 0 in bit 0. -/
def flagsW (f : Nat → Bool) (n : Nat) : Word :=
  (List.range n).foldl (fun w i => w ||| bitW (f i) i) 0

/-- The signed value of a word. -/
def sint (w : Word) : Int := w.toInt

/-- The low half of a 64-bit number. -/
def lo32 (n : Nat) : Word := mkW n

/-- The high half of a 64-bit number. -/
def hi32 (n : Nat) : Word := mkW (n / 2 ^ 32)

/-- Two words as one 64-bit number, the low word first. -/
def join64 (lo hi : Word) : W64 := BitVec.ofNat 64 (lo.toNat + 2 ^ 32 * hi.toNat)

/-- A number as `n` little-endian bytes (R3). -/
def leBytes : Nat → Nat → List Byte
  | 0, _ => []
  | n + 1, v => BitVec.ofNat 8 v :: leBytes n (v / 256)

/-- The number that little-endian bytes spell (R3). -/
def ofLe : List Byte → Nat
  | [] => 0
  | b :: t => b.toNat + 256 * ofLe t

/-- A number as `n` big-endian bytes (network order). -/
def beBytes (n v : Nat) : List Byte := (leBytes n v).reverse

/-- The number that big-endian bytes spell. -/
def ofBe (l : List Byte) : Nat := ofLe l.reverse

/-- `n` bytes of a list from offset `o`; bytes past its end read as zero. -/
def sliceB (l : List Byte) (o n : Nat) : List Byte :=
  let t := (l.drop o).take n
  t ++ List.replicate (n - t.length) 0

/-- The little-endian number of `n` bytes at offset `o`. -/
def leAt (l : List Byte) (o n : Nat) : Nat := ofLe (sliceB l o n)

/-- The big-endian number of `n` bytes at offset `o`. -/
def beAt (l : List Byte) (o n : Nat) : Nat := ofBe (sliceB l o n)

/-- The words that a list of bytes spells, four bytes each, little-endian (R3). -/
def wordsOf : List Byte → List Word
  | b0 :: b1 :: b2 :: b3 :: t => mkW (ofLe [b0, b1, b2, b3]) :: wordsOf t
  | _ => []

/-- The bytes of a list of words, little-endian (R3). -/
def bytesOf (ws : List Word) : List Byte := ws.flatMap fun w => leBytes 4 w.toNat

/-- Word `i` of a payload; zero past its end. -/
def wAt (ws : List Word) (i : Nat) : Word := ws.getD i 0

/-- An `Int` clamped to a range. -/
def clampI (lo hi x : Int) : Int := if x < lo then lo else if hi < x then hi else x

/-- A 32-bit two's-complement word of an `Int`. -/
def wordOfInt (x : Int) : Word := BitVec.ofInt 32 x

/-- The least number of times `d` covers `n` (rounding up); 0 for `d = 0`. -/
def ceilDiv (n d : Nat) : Nat := (n + d - 1) / d

end Sys2Proof
end

