-- ==== Sys2Proof/Syntax.lean ====
section
/-!
DEFINITION. The commands of the CZG-4810, one constructor per row of the opcode table.
-/
namespace Sys2Proof

/-- What a self-calibration of one unit finds: the factors of its averaging phase and of its repeat (R300). -/
structure CalFinding where
  unit : Nat
  ofs : Int
  gain : Nat
  ofs2 : Int
  gain2 : Nat
  deriving DecidableEq, Repr

/-- A top-level member of allData, or an element of a structure in it (R326): a BOOLEAN's content byte, or another type. -/
inductive GooseItem where
  | bool (content : Nat)
  | other
  deriving DecidableEq, Repr

/-- A top-level member of allData (R326). -/
inductive GooseMember where
  | item (x : GooseItem)
  | struct (elems : List GooseItem)
  deriving DecidableEq, Repr

/-- A GOOSE frame as a port parses it (R324 to R327): where it came from, whether its goosePdu parses, and its fields. -/
structure GooseFrame where
  port : Fin 4
  dst : List Byte
  appid : Nat
  ref : List Byte
  parses : Bool
  sim : Bool
  confRev : Nat
  ndsCom : Bool
  stNum : Nat
  sqNum : Nat
  ttl : Nat
  members : List GooseMember
  deriving DecidableEq, Repr

/-- An Announce message as the clock takes it (R330, R331): its grandmaster, whether the data-set comparison of IEEE 1588 chooses its
sender, and its UTC offset with the valid flag. -/
structure Announce where
  gm : W64
  chosen : Bool
  utc : Nat
  utcValid : Bool
  deriving DecidableEq, Repr

/-- A row that fails its first pass in a memory test (R389), and whether it fails the repeat. -/
structure RowFail where
  set : Fin 8
  bank : Fin 8
  row : Nat
  again : Bool
  deriving DecidableEq, Repr

/-- A channel that fails training at the rate of a timing set (R400), and whether it fails the repeat. -/
structure TrainFail where
  chan : Fin 4
  set : Fin 2
  again : Bool
  deriving DecidableEq, Repr

/-- A granule of external memory that fails a test (R414), by address, and whether it fails the repeat. -/
structure GranuleFail where
  addr : Nat
  again : Bool
  deriving DecidableEq, Repr

/-- A row of one bank that is replaced at boot: by the fuses, or by the start-up test (R386, R390). -/
structure BistRow where
  set : Fin 8
  bank : Fin 8
  row : Nat
  factory : Bool
  deriving DecidableEq, Repr

/-- The exchanges whose responses may be missing at the timeout of their command (R361). -/
inductive Exchange where
  | enum
  | align
  | census
  | bcast (num : Nat)
  deriving DecidableEq, Repr

/-- A word of on-chip memory that a reader finds erroneous: its address, and whether it is uncorrectable (R382). -/
structure BadWord where
  addr : Nat
  ue : Bool
  deriving DecidableEq, Repr

/-- What a direct access of the host names: BAR0, BAR2, or configuration space (R54, R66). -/
inductive Space where
  | bar0
  | bar2
  | config
  deriving DecidableEq, Repr

/-- A block or an instance that has an enable of its own (R71), the outputs and inputs with an EN bit included. -/
inductive EnTarget where
  | sys (b : Fin 14)
  | group (g : Fin 8)
  | chan (c : Fin 32)
  | adc (u : Fin 16)
  | pin (n : Fin 64)
  | marker (m : Fin 16)
  | bin (n : Fin 32)
  | netPort (p : Fin 4)
  | chnPort (p : Fin 3)
  | errLog
  | mgt
  deriving DecidableEq, Repr

/-- The commands of the table, in its order: a command of a queue by its queue and its place `k` there, an edge or an arrival with
its time in grains where that time is observed. -/
inductive Instr where
  /-- Q_SQ_TAIL (R59). -/
  | qSqTail (q : Fin 8) (v : Word)
  /-- PACKET_FETCH (R38). -/
  | packetFetch (q : Fin 8) (entry : List Byte) (packet : List Byte)
  /-- DUPLICATE_REPLY (R46). -/
  | duplicateReply (q : Fin 10) (k : Nat)
  /-- COMPLETION_POST (R57). -/
  | completionPost (q : Fin 10)
  /-- Q_CQ_HEAD (R58). -/
  | qCqHead (q : Fin 8) (v : Word)
  /-- QUEUE_ENABLE (R61). -/
  | queueEnable (q : Fin 8) (v : Word)
  /-- QUEUE_RESET (R64). -/
  | queueReset (q : Fin 8) (v : Word)
  /-- QUEUE_RESET_DONE (R64). -/
  | queueResetDone (q : Fin 8)
  /-- RESUME (R43). -/
  | resume (q : Fin 8) (v : Word)
  /-- FUNCTION_LEVEL_RESET (R65). -/
  | functionLevelReset
  /-- COMMAND_TIMEOUT (R50). -/
  | commandTimeout (q : Fin 10) (k : Nat)
  /-- PLAKU_MESSAGE (R33). -/
  | plakuMessage (p : Fin 3)
  /-- ECHO (R51). -/
  | echo (q : Fin 10) (k : Nat)
  /-- IDENTIFY (R51). -/
  | identify (q : Fin 10) (k : Nat)
  /-- RESET_MAIN (R430). -/
  | resetMain (q : Fin 10) (k : Nat) (packet : List Byte)
  /-- SAFE_STATE (R429). -/
  | safeState (q : Fin 10) (k : Nat) (packet : List Byte) (claims : List (Nat × Nat))
  /-- REG_READ (R51). -/
  | regRead (q : Fin 10) (k : Nat)
  /-- REG_WRITE (R52). -/
  | regWrite (q : Fin 10) (k : Nat)
  /-- REG_WRITE_MASKED (R53). -/
  | regWriteMasked (q : Fin 10) (k : Nat)
  /-- REGISTER_WRITE (R74). -/
  | registerWrite (sp : Space) (off : Nat) (val : Word) (be : Fin 256) (hi : Option Word)
  /-- LATCH_READ (R68). -/
  | latchRead (sp : Space) (off : Nat) (wide : Bool)
  /-- STAGED_WRITE (R182). -/
  | stagedWrite (off : Nat) (val : Word)
  /-- BLOCK_ENABLE (R72). -/
  | blockEnable (x : EnTarget)
  /-- BLOCK_DISABLE (R72). -/
  | blockDisable (x : EnTarget)
  /-- DEFERRED_ENABLE_CHANGE (R467). -/
  | deferredEnableChange
  /-- LOCK_SET (R79). -/
  | lockSet (v : Word)
  /-- SYS_CNT_RESET (R81). -/
  | sysCntReset (v : Word)
  /-- SLACK_WINDOW (R15). -/
  | slackWindow (ratio : Nat)
  /-- SEG_DEFINE (R154). -/
  | segDefine (q : Fin 10) (k : Nat)
  /-- SEG_LOAD (R155). -/
  | segLoad (q : Fin 10) (k : Nat) (data : List Byte)
  /-- SEG_VERIFY (R156). -/
  | segVerify (q : Fin 10) (k : Nat) (glitch : Bool) (ue : Option Nat)
  /-- SEG_FREE (R157). -/
  | segFree (q : Fin 10) (k : Nat)
  /-- MEM_FILL (R158). -/
  | memFill (q : Fin 10) (k : Nat)
  /-- MEM_READ (R159). -/
  | memRead (q : Fin 10) (k : Nat) (bad : List Nat) (ces : List Nat) (retry : Option Nat)
  /-- TABLE_WRITE (R190). -/
  | tableWrite (q : Fin 10) (k : Nat)
  /-- GROUP_ARM (R191). -/
  | groupArm (q : Fin 10) (k : Nat)
  /-- GROUP_START (R192). -/
  | groupStart (q : Fin 10) (k : Nat)
  /-- GROUP_STOP (R193). -/
  | groupStop (q : Fin 10) (k : Nat)
  /-- STAGE (R182). -/
  | stage (q : Fin 10) (k : Nat)
  /-- COMMIT (R190). -/
  | commit (q : Fin 10) (k : Nat)
  /-- FORCE_JUMP (R194). -/
  | forceJump (q : Fin 10) (k : Nat)
  /-- STAGE_HOLD (R182). -/
  | stageHold (g : Fin 8) (on : Bool)
  /-- STAGE_DISCARD (R198). -/
  | stageDiscard (g : Fin 8)
  /-- ADC_SEQ_SET (R308). -/
  | adcSeqSet (q : Fin 10) (k : Nat)
  /-- ADC_SELFCAL (R300). -/
  | adcSelfcal (q : Fin 10) (k : Nat) (found : List CalFinding)
  /-- ADC_READ (R308). -/
  | adcRead (q : Fin 10) (k : Nat)
  /-- CHAIN_ENUM (R348). -/
  | chainEnum (q : Fin 10) (k : Nat) (remote : Bool)
  /-- CENSUS (R362). -/
  | census (q : Fin 10) (k : Nat) (table : List Byte)
  /-- CHAIN_BROADCAST (R355). -/
  | chainBroadcast (q : Fin 10) (k : Nat)
  /-- CHAIN_ALIGN (R368). -/
  | chainAlign (q : Fin 10) (k : Nat)
  /-- SV_CONFIG (R316). -/
  | svConfig (q : Fin 10) (k : Nat)
  /-- GOOSE_SUB (R323). -/
  | gooseSub (q : Fin 10) (k : Nat)
  /-- PTP_CONFIG (R329). -/
  | ptpConfig (q : Fin 10) (k : Nat)
  /-- MEM_TEST (R387). -/
  | memTest (q : Fin 10) (k : Nat) (fails : List RowFail)
  /-- MEM_TEST_EXTERNAL (R413). -/
  | memTestExternal (q : Fin 10) (k : Nat) (fails : List GranuleFail)
  /-- LOG_READ (R210). -/
  | logRead (q : Fin 10) (k : Nat)
  /-- CHECK_WINDOW_SET (R246). -/
  | checkWindowSet (q : Fin 10) (k : Nat)
  /-- TIME_SET (R92). -/
  | timeSet (q : Fin 10) (k : Nat)
  /-- TIME_SET_CALENDAR (R97). -/
  | timeSetCalendar (q : Fin 10) (k : Nat)
  /-- TIME_GET (R94). -/
  | timeGet (q : Fin 10) (k : Nat)
  /-- FW_BEGIN (R482). -/
  | fwBegin (q : Fin 10) (k : Nat)
  /-- FW_DATA (R482). -/
  | fwData (q : Fin 10) (k : Nat)
  /-- FW_COMMIT (R482). -/
  | fwCommit (q : Fin 10) (k : Nat)
  /-- PLL_A_LOCK (R132). -/
  | pllALock
  /-- PLL_A_LOCK_LOSS (R90). -/
  | pllALockLoss
  /-- REFERENCE_LOSS (R87). -/
  | referenceLoss
  /-- HOLDOVER_END (R87). -/
  | holdoverEnd
  /-- TIME_STEP (R93). -/
  | timeStep
  /-- PPS_OUT (R99). -/
  | ppsOut (rise : Bool)
  /-- PPS_IN_EDGE (R100). -/
  | ppsInEdge (rise : Bool) (t : Nat)
  /-- PPS_SEEN_TIMEOUT (R100). -/
  | ppsSeenTimeout
  /-- PLL_APPLY (R129). -/
  | pllApply (x : Fin 2) (v : Word)
  /-- APPLY_EDGE (R129). -/
  | applyEdge (x : Fin 2)
  /-- PLL_LOCK (R127). -/
  | pllLock (x : Fin 2) (count : Nat)
  /-- PLL_LOCK_LOSS (R128). -/
  | pllLockLoss (x : Fin 2) (count : Nat)
  /-- CKOUT_ENABLE (R133). -/
  | ckoutEnable (n : Fin 4) (on : Bool)
  /-- FIRST_SAMPLE_EDGE (R192). -/
  | firstSampleEdge (g : Fin 8) (t : Nat) (absent : Bool) (sine : Option BadWord)
  /-- GROUP_SAMPLE (R104). -/
  | groupSample (g : Fin 8) (t : Nat) (absent : Bool) (stale : Bool) (sine : Option BadWord)
  /-- TURN_MARK (R109). -/
  | turnMark (g : Fin 8) (t : Nat)
  /-- COMMIT_POINT (R186). -/
  | commitPoint (g : Fin 8) (t : Nat)
  /-- DURATION_END (R174). -/
  | durationEnd (g : Fin 8) (t : Nat)
  /-- SWITCH (R24). -/
  | switch (g : Fin 8) (t : Nat)
  /-- TARGET_HELD (R180). -/
  | targetHeld (g : Fin 8) (e : Nat) (t : Nat) (bad : Option BadWord)
  /-- DELAYED_SWITCH (R181). -/
  | delayedSwitch (g : Fin 8) (t : Nat)
  /-- UNDERRUN (R444). -/
  | underrun (g : Fin 8) (cause : Nat) (t : Nat) (ue : Option Nat)
  /-- FALLBACK (R446). -/
  | fallback (g : Fin 8) (t : Nat)
  /-- RESUMPTION (R448). -/
  | resumption (g : Fin 8) (t : Nat)
  /-- STOP_POINT (R193). -/
  | stopPoint (g : Fin 8) (t : Nat)
  /-- GROUP_FENCE (R438). -/
  | groupFence (g : Fin 8) (stage : Nat)
  /-- GFENCE_CLR (R438). -/
  | gfenceClr (mask : Fin 256)
  /-- BINARY_INPUT_CHANGE (R280). -/
  | binaryInputChange (n : Fin 32) (t : Nat)
  /-- BOUNCE (R280). -/
  | bounce (n : Fin 32)
  /-- BINARY_INPUT_START (R281). -/
  | binaryInputStart (n : Fin 32) (level : Bool)
  /-- TIME_MATCH_ARM (R207). -/
  | timeMatchArm (k : Fin 8) (on : Bool)
  /-- TIME_MATCH (R207). -/
  | timeMatch (k : Fin 8)
  /-- HOST_SOFT_EVENT (R200). -/
  | hostSoftEvent (v : Word)
  /-- EVENT_RECORD (R354). -/
  | eventRecord (p : Fin 3) (f : List Byte)
  /-- CHAIN_EVENT_EXECUTION (R204). -/
  | chainEventExecution
  /-- CHECK_WINDOW_CLOSE (R245). -/
  | checkWindowClose (c : Fin 32) (k : Fin 4) (t : Nat)
  /-- MIDSCALE_RAMP_END (R258). -/
  | midscaleRampEnd (d : Fin 32)
  /-- DAC_REF_READY (R260). -/
  | dacRefReady
  /-- RANGE_CHANGE_HOLD_END (R254). -/
  | rangeChangeHoldEnd (d : Fin 32)
  /-- MONITOR_SLOT (R292). -/
  | monitorSlot (u15 : Bool) (f : Nat) (legP : Nat) (legN : Nat)
  /-- DAC_RETRY (R262). -/
  | dacRetry (d : Fin 32)
  /-- DAC_RETRY_PASSED (R262). -/
  | dacRetryPassed (d : Fin 32)
  /-- DAC_FENCE_CLR (R263). -/
  | dacFenceClr (v : Word)
  /-- PATTERN_STEP (R267). -/
  | patternStep (g : Fin 8) (absent : Bool)
  /-- PAIR_MAKE (R271). -/
  | pairMake (k : Fin 32)
  /-- MARKER_END (R274). -/
  | markerEnd (m : Fin 16)
  /-- PIN_MISMATCH (R276). -/
  | pinMismatch (n : Fin 64) (t : Nat)
  /-- PIN_RETRY (R277). -/
  | pinRetry (n : Fin 64)
  /-- PIN_RETRY_PASSED (R277). -/
  | pinRetryPassed (n : Fin 64)
  /-- PAT_FENCE_CLR (R278). -/
  | patFenceClr (high : Bool) (v : Word)
  /-- PAT_OVR_CLR (R272). -/
  | patOvrClr (high : Bool) (v : Word)
  /-- ADC_TRIGGER (R297). -/
  | adcTrigger (u : Fin 16) (t : Nat)
  /-- TRIG (R297). -/
  | trig (u : Fin 16)
  /-- ADC_TRIG_ALL (R294). -/
  | adcTrigAll (v : Word)
  /-- ADC_APPLY (R303). -/
  | adcApply (u : Fin 16)
  /-- ADC_FENCE_CLR (R301). -/
  | adcFenceClr (u : Fin 16)
  /-- CONVERSION_RESULT (R290). -/
  | conversionResult (u : Fin 16) (raw : Int)
  /-- DETECTION_TIMER (R304). -/
  | detectionTimer (u : Fin 16)
  /-- ADC_REF_READY (R298). -/
  | adcRefReady (u : Fin 16)
  /-- ADC_CAP_CTL (R309). -/
  | adcCapCtl (v : Word)
  /-- ETH_LINK_UP (R334). -/
  | ethLinkUp (p : Fin 4)
  /-- ETH_LINK_DOWN (R315). -/
  | ethLinkDown (p : Fin 4)
  /-- FRAME_DISCARD (R315). -/
  | frameDiscard (p : Fin 4) (err : Bool)
  /-- SV_STREAM_START (R317). -/
  | svStreamStart (st : Fin 16)
  /-- SV_FRAME (R321). -/
  | svFrame (st : Fin 16) (missing : List (Nat × Nat))
  /-- GOOSE_FRAME (R325). -/
  | gooseFrame (f : GooseFrame) (t : Nat)
  /-- TIME_ALLOWED_TO_LIVE_EXPIRY (R327). -/
  | timeAllowedToLiveExpiry (d : Fin 64)
  /-- PTP_SYNC (R330). -/
  | ptpSync (off : Int)
  /-- PTP_ANNOUNCE (R330). -/
  | ptpAnnounce (a : Announce)
  /-- PTP_PDELAY (R331). -/
  | ptpPdelay (resp : Option Nat)
  /-- PTP_INTERVAL (R328). -/
  | ptpInterval
  /-- ANNOUNCE_RECEIPT_TIMEOUT (R328). -/
  | announceReceiptTimeout
  /-- SIGNAL_PRESENT (R345). -/
  | signalPresent (p : Fin 3)
  /-- FLIT_LOCK (R345). -/
  | flitLock (p : Fin 3)
  /-- INIT (R345). -/
  | initFlit (p : Fin 3) (f : List Byte)
  /-- LOSS_OF_BLOCK_LOCK (R345). -/
  | lossOfBlockLock (p : Fin 3)
  /-- RETRAIN_TIMEOUT (R345). -/
  | retrainTimeout (p : Fin 3)
  /-- DATA (R343). -/
  | data (p : Fin 3) (f : List Byte)
  /-- NAK (R344). -/
  | nak (p : Fin 3) (f : List Byte)
  /-- REPLAY_TIMEOUT (R344). -/
  | replayTimeout (p : Fin 3)
  /-- DELAY_MEASUREMENT_TIMER (R349). -/
  | delayMeasurementTimer (t : Nat)
  /-- DLY_REQ (R349). -/
  | dlyReq (p : Fin 3) (f : List Byte) (t2 : Nat) (t3 : Nat)
  /-- DLY_RSP (R349). -/
  | dlyRsp (p : Fin 3) (f : List Byte) (t4 : Nat)
  /-- TIME_FLIT_TIMER (R350). -/
  | timeFlitTimer (t : Nat)
  /-- TIME (R350). -/
  | timeFlit (p : Fin 3) (f : List Byte) (t : Nat)
  /-- TIME_SILENCE (R350). -/
  | timeSilence
  /-- SELF_EXCLUSION (R365). -/
  | selfExclusion
  /-- TURN_RECORD (R114). -/
  | turnRecord (p : Fin 3)
  /-- BROADCAST_SEQUENCE_MARKER (R353). -/
  | broadcastSequenceMarker (p : Fin 3)
  /-- ENUM_QUERY (R361). -/
  | enumQuery (p : Fin 3)
  /-- ENUM_COUNT (R361). -/
  | enumCount (p : Fin 3)
  /-- ENUM_ASSIGN (R361). -/
  | enumAssign (p : Fin 3)
  /-- ENUM_DONE (R361). -/
  | enumDone (p : Fin 3)
  /-- JOIN_MESSAGE (R366). -/
  | joinMessage (p : Fin 3)
  /-- JOIN_ASSIGN (R361). -/
  | joinAssign (p : Fin 3)
  /-- LEAVE (R367). -/
  | leave (p : Fin 3)
  /-- EXCLUDE (R365). -/
  | exclude (p : Fin 3)
  /-- CENSUS_QUERY (R361). -/
  | censusQuery (p : Fin 3)
  /-- CENSUS_REPORT (R363). -/
  | censusReport (p : Fin 3)
  /-- CENSUS_RESULT (R364). -/
  | censusResult (p : Fin 3)
  /-- BCAST_REPLY (R357). -/
  | bcastReply (p : Fin 3)
  /-- ALIGN_QUERY (R368). -/
  | alignQuery (p : Fin 3)
  /-- ALIGN_REPORT (R368). -/
  | alignReport (p : Fin 3)
  /-- EXCHANGE_TIMEOUT (R361). -/
  | exchangeTimeout (e : Exchange) (p : Fin 3)
  /-- MEM_CASTLE (R377). -/
  | memCastle (v : Word)
  /-- CASTLING_DONE (R378). -/
  | castlingDone
  /-- MEM_SETN_OWN (R379). -/
  | memSetnOwn (n : Fin 8) (v : Word)
  /-- POWER_STATE_REQUEST (R385). -/
  | powerStateRequest (n : Fin 8) (v : Word)
  /-- POWER_TRANSITION_DONE (R385). -/
  | powerTransitionDone (n : Fin 8)
  /-- SCRUB (R383). -/
  | scrub (ces : List Nat) (ues : List Nat)
  /-- DRM_TRAINING_DONE (R400). -/
  | drmTrainingDone (fails : List TrainFail)
  /-- DRM_READ_TIMEOUT (R405). -/
  | drmReadTimeout (addr : Nat) (again : Bool)
  /-- REFRESH (R408). -/
  | refresh (chan : Fin 4)
  /-- REFRESH_WINDOW_END (R410). -/
  | refreshWindowEnd
  /-- MR4_READ (R408). -/
  | mr4Read (c0 : Fin 8) (c1 : Fin 8) (c2 : Fin 8) (c3 : Fin 8)
  /-- NEIGHBOUR_REFRESH (R410). -/
  | neighbourRefresh (addr : Nat) (acts : Nat)
  /-- MAINTENANCE (R401). -/
  | maintenance (slack : Nat) (waited : Nat) (current : Bool)
  /-- SELF_REFRESH_ENTRY (R407). -/
  | selfRefreshEntry (slack : Nat)
  /-- SELF_REFRESH_EXIT (R407). -/
  | selfRefreshExit (slack : Nat)
  /-- POWER_DOWN_ENTRY (R407). -/
  | powerDownEntry (c : Fin 4)
  /-- FCHG (R411). -/
  | fchg (slack : Nat)
  /-- FCHG_DONE (R412). -/
  | fchgDone
  /-- DRM_FENCE_CLR (R405). -/
  | drmFenceClr (mask : Fin 16)
  /-- DRM_GEOMETRY (R398). -/
  | drmGeometry (inst : Fin 6) (v : Word)
  /-- COMMAND_FRAME (R426). -/
  | commandFrame (f : List Byte) (claims : List (Nat × Nat))
  /-- POLL (R423). -/
  | poll (f : List Byte)
  /-- MGT_FRAME_ERROR (R423). -/
  | mgtFrameError (f : List Byte)
  /-- MGT_HEARTBEAT (R427). -/
  | mgtHeartbeat
  /-- MAIN_UNRESP (R427). -/
  | mainUnresp
  /-- LINE_SILENCE (R427). -/
  | lineSilence
  /-- PWR_REQ (R431). -/
  | pwrReq (on : Bool)
  /-- ISLAND_POWER_ON (R476). -/
  | islandPowerOn
  /-- MAIN_PWR_UP (R431). -/
  | mainPwrUp
  /-- MAIN_PWR_LOSS (R475). -/
  | mainPwrLoss
  /-- RST_N (R476). -/
  | rstN (low : Bool)
  /-- BOOT (R480). -/
  | boot (rows : List BistRow) (readErrA : Bool) (readErrB : Bool) (link : Option (Nat × Nat)) (table : Word)
  /-- WATCHDOG_EXPIRY (R441). -/
  | watchdogExpiry
  /-- BROWN_OUT (R474). -/
  | brownOut (n : Fin 16)
  /-- BROWN_OUT_CLEAR (R474). -/
  | brownOutClear
  /-- SAFE_CLR (R454). -/
  | safeClr
  /-- CONSUME (R457). -/
  | consume
  /-- HANDSHAKE_TIMEOUT (R440). -/
  | handshakeTimeout (stage : Nat) (tag : Nat) (grp : Option (Fin 8)) (again : Bool)
  /-- FLIT_CHECK_FAIL (R20). -/
  | flitCheckFail (g : Fin 8) (t : Nat) (again : Bool)
  /-- NULL_FLIT (R343). -/
  | nullFlit (p : Fin 3) (f : List Byte)
  /-- PPS_WAIT_TIMEOUT (R92). -/
  | ppsWaitTimeout (q : Fin 10) (k : Nat)
  /-- CHAIN_BROADCAST_TIME (R355). -/
  | chainBroadcastTime
  /-- FOREIGN_TIMEOUT (R331). -/
  | foreignTimeout
  /-- LINE_ACTIVE_TIMEOUT (R434). -/
  | lineActiveTimeout
  /-- PCIE_LINK_TRAINING (R63). -/
  | pcieLinkTraining (up : Bool) (speed : Fin 16) (width : Fin 32)
  /-- ISLAND_POWER_LOSS (R478). -/
  | islandPowerLoss
  deriving DecidableEq, Repr

end Sys2Proof
end

