-- ==== Sys2Proof/Config.lean ====
section
/-!
DEFINITION. What the manual leaves open as a value, each as a constant without a body: no proof can see
what it is, so a claim holds whatever it is.
-/
namespace Sys2Proof

/-- What a byte of external memory reads as while nothing has written it (R159: undefined content). -/
opaque Config.extByte : Nat → Byte

/-- The 8-bit syndrome of an erroneous on-chip word, by its place (R393: the code's matrix is not given). -/
opaque Config.syndrome : Nat → Nat

/-- The steering that the servo of a reference reaches, by the draw and the correction it was given (R86: the law is not
stated). -/
opaque Config.steering : Nat → Int → Int

/-- Whether an LVCMOS format matches the measured VDD_IO of the CKOUT bank (R133: the supply is outside the device). -/
opaque Config.vioMatches : Nat → Bool

/-- A device time in grains that a reply carries and the manual does not give, by draw (R189, R193: a stop of a group that presents
nothing, a release while the group is stopped). -/
opaque Config.openTime : Nat → Nat

/-- The tolerance that a playback or pattern port of external memory reports, by port and time (R406, R416: how far the gambit
fills its regions is not stated). -/
opaque Config.portTolerance : Nat → Nat → Nat

/-- The 16-bit check code of a frame's flit, by its words (R19: the code is not given). -/
opaque Config.frameCheck : List Nat → Nat

/-- How many samples the core has computed ahead of the edge, by group and sample (R22: only its bounds are given). -/
opaque Config.coreLead : Nat → Nat → Nat

/-- Which of two requests at one instant is granted first, by draw (R13: the order is not specified). -/
opaque Config.grantFirst : Nat → Bool

/-- The configuration epoch: a 64-bit digest of what affects output, whose function is not given: of configuration registers,
tables and segment descriptors, each by place and value. -/
opaque Config.epoch : List (Nat × Nat) → List (Nat × List Word) → List (Nat × List Word) → W64

/-- Whether the SHA-256 of a public key equals the key hash held in the fuses (R479: the fuses' content is not given). -/
opaque Config.keyOk : List Byte → Bool

/-- Whether a signature verifies, under ECDSA P-256, over a header and a body (R479: an outside standard): header, key, signature, body. -/
opaque Config.sigOk : List Byte → List Byte → List Byte → List Byte → Bool

/-- The image that a slot of the firmware store was made with (R480). -/
opaque Config.factorySlot : Nat → List Byte

/-- The factory record of band tables (R480, step 6): synthesiser, band, range word and trim word (0, 1). -/
opaque Config.factoryBand : Nat → Nat → Nat → Word

/-- The cause that SYS_LAST_IGN records for a SAFE_CLR that leaves a cause present, where R454 names none, by draw. -/
opaque Config.safeClrCause : Nat → Nat

/-- The fused silicon revision in SYS_ID (R82: its value is not given). -/
opaque Config.siliconRev : Nat

/-- The fused grade in SYS_ID (R82). -/
opaque Config.grade : Nat

end Sys2Proof
end

