-- ==== Sys2Proof/Machine/Numeric.lean ====
section
/-!
DEFINITION. The arithmetic that the manual defines to the bit: CRC-32C (R31), the sine table (R216),
the Lagrange taps (R231), the resampler table (R234), the trigonometry of the follow loop (R115), and
square roots and roundings.
-/
namespace Sys2Proof.Machine

/-! ### CRC-32C (R31) -/

/-- One bit of the reflected Castagnoli polynomial. -/
def crcBit (c : BitVec 32) : BitVec 32 := if c.getLsbD 0 then (c >>> 1) ^^^ 0x82F63B78#32 else c >>> 1

/-- One byte into the CRC register. -/
def crcByte (c : BitVec 32) (b : Byte) : BitVec 32 :=
  crcBit (crcBit (crcBit (crcBit (crcBit (crcBit (crcBit (crcBit (c ^^^ b.setWidth 32))))))))

/-- The CRC register over bytes, from a register value. -/
def crcFold (c : BitVec 32) (l : List Byte) : BitVec 32 := l.foldl crcByte c

/-- CRC-32C of a list of bytes (R31). -/
def crc32c (l : List Byte) : Word := crcFold 0xFFFFFFFF#32 l ^^^ 0xFFFFFFFF#32

/-! ### Roundings -/

/-- Floor of a quotient. -/
def fdiv (n : Int) (d : Nat) : Int := Int.fdiv n d

/-- Nearest integer of a quotient, ties towards plus infinity. -/
def roundUp (n : Int) (d : Nat) : Int := Int.fdiv (2 * n + d) (2 * d)

/-- Nearest integer of a quotient, ties away from zero. -/
def roundAway (n : Int) (d : Nat) : Int :=
  if n < 0 then - Int.fdiv (2 * (-n) + d) (2 * d) else Int.fdiv (2 * n + d) (2 * d)

/-! ### Sine (R216) -/

/-- The scale of the fixed-point trigonometry: 2^128. -/
def fx : Nat := 2 ^ 128

/-- Floor of π × 2^128. -/
def piFx : Nat := 1069028584064966747859680373161870783300

/-- Terms of the sine series from the term of power `2 i - 1`. `x2` is the squared argument. -/
def sinTerms : Nat → Nat → Int → Nat → Int
  | 0, _, _, _ => 0
  | n + 1, i, term, x2 =>
    term + sinTerms n (i + 1) (-(term * x2 / (fx * ((2 * i) * (2 * i + 1)) : Nat))) x2

/-- sin of a fixed-point argument from 0 to π/2. -/
def sinFx (x : Nat) : Int := sinTerms 26 1 x (x * x / fx)

/-- sin(2π r / 2^64) as a fixed-point number. -/
def sinTurn (r : Nat) : Int :=
  let q := r / 2 ^ 62 % 4
  let x := r % 2 ^ 62 * piFx / 2 ^ 63
  let y := piFx / 2 - x
  if q = 0 then sinFx x else if q = 1 then sinFx y else if q = 2 then - sinFx x else - sinFx y

/-- cos(2π r / 2^64) as a fixed-point number. -/
def cosTurn (r : Nat) : Int := sinTurn ((r + 2 ^ 62) % 2 ^ 64)

/-- Entry k of the sine table (R216): signed 24-bit, the exact value rounded. -/
def sineEntry (k : Nat) : Int := roundAway ((2 ^ 23 - 1) * sinTurn (k % 16384 * 2 ^ 50)) fx

/-- The sine of a partial angle: forward-difference interpolation of the table (R216). -/
def sineOf (q : W64) : Int :=
  let k := q.toNat / 2 ^ 50
  let u : Int := (q.toNat / 2 ^ 26 % 2 ^ 24 : Nat)
  let y0 := sineEntry k
  let y1 := sineEntry (k + 1)
  let y2 := sineEntry (k + 2)
  let d1 := y1 - y0
  let d2 := y2 - 2 * y1 + y0
  clampI (-(2 ^ 23 - 1)) (2 ^ 23 - 1)
    (y0 + fdiv (d1 * u * 2 ^ 25 + d2 * u * (u - 2 ^ 24) + 2 ^ 48) (2 ^ 49))

/-- The 49,152 bytes of the sine table: three bytes an entry, least significant first (R222). -/
def sineBytes (n : Nat) : List Byte :=
  (List.range n).flatMap fun k => leBytes 3 ((sineEntry k) % 2 ^ 24).toNat

/-! ### Lagrange taps (R231) -/

/-- The nodes −3 to 4. -/
def nodes : List Int := [-3, -2, -1, 0, 1, 2, 3, 4]

/-- 2^24 times the Lagrange basis of node `j` at `u / 2^24`, rounded, ties away from zero. -/
def lagrangeTap (u : Nat) (j : Int) : Int :=
  let num := nodes.foldl (fun p m => if m = j then p else p * ((u : Int) - m * 2 ^ 24)) 1
  let den := nodes.foldl (fun p m => if m = j then p else p * ((j - m) * 2 ^ 24)) 1
  if den < 0 then roundAway (-(num * 2 ^ 24)) (-den).toNat else roundAway (num * 2 ^ 24) den.toNat

/-- The eight taps, the centre tap set so that they sum to 2^24. -/
def lagrangeTaps (u : Nat) : List Int :=
  let js : Int := if u < 2 ^ 23 then 0 else 1
  let cs := nodes.map (lagrangeTap u)
  let others := (nodes.zip cs).foldl (fun a p => if p.1 = js then a else a + p.2) 0
  (nodes.zip cs).map fun p => if p.1 = js then 2 ^ 24 - others else p.2

/-- A value limited to 32 bits signed. -/
def clamp32 (y : Int) : Int := clampI (-(2 ^ 31)) (2 ^ 31 - 1) y

/-- Angle interpolation of a turn of 2^k points (R231); `x` gives the point at an index. -/
def angleInterp (k : Nat) (a : W64) (x : Int → Int) : Int :=
  let i := a.toNat / 2 ^ (64 - k)
  let u := a.toNat % 2 ^ (64 - k) / 2 ^ (40 - k)
  let sum := (nodes.zip (lagrangeTaps u)).foldl (fun acc p => acc + p.2 * x ((i : Int) + p.1)) 0
  clamp32 (fdiv (sum + 2 ^ 23) (2 ^ 24))

/-! ### Resampler (R234) -/

/-- Terms of the series of I0: the sum over k of z^k / (k!)^2, from the term `t` of index `i`. -/
def i0Terms : Nat → Nat → Nat → Nat → Nat
  | 0, _, _, _ => 0
  | n + 1, i, t, z => t + i0Terms n (i + 1) (t * z / (fx * (i * i))) z

/-- I0(12.3 sqrt(1 − (t/24)²)) for t = T / 1024, as a fixed-point number. -/
def i0At (T : Int) : Nat :=
  let d := (24 * 1024) ^ 2
  let z := 15129 * (d - (T * T).toNat) * fx / (400 * d)
  i0Terms 60 1 fx z

/-- 2^20 h(t) for t = T / 1024, rounded, ties away from zero. -/
def hTap (T : Int) : Int :=
  if T = 0 then 2 ^ 20
  else if (24 * 1024 : Int) ≤ T ∨ T ≤ -(24 * 1024) ∨ T % 1024 = 0 then 0
  else
    let m := T.natAbs
    -- sin(π m / 1024): m / 2048 of a turn
    let s := sinTurn (m % 2048 * 2 ^ 53)
    let num := s * (i0At T : Int) * 1024 * 2 ^ 20
    let den := piFx * m * i0At 0
    roundAway (num * fx) (den * fx)

/-- The taps −23 to 24. -/
def taps48 : List Int := (List.range 48).map fun i => Int.ofNat i - 23

/-- Row f of the table hq, its centre tap set so that the row sums to 2^20. -/
def hqRow (f : Nat) : List Int :=
  let jc : Int := if f < 512 then 0 else 1
  let cs := taps48.map fun j => hTap (1024 * j - f)
  let others := (taps48.zip cs).foldl (fun a p => if p.1 = jc then a else a + p.2) 0
  (taps48.zip cs).map fun p => if p.1 = jc then 2 ^ 20 - others else p.2

/-- Row f for f up to 1024: row 1024 is row 0 shifted by one tap. -/
def hqRow' (f : Nat) : List Int := if f < 1024 then hqRow f else 0 :: (hqRow 0).take 47

/-- The resampler at position `i`, with the 10-bit and 12-bit parts of the fraction (R234). -/
def resample (i : Nat) (phi nu : Nat) (x : Int → Int) : Int :=
  let r0 := hqRow' phi
  let r1 := hqRow' (phi + 1)
  let cs := (r0.zip r1).map fun p => p.1 + fdiv ((p.2 - p.1) * nu + 2 ^ 11) (2 ^ 12)
  let sum := (taps48.zip cs).foldl (fun acc p => acc + p.2 * x ((i : Int) + p.1)) 0
  clamp32 (fdiv (sum + 2 ^ 19) (2 ^ 20))

/-! ### The follow loop (R115) -/

/-- Square root rounded down, by bits from bit `n`. -/
def sqrtBits : Nat → Nat → Nat → Nat
  | 0, _, r => r
  | n + 1, v, r => let r' := r + 2 ^ n; if r' * r' ≤ v then sqrtBits n v r' else sqrtBits n v r

/-- Square root of a fixed-point number up to 4. -/
def sqrtFx (v : Nat) : Nat := sqrtBits 131 (v * fx) 0

/-- Terms of the arctangent series. -/
def atanTerms : Nat → Nat → Int → Nat → Int
  | 0, _, _, _ => 0
  | n + 1, i, p, z2 => p / (2 * i + 1 : Nat) + atanTerms n (i + 1) (-(p * z2 / fx)) z2

/-- Half of the angle whose tangent is `z`: its tangent. -/
def halfTan (z : Nat) : Nat := z * fx / (fx + sqrtFx (fx + z * z / fx))

/-- Arctangent of a fixed-point number from 0 to 1, in radians. -/
def atanFx (z : Nat) : Int :=
  let w := halfTan (halfTan (halfTan z))
  8 * atanTerms 30 0 w (w * w / fx)

/-- atan2(y, x) / 2π in units of 2^−32 turn, rounded to nearest, from −2^31 to 2^31. -/
def atan2Turn32 (y x : Int) : Int :=
  let ay := y.natAbs
  let ax := x.natAbs
  if ay = 0 ∧ ax = 0 then 0
  else
    let first : Int := if ay ≤ ax then atanFx (ay * fx / ax) else (piFx : Int) / 2 - atanFx (ax * fx / ay)
    let upper : Int := if x < 0 then piFx - first else first
    let ang := if y < 0 then -upper else upper
    roundUp (ang * 2 ^ 31) piFx

end Sys2Proof.Machine
end

