-- ==== Sys2Proof/Machine/KMap.lean ====
section
/-!
DEFINITION. Sparse data by number, as a list of pairs with strictly rising keys: registers, memory
bytes, table entries and the instances of a block. `insert` and `erase` keep the order; `put` keeps in
addition that no entry equals what an unlisted key reads as.
-/
namespace Sys2Proof.Machine

/-- Pairs of a key and a value, keys strictly rising. -/
abbrev KMap (α : Type) := List (Nat × α)

variable {α : Type}

/-- The value listed under a key. -/
def KMap.find? : KMap α → Nat → Option α
  | [], _ => none
  | (a, b) :: t, k => if a = k then some b else KMap.find? t k

/-- What a key reads as, `d` where nothing is listed. -/
def KMap.getD (m : KMap α) (k : Nat) (d : α) : α := (KMap.find? m k).getD d

/-- List a value under a key, in place. -/
def KMap.insert : KMap α → Nat → α → KMap α
  | [], k, v => [(k, v)]
  | (a, b) :: t, k, v =>
    if k < a then (k, v) :: (a, b) :: t
    else if k = a then (k, v) :: t
    else (a, b) :: KMap.insert t k v

/-- Unlist a key. -/
def KMap.erase : KMap α → Nat → KMap α
  | [], _ => []
  | (a, b) :: t, k => if a = k then KMap.erase t k else (a, b) :: KMap.erase t k

/-- Write a value under a key whose unlisted reading is `d`: the canonical form lists no such value. -/
def KMap.put [DecidableEq α] (m : KMap α) (k : Nat) (v d : α) : KMap α :=
  if v = d then KMap.erase m k else KMap.insert m k v

/-- Every key is above `k`. -/
def KMap.above (k : Nat) (m : KMap α) : Bool := m.all fun p => decide (k < p.1)

/-- The keys rise strictly. -/
def KMap.wf : KMap α → Bool
  | [] => true
  | (a, _) :: t => KMap.above a t && KMap.wf t

/-- The canonical form over an unlisted reading `d` that may depend on the key. -/
def KMap.canon [DecidableEq α] (d : Nat → α) (m : KMap α) : Bool :=
  KMap.wf m && m.all fun p => decide (p.2 ≠ d p.1)

/-- Change the value under a key by `f`. -/
def KMap.modify (m : KMap α) (k : Nat) (d : α) (f : α → α) : KMap α :=
  KMap.insert m k (f (KMap.getD m k d))

end Sys2Proof.Machine
end

