-- ==== Sys2Proof/Machine/RegTable.lean ====
section
/-!
DEFINITION. The register map of BAR0 as the register tables of the manual give it: one name per table row,
its offset, instances, access code, reset value, writable bits, class, governing running bit and lock (R5, R6,
R66 to R83 and the tables of each block).
-/
namespace Sys2Proof.Machine

/-- The registers of BAR0, one constructor per row of a register table. -/
inductive RegId where
  | HST_LINK
  | HST_INFLIGHT
  | HST_CNT_FLR
  | HST_CNT_DOWNTRAIN
  | SYS_ID
  | SYS_FWVER
  | SYS_ADDR
  | SYS_EPOCH_LO
  | SYS_EPOCH_HI
  | SYS_EN
  | SYS_EN_STATUS
  | SYS_LOCK
  | SYS_SLACK
  | SYS_SLACK_THR
  | SYS_CNT_SLACK_LOW
  | SYS_SLACK_MIN
  | SYS_CNT_IGNORED
  | SYS_LAST_IGN
  | SYS_CNT_RESET
  | SYS_SCRATCH
  | TB_CTL
  | TB_STATUS
  | TB_NOW_LO
  | TB_NOW_HI
  | TB_NOW_XHI
  | TB_UTC_OFS
  | TB_STEER
  | TB_PPSIN_LO
  | TB_PPSIN_HI
  | TB_CNT_REFLOSS
  | TB_CNT_LOL
  | TB_CNT_STEP
  | TB_CNT_IGNORED
  | Gn_ANGLE_LO
  | Gn_ANGLE_HI
  | Gn_FREQ_LO
  | Gn_FREQ_HI
  | Gn_ROC_LO
  | Gn_ROC_HI
  | Gn_FMIN_LO
  | Gn_FMIN_HI
  | Gn_FMAX_LO
  | Gn_FMAX_HI
  | Gn_ASTEP_LO
  | Gn_ASTEP_HI
  | Gn_PHASE0_LO
  | Gn_PHASE0_HI
  | Gn_FNOW_LO
  | Gn_FNOW_HI
  | Gn_TURN_LO
  | Gn_TURN_HI
  | Gn_BIND
  | Gn_FOL_CTL
  | Gn_FOL_KP
  | Gn_FOL_KI
  | Gn_FOL_NOM_LO
  | Gn_FOL_NOM_HI
  | Gn_FOL_PHASE
  | Gn_FOL_AMIN
  | Gn_FOL_ERR
  | Gn_ANG_STATUS
  | Gn_CNT_LIMIT
  | Gn_CNT_HOLDOVER
  | Gn_CNT_RESYNC
  | Gn_CNT_FOL_LOSS
  | Gn_CNT_STAGE_REJ
  | PLLx_CTL
  | PLLx_STATUS
  | PLLx_APPLY
  | PLLx_INT
  | PLLx_FRAC
  | PLLx_POST
  | PLLx_MOD
  | PLLx_FCOUNT
  | PLLx_CNT_LOL
  | PLLx_CNT_APPLY_REJ
  | PLLx_CNT_IGNORED
  | PLLx_BAND_RANGE_k
  | PLLx_BAND_TRIM_k
  | PLLA_CTL
  | PLLA_STATUS
  | PLLA_FRAC
  | PLLA_CNT_IGNORED
  | CKOUT_CTLn
  | CKOUT_STATUS
  | Gn_CTL
  | Gn_STATUS
  | Gn_FALLBACK
  | Gn_STAGE_CTL
  | Gn_ENTRY
  | Gn_SAMPLE_LO
  | Gn_SAMPLE_HI
  | Gn_LASTSW_LO
  | Gn_LASTSW_HI
  | Gn_LASTSW_XHI
  | Gn_LASTSW_INFO
  | Gn_GAMBIT
  | Gn_TBL_ADDR
  | Gn_TBL_DATA
  | Gn_CNT_SWITCH
  | Gn_CNT_LATE
  | Gn_CNT_UNHELD
  | Gn_CNT_STAGE_OVF
  | Gn_CNT_FORCE_REJ
  | Gn_CNT_UNDERRUN
  | Gn_CNT_IGNORED
  | EVT_CTL
  | EVT_STATUS
  | EVT_SOFT
  | EVT_LOG_WR
  | EVT_LOG_RD
  | EVT_TM_STATUS
  | EVT_CNT_EVENTS
  | EVT_CNT_COINCIDENT
  | EVT_CNT_LOST
  | EVT_CNT_CHAIN_LATE
  | EVT_CNT_TM_PAST
  | EVT_CNT_IGNORED
  | EVT_TM_CTL_k
  | EVT_TM_LO_k
  | EVT_TM_HI_k
  | EVT_TM_XHI_k
  | EVT_CHTX_n
  | EVT_COND_g_i
  | HRM_STATUS
  | HRM_TBL_CRC
  | HRM_PEEK_SEL
  | HRM_PEEK_AMP_LO
  | HRM_PEEK_AMP_HI
  | HRM_PEEK_ANG_LO
  | HRM_PEEK_ANG_HI
  | HRM_CNT_AMP_CLAMP
  | HRM_CNT_SINE_ERR
  | HRM_CNT_IGNORED
  | HRM_RATIO_c_p
  | HRM_PHASE_c_p
  | HRM_AMP_c_p
  | HRM_SLOPE_c_p
  | OUT_STATUS
  | OUT_CTL
  | OUT_DAC_SOURCED
  | OUT_DAC_RAMP
  | OUT_CNT_ROUTE_REJ
  | OUT_CNT_IGNORED
  | OUT_DAC_SRC_d
  | OUT_SV_SRC_s_q
  | OUT_SV_SCALE_s_q
  | CHn_CTL
  | CHn_STATUS
  | CHn_GAIN
  | CHn_OFFSET
  | CHn_CLIP_HI
  | CHn_CLIP_LO
  | CHn_VALUE
  | CHn_CNT_CLIP
  | CHn_CNT_IGNORED
  | CHn_CNT_CW_PASS
  | CHn_CNT_CW_FAIL
  | CHn_CW_STATUS_k
  | CHn_CW_START_LO_k
  | CHn_CW_START_HI_k
  | CHn_CW_START_XHI_k
  | CHn_CW_COUNT_k
  | CHn_CW_EXPECT_k
  | CHn_CW_CRC_k
  | CHn_CW_DONE_k
  | DAC_CTL
  | DAC_STATUS
  | DAC_X2_PERMIT
  | DAC_UNDERRUN
  | DAC_SHORT
  | DAC_FENCED
  | DAC_MIDSCALE
  | DAC_FENCE_CLR
  | DAC_CNT_IGNORED
  | DAC_CFG_d
  | DAC_CODE_d
  | DAC_CNT_UNDERRUN_d
  | DAC_CNT_STALE_d
  | DAC_CNT_SHORT_d
  | DAC_CNT_FENCE_d
  | PAT_CTL
  | PAT_MK_LEVEL
  | PAT_RUN_LO
  | PAT_RUN_HI
  | PAT_LEVEL_LO
  | PAT_LEVEL_HI
  | PAT_SHORT_LO
  | PAT_SHORT_HI
  | PAT_FENCED_LO
  | PAT_FENCED_HI
  | PAT_FENCE_CLR_LO
  | PAT_FENCE_CLR_HI
  | PAT_OVR_LO
  | PAT_OVR_HI
  | PAT_OVR_CLR_LO
  | PAT_OVR_CLR_HI
  | PAT_STATIC_LO
  | PAT_STATIC_HI
  | PAT_DRIVE_LO
  | PAT_DRIVE_HI
  | PAT_PAIR_ERR
  | PAT_CNT_IGNORED
  | PAT_LANE_n
  | PAT_EVT_n
  | PAT_CNT_MISM_n
  | PAT_CNT_FENCE_n
  | PAT_MK_m
  | BIN_STATE
  | BIN_RAW
  | BIN_VALID
  | BIN_CNT_IGNORED
  | BIN_CFG_n
  | BIN_TIME_LO_n
  | BIN_TIME_HI_n
  | BIN_CNT_EDGE_n
  | BIN_CNT_BOUNCE_n
  | ADC_CAP_CTL
  | ADC_CAP_BASE_LO
  | ADC_CAP_BASE_HI
  | ADC_CAP_WR
  | ADC_CAP_RD
  | ADC_CAP_CNT_LOST
  | ADC_CAP_CNT_IGNORED
  | ADCn_CTL
  | ADCn_STATUS
  | ADCn_CMD
  | ADCn_TRIG
  | ADCn_TRIG_DELAY
  | ADCn_TPARAM
  | ADCn_SEQ
  | ADCn_OW_CTL
  | ADCn_OW_IVAL
  | ADCn_OW_THR
  | ADCn_CAL_OFS
  | ADCn_CAL_GAIN
  | ADCn_WSTATE
  | ADCn_CNT_TRIG_MISS
  | ADCn_CNT_TRIG_LATE
  | ADCn_CNT_ABORT
  | ADCn_CNT_URG_DROP
  | ADCn_CNT_WIN
  | ADCn_CNT_OW_FIND
  | ADCn_CNT_OW
  | ADCn_CNT_CAL_RETRY
  | ADCn_CNT_APPLY_REJ
  | ADCn_CNT_IGNORED
  | ADCn_ENTRY_e
  | ADCn_WLO_e
  | ADCn_WHI_e
  | ADCn_WHYST_e
  | ADCn_RES_e
  | ADCn_TS_e
  | NET_STATUS
  | NET_CNT_IGNORED
  | NET_Pp_CTL
  | NET_Pp_STATUS
  | NET_Pp_MAC_LO
  | NET_Pp_MAC_HI
  | NET_Pp_CNT_RX
  | NET_Pp_CNT_RX_ERR
  | NET_Pp_CNT_RX_DROP
  | NET_Pp_CNT_TX
  | NET_Pp_CNT_LINKDOWN
  | NET_PTP_STATUS
  | NET_PTP_OFFSET
  | NET_PTP_MPD
  | NET_PTP_GMID_LO
  | NET_PTP_GMID_HI
  | NET_PTP_CNT_SYNC
  | NET_PTP_CNT_LOCKLOSS
  | NET_PTP_CNT_FOREIGN
  | NET_PTP_CNT_PDELAY_TO
  | NET_SV_STATUS_s
  | NET_SV_CNT_FRAMES_s
  | NET_SV_CNT_DROP_s
  | NET_SV_CNT_UNDERRUN_s
  | NET_GS_STATUS_d
  | NET_GS_STNUM_d
  | NET_GS_SQNUM_d
  | NET_GS_CNT_ACCEPT_d
  | NET_GS_CNT_REJECT_d
  | NET_GS_CNT_GAP_d
  | NET_GS_CNT_INCONS_d
  | NET_GS_CNT_EXPIRE_d
  | CHN_CTL
  | CHN_STATUS
  | CHN_TOL
  | CHN_TERR
  | CHN_BSEQ
  | CHN_CENSUS_GEN
  | CHN_CENSUS_EPOCH_LO
  | CHN_CENSUS_EPOCH_HI
  | CHN_SUBTREE
  | CHN_ENUM_GEN
  | CHN_CNT_EXCL
  | CHN_CNT_EXCL_RX
  | CHN_CNT_JOIN
  | CHN_CNT_LEAVE
  | CHN_CNT_SUPPR
  | CHN_CNT_IGNORED
  | CHN_Pp_CTL
  | CHN_Pp_STATUS
  | CHN_Pp_DELAY
  | CHN_Pp_ASYM
  | CHN_Pp_PARTNER
  | CHN_Pp_CNT_CRC
  | CHN_Pp_CNT_REPLAY
  | CHN_Pp_CNT_RETRAIN
  | CHN_Pp_CNT_DOWN
  | CHN_Pp_CNT_DLY_REJ
  | MEM_CTL
  | MEM_STATUS
  | MEM_CASTLE
  | MEM_CASTLE_RES
  | MEM_PWR_PERMIT
  | MEM_SCRUB_PERIOD
  | MEM_ERR_ADDR
  | MEM_ERR_INFO
  | MEM_CNT_CASTLE_REJ
  | MEM_CNT_PWR_REJ
  | MEM_CNT_FOREIGN
  | MEM_CNT_IGNORED
  | MEM_SETn_OWN
  | MEM_SETn_PWR
  | MEM_SETn_STATUS
  | MEM_SETn_CNT_CE
  | MEM_SETn_CNT_UE
  | MEM_SETn_CNT_STALL
  | MEM_SETn_CNT_REPAIR
  | MEM_GWIN_g
  | DRM_CTL
  | DRM_STATUS
  | DRM_CMD
  | DRM_FCHG_RES
  | DRM_GEOM
  | DRM_HASH_CH0
  | DRM_HASH_CH1
  | DRM_HASH_B0
  | DRM_HASH_B1
  | DRM_HASH_B2
  | DRM_SR_THR
  | DRM_RAC_THR
  | DRM_SLACK
  | DRM_MR4
  | DRM_CAPACITY
  | DRM_CNT_SR
  | DRM_CNT_FCHG
  | DRM_CNT_FCHG_REJ
  | DRM_CNT_NREF
  | DRM_CNT_RD_RETRY
  | DRM_CNT_RD_FAIL
  | DRM_CNT_TRAIN_RETRY
  | DRM_CNT_OVERTEMP
  | DRM_CNT_MAINT_LATE
  | DRM_CNT_MAP_FULL
  | DRM_CNT_IGNORED
  | DRM_PORTp_CTL
  | DRM_PORTp_TOL
  | DRM_PORTp_CNT_URG3
  | DRM_PORTp_CNT_MISS
  | DRM_TSt_CTL
  | DRM_TSt_TIM0
  | DRM_TSt_TIM1
  | DRM_TSt_TIM2
  | DRM_ALLOC_LO_k
  | DRM_ALLOC_HI_k
  | MGT_CTL
  | MGT_STATUS
  | MGT_HEARTBEAT
  | MGT_INT
  | MGT_LINE_TO
  | MGT_CRASH_SEQ
  | MGT_CNT_FRAME_RX
  | MGT_CNT_FRAME_ERR
  | MGT_CNT_UNRESP
  | MGT_CNT_PREEMPT
  | MGT_CNT_IGNORED
  | MGT_CRASH_i
  | ERR_CTL
  | ERR_STATUS
  | ERR_SAFE_CAUSE
  | ERR_CMD
  | ERR_GFENCED
  | ERR_LOG_WR
  | ERR_LOG_RD
  | ERR_LOG_IDX
  | ERR_LOG_REC_i
  | ERR_CNT_TRANSIENT
  | ERR_CNT_LASTING
  | ERR_CNT_SAFE
  | ERR_CNT_WDOG
  | ERR_CNT_HSK_TO
  | ERR_CNT_UNDERRUN
  | ERR_CNT_LOST
  | ERR_CNT_IGNORED
  | SYS_BOOT
  | SYS_PWR
  | SYS_CNT_BROWNOUT
  | ADC_TRIG_ALL
  | Gn_CLK
  deriving DecidableEq, Repr

/-- Access codes (R5). -/
inductive Acc where
  | rw | ro | wo | rs | lk
  deriving DecidableEq, Repr

/-- How a writable register takes a write (R70): at once, into the stage of a group, or into a shadow. -/
inductive RClass where
  | op | cfg | staged | dbuf
  deriving DecidableEq, Repr

/-- The running bit that governs the configuration bits of a register (R72, R73). -/
inductive Gov where
  | none
  /-- Bit `b` of SYS_EN_STATUS. -/
  | sys (b : Nat)
  | group | groupBind | chan | pll | ckout | tmArm | pin | marker | bin | adc | adcCap | netPort | chnPort
  deriving DecidableEq, Repr

/-- A row of a register table. `cfg` holds the configuration bits, `lockMask` the bits that bit `lockBit` of SYS_LOCK protects. -/
structure RegRow where
  base : Nat
  n1 : Nat
  s1 : Nat
  n2 : Nat
  s2 : Nat
  acc : Acc
  reset : Nat
  mask : Nat
  cls : RClass
  gov : Gov
  cfg : Nat
  lockBit : Nat
  lockMask : Nat
  deriving DecidableEq, Repr

/-- The table row of each register. -/
def RegId.row : RegId → RegRow
  | .HST_LINK => ⟨0xF8000, 1, 0x0, 1, 0x0, .ro, 0x0, 0x0, .op, .none, 0x0, 0, 0x0⟩
  | .HST_INFLIGHT => ⟨0xF8004, 1, 0x0, 1, 0x0, .ro, 0x0, 0x0, .op, .none, 0x0, 0, 0x0⟩
  | .HST_CNT_FLR => ⟨0xF8008, 1, 0x0, 1, 0x0, .rs, 0x0, 0x0, .op, .none, 0x0, 0, 0x0⟩
  | .HST_CNT_DOWNTRAIN => ⟨0xF800C, 1, 0x0, 1, 0x0, .rs, 0x0, 0x0, .op, .none, 0x0, 0, 0x0⟩
  | .SYS_ID => ⟨0x0, 1, 0x0, 1, 0x0, .ro, 0x0, 0x0, .op, .none, 0x0, 0, 0x0⟩
  | .SYS_FWVER => ⟨0x4, 1, 0x0, 1, 0x0, .ro, 0x0, 0x0, .op, .none, 0x0, 0, 0x0⟩
  | .SYS_ADDR => ⟨0x8, 1, 0x0, 1, 0x0, .ro, 0x0, 0x0, .op, .none, 0x0, 0, 0x0⟩
  | .SYS_EPOCH_LO => ⟨0x10, 1, 0x0, 1, 0x0, .ro, 0x0, 0x0, .op, .none, 0x0, 0, 0x0⟩
  | .SYS_EPOCH_HI => ⟨0x14, 1, 0x0, 1, 0x0, .ro, 0x0, 0x0, .op, .none, 0x0, 0, 0x0⟩
  | .SYS_EN => ⟨0x20, 1, 0x0, 1, 0x0, .rw, 0x0, 0x3FFF, .op, .none, 0x0, 0, 0x0⟩
  | .SYS_EN_STATUS => ⟨0x24, 1, 0x0, 1, 0x0, .ro, 0x0, 0x0, .op, .none, 0x0, 0, 0x0⟩
  | .SYS_LOCK => ⟨0x28, 1, 0x0, 1, 0x0, .lk, 0x0, 0xFF, .op, .none, 0x0, 0, 0x0⟩
  | .SYS_SLACK => ⟨0x30, 1, 0x0, 1, 0x0, .ro, 0x0, 0x0, .op, .none, 0x0, 0, 0x0⟩
  | .SYS_SLACK_THR => ⟨0x34, 1, 0x0, 1, 0x0, .rw, 0x10D, 0xFFFF, .op, .none, 0x0, 0, 0x0⟩
  | .SYS_CNT_SLACK_LOW => ⟨0x38, 1, 0x0, 1, 0x0, .rs, 0x0, 0x0, .op, .none, 0x0, 0, 0x0⟩
  | .SYS_SLACK_MIN => ⟨0x3C, 1, 0x0, 1, 0x0, .ro, 0xFFFF, 0x0, .op, .none, 0x0, 0, 0x0⟩
  | .SYS_CNT_IGNORED => ⟨0x40, 1, 0x0, 1, 0x0, .rs, 0x0, 0x0, .op, .none, 0x0, 0, 0x0⟩
  | .SYS_LAST_IGN => ⟨0x44, 1, 0x0, 1, 0x0, .ro, 0x0, 0x0, .op, .none, 0x0, 0, 0x0⟩
  | .SYS_CNT_RESET => ⟨0x50, 1, 0x0, 1, 0x0, .wo, 0x0, 0x0, .op, .none, 0x0, 0, 0x0⟩
  | .SYS_SCRATCH => ⟨0x60, 1, 0x0, 1, 0x0, .rw, 0x0, 0xFFFFFFFF, .op, .none, 0x0, 0, 0x0⟩
  | .TB_CTL => ⟨0x10000, 1, 0x0, 1, 0x0, .rw, 0x64000, 0xFF4337, .cfg, .sys 0, 0xFF4337, 0, 0x37⟩
  | .TB_STATUS => ⟨0x10004, 1, 0x0, 1, 0x0, .ro, 0x0, 0x0, .op, .none, 0x0, 0, 0x0⟩
  | .TB_NOW_LO => ⟨0x10008, 1, 0x0, 1, 0x0, .ro, 0x0, 0x0, .op, .none, 0x0, 0, 0x0⟩
  | .TB_NOW_HI => ⟨0x1000C, 1, 0x0, 1, 0x0, .ro, 0x0, 0x0, .op, .none, 0x0, 0, 0x0⟩
  | .TB_NOW_XHI => ⟨0x10010, 1, 0x0, 1, 0x0, .ro, 0x0, 0x0, .op, .none, 0x0, 0, 0x0⟩
  | .TB_UTC_OFS => ⟨0x10014, 1, 0x0, 1, 0x0, .rw, 0x0, 0x1FFFF, .cfg, .sys 0, 0x1FFFF, 0, 0x0⟩
  | .TB_STEER => ⟨0x10018, 1, 0x0, 1, 0x0, .ro, 0x0, 0x0, .op, .none, 0x0, 0, 0x0⟩
  | .TB_PPSIN_LO => ⟨0x10020, 1, 0x0, 1, 0x0, .ro, 0x0, 0x0, .op, .none, 0x0, 0, 0x0⟩
  | .TB_PPSIN_HI => ⟨0x10024, 1, 0x0, 1, 0x0, .ro, 0x0, 0x0, .op, .none, 0x0, 0, 0x0⟩
  | .TB_CNT_REFLOSS => ⟨0x10040, 1, 0x0, 1, 0x0, .rs, 0x0, 0x0, .op, .none, 0x0, 0, 0x0⟩
  | .TB_CNT_LOL => ⟨0x10044, 1, 0x0, 1, 0x0, .rs, 0x0, 0x0, .op, .none, 0x0, 0, 0x0⟩
  | .TB_CNT_STEP => ⟨0x10048, 1, 0x0, 1, 0x0, .rs, 0x0, 0x0, .op, .none, 0x0, 0, 0x0⟩
  | .TB_CNT_IGNORED => ⟨0x1004C, 1, 0x0, 1, 0x0, .rs, 0x0, 0x0, .op, .none, 0x0, 0, 0x0⟩
  | .Gn_ANGLE_LO => ⟨0x40100, 8, 0x4000, 1, 0x0, .ro, 0x0, 0x0, .op, .none, 0x0, 0, 0x0⟩
  | .Gn_ANGLE_HI => ⟨0x40104, 8, 0x4000, 1, 0x0, .ro, 0x0, 0x0, .op, .none, 0x0, 0, 0x0⟩
  | .Gn_FREQ_LO => ⟨0x40108, 8, 0x4000, 1, 0x0, .rw, 0x0, 0xFFFFFFFF, .staged, .group, 0x0, 0, 0x0⟩
  | .Gn_FREQ_HI => ⟨0x4010C, 8, 0x4000, 1, 0x0, .rw, 0x0, 0xFFFFFFFF, .staged, .group, 0x0, 0, 0x0⟩
  | .Gn_ROC_LO => ⟨0x40110, 8, 0x4000, 1, 0x0, .rw, 0x0, 0xFFFFFFFF, .staged, .group, 0x0, 0, 0x0⟩
  | .Gn_ROC_HI => ⟨0x40114, 8, 0x4000, 1, 0x0, .rw, 0x0, 0xFFFFFFFF, .staged, .group, 0x0, 0, 0x0⟩
  | .Gn_FMIN_LO => ⟨0x40118, 8, 0x4000, 1, 0x0, .rw, 0x0, 0xFFFFFFFF, .staged, .group, 0x0, 0, 0x0⟩
  | .Gn_FMIN_HI => ⟨0x4011C, 8, 0x4000, 1, 0x0, .rw, 0xC0000000, 0xFFFFFFFF, .staged, .group, 0x0, 0, 0x0⟩
  | .Gn_FMAX_LO => ⟨0x40120, 8, 0x4000, 1, 0x0, .rw, 0x0, 0xFFFFFFFF, .staged, .group, 0x0, 0, 0x0⟩
  | .Gn_FMAX_HI => ⟨0x40124, 8, 0x4000, 1, 0x0, .rw, 0x40000000, 0xFFFFFFFF, .staged, .group, 0x0, 0, 0x0⟩
  | .Gn_ASTEP_LO => ⟨0x40128, 8, 0x4000, 1, 0x0, .rw, 0x0, 0xFFFFFFFF, .staged, .group, 0x0, 0, 0x0⟩
  | .Gn_ASTEP_HI => ⟨0x4012C, 8, 0x4000, 1, 0x0, .rw, 0x0, 0xFFFFFFFF, .staged, .group, 0x0, 0, 0x0⟩
  | .Gn_PHASE0_LO => ⟨0x40130, 8, 0x4000, 1, 0x0, .rw, 0x0, 0xFFFFFFFF, .cfg, .group, 0xFFFFFFFF, 0, 0x0⟩
  | .Gn_PHASE0_HI => ⟨0x40134, 8, 0x4000, 1, 0x0, .rw, 0x0, 0xFFFFFFFF, .cfg, .group, 0xFFFFFFFF, 0, 0x0⟩
  | .Gn_FNOW_LO => ⟨0x40138, 8, 0x4000, 1, 0x0, .ro, 0x0, 0x0, .op, .none, 0x0, 0, 0x0⟩
  | .Gn_FNOW_HI => ⟨0x4013C, 8, 0x4000, 1, 0x0, .ro, 0x0, 0x0, .op, .none, 0x0, 0, 0x0⟩
  | .Gn_TURN_LO => ⟨0x40140, 8, 0x4000, 1, 0x0, .ro, 0x0, 0x0, .op, .none, 0x0, 0, 0x0⟩
  | .Gn_TURN_HI => ⟨0x40144, 8, 0x4000, 1, 0x0, .ro, 0x0, 0x0, .op, .none, 0x0, 0, 0x0⟩
  | .Gn_BIND => ⟨0x40148, 8, 0x4000, 1, 0x0, .rw, 0x0, 0xFFFF0077, .cfg, .groupBind, 0xFFFF0077, 0, 0x0⟩
  | .Gn_FOL_CTL => ⟨0x4014C, 8, 0x4000, 1, 0x0, .rw, 0x30000, 0xF0FF1, .cfg, .group, 0xF0FF1, 0, 0x0⟩
  | .Gn_FOL_KP => ⟨0x40150, 8, 0x4000, 1, 0x0, .rw, 0x0, 0xFFFFFFFF, .staged, .group, 0x0, 0, 0x0⟩
  | .Gn_FOL_KI => ⟨0x40154, 8, 0x4000, 1, 0x0, .rw, 0x0, 0xFFFFFFFF, .staged, .group, 0x0, 0, 0x0⟩
  | .Gn_FOL_NOM_LO => ⟨0x40158, 8, 0x4000, 1, 0x0, .rw, 0x0, 0xFFFFFFFF, .cfg, .group, 0xFFFFFFFF, 0, 0x0⟩
  | .Gn_FOL_NOM_HI => ⟨0x4015C, 8, 0x4000, 1, 0x0, .rw, 0x0, 0xFFFFFFFF, .cfg, .group, 0xFFFFFFFF, 0, 0x0⟩
  | .Gn_FOL_PHASE => ⟨0x40160, 8, 0x4000, 1, 0x0, .rw, 0x0, 0xFFFFFFFF, .cfg, .group, 0xFFFFFFFF, 0, 0x0⟩
  | .Gn_FOL_AMIN => ⟨0x40164, 8, 0x4000, 1, 0x0, .rw, 0x400, 0x3FFFF, .cfg, .group, 0x3FFFF, 0, 0x0⟩
  | .Gn_FOL_ERR => ⟨0x40168, 8, 0x4000, 1, 0x0, .ro, 0x0, 0x0, .op, .none, 0x0, 0, 0x0⟩
  | .Gn_ANG_STATUS => ⟨0x4016C, 8, 0x4000, 1, 0x0, .ro, 0x0, 0x0, .op, .none, 0x0, 0, 0x0⟩
  | .Gn_CNT_LIMIT => ⟨0x40170, 8, 0x4000, 1, 0x0, .rs, 0x0, 0x0, .op, .none, 0x0, 0, 0x0⟩
  | .Gn_CNT_HOLDOVER => ⟨0x40174, 8, 0x4000, 1, 0x0, .rs, 0x0, 0x0, .op, .none, 0x0, 0, 0x0⟩
  | .Gn_CNT_RESYNC => ⟨0x40178, 8, 0x4000, 1, 0x0, .rs, 0x0, 0x0, .op, .none, 0x0, 0, 0x0⟩
  | .Gn_CNT_FOL_LOSS => ⟨0x4017C, 8, 0x4000, 1, 0x0, .rs, 0x0, 0x0, .op, .none, 0x0, 0, 0x0⟩
  | .Gn_CNT_STAGE_REJ => ⟨0x40180, 8, 0x4000, 1, 0x0, .rs, 0x0, 0x0, .op, .none, 0x0, 0, 0x0⟩
  | .PLLx_CTL => ⟨0x20400, 2, 0x400, 1, 0x0, .rw, 0x440C1, 0xFFF1F3, .cfg, .pll, 0xFFF1F3, 1, 0xFFF1F3⟩
  | .PLLx_STATUS => ⟨0x20404, 2, 0x400, 1, 0x0, .ro, 0x2, 0x0, .op, .none, 0x0, 0, 0x0⟩
  | .PLLx_APPLY => ⟨0x20408, 2, 0x400, 1, 0x0, .wo, 0x0, 0x0, .op, .none, 0x0, 0, 0x0⟩
  | .PLLx_INT => ⟨0x20410, 2, 0x400, 1, 0x0, .rw, 0x3C, 0x7F, .dbuf, .none, 0x0, 0, 0x0⟩
  | .PLLx_FRAC => ⟨0x20414, 2, 0x400, 1, 0x0, .rw, 0x0, 0xFFFFFFFF, .dbuf, .none, 0x0, 0, 0x0⟩
  | .PLLx_POST => ⟨0x20418, 2, 0x400, 1, 0x0, .rw, 0x1E, 0x3F, .dbuf, .none, 0x0, 0, 0x0⟩
  | .PLLx_MOD => ⟨0x2041C, 2, 0x400, 1, 0x0, .rw, 0x0, 0xFFFFFF01, .dbuf, .none, 0x0, 0, 0x0⟩
  | .PLLx_FCOUNT => ⟨0x20430, 2, 0x400, 1, 0x0, .ro, 0x0, 0x0, .op, .none, 0x0, 0, 0x0⟩
  | .PLLx_CNT_LOL => ⟨0x20440, 2, 0x400, 1, 0x0, .rs, 0x0, 0x0, .op, .none, 0x0, 0, 0x0⟩
  | .PLLx_CNT_APPLY_REJ => ⟨0x20444, 2, 0x400, 1, 0x0, .rs, 0x0, 0x0, .op, .none, 0x0, 0, 0x0⟩
  | .PLLx_CNT_IGNORED => ⟨0x20448, 2, 0x400, 1, 0x0, .rs, 0x0, 0x0, .op, .none, 0x0, 0, 0x0⟩
  | .PLLx_BAND_RANGE_k => ⟨0x20600, 2, 0x400, 64, 0x8, .rw, 0x0, 0xFFFFFFFF, .cfg, .pll, 0xFFFFFFFF, 1, 0xFFFFFFFF⟩
  | .PLLx_BAND_TRIM_k => ⟨0x20604, 2, 0x400, 64, 0x8, .rw, 0x0, 0x800000FF, .cfg, .pll, 0x800000FF, 1, 0x800000FF⟩
  | .PLLA_CTL => ⟨0x20000, 1, 0x0, 1, 0x0, .rw, 0x1, 0x3, .cfg, .sys 1, 0x3, 1, 0x3⟩
  | .PLLA_STATUS => ⟨0x20004, 1, 0x0, 1, 0x0, .ro, 0x0, 0x0, .op, .none, 0x0, 0, 0x0⟩
  | .PLLA_FRAC => ⟨0x20008, 1, 0x0, 1, 0x0, .ro, 0x0, 0x0, .op, .none, 0x0, 0, 0x0⟩
  | .PLLA_CNT_IGNORED => ⟨0x20040, 1, 0x0, 1, 0x0, .rs, 0x0, 0x0, .op, .none, 0x0, 0, 0x0⟩
  | .CKOUT_CTLn => ⟨0x20C00, 4, 0x4, 1, 0x0, .rw, 0x0, 0x1FFFF, .op, .ckout, 0x1FFFE, 1, 0x1FFFE⟩
  | .CKOUT_STATUS => ⟨0x20C10, 1, 0x0, 1, 0x0, .ro, 0x0, 0x0, .op, .none, 0x0, 0, 0x0⟩
  | .Gn_CTL => ⟨0x40000, 8, 0x4000, 1, 0x0, .rw, 0x0, 0x3F07, .op, .none, 0x0, 0, 0x0⟩
  | .Gn_STATUS => ⟨0x40004, 8, 0x4000, 1, 0x0, .ro, 0x0, 0x0, .op, .none, 0x0, 0, 0x0⟩
  | .Gn_FALLBACK => ⟨0x40008, 8, 0x4000, 1, 0x0, .rw, 0x0, 0x13FFF, .cfg, .group, 0x13FFF, 0, 0x0⟩
  | .Gn_STAGE_CTL => ⟨0x40010, 8, 0x4000, 1, 0x0, .rw, 0x0, 0x1, .op, .none, 0x0, 0, 0x0⟩
  | .Gn_ENTRY => ⟨0x40020, 8, 0x4000, 1, 0x0, .ro, 0x0, 0x0, .op, .none, 0x0, 0, 0x0⟩
  | .Gn_SAMPLE_LO => ⟨0x40024, 8, 0x4000, 1, 0x0, .ro, 0x0, 0x0, .op, .none, 0x0, 0, 0x0⟩
  | .Gn_SAMPLE_HI => ⟨0x40028, 8, 0x4000, 1, 0x0, .ro, 0x0, 0x0, .op, .none, 0x0, 0, 0x0⟩
  | .Gn_LASTSW_LO => ⟨0x40030, 8, 0x4000, 1, 0x0, .ro, 0x0, 0x0, .op, .none, 0x0, 0, 0x0⟩
  | .Gn_LASTSW_HI => ⟨0x40034, 8, 0x4000, 1, 0x0, .ro, 0x0, 0x0, .op, .none, 0x0, 0, 0x0⟩
  | .Gn_LASTSW_XHI => ⟨0x40038, 8, 0x4000, 1, 0x0, .ro, 0x0, 0x0, .op, .none, 0x0, 0, 0x0⟩
  | .Gn_LASTSW_INFO => ⟨0x4003C, 8, 0x4000, 1, 0x0, .ro, 0x0, 0x0, .op, .none, 0x0, 0, 0x0⟩
  | .Gn_GAMBIT => ⟨0x40050, 8, 0x4000, 1, 0x0, .ro, 0x0, 0x0, .op, .none, 0x0, 0, 0x0⟩
  | .Gn_TBL_ADDR => ⟨0x40058, 8, 0x4000, 1, 0x0, .rw, 0x0, 0x1FFF, .op, .none, 0x0, 0, 0x0⟩
  | .Gn_TBL_DATA => ⟨0x4005C, 8, 0x4000, 1, 0x0, .ro, 0x3000000, 0x0, .op, .none, 0x0, 0, 0x0⟩
  | .Gn_CNT_SWITCH => ⟨0x40080, 8, 0x4000, 1, 0x0, .rs, 0x0, 0x0, .op, .none, 0x0, 0, 0x0⟩
  | .Gn_CNT_LATE => ⟨0x40084, 8, 0x4000, 1, 0x0, .rs, 0x0, 0x0, .op, .none, 0x0, 0, 0x0⟩
  | .Gn_CNT_UNHELD => ⟨0x40088, 8, 0x4000, 1, 0x0, .rs, 0x0, 0x0, .op, .none, 0x0, 0, 0x0⟩
  | .Gn_CNT_STAGE_OVF => ⟨0x4008C, 8, 0x4000, 1, 0x0, .rs, 0x0, 0x0, .op, .none, 0x0, 0, 0x0⟩
  | .Gn_CNT_FORCE_REJ => ⟨0x40090, 8, 0x4000, 1, 0x0, .rs, 0x0, 0x0, .op, .none, 0x0, 0, 0x0⟩
  | .Gn_CNT_UNDERRUN => ⟨0x40094, 8, 0x4000, 1, 0x0, .rs, 0x0, 0x0, .op, .none, 0x0, 0, 0x0⟩
  | .Gn_CNT_IGNORED => ⟨0x40098, 8, 0x4000, 1, 0x0, .rs, 0x0, 0x0, .op, .none, 0x0, 0, 0x0⟩
  | .EVT_CTL => ⟨0x30000, 1, 0x0, 1, 0x0, .rw, 0x1, 0x1FF3F03, .op, .none, 0x0, 0, 0x0⟩
  | .EVT_STATUS => ⟨0x30004, 1, 0x0, 1, 0x0, .ro, 0x0, 0x0, .op, .none, 0x0, 0, 0x0⟩
  | .EVT_SOFT => ⟨0x30008, 1, 0x0, 1, 0x0, .wo, 0x0, 0x0, .op, .none, 0x0, 0, 0x0⟩
  | .EVT_LOG_WR => ⟨0x30010, 1, 0x0, 1, 0x0, .ro, 0x0, 0x0, .op, .none, 0x0, 0, 0x0⟩
  | .EVT_LOG_RD => ⟨0x30014, 1, 0x0, 1, 0x0, .ro, 0x0, 0x0, .op, .none, 0x0, 0, 0x0⟩
  | .EVT_TM_STATUS => ⟨0x30020, 1, 0x0, 1, 0x0, .ro, 0x0, 0x0, .op, .none, 0x0, 0, 0x0⟩
  | .EVT_CNT_EVENTS => ⟨0x30040, 1, 0x0, 1, 0x0, .rs, 0x0, 0x0, .op, .none, 0x0, 0, 0x0⟩
  | .EVT_CNT_COINCIDENT => ⟨0x30044, 1, 0x0, 1, 0x0, .rs, 0x0, 0x0, .op, .none, 0x0, 0, 0x0⟩
  | .EVT_CNT_LOST => ⟨0x30048, 1, 0x0, 1, 0x0, .rs, 0x0, 0x0, .op, .none, 0x0, 0, 0x0⟩
  | .EVT_CNT_CHAIN_LATE => ⟨0x3004C, 1, 0x0, 1, 0x0, .rs, 0x0, 0x0, .op, .none, 0x0, 0, 0x0⟩
  | .EVT_CNT_TM_PAST => ⟨0x30050, 1, 0x0, 1, 0x0, .rs, 0x0, 0x0, .op, .none, 0x0, 0, 0x0⟩
  | .EVT_CNT_IGNORED => ⟨0x30054, 1, 0x0, 1, 0x0, .rs, 0x0, 0x0, .op, .none, 0x0, 0, 0x0⟩
  | .EVT_TM_CTL_k => ⟨0x30100, 8, 0x10, 1, 0x0, .rw, 0x0, 0x1, .op, .none, 0x0, 0, 0x0⟩
  | .EVT_TM_LO_k => ⟨0x30104, 8, 0x10, 1, 0x0, .rw, 0x0, 0x3FFFFFFF, .cfg, .tmArm, 0x3FFFFFFF, 0, 0x0⟩
  | .EVT_TM_HI_k => ⟨0x30108, 8, 0x10, 1, 0x0, .rw, 0x0, 0xFFFFFFFF, .cfg, .tmArm, 0xFFFFFFFF, 0, 0x0⟩
  | .EVT_TM_XHI_k => ⟨0x3010C, 8, 0x10, 1, 0x0, .rw, 0x0, 0xFFFF, .cfg, .tmArm, 0xFFFF, 0, 0x0⟩
  | .EVT_CHTX_n => ⟨0x30200, 16, 0x4, 1, 0x0, .rw, 0x0, 0x80FF1FFF, .cfg, .sys 9, 0x80FF1FFF, 0, 0x0⟩
  | .EVT_COND_g_i => ⟨0x31000, 8, 0x80, 32, 0x4, .rw, 0x0, 0x80031FFF, .cfg, .group, 0x80031FFF, 0, 0x0⟩
  | .HRM_STATUS => ⟨0x70000, 1, 0x0, 1, 0x0, .ro, 0x0, 0x0, .op, .none, 0x0, 0, 0x0⟩
  | .HRM_TBL_CRC => ⟨0x70004, 1, 0x0, 1, 0x0, .ro, 0x0, 0x0, .op, .none, 0x0, 0, 0x0⟩
  | .HRM_PEEK_SEL => ⟨0x70010, 1, 0x0, 1, 0x0, .rw, 0x0, 0x1F3F, .op, .none, 0x0, 0, 0x0⟩
  | .HRM_PEEK_AMP_LO => ⟨0x70014, 1, 0x0, 1, 0x0, .ro, 0x0, 0x0, .op, .none, 0x0, 0, 0x0⟩
  | .HRM_PEEK_AMP_HI => ⟨0x70018, 1, 0x0, 1, 0x0, .ro, 0x0, 0x0, .op, .none, 0x0, 0, 0x0⟩
  | .HRM_PEEK_ANG_LO => ⟨0x7001C, 1, 0x0, 1, 0x0, .ro, 0x0, 0x0, .op, .none, 0x0, 0, 0x0⟩
  | .HRM_PEEK_ANG_HI => ⟨0x70020, 1, 0x0, 1, 0x0, .ro, 0x0, 0x0, .op, .none, 0x0, 0, 0x0⟩
  | .HRM_CNT_AMP_CLAMP => ⟨0x70040, 1, 0x0, 1, 0x0, .rs, 0x0, 0x0, .op, .none, 0x0, 0, 0x0⟩
  | .HRM_CNT_SINE_ERR => ⟨0x70044, 1, 0x0, 1, 0x0, .rs, 0x0, 0x0, .op, .none, 0x0, 0, 0x0⟩
  | .HRM_CNT_IGNORED => ⟨0x70048, 1, 0x0, 1, 0x0, .rs, 0x0, 0x0, .op, .none, 0x0, 0, 0x0⟩
  | .HRM_RATIO_c_p => ⟨0x78000, 32, 0x400, 64, 0x10, .rw, 0x0, 0xFFFFFFFF, .staged, .chan, 0x0, 0, 0x0⟩
  | .HRM_PHASE_c_p => ⟨0x78004, 32, 0x400, 64, 0x10, .rw, 0x0, 0xFFFFFFFF, .staged, .chan, 0x0, 0, 0x0⟩
  | .HRM_AMP_c_p => ⟨0x78008, 32, 0x400, 64, 0x10, .rw, 0x1000000, 0x1FFFFFFF, .staged, .chan, 0x0, 0, 0x0⟩
  | .HRM_SLOPE_c_p => ⟨0x7800C, 32, 0x400, 64, 0x10, .rw, 0x0, 0xFFFFFFFF, .staged, .chan, 0x0, 0, 0x0⟩
  | .OUT_STATUS => ⟨0x80000, 1, 0x0, 1, 0x0, .ro, 0x0, 0x0, .op, .none, 0x0, 0, 0x0⟩
  | .OUT_CTL => ⟨0x80004, 1, 0x0, 1, 0x0, .rw, 0x0, 0x3F01, .op, .none, 0x0, 0, 0x0⟩
  | .OUT_DAC_SOURCED => ⟨0x80010, 1, 0x0, 1, 0x0, .ro, 0x0, 0x0, .op, .none, 0x0, 0, 0x0⟩
  | .OUT_DAC_RAMP => ⟨0x80014, 1, 0x0, 1, 0x0, .ro, 0x0, 0x0, .op, .none, 0x0, 0, 0x0⟩
  | .OUT_CNT_ROUTE_REJ => ⟨0x80040, 1, 0x0, 1, 0x0, .rs, 0x0, 0x0, .op, .none, 0x0, 0, 0x0⟩
  | .OUT_CNT_IGNORED => ⟨0x80044, 1, 0x0, 1, 0x0, .rs, 0x0, 0x0, .op, .none, 0x0, 0, 0x0⟩
  | .OUT_DAC_SRC_d => ⟨0x80100, 32, 0x4, 1, 0x0, .rw, 0x0, 0x8000001F, .staged, .none, 0x0, 0, 0x0⟩
  | .OUT_SV_SRC_s_q => ⟨0x80200, 16, 0x20, 8, 0x4, .rw, 0x0, 0x8000001F, .staged, .none, 0x0, 0, 0x0⟩
  | .OUT_SV_SCALE_s_q => ⟨0x80400, 16, 0x20, 8, 0x4, .rw, 0x0, 0xFFFFFFFF, .staged, .none, 0x0, 0, 0x0⟩
  | .CHn_CTL => ⟨0x60000, 32, 0x400, 1, 0x0, .rw, 0x0, 0x773, .op, .chan, 0x772, 0, 0x0⟩
  | .CHn_STATUS => ⟨0x60004, 32, 0x400, 1, 0x0, .ro, 0x0, 0x0, .op, .none, 0x0, 0, 0x0⟩
  | .CHn_GAIN => ⟨0x60010, 32, 0x400, 1, 0x0, .rw, 0x10000000, 0xFFFFFFFF, .staged, .chan, 0x0, 0, 0x0⟩
  | .CHn_OFFSET => ⟨0x60014, 32, 0x400, 1, 0x0, .rw, 0x0, 0xFFFFFFFF, .staged, .chan, 0x0, 0, 0x0⟩
  | .CHn_CLIP_HI => ⟨0x60018, 32, 0x400, 1, 0x0, .rw, 0x7FFFFFFF, 0xFFFFFFFF, .staged, .chan, 0x0, 0, 0x0⟩
  | .CHn_CLIP_LO => ⟨0x6001C, 32, 0x400, 1, 0x0, .rw, 0x80000000, 0xFFFFFFFF, .staged, .chan, 0x0, 0, 0x0⟩
  | .CHn_VALUE => ⟨0x60020, 32, 0x400, 1, 0x0, .ro, 0x0, 0x0, .op, .none, 0x0, 0, 0x0⟩
  | .CHn_CNT_CLIP => ⟨0x60040, 32, 0x400, 1, 0x0, .rs, 0x0, 0x0, .op, .none, 0x0, 0, 0x0⟩
  | .CHn_CNT_IGNORED => ⟨0x60044, 32, 0x400, 1, 0x0, .rs, 0x0, 0x0, .op, .none, 0x0, 0, 0x0⟩
  | .CHn_CNT_CW_PASS => ⟨0x60048, 32, 0x400, 1, 0x0, .rs, 0x0, 0x0, .op, .none, 0x0, 0, 0x0⟩
  | .CHn_CNT_CW_FAIL => ⟨0x6004C, 32, 0x400, 1, 0x0, .rs, 0x0, 0x0, .op, .none, 0x0, 0, 0x0⟩
  | .CHn_CW_STATUS_k => ⟨0x60100, 32, 0x400, 4, 0x20, .ro, 0x0, 0x0, .op, .none, 0x0, 0, 0x0⟩
  | .CHn_CW_START_LO_k => ⟨0x60104, 32, 0x400, 4, 0x20, .ro, 0x0, 0x0, .op, .none, 0x0, 0, 0x0⟩
  | .CHn_CW_START_HI_k => ⟨0x60108, 32, 0x400, 4, 0x20, .ro, 0x0, 0x0, .op, .none, 0x0, 0, 0x0⟩
  | .CHn_CW_START_XHI_k => ⟨0x6010C, 32, 0x400, 4, 0x20, .ro, 0x0, 0x0, .op, .none, 0x0, 0, 0x0⟩
  | .CHn_CW_COUNT_k => ⟨0x60110, 32, 0x400, 4, 0x20, .ro, 0x0, 0x0, .op, .none, 0x0, 0, 0x0⟩
  | .CHn_CW_EXPECT_k => ⟨0x60114, 32, 0x400, 4, 0x20, .ro, 0x0, 0x0, .op, .none, 0x0, 0, 0x0⟩
  | .CHn_CW_CRC_k => ⟨0x60118, 32, 0x400, 4, 0x20, .ro, 0x0, 0x0, .op, .none, 0x0, 0, 0x0⟩
  | .CHn_CW_DONE_k => ⟨0x6011C, 32, 0x400, 4, 0x20, .ro, 0x0, 0x0, .op, .none, 0x0, 0, 0x0⟩
  | .DAC_CTL => ⟨0x90000, 1, 0x0, 1, 0x0, .rw, 0x0, 0x3F01, .op, .none, 0x0, 0, 0x0⟩
  | .DAC_STATUS => ⟨0x90004, 1, 0x0, 1, 0x0, .ro, 0x0, 0x0, .op, .none, 0x0, 0, 0x0⟩
  | .DAC_X2_PERMIT => ⟨0x90008, 1, 0x0, 1, 0x0, .rw, 0x0, 0xFFFFFFFF, .cfg, .sys 6, 0xFFFFFFFF, 2, 0xFFFFFFFF⟩
  | .DAC_UNDERRUN => ⟨0x90010, 1, 0x0, 1, 0x0, .ro, 0x0, 0x0, .op, .none, 0x0, 0, 0x0⟩
  | .DAC_SHORT => ⟨0x90014, 1, 0x0, 1, 0x0, .ro, 0x0, 0x0, .op, .none, 0x0, 0, 0x0⟩
  | .DAC_FENCED => ⟨0x90018, 1, 0x0, 1, 0x0, .ro, 0x0, 0x0, .op, .none, 0x0, 0, 0x0⟩
  | .DAC_MIDSCALE => ⟨0x9001C, 1, 0x0, 1, 0x0, .ro, 0xFFFFFFFF, 0x0, .op, .none, 0x0, 0, 0x0⟩
  | .DAC_FENCE_CLR => ⟨0x90020, 1, 0x0, 1, 0x0, .wo, 0x0, 0x0, .op, .none, 0x0, 0, 0x0⟩
  | .DAC_CNT_IGNORED => ⟨0x90040, 1, 0x0, 1, 0x0, .rs, 0x0, 0x0, .op, .none, 0x0, 0, 0x0⟩
  | .DAC_CFG_d => ⟨0x90100, 32, 0x4, 1, 0x0, .rw, 0x10, 0x31, .staged, .sys 6, 0x30, 2, 0x30⟩
  | .DAC_CODE_d => ⟨0x90200, 32, 0x4, 1, 0x0, .ro, 0x0, 0x0, .op, .none, 0x0, 0, 0x0⟩
  | .DAC_CNT_UNDERRUN_d => ⟨0x90400, 32, 0x10, 1, 0x0, .rs, 0x0, 0x0, .op, .none, 0x0, 0, 0x0⟩
  | .DAC_CNT_STALE_d => ⟨0x90404, 32, 0x10, 1, 0x0, .rs, 0x0, 0x0, .op, .none, 0x0, 0, 0x0⟩
  | .DAC_CNT_SHORT_d => ⟨0x90408, 32, 0x10, 1, 0x0, .rs, 0x0, 0x0, .op, .none, 0x0, 0, 0x0⟩
  | .DAC_CNT_FENCE_d => ⟨0x9040C, 32, 0x10, 1, 0x0, .rs, 0x0, 0x0, .op, .none, 0x0, 0, 0x0⟩
  | .PAT_CTL => ⟨0xA0000, 1, 0x0, 1, 0x0, .rw, 0x0, 0x3F01, .op, .none, 0x0, 0, 0x0⟩
  | .PAT_MK_LEVEL => ⟨0xA0004, 1, 0x0, 1, 0x0, .ro, 0x0, 0x0, .op, .none, 0x0, 0, 0x0⟩
  | .PAT_RUN_LO => ⟨0xA0010, 1, 0x0, 1, 0x0, .ro, 0x0, 0x0, .op, .none, 0x0, 0, 0x0⟩
  | .PAT_RUN_HI => ⟨0xA0014, 1, 0x0, 1, 0x0, .ro, 0x0, 0x0, .op, .none, 0x0, 0, 0x0⟩
  | .PAT_LEVEL_LO => ⟨0xA0018, 1, 0x0, 1, 0x0, .ro, 0x0, 0x0, .op, .none, 0x0, 0, 0x0⟩
  | .PAT_LEVEL_HI => ⟨0xA001C, 1, 0x0, 1, 0x0, .ro, 0x0, 0x0, .op, .none, 0x0, 0, 0x0⟩
  | .PAT_SHORT_LO => ⟨0xA0020, 1, 0x0, 1, 0x0, .ro, 0x0, 0x0, .op, .none, 0x0, 0, 0x0⟩
  | .PAT_SHORT_HI => ⟨0xA0024, 1, 0x0, 1, 0x0, .ro, 0x0, 0x0, .op, .none, 0x0, 0, 0x0⟩
  | .PAT_FENCED_LO => ⟨0xA0028, 1, 0x0, 1, 0x0, .ro, 0x0, 0x0, .op, .none, 0x0, 0, 0x0⟩
  | .PAT_FENCED_HI => ⟨0xA002C, 1, 0x0, 1, 0x0, .ro, 0x0, 0x0, .op, .none, 0x0, 0, 0x0⟩
  | .PAT_FENCE_CLR_LO => ⟨0xA0030, 1, 0x0, 1, 0x0, .wo, 0x0, 0x0, .op, .none, 0x0, 0, 0x0⟩
  | .PAT_FENCE_CLR_HI => ⟨0xA0034, 1, 0x0, 1, 0x0, .wo, 0x0, 0x0, .op, .none, 0x0, 0, 0x0⟩
  | .PAT_OVR_LO => ⟨0xA0038, 1, 0x0, 1, 0x0, .ro, 0x0, 0x0, .op, .none, 0x0, 0, 0x0⟩
  | .PAT_OVR_HI => ⟨0xA003C, 1, 0x0, 1, 0x0, .ro, 0x0, 0x0, .op, .none, 0x0, 0, 0x0⟩
  | .PAT_OVR_CLR_LO => ⟨0xA0040, 1, 0x0, 1, 0x0, .wo, 0x0, 0x0, .op, .none, 0x0, 0, 0x0⟩
  | .PAT_OVR_CLR_HI => ⟨0xA0044, 1, 0x0, 1, 0x0, .wo, 0x0, 0x0, .op, .none, 0x0, 0, 0x0⟩
  | .PAT_STATIC_LO => ⟨0xA0048, 1, 0x0, 1, 0x0, .rw, 0x0, 0xFFFFFFFF, .op, .none, 0x0, 0, 0x0⟩
  | .PAT_STATIC_HI => ⟨0xA004C, 1, 0x0, 1, 0x0, .rw, 0x0, 0xFFFFFFFF, .op, .none, 0x0, 0, 0x0⟩
  | .PAT_DRIVE_LO => ⟨0xA0050, 1, 0x0, 1, 0x0, .ro, 0x0, 0x0, .op, .none, 0x0, 0, 0x0⟩
  | .PAT_DRIVE_HI => ⟨0xA0054, 1, 0x0, 1, 0x0, .ro, 0x0, 0x0, .op, .none, 0x0, 0, 0x0⟩
  | .PAT_PAIR_ERR => ⟨0xA0058, 1, 0x0, 1, 0x0, .ro, 0x0, 0x0, .op, .none, 0x0, 0, 0x0⟩
  | .PAT_CNT_IGNORED => ⟨0xA0060, 1, 0x0, 1, 0x0, .rs, 0x0, 0x0, .op, .none, 0x0, 0, 0x0⟩
  | .PAT_LANE_n => ⟨0xA0100, 64, 0x4, 1, 0x0, .rw, 0x8200, 0xFFF777, .op, .pin, 0xFFF776, 3, 0xFF0706⟩
  | .PAT_EVT_n => ⟨0xA0200, 64, 0x4, 1, 0x0, .rw, 0x0, 0x800F1FFF, .cfg, .pin, 0x800F1FFF, 0, 0x0⟩
  | .PAT_CNT_MISM_n => ⟨0xA0300, 64, 0x8, 1, 0x0, .rs, 0x0, 0x0, .op, .none, 0x0, 0, 0x0⟩
  | .PAT_CNT_FENCE_n => ⟨0xA0304, 64, 0x8, 1, 0x0, .rs, 0x0, 0x0, .op, .none, 0x0, 0, 0x0⟩
  | .PAT_MK_m => ⟨0xA0600, 16, 0x4, 1, 0x0, .rw, 0x500000, 0xFFFF0071, .op, .marker, 0xFFFF0070, 0, 0x0⟩
  | .BIN_STATE => ⟨0xA8000, 1, 0x0, 1, 0x0, .ro, 0x0, 0x0, .op, .none, 0x0, 0, 0x0⟩
  | .BIN_RAW => ⟨0xA8004, 1, 0x0, 1, 0x0, .ro, 0x0, 0x0, .op, .none, 0x0, 0, 0x0⟩
  | .BIN_VALID => ⟨0xA8008, 1, 0x0, 1, 0x0, .ro, 0x0, 0x0, .op, .none, 0x0, 0, 0x0⟩
  | .BIN_CNT_IGNORED => ⟨0xA8010, 1, 0x0, 1, 0x0, .rs, 0x0, 0x0, .op, .none, 0x0, 0, 0x0⟩
  | .BIN_CFG_n => ⟨0xA8100, 32, 0x4, 1, 0x0, .rw, 0x320, 0x81FFFFFF, .op, .bin, 0x1FFFFFF, 0, 0x0⟩
  | .BIN_TIME_LO_n => ⟨0xA8200, 32, 0x10, 1, 0x0, .ro, 0x0, 0x0, .op, .none, 0x0, 0, 0x0⟩
  | .BIN_TIME_HI_n => ⟨0xA8204, 32, 0x10, 1, 0x0, .ro, 0x0, 0x0, .op, .none, 0x0, 0, 0x0⟩
  | .BIN_CNT_EDGE_n => ⟨0xA8208, 32, 0x10, 1, 0x0, .rs, 0x0, 0x0, .op, .none, 0x0, 0, 0x0⟩
  | .BIN_CNT_BOUNCE_n => ⟨0xA820C, 32, 0x10, 1, 0x0, .rs, 0x0, 0x0, .op, .none, 0x0, 0, 0x0⟩
  | .ADC_CAP_CTL => ⟨0xB4004, 1, 0x0, 1, 0x0, .rw, 0x0, 0xFF, .cfg, .adcCap, 0xFF, 0, 0x0⟩
  | .ADC_CAP_BASE_LO => ⟨0xB4008, 1, 0x0, 1, 0x0, .ro, 0x0, 0x0, .op, .none, 0x0, 0, 0x0⟩
  | .ADC_CAP_BASE_HI => ⟨0xB400C, 1, 0x0, 1, 0x0, .ro, 0x0, 0x0, .op, .none, 0x0, 0, 0x0⟩
  | .ADC_CAP_WR => ⟨0xB4010, 1, 0x0, 1, 0x0, .ro, 0x0, 0x0, .op, .none, 0x0, 0, 0x0⟩
  | .ADC_CAP_RD => ⟨0xB4014, 1, 0x0, 1, 0x0, .rw, 0x0, 0xFFFFFFFF, .op, .none, 0x0, 0, 0x0⟩
  | .ADC_CAP_CNT_LOST => ⟨0xB4018, 1, 0x0, 1, 0x0, .rs, 0x0, 0x0, .op, .none, 0x0, 0, 0x0⟩
  | .ADC_CAP_CNT_IGNORED => ⟨0xB401C, 1, 0x0, 1, 0x0, .rs, 0x0, 0x0, .op, .none, 0x0, 0, 0x0⟩
  | .ADCn_CTL => ⟨0xB0000, 16, 0x400, 1, 0x0, .rw, 0x0, 0x3F0F, .op, .none, 0x0, 0, 0x0⟩
  | .ADCn_STATUS => ⟨0xB0004, 16, 0x400, 1, 0x0, .ro, 0x0, 0x0, .op, .none, 0x0, 0, 0x0⟩
  | .ADCn_CMD => ⟨0xB0008, 16, 0x400, 1, 0x0, .wo, 0x0, 0x0, .op, .none, 0x0, 0, 0x0⟩
  | .ADCn_TRIG => ⟨0xB000C, 16, 0x400, 1, 0x0, .rw, 0x0, 0x1F7FFF7, .cfg, .adc, 0x1F7FFF7, 0, 0x0⟩
  | .ADCn_TRIG_DELAY => ⟨0xB0010, 16, 0x400, 1, 0x0, .rw, 0x0, 0xFFFFF, .cfg, .adc, 0xFFFFF, 0, 0x0⟩
  | .ADCn_TPARAM => ⟨0xB0014, 16, 0x400, 1, 0x0, .rw, 0x1, 0xFFFFFF, .cfg, .adc, 0xFFFFFF, 0, 0x0⟩
  | .ADCn_SEQ => ⟨0xB0018, 16, 0x400, 1, 0x0, .rw, 0x10, 0x1F, .cfg, .adc, 0x1F, 0, 0x0⟩
  | .ADCn_OW_CTL => ⟨0xB001C, 16, 0x400, 1, 0x0, .rw, 0x64001F, 0xFFFF007F, .cfg, .adc, 0xFFFF007F, 0, 0x0⟩
  | .ADCn_OW_IVAL => ⟨0xB0020, 16, 0x400, 1, 0x0, .rw, 0x64, 0xFFFFFF, .cfg, .adc, 0xFFFFFF, 0, 0x0⟩
  | .ADCn_OW_THR => ⟨0xB0024, 16, 0x400, 1, 0x0, .rw, 0x1E000, 0x1FFFF, .cfg, .adc, 0x1FFFF, 0, 0x0⟩
  | .ADCn_CAL_OFS => ⟨0xB0030, 16, 0x400, 1, 0x0, .ro, 0x0, 0x0, .op, .none, 0x0, 0, 0x0⟩
  | .ADCn_CAL_GAIN => ⟨0xB0034, 16, 0x400, 1, 0x0, .ro, 0x400000, 0x0, .op, .none, 0x0, 0, 0x0⟩
  | .ADCn_WSTATE => ⟨0xB0038, 16, 0x400, 1, 0x0, .ro, 0x0, 0x0, .op, .none, 0x0, 0, 0x0⟩
  | .ADCn_CNT_TRIG_MISS => ⟨0xB0040, 16, 0x400, 1, 0x0, .rs, 0x0, 0x0, .op, .none, 0x0, 0, 0x0⟩
  | .ADCn_CNT_TRIG_LATE => ⟨0xB0044, 16, 0x400, 1, 0x0, .rs, 0x0, 0x0, .op, .none, 0x0, 0, 0x0⟩
  | .ADCn_CNT_ABORT => ⟨0xB0048, 16, 0x400, 1, 0x0, .rs, 0x0, 0x0, .op, .none, 0x0, 0, 0x0⟩
  | .ADCn_CNT_URG_DROP => ⟨0xB004C, 16, 0x400, 1, 0x0, .rs, 0x0, 0x0, .op, .none, 0x0, 0, 0x0⟩
  | .ADCn_CNT_WIN => ⟨0xB0050, 16, 0x400, 1, 0x0, .rs, 0x0, 0x0, .op, .none, 0x0, 0, 0x0⟩
  | .ADCn_CNT_OW_FIND => ⟨0xB0054, 16, 0x400, 1, 0x0, .rs, 0x0, 0x0, .op, .none, 0x0, 0, 0x0⟩
  | .ADCn_CNT_OW => ⟨0xB0058, 16, 0x400, 1, 0x0, .rs, 0x0, 0x0, .op, .none, 0x0, 0, 0x0⟩
  | .ADCn_CNT_CAL_RETRY => ⟨0xB005C, 16, 0x400, 1, 0x0, .rs, 0x0, 0x0, .op, .none, 0x0, 0, 0x0⟩
  | .ADCn_CNT_APPLY_REJ => ⟨0xB0060, 16, 0x400, 1, 0x0, .rs, 0x0, 0x0, .op, .none, 0x0, 0, 0x0⟩
  | .ADCn_CNT_IGNORED => ⟨0xB0064, 16, 0x400, 1, 0x0, .rs, 0x0, 0x0, .op, .none, 0x0, 0, 0x0⟩
  | .ADCn_ENTRY_e => ⟨0xB0100, 16, 0x400, 16, 0x10, .rw, 0x70, 0x1FFF, .cfg, .adc, 0x1FFF, 0, 0x0⟩
  | .ADCn_WLO_e => ⟨0xB0104, 16, 0x400, 16, 0x10, .rw, 0xFFFE0000, 0xFFFFFFFF, .dbuf, .none, 0x0, 0, 0x0⟩
  | .ADCn_WHI_e => ⟨0xB0108, 16, 0x400, 16, 0x10, .rw, 0x1FFFF, 0xFFFFFFFF, .dbuf, .none, 0x0, 0, 0x0⟩
  | .ADCn_WHYST_e => ⟨0xB010C, 16, 0x400, 16, 0x10, .rw, 0x0, 0x1FFFF, .dbuf, .none, 0x0, 0, 0x0⟩
  | .ADCn_RES_e => ⟨0xB0200, 16, 0x400, 16, 0x8, .ro, 0x0, 0x0, .op, .none, 0x0, 0, 0x0⟩
  | .ADCn_TS_e => ⟨0xB0204, 16, 0x400, 16, 0x8, .ro, 0x0, 0x0, .op, .none, 0x0, 0, 0x0⟩
  | .NET_STATUS => ⟨0xC0000, 1, 0x0, 1, 0x0, .ro, 0x0, 0x0, .op, .none, 0x0, 0, 0x0⟩
  | .NET_CNT_IGNORED => ⟨0xC0004, 1, 0x0, 1, 0x0, .rs, 0x0, 0x0, .op, .none, 0x0, 0, 0x0⟩
  | .NET_Pp_CTL => ⟨0xC0100, 4, 0x40, 1, 0x0, .rw, 0x4, 0x3F0F, .op, .netPort, 0x3F0E, 7, 0x2⟩
  | .NET_Pp_STATUS => ⟨0xC0104, 4, 0x40, 1, 0x0, .ro, 0x0, 0x0, .op, .none, 0x0, 0, 0x0⟩
  | .NET_Pp_MAC_LO => ⟨0xC0108, 4, 0x40, 1, 0x0, .rw, 0x0, 0xFFFFFFFF, .cfg, .netPort, 0xFFFFFFFF, 0, 0x0⟩
  | .NET_Pp_MAC_HI => ⟨0xC010C, 4, 0x40, 1, 0x0, .rw, 0x0, 0xFFFF, .cfg, .netPort, 0xFFFF, 0, 0x0⟩
  | .NET_Pp_CNT_RX => ⟨0xC0110, 4, 0x40, 1, 0x0, .rs, 0x0, 0x0, .op, .none, 0x0, 0, 0x0⟩
  | .NET_Pp_CNT_RX_ERR => ⟨0xC0114, 4, 0x40, 1, 0x0, .rs, 0x0, 0x0, .op, .none, 0x0, 0, 0x0⟩
  | .NET_Pp_CNT_RX_DROP => ⟨0xC0118, 4, 0x40, 1, 0x0, .rs, 0x0, 0x0, .op, .none, 0x0, 0, 0x0⟩
  | .NET_Pp_CNT_TX => ⟨0xC011C, 4, 0x40, 1, 0x0, .rs, 0x0, 0x0, .op, .none, 0x0, 0, 0x0⟩
  | .NET_Pp_CNT_LINKDOWN => ⟨0xC0120, 4, 0x40, 1, 0x0, .rs, 0x0, 0x0, .op, .none, 0x0, 0, 0x0⟩
  | .NET_PTP_STATUS => ⟨0xC0400, 1, 0x0, 1, 0x0, .ro, 0x0, 0x0, .op, .none, 0x0, 0, 0x0⟩
  | .NET_PTP_OFFSET => ⟨0xC0404, 1, 0x0, 1, 0x0, .ro, 0x0, 0x0, .op, .none, 0x0, 0, 0x0⟩
  | .NET_PTP_MPD => ⟨0xC0408, 1, 0x0, 1, 0x0, .ro, 0x0, 0x0, .op, .none, 0x0, 0, 0x0⟩
  | .NET_PTP_GMID_LO => ⟨0xC040C, 1, 0x0, 1, 0x0, .ro, 0x0, 0x0, .op, .none, 0x0, 0, 0x0⟩
  | .NET_PTP_GMID_HI => ⟨0xC0410, 1, 0x0, 1, 0x0, .ro, 0x0, 0x0, .op, .none, 0x0, 0, 0x0⟩
  | .NET_PTP_CNT_SYNC => ⟨0xC0440, 1, 0x0, 1, 0x0, .rs, 0x0, 0x0, .op, .none, 0x0, 0, 0x0⟩
  | .NET_PTP_CNT_LOCKLOSS => ⟨0xC0444, 1, 0x0, 1, 0x0, .rs, 0x0, 0x0, .op, .none, 0x0, 0, 0x0⟩
  | .NET_PTP_CNT_FOREIGN => ⟨0xC0448, 1, 0x0, 1, 0x0, .rs, 0x0, 0x0, .op, .none, 0x0, 0, 0x0⟩
  | .NET_PTP_CNT_PDELAY_TO => ⟨0xC044C, 1, 0x0, 1, 0x0, .rs, 0x0, 0x0, .op, .none, 0x0, 0, 0x0⟩
  | .NET_SV_STATUS_s => ⟨0xC1000, 16, 0x20, 1, 0x0, .ro, 0x0, 0x0, .op, .none, 0x0, 0, 0x0⟩
  | .NET_SV_CNT_FRAMES_s => ⟨0xC1004, 16, 0x20, 1, 0x0, .rs, 0x0, 0x0, .op, .none, 0x0, 0, 0x0⟩
  | .NET_SV_CNT_DROP_s => ⟨0xC1008, 16, 0x20, 1, 0x0, .rs, 0x0, 0x0, .op, .none, 0x0, 0, 0x0⟩
  | .NET_SV_CNT_UNDERRUN_s => ⟨0xC100C, 16, 0x20, 1, 0x0, .rs, 0x0, 0x0, .op, .none, 0x0, 0, 0x0⟩
  | .NET_GS_STATUS_d => ⟨0xC2000, 64, 0x20, 1, 0x0, .ro, 0x0, 0x0, .op, .none, 0x0, 0, 0x0⟩
  | .NET_GS_STNUM_d => ⟨0xC2004, 64, 0x20, 1, 0x0, .ro, 0x0, 0x0, .op, .none, 0x0, 0, 0x0⟩
  | .NET_GS_SQNUM_d => ⟨0xC2008, 64, 0x20, 1, 0x0, .ro, 0x0, 0x0, .op, .none, 0x0, 0, 0x0⟩
  | .NET_GS_CNT_ACCEPT_d => ⟨0xC200C, 64, 0x20, 1, 0x0, .rs, 0x0, 0x0, .op, .none, 0x0, 0, 0x0⟩
  | .NET_GS_CNT_REJECT_d => ⟨0xC2010, 64, 0x20, 1, 0x0, .rs, 0x0, 0x0, .op, .none, 0x0, 0, 0x0⟩
  | .NET_GS_CNT_GAP_d => ⟨0xC2014, 64, 0x20, 1, 0x0, .rs, 0x0, 0x0, .op, .none, 0x0, 0, 0x0⟩
  | .NET_GS_CNT_INCONS_d => ⟨0xC2018, 64, 0x20, 1, 0x0, .rs, 0x0, 0x0, .op, .none, 0x0, 0, 0x0⟩
  | .NET_GS_CNT_EXPIRE_d => ⟨0xC201C, 64, 0x20, 1, 0x0, .rs, 0x0, 0x0, .op, .none, 0x0, 0, 0x0⟩
  | .CHN_CTL => ⟨0xD0000, 1, 0x0, 1, 0x0, .rw, 0x0, 0x3F0F, .op, .sys 11, 0x3, 4, 0x3⟩
  | .CHN_STATUS => ⟨0xD0004, 1, 0x0, 1, 0x0, .ro, 0x0, 0x0, .op, .none, 0x0, 0, 0x0⟩
  | .CHN_TOL => ⟨0xD0008, 1, 0x0, 1, 0x0, .rw, 0x1F4, 0xFFFF, .cfg, .sys 11, 0xFFFF, 4, 0xFFFF⟩
  | .CHN_TERR => ⟨0xD000C, 1, 0x0, 1, 0x0, .ro, 0x0, 0x0, .op, .none, 0x0, 0, 0x0⟩
  | .CHN_BSEQ => ⟨0xD0010, 1, 0x0, 1, 0x0, .ro, 0x0, 0x0, .op, .none, 0x0, 0, 0x0⟩
  | .CHN_CENSUS_GEN => ⟨0xD0014, 1, 0x0, 1, 0x0, .ro, 0x0, 0x0, .op, .none, 0x0, 0, 0x0⟩
  | .CHN_CENSUS_EPOCH_LO => ⟨0xD0018, 1, 0x0, 1, 0x0, .ro, 0x0, 0x0, .op, .none, 0x0, 0, 0x0⟩
  | .CHN_CENSUS_EPOCH_HI => ⟨0xD001C, 1, 0x0, 1, 0x0, .ro, 0x0, 0x0, .op, .none, 0x0, 0, 0x0⟩
  | .CHN_SUBTREE => ⟨0xD0020, 1, 0x0, 1, 0x0, .ro, 0x0, 0x0, .op, .none, 0x0, 0, 0x0⟩
  | .CHN_ENUM_GEN => ⟨0xD0024, 1, 0x0, 1, 0x0, .ro, 0x0, 0x0, .op, .none, 0x0, 0, 0x0⟩
  | .CHN_CNT_EXCL => ⟨0xD0040, 1, 0x0, 1, 0x0, .rs, 0x0, 0x0, .op, .none, 0x0, 0, 0x0⟩
  | .CHN_CNT_EXCL_RX => ⟨0xD0044, 1, 0x0, 1, 0x0, .rs, 0x0, 0x0, .op, .none, 0x0, 0, 0x0⟩
  | .CHN_CNT_JOIN => ⟨0xD0048, 1, 0x0, 1, 0x0, .rs, 0x0, 0x0, .op, .none, 0x0, 0, 0x0⟩
  | .CHN_CNT_LEAVE => ⟨0xD004C, 1, 0x0, 1, 0x0, .rs, 0x0, 0x0, .op, .none, 0x0, 0, 0x0⟩
  | .CHN_CNT_SUPPR => ⟨0xD0050, 1, 0x0, 1, 0x0, .rs, 0x0, 0x0, .op, .none, 0x0, 0, 0x0⟩
  | .CHN_CNT_IGNORED => ⟨0xD0054, 1, 0x0, 1, 0x0, .rs, 0x0, 0x0, .op, .none, 0x0, 0, 0x0⟩
  | .CHN_Pp_CTL => ⟨0xD0100, 3, 0x40, 1, 0x0, .rw, 0x0, 0x3, .op, .none, 0x0, 0, 0x0⟩
  | .CHN_Pp_STATUS => ⟨0xD0104, 3, 0x40, 1, 0x0, .ro, 0x0, 0x0, .op, .none, 0x0, 0, 0x0⟩
  | .CHN_Pp_DELAY => ⟨0xD0108, 3, 0x40, 1, 0x0, .ro, 0x0, 0x0, .op, .none, 0x0, 0, 0x0⟩
  | .CHN_Pp_ASYM => ⟨0xD010C, 3, 0x40, 1, 0x0, .rw, 0x0, 0xFFFFFFFF, .cfg, .chnPort, 0xFFFFFFFF, 0, 0x0⟩
  | .CHN_Pp_PARTNER => ⟨0xD0110, 3, 0x40, 1, 0x0, .ro, 0x0, 0x0, .op, .none, 0x0, 0, 0x0⟩
  | .CHN_Pp_CNT_CRC => ⟨0xD0120, 3, 0x40, 1, 0x0, .rs, 0x0, 0x0, .op, .none, 0x0, 0, 0x0⟩
  | .CHN_Pp_CNT_REPLAY => ⟨0xD0124, 3, 0x40, 1, 0x0, .rs, 0x0, 0x0, .op, .none, 0x0, 0, 0x0⟩
  | .CHN_Pp_CNT_RETRAIN => ⟨0xD0128, 3, 0x40, 1, 0x0, .rs, 0x0, 0x0, .op, .none, 0x0, 0, 0x0⟩
  | .CHN_Pp_CNT_DOWN => ⟨0xD012C, 3, 0x40, 1, 0x0, .rs, 0x0, 0x0, .op, .none, 0x0, 0, 0x0⟩
  | .CHN_Pp_CNT_DLY_REJ => ⟨0xD0130, 3, 0x40, 1, 0x0, .rs, 0x0, 0x0, .op, .none, 0x0, 0, 0x0⟩
  | .MEM_CTL => ⟨0xE0000, 1, 0x0, 1, 0x0, .rw, 0x1, 0x3F03, .op, .none, 0x0, 0, 0x0⟩
  | .MEM_STATUS => ⟨0xE0004, 1, 0x0, 1, 0x0, .ro, 0x0, 0x0, .op, .none, 0x0, 0, 0x0⟩
  | .MEM_CASTLE => ⟨0xE0008, 1, 0x0, 1, 0x0, .wo, 0x0, 0x0, .op, .none, 0x0, 0, 0x0⟩
  | .MEM_CASTLE_RES => ⟨0xE000C, 1, 0x0, 1, 0x0, .ro, 0x0, 0x0, .op, .none, 0x0, 0, 0x0⟩
  | .MEM_PWR_PERMIT => ⟨0xE0010, 1, 0x0, 1, 0x0, .rw, 0x0, 0xFC, .cfg, .sys 12, 0xFC, 5, 0xFC⟩
  | .MEM_SCRUB_PERIOD => ⟨0xE0014, 1, 0x0, 1, 0x0, .rw, 0x3E8, 0xFFFF, .op, .none, 0x0, 0, 0x0⟩
  | .MEM_ERR_ADDR => ⟨0xE0020, 1, 0x0, 1, 0x0, .ro, 0x0, 0x0, .op, .none, 0x0, 0, 0x0⟩
  | .MEM_ERR_INFO => ⟨0xE0024, 1, 0x0, 1, 0x0, .ro, 0x0, 0x0, .op, .none, 0x0, 0, 0x0⟩
  | .MEM_CNT_CASTLE_REJ => ⟨0xE0040, 1, 0x0, 1, 0x0, .rs, 0x0, 0x0, .op, .none, 0x0, 0, 0x0⟩
  | .MEM_CNT_PWR_REJ => ⟨0xE0044, 1, 0x0, 1, 0x0, .rs, 0x0, 0x0, .op, .none, 0x0, 0, 0x0⟩
  | .MEM_CNT_FOREIGN => ⟨0xE0048, 1, 0x0, 1, 0x0, .rs, 0x0, 0x0, .op, .none, 0x0, 0, 0x0⟩
  | .MEM_CNT_IGNORED => ⟨0xE004C, 1, 0x0, 1, 0x0, .rs, 0x0, 0x0, .op, .none, 0x0, 0, 0x0⟩
  | .MEM_SETn_OWN => ⟨0xE0100, 8, 0x20, 1, 0x0, .rw, 0x0, 0x3, .cfg, .sys 12, 0x3, 5, 0x3⟩
  | .MEM_SETn_PWR => ⟨0xE0104, 8, 0x20, 1, 0x0, .rw, 0x0, 0x3, .op, .none, 0x0, 0, 0x0⟩
  | .MEM_SETn_STATUS => ⟨0xE0108, 8, 0x20, 1, 0x0, .ro, 0x0, 0x0, .op, .none, 0x0, 0, 0x0⟩
  | .MEM_SETn_CNT_CE => ⟨0xE010C, 8, 0x20, 1, 0x0, .rs, 0x0, 0x0, .op, .none, 0x0, 0, 0x0⟩
  | .MEM_SETn_CNT_UE => ⟨0xE0110, 8, 0x20, 1, 0x0, .rs, 0x0, 0x0, .op, .none, 0x0, 0, 0x0⟩
  | .MEM_SETn_CNT_STALL => ⟨0xE0114, 8, 0x20, 1, 0x0, .rs, 0x0, 0x0, .op, .none, 0x0, 0, 0x0⟩
  | .MEM_SETn_CNT_REPAIR => ⟨0xE0118, 8, 0x20, 1, 0x0, .rs, 0x0, 0x0, .op, .none, 0x0, 0, 0x0⟩
  | .MEM_GWIN_g => ⟨0xE0200, 8, 0x4, 1, 0x0, .rw, 0x0, 0x80000707, .cfg, .group, 0x80000707, 0, 0x0⟩
  | .DRM_CTL => ⟨0xF0000, 1, 0x0, 1, 0x0, .rw, 0x3, 0x3F07, .op, .none, 0x0, 0, 0x0⟩
  | .DRM_STATUS => ⟨0xF0004, 1, 0x0, 1, 0x0, .ro, 0x0, 0x0, .op, .none, 0x0, 0, 0x0⟩
  | .DRM_CMD => ⟨0xF0008, 1, 0x0, 1, 0x0, .wo, 0x0, 0x0, .op, .none, 0x0, 0, 0x0⟩
  | .DRM_FCHG_RES => ⟨0xF000C, 1, 0x0, 1, 0x0, .ro, 0x0, 0x0, .op, .none, 0x0, 0, 0x0⟩
  | .DRM_GEOM => ⟨0xF0010, 1, 0x0, 1, 0x0, .rw, 0x12, 0x13, .cfg, .sys 13, 0x13, 0, 0x0⟩
  | .DRM_HASH_CH0 => ⟨0xF0014, 1, 0x0, 1, 0x0, .rw, 0x0, 0x3FFFF, .cfg, .sys 13, 0x3FFFF, 0, 0x0⟩
  | .DRM_HASH_CH1 => ⟨0xF0018, 1, 0x0, 1, 0x0, .rw, 0x0, 0x3FFFF, .cfg, .sys 13, 0x3FFFF, 0, 0x0⟩
  | .DRM_HASH_B0 => ⟨0xF001C, 1, 0x0, 1, 0x0, .rw, 0x0, 0x3FFFF, .cfg, .sys 13, 0x3FFFF, 0, 0x0⟩
  | .DRM_HASH_B1 => ⟨0xF0020, 1, 0x0, 1, 0x0, .rw, 0x0, 0x3FFFF, .cfg, .sys 13, 0x3FFFF, 0, 0x0⟩
  | .DRM_HASH_B2 => ⟨0xF0024, 1, 0x0, 1, 0x0, .rw, 0x0, 0x3FFFF, .cfg, .sys 13, 0x3FFFF, 0, 0x0⟩
  | .DRM_SR_THR => ⟨0xF0028, 1, 0x0, 1, 0x0, .rw, 0x1388, 0xFFFF, .op, .none, 0x0, 0, 0x0⟩
  | .DRM_RAC_THR => ⟨0xF002C, 1, 0x0, 1, 0x0, .rw, 0x800, 0xFFFF, .cfg, .sys 13, 0xFFFF, 6, 0xFFFF⟩
  | .DRM_SLACK => ⟨0xF0030, 1, 0x0, 1, 0x0, .ro, 0xFFFFFFFF, 0x0, .op, .none, 0x0, 0, 0x0⟩
  | .DRM_MR4 => ⟨0xF0034, 1, 0x0, 1, 0x0, .ro, 0x0, 0x0, .op, .none, 0x0, 0, 0x0⟩
  | .DRM_CAPACITY => ⟨0xF0038, 1, 0x0, 1, 0x0, .ro, 0x4000, 0x0, .op, .none, 0x0, 0, 0x0⟩
  | .DRM_CNT_SR => ⟨0xF0040, 1, 0x0, 1, 0x0, .rs, 0x0, 0x0, .op, .none, 0x0, 0, 0x0⟩
  | .DRM_CNT_FCHG => ⟨0xF0044, 1, 0x0, 1, 0x0, .rs, 0x0, 0x0, .op, .none, 0x0, 0, 0x0⟩
  | .DRM_CNT_FCHG_REJ => ⟨0xF0048, 1, 0x0, 1, 0x0, .rs, 0x0, 0x0, .op, .none, 0x0, 0, 0x0⟩
  | .DRM_CNT_NREF => ⟨0xF004C, 1, 0x0, 1, 0x0, .rs, 0x0, 0x0, .op, .none, 0x0, 0, 0x0⟩
  | .DRM_CNT_RD_RETRY => ⟨0xF0050, 1, 0x0, 1, 0x0, .rs, 0x0, 0x0, .op, .none, 0x0, 0, 0x0⟩
  | .DRM_CNT_RD_FAIL => ⟨0xF0054, 1, 0x0, 1, 0x0, .rs, 0x0, 0x0, .op, .none, 0x0, 0, 0x0⟩
  | .DRM_CNT_TRAIN_RETRY => ⟨0xF0058, 1, 0x0, 1, 0x0, .rs, 0x0, 0x0, .op, .none, 0x0, 0, 0x0⟩
  | .DRM_CNT_OVERTEMP => ⟨0xF005C, 1, 0x0, 1, 0x0, .rs, 0x0, 0x0, .op, .none, 0x0, 0, 0x0⟩
  | .DRM_CNT_MAINT_LATE => ⟨0xF0060, 1, 0x0, 1, 0x0, .rs, 0x0, 0x0, .op, .none, 0x0, 0, 0x0⟩
  | .DRM_CNT_MAP_FULL => ⟨0xF0064, 1, 0x0, 1, 0x0, .rs, 0x0, 0x0, .op, .none, 0x0, 0, 0x0⟩
  | .DRM_CNT_IGNORED => ⟨0xF0068, 1, 0x0, 1, 0x0, .rs, 0x0, 0x0, .op, .none, 0x0, 0, 0x0⟩
  | .DRM_PORTp_CTL => ⟨0xF0100, 13, 0x10, 1, 0x0, .rw, 0x0, 0x3FFFFFF, .op, .none, 0x0, 0, 0x0⟩
  | .DRM_PORTp_TOL => ⟨0xF0104, 13, 0x10, 1, 0x0, .rw, 0x0, 0xFFFFF, .op, .none, 0x0, 0, 0x0⟩
  | .DRM_PORTp_CNT_URG3 => ⟨0xF0108, 13, 0x10, 1, 0x0, .rs, 0x0, 0x0, .op, .none, 0x0, 0, 0x0⟩
  | .DRM_PORTp_CNT_MISS => ⟨0xF010C, 13, 0x10, 1, 0x0, .rs, 0x0, 0x0, .op, .none, 0x0, 0, 0x0⟩
  | .DRM_TSt_CTL => ⟨0xF0200, 2, 0x20, 1, 0x0, .rw, 0x0, 0x7, .cfg, .sys 13, 0x7, 6, 0x7⟩
  | .DRM_TSt_TIM0 => ⟨0xF0204, 2, 0x20, 1, 0x0, .rw, 0xA2A1212, 0xFFFFFFFF, .cfg, .sys 13, 0xFFFFFFFF, 6, 0xFFFFFFFF⟩
  | .DRM_TSt_TIM1 => ⟨0xF0208, 2, 0x20, 1, 0x0, .rw, 0x508C0118, 0xFFFF01FF, .cfg, .sys 13, 0xFFFF01FF, 6, 0xFFFF01FF⟩
  | .DRM_TSt_TIM2 => ⟨0xF020C, 2, 0x20, 1, 0x0, .rw, 0x80A12, 0xFFFFFF, .cfg, .sys 13, 0xFFFFFF, 6, 0xFFFFFF⟩
  | .DRM_ALLOC_LO_k => ⟨0xF0400, 32, 0x8, 1, 0x0, .ro, 0x0, 0x0, .op, .none, 0x0, 0, 0x0⟩
  | .DRM_ALLOC_HI_k => ⟨0xF0404, 32, 0x8, 1, 0x0, .ro, 0x0, 0x0, .op, .none, 0x0, 0, 0x0⟩
  | .MGT_CTL => ⟨0xFA000, 1, 0x0, 1, 0x0, .rw, 0x9, 0xFF, .op, .none, 0x0, 0, 0x0⟩
  | .MGT_STATUS => ⟨0xFA004, 1, 0x0, 1, 0x0, .ro, 0x0, 0x0, .op, .none, 0x0, 0, 0x0⟩
  | .MGT_HEARTBEAT => ⟨0xFA008, 1, 0x0, 1, 0x0, .wo, 0x0, 0x0, .op, .none, 0x0, 0, 0x0⟩
  | .MGT_INT => ⟨0xFA00C, 1, 0x0, 1, 0x0, .rw, 0x0, 0x3F01, .op, .none, 0x0, 0, 0x0⟩
  | .MGT_LINE_TO => ⟨0xFA010, 1, 0x0, 1, 0x0, .rw, 0x0, 0xFFFF, .op, .none, 0x0, 0, 0x0⟩
  | .MGT_CRASH_SEQ => ⟨0xFA014, 1, 0x0, 1, 0x0, .ro, 0x0, 0x0, .op, .none, 0x0, 0, 0x0⟩
  | .MGT_CNT_FRAME_RX => ⟨0xFA040, 1, 0x0, 1, 0x0, .rs, 0x0, 0x0, .op, .none, 0x0, 0, 0x0⟩
  | .MGT_CNT_FRAME_ERR => ⟨0xFA044, 1, 0x0, 1, 0x0, .rs, 0x0, 0x0, .op, .none, 0x0, 0, 0x0⟩
  | .MGT_CNT_UNRESP => ⟨0xFA048, 1, 0x0, 1, 0x0, .rs, 0x0, 0x0, .op, .none, 0x0, 0, 0x0⟩
  | .MGT_CNT_PREEMPT => ⟨0xFA04C, 1, 0x0, 1, 0x0, .rs, 0x0, 0x0, .op, .none, 0x0, 0, 0x0⟩
  | .MGT_CNT_IGNORED => ⟨0xFA050, 1, 0x0, 1, 0x0, .rs, 0x0, 0x0, .op, .none, 0x0, 0, 0x0⟩
  | .MGT_CRASH_i => ⟨0xFB000, 64, 0x4, 1, 0x0, .ro, 0x0, 0x0, .op, .none, 0x0, 0, 0x0⟩
  | .ERR_CTL => ⟨0xFC000, 1, 0x0, 1, 0x0, .rw, 0x1, 0x3F0F, .op, .none, 0x0, 0, 0x0⟩
  | .ERR_STATUS => ⟨0xFC004, 1, 0x0, 1, 0x0, .ro, 0x0, 0x0, .op, .none, 0x0, 0, 0x0⟩
  | .ERR_SAFE_CAUSE => ⟨0xFC008, 1, 0x0, 1, 0x0, .ro, 0x0, 0x0, .op, .none, 0x0, 0, 0x0⟩
  | .ERR_CMD => ⟨0xFC00C, 1, 0x0, 1, 0x0, .wo, 0x0, 0x0, .op, .none, 0x0, 0, 0x0⟩
  | .ERR_GFENCED => ⟨0xFC010, 1, 0x0, 1, 0x0, .ro, 0x0, 0x0, .op, .none, 0x0, 0, 0x0⟩
  | .ERR_LOG_WR => ⟨0xFC014, 1, 0x0, 1, 0x0, .ro, 0x0, 0x0, .op, .none, 0x0, 0, 0x0⟩
  | .ERR_LOG_RD => ⟨0xFC018, 1, 0x0, 1, 0x0, .ro, 0x0, 0x0, .op, .none, 0x0, 0, 0x0⟩
  | .ERR_LOG_IDX => ⟨0xFC01C, 1, 0x0, 1, 0x0, .rw, 0x0, 0xFFFFFFFF, .op, .none, 0x0, 0, 0x0⟩
  | .ERR_LOG_REC_i => ⟨0xFC020, 8, 0x4, 1, 0x0, .ro, 0x0, 0x0, .op, .none, 0x0, 0, 0x0⟩
  | .ERR_CNT_TRANSIENT => ⟨0xFC040, 1, 0x0, 1, 0x0, .rs, 0x0, 0x0, .op, .none, 0x0, 0, 0x0⟩
  | .ERR_CNT_LASTING => ⟨0xFC044, 1, 0x0, 1, 0x0, .rs, 0x0, 0x0, .op, .none, 0x0, 0, 0x0⟩
  | .ERR_CNT_SAFE => ⟨0xFC048, 1, 0x0, 1, 0x0, .rs, 0x0, 0x0, .op, .none, 0x0, 0, 0x0⟩
  | .ERR_CNT_WDOG => ⟨0xFC04C, 1, 0x0, 1, 0x0, .rs, 0x0, 0x0, .op, .none, 0x0, 0, 0x0⟩
  | .ERR_CNT_HSK_TO => ⟨0xFC050, 1, 0x0, 1, 0x0, .rs, 0x0, 0x0, .op, .none, 0x0, 0, 0x0⟩
  | .ERR_CNT_UNDERRUN => ⟨0xFC054, 1, 0x0, 1, 0x0, .rs, 0x0, 0x0, .op, .none, 0x0, 0, 0x0⟩
  | .ERR_CNT_LOST => ⟨0xFC058, 1, 0x0, 1, 0x0, .rs, 0x0, 0x0, .op, .none, 0x0, 0, 0x0⟩
  | .ERR_CNT_IGNORED => ⟨0xFC05C, 1, 0x0, 1, 0x0, .rs, 0x0, 0x0, .op, .none, 0x0, 0, 0x0⟩
  | .SYS_BOOT => ⟨0x70, 1, 0x0, 1, 0x0, .ro, 0x0, 0x0, .op, .none, 0x0, 0, 0x0⟩
  | .SYS_PWR => ⟨0x74, 1, 0x0, 1, 0x0, .ro, 0x0, 0x0, .op, .none, 0x0, 0, 0x0⟩
  | .SYS_CNT_BROWNOUT => ⟨0x78, 1, 0x0, 1, 0x0, .rs, 0x0, 0x0, .op, .none, 0x0, 0, 0x0⟩
  | .ADC_TRIG_ALL => ⟨0xB4000, 1, 0x0, 1, 0x0, .wo, 0x0, 0x0, .op, .none, 0x0, 0, 0x0⟩
  | .Gn_CLK => ⟨0x40040, 8, 0x4000, 1, 0x0, .rw, 0x100000, 0xFFFF0001, .cfg, .group, 0xFFFF0001, 0, 0x0⟩

/-- Registers of the map, part 0. -/
def RegId.part0 : List RegId :=
  [.HST_LINK, .HST_INFLIGHT, .HST_CNT_FLR, .HST_CNT_DOWNTRAIN, .SYS_ID,
   .SYS_FWVER, .SYS_ADDR, .SYS_EPOCH_LO, .SYS_EPOCH_HI, .SYS_EN,
   .SYS_EN_STATUS, .SYS_LOCK, .SYS_SLACK, .SYS_SLACK_THR, .SYS_CNT_SLACK_LOW,
   .SYS_SLACK_MIN, .SYS_CNT_IGNORED, .SYS_LAST_IGN, .SYS_CNT_RESET, .SYS_SCRATCH,
   .TB_CTL, .TB_STATUS, .TB_NOW_LO, .TB_NOW_HI, .TB_NOW_XHI,
   .TB_UTC_OFS, .TB_STEER, .TB_PPSIN_LO, .TB_PPSIN_HI, .TB_CNT_REFLOSS,
   .TB_CNT_LOL, .TB_CNT_STEP, .TB_CNT_IGNORED, .Gn_ANGLE_LO, .Gn_ANGLE_HI,
   .Gn_FREQ_LO, .Gn_FREQ_HI, .Gn_ROC_LO, .Gn_ROC_HI, .Gn_FMIN_LO,
   .Gn_FMIN_HI, .Gn_FMAX_LO, .Gn_FMAX_HI, .Gn_ASTEP_LO, .Gn_ASTEP_HI,
   .Gn_PHASE0_LO, .Gn_PHASE0_HI, .Gn_FNOW_LO, .Gn_FNOW_HI, .Gn_TURN_LO,
   .Gn_TURN_HI, .Gn_BIND, .Gn_FOL_CTL, .Gn_FOL_KP, .Gn_FOL_KI,
   .Gn_FOL_NOM_LO, .Gn_FOL_NOM_HI, .Gn_FOL_PHASE, .Gn_FOL_AMIN, .Gn_FOL_ERR]

/-- Registers of the map, part 1. -/
def RegId.part1 : List RegId :=
  [.Gn_ANG_STATUS, .Gn_CNT_LIMIT, .Gn_CNT_HOLDOVER, .Gn_CNT_RESYNC, .Gn_CNT_FOL_LOSS,
   .Gn_CNT_STAGE_REJ, .PLLx_CTL, .PLLx_STATUS, .PLLx_APPLY, .PLLx_INT,
   .PLLx_FRAC, .PLLx_POST, .PLLx_MOD, .PLLx_FCOUNT, .PLLx_CNT_LOL,
   .PLLx_CNT_APPLY_REJ, .PLLx_CNT_IGNORED, .PLLx_BAND_RANGE_k, .PLLx_BAND_TRIM_k, .PLLA_CTL,
   .PLLA_STATUS, .PLLA_FRAC, .PLLA_CNT_IGNORED, .CKOUT_CTLn, .CKOUT_STATUS,
   .Gn_CTL, .Gn_STATUS, .Gn_FALLBACK, .Gn_STAGE_CTL, .Gn_ENTRY,
   .Gn_SAMPLE_LO, .Gn_SAMPLE_HI, .Gn_LASTSW_LO, .Gn_LASTSW_HI, .Gn_LASTSW_XHI,
   .Gn_LASTSW_INFO, .Gn_GAMBIT, .Gn_TBL_ADDR, .Gn_TBL_DATA, .Gn_CNT_SWITCH,
   .Gn_CNT_LATE, .Gn_CNT_UNHELD, .Gn_CNT_STAGE_OVF, .Gn_CNT_FORCE_REJ, .Gn_CNT_UNDERRUN,
   .Gn_CNT_IGNORED, .EVT_CTL, .EVT_STATUS, .EVT_SOFT, .EVT_LOG_WR,
   .EVT_LOG_RD, .EVT_TM_STATUS, .EVT_CNT_EVENTS, .EVT_CNT_COINCIDENT, .EVT_CNT_LOST,
   .EVT_CNT_CHAIN_LATE, .EVT_CNT_TM_PAST, .EVT_CNT_IGNORED, .EVT_TM_CTL_k, .EVT_TM_LO_k]

/-- Registers of the map, part 2. -/
def RegId.part2 : List RegId :=
  [.EVT_TM_HI_k, .EVT_TM_XHI_k, .EVT_CHTX_n, .EVT_COND_g_i, .HRM_STATUS,
   .HRM_TBL_CRC, .HRM_PEEK_SEL, .HRM_PEEK_AMP_LO, .HRM_PEEK_AMP_HI, .HRM_PEEK_ANG_LO,
   .HRM_PEEK_ANG_HI, .HRM_CNT_AMP_CLAMP, .HRM_CNT_SINE_ERR, .HRM_CNT_IGNORED, .HRM_RATIO_c_p,
   .HRM_PHASE_c_p, .HRM_AMP_c_p, .HRM_SLOPE_c_p, .OUT_STATUS, .OUT_CTL,
   .OUT_DAC_SOURCED, .OUT_DAC_RAMP, .OUT_CNT_ROUTE_REJ, .OUT_CNT_IGNORED, .OUT_DAC_SRC_d,
   .OUT_SV_SRC_s_q, .OUT_SV_SCALE_s_q, .CHn_CTL, .CHn_STATUS, .CHn_GAIN,
   .CHn_OFFSET, .CHn_CLIP_HI, .CHn_CLIP_LO, .CHn_VALUE, .CHn_CNT_CLIP,
   .CHn_CNT_IGNORED, .CHn_CNT_CW_PASS, .CHn_CNT_CW_FAIL, .CHn_CW_STATUS_k, .CHn_CW_START_LO_k,
   .CHn_CW_START_HI_k, .CHn_CW_START_XHI_k, .CHn_CW_COUNT_k, .CHn_CW_EXPECT_k, .CHn_CW_CRC_k,
   .CHn_CW_DONE_k, .DAC_CTL, .DAC_STATUS, .DAC_X2_PERMIT, .DAC_UNDERRUN,
   .DAC_SHORT, .DAC_FENCED, .DAC_MIDSCALE, .DAC_FENCE_CLR, .DAC_CNT_IGNORED,
   .DAC_CFG_d, .DAC_CODE_d, .DAC_CNT_UNDERRUN_d, .DAC_CNT_STALE_d, .DAC_CNT_SHORT_d]

/-- Registers of the map, part 3. -/
def RegId.part3 : List RegId :=
  [.DAC_CNT_FENCE_d, .PAT_CTL, .PAT_MK_LEVEL, .PAT_RUN_LO, .PAT_RUN_HI,
   .PAT_LEVEL_LO, .PAT_LEVEL_HI, .PAT_SHORT_LO, .PAT_SHORT_HI, .PAT_FENCED_LO,
   .PAT_FENCED_HI, .PAT_FENCE_CLR_LO, .PAT_FENCE_CLR_HI, .PAT_OVR_LO, .PAT_OVR_HI,
   .PAT_OVR_CLR_LO, .PAT_OVR_CLR_HI, .PAT_STATIC_LO, .PAT_STATIC_HI, .PAT_DRIVE_LO,
   .PAT_DRIVE_HI, .PAT_PAIR_ERR, .PAT_CNT_IGNORED, .PAT_LANE_n, .PAT_EVT_n,
   .PAT_CNT_MISM_n, .PAT_CNT_FENCE_n, .PAT_MK_m, .BIN_STATE, .BIN_RAW,
   .BIN_VALID, .BIN_CNT_IGNORED, .BIN_CFG_n, .BIN_TIME_LO_n, .BIN_TIME_HI_n,
   .BIN_CNT_EDGE_n, .BIN_CNT_BOUNCE_n, .ADC_CAP_CTL, .ADC_CAP_BASE_LO, .ADC_CAP_BASE_HI,
   .ADC_CAP_WR, .ADC_CAP_RD, .ADC_CAP_CNT_LOST, .ADC_CAP_CNT_IGNORED, .ADCn_CTL,
   .ADCn_STATUS, .ADCn_CMD, .ADCn_TRIG, .ADCn_TRIG_DELAY, .ADCn_TPARAM,
   .ADCn_SEQ, .ADCn_OW_CTL, .ADCn_OW_IVAL, .ADCn_OW_THR, .ADCn_CAL_OFS,
   .ADCn_CAL_GAIN, .ADCn_WSTATE, .ADCn_CNT_TRIG_MISS, .ADCn_CNT_TRIG_LATE, .ADCn_CNT_ABORT]

/-- Registers of the map, part 4. -/
def RegId.part4 : List RegId :=
  [.ADCn_CNT_URG_DROP, .ADCn_CNT_WIN, .ADCn_CNT_OW_FIND, .ADCn_CNT_OW, .ADCn_CNT_CAL_RETRY,
   .ADCn_CNT_APPLY_REJ, .ADCn_CNT_IGNORED, .ADCn_ENTRY_e, .ADCn_WLO_e, .ADCn_WHI_e,
   .ADCn_WHYST_e, .ADCn_RES_e, .ADCn_TS_e, .NET_STATUS, .NET_CNT_IGNORED,
   .NET_Pp_CTL, .NET_Pp_STATUS, .NET_Pp_MAC_LO, .NET_Pp_MAC_HI, .NET_Pp_CNT_RX,
   .NET_Pp_CNT_RX_ERR, .NET_Pp_CNT_RX_DROP, .NET_Pp_CNT_TX, .NET_Pp_CNT_LINKDOWN, .NET_PTP_STATUS,
   .NET_PTP_OFFSET, .NET_PTP_MPD, .NET_PTP_GMID_LO, .NET_PTP_GMID_HI, .NET_PTP_CNT_SYNC,
   .NET_PTP_CNT_LOCKLOSS, .NET_PTP_CNT_FOREIGN, .NET_PTP_CNT_PDELAY_TO, .NET_SV_STATUS_s, .NET_SV_CNT_FRAMES_s,
   .NET_SV_CNT_DROP_s, .NET_SV_CNT_UNDERRUN_s, .NET_GS_STATUS_d, .NET_GS_STNUM_d, .NET_GS_SQNUM_d,
   .NET_GS_CNT_ACCEPT_d, .NET_GS_CNT_REJECT_d, .NET_GS_CNT_GAP_d, .NET_GS_CNT_INCONS_d, .NET_GS_CNT_EXPIRE_d,
   .CHN_CTL, .CHN_STATUS, .CHN_TOL, .CHN_TERR, .CHN_BSEQ,
   .CHN_CENSUS_GEN, .CHN_CENSUS_EPOCH_LO, .CHN_CENSUS_EPOCH_HI, .CHN_SUBTREE, .CHN_ENUM_GEN,
   .CHN_CNT_EXCL, .CHN_CNT_EXCL_RX, .CHN_CNT_JOIN, .CHN_CNT_LEAVE, .CHN_CNT_SUPPR]

/-- Registers of the map, part 5. -/
def RegId.part5 : List RegId :=
  [.CHN_CNT_IGNORED, .CHN_Pp_CTL, .CHN_Pp_STATUS, .CHN_Pp_DELAY, .CHN_Pp_ASYM,
   .CHN_Pp_PARTNER, .CHN_Pp_CNT_CRC, .CHN_Pp_CNT_REPLAY, .CHN_Pp_CNT_RETRAIN, .CHN_Pp_CNT_DOWN,
   .CHN_Pp_CNT_DLY_REJ, .MEM_CTL, .MEM_STATUS, .MEM_CASTLE, .MEM_CASTLE_RES,
   .MEM_PWR_PERMIT, .MEM_SCRUB_PERIOD, .MEM_ERR_ADDR, .MEM_ERR_INFO, .MEM_CNT_CASTLE_REJ,
   .MEM_CNT_PWR_REJ, .MEM_CNT_FOREIGN, .MEM_CNT_IGNORED, .MEM_SETn_OWN, .MEM_SETn_PWR,
   .MEM_SETn_STATUS, .MEM_SETn_CNT_CE, .MEM_SETn_CNT_UE, .MEM_SETn_CNT_STALL, .MEM_SETn_CNT_REPAIR,
   .MEM_GWIN_g, .DRM_CTL, .DRM_STATUS, .DRM_CMD, .DRM_FCHG_RES,
   .DRM_GEOM, .DRM_HASH_CH0, .DRM_HASH_CH1, .DRM_HASH_B0, .DRM_HASH_B1,
   .DRM_HASH_B2, .DRM_SR_THR, .DRM_RAC_THR, .DRM_SLACK, .DRM_MR4,
   .DRM_CAPACITY, .DRM_CNT_SR, .DRM_CNT_FCHG, .DRM_CNT_FCHG_REJ, .DRM_CNT_NREF,
   .DRM_CNT_RD_RETRY, .DRM_CNT_RD_FAIL, .DRM_CNT_TRAIN_RETRY, .DRM_CNT_OVERTEMP, .DRM_CNT_MAINT_LATE,
   .DRM_CNT_MAP_FULL, .DRM_CNT_IGNORED, .DRM_PORTp_CTL, .DRM_PORTp_TOL, .DRM_PORTp_CNT_URG3]

/-- Registers of the map, part 6. -/
def RegId.part6 : List RegId :=
  [.DRM_PORTp_CNT_MISS, .DRM_TSt_CTL, .DRM_TSt_TIM0, .DRM_TSt_TIM1, .DRM_TSt_TIM2,
   .DRM_ALLOC_LO_k, .DRM_ALLOC_HI_k, .MGT_CTL, .MGT_STATUS, .MGT_HEARTBEAT,
   .MGT_INT, .MGT_LINE_TO, .MGT_CRASH_SEQ, .MGT_CNT_FRAME_RX, .MGT_CNT_FRAME_ERR,
   .MGT_CNT_UNRESP, .MGT_CNT_PREEMPT, .MGT_CNT_IGNORED, .MGT_CRASH_i, .ERR_CTL,
   .ERR_STATUS, .ERR_SAFE_CAUSE, .ERR_CMD, .ERR_GFENCED, .ERR_LOG_WR,
   .ERR_LOG_RD, .ERR_LOG_IDX, .ERR_LOG_REC_i, .ERR_CNT_TRANSIENT, .ERR_CNT_LASTING,
   .ERR_CNT_SAFE, .ERR_CNT_WDOG, .ERR_CNT_HSK_TO, .ERR_CNT_UNDERRUN, .ERR_CNT_LOST,
   .ERR_CNT_IGNORED, .SYS_BOOT, .SYS_PWR, .SYS_CNT_BROWNOUT, .ADC_TRIG_ALL,
   .Gn_CLK]

/-- Every register of the map. -/
def RegId.all : List RegId :=
  RegId.part0 ++ RegId.part1 ++ RegId.part2 ++ RegId.part3 ++ RegId.part4 ++ RegId.part5 ++ RegId.part6

/-- The blocks whose registers lie in BAR0 (R80). -/
inductive Blk where
  | sys | tb | plla | pllx | evt | group | chan | hrm | out | dac | pat | bin | adc | adcCap | net | chn | mem | drm
  | hst | mgt | err
  deriving DecidableEq, Repr

/-- The block of each register. -/
def RegId.blk : RegId → Blk
  | .HST_LINK => .hst
  | .HST_INFLIGHT => .hst
  | .HST_CNT_FLR => .hst
  | .HST_CNT_DOWNTRAIN => .hst
  | .SYS_ID => .sys
  | .SYS_FWVER => .sys
  | .SYS_ADDR => .sys
  | .SYS_EPOCH_LO => .sys
  | .SYS_EPOCH_HI => .sys
  | .SYS_EN => .sys
  | .SYS_EN_STATUS => .sys
  | .SYS_LOCK => .sys
  | .SYS_SLACK => .sys
  | .SYS_SLACK_THR => .sys
  | .SYS_CNT_SLACK_LOW => .sys
  | .SYS_SLACK_MIN => .sys
  | .SYS_CNT_IGNORED => .sys
  | .SYS_LAST_IGN => .sys
  | .SYS_CNT_RESET => .sys
  | .SYS_SCRATCH => .sys
  | .TB_CTL => .tb
  | .TB_STATUS => .tb
  | .TB_NOW_LO => .tb
  | .TB_NOW_HI => .tb
  | .TB_NOW_XHI => .tb
  | .TB_UTC_OFS => .tb
  | .TB_STEER => .tb
  | .TB_PPSIN_LO => .tb
  | .TB_PPSIN_HI => .tb
  | .TB_CNT_REFLOSS => .tb
  | .TB_CNT_LOL => .tb
  | .TB_CNT_STEP => .tb
  | .TB_CNT_IGNORED => .tb
  | .Gn_ANGLE_LO => .group
  | .Gn_ANGLE_HI => .group
  | .Gn_FREQ_LO => .group
  | .Gn_FREQ_HI => .group
  | .Gn_ROC_LO => .group
  | .Gn_ROC_HI => .group
  | .Gn_FMIN_LO => .group
  | .Gn_FMIN_HI => .group
  | .Gn_FMAX_LO => .group
  | .Gn_FMAX_HI => .group
  | .Gn_ASTEP_LO => .group
  | .Gn_ASTEP_HI => .group
  | .Gn_PHASE0_LO => .group
  | .Gn_PHASE0_HI => .group
  | .Gn_FNOW_LO => .group
  | .Gn_FNOW_HI => .group
  | .Gn_TURN_LO => .group
  | .Gn_TURN_HI => .group
  | .Gn_BIND => .group
  | .Gn_FOL_CTL => .group
  | .Gn_FOL_KP => .group
  | .Gn_FOL_KI => .group
  | .Gn_FOL_NOM_LO => .group
  | .Gn_FOL_NOM_HI => .group
  | .Gn_FOL_PHASE => .group
  | .Gn_FOL_AMIN => .group
  | .Gn_FOL_ERR => .group
  | .Gn_ANG_STATUS => .group
  | .Gn_CNT_LIMIT => .group
  | .Gn_CNT_HOLDOVER => .group
  | .Gn_CNT_RESYNC => .group
  | .Gn_CNT_FOL_LOSS => .group
  | .Gn_CNT_STAGE_REJ => .group
  | .PLLx_CTL => .pllx
  | .PLLx_STATUS => .pllx
  | .PLLx_APPLY => .pllx
  | .PLLx_INT => .pllx
  | .PLLx_FRAC => .pllx
  | .PLLx_POST => .pllx
  | .PLLx_MOD => .pllx
  | .PLLx_FCOUNT => .pllx
  | .PLLx_CNT_LOL => .pllx
  | .PLLx_CNT_APPLY_REJ => .pllx
  | .PLLx_CNT_IGNORED => .pllx
  | .PLLx_BAND_RANGE_k => .pllx
  | .PLLx_BAND_TRIM_k => .pllx
  | .PLLA_CTL => .plla
  | .PLLA_STATUS => .plla
  | .PLLA_FRAC => .plla
  | .PLLA_CNT_IGNORED => .plla
  | .CKOUT_CTLn => .plla
  | .CKOUT_STATUS => .plla
  | .Gn_CTL => .group
  | .Gn_STATUS => .group
  | .Gn_FALLBACK => .group
  | .Gn_STAGE_CTL => .group
  | .Gn_ENTRY => .group
  | .Gn_SAMPLE_LO => .group
  | .Gn_SAMPLE_HI => .group
  | .Gn_LASTSW_LO => .group
  | .Gn_LASTSW_HI => .group
  | .Gn_LASTSW_XHI => .group
  | .Gn_LASTSW_INFO => .group
  | .Gn_GAMBIT => .group
  | .Gn_TBL_ADDR => .group
  | .Gn_TBL_DATA => .group
  | .Gn_CNT_SWITCH => .group
  | .Gn_CNT_LATE => .group
  | .Gn_CNT_UNHELD => .group
  | .Gn_CNT_STAGE_OVF => .group
  | .Gn_CNT_FORCE_REJ => .group
  | .Gn_CNT_UNDERRUN => .group
  | .Gn_CNT_IGNORED => .group
  | .EVT_CTL => .evt
  | .EVT_STATUS => .evt
  | .EVT_SOFT => .evt
  | .EVT_LOG_WR => .evt
  | .EVT_LOG_RD => .evt
  | .EVT_TM_STATUS => .evt
  | .EVT_CNT_EVENTS => .evt
  | .EVT_CNT_COINCIDENT => .evt
  | .EVT_CNT_LOST => .evt
  | .EVT_CNT_CHAIN_LATE => .evt
  | .EVT_CNT_TM_PAST => .evt
  | .EVT_CNT_IGNORED => .evt
  | .EVT_TM_CTL_k => .evt
  | .EVT_TM_LO_k => .evt
  | .EVT_TM_HI_k => .evt
  | .EVT_TM_XHI_k => .evt
  | .EVT_CHTX_n => .evt
  | .EVT_COND_g_i => .evt
  | .HRM_STATUS => .hrm
  | .HRM_TBL_CRC => .hrm
  | .HRM_PEEK_SEL => .hrm
  | .HRM_PEEK_AMP_LO => .hrm
  | .HRM_PEEK_AMP_HI => .hrm
  | .HRM_PEEK_ANG_LO => .hrm
  | .HRM_PEEK_ANG_HI => .hrm
  | .HRM_CNT_AMP_CLAMP => .hrm
  | .HRM_CNT_SINE_ERR => .hrm
  | .HRM_CNT_IGNORED => .hrm
  | .HRM_RATIO_c_p => .hrm
  | .HRM_PHASE_c_p => .hrm
  | .HRM_AMP_c_p => .hrm
  | .HRM_SLOPE_c_p => .hrm
  | .OUT_STATUS => .out
  | .OUT_CTL => .out
  | .OUT_DAC_SOURCED => .out
  | .OUT_DAC_RAMP => .out
  | .OUT_CNT_ROUTE_REJ => .out
  | .OUT_CNT_IGNORED => .out
  | .OUT_DAC_SRC_d => .out
  | .OUT_SV_SRC_s_q => .out
  | .OUT_SV_SCALE_s_q => .out
  | .CHn_CTL => .chan
  | .CHn_STATUS => .chan
  | .CHn_GAIN => .chan
  | .CHn_OFFSET => .chan
  | .CHn_CLIP_HI => .chan
  | .CHn_CLIP_LO => .chan
  | .CHn_VALUE => .chan
  | .CHn_CNT_CLIP => .chan
  | .CHn_CNT_IGNORED => .chan
  | .CHn_CNT_CW_PASS => .chan
  | .CHn_CNT_CW_FAIL => .chan
  | .CHn_CW_STATUS_k => .chan
  | .CHn_CW_START_LO_k => .chan
  | .CHn_CW_START_HI_k => .chan
  | .CHn_CW_START_XHI_k => .chan
  | .CHn_CW_COUNT_k => .chan
  | .CHn_CW_EXPECT_k => .chan
  | .CHn_CW_CRC_k => .chan
  | .CHn_CW_DONE_k => .chan
  | .DAC_CTL => .dac
  | .DAC_STATUS => .dac
  | .DAC_X2_PERMIT => .dac
  | .DAC_UNDERRUN => .dac
  | .DAC_SHORT => .dac
  | .DAC_FENCED => .dac
  | .DAC_MIDSCALE => .dac
  | .DAC_FENCE_CLR => .dac
  | .DAC_CNT_IGNORED => .dac
  | .DAC_CFG_d => .dac
  | .DAC_CODE_d => .dac
  | .DAC_CNT_UNDERRUN_d => .dac
  | .DAC_CNT_STALE_d => .dac
  | .DAC_CNT_SHORT_d => .dac
  | .DAC_CNT_FENCE_d => .dac
  | .PAT_CTL => .pat
  | .PAT_MK_LEVEL => .pat
  | .PAT_RUN_LO => .pat
  | .PAT_RUN_HI => .pat
  | .PAT_LEVEL_LO => .pat
  | .PAT_LEVEL_HI => .pat
  | .PAT_SHORT_LO => .pat
  | .PAT_SHORT_HI => .pat
  | .PAT_FENCED_LO => .pat
  | .PAT_FENCED_HI => .pat
  | .PAT_FENCE_CLR_LO => .pat
  | .PAT_FENCE_CLR_HI => .pat
  | .PAT_OVR_LO => .pat
  | .PAT_OVR_HI => .pat
  | .PAT_OVR_CLR_LO => .pat
  | .PAT_OVR_CLR_HI => .pat
  | .PAT_STATIC_LO => .pat
  | .PAT_STATIC_HI => .pat
  | .PAT_DRIVE_LO => .pat
  | .PAT_DRIVE_HI => .pat
  | .PAT_PAIR_ERR => .pat
  | .PAT_CNT_IGNORED => .pat
  | .PAT_LANE_n => .pat
  | .PAT_EVT_n => .pat
  | .PAT_CNT_MISM_n => .pat
  | .PAT_CNT_FENCE_n => .pat
  | .PAT_MK_m => .pat
  | .BIN_STATE => .bin
  | .BIN_RAW => .bin
  | .BIN_VALID => .bin
  | .BIN_CNT_IGNORED => .bin
  | .BIN_CFG_n => .bin
  | .BIN_TIME_LO_n => .bin
  | .BIN_TIME_HI_n => .bin
  | .BIN_CNT_EDGE_n => .bin
  | .BIN_CNT_BOUNCE_n => .bin
  | .ADC_CAP_CTL => .adcCap
  | .ADC_CAP_BASE_LO => .adcCap
  | .ADC_CAP_BASE_HI => .adcCap
  | .ADC_CAP_WR => .adcCap
  | .ADC_CAP_RD => .adcCap
  | .ADC_CAP_CNT_LOST => .adcCap
  | .ADC_CAP_CNT_IGNORED => .adcCap
  | .ADCn_CTL => .adc
  | .ADCn_STATUS => .adc
  | .ADCn_CMD => .adc
  | .ADCn_TRIG => .adc
  | .ADCn_TRIG_DELAY => .adc
  | .ADCn_TPARAM => .adc
  | .ADCn_SEQ => .adc
  | .ADCn_OW_CTL => .adc
  | .ADCn_OW_IVAL => .adc
  | .ADCn_OW_THR => .adc
  | .ADCn_CAL_OFS => .adc
  | .ADCn_CAL_GAIN => .adc
  | .ADCn_WSTATE => .adc
  | .ADCn_CNT_TRIG_MISS => .adc
  | .ADCn_CNT_TRIG_LATE => .adc
  | .ADCn_CNT_ABORT => .adc
  | .ADCn_CNT_URG_DROP => .adc
  | .ADCn_CNT_WIN => .adc
  | .ADCn_CNT_OW_FIND => .adc
  | .ADCn_CNT_OW => .adc
  | .ADCn_CNT_CAL_RETRY => .adc
  | .ADCn_CNT_APPLY_REJ => .adc
  | .ADCn_CNT_IGNORED => .adc
  | .ADCn_ENTRY_e => .adc
  | .ADCn_WLO_e => .adc
  | .ADCn_WHI_e => .adc
  | .ADCn_WHYST_e => .adc
  | .ADCn_RES_e => .adc
  | .ADCn_TS_e => .adc
  | .NET_STATUS => .net
  | .NET_CNT_IGNORED => .net
  | .NET_Pp_CTL => .net
  | .NET_Pp_STATUS => .net
  | .NET_Pp_MAC_LO => .net
  | .NET_Pp_MAC_HI => .net
  | .NET_Pp_CNT_RX => .net
  | .NET_Pp_CNT_RX_ERR => .net
  | .NET_Pp_CNT_RX_DROP => .net
  | .NET_Pp_CNT_TX => .net
  | .NET_Pp_CNT_LINKDOWN => .net
  | .NET_PTP_STATUS => .net
  | .NET_PTP_OFFSET => .net
  | .NET_PTP_MPD => .net
  | .NET_PTP_GMID_LO => .net
  | .NET_PTP_GMID_HI => .net
  | .NET_PTP_CNT_SYNC => .net
  | .NET_PTP_CNT_LOCKLOSS => .net
  | .NET_PTP_CNT_FOREIGN => .net
  | .NET_PTP_CNT_PDELAY_TO => .net
  | .NET_SV_STATUS_s => .net
  | .NET_SV_CNT_FRAMES_s => .net
  | .NET_SV_CNT_DROP_s => .net
  | .NET_SV_CNT_UNDERRUN_s => .net
  | .NET_GS_STATUS_d => .net
  | .NET_GS_STNUM_d => .net
  | .NET_GS_SQNUM_d => .net
  | .NET_GS_CNT_ACCEPT_d => .net
  | .NET_GS_CNT_REJECT_d => .net
  | .NET_GS_CNT_GAP_d => .net
  | .NET_GS_CNT_INCONS_d => .net
  | .NET_GS_CNT_EXPIRE_d => .net
  | .CHN_CTL => .chn
  | .CHN_STATUS => .chn
  | .CHN_TOL => .chn
  | .CHN_TERR => .chn
  | .CHN_BSEQ => .chn
  | .CHN_CENSUS_GEN => .chn
  | .CHN_CENSUS_EPOCH_LO => .chn
  | .CHN_CENSUS_EPOCH_HI => .chn
  | .CHN_SUBTREE => .chn
  | .CHN_ENUM_GEN => .chn
  | .CHN_CNT_EXCL => .chn
  | .CHN_CNT_EXCL_RX => .chn
  | .CHN_CNT_JOIN => .chn
  | .CHN_CNT_LEAVE => .chn
  | .CHN_CNT_SUPPR => .chn
  | .CHN_CNT_IGNORED => .chn
  | .CHN_Pp_CTL => .chn
  | .CHN_Pp_STATUS => .chn
  | .CHN_Pp_DELAY => .chn
  | .CHN_Pp_ASYM => .chn
  | .CHN_Pp_PARTNER => .chn
  | .CHN_Pp_CNT_CRC => .chn
  | .CHN_Pp_CNT_REPLAY => .chn
  | .CHN_Pp_CNT_RETRAIN => .chn
  | .CHN_Pp_CNT_DOWN => .chn
  | .CHN_Pp_CNT_DLY_REJ => .chn
  | .MEM_CTL => .mem
  | .MEM_STATUS => .mem
  | .MEM_CASTLE => .mem
  | .MEM_CASTLE_RES => .mem
  | .MEM_PWR_PERMIT => .mem
  | .MEM_SCRUB_PERIOD => .mem
  | .MEM_ERR_ADDR => .mem
  | .MEM_ERR_INFO => .mem
  | .MEM_CNT_CASTLE_REJ => .mem
  | .MEM_CNT_PWR_REJ => .mem
  | .MEM_CNT_FOREIGN => .mem
  | .MEM_CNT_IGNORED => .mem
  | .MEM_SETn_OWN => .mem
  | .MEM_SETn_PWR => .mem
  | .MEM_SETn_STATUS => .mem
  | .MEM_SETn_CNT_CE => .mem
  | .MEM_SETn_CNT_UE => .mem
  | .MEM_SETn_CNT_STALL => .mem
  | .MEM_SETn_CNT_REPAIR => .mem
  | .MEM_GWIN_g => .mem
  | .DRM_CTL => .drm
  | .DRM_STATUS => .drm
  | .DRM_CMD => .drm
  | .DRM_FCHG_RES => .drm
  | .DRM_GEOM => .drm
  | .DRM_HASH_CH0 => .drm
  | .DRM_HASH_CH1 => .drm
  | .DRM_HASH_B0 => .drm
  | .DRM_HASH_B1 => .drm
  | .DRM_HASH_B2 => .drm
  | .DRM_SR_THR => .drm
  | .DRM_RAC_THR => .drm
  | .DRM_SLACK => .drm
  | .DRM_MR4 => .drm
  | .DRM_CAPACITY => .drm
  | .DRM_CNT_SR => .drm
  | .DRM_CNT_FCHG => .drm
  | .DRM_CNT_FCHG_REJ => .drm
  | .DRM_CNT_NREF => .drm
  | .DRM_CNT_RD_RETRY => .drm
  | .DRM_CNT_RD_FAIL => .drm
  | .DRM_CNT_TRAIN_RETRY => .drm
  | .DRM_CNT_OVERTEMP => .drm
  | .DRM_CNT_MAINT_LATE => .drm
  | .DRM_CNT_MAP_FULL => .drm
  | .DRM_CNT_IGNORED => .drm
  | .DRM_PORTp_CTL => .drm
  | .DRM_PORTp_TOL => .drm
  | .DRM_PORTp_CNT_URG3 => .drm
  | .DRM_PORTp_CNT_MISS => .drm
  | .DRM_TSt_CTL => .drm
  | .DRM_TSt_TIM0 => .drm
  | .DRM_TSt_TIM1 => .drm
  | .DRM_TSt_TIM2 => .drm
  | .DRM_ALLOC_LO_k => .drm
  | .DRM_ALLOC_HI_k => .drm
  | .MGT_CTL => .mgt
  | .MGT_STATUS => .mgt
  | .MGT_HEARTBEAT => .mgt
  | .MGT_INT => .mgt
  | .MGT_LINE_TO => .mgt
  | .MGT_CRASH_SEQ => .mgt
  | .MGT_CNT_FRAME_RX => .mgt
  | .MGT_CNT_FRAME_ERR => .mgt
  | .MGT_CNT_UNRESP => .mgt
  | .MGT_CNT_PREEMPT => .mgt
  | .MGT_CNT_IGNORED => .mgt
  | .MGT_CRASH_i => .mgt
  | .ERR_CTL => .err
  | .ERR_STATUS => .err
  | .ERR_SAFE_CAUSE => .err
  | .ERR_CMD => .err
  | .ERR_GFENCED => .err
  | .ERR_LOG_WR => .err
  | .ERR_LOG_RD => .err
  | .ERR_LOG_IDX => .err
  | .ERR_LOG_REC_i => .err
  | .ERR_CNT_TRANSIENT => .err
  | .ERR_CNT_LASTING => .err
  | .ERR_CNT_SAFE => .err
  | .ERR_CNT_WDOG => .err
  | .ERR_CNT_HSK_TO => .err
  | .ERR_CNT_UNDERRUN => .err
  | .ERR_CNT_LOST => .err
  | .ERR_CNT_IGNORED => .err
  | .SYS_BOOT => .sys
  | .SYS_PWR => .sys
  | .SYS_CNT_BROWNOUT => .sys
  | .ADC_TRIG_ALL => .adcCap
  | .Gn_CLK => .group

/-- The BAR0 offset of instance `i`, `j` of a register. -/
def RegId.off (r : RegId) (i j : Nat) : Nat := r.row.base + i * r.row.s1 + j * r.row.s2

/-- The instance that an offset names, if the offset is one of this register's. -/
def RegId.instAt (r : RegId) (off : Nat) : Option (Nat × Nat) :=
  let w := r.row
  if off < w.base then none
  else
    let d := off - w.base
    let i := if w.s1 = 0 then 0 else d / w.s1
    let d' := d - i * w.s1
    let j := if w.s2 = 0 then 0 else d' / w.s2
    if i < w.n1 ∧ j < w.n2 ∧ i * w.s1 + j * w.s2 = d then some (i, j)
    -- where the second index counts in larger steps than the first
    else
      let j := if w.s2 = 0 then 0 else d / w.s2
      let d' := d - j * w.s2
      let i := if w.s1 = 0 then 0 else d' / w.s1
      if i < w.n1 ∧ j < w.n2 ∧ i * w.s1 + j * w.s2 = d then some (i, j) else none

/-- A register and its instance. -/
abbrev RegRef := RegId × Nat × Nat

/-- Search a list of registers for the one at an offset. -/
def RegId.findIn : List RegId → Nat → Option RegRef
  | [], _ => none
  | r :: t, off =>
    match r.instAt off with
    | some (i, j) => some (r, i, j)
    | none => RegId.findIn t off

/-- The register at a BAR0 offset; none where the offset is unmapped (R67). -/
def RegId.at? (off : Nat) : Option RegRef := RegId.findIn RegId.all off

end Sys2Proof.Machine
end

