-- ==== Sys2Proof/Machine/State.lean ====
section
/-!
DEFINITION. The state of the CZG-4810: every register, queue, table, buffer, counter and pin the manual
gives the device, as plain data, the queue of waiting commands, and the state after reset.
-/
namespace Sys2Proof.Machine

/-! ### Plaku queues (R29 to R65) -/

/-- The header fields of a packet (R29). -/
structure Hdr where
  opcode : Nat := 0
  flags : Nat := 0
  version : Nat := 0
  tag : Nat := 0
  queue : Nat := 0
  len : Nat := 0
  seq : Nat := 0
  dest : Nat := 0
  cls : Nat := 0
  deriving DecidableEq, Repr

/-- The reply of a command: status, the original status, the executing device and the result words (R35, R57). -/
structure Reply where
  status : Nat
  orig : Nat
  device : Nat
  result : List Word
  deriving DecidableEq, Repr

/-- Where a fetched packet stands. -/
inductive Phase where
  /-- A repeat that waits at check 5 for its original (R46). -/
  | dupWait
  /-- Accepted, not begun (R41). -/
  | ready
  /-- Begun: it moves data, or waits for a time, a commit point, another device or a unit. -/
  | begun
  /-- Its reply is decided and its completion is not yet posted (R42). -/
  | done
  deriving DecidableEq, Repr

/-- A command in flight (R39): fetched, its completion not yet posted. `k` counts the packets of its queue. -/
structure Cmd where
  k : Nat
  hdr : Hdr
  hraw : List Byte
  payload : List Word
  replyAddr : Nat
  replyLen : Nat
  phase : Phase
  holdsTag : Bool
  reply : Option Reply
  /-- Device time at which its timer started (R49). -/
  timer : Option Nat := none
  deriving DecidableEq, Repr

/-- An entry of a duplicate window (R45): the packet's place in its queue, its sequence number and its reply. -/
structure WinEntry where
  k : Nat
  seq : Nat
  reply : Reply
  deriving DecidableEq, Repr

/-- One command queue: its registers in BAR2 (R60 to R62), its rings, its commands in flight, its
duplicate window and its skip states. Queue 8, the management queue, uses the part behind the registers. -/
structure Queue where
  sqBase : W64 := 0
  cqBase : W64 := 0
  sizeLog2 : Nat := 0
  vec : Nat := 0
  intEn : Bool := false
  en : Bool := false
  enabled : Bool := false
  baseErr : Bool := false
  resetting : Bool := false
  tail : Nat := 0
  sqHead : Nat := 0
  cqTail : Nat := 0
  cqHead : Nat := 0
  phase : Bool := true
  msgSent : Bool := false
  /-- A completion has been posted since the last message and has had none (R59). -/
  owed : Bool := false
  nextK : Nat := 0
  inflight : List Cmd := []
  window : List WinEntry := []
  /-- The classes whose skip state has begun, in that order, each with the place of the command that began it; and the place of the
  packet whose CRC_FAIL began the skip state of every class (R43). -/
  skipClasses : List (Nat × Nat) := []
  skipAll : Option Nat := none
  cntCrc : Word := 0
  cntDup : Word := 0
  cntSkip : Word := 0
  cntTimeout : Word := 0
  cntIgnored : Word := 0
  deriving DecidableEq, Repr

/-! ### Timebase and synthesisers (R85 to R140) -/

/-- A TIME_SET or TIME_SET_CALENDAR that waits for a PPS_IN edge (R92): its queue, its place and its time in grains. -/
structure PpsWait where
  q : Nat
  k : Nat
  time : Nat
  deriving DecidableEq, Repr

/-- The timebase. `now` is device time in grains: 256 to a tick, 800,000,000 ticks to a second (R89). -/
structure Timebase where
  now : Nat := 0
  lock : Bool := false
  refPresent : Bool := false
  holdover : Bool := false
  timeValid : Bool := false
  steer : Int := 0
  stepPending : Option Int := none
  ppsSeen : Bool := false
  ppsOut : Bool := false
  ppsIn : Nat := 0
  ppsWait : List PpsWait := []
  stopPending : Bool := false
  deriving DecidableEq, Repr

/-- PLL B or PLL C beside its registers: the shadow set (R129), an apply that waits for its edge, lock, the band in
effect, a cleared enable that waits for its groups (R504), and the lock detector (R127). -/
structure Pll where
  shInt : Word := 0x3C
  shFrac : Word := 0
  shPost : Word := 0x1E
  shMod : Word := 0
  /-- The apply waits for the first reference edge at or after this time. -/
  applyAt : Option Nat := none
  lock : Bool := false
  band : Nat := 0
  stopPending : Bool := false
  /-- The LFSR as it was last loaded, and the time from which the modulator runs with the values in effect (R123, R124). -/
  lfsr : Nat := 1
  modFrom : Nat := 0
  fcount : Nat := 0
  /-- Consecutive good windows while LOCK is 0, consecutive bad ones while it is 1, and the time up to which windows are not compared. -/
  wins : Nat := 0
  bads : Nat := 0
  suspend : Nat := 0
  deriving DecidableEq, Repr

/-! ### Segments (R141 to R164) -/

/-- The state of a segment (R142). -/
inductive SegSt where
  | free | defined | loading | valid | fenced
  deriving DecidableEq, Repr

/-- A load or a verification under way on a segment: its command, how far it has written, whether the repeat of
R156 is under way, and the CRC of the first try. -/
structure SegJob where
  q : Nat
  k : Nat
  load : Bool
  offset : Nat
  len : Nat
  verify : Bool
  done : Nat
  retry : Bool
  crc : Word
  deriving DecidableEq, Repr

/-- A segment: its state, its descriptor as SEG_DEFINE delivered it (R144), the job that runs on it and the jobs that
wait behind it (R163). -/
structure Segment where
  st : SegSt := .free
  desc : List Word := []
  job : Option SegJob := none
  waiting : List SegJob := []
  /-- The SEG_VERIFY commands with QUERY 0 that run, by queue and place (R154, R163). -/
  verifies : List (Nat × Nat) := []
  deriving DecidableEq, Repr

/-! ### Groups (R104 to R120, R168 to R199, R444 to R450) -/

/-- The state of a group (R168). -/
inductive GState where
  | disabled | stopped | armed | waiting | running | fallback | excluded | stopping
  deriving DecidableEq, Repr

/-- A command of a queue that waits for something: its queue and its place. -/
structure CmdRef where
  q : Nat
  k : Nat
  deriving DecidableEq, Repr

/-- One released or open stage set (R182): staged writes and table entries in order of arrival, its release time, the
command that released it, and, once it is late, how its turn mark is found (R185). -/
structure StageSet where
  writes : List (Nat × Word) := []
  entries : List (Nat × List Word) := []
  r : Nat := 0
  cmd : Option CmdRef := none
  /-- The result of the releasing command where it is not the commit time. -/
  res : Option (List Word) := none
  late : Bool := false
  /-- Turn marks still to pass before a late set applies, counted after the sample of the target that it missed (R185). -/
  marks : Nat := 0
  missN : Nat := 0
  deriving DecidableEq, Repr

/-- A jump that an event or FORCE_JUMP has triggered and that is not resolved yet (R176, R181, R194). -/
structure Trig where
  idx : Nat
  target : Nat
  /-- The earliest presentation time of the switch sample. -/
  earliest : Nat
  seamless : Bool
  /-- The number of the event's log record in the making; none for FORCE_JUMP. -/
  ev : Option Nat
  cmd : Option CmdRef
  delayed : Bool
  heldAt : Option Nat
  deriving DecidableEq, Repr

/-- The content of a gambit region that is held (R179): the region, and the SEG, the SLOT_MASK and the P segment of the entry that it was
fetched for. -/
structure HeldRec where
  region : Nat
  seg : Nat
  mask : Nat
  pseg : Option Nat
  deriving DecidableEq, Repr

/-- A stop that waits for its stop point (R193): its mode, its command and whether the group is then disabled. -/
structure StopReq where
  mode : Nat
  cmd : Option CmdRef
  disable : Bool
  /-- The outputs go to mid-scale at once, without a ramp (R128, R259). -/
  mid : Bool := false
  deriving DecidableEq, Repr

/-- An underrun episode (R444): the first underrun sample and its time, and the entry that is due (R448). -/
structure Episode where
  first : Nat
  firstT : Option Nat
  due : Nat
  deriving DecidableEq, Repr

/-- The state of the follow loop (R117). -/
inductive FolSt where
  | off | free | track | hold
  deriving DecidableEq, Repr

/-- A turn record (R113). -/
structure TurnRec where
  bind : Nat
  turn : W64
  f : W64
  d : W64
  step : W64
  a : W64
  deriving DecidableEq, Repr

/-- The sample frame of a group as one flit carries it (R19): the sample index modulo 2^32, the eight channel slots, the two bits of each
complementary pattern pair, and the check code. -/
structure Frame where
  idx : Nat := 0
  slots : List Word := [0, 0, 0, 0, 0, 0, 0, 0]
  pairs : List (Nat × Bool × Bool) := []
  check : Nat := 0
  deriving DecidableEq, Repr

/-- One channel group: sequencer, angle engine, stage buffer, gambit, follow loop and recovery. -/
structure Group where
  st : GState := .disabled
  startEntry : Nat := 0
  startAt : Nat := 0
  startCmd : Option CmdRef := none
  armCmd : Option CmdRef := none
  /-- The last claim of the group that was granted: its instant and its queue (R468). -/
  claim : Option (Nat × Nat) := none
  stops : List StopReq := []
  /-- The playing entry and the plays that remain (R175). -/
  entry : Nat := 0
  plays : Nat := 0
  /-- The sample index and time of the start of the current play, and the turn boundaries since. -/
  startN : Nat := 0
  startT : Nat := 0
  bounds : Nat := 0
  recTurn : Int := 0
  /-- The number of samples presented; the next sample has this index. -/
  n : Nat := 0
  /-- Presentation times of the last 64 samples, newest first. -/
  times : List Nat := []
  /-- Time, angle and frequency word of the last 16 samples, newest first (R307). -/
  hist : List (Nat × W64 × W64) := []
  a : W64 := 0
  f : W64 := 0
  d : W64 := 0
  turn : W64 := 0
  lastMarkT : Nat := 0
  markN : Option Nat := none
  /-- The sample whose commits have been made. -/
  commitN : Option Nat := none
  flimit : Bool := false
  /-- The values that a commit gives the sample being formed (R104). -/
  cF : Option W64 := none
  cD : Option W64 := none
  cStep : W64 := 0
  /-- The limits in effect of a chain follower, which are those it started with (R463). -/
  ownLim : Option (Int × Int) := none
  /-- Whether the last sample was a turn boundary: 1 a carry, −1 a borrow, 0 none. -/
  wrap : Int := 0
  /-- The step in the last sample's angle; and, while a sample is decided, whether it is a turn boundary once the step that its commits
  bring is added (R104, R108). -/
  stepIn : W64 := 0
  bnd : Option Bool := none
  /-- What the gambit holds in its regions, for the entries in effect and for those of released sets (R178, R179, R187). -/
  held : List HeldRec := []
  openSet : StageSet := {}
  released : List StageSet := []
  relWait : List (Option CmdRef × Option (List Word)) := []
  lastCommit : Nat := 0
  trigs : List Trig := []
  lastSw : Nat := 0
  lastInfo : Word := 0
  episode : Option Episode := none
  due : Nat := 0
  dueHeld : Option Nat := none
  /-- Fallback content is being played (R447); the marks since the boundary. -/
  fb : Bool := false
  fbMarks : Nat := 0
  uSinceMark : Bool := false
  lasting : Bool := false
  /-- Turn marks since the last resumption, while fewer than 16 have come (R449). -/
  sinceResume : Option Nat := none
  fol : FolSt := .off
  folI : Int := 0
  folGood : Nat := 0
  folBad : Nat := 0
  folErr : Word := 0
  folLoss : Bool := false
  /-- Follow results of the turn under way: code and angle (R115). -/
  folRes : List (Int × Nat) := []
  holdover : Bool := false
  turnRecs : List TurnRec := []
  /-- The P segment being played: segment, T0, next step (R267). -/
  pat : Option (Nat × Nat × Nat) := none
  hrmOn : Bool := false
  /-- T-slot positions (R232): slot, accumulator, step. -/
  tpos : List (Nat × Nat × Nat) := []
  rampLeft : Nat := 0
  /-- The last complete frame presented, the frames that have missed their edge and are still to come, whether the frame of the last
  edge was missing, and the lead in samples (R10, R19, R20, R22). -/
  frame : Frame := {}
  late : List Frame := []
  patLost : Bool := false
  lead : Nat := 0
  deriving DecidableEq, Repr

/-! ### Partials, channels, outputs, patterns, inputs (R213 to R287) -/

/-- A partial's accumulators: B of absolute mode and the amplitude accumulator (R214, R218), and the angle of the last
sample (R224). -/
structure Partial where
  b : W64 := 0
  amp : Nat := 0
  clamped : Bool := false
  q : W64 := 0
  peekAmp : Nat := 0
  deriving DecidableEq, Repr

/-- The state of a check window (R245). -/
inductive CwSt where
  | idle | armed | openw | pass | fail | aborted
  deriving DecidableEq, Repr

/-- The values a check window is set with. -/
structure CwSet where
  start : Nat := 0
  count : Nat := 0
  expect : Word := 0
  deriving DecidableEq, Repr

/-- A check window: its settings, its shadow, the CRC register and the codes covered. -/
structure CheckWin where
  st : CwSt := .idle
  cur : CwSet := {}
  shadow : Option CwSet := none
  crc : Word := 0
  done : Nat := 0
  underrun : Bool := false
  missed : Bool := false
  deriving DecidableEq, Repr

/-- A channel beside its registers (R228 to R239). -/
structure Channel where
  run : Bool := false
  conflict : Bool := false
  value : Word := 0
  clipped : Bool := false
  /-- The last sample repeated an earlier one (R20). -/
  repeated : Bool := false
  /-- The time of the last presented sample. -/
  lastT : Nat := 0
  deriving DecidableEq, Repr

/-- What a DAC plays: mid-scale, its live source, or the ramp from code `c0` at edge `k` of group `g` (R258). -/
inductive DacMode where
  | mid
  | live
  | ramp (c0 : Int) (k : Nat) (g : Nat)
  deriving DecidableEq, Repr

/-- Protection state of an output (R262, R277). -/
inductive Prot where
  | normal | off | retry | fenced
  deriving DecidableEq, Repr

/-- A DAC beside its registers (R252 to R265). -/
structure Dac where
  mode : DacMode := .mid
  code : Int := 0
  prot : Prot := .normal
  retryAt : Nat := 0
  overs : Nat := 0
  underrun : Bool := false
  /-- A source waits for the next turn boundary of its group (R241, R263). -/
  waiting : Bool := false
  /-- Queued codes with their sample indices, oldest first (R255): the entries of samples that are due, so never more than the 64. -/
  queue : List (Int × Nat) := []
  /-- The range in effect, and the level held after a range change, in units of 2.5 V / 2^20 (R252, R254). -/
  range : Bool := false
  hold : Option Int := none
  deriving DecidableEq, Repr

/-- A PO pin beside its registers (R267 to R279). -/
structure Pin where
  /-- EN is in effect. -/
  en : Bool := false
  level : Option Bool := none
  ovr : Option Bool := none
  prot : Prot := .normal
  retryAt : Nat := 0
  /-- The level a keeper holds (R275). -/
  keeper : Option Bool := none
  deriving DecidableEq, Repr

/-- A complementary pair: the levels driven on the even and the odd lane, and when the waiting lane goes high (R271). -/
structure Pair where
  a : Bool := false
  b : Bool := false
  makeA : Bool := false
  due : Option Nat := none
  deriving DecidableEq, Repr

/-- A marker: high until the given tick (R274). -/
structure Marker where
  high : Bool := false
  until_ : Nat := 0
  deriving DecidableEq, Repr

/-- A binary input (R280, R281): debounced state, VALID, the last sample and the time of the last change. -/
structure BinIn where
  state : Bool := false
  valid : Bool := false
  raw : Bool := false
  time : Nat := 0
  deriving DecidableEq, Repr

/-! ### Events (R200 to R212) -/

/-- An event stamped and not yet written to the log (R208): source identifier, time-stamp in grains, state after,
DETAIL, flags, and the groups that acted, lost or still wait. -/
structure EvRec where
  id : Nat
  src : Nat
  time : Nat
  state : Bool
  detail : Word
  flags : Nat
  acted : List Nat
  coinc : List Nat
  pending : List Nat
  /-- Group and presentation time of the switch samples. -/
  switches : List (Nat × Nat)
  deriving DecidableEq, Repr

/-- A chain event that waits for its execution time (R204). -/
structure ChainEv where
  num : Nat
  time : Nat
  origin : Nat
  deriving DecidableEq, Repr

/-- The event system beside its registers. -/
structure Events where
  nextId : Nat := 0
  open_ : List EvRec := []
  /-- The ring of written records, newest first, at most 2,048, each as its 32 bytes. -/
  log : List (List Byte) := []
  wr : Word := 0
  rd : Word := 0
  tmFired : Word := 0
  tmPast : Word := 0
  chain : List ChainEv := []
  deriving DecidableEq, Repr

/-- The error log and the safe state (R451 to R459). -/
structure Errs where
  /-- The ring, newest first, at most 2,048 records. -/
  log : List (List Byte) := []
  wr : Word := 0
  rd : Word := 0
  safe : Bool := false
  wdogHalt : Bool := false
  first : Nat := 0
  present : Word := 0
  seen : Word := 0
  gfenced : Word := 0
  lastRestart : Option Nat := none
  /-- Opcode and bytes 4 to 5 of the last command that the control processor began (R432, R456). -/
  lastOp : Nat := 0
  lastTag : Nat := 0
  deriving DecidableEq, Repr

/-! ### On-chip memory and the external-memory controller (R371 to R420) -/

/-- A bank set: owner in effect where it differs from the reset owner, power state, a power change in progress, fence,
the spare rows in use per bank, and the rows that gave a single-bit error in the scrubber's last pass. -/
structure BankSet where
  own : Option Nat := none
  pwr : Nat := 0
  trans : Option Nat := none
  fenced : Bool := false
  /-- At least one field repair is in effect (R393). -/
  field : Bool := false
  spares : List Nat := [0, 0, 0, 0, 0, 0, 0, 0]
  suspect : List (Nat × Nat) := []
  deriving DecidableEq, Repr

/-- A castling in progress (R377). -/
structure Castle where
  set : Nat
  owner : Nat
  clear : Bool
  deriving DecidableEq, Repr

/-- On-chip memory beside its registers. -/
structure Mem where
  bistDone : Bool := false
  bistFail : Bool := false
  castle : Option Castle := none
  stopPending : Bool := false
  deriving DecidableEq, Repr

/-- An entry of the allocation map (R399): first 64 KiB block, length in blocks, owner code. -/
structure Alloc where
  first : Nat
  len : Nat
  owner : Nat
  deriving DecidableEq, Repr

/-- A table of row-activate counts (R410): channel, rank, bank and its entries of row and count. -/
structure RowTable where
  chan : Nat
  rank : Nat
  bank : Nat
  rows : List (Nat × Nat)
  deriving DecidableEq, Repr

/-- The external-memory controller beside its registers. -/
structure Drm where
  trained : Bool := false
  trainFail : Bool := false
  training : Bool := false
  /-- Channels that FENCE_CLR retrains. -/
  retrain : List Nat := []
  setTrained : List Nat := []
  selfref : Bool := false
  powerDown : List Nat := []
  fchgBusy : Bool := false
  active : Nat := 0
  fenced : List Nat := []
  mr4 : List Nat := [0, 0, 0, 0]
  mr4Valid : Bool := false
  maintLate : Bool := false
  stopPending : Bool := false
  /-- The allocation map by index. -/
  alloc : KMap Alloc := []
  mapMade : Bool := false
  rows : List RowTable := []
  slack : Nat := 0xFFFFFFFF
  deriving DecidableEq, Repr

/-! ### Readback converters (R288 to R313) -/

/-- Open-wire state of an input (R305). -/
inductive OwSt where
  | clean | suspect | opened
  deriving DecidableEq, Repr

/-- Open-wire detection of one input: its state, clean slots in a row, and the hold edge of the last clean slot. -/
structure OwIn where
  st : OwSt := .clean
  good : Nat := 0
  lastClean : Nat := 0
  deriving DecidableEq, Repr

/-- What a slot converts: an entry of the sequence, an urgent request, or a detection input (R290, R295, R304). -/
inductive SlotKind where
  | entry (e : Nat)
  | urgent (sel : Nat) (cmd : CmdRef)
  | detect (i : Nat)
  deriving DecidableEq, Repr

/-- A slot of a unit: the start of its acquisition and its hold edge, in grains (R290). -/
structure Slot where
  kind : SlotKind
  start : Nat
  hold : Nat
  deriving DecidableEq, Repr

/-- A window: LO, HI and HYST as registers hold them (R302). -/
structure WinSet where
  lo : Word := 0xFFFE0000
  hi : Word := 0x0001FFFF
  hyst : Word := 0
  deriving DecidableEq, Repr

/-- A converter unit beside its registers. -/
structure Adc where
  run : Bool := false
  refReady : Bool := false
  refAt : Nat := 0
  calValid : Bool := false
  fenced : Bool := false
  cal : Option CmdRef := none
  /-- Slots not yet latched, in latch order: those of a run are laid out when it is triggered. -/
  slots : List Slot := []
  idleAt : Nat := 0
  detDue : Bool := false
  detNext : Nat := 0
  trigAt : Option Nat := none
  applyPend : Bool := false
  /-- The shadow of the windows by entry (R303). -/
  shadow : KMap WinSet := []
  /-- Hold edges of the result registers by entry, in grains. -/
  holds : KMap Nat := []
  ow : KMap OwIn := []
  deriving DecidableEq, Repr

/-! ### Network (R314 to R335) -/

/-- An Ethernet port beside its registers. -/
structure NetPort where
  run : Bool := false
  link : Bool := false
  anDone : Bool := false
  deriving DecidableEq, Repr

/-- An instant gathered for a frame: smpCnt, the value and quality of the 8 quantities, and smpSynch (R319, R320). -/
structure SvInst where
  k : Nat
  q : List (Int × Nat)
  synch : Nat
  deriving DecidableEq, Repr

/-- A sampled-value stream: the payload of SV_CONFIG, its enable, and the instants gathered for its next frame, each with the
value and quality of the 8 quantities (R316 to R322). `inst` is the next instant, counted from second 0. -/
structure SvStream where
  cfg : List Word := []
  en : Bool := false
  run : Bool := false
  inst : Nat := 0
  buf : List SvInst := []
  last : List Int := []
  /-- The payload of an SV_CONFIG that waits for the frame in progress to end (R316). -/
  next : Option (List Word) := none
  deriving DecidableEq, Repr

/-- A GOOSE subscription: the payload of GOOSE_SUB and its state (R323 to R327): 0 OFF, 1 WAIT, 2 VALID, 3 EXPIRED. -/
structure GooseSub where
  cfg : List Word := []
  st : Nat := 0
  confErr : Bool := false
  bools : List Bool := []
  stNum : Nat := 0
  sqNum : Nat := 0
  expires : Nat := 0
  deriving DecidableEq, Repr

/-- The PTP clock (R328 to R331): the payload of PTP_CONFIG, its port state, lock and the master it follows. -/
structure Ptp where
  cfg : List Word := []
  run : Bool := false
  st : Nat := 0
  lock : Bool := false
  good : Nat := 0
  bad : Nat := 0
  foreign : Bool := false
  foreignAt : Nat := 0
  utcValid : Bool := false
  master : Option W64 := none
  lastAnnounce : Nat := 0
  lastSync : Nat := 0
  pdelayWait : Bool := false
  seqSync : Nat := 0
  seqAnn : Nat := 0
  seqPd : Nat := 0
  deriving DecidableEq, Repr

/-! ### The Gunter chain (R336 to R370) -/

/-- A DATA flit that is sent and not acknowledged (R343): its sequence number, its VC field, its body and its replays. -/
structure TxFlit where
  seq : Nat
  vcf : Nat
  body : List Byte
  tries : Nat
  deriving DecidableEq, Repr

/-- A message or a VC2 record received on a port (R340, R352, R359). -/
structure Msg where
  port : Nat
  vc : Nat
  internal : Bool
  bcast : Bool
  dest : Nat
  src : Nat
  num : Nat
  content : List Byte
  deriving DecidableEq, Repr

/-- A chain port beside its registers: link state (R345), partner, replay (R343), credits (R341), reassembly and the delay
measurements of R349. -/
structure ChnPort where
  st : Nat := 0
  peerErr : Bool := false
  partner : Option (Nat × Bool × Nat) := none
  txSeq : Nat := 0
  rxNext : Nat := 0
  nakSent : Bool := false
  replay : List TxFlit := []
  /-- Bodies that wait for a credit, by VC. -/
  wait0 : List (List Byte) := []
  wait1 : List (List Byte) := []
  wait2 : List (List Byte) := []
  credits : List Nat := [8, 8, 8, 40]
  owed : List Nat := [0, 0, 0, 0]
  asm0 : Option Msg := none
  asm1 : Option Msg := none
  delays : List Int := []
  deriving DecidableEq, Repr

/-- An exchange that waits for its ports (R361): an enumeration, an alignment or a broadcast reply. `got` lists the ports that
have answered with their numbers. -/
structure Xact where
  gen : Nat
  mode : Nat
  cmd : Option CmdRef
  /-- 0 counting, 1 assigning. -/
  phase : Nat
  ports : List Nat
  got : List (Nat × List Nat)
  /-- What this device adds to its ports' numbers. -/
  own : List Nat
  depth : Nat
  deriving DecidableEq, Repr

/-- A census at the root (R362, R363): its command, its table of address, check flag and epoch, and the reports. -/
structure Census where
  gen : Nat
  cmd : CmdRef
  listAddr : Nat
  table : List (Nat × Bool × W64)
  reports : List (Nat × List Byte)
  deriving DecidableEq, Repr

/-- A broadcast under way on this device (R356, R357): its number, where its command stands, and the replies of this device and
of the ports: executed, failed, lowest failing address, its status, highest success code, CRC. -/
structure Bcast where
  num : Nat
  cmd : CmdRef
  ports : List Nat
  own : Option (List Nat)
  got : List (Nat × List Nat)
  deriving DecidableEq, Repr

/-- The chain block beside its registers. -/
structure Chain where
  enumerated : Bool := false
  depth : Nat := 0
  excluded : Bool := false
  censusOk : Bool := false
  aligned : Bool := false
  /-- SYNC and GLOBAL of the last TIME flit, and the sender's CHN_TERR in it. -/
  upSync : Bool := false
  upGlobal : Bool := false
  lastTime : Nat := 0
  timed : Bool := false
  offset : Int := 0
  /-- Since when every reading has lain outside the tolerance. -/
  outSince : Option Nat := none
  /-- Known routes by address: 1 this device, 2 port 1, 3 port 2. -/
  route : KMap Nat := []
  linkInst : Nat := 0
  msgNum : Nat := 0
  bnext : Nat := 0
  /-- Broadcast markers received and not executed, by number: source and message number. -/
  markers : List (Nat × Nat × Nat) := []
  inbox : List Msg := []
  enum_ : Option Xact := none
  align : Option Xact := none
  census : Option Census := none
  censusGen : Nat := 0
  bcasts : List Bcast := []
  /-- Delay series of an alignment still to run on port 0. -/
  series : Nat := 0
  /-- Chain events to be sent at a time (R355): number, time and command. -/
  timed_ : List (Nat × Nat × CmdRef) := []
  /-- Commands that came over the chain, by their place in queue 9: port, source and message number. -/
  from_ : KMap (Nat × Nat × Nat) := []
  deriving DecidableEq, Repr

/-! ### The island, the firmware store and the host link (R421 to R434, R472 to R486, R54 to R65) -/

/-- A command that the island executed itself, in its window of 16 (R426). -/
structure MgtEntry where
  seq : Nat
  reply : Reply
  deriving DecidableEq, Repr

/-- What the last heartbeat left for crash records (R432). -/
structure Heartbeat where
  time : Nat := 0
  fw : Word := 0
  opcode : Nat := 0
  tag : Nat := 0
  tb : Word := 0
  groups : Word := 0
  drm : Word := 0
  addr : Nat := 0
  deriving DecidableEq, Repr

/-- The island beside its registers. -/
structure Mgt where
  mainPwr : Bool := false
  mainRun : Bool := false
  unresp : Bool := false
  safeReq : Bool := false
  rst : Bool := false
  lineActive : Bool := false
  pwrEn : Bool := true
  /-- The main supplies are known to be out of range, or RST_N is low: the main reset may not be released. -/
  down : Bool := false
  window : List MgtEntry := []
  /-- Queue-8 completions that wait for a reply slot, oldest first. -/
  replies : List (List Byte) := []
  /-- Replies of the island that wait for the forwarded commands submitted before them, oldest first: the place in queue 8 that those
  commands lie below, and the reply (R42). -/
  held : List (Nat × List Byte) := []
  /-- RESET_MAIN packets whose replies wait for the release of the reset, oldest first. -/
  rstCmds : List (List Byte) := []
  /-- VDD_MG is absent: the island is stopped (R478). -/
  off : Bool := false
  hb : Heartbeat := {}
  deriving DecidableEq, Repr

/-- An update session (R482). -/
structure FwSession where
  queue : Nat
  slot : Nat
  len : Nat
  data : List Byte
  deriving DecidableEq, Repr

/-- The firmware store (R479 to R482): the slot marked active and the images that FW_DATA has stored; an unlisted slot holds
what it was made with. -/
structure FwStore where
  active : Nat := 0
  slots : KMap (List Byte) := []
  session : Option FwSession := none
  deriving DecidableEq, Repr

/-- The fields of PCI Express configuration space that can change (R54, R65): the MSI-X enable and function mask, the power state (0 D0,
3 D3hot), and the codes of the maximum payload and read-request sizes. DESIGN CHOICE: after reset the function stands as the host
has configured it for use. -/
structure PciFn where
  msixEn : Bool := true
  msixMask : Bool := false
  power : Nat := 0
  maxPayload : Nat := 0
  maxRead : Nat := 0
  deriving DecidableEq, Repr

/-- The PCI Express link (R54, R63): speed code, width and whether it is up. -/
structure HostLink where
  speed : Nat := 0
  width : Nat := 0
  up : Bool := false
  deriving DecidableEq, Repr

/-! ### The device -/

/-- What the device has put out on its links, newest first: the model's record of it, no register of the device. -/
inductive Sent where
  | msix (vec : Nat)
  /-- A completion entry: its queue, its index, its host address and its bytes. -/
  | completion (q idx addr : Nat) (entry : List Byte)
  /-- A read of host memory. -/
  | hostRead (addr len : Nat)
  | dma (addr : Nat) (bytes : List Byte)
  | readData (words : List Word)
  | eth (port : Nat) (frame : List Byte)
  /-- A PTP message: 0 Sync, 1 Follow_Up, 3 Pdelay_Req, 4 Pdelay_Resp, 5 Pdelay_Resp_Follow_Up; its layout is IEEE 1588's. -/
  | ptp (port kind seq : Nat)
  /-- An Announce with the UTC offset that it announces, as TB_UTC_OFS holds it (R95). -/
  | announce (port seq : Nat) (utc : Word)
  | flit (port : Nat) (bytes : List Byte)
  | ordered (port : Nat) (kind : Nat)
  | mgmt (frame : List Byte)
  deriving DecidableEq, Repr

/-- The CZG-4810. -/
structure State where
  /-- Commands that wait, first in first out. -/
  pending : List Instr := []
  /-- BAR0 registers that hold a value, by offset; an unlisted register holds its reset value. -/
  regs : KMap Word := []
  /-- The MSI-X table words by BAR2 offset, and the pending vectors. -/
  msix : KMap Word := []
  msixPend : List Nat := []
  queues : KMap Queue := []
  tb : Timebase := {}
  plls : KMap Pll := []
  segs : KMap Segment := []
  groups : KMap Group := []
  /-- Table entries in effect, by group × 1024 + entry. -/
  tables : KMap (List Word) := []
  partials : KMap Partial := []
  chans : KMap Channel := []
  wins : KMap CheckWin := []
  dacs : KMap Dac := []
  pins : KMap Pin := []
  pairs : KMap Pair := []
  markers : KMap Marker := []
  bins : KMap BinIn := []
  ev : Events := {}
  err : Errs := {}
  /-- On-chip memory bytes by set × 0x18_0000 + offset; an unlisted byte reads zero. -/
  onchip : KMap Byte := []
  /-- External memory bytes that have been written. -/
  ext : KMap Byte := []
  /-- The firmware runs: packets are fetched and commands execute (R441, R480). -/
  fwReady : Bool := false
  bsets : KMap BankSet := []
  mem : Mem := {}
  drm : Drm := {}
  adcs : KMap Adc := []
  netPorts : KMap NetPort := []
  streams : KMap SvStream := []
  subs : KMap GooseSub := []
  ptp : Ptp := {}
  chn : Chain := {}
  ports : KMap ChnPort := []
  mgt : Mgt := {}
  fw : FwStore := {}
  link : HostLink := {}
  pci : PciFn := {}
  /-- The time at which the interval of the slack monitor last began (R16). -/
  slackFrom : Nat := 0
  /-- Blocks of SYS_EN whose change waits for every group to stop: 4 HRM, 5 OUT, 6 DAC (R223, R248, R260). -/
  enWait : List Nat := []
  /-- Latched high words by master and register (R67, R68). -/
  latches : KMap Word := []
  /-- The number of free values drawn so far: the model's own field. -/
  drawn : Nat := 0
  sent : List Sent := []
  deriving DecidableEq, Repr

/-- Why the machine stops. No command of this device stops it: every meaning answers a next state. -/
inductive Fault where
  /-- Raised by no meaning; the device has no fault that ends its operation. Safe. -/
  | halted
  deriving DecidableEq, Repr

/-- Why a command has no meaning. -/
inductive Refusal where
  /-- An arm of `exec` that is not modelled yet, by the row's mnemonic. Safe. -/
  | notModelled (mnemonic : String)
  deriving DecidableEq, Repr

/-- The device right after reset: every register at its table's value, nothing in memory, no command waiting. -/
def State.reset : State := {}

end Sys2Proof.Machine
end

