-- ==== Sys2Proof/Machine/Ops.lean ====
section
/-!
DEFINITION. The named operations over the state that every block uses: registers and their fields,
the instances of a block, device time, saturating counters, MSI-X messages, the error log, ignored
writes, the completion of a command in flight, and safe state.
-/
namespace Sys2Proof.Machine

/-! ### Registers -/

/-- The reset value of an instance of a register, where the tables give one per instance (R224, R394, R418, R419). -/
def RegId.resetAt (r : RegId) (i j : Nat) : Word :=
  match r with
  | .HRM_RATIO_c_p => mkW ((j + 1) * 0x10000)
  | .MEM_SETn_OWN => if i < 2 then 3 else if i < 4 then 2 else 1
  | .MEM_GWIN_g => mkW (0x80000000 + (2 + i / 6) + i % 6 * 256)
  | .DRM_PORTp_CTL =>
    mkW (64 * 65536 + if i < 9 then 1000 else if i = 9 then 5000 else if i < 12 then 2000 else 10000)
  | .DRM_PORTp_TOL => if i < 9 then 0 else if i = 10 then 20 else if i = 11 then 50 else 100
  | .ADCn_CTL => if i < 14 then 0 else 2
  | .DRM_TSt_CTL => if i = 0 then 5 else 1
  | _ => mkW r.row.reset

/-- What a register holds. -/
def State.rd (s : State) (r : RegId) (i : Nat := 0) (j : Nat := 0) : Word :=
  KMap.getD s.regs (r.off i j) (r.resetAt i j)

/-- Store a value in a register. -/
def State.wr (s : State) (r : RegId) (i j : Nat) (v : Word) : State :=
  { s with regs := KMap.put s.regs (r.off i j) v (r.resetAt i j) }

/-- Bits `hi:lo` of a register. -/
def State.rf (s : State) (r : RegId) (i j hi lo : Nat) : Nat := fld (s.rd r i j) hi lo

/-- Bit `b` of a register. -/
def State.rb (s : State) (r : RegId) (i j b : Nat) : Bool := bit (s.rd r i j) b

/-- Set or clear bit `b` of a register. -/
def State.wrb (s : State) (r : RegId) (i j b : Nat) (v : Bool) : State := s.wr r i j (setBit (s.rd r i j) b v)

/-- One count of a saturating counter (R76). -/
def State.bump (s : State) (r : RegId) (i : Nat := 0) (j : Nat := 0) : State := s.wr r i j (satInc (s.rd r i j))

/-- A 64-bit quantity in a _LO and _HI pair. -/
def State.rd64 (s : State) (lo hi : RegId) (i : Nat) : W64 := join64 (s.rd lo i) (s.rd hi i)

/-- Store a 64-bit quantity in a _LO and _HI pair. -/
def State.wr64 (s : State) (lo hi : RegId) (i : Nat) (v : W64) : State :=
  (s.wr lo i 0 (lo32 v.toNat)).wr hi i 0 (hi32 v.toNat)

/-- The running bit of a single-instance block: a bit of SYS_EN_STATUS (R72). -/
def State.running (s : State) (b : Nat) : Bool := s.rb .SYS_EN_STATUS 0 0 b

/-- Set or clear the running bit of a single-instance block. -/
def State.setRunning (s : State) (b : Nat) (v : Bool) : State := s.wrb .SYS_EN_STATUS 0 0 b v

/-! ### Instances -/

/-- The state of a command queue. -/
def State.q (s : State) (i : Nat) : Queue := KMap.getD s.queues i {}

/-- Replace the state of a command queue. -/
def State.setQ (s : State) (i : Nat) (x : Queue) : State := { s with queues := KMap.insert s.queues i x }

/-- Change the state of a command queue. -/
def State.modQ (s : State) (i : Nat) (h : Queue → Queue) : State := s.setQ i (h (s.q i))

/-- The state of a synthesiser (0 PLL B, 1 PLL C). -/
def State.pll (s : State) (i : Nat) : Pll := KMap.getD s.plls i {}

/-- Replace the state of a synthesiser (0 PLL B, 1 PLL C). -/
def State.setPll (s : State) (i : Nat) (x : Pll) : State := { s with plls := KMap.insert s.plls i x }

/-- Change the state of a synthesiser (0 PLL B, 1 PLL C). -/
def State.modPll (s : State) (i : Nat) (h : Pll → Pll) : State := s.setPll i (h (s.pll i))

/-- The state of a segment. -/
def State.seg (s : State) (i : Nat) : Segment := KMap.getD s.segs i {}

/-- Replace the state of a segment. -/
def State.setSeg (s : State) (i : Nat) (x : Segment) : State := { s with segs := KMap.insert s.segs i x }

/-- Change the state of a segment. -/
def State.modSeg (s : State) (i : Nat) (h : Segment → Segment) : State := s.setSeg i (h (s.seg i))

/-- The state of a group. -/
def State.grp (s : State) (i : Nat) : Group := KMap.getD s.groups i {}

/-- Replace the state of a group. -/
def State.setGrp (s : State) (i : Nat) (x : Group) : State := { s with groups := KMap.insert s.groups i x }

/-- Change the state of a group. -/
def State.modGrp (s : State) (i : Nat) (h : Group → Group) : State := s.setGrp i (h (s.grp i))

/-- The state of a partial, by 64 × channel + partial. -/
def State.prt (s : State) (i : Nat) : Partial := KMap.getD s.partials i {}

/-- Replace the state of a partial, by 64 × channel + partial. -/
def State.setPrt (s : State) (i : Nat) (x : Partial) : State := { s with partials := KMap.insert s.partials i x }

/-- Change the state of a partial, by 64 × channel + partial. -/
def State.modPrt (s : State) (i : Nat) (h : Partial → Partial) : State := s.setPrt i (h (s.prt i))

/-- The state of a channel. -/
def State.chan (s : State) (i : Nat) : Channel := KMap.getD s.chans i {}

/-- Replace the state of a channel. -/
def State.setChan (s : State) (i : Nat) (x : Channel) : State := { s with chans := KMap.insert s.chans i x }

/-- Change the state of a channel. -/
def State.modChan (s : State) (i : Nat) (h : Channel → Channel) : State := s.setChan i (h (s.chan i))

/-- The state of a check window, by 4 × channel + window. -/
def State.win (s : State) (i : Nat) : CheckWin := KMap.getD s.wins i {}

/-- Replace the state of a check window, by 4 × channel + window. -/
def State.setWin (s : State) (i : Nat) (x : CheckWin) : State := { s with wins := KMap.insert s.wins i x }

/-- Change the state of a check window, by 4 × channel + window. -/
def State.modWin (s : State) (i : Nat) (h : CheckWin → CheckWin) : State := s.setWin i (h (s.win i))

/-- The state of a DAC. -/
def State.dac (s : State) (i : Nat) : Dac := KMap.getD s.dacs i {}

/-- Replace the state of a DAC. -/
def State.setDac (s : State) (i : Nat) (x : Dac) : State := { s with dacs := KMap.insert s.dacs i x }

/-- Change the state of a DAC. -/
def State.modDac (s : State) (i : Nat) (h : Dac → Dac) : State := s.setDac i (h (s.dac i))

/-- The state of a PO pin. -/
def State.pin (s : State) (i : Nat) : Pin := KMap.getD s.pins i {}

/-- Replace the state of a PO pin. -/
def State.setPin (s : State) (i : Nat) (x : Pin) : State := { s with pins := KMap.insert s.pins i x }

/-- Change the state of a PO pin. -/
def State.modPin (s : State) (i : Nat) (h : Pin → Pin) : State := s.setPin i (h (s.pin i))

/-- The state of a complementary pair. -/
def State.pair (s : State) (i : Nat) : Pair := KMap.getD s.pairs i {}

/-- Replace the state of a complementary pair. -/
def State.setPair (s : State) (i : Nat) (x : Pair) : State := { s with pairs := KMap.insert s.pairs i x }

/-- Change the state of a complementary pair. -/
def State.modPair (s : State) (i : Nat) (h : Pair → Pair) : State := s.setPair i (h (s.pair i))

/-- The state of a marker. -/
def State.mrk (s : State) (i : Nat) : Marker := KMap.getD s.markers i {}

/-- Replace the state of a marker. -/
def State.setMrk (s : State) (i : Nat) (x : Marker) : State := { s with markers := KMap.insert s.markers i x }

/-- Change the state of a marker. -/
def State.modMrk (s : State) (i : Nat) (h : Marker → Marker) : State := s.setMrk i (h (s.mrk i))

/-- The state of a binary input. -/
def State.bin (s : State) (i : Nat) : BinIn := KMap.getD s.bins i {}

/-- Replace the state of a binary input. -/
def State.setBin (s : State) (i : Nat) (x : BinIn) : State := { s with bins := KMap.insert s.bins i x }

/-- Change the state of a binary input. -/
def State.modBin (s : State) (i : Nat) (h : BinIn → BinIn) : State := s.setBin i (h (s.bin i))

/-- The state of a bank set. -/
def State.bset (s : State) (i : Nat) : BankSet := KMap.getD s.bsets i {}

/-- Replace the state of a bank set. -/
def State.setBset (s : State) (i : Nat) (x : BankSet) : State := { s with bsets := KMap.insert s.bsets i x }

/-- Change the state of a bank set. -/
def State.modBset (s : State) (i : Nat) (h : BankSet → BankSet) : State := s.setBset i (h (s.bset i))

/-- The state of a converter unit. -/
def State.adc (s : State) (i : Nat) : Adc := KMap.getD s.adcs i {}

/-- Replace the state of a converter unit. -/
def State.setAdc (s : State) (i : Nat) (x : Adc) : State := { s with adcs := KMap.insert s.adcs i x }

/-- Change the state of a converter unit. -/
def State.modAdc (s : State) (i : Nat) (h : Adc → Adc) : State := s.setAdc i (h (s.adc i))

/-- The state of a Ethernet port. -/
def State.netp (s : State) (i : Nat) : NetPort := KMap.getD s.netPorts i {}

/-- Replace the state of a Ethernet port. -/
def State.setNetp (s : State) (i : Nat) (x : NetPort) : State := { s with netPorts := KMap.insert s.netPorts i x }

/-- Change the state of a Ethernet port. -/
def State.modNetp (s : State) (i : Nat) (h : NetPort → NetPort) : State := s.setNetp i (h (s.netp i))

/-- The state of a sampled-value stream. -/
def State.sv (s : State) (i : Nat) : SvStream := KMap.getD s.streams i {}

/-- Replace the state of a sampled-value stream. -/
def State.setSv (s : State) (i : Nat) (x : SvStream) : State := { s with streams := KMap.insert s.streams i x }

/-- Change the state of a sampled-value stream. -/
def State.modSv (s : State) (i : Nat) (h : SvStream → SvStream) : State := s.setSv i (h (s.sv i))

/-- The state of a GOOSE subscription. -/
def State.gs (s : State) (i : Nat) : GooseSub := KMap.getD s.subs i {}

/-- Replace the state of a GOOSE subscription. -/
def State.setGs (s : State) (i : Nat) (x : GooseSub) : State := { s with subs := KMap.insert s.subs i x }

/-- Change the state of a GOOSE subscription. -/
def State.modGs (s : State) (i : Nat) (h : GooseSub → GooseSub) : State := s.setGs i (h (s.gs i))

/-- The state of a chain port. -/
def State.port (s : State) (i : Nat) : ChnPort := KMap.getD s.ports i {}

/-- Replace the state of a chain port. -/
def State.setPort (s : State) (i : Nat) (x : ChnPort) : State := { s with ports := KMap.insert s.ports i x }

/-- Change the state of a chain port. -/
def State.modPort (s : State) (i : Nat) (h : ChnPort → ChnPort) : State := s.setPort i (h (s.port i))

/-- The entries of a table that is not written (R172). -/
def resetEntry : List Word := [0x03000000, 0, 0, 0, 0, 0, 0, 0]

/-- The entry in effect of a group's table. -/
def State.entry (s : State) (g e : Nat) : List Word := KMap.getD s.tables (g * 1024 + e) resetEntry

/-- Write an entry of a group's table. -/
def State.setEntry (s : State) (g e : Nat) (ws : List Word) : State :=
  { s with tables := KMap.put s.tables (g * 1024 + e) ws resetEntry }

/-! ### Device time (R7, R89) -/

/-- Grains in a tick. -/
def grainsPerTick : Nat := 256

/-- Grains in a second. -/
def grainsPerSec : Nat := 800000000 * 256

/-- Ticks as grains. -/
def ticks (n : Nat) : Nat := n * 256

/-- Nanoseconds as grains: 0.8 ticks each, rounded up. -/
def nsec (n : Nat) : Nat := ceilDiv (n * 1024) 5

/-- Microseconds as grains. -/
def usec (n : Nat) : Nat := n * 800 * 256

/-- Milliseconds as grains. -/
def msec (n : Nat) : Nat := n * 800000 * 256

/-- The seconds of a time in grains. -/
def secOf (t : Nat) : Nat := t / grainsPerSec % 2 ^ 48

/-- The tick-of-second of a time in grains. -/
def tickOf (t : Nat) : Nat := t / 256 % 800000000

/-- The grain of a time in grains. -/
def grainOf (t : Nat) : Nat := t % 256

/-- A time from its seconds, tick-of-second and grain. -/
def mkTime (sec tick grain : Nat) : Nat := (sec * 800000000 + tick) * 256 + grain

/-- The first tick edge at or after a time. -/
def nextTick (t : Nat) : Nat := ceilDiv t 256 * 256

/-- A time as words 0 to 2 of TIME_GET (R94). -/
def timeWords (t : Nat) : List Word :=
  [lo32 (secOf t), mkW (secOf t / 2 ^ 32 + grainOf t * 2 ^ 16), mkW (tickOf t)]

/-- The time field of a log record: TICK, SEC and GRAIN in 11 bytes (R208, R455). -/
def timeBytes (t : Nat) : List Byte := leBytes 4 (tickOf t) ++ leBytes 6 (secOf t) ++ leBytes 1 (grainOf t)

/-- Device time. -/
def State.now (s : State) : Nat := s.tb.now

/-- Device time counts: PLL A is enabled and locked (R88). -/
def State.counting (s : State) : Bool := s.running 1 && s.tb.lock

/-! ### Messages and logs -/

/-- Put something out on a link of the device. -/
def State.put (s : State) (x : Sent) : State := { s with sent := x :: s.sent }

/-- A free value: the model's counter names it, nothing constrains it. -/
def State.draw (s : State) : Nat × State := (s.drawn, { s with drawn := s.drawn + 1 })

/-- The mask bit of an MSI-X vector: bit 0 of word 3 of its table entry, set after reset. -/
def State.msixMasked (s : State) (v : Nat) : Bool :=
  bit (KMap.getD s.msix (0x8000 + 16 * v + 12) 1) 0

/-- Raise an MSI-X vector: one message, or its pending bit while the vector or the function is masked (R54). With MSI-X off no message
is sent. -/
def State.irq (s : State) (v : Nat) : State :=
  if !s.pci.msixEn then s
  else if s.msixMasked v || s.pci.msixMask then
    (if s.msixPend.contains v then s else { s with msixPend := v :: s.msixPend })
  else s.put (.msix v)

/-- Raise a block's vector, bits 13:8 of its control register, while bit `en` of that register is 1 (R75). -/
def State.irqIf (s : State) (r : RegId) (i en : Nat) : State :=
  if s.rb r i 0 en then s.irq (s.rf r i 0 13 8) else s

/-- EVT runs (bit 9 of SYS_EN_STATUS). -/
def State.evtOn (s : State) : Bool := s.running 9

/-- The 32 bytes of an event record (R208). -/
def evRecord (r : EvRec) (seq : Nat) : List Byte :=
  let gs (l : List Nat) := l.foldl (fun a g => a ||| 2 ^ g) 0
  let groups := gs r.acted + gs r.coinc * 256 + gs r.pending * 65536
  let sw := (List.range 8).findSome? fun g =>
    if r.acted.contains g || r.coinc.contains g then (r.switches.find? fun p => p.1 = g).map fun p => tickOf p.2 else none
  timeBytes r.time ++ leBytes 1 r.flags ++ leBytes 2 (r.src + if r.state then 32768 else 0) ++ [0, 0] ++
    leBytes 4 seq ++ leBytes 4 r.detail.toNat ++ leBytes 4 groups ++ leBytes 4 (sw.getD 0)

/-- Write a record to the event log; 2,048 unread records lose the oldest (R209). -/
def State.logEvent (s : State) (r : EvRec) : State :=
  let e := s.ev
  let full := (e.wr - e.rd).toNat ≥ 2048
  let s1 := { s with ev := { e with
    log := (evRecord r e.wr.toNat :: e.log).take 2048, wr := e.wr + 1, rd := if full then e.rd + 1 else e.rd } }
  let s2 := if full then s1.bump .EVT_CNT_LOST else s1
  -- LOG_FULL rises when the 2,048th unread record is written
  if !full && (s1.ev.wr - s1.ev.rd).toNat ≥ 2048 then s2.irqIf .EVT_CTL 0 1 else s2

/-- The execution time of an event: 3 µs after the time-stamp for class 5, the time-stamp for the others (R204). -/
def evExec (src time : Nat) : Nat := if src / 512 = 5 then time + usec 3 else time

/-- The open records that may be written now, in order: their jumps are resolved or 10 µs have passed, and no earlier
record of the same source waits (R208). -/
def evReady (now : Nat) : List EvRec → List Nat → List EvRec × List EvRec
  | [], _ => ([], [])
  | r :: t, held =>
    if !held.contains r.src && (r.pending.isEmpty || evExec r.src r.time + usec 10 ≤ now) then
      let x := evReady now t held
      (r :: x.1, x.2)
    else
      let x := evReady now t (r.src :: held)
      (x.1, r :: x.2)

/-- Write the event records that are due; none while EVT does not run (R201). -/
def State.flushLog (s : State) : State :=
  if s.evtOn then
    let x := evReady s.now s.ev.open_ []
    x.1.foldl (fun s r => s.logEvent r) { s with ev := { s.ev with open_ := x.2 } }
  else s

/-- An observation at time `t`: device time has reached it, where it counts (R88), and the event records that are due by then are written
(R208). -/
def State.reach (s : State) (t : Nat) : State :=
  if s.counting && s.tb.now < t then ({ s with tb := { s.tb with now := t } }).flushLog else s

/-- A record of the error log as its 32 bytes (R455). -/
def errRecord (time cls blk inst seq code status d0 d1 : Nat) : List Byte :=
  timeBytes time ++ leBytes 1 cls ++ leBytes 1 blk ++ [0] ++ leBytes 2 inst ++ leBytes 4 seq
    ++ leBytes 2 code ++ leBytes 1 status ++ [0] ++ leBytes 4 d0 ++ leBytes 4 d1

/-- Write a record to the error log: discarded and counted while EN of ERR_CTL is 0; when 2,048 records are unread the
oldest is overwritten and counted (R455, R457). -/
def State.logErrAt (s : State) (time cls blk inst code status d0 d1 : Nat) : State :=
  if s.rb .ERR_CTL 0 0 0 then
    let e := s.err
    let rec_ := errRecord time cls blk inst e.wr.toNat code status d0 d1
    let full := (e.wr - e.rd).toNat ≥ 2048
    let s1 := { s with err := { e with
      log := (rec_ :: e.log).take 2048, wr := e.wr + 1, rd := if full then e.rd + 1 else e.rd } }
    let s2 := if full then s1.bump .ERR_CNT_LOST else s1
    if cls = 2 then s2.irqIf .ERR_CTL 0 1 else s2
  else s.bump .ERR_CNT_LOST

/-- A record stamped with the tick of device time. -/
def State.logErr (s : State) (cls blk inst code status d0 d1 : Nat) : State :=
  s.logErrAt (s.now / 256 * 256) cls blk inst code status d0 d1

/-- A transient fault: counted, with a record of class 1 (R436). -/
def State.transient (s : State) (blk inst code status d0 d1 : Nat) : State :=
  (s.bump .ERR_CNT_TRANSIENT).logErr 1 blk inst code status d0 d1

/-- A lasting fault: counted, with a record of class 2 (R436). -/
def State.lasting (s : State) (blk inst code status d0 d1 : Nat) : State :=
  (s.bump .ERR_CNT_LASTING).logErr 2 blk inst code status d0 d1

/-- The BLOCK code of a block in the error log (R455), and its instance number. -/
def Blk.code : Blk → Nat → Nat
  | .sys, _ => 0
  | .tb, _ => 1
  | .plla, _ => 2
  | .pllx, i => 3 + i
  | .hrm, _ => 5
  | .out, _ => 6
  | .dac, _ => 7
  | .pat, _ => 8
  | .bin, _ => 9
  | .evt, _ => 10
  | .net, _ => 11
  | .chn, _ => 12
  | .mem, _ => 13
  | .drm, _ => 14
  | .hst, _ => 15
  | .mgt, _ => 16
  | .err, _ => 17
  | .group, _ => 18
  | .chan, _ => 19
  | .adc, _ => 20
  | .adcCap, _ => 20

/-- The ignored-write counter of a block; the HST block has none. -/
def Blk.ignored : Blk → Option RegId
  | .sys => some .SYS_CNT_IGNORED
  | .tb => some .TB_CNT_IGNORED
  | .plla => some .PLLA_CNT_IGNORED
  | .pllx => some .PLLx_CNT_IGNORED
  | .hrm => some .HRM_CNT_IGNORED
  | .out => some .OUT_CNT_IGNORED
  | .dac => some .DAC_CNT_IGNORED
  | .pat => some .PAT_CNT_IGNORED
  | .bin => some .BIN_CNT_IGNORED
  | .evt => some .EVT_CNT_IGNORED
  | .net => some .NET_CNT_IGNORED
  | .chn => some .CHN_CNT_IGNORED
  | .mem => some .MEM_CNT_IGNORED
  | .drm => some .DRM_CNT_IGNORED
  | .hst => none
  | .mgt => some .MGT_CNT_IGNORED
  | .err => some .ERR_CNT_IGNORED
  | .group => some .Gn_CNT_IGNORED
  | .chan => some .CHn_CNT_IGNORED
  | .adc => some .ADCn_CNT_IGNORED
  | .adcCap => some .ADC_CAP_CNT_IGNORED

/-- The blocks whose registers come in instances. -/
def Blk.indexed : Blk → Bool
  | .pllx => true
  | .group => true
  | .chan => true
  | .adc => true
  | _ => false

/-- An ignored BAR0 write: the counter of its block once, SYS_LAST_IGN, and one record (R74). An unmapped
offset counts in SYS_CNT_IGNORED. -/
def State.ignored (s : State) (ref : Option RegRef) (off cause : Nat) (val : Word) (status : Nat := 0xFF) : State :=
  let d := off % 2 ^ 20 + cause * 2 ^ 20 + 2 ^ 31
  let (b, i) := match ref with
    | some (r, i, _) => (r.blk, if r.blk.indexed then i else 0)
    | none => (.sys, 0)
  -- the synthesisers have a code each, and no instances
  let inst := if b = .pllx then 0 else i
  let s1 := match b.ignored with
    | some r => s.bump r i
    | none => s
  (s1.wr .SYS_LAST_IGN 0 0 (mkW d)).logErr 0 (b.code i) inst 0x0001 status d val.toNat

/-! ### Commands in flight (R35 to R46) -/

/-- The status codes of R37 that the model names. -/
def stOK : Nat := 0x00
def stDuplicate : Nat := 0x01
def stRetried : Nat := 0x02
def stDeferred : Nat := 0x03
def stBusy : Nat := 0x10
def stActive : Nat := 0x11
def stEnabled : Nat := 0x12
def stLocked : Nat := 0x13
def stNotReady : Nat := 0x14
def stBadOpcode : Nat := 0x20
def stBadParam : Nat := 0x21
def stBadDate : Nat := 0x22
def stBadLength : Nat := 0x23
def stCrcFail : Nat := 0x24
def stUninit : Nat := 0x25
def stTimeout : Nat := 0x30
def stFenced : Nat := 0x31
def stAborted : Nat := 0x32
def stSkipped : Nat := 0x33
def stCensus : Nat := 0x40
def stUnreachable : Nat := 0x41
def stExcluded : Nat := 0x42
def stAuthFail : Nat := 0x50

/-- Statuses whose reply enters the duplicate window when decided at check 6 or later (R37). -/
def recorded (status : Nat) : Bool :=
  [stOK, stRetried, stDeferred, stLocked, stBadOpcode, stBadParam, stBadDate, stBadLength, stUninit,
    stTimeout, stFenced, stAborted, stAuthFail].contains status

/-- Statuses that start the skip state of a class (R43). -/
def startsSkip (status : Nat) : Bool := status = stTimeout || status = stFenced

/-- The command of a queue at a place in it. -/
def Queue.find (x : Queue) (k : Nat) : Option Cmd := x.inflight.find? fun c => c.k = k

/-- Change the command at a place of a queue. -/
def Queue.upd (x : Queue) (k : Nat) (h : Cmd → Cmd) : Queue :=
  { x with inflight := x.inflight.map fun c => if c.k = k then h c else c }

/-- An independent command (R41): its independent flag is set. -/
def Cmd.independent (c : Cmd) : Bool := c.hdr.flags / 4 % 2 = 1

/-- The reply was requested (R36). -/
def Cmd.wantsReply (c : Cmd) : Bool := c.hdr.flags / 8 % 2 = 1

/-- Insert an entry into a window ordered by place, newest first, and keep the newest 4,096 (R45). -/
def winInsert (e : WinEntry) : List WinEntry → List WinEntry
  | [] => [e]
  | x :: t => if x.k < e.k then e :: x :: t else x :: winInsert e t

/-- The skip state begins for a class of a queue with the command at place `k` (R43, R60); one that began further back goes on. -/
def Queue.startSkip (x : Queue) (cls k : Nat) : Queue :=
  if x.skipClasses.any fun p => p.1 = cls then
    { x with skipClasses := x.skipClasses.map fun p => if p.1 = cls then (cls, min p.2 k) else p }
  else { x with skipClasses := x.skipClasses ++ [(cls, k)] }

/-- Decide the reply of a command in flight: its phase is done, its reply enters the window when its status is recorded,
and TIMEOUT or FENCED starts the skip state (R37, R42, R43). A queue in reset posts nothing (R64). Queue 9 stands for the
commands that came over the chain: their window and skip state are at their own device (R33). -/
def State.decide1 (s : State) (c : CmdRef) (status : Nat) (result : List Word) (dev : Nat) : State :=
  let x := s.q c.q
  match x.find c.k with
  | none => s
  | some cmd =>
    if cmd.phase = .done then s
    else
      let rep : Reply := ⟨status, status, dev, result⟩
      let x1 := x.upd c.k fun y => { y with phase := .done, reply := some rep }
      let x2 := if recorded status then
          { x1 with window := (winInsert ⟨c.k, cmd.hdr.seq, rep⟩ x1.window).take 4096 } else x1
      let x3 := if startsSkip status then x2.startSkip cmd.hdr.cls c.k else x2
      let x4 := if c.q = 9 then x1
        else if status = stTimeout then { x3 with cntTimeout := satInc x3.cntTimeout }
        else if status = stSkipped then { x3 with cntSkip := satInc x3.cntSkip } else x3
      -- in a queue reset no completion is posted, so none counts and none starts a skip state: the command leaves at its end (R64)
      let x5 := if x.resetting then { x with inflight := x.inflight.filter fun y => y.k ≠ c.k } else x4
      s.setQ c.q x5

/-- CHN runs (bit 11 of SYS_EN_STATUS). -/
def State.chnOn (s : State) : Bool := s.running 11

/-- This device is the root (R347): ROLE 1, or ROLE 0 with its host link up and no partner above in INIT or UP. -/
def State.isRoot (s : State) : Bool :=
  let st := (s.port 0).st
  match s.rf .CHN_CTL 0 0 1 0 with
  | 0 => s.link.up && st ≠ 2 && st ≠ 3
  | 1 => true
  | _ => false

/-- Nothing lies above this device: the root, or a device whose chain does not run. -/
def State.isTop (s : State) : Bool := !s.chnOn || s.isRoot

/-- Statuses that count as success (R357). -/
def isSuccess (status : Nat) : Bool := status ≤ 3

/-- The reply of one device to a broadcast: executed, failed, lowest failing address, its status, highest success code,
CRC (R357, R360). -/
def bcastOwn (addr status : Nat) (crc : Nat) : List Nat :=
  if isSuccess status then [1, 0, 0, 0, status, crc] else [0, 1, addr, status, 0, crc]

/-- Two replies to a broadcast as one: sums, the lowest failing address with its status, the highest success code (R357). -/
def bcastMerge (a b : List Nat) : List Nat :=
  let g (l : List Nat) (i : Nat) := l.getD i 0
  let low := if g a 1 = 0 then b else if g b 1 = 0 then a else if g a 2 ≤ g b 2 then a else b
  [g a 0 + g b 0, g a 1 + g b 1, g low 2, g low 3, max (g a 4) (g b 4), g a 5]

/-- A broadcast has its own reply and one from every port. -/
def Bcast.complete (b : Bcast) : Bool := b.own.isSome && b.ports.all fun p => b.got.any fun x => x.1 = p

/-- The merged reply of a broadcast. -/
def Bcast.merged (b : Bcast) : List Nat := b.got.foldl (fun a x => bcastMerge a x.2) (b.own.getD [])

/-- The status and result of a broadcast's one reply (R357). -/
def bcastReply (m : List Nat) : Nat × List Word :=
  let g (i : Nat) := m.getD i 0
  (if g 1 = 0 then g 4 else g 3, [mkW (g 0), mkW (g 1), mkW (g 2 + g 3 * 65536), mkW (g 5)])

/-- Complete a broadcast once every reply is in (R357). -/
def State.bcastTry (s : State) (num : Nat) : State :=
  match s.chn.bcasts.find? fun b => b.num = num with
  | some b =>
    if b.complete then
      let r := bcastReply b.merged
      s.decide1 b.cmd r.1 r.2 (s.rf .SYS_ADDR 0 0 13 0)
    else s
  | none => s

/-- Decide the reply of a command of this device: of a broadcast it is this device's part of the merged reply (R357). -/
def State.finish (s : State) (c : CmdRef) (status : Nat) (result : List Word) : State :=
  match s.chn.bcasts.find? fun b => b.cmd = c with
  | some b =>
    let addr := s.rf .SYS_ADDR 0 0 13 0
    let op := (((s.q c.q).find c.k).map fun y => y.hdr.opcode).getD 0
    let crc := if op = 0x0302 && s.isTop then (wAt result 1).toNat else 0
    if b.own.isSome then s
    else
      let s1 := { s with chn := { s.chn with bcasts := s.chn.bcasts.map fun (x : Bcast) =>
        if x.num = b.num then { x with own := some (bcastOwn addr status crc) } else x } }
      s1.bcastTry b.num
  | none => s.decide1 c status result (s.rf .SYS_ADDR 0 0 13 0)

/-- Decide the reply of a command that may be absent. -/
def State.finishOpt (s : State) (c : Option CmdRef) (status : Nat) (result : List Word) : State :=
  match c with
  | some c => s.finish c status result
  | none => s

/-- A command begins and waits (R49). -/
def State.begun (s : State) (c : CmdRef) : State :=
  let s1 := s.modQ c.q fun x => x.upd c.k fun y => { y with phase := .begun, timer := some s.now }
  match (s.q c.q).find c.k with
  | some y => { s1 with err := { s1.err with lastOp := y.hdr.opcode, lastTag := y.hdr.tag + y.hdr.queue * 4096 } }
  | none => s1

/-! ### Memory bytes and segment content (R143 to R150) -/

/-- A byte of on-chip or external memory. -/
def State.byteAt (s : State) (onchip : Bool) (addr : Nat) : Byte :=
  if onchip then KMap.getD s.onchip addr 0 else KMap.getD s.ext addr (Config.extByte addr)

/-- The state of a segment; segment 0 is always VALID (R141). -/
def State.segSt (s : State) (i : Nat) : SegSt := if i = 0 then .valid else (s.seg i).st

/-- The descriptor of a segment as 8 words; segment 0 has a fixed one (R141). -/
def State.segDesc (s : State) (i : Nat) : List Word :=
  if i = 0 then [0x00000810, 1, 0, 0, 0, 0, 0, 0] else (s.seg i).desc

/-- KIND of a descriptor: 0 C, 1 T, 2 M, 3 P (R144). -/
def dKind (d : List Word) : Nat := fld (wAt d 0) 1 0
def dFmt (d : List Word) : Nat := fld (wAt d 0) 3 2
def dLoc (d : List Word) : Bool := bit (wAt d 0) 4
def dK (d : List Word) : Nat := fld (wAt d 0) 12 8
def dSub (d : List Word) : Nat := 16 * 4 ^ fld (wAt d 0) 14 13
def dFine (d : List Word) : Nat := fld (wAt d 0) 31 16
def dCount (d : List Word) : Nat := (wAt d 1).toNat
def dAddr (d : List Word) : Nat := (join64 (wAt d 2) (wAt d 3)).toNat
def dSize (d : List Word) : Nat := (wAt d 4).toNat
def dCrc (d : List Word) : Word := wAt d 5
def dRate (d : List Word) : Nat := (wAt d 6).toNat
def dMask (d : List Word) : W64 := join64 (wAt d 6) (wAt d 7)

/-- Bytes per sample of a format (R143). -/
def fmtBytes (f : Nat) : Nat := if f = 0 then 2 else if f = 1 then 3 else 4

/-- `n` bytes of memory from an address. -/
def State.bytesAt (s : State) (onchip : Bool) (addr n : Nat) : List Byte :=
  (List.range n).map fun i => s.byteAt onchip (addr + i)

/-- Sample `p` of a segment, left-justified into 32 bits (R143); segment 0 reads zero (R141). -/
def State.sample (s : State) (i : Nat) (p : Nat) : Int :=
  if i = 0 then 0
  else
    let d := s.segDesc i
    let b := fmtBytes (dFmt d)
    let v := ofLe (s.bytesAt (dLoc d) (dAddr d + p * b) b)
    (BitVec.ofNat 32 (v * 2 ^ (32 - 8 * b))).toInt

/-- Point `p` of an M segment: the waveform sample under its envelope (R147). -/
def State.pointM (s : State) (i : Nat) (p : Nat) : Int :=
  let d := s.segDesc i
  let b := fmtBytes (dFmt d)
  let sub := dSub d
  let total := dCount d * 2 ^ dK d
  let e (n : Nat) : Int := (ofLe (s.bytesAt (dLoc d) (dAddr d + total * b + 2 * n) 2) : Nat)
  let r := p % sub
  let env := e (p / sub) * ((sub - r : Nat) : Int) + e (p / sub + 1) * (r : Int)
  clamp32 (roundUp (s.sample i p * env) (2 ^ 15 * sub))

/-- Step `n` of lane `l` of a P segment (R150); lane bits count within the mask. -/
def State.patBit (s : State) (i l n : Nat) : Bool :=
  let d := s.segDesc i
  let below := ((List.range l).filter fun j => (dMask d).getLsbD j).length
  let pl := ceilDiv (dCount d) 512 * 64
  (s.byteAt (dLoc d) (dAddr d + below * pl + n / 8)).getLsbD (n % 8)

end Sys2Proof.Machine
end

