-- ==== Sys2Proof/Machine/ChainBase.lean ====
section
/-!
DEFINITION. What every block sends on the Gunter chain (R337 to R346, R352 to R354, R359): flits and their
credits, messages and their fragments, routes, and the records that flood the tree.
-/
namespace Sys2Proof.Machine

/-! ### Link levels -/

/-- A chain port is in UP (R345). -/
def State.portUp (s : State) (p : Nat) : Bool := (s.port p).st = 3

/-- SYNC as this device sends it (R350). -/
def State.sync (s : State) : Bool :=
  s.chnOn && (s.isRoot || s.chn.aligned) && !s.tb.holdover && !s.chn.excluded

/-- GLOBAL as this device sends it (R350). -/
def State.global_ (s : State) : Bool :=
  if s.isRoot then s.rf .TB_CTL 0 0 2 0 = 2 && s.ptp.lock && !s.tb.holdover
  else s.chnOn && s.chn.upGlobal && s.chn.upSync

/-- The 12-byte time field (R339). -/
def timeField (t : Nat) : List Byte := timeBytes t ++ [0]

/-- The time that a time field holds. -/
def ofTimeField (b : List Byte) : Nat := mkTime (leAt b 4 6) (leAt b 0 4 % 2 ^ 30) (leAt b 10 1)

/-! ### Flits (R338, R339) -/

/-- TYPE codes. -/
def tyNull : Nat := 0x00
def tyNak : Nat := 0x01
def tyInit : Nat := 0x02
def tyDlyReq : Nat := 0x03
def tyDlyRsp : Nat := 0x04
def tyTime : Nat := 0x05
def tyData : Nat := 0x10

/-- A list of bytes filled with zeros to `n`. -/
def padTo (n : Nat) (l : List Byte) : List Byte := l.take n ++ List.replicate (n - l.length) 0

/-- A flit of 64 bytes with its CRC. -/
def flitBytes (ty vcf seq ack credit : Nat) (body : List Byte) : List Byte :=
  let b := leBytes 1 ty ++ leBytes 1 vcf ++ leBytes 2 seq ++ leBytes 2 ack ++ leBytes 2 credit ++ padTo 52 body
  b ++ leBytes 4 (crc32c b).toNat

/-- The CRC of a received flit holds and its length is 64. -/
def flitOk (f : List Byte) : Bool := f.length = 64 && leAt f 60 4 = (crc32c (f.take 60)).toNat

/-- ACK as a port sends it: the last number received in order, with bit 15 once there is one. -/
def ackField (x : ChnPort) : Nat := if x.rxNext = 0 then 0 else (x.rxNext - 1) % 4096 + 0x8000

/-- CREDIT as a port sends it: at most 15 credits of each pool. -/
def creditField (owed : List Nat) : Nat :=
  (List.range 4).foldl (fun a i => a + min 15 (owed.getD i 0) * 16 ^ i) 0

/-- Send a flit on a port, with what it acknowledges and the credits it returns. -/
def State.sendFlit (s : State) (p ty vcf seq : Nat) (body : List Byte) : State :=
  let x := s.port p
  (s.setPort p { x with owed := x.owed.map fun n => n - min 15 n }).put
    (.flit p (flitBytes ty vcf seq (ackField x) (creditField x.owed) body))

/-- Send a control flit; it is never replayed (R339). -/
def State.sendCtl (s : State) (p ty : Nat) (body : List Byte) : State := s.sendFlit p ty 0 0 body

/-- The pool that a flit of a VC may be sent against: its own, else the shared one, of which VC0 leaves 8 (R341). -/
def creditPool (x : ChnPort) (vc : Nat) : Option Nat :=
  if 0 < x.credits.getD vc 0 then some vc
  else if (if vc = 0 then 8 else 0) < x.credits.getD 3 0 then some 3
  else none

/-- Send the oldest waiting body of a VC if a credit and a place in the replay buffer are free (R341, R343). -/
def State.sendData (s : State) (p vc : Nat) (body : List Byte) : Option State :=
  let x := s.port p
  match creditPool x vc with
  | some i =>
    if x.replay.length < 128 && x.st = 3 then
      let vcf := vc + if i = 3 then 4 else 0
      let y := { x with
        credits := x.credits.set i (x.credits.getD i 0 - 1), txSeq := (x.txSeq + 1) % 4096
        replay := x.replay ++ [⟨x.txSeq, vcf, body, 0⟩] }
      some ((s.setPort p y).sendFlit p tyData vcf x.txSeq body)
    else none
  | none => none

/-- Send what waits on a port, VC2 before VC1 before VC0, while credits last (R341). -/
def State.pump (s : State) (p : Nat) : Nat → State
  | 0 => s
  | fuel + 1 =>
    let x := s.port p
    let try2 := match x.wait2 with
      | b :: t => (s.sendData p 2 b).map fun (s' : State) => s'.modPort p fun y => { y with wait2 := t }
      | [] => none
    let try1 := match x.wait1 with
      | b :: t => (s.sendData p 1 b).map fun (s' : State) => s'.modPort p fun y => { y with wait1 := t }
      | [] => none
    let try0 := match x.wait0 with
      | b :: t => (s.sendData p 0 b).map fun (s' : State) => s'.modPort p fun y => { y with wait0 := t }
      | [] => none
    match try2, try1, try0 with
    | some s', _, _ => s'.pump p fuel
    | none, some s', _ => s'.pump p fuel
    | none, none, some s' => s'.pump p fuel
    | none, none, none => s

/-- Bodies that wait on a port. -/
def ChnPort.waiting (x : ChnPort) : Nat := x.wait0.length + x.wait1.length + x.wait2.length

/-- STALL: a flit waits for credit (R370). -/
def State.portStall (s : State) (p : Nat) : Bool := s.portUp p && 0 < (s.port p).waiting

/-- Queue bodies on a VC of a port and send what can be sent. A port that is not in UP takes nothing. -/
def State.sendBodies (s : State) (p vc : Nat) (bodies : List (List Byte)) : State :=
  if s.portUp p || (s.port p).st = 4 then
    let s1 := s.modPort p fun x =>
      if vc = 2 then { x with wait2 := x.wait2 ++ bodies }
      else if vc = 1 then { x with wait1 := x.wait1 ++ bodies }
      else { x with wait0 := x.wait0 ++ bodies }
    s1.pump p (s1.port p).waiting
  else s

/-! ### Messages (R340, R346, R359) -/

/-- The header of a message: destination, broadcast, INTERNAL, source, message number. -/
structure MsgHdr where
  dest : Nat
  bcast : Bool
  internal : Bool
  src : Nat
  num : Nat
  deriving DecidableEq, Repr

/-- The bodies of the flits that carry a message: fragments of at most 44 content bytes. -/
def fragments (h : MsgHdr) (content : List Byte) : List (List Byte) :=
  let n := max 1 (ceilDiv content.length 44)
  (List.range n).map fun i =>
    let part := (content.drop (44 * i)).take 44
    leBytes 2 (h.dest + (if h.bcast then 0x4000 else 0) + if h.internal then 0x8000 else 0) ++ leBytes 2 h.src ++
      leBytes 2 (h.num + (if i = 0 then 0x4000 else 0) + if i + 1 = n then 0x8000 else 0) ++
      leBytes 2 part.length ++ padTo 44 part

/-- Send a message on a VC of a port. -/
def State.sendMsg (s : State) (p vc : Nat) (h : MsgHdr) (content : List Byte) : State :=
  s.sendBodies p vc (fragments h content)

/-- The next message number of this device. -/
def State.nextNum (s : State) : Nat × State :=
  (s.chn.msgNum, { s with chn := { s.chn with msgNum := (s.chn.msgNum + 1) % 4096 } })

/-- The content of an INTERNAL message (R359). -/
def internalBytes (mtype xact : Nat) (body : List Byte) : List Byte :=
  let b := leBytes 2 mtype ++ leBytes 2 body.length ++ leBytes 4 xact ++ body
  b ++ leBytes 4 (crc32c b).toNat

/-- The device's own address (R33, R346). -/
def State.ownAddr (s : State) : Nat := s.rf .SYS_ADDR 0 0 13 0

/-- Where a message for an address goes (R346): none at this device or, at the root, where no route is known. -/
def State.routePort (s : State) (dest : Nat) : Option Nat :=
  match KMap.getD s.chn.route dest 0 with
  | 1 => none
  | 2 => some 1
  | 3 => some 2
  | _ => if s.isRoot then none else some 0

/-- A link message to the device at the far end of a port (R359). -/
def State.sendLink (s : State) (p vc mtype xact : Nat) (body : List Byte) : State :=
  let n := s.nextNum
  n.2.sendMsg p vc ⟨0, true, true, if s.chn.enumerated then s.ownAddr else 0, n.1⟩ (internalBytes mtype xact body)

/-- A routed INTERNAL message. -/
def State.sendInternal (s : State) (dest vc mtype xact : Nat) (body : List Byte) : State :=
  match s.routePort dest with
  | some p =>
    let n := s.nextNum
    n.2.sendMsg p vc ⟨dest, false, true, s.ownAddr, n.1⟩ (internalBytes mtype xact body)
  | none => s

/-- A Plaku packet to another device (R33). -/
def State.sendPacket (s : State) (p vc dest num : Nat) (bcast : Bool) (packet : List Byte) : State :=
  s.sendMsg p vc ⟨dest, bcast, false, s.ownAddr, num⟩ packet

/-- The downstream ports in UP. -/
def State.downUp (s : State) : List Nat := [1, 2].filter s.portUp

/-! ### Records on VC2 (R352 to R354) -/

/-- A record goes out on every port in UP but the one it came on. -/
def State.flood (s : State) (from_ : Nat) (body : List Byte) : State :=
  ([0, 1, 2].filter fun p => p ≠ from_).foldl (fun s p => if s.portUp p then s.sendBodies p 2 [body] else s) s

/-- The body of an event record (KIND 1). -/
def eventBody (num origin time : Nat) : List Byte := leBytes 1 1 ++ leBytes 1 num ++ leBytes 2 origin ++ timeField time

/-- The body of a turn record (KIND 2). -/
def turnBody (r : TurnRec) (origin : Nat) : List Byte :=
  leBytes 1 2 ++ [0] ++ leBytes 2 r.bind ++ leBytes 8 r.turn.toNat ++ leBytes 8 r.f.toNat ++ leBytes 8 r.d.toNat ++
    leBytes 8 r.step.toNat ++ leBytes 8 r.a.toNat ++ leBytes 2 origin

/-- The body of a broadcast sequence marker (KIND 3). -/
def markerBody (rootAddr num origin msg : Nat) : List Byte :=
  leBytes 1 3 ++ [0] ++ leBytes 2 rootAddr ++ leBytes 4 num ++ leBytes 2 origin ++ leBytes 2 msg

/-- Send a chain event of this device (R205, R354): it floods the tree and waits for its execution time here too. It is
suppressed and counted while SYNC is 0. -/
def State.sendChainEvent (s : State) (num time : Nat) : State :=
  if !s.chnOn then s
  else if s.sync then
    let s1 := s.flood 3 (eventBody num s.ownAddr time)
    { s1 with ev := { s1.ev with chain := s1.ev.chain ++ [⟨num, time, s.ownAddr⟩] } }
  else s.bump .CHN_CNT_SUPPR

/-- A turn record reaches the groups of this device that follow its BIND_ID (R354). -/
def State.takeTurnRecord (s : State) (r : TurnRec) : State :=
  (List.range 8).foldl (fun s g =>
    if s.rf .Gn_BIND g 0 2 0 = 3 && s.rf .Gn_BIND g 0 31 16 = r.bind && !(s.grp g).turnRecs.contains r then
      s.modGrp g fun x => { x with turnRecs := x.turnRecs ++ [r] }
    else s) s

/-- Send a turn record of a chain leader (R113, R354). -/
def State.sendTurnRecord (s : State) (r : TurnRec) : State :=
  if !s.chnOn then s
  else if s.sync then (s.flood 3 (turnBody r s.ownAddr)).takeTurnRecord r
  else s.bump .CHN_CNT_SUPPR

end Sys2Proof.Machine
end

