-- ==== Sys2Proof/Machine/PatLevel.lean ====
section
/-!
DEFINITION. What each PO pin and marker drives (R267 to R279): safe levels, pairs and their dead time,
overrides, the order of R273, and the registers that report them.
-/
namespace Sys2Proof.Machine

/-- PAT runs (bit 7 of SYS_EN_STATUS). -/
def State.patOn (s : State) : Bool := s.running 7

/-- A group's RUNNING bit (R168). -/
def GState.isRunning : GState → Bool
  | .disabled => false
  | .stopped => false
  | _ => true

/-- The group presents samples. -/
def GState.plays : GState → Bool
  | .running => true
  | .fallback => true
  | .excluded => true
  | .stopping => true
  | _ => false

/-- RUNNING in Gn_STATUS. -/
def State.grpRunning (s : State) (g : Nat) : Bool := (s.grp g).st.isRunning

/-- The owning group of a lane. -/
def State.laneGroup (s : State) (n : Nat) : Nat := s.rf .PAT_LANE_n n 0 6 4

/-- The safe level of a pin: low, high, or off (R279). -/
def State.safeLevel (s : State) (n : Nat) : Option Bool :=
  match s.rf .PAT_LANE_n n 0 9 8 with
  | 0 => some false
  | 1 => some true
  | _ => none

/-- A pin runs: its EN is in effect and PAT runs (R269). -/
def State.pinRuns (s : State) (n : Nat) : Bool := s.patOn && (s.pin n).en

/-- The pair of a lane has PAIR set. -/
def State.paired (s : State) (n : Nat) : Bool := s.rb .PAT_LANE_n (n / 2 * 2) 0 10

/-- A pair is valid (R270). -/
def State.pairValid (s : State) (k : Nat) : Bool :=
  let a := 2 * k
  let b := 2 * k + 1
  s.rf .PAT_LANE_n a 0 2 1 = 0 && s.rf .PAT_LANE_n b 0 2 1 = 0 && s.laneGroup a = s.laneGroup b &&
    !(s.safeLevel a = some true && s.safeLevel b = some true)

/-- A pair runs while both lanes run (R270). -/
def State.pairRuns (s : State) (k : Nat) : Bool :=
  s.paired (2 * k) && s.pinRuns (2 * k) && s.pinRuns (2 * k + 1)

/-- A protection state other than NORMAL. -/
def Prot.faulted : Prot → Bool
  | .normal => false
  | _ => true

/-- A protection state that keeps the output off. -/
def Prot.isOff : Prot → Bool
  | .off => true
  | .fenced => true
  | _ => false

/-- The other lane of a pair. -/
def partner (n : Nat) : Nat := if n % 2 = 0 then n + 1 else n - 1

/-- A marker is high at its pin. -/
def State.mkLevel (s : State) (m : Nat) : Bool := (s.mrk m).high

/-- The group of a lane gives it a level: it runs outside FALLBACK and safe state (R269, R447). -/
def State.groupDrives (s : State) (g : Nat) : Bool :=
  let x := s.grp g
  x.st.plays && !x.fb

/-- The level decided for a pin before pairing, by the rows of R273; none is off. -/
def State.laneTarget (s : State) (n : Nat) : Option Bool :=
  let p := s.pin n
  if !s.patOn then none
  else if s.err.safe then s.safeLevel n
  else if s.pairRuns (n / 2) && (s.pin (partner n)).prot.faulted then s.safeLevel n
  else if !s.pinRuns n then s.safeLevel n
  else if s.rf .PAT_LANE_n n 0 2 1 = 1 then
    some (if n < 32 then s.rb .PAT_STATIC_LO 0 0 n else s.rb .PAT_STATIC_HI 0 0 (n - 32))
  else if s.rf .PAT_LANE_n n 0 2 1 = 2 then some (s.mkLevel (n % 16))
  else if !s.groupDrives (s.laneGroup n) then s.safeLevel n
  else match p.level with
    | some b => some (p.ovr.getD b)
    | none => s.safeLevel n

/-- What the primary lane of a running pair and its partner would drive without a fault: the primary's level and its complement, or
their safe levels (R270, R271, rows 5 to 8 of R273). -/
def State.pairBase (s : State) (k : Nat) : Option Bool × Option Bool :=
  let a := 2 * k
  let p := s.pin a
  let safe := (s.safeLevel a, s.safeLevel (a + 1))
  if s.err.safe || !s.groupDrives (s.laneGroup a) then safe
  else match p.level with
    | some b => (some (p.ovr.getD b), some (!p.ovr.getD b))
    | none => safe

/-- What the two lanes of a running pair are to drive (R270, R271, R278): a lane whose partner is faulted drives its safe level, and a
faulted lane its own. DEDUCED: where both would be high, the faulted lane stays low. -/
def State.pairTarget (s : State) (k : Nat) : Option Bool × Option Bool :=
  let base := s.pairBase k
  let fa := (s.pin (2 * k)).prot.faulted
  let fb := (s.pin (2 * k + 1)).prot.faulted
  let a := if fb then s.safeLevel (2 * k) else base.1
  let b := if fa then s.safeLevel (2 * k + 1) else base.2
  if a = some true ∧ b = some true then (if fb then (a, some false) else (some false, b)) else (a, b)

/-- What the two lanes of a pair are to drive: as a pair while it runs, else each on its own (R270). -/
def State.pairWants (s : State) (k : Nat) : Option Bool × Option Bool :=
  if s.pairRuns k then s.pairTarget k else (s.laneTarget (2 * k), s.laneTarget (2 * k + 1))

/-- PAIR_ERR (R75, R270): EN of a lane of an invalid pair is set. -/
def State.pairErr (s : State) (k : Nat) : Bool :=
  s.paired (2 * k) && (s.rb .PAT_LANE_n (2 * k) 0 0 || s.rb .PAT_LANE_n (2 * k + 1) 0 0) && !s.pairValid k

/-- The level decided for a pin under R273, as PAT_DRIVE reports it; none is off. -/
def State.pinDecides (s : State) (n : Nat) : Option Bool :=
  if s.patOn && s.paired n && s.pairValid (n / 2) then
    let t := s.pairWants (n / 2)
    (if n % 2 = 0 then t.1 else t.2).map fun _ => if n % 2 = 0 then (s.pair (n / 2)).a else (s.pair (n / 2)).b
  else s.laneTarget n

/-- The level at a pin: off while its protection keeps it off, held by the keeper while a new function has not driven
it, else as decided (R262, R273, R275, R277). -/
def State.pinLevel (s : State) (n : Nat) : Option Bool :=
  let p := s.pin n
  if p.prot.isOff || !s.patOn then none
  else match p.keeper with
    | some b => some b
    | none => s.pinDecides n

/-- One pair after a change at time `t`: the lane due low falls at once, the lane due high rises after the dead time (R271); the two are
never high together, and where both are wanted high the odd lane stays low (DEDUCED). -/
def pairSettle (x : Pair) (wantA wantB : Bool) (dt t : Nat) : Pair :=
  let a := x.a && wantA
  let b := x.b && wantB && !wantA
  if wantA && !a then
    if dt = 0 then { x with a := true, b := b, due := none }
    else
      let d := if x.due.isSome && x.makeA then x.due else some (nextTick t + ticks dt)
      { x with a := a, b := b, makeA := true, due := d }
  else if wantB && !wantA && !b then
    if dt = 0 then { x with a := a, b := true, due := none }
    else
      let d := if x.due.isSome && !x.makeA then x.due else some (nextTick t + ticks dt)
      { x with a := a, b := b, makeA := false, due := d }
  else { x with a := a, b := b, due := none }

/-- Bring one pair to what its lanes now decide. A pair that is not valid has no dead time; while PAT does not run, the pair stands at
the safe levels that it will take. -/
def State.settlePair (s : State) (t k : Nat) : State :=
  if s.paired (2 * k) then
    let w := if s.patOn then s.pairWants k else (s.safeLevel (2 * k), s.safeLevel (2 * k + 1))
    if s.patOn && s.pairValid k then
      s.setPair k (pairSettle (s.pair k) (w.1 = some true) (w.2 = some true) (s.rf .PAT_LANE_n (2 * k) 0 23 16) t)
    else s.setPair k { a := w.1 = some true, b := w.2 = some true }
  else s

/-- Bring every pair to what its lanes now decide, at time `t`. -/
def State.settlePairs (s : State) (t : Nat) : State := (List.range 32).foldl (fun s k => s.settlePair t k) s

/-- The level that a lane enabled while its group plays a P segment joins it with: that of the step then due (R267, R269). -/
def State.patJoin (s : State) (n : Nat) : Option Bool :=
  match (s.grp (s.laneGroup n)).pat with
  | some (seg, t0, k) =>
    let d := s.segDesc seg
    let due : Bool := decide (k < dCount d ∨ s.now < t0 + ticks (dCount d * dFine d))
    if 1 ≤ k && due && s.groupDrives (s.laneGroup n) && (dMask d).getLsbD n && s.segSt seg = .valid then some (s.patBit seg n (k - 1))
    else none
  | none => none

/-- A lane starts when its EN takes effect: FUNC 3, SAFE 3 or ACTION 3 refuse it (R272, R275, R279), and an invalid
pair does not start (R270). Its function then drives, and the keeper lets go (R275). -/
def State.startPin (s : State) (n : Nat) : State :=
  if !s.patOn || s.rf .PAT_LANE_n n 0 2 1 = 3 || s.rf .PAT_LANE_n n 0 9 8 = 3
      || (s.rb .PAT_EVT_n n 0 31 && s.rf .PAT_EVT_n n 0 19 18 = 3) then s
  else if s.paired n && !s.pairValid (n / 2) then s
  else
    let join := s.patJoin n
    s.modPin n fun p => { p with en := true, keeper := none, level := if join.isSome then join else p.level }

/-- A pin stops running; the level its group gave it and its override stay (R268, R272). -/
def State.stopPin (s : State) (n : Nat) : State := s.modPin n fun p => { p with en := false }

/-- The lanes of a group that has stopped have no level and no override (R268, R269, R272). -/
def State.lanesStop (s : State) (g : Nat) : State :=
  (List.range 64).foldl (fun s n =>
    if s.laneGroup n = g ∧ s.pin n ≠ { s.pin n with level := none, ovr := none } then
      s.modPin n fun p => { p with level := none, ovr := none }
    else s) s

/-- GROUP_START of a group ends the overrides of its lanes (R272). -/
def State.lanesStart (s : State) (g : Nat) : State := s.lanesStop g

/-- A marker runs while its EN is 1 and PAT runs (R274). -/
def State.mkRuns (s : State) (m : Nat) : Bool := s.patOn && s.rb .PAT_MK_m m 0 0

/-- A marker goes low at once, ending any pulse. -/
def State.mkLow (s : State) (m : Nat) : State :=
  if (s.mrk m).high then s.setMrk m { high := false, until_ := 0 } else s

/-- The markers of a group go low (R274). -/
def State.markersLow (s : State) (g : Nat) : State :=
  (List.range 16).foldl (fun s m => if s.rf .PAT_MK_m m 0 6 4 = g then s.mkLow m else s) s

/-- A marker rises at `t0` for WIDTH ticks, or is extended (R274). -/
def State.mkPulse (s : State) (m t0 : Nat) : State :=
  let w := s.rf .PAT_MK_m m 0 31 16
  s.setMrk m { high := true, until_ := t0 + ticks (if w = 0 then 1 else w) }

/-- At an entry start the markers of the MARK field that the group owns pulse (R274). -/
def State.markEntry (s : State) (g : Nat) (mark : Nat) (t0 : Nat) : State :=
  (List.range 16).foldl (fun s m =>
    if mark.testBit m && s.mkRuns m && s.rf .PAT_MK_m m 0 6 4 = g && !s.err.safe then s.mkPulse m t0 else s) s

/-- Bits of 32 pins from pin `lo` on. -/
def State.pinWord (s : State) (lo : Nat) (f : State → Nat → Bool) : Word := flagsW (fun i => f s (lo + i)) 32

end Sys2Proof.Machine
end

