-- ==== Sys2Proof/Machine/Event.lean ====
section
/-!
DEFINITION. The event system (R200 to R212): an event's record, the condition inputs it makes true, the
jumps it triggers, the lanes it overrides, and the event log.
-/
namespace Sys2Proof.Machine

/-- The class and index of a source identifier (R200). -/
def srcOf (cls idx : Nat) : Nat := cls * 512 + idx

/-- A source is within its class (R203): classes 1 to 9 and their index ranges; class 0 accepts every index. -/
def srcValid (src : Nat) : Bool :=
  let i := src % 512
  match src / 512 with
  | 0 => true
  | 1 => i < 32
  | 2 => i < 256
  | 3 => i < 64
  | 4 => true
  | 5 => i < 256
  | 6 => i < 8
  | 7 => i < 64
  | 8 => i < 32
  | 9 => i < 64
  | _ => false

/-- An input of this sense becomes true on an event: `level` is the state after, none for a pulse (R202). -/
def senseTrue (sense : Nat) (level : Option Bool) : Bool :=
  match level with
  | none => true
  | some b => if sense = 1 then !b else if sense = 2 then true else b

/-- Word i, half h of the jump fields: TARGET, CIN and EN of jump `j` (R170). -/
def jumpField (e : List Word) (j : Nat) : Nat :=
  let w := wAt e (6 + j / 2)
  if j % 2 = 0 then fld w 15 0 else fld w 31 16

def jumpTarget (e : List Word) (j : Nat) : Nat := nfld (jumpField e j) 9 0
def jumpCin (e : List Word) (j : Nat) : Nat := nfld (jumpField e j) 14 10
def jumpEn (e : List Word) (j : Nat) : Bool := (jumpField e j).testBit 15

/-- The condition inputs of a group that an event makes true (R202). -/
def State.inputsTrue (s : State) (g src : Nat) (level : Option Bool) : List Nat :=
  (List.range 32).filter fun i =>
    s.rb .EVT_COND_g_i g i 31 && s.rf .EVT_COND_g_i g i 12 0 = src &&
      senseTrue (s.rf .EVT_COND_g_i g i 17 16) level

/-- The jumps that an event triggers in a group: armed jumps of its playing entry on an input that became true, when
the time-stamp is not before the start of the entry (R176). None during an underrun episode or in FALLBACK (R446). -/
def State.newTrigs (s : State) (g src time earliest : Nat) (level : Option Bool) (ev : Nat) : List Trig :=
  let x := s.grp g
  if x.st.plays && !x.fb && x.episode.isNone && x.startT ≤ time then
    let e := s.entry g x.entry
    let ins := s.inputsTrue g src level
    let js := (List.range 4).filter fun j =>
      jumpEn e j && ins.contains (jumpCin e j) && !(x.trigs.any fun t => t.idx = j && t.cmd.isNone && !t.delayed)
    js.map fun j =>
      { idx := j, target := jumpTarget e j, earliest := earliest, seamless := !bit (wAt e 0) 26, ev := some ev,
        cmd := none, delayed := false, heldAt := none }
  else []

/-- An event triggers its jumps in one group; the group is then pending in its record. -/
def State.trigGroup (s : State) (g src time earliest : Nat) (level : Option Bool) (ev : Nat) : State :=
  let ts := s.newTrigs g src time earliest level ev
  if ts.isEmpty then s
  else
    let s1 := s.modGrp g fun x => { x with trigs := x.trigs ++ ts }
    { s1 with ev := { s1.ev with open_ := s1.ev.open_.map fun r => if r.id = ev then { r with pending := r.pending ++ [g] } else r } }

/-- The override of one lane on an event (R272); that of an odd lane has no effect while its pair runs. -/
def State.overrideLane (s : State) (n src : Nat) (level : Option Bool) : State :=
  if s.rb .PAT_EVT_n n 0 31 && s.rf .PAT_EVT_n n 0 12 0 = src && s.pinRuns n && s.rf .PAT_LANE_n n 0 2 1 = 0 &&
      senseTrue (s.rf .PAT_EVT_n n 0 17 16) level then
    let act := s.rf .PAT_EVT_n n 0 19 18
    let now := (s.pinDecides n).getD false
    s.modPin n fun p => { p with ovr := some (if act = 0 then false else if act = 1 then true else !now) }
  else s

/-- The overrides that an event makes, on all lanes. -/
def State.overrides (s : State) (src : Nat) (level : Option Bool) : State :=
  (List.range 64).foldl (fun s n => s.overrideLane n src level) s

/-- The classes of an event are logged unless LOG_EN is 0 or LOG_MASK names the class (R208, R211). -/
def State.evLogged (s : State) (src : Nat) : Bool :=
  s.rb .EVT_CTL 0 0 0 && !s.rb .EVT_CTL 0 0 (15 + src / 512)

/-- Deliver an event to condition inputs and overrides, and open its log record (R200 to R206, R272). `earliest` is the
earliest presentation time of a switch sample. -/
def State.deliver (s : State) (src time earliest : Nat) (level : Option Bool) (detail : Word) (flags : Nat) : State :=
  let id := s.ev.nextId
  let r : EvRec := ⟨id, src, time, level.getD false, detail, flags, [], [], [], []⟩
  let e := s.ev
  let s1 := { s with ev := { e with nextId := id + 1, open_ := if s.evLogged src then e.open_ ++ [r] else e.open_ } }
  let s2 := (List.range 8).foldl (fun s g => s.trigGroup g src time earliest level id) s1
  ((s2.overrides src level).settlePairs s2.now).flushLog

/-- An event of a local source, stamped at `time` (R200): counted, delivered, and sent on the chain where EVT_CHTX_n names
its source (R205, R354). While EVT is not running no event is stamped (R201). -/
def State.event (s : State) (src time : Nat) (level : Option Bool) (detail : Word) (flags : Nat := 0) : State :=
  if s.evtOn then
    let s1 := (s.bump .EVT_CNT_EVENTS).deliver src time (time + ticks 40) level detail flags
    (List.range 16).foldl (fun s n =>
      if s.rb .EVT_CHTX_n n 0 31 && s.rf .EVT_CHTX_n n 0 12 0 = src then
        s.sendChainEvent (s.rf .EVT_CHTX_n n 0 23 16) time
      else s) s1
  else s

/-- A group's part of an event's record changes when its jump is resolved: acted on, lost to a lower index, or dropped. -/
def State.resolveEv (s : State) (ev : Option Nat) (g : Nat) (acted coinc : Bool) (t : Nat) : State :=
  match ev with
  | none => s
  | some id =>
    { s with ev := { s.ev with open_ := s.ev.open_.map fun r =>
      if r.id = id then
        { r with
          pending := r.pending.erase g
          acted := if acted then r.acted ++ [g] else r.acted
          coinc := if coinc then r.coinc ++ [g] else r.coinc
          switches := if acted || coinc then r.switches ++ [(g, t)] else r.switches }
      else r } }

end Sys2Proof.Machine
end

