-- ==== Sys2Proof/Machine/DrmBase.lean ====
section
/-!
DEFINITION. The start and the stop of the external-memory controller (R72, R395, R399, R400, R415): capacity, what
refuses the enable, the fixed entries of the allocation map.
-/
namespace Sys2Proof.Machine

/-- Capacity of external memory in MiB, from DRM_GEOM (R416). -/
def State.capacityMiB (s : State) : Nat :=
  4 * (1 + s.rf .DRM_GEOM 0 0 4 4) * (512 * 2 ^ s.rf .DRM_GEOM 0 0 1 0)

/-- Capacity of external memory in bytes. -/
def State.capacity (s : State) : Nat := s.capacityMiB * 2 ^ 20

/-- The DRM runs (bit 13 of SYS_EN_STATUS). -/
def State.drmOn (s : State) : Bool := s.running 13

/-- The settings permit the DRM to start (R416, R419): DENSITY not 3, RAC_THR at least 256, both rates defined. -/
def State.drmSetOk (s : State) : Bool :=
  s.rf .DRM_GEOM 0 0 1 0 ≠ 3 && 256 ≤ s.rf .DRM_RAC_THR 0 0 15 0 &&
    s.rf .DRM_TSt_CTL 0 0 2 0 ≤ 5 && s.rf .DRM_TSt_CTL 1 0 2 0 ≤ 5

/-- The three fixed entries of the allocation map (R399), made when the DRM first runs after a main reset or a geometry
change. -/
def State.mapMake (s : State) : State :=
  if s.drm.mapMade then s
  else
    let top := s.capacity / 65536
    { s with drm := { s.drm with
      mapMade := true
      alloc := [(0, ⟨top - 144, 144, 1⟩), (1, ⟨top - 160, 16, 3⟩), (2, ⟨top - 192, 32, 5⟩)] } }

/-- The DRM runs: out of self-refresh, no MR4 reading yet, every row-activate counter zero (R400, R409). -/
def State.drmRun (s : State) : State :=
  let s1 := (s.setRunning 13 true).mapMake
  { s1 with drm := { s1.drm with training := false, selfref := false, powerDown := [], rows := [], mr4Valid := false, mr4 := [0, 0, 0, 0] } }

/-- Both timing sets are trained at their present values. -/
def State.drmTrained (s : State) : Bool :=
  s.drm.trained && s.drm.setTrained.contains 0 && s.drm.setTrained.contains 1

/-- The DRM enable takes effect (R72, R400): it runs at once when it is trained, else training begins; settings that refuse it
leave it stopped. -/
def State.drmStart (s : State) : State :=
  if s.drmOn || !s.drmSetOk then s
  else if s.drmTrained then s.drmRun
  else { s with drm := { s.drm with training := true, trainFail := false } }

/-- The DRM stops (R415): every channel enters self-refresh with its contents kept. -/
def State.drmStop (s : State) : State :=
  let s0 := if s.drmOn && !s.drm.selfref then s.bump .DRM_CNT_SR else s
  let s1 := s0.setRunning 13 false
  { s1 with drm := { s1.drm with training := false, powerDown := [], selfref := s.drm.trained } }

/-- A change of the DRM enable takes effect as SYS_EN holds it (R415). -/
def State.drmSettle (s : State) : State :=
  let s1 := { s with drm := { s.drm with stopPending := false } }
  if s.rb .SYS_EN 0 0 13 then s1.drmStart else s1.drmStop

/-- A change of the DRM enable (R415): it waits while any group runs. -/
def State.drmEnable (s : State) : State :=
  if (List.range 8).any s.grpRunning then { s with drm := { s.drm with stopPending := true } } else s.drmSettle

end Sys2Proof.Machine
end

