-- ==== Sys2Proof/Machine/Clock.lean ====
section
/-!
DEFINITION. What the synthesisers give a group (R121, R122, R125, R130): the values in effect, the sample
period as an exact fraction, the band choice, and the prerequisites of arming.
-/
namespace Sys2Proof.Machine

/-- The synthesiser of a group: SRC of Gn_CLK. -/
def State.grpPll (s : State) (g : Nat) : Nat := s.rf .Gn_CLK g 0 0 0

/-- N of a group's divider (R140). -/
def State.grpN (s : State) (g : Nat) : Nat := s.rf .Gn_CLK g 0 31 16

/-- INT × 2^32 + FRAC of the values in effect. -/
def State.pllRatio (s : State) (x : Nat) : Nat := (s.rd .PLLx_INT x).toNat * 2 ^ 32 + (s.rd .PLLx_FRAC x).toNat

/-- P of the values in effect. -/
def State.pllP (s : State) (x : Nat) : Nat := (s.rd .PLLx_POST x).toNat

/-- T_s of a group as a fraction of ticks: 8 N P 2^32 over INT × 2^32 + FRAC (R121). -/
def State.periodTicks (s : State) (g : Nat) : Nat × Nat :=
  (8 * s.grpN g * s.pllP (s.grpPll g) * 2 ^ 32, s.pllRatio (s.grpPll g))

/-- T_s of a group in grains, rounded to nearest, ties upward. -/
def State.periodGrains (s : State) (g : Nat) : Nat :=
  let p := s.periodTicks g
  (roundUp (p.1 * 256) p.2).toNat

/-! ### The feedback divider (R123, R124) -/

/-- The next value of the 24-bit LFSR of x^24 + x^23 + x^22 + x^17 + 1 (R124). DESIGN CHOICE: it shifts towards bit 23, and its sign bit is
the bit that enters. -/
def lfsrNext (x : Nat) : Nat :=
  let b := (x.testBit 23 ^^ x.testBit 22) ^^ (x.testBit 21 ^^ x.testBit 16)
  x * 2 % 2 ^ 24 + b.toNat

/-- A modulator: its LFSR, its three accumulators in units of 2^−33, and the carries of the cycles before that it differences. -/
structure Mash where
  lfsr : Nat := 1
  a1 : Nat := 0
  a2 : Nat := 0
  a3 : Nat := 0
  c2 : Int := 0
  c3 : Int := 0
  c3' : Int := 0
  deriving DecidableEq, Repr

/-- One reference cycle of the MASH 1-1-1 modulator on an input of FRAC, with dither (R123, R124): its state after, and its output, from
−3 to +4. -/
def Mash.cycle (m : Mash) (frac : Nat) (dither : Bool) : Mash × Int :=
  let l := if dither then lfsrNext m.lfsr else m.lfsr
  let x := (m.a1 : Int) + 2 * frac + (if dither then (if l % 2 = 1 then 1 else -1) else 0)
  let one := 2 ^ 33
  let c1 := fdiv x one
  let a1 := (x - c1 * one).toNat
  let y2 := m.a2 + a1
  let y3 := m.a3 + y2 % one
  let c2 : Int := (y2 / one : Nat)
  let c3 : Int := (y3 / one : Nat)
  (⟨l, a1, y2 % one, y3 % one, c2, c3, m.c3⟩, c1 + (c2 - m.c2) + (c3 - 2 * m.c3 + m.c3'))

/-- A modulator after `k` reference cycles. -/
def Mash.after (m : Mash) (frac : Nat) (dither : Bool) : Nat → Mash
  | 0 => m
  | k + 1 => ((m.after frac dither k).cycle frac dither).1

/-- The ratio of a synthesiser's feedback divider in the `k`-th reference cycle since its values took effect (R123, R124): INT where the
modulator is bypassed. DEDUCED: the accumulators start at zero at an apply, since equal values and seeds applied at one time give equal
sequences. -/
def State.divRatio (s : State) (x k : Nat) : Int :=
  let frac := (s.rd .PLLx_FRAC x).toNat
  let dither := s.rb .PLLx_MOD x 0 0
  let int : Int := (s.rd .PLLx_INT x).toNat
  if frac = 0 && !dither then int
  else int + (((({ lfsr := (s.pll x).lfsr } : Mash).after frac dither k)).cycle frac dither).2

/-- The reference cycle that a synthesiser is in, counted since its values took effect (R121). -/
def State.refCycle (s : State) (x : Nat) : Nat := (s.now - (s.pll x).modFrom) / 2048

/-- A set of values is valid (R122): `ratio` is INT × 2^32 + FRAC. f_vco = 100 MHz × ratio / 2^32. -/
def pllSetValid (int frac p : Nat) : Bool :=
  let ratio := int * 2 ^ 32 + frac
  50 ≤ int && int ≤ 64 && 50 * 2 ^ 32 ≤ ratio && ratio ≤ 64 * 2 ^ 32 && 16 ≤ p && p ≤ 40 &&
    -- f_syn from 160 to 320 MHz
    160 * p * 2 ^ 32 ≤ 100 * ratio && 100 * ratio ≤ 320 * p * 2 ^ 32

/-- A band entry is considered: VALID and LOWER < UPPER (R137). Edges are in 100 kHz. -/
def State.bandValid (s : State) (x k : Nat) : Bool :=
  s.rb .PLLx_BAND_TRIM_k x k 31 && s.rf .PLLx_BAND_RANGE_k x k 15 0 < s.rf .PLLx_BAND_RANGE_k x k 31 16

/-- The target lies in a band's range: f_vco in units of 100 kHz / 2^32 is 1,000 × ratio. -/
def State.bandHas (s : State) (x k ratio : Nat) : Bool :=
  s.bandValid x k && s.rf .PLLx_BAND_RANGE_k x k 15 0 * 2 ^ 32 ≤ 1000 * ratio &&
    1000 * ratio ≤ s.rf .PLLx_BAND_RANGE_k x k 31 16 * 2 ^ 32

/-- Twice the distance of a band's centre from the target. -/
def State.bandDist (s : State) (x k ratio : Nat) : Nat :=
  let c := (s.rf .PLLx_BAND_RANGE_k x k 15 0 + s.rf .PLLx_BAND_RANGE_k x k 31 16) * 2 ^ 32
  (max c (2000 * ratio)) - (min c (2000 * ratio))

/-- The band chosen for a target: the entry that contains it and whose centre is nearest, the lower index on a tie (R125). -/
def State.chooseBand (s : State) (x ratio : Nat) : Option Nat :=
  (List.range 64).foldl (fun best k =>
    if s.bandHas x k ratio then
      match best with
      | none => some k
      | some b => if s.bandDist x k ratio < s.bandDist x b ratio then some k else some b
    else best) none

/-- NO_BANDS: no valid entry contains the target of the values in effect (R126). -/
def State.noBands (s : State) (x : Nat) : Bool := (s.chooseBand x (s.pllRatio x)).isNone

/-- The synthesiser `x` runs: bits 2 and 3 of SYS_EN_STATUS. -/
def State.pllRunning (s : State) (x : Nat) : Bool := s.running (2 + x)

/-- A group's clock is a valid parameter: N ≥ 8 and fs at most 20 MS/s (R130). -/
def State.clkParam (s : State) (g : Nat) : Bool :=
  let p := s.periodTicks g
  -- fs ≤ 20 MS/s: a period of at least 40 ticks
  8 ≤ s.grpN g && 40 * p.2 ≤ p.1

/-- A group's synthesiser is ready: enabled, locked, no NO_BANDS (R130). -/
def State.clkReady (s : State) (g : Nat) : Bool :=
  let x := s.grpPll g
  s.rb .SYS_EN 0 0 (2 + x) && s.pllRunning x && (s.pll x).lock && !s.noBands x

/-- Some group has RUNNING set. -/
def State.anyRunning (s : State) : Bool := (List.range 8).any fun g => s.grpRunning g

/-- Some group on a synthesiser has RUNNING set. -/
def State.anyOn (s : State) (x : Nat) : Bool := (List.range 8).any fun g => s.grpRunning g && s.grpPll g = x

/-- A change that restarts the slack monitor's interval: VALID and RATIO clear (R16). -/
def State.slackRestart (s : State) : State :=
  { s with slackFrom := s.now }.wr .SYS_SLACK 0 0 (s.rd .SYS_SLACK &&& 0x20000)

/-- Start a synthesiser under its enable, if WIN is allowed and a band covers its target (R125, R126, R135). -/
def State.pllStart (s : State) (x : Nat) : State :=
  let win := s.rf .PLLx_CTL x 0 8 4
  match s.chooseBand x (s.pllRatio x) with
  | some b =>
    if s.rb .SYS_EN 0 0 (2 + x) && !s.pllRunning x && 8 ≤ win && win ≤ 20 then
      (s.setRunning (2 + x) true).modPll x fun p => { p with band := b, stopPending := false, wins := 0, bads := 0 }
    else s
  | none => s

/-- LOCK of a synthesiser clears without R128, and its windows are counted afresh (R127, R132, R504). -/
def Pll.unlock (p : Pll) : Pll := { p with lock := false, wins := 0, bads := 0 }

/-- Stop a synthesiser: LOCK clears without R128 (R504). -/
def State.pllStop (s : State) (x : Nat) : State :=
  (s.setRunning (2 + x) false).modPll x fun p => { p.unlock with stopPending := false }

/-- PLL A stops because its enable is cleared: time stops, TIME_VALID clears, LOCK of PLL B and PLL C clears (R132). -/
def State.pllAStop (s : State) : State :=
  let s1 := (s.setRunning 1 false)
  let s2 := { s1 with tb := { s1.tb with lock := false, timeValid := false, ppsOut := false, stopPending := false } }
  (s2.modPll 0 Pll.unlock).modPll 1 Pll.unlock

/-- The enable of HRM, OUT or DAC takes effect as SYS_EN holds it; the HRM starts only while its table matches (R222, R223, R248,
R260). `dacChange` makes the change of the DAC block. -/
def State.enTake (s : State) (dacChange : State → Bool → State) (b : Nat) : State :=
  let on := s.rb .SYS_EN 0 0 b && (b ≠ 4 || s.rb .HRM_STATUS 0 0 0)
  if s.running b = on then s
  else if b = 6 then dacChange s on
  else s.setRunning b on

/-- The enable of HRM, OUT or DAC is written: while any group runs, a change waits (R223, R248, R260). -/
def State.enAsk (s : State) (dacChange : State → Bool → State) (b : Nat) : State :=
  if s.anyRunning then
    let rest := s.enWait.filter fun x => x ≠ b
    { s with enWait := if s.rb .SYS_EN 0 0 b = s.running b then rest else rest ++ [b] }
  else s.enTake dacChange b

/-- Enables whose change waits for groups to stop take effect: PLL A, B, C (R132, R504), HRM (R223), OUT (R248),
DAC (R260), DRM (R415). `dacChange` makes the change of the DAC block. -/
def State.settleEnables (s : State) (dacChange : State → Bool → State) : State :=
  let s1 := (List.range 2).foldl (fun s x =>
    if (s.pll x).stopPending && !s.anyOn x then (s.pllStop x).slackRestart else s) s
  if s1.anyRunning then s1
  else
    let s2 := if s1.tb.stopPending then s1.pllAStop else s1
    let s3 := s2.enWait.foldl (fun s b => s.enTake dacChange b) { s2 with enWait := [] }
    if s3.drm.stopPending then s3.drmSettle else s3

end Sys2Proof.Machine
end

