-- ==== Sys2Proof/Machine/Partials.lean ====
section
/-!
DEFINITION. The harmonic engine (R213 to R226): a partial's angle, sine, contribution and accumulators.
-/
namespace Sys2Proof.Machine

/-- The key of partial `p` of channel `c`. -/
def prtKey (c p : Nat) : Nat := 64 * c + p

/-- The angle of a partial in ratio mode, from the group's angle and turn counter (R213). -/
def ratioAngle (a : W64) (turn : W64) (r ph : Word) : W64 :=
  let tm := (turn.toInt * (r.toNat : Int)) % 2 ^ 16
  BitVec.ofNat 64 (a.toNat * r.toNat / 2 ^ 16 + tm.toNat * 2 ^ 48 + ph.toNat * 2 ^ 32)

/-- The angle of a partial in absolute mode (R214). -/
def absAngle (b : W64) (ph : Word) : W64 := BitVec.ofNat 64 (b.toNat + ph.toNat * 2 ^ 32)

/-- MODE of a partial (R226). -/
def State.prtAbs (s : State) (c p : Nat) : Bool := s.rb .HRM_AMP_c_p c p 28

/-- AMP of a partial, as the amplitude accumulator starts (R218). -/
def State.prtAmp0 (s : State) (c p : Nat) : Nat := s.rf .HRM_AMP_c_p c p 23 0 * 2 ^ 16

/-- The angle of a partial at the sample being computed. -/
def State.prtAngle (s : State) (c p : Nat) (a turn : W64) : W64 :=
  if s.prtAbs c p then absAngle (s.prt (prtKey c p)).b (s.rd .HRM_PHASE_c_p c p)
  else ratioAngle a turn (s.rd .HRM_RATIO_c_p c p) (s.rd .HRM_PHASE_c_p c p)

/-- The contribution of a partial of amplitude accumulator `amp` at angle `q` (R217). -/
def contribution (amp : Nat) (q : W64) : Int :=
  let ai : Nat := amp / 2 ^ 16
  if ai = 0 then 0 else fdiv ((ai : Int) * sineOf q + 2 ^ 15) (2 ^ 16)

/-- The sum of the partials of a channel in the playing set (R220); zero in a sample that met an uncorrectable word of the sine
table (R222). -/
def State.prtSum (s : State) (c pset : Nat) (a turn : W64) : Int :=
  if s.rb .HRM_STATUS 0 0 3 then 0 else (List.range 64).foldl (fun acc p =>
    if s.rb .HRM_AMP_c_p c p (24 + pset) then
      acc + contribution (s.prt (prtKey c p)).amp (s.prtAngle c p a turn)
    else acc) 0

/-- A partial after the sample at angle `a`: what the peek registers show, and the accumulators of the next sample
(R214, R218). Answers the partial and whether the clamp begins to act. -/
def State.prtNext (s : State) (c p : Nat) (a turn : W64) : Partial × Bool :=
  let x := s.prt (prtKey c p)
  let q := s.prtAngle c p a turn
  let b := if s.prtAbs c p then BitVec.ofNat 64 (x.b.toNat + (s.rd .HRM_RATIO_c_p c p).toNat * 2 ^ 24) else x.b
  let sum := (x.amp : Int) + sint (s.rd .HRM_SLOPE_c_p c p)
  let amp := (clampI 0 (2 ^ 40 - 1) sum).toNat
  let cl : Bool := decide ((amp : Int) ≠ sum)
  ({ x with b := b, amp := amp, clamped := cl, q := q, peekAmp := x.amp }, cl && !x.clamped)

/-- Every partial of a channel advances its accumulators (R219). -/
def State.prtAdvance (s : State) (c : Nat) (a turn : W64) : State :=
  (List.range 64).foldl (fun s p =>
    let n := s.prtNext c p a turn
    let s1 := if n.1 = s.prt (prtKey c p) then s else s.setPrt (prtKey c p) n.1
    if n.2 then s1.bump .HRM_CNT_AMP_CLAMP else s1) s

/-- The partials of a channel start as at sample 0 of a run: B is 0 and the amplitude is AMP (R218, R219). -/
def State.prtStart (s : State) (c : Nat) : State :=
  (List.range 64).foldl (fun s p =>
    let x := s.prt (prtKey c p)
    let y := { x with b := 0, amp := s.prtAmp0 c p, clamped := false }
    if y = x then s else s.setPrt (prtKey c p) y) s

/-- The running bit of the HRM. -/
def State.hrmRunning (s : State) : Bool := s.running 4

end Sys2Proof.Machine
end

