-- ==== Sys2Proof/Machine/SvBase.lean ====
section
/-!
DEFINITION. What a sampled-value stream gathers at its sampling instants (R243, R317, R319, R320): before a
group presents its next sample, every instant that precedes it takes the values then present.
-/
namespace Sys2Proof.Machine

/-- NET runs (bit 10 of SYS_EN_STATUS). -/
def State.netOn (s : State) : Bool := s.running 10

/-- Word i of a stream's configuration. -/
def SvStream.word (x : SvStream) (i : Nat) : Word := wAt x.cfg i

/-- The sampling rate of a stream (R316). -/
def SvStream.rate (x : SvStream) : Nat :=
  match fld (x.word 0) 17 16 with
  | 0 => 4000
  | 1 => 4800
  | 2 => 14400
  | _ => 96000

/-- NOASDU. -/
def SvStream.noasdu (x : SvStream) : Nat := fld (x.word 0) 23 20

/-- TEST of a stream. -/
def SvStream.test (x : SvStream) : Bool := bit (x.word 0) 25

/-- The time of an instant counted from second 0: tick-of-second k × 800,000,000 / rate, truncated to the grain (R317). -/
def instTime (rate inst : Nat) : Nat := inst / rate * grainsPerSec + inst % rate * grainsPerSec / rate

/-- The validity of a quality word: the worst of the rows that hold (R319). -/
def worst (a b : Nat) : Nat := if a = 1 ∨ b = 1 then 1 else max a b

/-- A row of R319: its bits and validity where it holds. -/
def qRow (holds : Bool) (bits validity : Nat) (acc : Nat) : Nat :=
  if holds then acc / 4 * 4 ||| bits + worst (acc % 4) validity else acc

/-- A channel presents samples: its EN is in effect and its group plays (R229, R242). -/
def State.chanLive (s : State) (c : Nat) : Bool := (s.chan c).run && (s.grp (s.rf .CHn_CTL c 0 6 4)).st.plays

/-- The running source of a quantity (R243). -/
def State.svSource (s : State) (st q : Nat) : Option Nat :=
  let w := s.rd .OUT_SV_SRC_s_q st q
  if bit w 31 && s.chanLive (fld w 4 0) then some (fld w 4 0) else none

/-- The value of a quantity before its clamp (R243). -/
def State.svRaw (s : State) (st q c : Nat) : Int :=
  fdiv (sint (s.chan c).value * sint (s.rd .OUT_SV_SCALE_s_q st q) + 2 ^ 30) (2 ^ 31)

/-- The value and quality of a quantity at the last sample presented (R243, R319). `old` says that the value is taken under
the encoder rule of R322. -/
def State.svQuantity (s : State) (st q : Nat) (old test : Bool) : Int × Nat :=
  match s.svSource st q with
  | none => (0, qRow test (2 ^ 11) 0 (qRow true (2 ^ 6) 1 0))
  | some c =>
    let x := s.chan c
    let g := s.grp (s.rf .CHn_CTL c 0 6 4)
    let raw := s.svRaw st q c
    let v := clampI (-(2 ^ 31)) (2 ^ 31 - 1) raw
    let a := qRow (g.st = .fallback || g.st = .excluded) (2 ^ 10) 1 0
    let b := qRow (old || x.repeated) (2 ^ 7) 3 a
    let d := qRow g.holdover (2 ^ 9) 3 b
    let e := qRow (x.clipped || v ≠ raw) (2 ^ 2) 3 d
    (v, qRow test (2 ^ 11) 0 e)

/-- smpSynch (R320). -/
def State.smpSynch (s : State) : Nat :=
  let ref := s.rf .TB_CTL 0 0 2 0
  if (ref = 2 && s.ptp.lock && !s.tb.holdover) || (ref = 1 && s.chn.upGlobal && s.chn.upSync) then 2
  else if s.tb.timeValid then 1 else 0

/-- A stream gathers its next instant from what is presented. -/
def State.svGather (s : State) (st : Nat) : State :=
  let x := s.sv st
  let i : SvInst := ⟨x.inst % x.rate, (List.range 8).map fun q => s.svQuantity st q false x.test, s.smpSynch⟩
  s.setSv st { x with inst := x.inst + 1, buf := x.buf ++ [i] }

/-- A stream gathers every instant before time `t`. -/
def State.svTo (s : State) (st t : Nat) : Nat → State
  | 0 => s
  | fuel + 1 =>
    let x := s.sv st
    if x.run && instTime x.rate x.inst < t then (s.svGather st).svTo st t fuel else s

/-- Every running stream gathers its instants before time `t`. -/
def State.svCatchUp (s : State) (t : Nat) : State :=
  s.streams.foldl (fun s p =>
    let x := s.sv p.1
    if x.run then s.svTo p.1 t (t * x.rate / grainsPerSec + 2 - x.inst) else s) s

end Sys2Proof.Machine
end

