-- ==== Sys2Proof/Machine/Out.lean ====
section
/-!
DEFINITION. From content to codes (R228 to R266): which channels a group plays, the content of a slot, the
channel arithmetic, check windows, and what each DAC latches.
-/
namespace Sys2Proof.Machine

/-! ### Channels (R228 to R239) -/

/-- GROUP and SLOT of a channel. -/
def State.chGroup (s : State) (c : Nat) : Nat := s.rf .CHn_CTL c 0 6 4
def State.chSlot (s : State) (c : Nat) : Nat := s.rf .CHn_CTL c 0 10 8
def State.chEn (s : State) (c : Nat) : Bool := s.rb .CHn_CTL c 0 0
def State.chPonly (s : State) (c : Nat) : Bool := s.rb .CHn_CTL c 0 1

/-- The running channels of a group. -/
def State.chansOf (s : State) (g : Nat) : List Nat :=
  (List.range 32).filter fun c => (s.chan c).run && s.chGroup c = g

/-- A check window that is ARMED or OPEN. -/
def CwSt.live : CwSt → Bool
  | .armed => true
  | .openw => true
  | _ => false

/-- A register as it will be once staged writes have taken effect. -/
def State.rdAfter (s : State) (ws : List (Nat × Word)) (r : RegId) (i : Nat) (j : Nat := 0) : Word :=
  ((ws.filter fun w => w.1 = r.off i j).getLast?.map fun w => w.2).getD (s.rd r i j)

/-- The content of a channel is wholly covered once staged writes have taken effect (R238). -/
def State.coveredBy (s : State) (c : Nat) (ws : List (Nat × Word)) : Bool :=
  let names (w : Word) : Bool := bit w 31 && fld w 4 0 = c
  s.rdAfter ws .CHn_GAIN c = 0 || s.chPonly c ||
    !((List.range 32).any (fun d => names (s.rdAfter ws .OUT_DAC_SRC_d d)) ||
      (List.range 128).any (fun i => names (s.rdAfter ws .OUT_SV_SRC_s_q (i / 8) (i % 8))) ||
      (List.range 4).any (fun k => (s.win (4 * c + k)).st.live))

/-- The content of a channel is wholly covered (R238). -/
def State.covered (s : State) (c : Nat) : Bool := s.coveredBy c []

/-- The staged writes that take effect with each of a group's released sets, in release order. -/
def writesUpTo : List (Nat × Word) → List StageSet → List (List (Nat × Word))
  | _, [] => []
  | ws, x :: t => (ws ++ x.writes) :: writesUpTo (ws ++ x.writes) t

/-- The segment fetch of a channel is stopped (R238): it resumes at the release of a set that ends the coverage (R239). -/
def State.fetchStop (s : State) (c : Nat) : Bool :=
  s.covered c && (writesUpTo [] (s.grp (s.chGroup c)).released).all (s.coveredBy c)

/-- The step of a T segment for a group, ties upward (R232). -/
def State.tStep (s : State) (g : Nat) (d : List Word) : Nat :=
  let p := s.periodTicks g
  (roundUp (((dRate d * 2 ^ 16 + dFine d) * p.1 * 2 ^ 16 : Nat) : Int) (800000000 * p.2)).toNat

/-- The step of a T segment lies in its range (R233). -/
def tStepOk (st : Nat) : Bool := 2 ^ 16 ≤ st && st ≤ 2 ^ 32

/-- A segment may be played in a slot of a group: VALID, of kind C, T or M, a T segment within its range (R173, R233). -/
def State.slotOk (s : State) (g seg : Nat) : Bool :=
  let d := s.segDesc seg
  s.segSt seg = .valid && dKind d ≠ 3 && (dKind d ≠ 1 || tStepOk (s.tStep g d))

/-- SEG, SLOT_MASK and the P segment of an entry (R169). -/
def eSeg (e : List Word) : Nat := fld (wAt e 0) 13 0
def eMask (e : List Word) : Nat := fld (wAt e 0) 21 14
def ePset (e : List Word) : Nat := fld (wAt e 0) 23 22
def eDurKind (e : List Word) : Nat := fld (wAt e 0) 25 24
def eImmediate (e : List Word) : Bool := bit (wAt e 0) 26
def eLast (e : List Word) : Bool := bit (wAt e 0) 27
def eRepeat (e : List Word) : Nat := fld (wAt e 3) 31 16
def eNext (e : List Word) : Nat := fld (wAt e 4) 9 0
def eMark (e : List Word) : Nat := fld (wAt e 4) 31 16
def eCStart (e : List Word) : Bool := bit (wAt e 5) 0
def eCTurn (e : List Word) : Bool := bit (wAt e 5) 1
def eCAngle (e : List Word) : Bool := bit (wAt e 5) 2
def eCAng (e : List Word) : Nat := fld (wAt e 5) 14 3
def ePatEn (e : List Word) : Bool := bit (wAt e 5) 15
def ePseg (e : List Word) : Nat := fld (wAt e 5) 29 16

/-- The segments that an entry names in its slots. -/
def eSlots (e : List Word) : List Nat :=
  ((List.range 8).filter fun j => (eMask e).testBit j).map fun j => eSeg e + j

/-- A synthesis state: an entry with SLOT_MASK 0 and PAT_EN 0 (R173). -/
def eSynth (e : List Word) : Bool := eMask e = 0 && !ePatEn e

/-- Every segment of an entry may be played by a group (R161, R173). -/
def State.entryOk (s : State) (g : Nat) (e : List Word) : Bool :=
  (eSlots e).all (s.slotOk g) &&
    (!ePatEn e || (s.segSt (ePseg e) = .valid && dKind (s.segDesc (ePseg e)) = 3))

/-- The content of a C segment by angle (R231). -/
def State.readC (s : State) (seg : Nat) (a : W64) : Int :=
  let d := s.segDesc seg
  angleInterp (dK d) a fun p => s.sample seg (p % 2 ^ dK d).toNat

/-- The content of an M segment by angle and record turn (R147, R148, R231). -/
def State.readM (s : State) (seg : Nat) (a : W64) (turn : Int) : Int :=
  let d := s.segDesc seg
  let total : Int := (dCount d * 2 ^ dK d : Nat)
  let base := turn % (dCount d : Nat) * 2 ^ dK d
  angleInterp (dK d) a fun p => s.pointM seg ((base + p) % total).toNat

/-- The content of a T segment at a position with 32 fraction bits (R234). -/
def State.readT (s : State) (seg pos : Nat) : Int :=
  let d := s.segDesc seg
  resample (pos / 2 ^ 32) (pos / 2 ^ 22 % 2 ^ 10) (pos / 2 ^ 10 % 2 ^ 12) fun p =>
    if p < 0 ∨ (dCount d : Int) ≤ p then 0 else s.sample seg p.toNat

/-- The content of slot `j` of the playing entry; a segment that cannot be read contributes 0 (R236, R446). A T slot plays on with the
step it started with (R232). -/
def State.slotValue (s : State) (g j : Nat) (a : W64) : Int :=
  let x := s.grp g
  let e := s.entry g x.entry
  let seg := eSeg e + j
  if (eMask e).testBit j && s.segSt seg = .valid then
    let d := s.segDesc seg
    match dKind d with
    | 0 => s.readC seg a
    | 1 => match x.tpos.find? fun p => p.1 = j with
      | some p => s.readT seg p.2.1
      | none => 0
    | 2 => s.readM seg a x.recTurn
    | _ => 0
  else 0

/-- The channel arithmetic of R236 on the stage-5 sum: the channel value and whether the clip acted. -/
def State.chanOut (s : State) (c : Nat) (v : Int) : Int × Bool :=
  let g := fdiv (v * sint (s.rd .CHn_GAIN c) + 2 ^ 27) (2 ^ 28)
  let o := g + sint (s.rd .CHn_OFFSET c)
  let w := clampI (sint (s.rd .CHn_CLIP_LO c)) (sint (s.rd .CHn_CLIP_HI c)) o
  (w, decide (w ≠ o))

/-- The DAC code of a channel value (R236). -/
def dacCode (w : Int) : Int := min (fdiv (w + 2 ^ 11) (2 ^ 12)) (2 ^ 19 - 1)

/-- The channel value of a running channel at angle `a` and turn counter `turn`: the fallback segment under R447, or
content and partials under R236. A fallback segment that is not VALID contributes 0. -/
def State.chanValue (s : State) (g c : Nat) (a turn : W64) : Int × Bool :=
  let x := s.grp g
  if x.fb then
    let seg := s.rf .Gn_FALLBACK g 0 13 0
    let y := if s.segSt seg = .valid then s.readC seg a else 0
    let w := clampI (sint (s.rd .CHn_CLIP_LO c)) (sint (s.rd .CHn_CLIP_HI c)) y
    (w, decide (w ≠ y))
  else
    let e := s.entry g x.entry
    let y := if s.covered c then 0 else s.slotValue g (s.chSlot c) a
    let ps := if x.hrmOn then s.prtSum c (ePset e) a turn else 0
    s.chanOut c (y + ps)

/-! ### Check windows (R244 to R247) -/

/-- The three bytes of a code in a window's CRC (R244). -/
def codeBytes (code : Int) : List Byte := leBytes 3 (code % 2 ^ 24).toNat

/-- A window takes its shadow at the sample after it closes (R247). -/
def cwShadow (w : CheckWin) (t : Nat) : CheckWin :=
  match w.st, w.shadow with
  | .openw, _ => w
  | _, some x =>
    if x.start < t then { w with st := .aborted, cur := x, shadow := none, done := 0, crc := 0, missed := true, underrun := false }
    else { w with st := .armed, cur := x, shadow := none, done := 0, crc := 0, missed := false, underrun := false }
  | _, none => w

/-- A window covers one code presented at `t`; `under` is an underrun of the group (R244, R245). -/
def cwCover (w : CheckWin) (code : Int) (t : Nat) (under : Bool) : CheckWin :=
  let w := cwShadow w t
  if w.st = .openw ∨ (w.st = .armed ∧ w.cur.start ≤ t) then
    let reg := if w.st = .openw then crcFold (w.crc ^^^ 0xFFFFFFFF#32) (codeBytes code) ^^^ 0xFFFFFFFF#32
      else crc32c (codeBytes code)
    let n := if w.st = .openw then w.done + 1 else 1
    let st := if n = w.cur.count then (if reg = w.cur.expect then CwSt.pass else .fail) else .openw
    { w with st := st, crc := reg, done := n, underrun := w.underrun || under }
  else w

/-- The registers and the message of a window that enters a state (R245, R248). -/
def State.cwEnd (s : State) (c : Nat) (new : CwSt) : State :=
  match new with
  | .pass => (s.bump .CHn_CNT_CW_PASS c).irqIf .OUT_CTL 0 0
  | .fail => (s.bump .CHn_CNT_CW_FAIL c).irqIf .OUT_CTL 0 0
  | .aborted => s.irqIf .OUT_CTL 0 0
  | _ => s

/-- Window `k` of a channel covers one code. A window that ends changes, also where it ends as it ended before. -/
def State.cwSample (s : State) (c k : Nat) (code : Int) (t : Nat) (under : Bool) : State :=
  let w := s.win (4 * c + k)
  let w' := cwCover w code t under
  if w' = w then s else (s.setWin (4 * c + k) w').cwEnd c w'.st

/-- The channel stops: an OPEN window is aborted (R245). -/
def State.cwStop (s : State) (c k : Nat) : State :=
  let w := s.win (4 * c + k)
  if w.st = .openw then (s.setWin (4 * c + k) { w with st := .aborted }).cwEnd c .aborted else s

/-! ### DACs (R252 to R265) -/

/-- The source channel of a DAC, if its route is enabled (R249). -/
def State.dacSrc (s : State) (d : Nat) : Option Nat :=
  if s.rb .OUT_DAC_SRC_d d 0 31 then some (s.rf .OUT_DAC_SRC_d d 0 4 0) else none

/-- The group whose samples clock a DAC's source (R242), if the source runs. -/
def State.dacGroup (s : State) (d : Nat) : Option Nat :=
  match s.dacSrc d with
  | some c => if s.chanLive c then some (s.chGroup c) else none
  | none => none

/-- The ideal differential output of a code with REF_GAIN 0 or 1, in units of 2.5 V / 2^20 (R252). -/
def dacLevel (code : Int) (x2 : Bool) : Int := if x2 then 2 * code else code

/-- A DAC's output is available: the block runs and the reference is settled (R260). -/
def State.dacReady (s : State) : Bool := s.running 6 && s.rb .DAC_STATUS 0 0 1

/-- The differential output of a DAC in those units; none is off (R260, R262, R470). -/
def State.dacOut (s : State) (d : Nat) : Option Int :=
  let x := s.dac d
  if x.prot.isOff then none
  else if !s.dacReady then some 0
  else some (x.hold.getD (dacLevel x.code x.range))

/-- A DAC loses its source: it ramps from its last code (R241, R258), which ends a range-change hold (R470). -/
def State.dacRamp (s : State) (d g : Nat) : State :=
  let x := s.dac d
  if x.mode = .live then
    s.setDac d { x with mode := .ramp x.code 0 g, waiting := false, underrun := false, queue := [], hold := none }
  else s.setDac d { x with waiting := false }

/-- A DAC goes to mid-scale at once (R259). -/
def State.dacMid (s : State) (d : Nat) : State :=
  let x := s.dac d
  s.setDac d { x with mode := .mid, code := 0, waiting := false, underrun := false, queue := [], hold := none }

/-- A DAC gains a running source at a boundary sample (R241): it is live, or waits while it still ramps. One that lost a source of the
same group at this very boundary moves between two channels, without a ramp. -/
def State.dacGain (s : State) (d : Nat) : State :=
  let x := s.dac d
  match x.mode with
  | .ramp c0 0 g =>
    if s.dacGroup d = some g then s.setDac d { x with mode := .live, code := c0, waiting := false }
    else s.setDac d { x with waiting := true }
  | .ramp _ _ _ => s.setDac d { x with waiting := true }
  | _ => if s.dacReady && !s.err.safe then s.setDac d { x with mode := .live, waiting := false, queue := [] } else s

/-- The k-th ramp code from `c0`, truncated towards zero (R258). -/
def rampCode (c0 : Int) (k : Nat) : Int := Int.tdiv (c0 * (64 - (k : Int))) 64

/-- A ramping DAC takes one edge of the old group's sample clock. -/
def rampEdge (x : Dac) (g : Nat) : Dac :=
  match x.mode with
  | .ramp c0 k g' =>
    if g' = g then
      if k + 1 < 64 then { x with mode := .ramp c0 (k + 1) g', code := rampCode c0 (k + 1) }
      else { x with mode := .mid, code := 0 }
    else x
  | _ => x

/-- The ramp edges of a group. -/
def State.rampEdges (s : State) (g : Nat) : State :=
  (List.range 32).foldl (fun s d =>
    match (s.dac d).mode with
    | .ramp _ _ g' => if g' = g then s.setDac d (rampEdge (s.dac d) g) else s
    | _ => s) s

/-- A ramp of a group is in progress. -/
def State.ramping (s : State) (g : Nat) : Bool :=
  (List.range 32).any fun d => match (s.dac d).mode with
    | .ramp _ _ g' => g' = g
    | _ => false

/-- Go to mid-scale with every DAC that still ramps on a group's clock (R259, R470). -/
def State.rampsMid (s : State) (g : Nat) : State :=
  (List.range 32).foldl (fun s d =>
    match (s.dac d).mode with
    | .ramp _ _ g' => if g' = g then s.dacMid d else s
    | _ => s) s

/-- An entry reaches a DAC's queue while sample `due` is due (R255): one whose index is past is discarded and counted (R256). -/
def State.dacEnter (s : State) (d : Nat) (e : Int × Nat) (due : Nat) : State :=
  if e.2 < due then s.bump .DAC_CNT_STALE_d d
  else s.modDac d fun x => { x with queue := x.queue ++ [e] }

/-- The edge of sample `n` at a DAC: it latches the entry of that index, or its previous code again where that entry is absent
(R255, R256). -/
def State.dacEdge (s : State) (d n : Nat) : State :=
  let x := s.dac d
  match x.queue.find? fun e => e.2 = n with
  | some e => s.setDac d { x with code := e.1, underrun := false, queue := x.queue.filter fun y => n < y.2 }
  | none => (s.setDac d { x with underrun := true }).bump .DAC_CNT_UNDERRUN_d d

/-- The DACs that present a group's samples. -/
def State.liveDacs (s : State) (g : Nat) : List Nat :=
  (List.range 32).filter fun d => (s.dac d).mode = .live && s.dacGroup d = some g

/-! ### Starting and stopping channels (R229, R230) -/

/-- A slot of a group is held by a running channel. -/
def State.slotTaken (s : State) (g j : Nat) : Bool := (s.chansOf g).any fun c => s.chSlot c = j

/-- The enable of a channel is in effect in its group (R229). -/
def State.chanRun (s : State) (c : Nat) : State := s.modChan c fun x => { x with run := true, conflict := false }

/-- A running channel presents its first sample: its partials start, its DACs gain their source (R219, R229, R241). -/
def State.chanBegin (s : State) (c : Nat) : State :=
  (List.range 32).foldl (fun s d => if s.dacSrc d = some c then s.dacGain d else s) (s.prtStart c)

/-- A channel starts at a sample of its group (R229). -/
def State.chanStart (s : State) (c : Nat) : State := (s.chanRun c).chanBegin c

/-- A channel stops: its windows that are open are aborted and its DACs ramp, or go to mid-scale (R229, R241, R245). -/
def State.chanStop (s : State) (c g : Nat) (ramp : Bool) : State :=
  let s1 := (List.range 4).foldl (fun s k => s.cwStop c k) s
  let s2 := (List.range 32).foldl (fun s d =>
    if s.dacSrc d = some c then (if ramp then s.dacRamp d g else s.dacMid d) else s) s1
  s2.modChan c fun x => { x with run := false }

/-- The enabled channels of a group that do not run take their free slots, the lowest number first (R230); `start` starts one. -/
def State.chansTake (s : State) (g : Nat) (start : State → Nat → State) : State :=
  (List.range 32).foldl (fun s c =>
    if s.chEn c && s.chGroup c = g && !(s.chan c).run then
      if s.slotTaken g (s.chSlot c) then s.modChan c fun x => { x with conflict := true } else start s c
    else s) s

/-- At a turn mark the channel enables of a group take effect: disabled channels stop, then enabled ones start (R229, R230). -/
def State.chanMarks (s : State) (g : Nat) : State :=
  ((s.chansOf g).foldl (fun s c => if s.chEn c then s else s.chanStop c g true) s).chansTake g State.chanStart

/-- The enables that are in effect when a group is armed: RUN reads 1 from then on (R168, R229). -/
def State.chansArm (s : State) (g : Nat) : State := s.chansTake g State.chanRun

/-- The DACs that wait for a turn boundary of a group present their source (R241, R263). -/
def State.dacMarks (s : State) (g : Nat) : State :=
  (List.range 32).foldl (fun s d =>
    let x := s.dac d
    if x.waiting && s.dacGroup d = some g then
      match x.mode with
      | .ramp _ _ _ => s
      | _ => s.dacGain d
    else s) s

/-- A channel presents a sample: its value and its windows. -/
def State.chanPresent (s : State) (g c t : Nat) (under : Bool) : State :=
  let x := s.grp g
  let w := s.chanValue g c x.a x.turn
  let s1 := s.modChan c fun y => { y with value := wordOfInt w.1, clipped := w.2, repeated := false, lastT := t }
  let s2 := if w.2 then s1.bump .CHn_CNT_CLIP c else s1
  ((List.range 4).foldl (fun s k => s.cwSample c k (dacCode w.1) t under) s2).prtAdvance c x.a x.turn

/-- A channel whose frame is missing at its edge presents its last value again, and that code is covered (R20, R244, R256). -/
def State.chanRepeat (s : State) (g c t : Nat) : State :=
  let x := s.grp g
  let s1 := s.modChan c fun y => { y with repeated := true, lastT := t }
  ((List.range 4).foldl (fun s k => s.cwSample c k (dacCode (sint (s.chan c).value)) t true) s1).prtAdvance c x.a x.turn

/-! ### Sample frames (R19 to R22) -/

/-- The bits that the next pattern step of a group gives its complementary pairs (R19, R271). -/
def State.pairBits (s : State) (g : Nat) : List (Nat × Bool × Bool) :=
  match (s.grp g).pat with
  | some (seg, _, k) =>
    ((List.range 32).filter fun i => s.paired (2 * i) && s.pairValid i && s.laneGroup (2 * i) = g &&
        (dMask (s.segDesc seg)).getLsbD (2 * i)).map fun i => (i, s.patBit seg (2 * i) k, !s.patBit seg (2 * i) k)
  | none => []

/-- The frame of the sample that a group has formed, with the value of each of its channels. -/
def State.frameOf (s : State) (g : Nat) (value : Nat → Word) : Frame :=
  let idx := (s.grp g).n % 2 ^ 32
  let slots := (List.range 8).map fun j => (((s.chansOf g).find? fun c => s.chSlot c = j).map value).getD 0
  let pairs := s.pairBits g
  { idx := idx, slots := slots, pairs := pairs
    check := Config.frameCheck (idx :: slots.map BitVec.toNat ++ pairs.map fun p => 4 * p.1 + 2 * p.2.1.toNat + p.2.2.toNat) }

/-- The frame in the making as the core will deliver it once it has missed its edge. -/
def State.lateFrame (s : State) (g : Nat) : Frame :=
  s.frameOf g fun c => wordOfInt (s.chanValue g c (s.grp g).a (s.grp g).turn).1

/-- A frame reaches the queues of its group's DACs while sample `due` is due: each takes the code of its channel's slot (R10, R255). -/
def State.frameEnter (s : State) (g due : Nat) (f : Frame) : State :=
  (s.liveDacs g).foldl (fun s d =>
    match s.dacSrc d with
    | some c => s.dacEnter d (dacCode (sint (f.slots.getD (s.chSlot c) 0)), due - (due + 2 ^ 32 - f.idx) % 2 ^ 32) due
    | none => s) s

/-- The edge of the due sample at each DAC of a group. -/
def State.dacEdges (s : State) (g : Nat) : State := (s.liveDacs g).foldl (fun s d => s.dacEdge d (s.grp g).n) s

/-- The greatest lead of a group (R22): 4 samples while the playing entry has armed jumps, else the depth of the queues. -/
def State.leadBound (s : State) (g : Nat) : Nat :=
  if (List.range 4).any fun i => jumpEn (s.entry g (s.grp g).entry) i then 4 else 64

/-- The lead after a sample (R22, R25): rebuilt from 1 at a switch, else as far as the core has come within the bound. -/
def State.leadNext (s : State) (g : Nat) : Nat :=
  let x := s.grp g
  if x.startN = x.n then 1 else min (s.leadBound g) (Config.coreLead g x.n)

end Sys2Proof.Machine
end

