-- ==== Sys2Proof/Machine/Angle.lean ====
section
/-!
DEFINITION. The angle engines (R104 to R118): the step from one sample to the next, limits and FLIMIT, turn
boundaries, binding, turn records and the follow loop.
-/
namespace Sys2Proof.Machine

/-- A value confined to ±2^62 (R106, R119). -/
def confine62 (x : Int) : Int := clampI (-(2 ^ 62)) (2 ^ 62) x

/-- Binding mode, leader and identifier of a group (R111). -/
def State.bindMode (s : State) (g : Nat) : Nat := s.rf .Gn_BIND g 0 2 0
def State.bindLeader (s : State) (g : Nat) : Nat := s.rf .Gn_BIND g 0 6 4
def State.bindId (s : State) (g : Nat) : Nat := s.rf .Gn_BIND g 0 31 16

/-- The word for 10 kHz at a group's sample rate, rounded (R106). -/
def State.word10k (s : State) (g : Nat) : Int :=
  let p := s.periodTicks g
  roundUp ((10000 * 2 ^ 64 * p.1 : Nat) : Int) (p.2 * 800000000)

/-- A chain-bound group: modes 2 and 3. -/
def State.chainBound (s : State) (g : Nat) : Bool := s.bindMode g = 2 || s.bindMode g = 3

/-- The effective limits of a group (R106). -/
def State.limits (s : State) (g : Nat) : Int × Int :=
  let lo := confine62 (s.rd64 .Gn_FMIN_LO .Gn_FMIN_HI g).toInt
  let hi := confine62 (s.rd64 .Gn_FMAX_LO .Gn_FMAX_HI g).toInt
  if s.chainBound g then
    let w := s.word10k g
    (clampI (-w) w lo, clampI (-w) w hi)
  else (lo, hi)

/-- The limits that clamp F: staged limits have no effect on a chain follower while it is bound (R463). -/
def State.limitsNow (s : State) (g : Nat) : Int × Int := (s.grp g).ownLim.getD (s.limits g)

/-- Follow mode is enabled (R118). -/
def State.folEn (s : State) (g : Nat) : Bool := s.rb .Gn_FOL_CTL g 0 0

/-- The signed sum of an angle and words: the new angle, and the carry (1) or borrow (−1) out of bit 63 (R108). -/
def angleAdd (a : W64) (d : Int) : W64 × Int :=
  let sum := (a.toNat : Int) + d
  (BitVec.ofInt 64 sum, fdiv sum (2 ^ 64))

/-- The clamp of R104 on an offered F: the value, and FLIMIT after it (R107). -/
def clampF (lo hi offered : Int) (flimit : Bool) : Int × Bool :=
  let f := clampI lo hi offered
  (f, if f ≠ offered then true else if lo < f ∧ f < hi then false else flimit)

/-- A local follower may form a sample at `t`: its leader, if it plays, has presented the sample due at that edge (R112). Both have one
sample clock, so the leader's next edge is nearer than half a synthesis period, or past, when that sample is still to come. -/
def State.leaderReady (s : State) (g t : Nat) : Bool :=
  let l := s.grp (s.bindLeader g)
  s.bindMode g ≠ 1 || !l.st.plays || match l.times with
    | [] => false
    | h :: _ => h ≤ t && (t - h) * 2 * s.grpN g < (2 * s.grpN g - 1) * s.periodGrains g

/-- The sample that a group forms next without any step: its angle and its wrap. A local follower takes its leader's, which has been
presented (R112). -/
def State.nextAngle (s : State) (g : Nat) : W64 × Int :=
  let x := s.grp g
  if s.bindMode g = 1 then
    let l := s.grp (s.bindLeader g)
    (l.a, if l.st.plays then l.wrap else 0)
  else angleAdd x.a x.f.toInt

/-- The next sample of a group wraps without a step. -/
def State.wraps (s : State) (g : Nat) : Bool := (s.nextAngle g).2 ≠ 0

/-- The next sample of a group is a turn boundary (R108): with the step that its commits bring, once they are foreseen. -/
def State.nextBoundary (s : State) (g : Nat) : Bool := (s.grp g).bnd.getD (s.wraps g)

/-- The next sample of a group, presented at `t`, is a turn mark (R109). -/
def State.nextMark (s : State) (g t : Nat) : Bool :=
  s.nextBoundary g || (s.grp g).lastMarkT + grainsPerSec ≤ t

/-- The next sample is a turn boundary once the step committed for it is added (R104, R108). -/
def State.formsBoundary (s : State) (g : Nat) : Bool :=
  if s.bindMode g = 1 then s.wraps g
  else (angleAdd (s.grp g).a ((s.grp g).f.toInt + (s.grp g).cStep.toInt)).2 ≠ 0

/-- The next sample, presented at `t`, is a turn mark once the step committed for it is added (R109). -/
def State.formsMark (s : State) (g t : Nat) : Bool :=
  s.formsBoundary g || (s.grp g).lastMarkT + grainsPerSec ≤ t

/-! ### Follow loop (R115 to R117) -/

/-- cos and sin sums of a turn's results (R115). -/
def folSums (rs : List (Int × Nat)) : Int × Int :=
  rs.foldl (fun acc r => (acc.1 + r.1 * cosTurn r.2, acc.2 + r.1 * sinTurn r.2)) (0, 0)

/-- A turn is valid: at least 16 results and amp ≥ AMIN (R115). -/
def folValid (rs : List (Int × Nat)) (amin : Nat) : Bool :=
  let p := folSums rs
  16 ≤ rs.length && decide (((amin * rs.length * fx : Nat) : Int) ^ 2 ≤ 4 * (p.1 ^ 2 + p.2 ^ 2))

/-- e of a turn: the wrapped phase error (R115). -/
def folError (rs : List (Int × Nat)) (target : Word) : Word :=
  let p := folSums rs
  wordOfInt (atan2Turn32 p.1 p.2) - target

/-- nom of R116, which is unsigned. -/
def State.folNom (s : State) (g : Nat) : Int := ((s.rd64 .Gn_FOL_NOM_LO .Gn_FOL_NOM_HI g).toNat : Int)

/-- The follow loop at a turn boundary: states of R117 and the law of R116. It sets F of the boundary sample. DESIGN CHOICE: Gn_FOL_ERR
takes the e of valid turns alone; the spec does not say whether an invalid turn has an e. -/
def State.folBoundary (s : State) (g : Nat) : State :=
  let x := s.grp g
  let ok := folValid x.folRes (s.rf .Gn_FOL_AMIN g 0 17 0)
  let nom := s.folNom g
  let lim := s.limits g
  let good := if ok then x.folGood + 1 else 0
  let bad := if ok then 0 else x.folBad + 1
  let e := folError x.folRes (s.rd .Gn_FOL_PHASE g)
  let y := { x with folRes := [], folGood := good, folBad := bad, folErr := if ok then e else x.folErr }
  match x.fol with
  | .off => s.setGrp g { x with folRes := [] }
  | .free =>
    let y := { y with cF := some (BitVec.ofInt 64 (clampI lim.1 lim.2 nom)) }
    s.setGrp g (if 3 ≤ good then { y with fol := .track, folI := 0, folBad := 0 } else y)
  | .hold =>
    s.setGrp g (if 3 ≤ good then
      { y with fol := .track, folI := x.f.toInt - nom, folLoss := false, folBad := 0 } else y)
  | .track =>
    if ok then
      let sat (v : Int) := clampI (-(2 ^ 63)) (2 ^ 63 - 1) v
      let i := clampI (lim.1 - nom) (lim.2 - nom) (sat (x.folI + sint e * ((s.rd .Gn_FOL_KI g).toNat : Int)))
      let raw := nom + i + sint e * ((s.rd .Gn_FOL_KP g).toNat : Int)
      let f := clampI lim.1 lim.2 raw
      s.setGrp g { y with folI := if f = raw then i else x.folI, cF := some (BitVec.ofInt 64 f) }
    else
      let lt := s.rf .Gn_FOL_CTL g 0 19 16
      if (if lt = 0 then 1 else lt) ≤ bad then
        (s.setGrp g { y with fol := .hold, folLoss := true, folGood := 0 }).bump .Gn_CNT_FOL_LOSS g
      else s.setGrp g y

/-! ### Turn records (R113, R114) -/

/-- A chain follower at a turn boundary: the record of the turn, or holdover (R21, R114). -/
def State.folRecord (s : State) (g : Nat) : State :=
  let x := s.grp g
  let nx := s.nextAngle g
  let turn := BitVec.ofInt 64 (x.turn.toInt + nx.2)
  match x.turnRecs.find? fun r => r.turn = turn with
  | none =>
    (s.setGrp g { x with holdover := true }).bump .Gn_CNT_HOLDOVER g
  | some r =>
    let own := (angleAdd x.a (x.f.toInt + r.step.toInt)).1
    let y := { x with
      holdover := false, cF := some r.f, cD := some r.d
      -- the step that leads from the own angle to the record's
      cStep := r.a - nx.1
      turnRecs := x.turnRecs.filter fun z => (z.turn - turn).toInt > 0 }
    let s1 := s.setGrp g y
    if own = r.a then s1
    else (s1.bump .Gn_CNT_RESYNC g).logErr 0 18 g 0x0007 0xFF (lo32 turn.toNat).toNat 0

/-! ### The step to the next sample (R104) -/

/-- The carry that the playing entry counts: none at its first sample (R148, R174). -/
def Group.carried (x : Group) (w : Int) : Int := if x.startN = x.n then 0 else w

/-- The group forms its next sample: angle, words, turn counter, FLIMIT. Commits have left their values in `cF`, `cD` and
`cStep`. The limits of a local follower have no effect (R112), so its FLIMIT is 0. -/
def State.advance (s : State) (g : Nat) : State :=
  let x := s.grp g
  let base := { x with cF := none, cD := none, cStep := 0, bnd := none }
  if s.bindMode g = 1 then
    let l := s.grp (s.bindLeader g)
    let nx := s.nextAngle g
    s.setGrp g { base with
      a := nx.1, f := l.f, d := l.d, turn := l.turn, wrap := nx.2, flimit := false, stepIn := 0
      recTurn := x.recTurn + x.carried nx.2, bounds := x.bounds + (x.carried nx.2).natAbs }
  else
    let step := x.cStep.toInt
    let nx := angleAdd x.a (x.f.toInt + step)
    let lim := s.limitsNow g
    let offered := match x.cF with
      | some f => f.toInt
      | none => x.f.toInt + x.d.toInt
    let fl := clampF lim.1 lim.2 offered x.flimit
    let d := match x.cD with
      | some d => d
      | none => x.d
    let s1 := s.setGrp g { base with
      a := nx.1, f := BitVec.ofInt 64 fl.1, d := if s.folEn g then 0 else d, flimit := fl.2, stepIn := BitVec.ofInt 64 step
      turn := BitVec.ofInt 64 (x.turn.toInt + nx.2), wrap := nx.2
      recTurn := x.recTurn + x.carried nx.2, bounds := x.bounds + (x.carried nx.2).natAbs }
    if fl.2 && !x.flimit then s1.bump .Gn_CNT_LIMIT g else s1

/-- The turn record of the sample that a chain leader has formed, if it is a turn boundary (R113). -/
def State.leaderRecord (s : State) (g : Nat) : List TurnRec :=
  let y := s.grp g
  if y.st.plays && y.st ≠ .excluded && y.wrap ≠ 0 then [⟨s.bindId g, y.turn, y.f, y.d, y.stepIn, y.a⟩] else []

end Sys2Proof.Machine
end

