-- ==== Sys2Proof/Machine/Staging.lean ====
section
/-!
DEFINITION. Staged fields and commits (R77, R106, R182 to R188, R237, R240, R253): which group owns a staged
register, what a write of one does when it takes effect, and the open and released sets of a group.
-/
namespace Sys2Proof.Machine

/-- The group that owns a channel: GROUP while EN is 1 (R228). -/
def State.chanOwner (s : State) (c : Nat) : Option Nat := if s.chEn c then some (s.chGroup c) else none

/-- The owner of a route entry: the group of the channel it names when EN is 1, else of the channel it named before (R240). -/
def State.routeOwner (s : State) (old val : Word) : Option Nat :=
  if bit val 31 then s.chanOwner (fld val 4 0)
  else if bit old 31 then s.chanOwner (fld old 4 0) else none

/-- The group that owns a staged register, given the value to be written (R77, R221, R240, R253). -/
def State.stagedOwner (s : State) (ref : RegRef) (val : Word) : Option Nat :=
  match ref with
  | (.OUT_DAC_SRC_d, d, _) => s.routeOwner (s.rd .OUT_DAC_SRC_d d) val
  | (.OUT_SV_SRC_s_q, i, q) => s.routeOwner (s.rd .OUT_SV_SRC_s_q i q) val
  | (.OUT_SV_SCALE_s_q, i, q) =>
    if s.rb .OUT_SV_SRC_s_q i q 31 then s.chanOwner (s.rf .OUT_SV_SRC_s_q i q 4 0) else none
  | (.DAC_CFG_d, d, _) =>
    match s.dacSrc d with
    | some c => s.chanOwner c
    | none => none
  | (r, i, _) =>
    match r.blk with
    | .group => some i
    | .chan => s.chanOwner i
    | .hrm => s.chanOwner i
    | _ => none

/-- A route entry among staged writes (R240). -/
def isRoute (off : Nat) : Bool := 0x80100 ≤ off && off < 0x80800

/-- A DAC's route takes effect (R241): it loses, gains or keeps its source. -/
def State.applyRoute (s : State) (d : Nat) (val : Word) : State :=
  let old := s.dacGroup d
  let s1 := s.wr .OUT_DAC_SRC_d d 0 val
  match old, s1.dacGroup d with
  | some g, none => s1.dacRamp d g
  | none, none => s1.setDac d { s1.dac d with waiting := false }
  | none, some _ => s1.dacGain d
  | some g, some g' => if g = g' then s1 else (s1.dacRamp d g).modDac d fun x => { x with waiting := true }

/-- Copy a value into a staged register and do what goes with it at the commit (R186, R214, R218, R241, R254). -/
def State.applyStaged (s : State) (off : Nat) (val : Word) : State :=
  match RegId.at? off with
  | none => s
  | some (r, i, j) =>
    let v := blend (mkW r.row.mask) (s.rd r i j) val
    let running := s.grpRunning i
    match r with
    | .OUT_DAC_SRC_d => s.applyRoute i v
    | .DAC_CFG_d =>
      let s1 := s.wr r i 0 (blend 1 (s.rd r i) v)
      let new := bit v 0
      if (s.dac i).range = new then s1
      -- a live DAC holds the level that it shows
      else s1.modDac i fun x => { x with
        range := new, hold := if x.mode = .live then some (x.hold.getD (dacLevel x.code x.range)) else none }
    | .HRM_AMP_c_p =>
      let toAbs := !s.prtAbs i j && bit v 28
      let s1 := s.wr r i j v
      if (s.chan i).run then
        s1.modPrt (prtKey i j) fun x =>
          { x with amp := fld v 23 0 * 2 ^ 16, clamped := false, b := if toAbs then 0 else x.b }
      else s1
    | .Gn_FREQ_LO | .Gn_FREQ_HI =>
      let s1 := s.wr r i 0 v
      if running && !s.folEn i && s.bindMode i ≠ 3 then
        s1.modGrp i fun x => { x with cF := some (s1.rd64 .Gn_FREQ_LO .Gn_FREQ_HI i) } else s1
    | .Gn_ROC_LO | .Gn_ROC_HI =>
      let s1 := s.wr r i 0 v
      if running && !s.folEn i && s.bindMode i ≠ 3 then
        s1.modGrp i fun x => { x with cD := some (s1.rd64 .Gn_ROC_LO .Gn_ROC_HI i) } else s1
    | _ => s.wr r i j v

/-- A staged write of either half of the angle step. -/
def isStep (w : Nat × Word) : Bool :=
  match RegId.at? w.1 with
  | some (.Gn_ASTEP_LO, _, _) | some (.Gn_ASTEP_HI, _, _) => true
  | _ => false

/-- The angle step that the sets applied at the sample leave, a later write in place of an earlier one (R119, R186); on a chain follower it
has no effect (R463). -/
def State.takeStep (s : State) (g : Nat) (ws : List (Nat × Word)) : State :=
  if s.bindMode g = 3 || !ws.any isStep then s
  else s.modGrp g fun x => { x with cStep := BitVec.ofInt 64 (confine62 (s.rd64 .Gn_ASTEP_LO .Gn_ASTEP_HI g).toInt) }

/-- The angle step is consumed, and its register is zero (R119). -/
def State.zeroStep (s : State) (g : Nat) : State :=
  if s.rd64 .Gn_ASTEP_LO .Gn_ASTEP_HI g = 0 then s else s.wr64 .Gn_ASTEP_LO .Gn_ASTEP_HI g 0

/-- A write of a limit stores the confined value (R106). DEDUCED: the write is the addition of R182, a command or a direct write, because
the example of 04 gives the halves of a limit one after the other, the lower one first. -/
def State.confineAt (s : State) (off : Nat) : State :=
  match RegId.at? off with
  | some (.Gn_FMIN_LO, g, _) | some (.Gn_FMIN_HI, g, _) =>
    s.wr64 .Gn_FMIN_LO .Gn_FMIN_HI g (BitVec.ofInt 64 (confine62 (s.rd64 .Gn_FMIN_LO .Gn_FMIN_HI g).toInt))
  | some (.Gn_FMAX_LO, g, _) | some (.Gn_FMAX_HI, g, _) =>
    s.wr64 .Gn_FMAX_LO .Gn_FMAX_HI g (BitVec.ofInt 64 (confine62 (s.rd64 .Gn_FMAX_LO .Gn_FMAX_HI g).toInt))
  | _ => s

/-- The staged writes of one addition take effect together (R77, R106). -/
def State.applyWrites (s : State) (ws : List (Nat × Word)) : State :=
  ws.foldl (fun s w => s.confineAt w.1) (ws.foldl (fun s w => s.applyStaged w.1 w.2) s)

/-- Why a set cannot be applied: the offset of its first offending field (R106, R237, R253). `s1` holds the values as the
set would leave them. -/
def State.setOffends (s s1 : State) (g : Nat) (ws : List (Nat × Word)) : Option Nat :=
  let bad (w : Nat × Word) : Bool :=
    match RegId.at? w.1 with
    | some (.Gn_FMIN_LO, _, _) | some (.Gn_FMIN_HI, _, _) | some (.Gn_FMAX_LO, _, _) | some (.Gn_FMAX_HI, _, _) =>
      let l := s1.limits g
      decide (l.2 < l.1)
    | some (.CHn_CLIP_HI, c, _) | some (.CHn_CLIP_LO, c, _) =>
      decide (sint (s1.rd .CHn_CLIP_HI c) < sint (s1.rd .CHn_CLIP_LO c))
    | some (.DAC_CFG_d, d, _) => s1.rb .DAC_CFG_d d 0 0 && !s.rb .DAC_X2_PERMIT 0 0 d
    | _ => false
  (ws.find? bad).map fun w => w.1

/-- Another set released by the same command is still to be applied: the command completes with its last set (R182, R186). -/
def State.setsLeft (s : State) (cmd : Option CmdRef) : Bool :=
  cmd.isSome && (List.range 8).any fun h =>
    (s.grp h).released.any (fun y => y.cmd = cmd) || (s.grp h).relWait.any fun y => y.1 = cmd

/-- Apply one set at the sample presented at `t`, whole, and complete the command that released it (R186); a set that
fails R106, R237 or R253 is discarded whole. -/
def State.applySet (s : State) (g : Nat) (x : StageSet) (t : Nat) (status : Nat) : State :=
  let s1 := s.applyWrites x.writes
  match s.setOffends s1 g x.writes with
  | some off =>
    ((s.bump .Gn_CNT_STAGE_REJ g).logErr 0 18 g 0x0006 (if x.cmd.isSome then stBadParam else 0xFF) off 0).finishOpt x.cmd
      stBadParam []
  | none =>
    let s2 := x.entries.foldl (fun s e => s.setEntry g e.1 e.2) (s1.takeStep g x.writes)
    let s3 := s2.modGrp g fun y => { y with lastCommit := t }
    if s3.setsLeft x.cmd then s3 else s3.finishOpt x.cmd status (x.res.getD (timeWords t))

/-- A set that carries a route entry. -/
def StageSet.hasRoute (x : StageSet) : Bool := x.writes.any fun w => isRoute w.1

/-- The open set of a group has anything in it. -/
def StageSet.isEmpty (x : StageSet) : Bool := x.writes.isEmpty && x.entries.isEmpty

/-- The last released set misses its target, which is sample `n`, and is late from now on: it waits for `marks` turn marks after it
(R185). -/
def State.missed (s : State) (g n marks : Nat) : State :=
  ((s.modGrp g fun x => { x with released := x.released.dropLast ++ (x.released.getLast?.map fun y =>
    { y with late := true, marks := marks, missN := n }).toList }).bump .Gn_CNT_LATE g).irqIf .Gn_CTL g 1

/-- Release the open set of a group, at the tick at which it accepts the release (R182); with four released sets the
release waits (R183). -/
def State.release (s : State) (g : Nat) (cmd : Option CmdRef) (res : Option (List Word)) : State :=
  let x := s.grp g
  let r := s.now / 256 * 256
  if 4 ≤ x.released.length then s.setGrp g { x with relWait := x.relWait ++ [(cmd, res)] }
  else s.setGrp g { x with
    released := x.released ++ [{ x.openSet with r := r, cmd := cmd, res := res, late := false, marks := 0 }]
    openSet := {} }

/-- When a released set has been applied, a release that waited is accepted (R183). -/
def State.releaseWaiting (s : State) (g : Nat) : State :=
  let x := s.grp g
  match x.relWait with
  | [] => s
  | (c, res) :: t => (s.setGrp g { x with relWait := t }).release g c res

/-- Limits of one set: 256 field writes and 64 table entries (R183). -/
def StageSet.fits (x : StageSet) (w e : Nat) : Bool :=
  x.writes.length + w ≤ 256 && x.entries.length + e ≤ 64

/-- HOLD of Gn_STAGE_CTL. -/
def State.hold (s : State) (g : Nat) : Bool := s.rb .Gn_STAGE_CTL g 0 0

/-- Add field writes and entries to the open set, and release it at once while HOLD is 0 (R182). -/
def State.stageAdd (s : State) (g : Nat) (ws : List (Nat × Word)) (es : List (Nat × List Word))
    (cmd : Option CmdRef) (res : Option (List Word)) : State :=
  let s1 := s.modGrp g fun x =>
    { x with openSet := { x.openSet with writes := x.openSet.writes ++ ws, entries := x.openSet.entries ++ es } }
  if s.hold g then s1 else s1.release g cmd res

/-- P[m − 64]: the presentation time of the sample 64 before the one presented at `t`; before the start it is counted
back in sample periods. -/
def State.back64 (s : State) (g t : Nat) : Nat :=
  let x := s.grp g
  match x.times[63]? with
  | some p => p
  | none => (x.times.getLast?.getD t) - (64 - x.times.length) * s.periodGrains g

/-- What becomes of one released set at the sample presented at `t`: it applies with a status, it is found late, or it
waits. -/
inductive SetFate where
  | apply (status : Nat)
  | late (marks : Nat)
  | mark (marks : Nat)
  | wait
  deriving DecidableEq, Repr

/-- The fate of a set at sample `n` (R184, R185): `cp` the sample is a commit point, `mk` a turn mark, which is what a set with a route
waits for (R109, R240). -/
def setFate (x : StageSet) (n t back : Nat) (cp mk : Bool) : SetFate :=
  if x.late then
    if mk && x.missN < n then (if x.marks ≤ 1 then (if x.r ≤ back then .apply stDeferred else .wait) else .mark (x.marks - 1)) else .wait
  else if x.r + grainsPerSec < t then
    -- no commit point within 1 s of its release: late, and this mark may be the one
    if mk && x.r ≤ back then .apply stDeferred else .late 1
  else if (if x.hasRoute then mk else cp) && x.r < t then
    if x.r ≤ back then .apply stOK else .late (if mk then 1 else 2)
  else .wait

/-- Released sets at the sample presented at `t`, in release order; a set that waits holds back the ones after it (R184,
R185, R186). -/
def State.commitSets (s : State) (g t : Nat) (cp mk : Bool) : Nat → State
  | 0 => s
  | fuel + 1 =>
    match (s.grp g).released with
    | [] => s
    | x :: rest =>
      match setFate x (s.grp g).n t (s.back64 g t) cp mk with
      | .apply st =>
        let s0 := if x.late || st = stOK then s else (s.bump .Gn_CNT_LATE g).irqIf .Gn_CTL g 1
        let s1 := (s0.modGrp g fun y => { y with released := rest }).applySet g x t st
        (s1.releaseWaiting g).commitSets g t cp mk fuel
      | .late m =>
        ((s.modGrp g fun y => { y with released := { x with late := true, marks := m, missN := y.n } :: rest }).bump .Gn_CNT_LATE g).irqIf
          .Gn_CTL g 1
      | .mark m => s.modGrp g fun y => { y with released := { x with marks := m } :: rest }
      | .wait => s

/-- When a group stops it applies every released set and then the open set (R188). -/
def State.commitAll (s : State) (g t : Nat) : State :=
  let x := s.grp g
  let s1 := s.setGrp g { x with released := [], openSet := {}, relWait := [], cF := none, cD := none, cStep := 0 }
  let s2 := x.released.foldl (fun s y => s.applySet g y t stOK) s1
  let s3 := if x.openSet.isEmpty && x.relWait.isEmpty then s2 else s2.applySet g { x.openSet with cmd := none } t stOK
  let s4 := x.relWait.foldl (fun s c => if s.setsLeft c.1 then s else s.finishOpt c.1 stOK (c.2.getD (timeWords t))) s3
  (s4.zeroStep g).modGrp g fun y => { y with cF := none, cD := none, cStep := 0, bnd := none }

end Sys2Proof.Machine
end

