-- ==== Sys2Proof/Machine/Seq.lean ====
section
/-!
DEFINITION. The sequencer (R168 to R197, R444 to R450): entry starts, duration ends, jumps, commits, turn
marks, stops, underruns, fallback and resumption, in the order of R177, and the presentation of a sample.
-/
namespace Sys2Proof.Machine

/-! ### The gambit (R178 to R181) -/

/-- The entry that a gambit region is for: 0 the playing entry, 1 the default successor, 2 to 5 the targets of its jumps. DEDUCED: an
entry with LAST or without end never goes on at NEXT and has no default successor. -/
def regionEntry (entryIdx : Nat) (e : List Word) (r : Nat) : Option Nat :=
  if r = 0 then some entryIdx
  else if r = 1 then (if eLast e || eDurKind e = 3 then none else some (eNext e))
  else if r < 6 ∧ jumpEn e (r - 2) then some (jumpTarget e (r - 2)) else none

/-- The entry that the horizon of a group is built on: the playing entry, the due entry in FALLBACK (R448), the start entry
while armed. -/
def State.horizonRoot (s : State) (g : Nat) : Nat :=
  let x := s.grp g
  if x.fb then x.due else if x.st.plays then x.entry else x.startEntry

/-- The entry of a region of a group, if the region is in use. -/
def State.region (s : State) (g r : Nat) : Option Nat :=
  let e := s.horizonRoot g
  if (s.grp g).fb ∧ r ≠ 0 then none else regionEntry e (s.entry g e) r

/-- The regions in use (R178). -/
def State.regionsUsed (s : State) (g : Nat) : List Nat :=
  if (s.grp g).st.isRunning then (List.range 6).filter fun r => (s.region g r).isSome else []

/-- What region `r` holds for an entry. -/
def heldRec (r : Nat) (w : List Word) : HeldRec := ⟨r, eSeg w, eMask w, if ePatEn w then some (ePseg w) else none⟩

/-- Region `r` is held: a synthesis state always is (R179). -/
def State.regionHeld (s : State) (g r : Nat) : Bool :=
  match s.region g r with
  | none => false
  | some e => eSynth (s.entry g e) || (s.grp g).held.contains (heldRec r (s.entry g e))

/-- An entry as it stands and as each released set would leave it (R187). -/
def State.versions (s : State) (g e : Nat) : List (List Word) :=
  s.entry g e :: (((s.grp g).released.flatMap fun x => x.entries).filter fun p => p.1 = e).map fun p => p.2

/-- What the gambit fetches (R178, R187): entries of the horizon, with their regions, in effect and as the released sets change them. -/
def State.wants (s : State) (g : Nat) : List (Nat × Nat × List Word) :=
  let root := s.horizonRoot g
  (s.versions g root).flatMap fun w => (List.range (if (s.grp g).fb then 1 else 6)).flatMap fun r =>
    match regionEntry root w r with
    | none => []
    | some e => (s.versions g e).map fun v => (e, r, v)

/-- Content that the gambit no longer needs leaves its regions: an old version after the commit that replaced it (R187). -/
def State.pruneHeld (s : State) (g : Nat) : State :=
  s.modGrp g fun x => { x with held := x.held.filter fun h => (s.wants g).any fun p => heldRec p.2.1 p.2.2 = h }

/-- The bytes of points that a slot's segment is read at in 3 µs of play (R179), at most: 8 points a sample by angle (R231), with
two envelope values each in an M segment (R147), or 48 and one more a sample of a T segment (R234). DEDUCED: the points are those that the
samples read, and not those between them. -/
def State.slotBytes (s : State) (g seg : Nat) : Nat :=
  let d := s.segDesc seg
  let p := s.periodTicks g
  let n := 2400 * p.2 / p.1 + 1
  let b := fmtBytes (dFmt d)
  if dKind d = 1 then (n + 48) * b else if dKind d = 2 then n * (8 * b + 6) else min (n * 8) (2 ^ dK d) * b

/-- The bytes of a P segment that are read in 3 µs (R150, R179): of each lane the bits of those steps. -/
def State.patBytes (s : State) (seg : Nat) : Nat :=
  let d := s.segDesc seg
  let lanes := ((List.range 64).filter fun i => (dMask d).getLsbD i).length
  lanes * ((2400 / dFine d + 1) / 8 + 2)

/-- An entry fits its region (R178, R179). -/
def State.entryFits (s : State) (g : Nat) (w : List Word) : Bool :=
  (eSlots w).all (fun i => s.slotBytes g i ≤ 4096) && (!ePatEn w || s.patBytes (ePseg w) ≤ 8192)

/-- An entry is held in some region, or always (R179). -/
def State.entryHeld (s : State) (g e : Nat) : Bool :=
  eSynth (s.entry g e) || (List.range 6).any fun r => s.region g r = some e && s.regionHeld g r

/-- UNHELD: a region of the horizon is not held (R180). -/
def State.unheld (s : State) (g : Nat) : Bool := (s.regionsUsed g).any fun r => !s.regionHeld g r

/-! ### Underruns (R444 to R449) -/

/-- An underrun of a group (R444): an episode opens at the next sample, counted and recorded once; in FALLBACK it is counted
and the group stays (R447). `due` is the entry being started, if a start failed. -/
def State.underrun (s : State) (g cause : Nat) (due : Option Nat) : State :=
  let x := s.grp g
  if x.fb then
    if x.st.plays then
      ((s.setGrp g { x with uSinceMark := true }).bump .Gn_CNT_UNDERRUN g).bump .ERR_CNT_UNDERRUN else s
  else if x.st.plays ∧ x.episode.isNone then
    let again := x.sinceResume.isSome
    let y := { x with
      episode := some ⟨x.n, none, due.getD x.entry⟩, due := due.getD x.entry, dueHeld := none
      lasting := x.lasting || again, sinceResume := none }
    let s2 := ((s.setGrp g y).bump .Gn_CNT_UNDERRUN g).bump .ERR_CNT_UNDERRUN
    if again then s2.lasting 18 g 0x0016 0xFF cause (x.n % 2 ^ 32) else s2.logErr 0 18 g 0x0016 0xFF cause (x.n % 2 ^ 32)
  else s

/-- A jump that is not made: FORCE_JUMP replies BUSY and is counted, an event's record no longer waits for it (R177, R446). -/
def State.dropTrig (s : State) (g : Nat) (y : Trig) : State :=
  if y.cmd.isSome then (s.finishOpt y.cmd stBusy []).bump .Gn_CNT_FORCE_REJ g else s.resolveEv y.ev g false false 0

/-! ### Entry starts (R175, R195) -/

/-- The causes of Gn_LASTSW_INFO. -/
def swStart : Nat := 0
def swDuration : Nat := 1
def swCondition : Nat := 2
def swForce : Nat := 3
def swFallback : Nat := 4
def swResume : Nat := 5

/-- The last-switch registers at a start presented at `t` (R195). -/
def State.recordSwitch (s : State) (g e old idx cause t : Nat) : State :=
  let s1 := s.modGrp g fun x =>
    { x with lastSw := t, lastInfo := mkW (e + old * 2 ^ 16 + idx * 2 ^ 26 + cause * 2 ^ 28) }
  (s1.bump .Gn_CNT_SWITCH g).irqIf .Gn_CTL g 2

/-- Positions of the T slots of an entry at its start: accumulator zero and step (R232). -/
def State.tSlots (s : State) (g : Nat) (e : List Word) : List (Nat × Nat × Nat) :=
  ((List.range 8).filter fun j => (eMask e).testBit j && s.slotOk g (eSeg e + j) && dKind (s.segDesc (eSeg e + j)) = 1).map
    fun j => (j, 0, s.tStep g (s.segDesc (eSeg e + j)))

/-- An entry starts at the sample being formed, presented at `t`: markers pulse, the P segment restarts, record turns and T
positions are zero, the successor and the targets are requested (R174, R175, R180). Jumps on events that are not
delayed switches belong to the entry left. -/
def State.entryStart (s : State) (g e t idx cause plays : Nat) : State :=
  let x := s.grp g
  let w := s.entry g e
  let dropped := x.trigs.filter fun y => y.cmd.isNone && !y.delayed
  let keep := x.trigs.filter fun y => y.cmd.isSome || y.delayed
  let s1 := dropped.foldl (fun s y => s.resolveEv y.ev g false false 0) s
  let s2 := s1.setGrp g { x with
    entry := e, plays := plays, startN := x.n, startT := t, bounds := 0, recTurn := 0, trigs := keep
    -- content that a region already holds stays held
    held := heldRec 0 w :: x.held.filter fun h => h.region ≠ 0 && match regionEntry e w h.region with
      | some i => heldRec h.region (s.entry g i) = h
      | none => false
    tpos := s.tSlots g w
    pat := if ePatEn w then some (ePseg w, nextTick t, 0) else none }
  (s2.markEntry g (eMark w) (nextTick t)).recordSwitch g e x.entry idx cause t

/-- A start of entry `e` at the sample being formed: an underrun when a segment it names may not be played (R161, R173). -/
def State.tryStart (s : State) (g e t idx cause plays : Nat) : State :=
  if s.entryOk g (s.entry g e) then s.entryStart g e t idx cause plays else s.underrun g 5 (some e)

/-! ### Stops (R193) -/

/-- The channels, DACs, lanes and markers of a group that stops: DACs ramp, or go to mid-scale at once. -/
def State.outputsStop (s : State) (g : Nat) (ramp : Bool) : State :=
  let s0 := (s.chansOf g).foldl (fun s c => s.chanStop c g ramp) s
  let s1 := if ramp then s0 else s0.rampsMid g
  let s2 := (s1.modGrp g fun x => { x with rampLeft := if ramp then 64 else 0, pat := none, late := [], lead := 0 }).lanesStop g
  (s2.markersLow g).settlePairs s.now

/-- A change of the DAC block's running bit (R259, R260): starting needs allowed limits; clearing it takes every DAC to
mid-scale, and the reference is off. -/
def State.dacBlock (s : State) (on : Bool) : State :=
  if on then
    if ((List.range 32).any fun d => s.rf .DAC_CFG_d d 0 5 4 = 3) then s else s.setRunning 6 true
  else
    let s1 := (List.range 32).foldl (fun s d => s.dacMid d) s
    (s1.setRunning 6 false).wrb .DAC_STATUS 0 0 1 false

/-- EXCLUDED clears once no group of the device is in state EXCLUDED (R365). -/
def State.exclSettle (s : State) : State :=
  if s.chn.excluded && !(List.range 8).any (fun g => (s.grp g).st = .excluded || ((s.grp g).fb && (s.grp g).st = .stopping)) then
    { s with chn := { s.chn with excluded := false } }
  else s

/-- A group stops at the sample that would have been presented at `t`: sets are applied, waiting commands complete, and it
enters STOPPED, or DISABLED when its enable is cleared (R188, R193). `ramp` is false for the stops without a ramp. -/
def State.stopOne (s : State) (g t : Nat) (ramp : Bool) : State :=
  let x := s.grp g
  let s1 := s.commitAll g t
  let s2 := x.trigs.foldl (fun s y => s.dropTrig g y) s1
  let s3 := x.stops.foldl (fun s y => s.finishOpt y.cmd stOK (timeWords t)) s2
  let s4 := (s3.finishOpt x.startCmd stBusy []).finishOpt x.armCmd stBusy []
  let s5 := s4.modGrp g fun y => { y with
    st := if s.rb .Gn_CTL g 0 0 then .stopped else .disabled
    stops := [], trigs := [], startCmd := none, armCmd := none, episode := none, fb := false, lasting := false
    sinceResume := none, flimit := y.flimit, fol := .off, folLoss := false, folRes := [], holdover := false, turnRecs := [], held := [], bnd := none }
  (((s5.outputsStop g ramp).flushLog).settleEnables State.dacBlock).slackRestart.exclSettle

/-- A group stops, and its local followers stop at the same sample (R112). -/
def State.stopGroup (s : State) (g t : Nat) (ramp : Bool) : State :=
  let s1 := s.stopOne g t ramp
  (List.range 8).foldl (fun s h =>
    if s.bindMode h = 1 ∧ s.bindLeader h = g ∧ (s.grp h).st.isRunning then s.stopOne h t ramp else s) s1

/-! ### Decisions for the sample being formed (R177) -/

/-- The playing entry ends at the sample presented at `t` (R174). -/
def State.durEnd (s : State) (g t : Nat) : Bool :=
  let x := s.grp g
  let e := s.entry g x.entry
  let count := (wAt e 1).toNat + 2 ^ 32 * (wAt e 2).toNat
  match eDurKind e with
  | 0 => s.nextBoundary g && count ≤ x.bounds + 1
  | 1 => x.startN + count ≤ x.n
  | 2 => x.startN < x.n && mkTime ((wAt e 2).toNat + 2 ^ 32 * fld (wAt e 3) 15 0) (fld (wAt e 1) 29 0) 0 ≤ t
  | _ => false

/-- A trigger may switch at the sample presented at `t`: its time has come, and a seamless jump is at a boundary (R176). -/
def State.trigDue (s : State) (g t : Nat) (y : Trig) : Bool :=
  y.earliest ≤ t && (!y.seamless || s.nextBoundary g) && (s.grp g).startN < (s.grp g).n

/-- The target of a trigger is held: in a region of the horizon, or since it was asked for (R179, R181, R194). -/
def State.trigHeld (s : State) (g : Nat) (y : Trig) : Bool := s.entryHeld g y.target || y.heldAt.isSome

/-- The target of a trigger can be switched to: held, for a delayed switch 40 ticks or more before (R181). -/
def State.trigReady (s : State) (g t : Nat) (y : Trig) : Bool :=
  if y.delayed then (match y.heldAt with
    | some h => h + ticks 40 ≤ t
    | none => false)
  else s.trigHeld g y

/-- The order in which triggers claim a sample: conditional jumps by condition index, then FORCE_JUMP (R177). -/
def trigRank (y : Trig) : Nat := if y.cmd.isSome then 4 else y.idx

/-- The trigger that claims a sample first. -/
def firstTrig : List Trig → Option Trig
  | [] => none
  | y :: t =>
    match firstTrig t with
    | none => some y
    | some z => if trigRank y ≤ trigRank z then some y else some z

/-- Entry decisions are open at the sample being formed: the group plays its table (R446). -/
def State.deciding (s : State) (g : Nat) : Bool :=
  let x := s.grp g
  x.st.plays && !x.fb && x.episode.isNone

/-- Switches of which the target is not held become delayed (R181). -/
def State.delaySwitches (s : State) (g t : Nat) : State :=
  if s.deciding g then
    let x := s.grp g
    let miss (y : Trig) : Bool := s.trigDue g t y && !y.delayed && !s.trigHeld g y
    let s1 := s.setGrp g { x with
      trigs := x.trigs.map fun y => if miss y then { y with delayed := true } else y }
    (x.trigs.filter miss).foldl (fun s _ => s.bump .Gn_CNT_UNHELD g) s1
  else s

/-- The triggers that claim the sample presented at `t` with a held target. -/
def State.claims (s : State) (g t : Nat) (delayed : Option Bool) : List Trig :=
  (s.grp g).trigs.filter fun y =>
    s.trigDue g t y && s.trigReady g t y && (match delayed with
      | some b => y.delayed = b
      | none => true)

/-- A switch at the sample presented at `t` (R24, R176, R181, R206): the first claim is taken, the others lose. -/
def State.switch (s : State) (g t : Nat) (delayed : Option Bool) : State :=
  if !s.deciding g then s
  else
    let cl := s.claims g t delayed
    match firstTrig cl with
    | none => s
    | some y =>
      let losers := cl.filter fun z => z ≠ y
      let x := s.grp g
      let s1 := s.setGrp g { x with trigs := x.trigs.filter fun z => !cl.contains z }
      let s2 := losers.foldl (fun s z =>
        if z.cmd.isSome then (s.finishOpt z.cmd stBusy []).bump .Gn_CNT_FORCE_REJ g
        else (s.resolveEv z.ev g false true t).bump .EVT_CNT_COINCIDENT) s1
      let rep := eRepeat (s.entry g y.target)
      let before := (s2.grp g).episode
      let s3 := s2.tryStart g y.target t (if y.cmd.isSome then 0 else y.idx)
        (if y.cmd.isSome then swForce else swCondition) rep
      let ok := (s3.grp g).episode = before
      let s4 := if ok then s3.resolveEv y.ev g true false t else s3.resolveEv y.ev g false false t
      if ok then s4.finishOpt y.cmd stOK (timeWords t)
      else if y.cmd.isSome then (s4.finishOpt y.cmd stBusy []).bump .Gn_CNT_FORCE_REJ g else s4

/-- The duration end at the sample presented at `t` (R174, R175, R181): the next play, NEXT, or an underrun when the successor
is not held. LAST is a stop and decided there. DESIGN CHOICE: the condition index of Gn_LASTSW_INFO is 0 for every cause that is no
condition (R195). -/
def State.durationEnd (s : State) (g t : Nat) : State :=
  let x := s.grp g
  if s.deciding g && x.startN < x.n && s.durEnd g t then
    let e := s.entry g x.entry
    if 0 < x.plays then s.tryStart g x.entry t 0 swDuration (x.plays - 1)
    else if eLast e then s
    else if s.regionHeld g 1 then s.tryStart g (eNext e) t 0 swDuration (eRepeat (s.entry g (eNext e)))
    else s.underrun g 6 (some (eNext e))
  else s

/-- The last play of the entry ends at the sample, by duration or by a jump that could be taken (R175, R193). -/
def State.entryEnds (s : State) (g t : Nat) : Bool :=
  let x := s.grp g
  s.deciding g && x.startN < x.n && ((s.durEnd g t && x.plays = 0) || !(s.claims g t none).isEmpty)

/-- A stop is due at the sample presented at `t` (R189, R193): the next sample, a turn mark, the end of the entry, or LAST. -/
def State.stopDue (s : State) (g t : Nat) : Bool :=
  let x := s.grp g
  (x.stops.any fun y =>
    match y.mode with
    | 0 => s.nextMark g t
    | 1 => s.entryEnds g t
    | _ => true) ||
  (s.deciding g && x.startN < x.n && eLast (s.entry g x.entry) && x.plays = 0 && s.durEnd g t &&
    (s.claims g t none).isEmpty)

/-- Conditional jumps that claim the sample presented at `t` lose it to a stop or an underrun and are logged COINCIDENT (R177);
what else waits to jump is dropped (R446). -/
def State.loseJumps (s : State) (g t : Nat) : State :=
  let x := s.grp g
  let cl := if x.st.plays && !x.fb then (s.claims g t none).filter fun y => y.cmd.isNone else []
  let s1 := s.setGrp g { x with trigs := [] }
  x.trigs.foldl (fun s y => if cl.contains y then s.resolveEv y.ev g false true t else s.dropTrig g y) s1

/-- A stop at its stop point (R193). -/
def State.stopPoint (s : State) (g t : Nat) : State :=
  if (s.grp g).st.plays && s.stopDue g t then (s.loseJumps g t).stopGroup g t (!(s.grp g).stops.any fun y => y.mid) else s

/-- The first underrun sample is being formed: its presentation time (R444); from it on there is no conditional jump and no
FORCE_JUMP (R446). -/
def State.markUnderrun (s : State) (g t : Nat) : State :=
  let x := s.grp g
  match x.episode with
  | some ep =>
    if ep.firstT.isNone then (s.setGrp g { x with episode := some { ep with firstT := some t } }).loseJumps g t else s
  | none => s

/-- A cause of an underrun at the sample presented at `t` itself: it comes before the jumps and after a stop (R177, R444). -/
def State.sampleMissed (s : State) (g cause t : Nat) : State :=
  if s.stopDue g t then s else s.underrun g cause none

/-- The fallback boundary: the first turn mark at least 0.5 µs after the first underrun sample; the group enters FALLBACK
(R446, R447, R450). -/
def State.fallback (s : State) (g t : Nat) : State :=
  let x := s.grp g
  match x.episode with
  | some ep =>
    match ep.firstT with
    | some f =>
      if x.st.plays && !x.fb && s.nextMark g t && f + ticks 400 ≤ t then
        let anyFb := (List.range 8).any fun h => (s.grp h).fb
        let s1 := s.setGrp g { x with
          st := if x.st = .running then .fallback else x.st
          episode := none, fb := true, fbMarks := 0, due := ep.due, uSinceMark := false, held := [], pat := none
          dueHeld := if eSynth (s.entry g ep.due) then some t else none }
        let s2 := (s1.recordSwitch g ep.due x.entry 0 swFallback t).logErr 0 18 g 0x0017 0xFF ep.due (x.n % 2 ^ 32)
        let s3 := if anyFb then s2 else s2.irqIf .ERR_CTL 0 3
        (s3.markersLow g).settlePairs t
      else s
    | none => s
  | none => s

/-- The resumption of a group in FALLBACK at a turn mark (R448). -/
def State.resumption (s : State) (g t : Nat) : State :=
  let x := s.grp g
  let held := match x.dueHeld with
    | some h => h ≤ s.back64 g t
    | none => false
  if x.st = .fallback && s.nextMark g t && s.rb .Gn_FALLBACK g 0 16 && !x.lasting && 1 ≤ x.fbMarks && held &&
      !x.uSinceMark && s.entryOk g (s.entry g x.due) then
    let s1 := s.setGrp g { x with st := .running, fb := false, sinceResume := some 0 }
    ((s1.entryStart g x.due t 0 swResume (eRepeat (s.entry g x.due))).logErr 0 18 g 0x0018 0xFF x.due (x.n % 2 ^ 32))
  else s

/-- A segment angle point is reached or passed by the next sample, in the direction of F (R184). -/
def angleHit (a f c : W64) : Bool :=
  if f.toInt > 0 then 0 < (c - a).toNat && (c - a).toNat ≤ f.toNat
  else if f.toInt < 0 then 0 < (a - c).toNat && (a - c).toNat ≤ (0 - f).toNat
  else false

/-- The sample being formed is a commit point of the group (R184, R447). -/
def State.isCommit (s : State) (g : Nat) : Bool :=
  let x := s.grp g
  let e := s.entry g x.entry
  if x.fb then s.nextBoundary g || s.wraps g
  else
    (x.startN = x.n && eCStart e) || ((s.nextBoundary g || s.wraps g) && eCTurn e) ||
      (eCAngle e && angleHit x.a x.f (BitVec.ofNat 64 (eCAng e * 2 ^ 52)))

/-- The content of the playing entry is not what it was before the commits of this sample (R187): T slots that name another segment
begin it, another P segment begins at its step 0, and content that may not be played or is not held is an underrun (R161, R444). DEDUCED:
a segment that a commit brings in begins at the commit sample. -/
def State.contentChanged (s : State) (g t : Nat) (old : List Word) : State :=
  let x := s.grp g
  let w := s.entry g x.entry
  if !x.st.plays || x.fb || heldRec 0 w = heldRec 0 old then s
  else
    let s1 := s.setGrp g { x with
      tpos := (s.tSlots g w).map fun p => if eSeg w = eSeg old then (x.tpos.find? fun z => z.1 = p.1).getD p else p
      pat := if (heldRec 0 w).pseg = (heldRec 0 old).pseg then x.pat else if ePatEn w then some (ePseg w, nextTick t, 0) else none }
    if !s1.entryOk g w then s1.underrun g 5 none else if !s1.regionHeld g 0 then s1.underrun g 9 none else s1

/-- Released sets commit at the sample presented at `t`, at which the group's own commit points (`cp`) and turn marks (`mk`) let them
(R184 to R187). -/
def State.commitAt (s : State) (g t : Nat) (cp mk : Bool) : State :=
  let x := s.grp g
  if x.released.isEmpty then s
  else (((s.commitSets g t cp mk 16).zeroStep g).contentChanged g t (s.entry g x.entry)).pruneHeld g

/-- The commits of the sample presented at `t` (R184 to R187): sets bound to it, and late sets at a turn mark. -/
def State.commitPoint (s : State) (g t : Nat) : State :=
  let x := s.grp g
  if x.st.isRunning && x.commitN ≠ some x.n then
    (s.setGrp g { x with commitN := some x.n }).commitAt g t (s.isCommit g) (s.nextMark g t || s.wraps g)
  else s

/-- Whether the next sample, presented at `t`, is a turn boundary with the step that its commits bring (R108), for what is decided
before the commits. DEDUCED: it is foreseen on the path that the group is on. -/
def State.foreseeStep (s : State) (g t : Nat) : State :=
  s.modGrp g fun x => { x with bnd := some ((s.commitPoint g t).formsBoundary g) }

/-- What happens at a turn mark beside late sets: channel enables, DACs that wait at a turn boundary, the counts of
fallback and resumption (R109, R229, R241, R448, R449). -/
def State.turnMark (s : State) (g t : Nat) : State :=
  let x := s.grp g
  if x.st.plays && s.formsMark g t && x.markN ≠ some x.n then
    let y := { x with
      lastMarkT := t, markN := some x.n
      fbMarks := if x.fb then x.fbMarks + 1 else 0
      uSinceMark := false
      sinceResume := match x.sinceResume with
        | some k => if k + 1 < 16 then some (k + 1) else none
        | none => none }
    ((s.setGrp g y).chanMarks g).dacMarks g
  else s

/-- Follow loop and turn records at a turn boundary (R114, R117), after the commit at the sample, whose limits and step they meet
(R104, R118). -/
def State.boundaryWork (s : State) (g : Nat) : State :=
  if s.formsBoundary g then
    if s.bindMode g = 3 then s.folRecord g
    else if s.folEn g then s.folBoundary g else s
  else s

/-- Every decision for the sample presented at `t`, in the order of R177. -/
def State.decideSample (s : State) (g t : Nat) : State :=
  let s1 := (s.foreseeStep g t).stopPoint g t
  if (s1.grp g).st.plays then
    let s2 := (((s1.markUnderrun g t).fallback g t).resumption g t)
    let s3 := (((s2.delaySwitches g t).switch g t none).durationEnd g t).markUnderrun g t
    (((s3.commitPoint g t).markUnderrun g t).boundaryWork g).turnMark g t
  else s1

/-! ### Presentation -/

/-- T positions advance by their step, in 64 bits (R232). -/
def advTpos (l : List (Nat × Nat × Nat)) : List (Nat × Nat × Nat) := l.map fun p => (p.1, (p.2.1 + p.2.2) % 2 ^ 64, p.2.2)

/-- The group's counters after a sample presented at `t`. -/
def State.counted (s : State) (g t : Nat) : State :=
  let lead := s.leadNext g
  s.modGrp g fun x => { x with lead := lead, n := x.n + 1, times := (t :: x.times).take 64, hist := ((t, x.a, x.f) :: x.hist).take 16, tpos := advTpos x.tpos }

/-! ### What the group foresees (R113, R185) -/

/-- A copy of the machine in which the next sample of a group, presented at `t`, has been formed. -/
def State.ahead (s : State) (g t : Nat) : State :=
  let s1 := s.decideSample g t
  if (s1.grp g).st.plays then (s1.advance g).counted g t else s1

/-- When the next sample of a group is due. -/
def State.nextAt (s : State) (g : Nat) : Nat := (s.grp g).times.head?.getD s.now + s.periodGrains g

/-- The turn records of a chain leader's next `fuel` samples, the first at `t`, each with the index of its sample (R113). -/
def State.recordsAhead (s : State) (g t p : Nat) : Nat → List (Nat × TurnRec)
  | 0 => []
  | fuel + 1 =>
    let c := s.ahead g t
    (c.leaderRecord g).map (fun r => ((s.grp g).n, r)) ++ c.recordsAhead g (t + p) p fuel

/-- After a sample a chain leader closes the records of the boundaries whose staging deadline the sample is: the one 64 samples ahead; with
sample 0 those that are nearer too. DEDUCED: no step of follow mode can be known before its boundary, so a leader in follow mode sends the
record of the sample itself (R118). -/
def State.leaderRecords (s : State) (g : Nat) : State :=
  let x := s.grp g
  if s.bindMode g ≠ 2 || !x.st.plays then s
  else if s.folEn g then (s.leaderRecord g).foldl (fun s r => s.sendTurnRecord r) s
  else
    let rs := (s.recordsAhead g (s.nextAt g) (s.periodGrains g) 64).filter fun r => x.n ≤ 1 || r.1 = x.n + 63
    rs.foldl (fun s r => s.sendTurnRecord r.2) s

/-- The target that the last released set of a group misses among the next `fuel` samples, the first at `t`: its sample, and the turn
marks to pass after it (R184, R185). -/
def State.missAhead (s : State) (g t p : Nat) : Nat → Option (Nat × Nat)
  | 0 => none
  | fuel + 1 =>
    let c := s.ahead g t
    match (c.grp g).released.getLast? with
    | none => none
    | some y => if y.late then some (y.missN, y.marks) else c.missAhead g (t + p) p fuel

/-- A set that has just been released is late at once when its target is less than 64 samples ahead (R184, R185). -/
def State.judge (s : State) (g : Nat) : State :=
  let x := s.grp g
  if x.st.plays && x.relWait.isEmpty && x.released.getLast?.any fun y => !y.late then
    match s.missAhead g (s.nextAt g) (s.periodGrains g) 64 with
    | some m => s.missed g m.1 m.2
    | none => s
  else s

/-- The open set of a group is released, and judged (R182, R185). -/
def State.releaseSet (s : State) (g : Nat) (cmd : Option CmdRef) (res : Option (List Word)) : State := (s.release g cmd res).judge g

/-- An addition to the open set (R182), judged where it releases the set. -/
def State.addition (s : State) (g : Nat) (ws : List (Nat × Word)) (es : List (Nat × List Word)) (cmd : Option CmdRef)
    (res : Option (List Word)) : State :=
  let s1 := s.stageAdd g ws es cmd res
  if s.hold g then s1 else s1.judge g

/-- The edge of a sample at the outputs of its group: the DACs latch or repeat, ramps go on, the sample is counted. -/
def State.edge (s : State) (g t : Nat) : State :=
  ((((s.dacEdges g).rampEdges g).counted g t).settlePairs t).flushLog

/-- The frames that missed their edges arrive and are discarded by their indices (R10, R256). -/
def State.lateArrive (s : State) (g : Nat) : State :=
  let x := s.grp g
  x.late.foldl (fun s f => s.frameEnter g x.n f) (s.setGrp g { x with late := [] })

/-- The frame of the sample being formed is whole and in time (R19): every channel presents, every DAC of the group gets its entry. -/
def State.frameShow (s : State) (g t : Nat) : State :=
  let s1 := (s.chansOf g).foldl (fun s c => s.chanPresent g c t (s.grp g).episode.isSome) s
  let f := s1.frameOf g fun c => (s1.chan c).value
  ((s1.frameEnter g (s1.grp g).n f).modGrp g fun x => { x with frame := f, patLost := false }).edge g t

/-- The frame of the sample being formed is missing at its edge (R11, R20, R256): every channel presents its last value again, and the
frame's pattern bits are missing with it. DEDUCED: a value repeated under R256 is reported like one repeated under R20. -/
def State.frameMiss (s : State) (g t : Nat) : State :=
  (((s.chansOf g).foldl (fun s c => s.chanRepeat g c t) s).modGrp g fun x => { x with patLost := true }).edge g t

/-- Present the sample that has been formed (R19, R255): where its frame is `absent`, the core is late (R18) and will deliver it after
its edge; `stale` says that frames which were late before have arrived. An absent frame is an underrun of the group (R256, R444), which
is `known` when it met the decisions of the sample. -/
def State.present (s : State) (g t : Nat) (absent stale known : Bool) : State :=
  let s1 := if !absent || known then s else (s.underrun g 1 none).markUnderrun g t
  let s2 := if stale then s1.lateArrive g else s1
  if absent then
    let f := s2.lateFrame g
    (s2.modGrp g fun x => { x with late := x.late ++ [f] }).frameMiss g t
  else s2.frameShow g t

/-- SINE_ERR follows the sample that is presented (R222, R225): `sine` says that it met an uncorrectable word of the sine table. -/
def State.sineCheck (s : State) (sine : Bool) : State :=
  let s1 := if s.rb .HRM_STATUS 0 0 3 = sine then s else s.wrb .HRM_STATUS 0 0 3 sine
  if sine then s1.bump .HRM_CNT_SINE_ERR else s1

/-- An edge of the sample clock of a group that has stopped: one of the 64 of its ramps (R258). -/
def State.rampTick (s : State) (g : Nat) : State :=
  (s.rampEdges g).modGrp g fun y => { y with rampLeft := y.rampLeft - 1 }

/-- One sample edge of a group at `t` (R104, R503): decisions, then the angle engine, then the frame. After a stop the ramp
edges go on (R258). -/
def State.groupSample (s : State) (g t : Nat) (absent stale sine : Bool) : State :=
  let x := s.grp g
  if x.st.plays && 1 ≤ x.n && (x.times.head?.getD 0) < t && s.leaderReady g t then
    let s1 := (s.svCatchUp t).reach t
    let s2 := (if absent then s1.sampleMissed g 1 t else s1).decideSample g t
    if (s2.grp g).st.plays then (((s2.advance g).sineCheck (sine && s2.hrmRunning)).present g t absent stale true).leaderRecords g
    else s2.rampTick g
  else if 0 < x.rampLeft then ((s.svCatchUp t).reach t).rampTick g
  else s

/-- `t` may be the first sample edge of a waiting group: the first edge of f_syn at or after its start time (R131). -/
def State.firstEdge (s : State) (g t : Nat) : Bool :=
  let x := s.grp g
  let p := s.periodTicks g
  x.st = .waiting && x.startAt ≤ t && (t - x.startAt) * p.2 * s.grpN g ≤ p.1 * 256 && s.leaderReady g t

/-- The first sample edge of a waiting group (R131, R192): sample 0 is presented and the group runs. DESIGN CHOICE: the start entry is the
playing entry from then on, so Gn_LASTSW_INFO names it as the entry left (R195). -/
def State.firstSample (s : State) (g t : Nat) (absent sine : Bool) : State :=
  let x := s.grp g
  if s.firstEdge g t then
    let s0 := (s.svCatchUp t).reach t
    let nom := s0.folNom g
    let fol := s0.folEn g && s0.bindMode g ≠ 1 && s0.bindMode g ≠ 3
    let freq := if fol then nom else (s0.rd64 .Gn_FREQ_LO .Gn_FREQ_HI g).toInt
    let e := x.startEntry
    let leader := s0.grp (s0.bindLeader g)
    -- released sets may commit at sample 0 (R184); their values are in effect from it
    let s1 := s0.setGrp g { x with
      st := .running, startCmd := none, n := 0, times := [], hist := [], turn := 0, wrap := 0, lastMarkT := x.startAt, markN := none, commitN := none
      flimit := false, ownLim := none, episode := none, fb := false, fbMarks := 0, lasting := false, sinceResume := none, trigs := [], late := [], lead := 0, patLost := false
      a := 0, f := BitVec.ofInt 64 freq, d := 0, entry := e, startN := 0, startT := t, bounds := 0, recTurn := 0
      fol := if fol then .free else .off, folI := 0, folGood := 0, folBad := 0, folLoss := false, folRes := [], holdover := false
      hrmOn := s0.hrmRunning, rampLeft := 0, pat := none, tpos := [], bnd := none, stepIn := 0 }
    let s2 := s1.tryStart g e t 0 swStart (eRepeat (s0.entry g e))
    let y := s2.grp g
    let s3 := s2.commitAt g t (y.episode.isNone && eCStart (s2.entry g e)) false
    let z := s3.grp g
    let lim := s3.limits g
    let f0 := match z.cF with
      | some f => f.toInt
      | none => (if fol then nom else (s3.rd64 .Gn_FREQ_LO .Gn_FREQ_HI g).toInt)
    let cl := clampF lim.1 lim.2 f0 false
    let per := s3.periodTicks g
    let delta := t - x.startAt
    -- δ in grains over T_s in grains
    let a0 := (s3.rd64 .Gn_PHASE0_LO .Gn_PHASE0_HI g).toNat + roundUp (cl.1 * ((delta * per.2 : Nat) : Int)) (per.1 * 256) + z.cStep.toInt
    let w := { z with
      a := if s3.bindMode g = 1 then leader.a else BitVec.ofInt 64 a0
      f := if s3.bindMode g = 1 then leader.f else BitVec.ofInt 64 cl.1
      d := if s3.bindMode g = 1 then leader.d else if s3.folEn g then 0 else s3.rd64 .Gn_ROC_LO .Gn_ROC_HI g
      turn := if s3.bindMode g = 1 then leader.turn else 0
      flimit := cl.2 && s3.bindMode g ≠ 1, stepIn := z.cStep, ownLim := if s3.bindMode g = 3 then some lim else none, cF := none, cD := none, cStep := 0 }
    let s4 := s3.setGrp g w
    let s5 := if cl.2 && s3.bindMode g ≠ 1 then s4.bump .Gn_CNT_LIMIT g else s4
    -- the channels whose enables are in effect begin
    let s6 := ((s5.chansOf g).foldl (fun s c => s.chanBegin c) s5).markUnderrun g t
    let s7 := ((s6.sineCheck (sine && s6.hrmRunning)).present g t absent false false).leaderRecords g
    (s7.finishOpt x.startCmd stOK (timeWords t)).slackRestart
  else s

/-- A discarded frame: the sample edge at `t` repeats the last complete frame, and the group has an underrun (R20). -/
def State.discardFrame (s : State) (g t : Nat) : State :=
  let x := s.grp g
  if x.st.plays && 1 ≤ x.n && (x.times.head?.getD 0) < t && s.leaderReady g t then
    let s1 := (((s.svCatchUp t).reach t).sampleMissed g 2 t).decideSample g t
    if (s1.grp g).st.plays then ((s1.advance g).frameMiss g t).leaderRecords g else s1.rampTick g
  else s

end Sys2Proof.Machine
end

