-- ==== Sys2Proof/Machine/MemBase.lean ====
section
/-!
DEFINITION. What the memories give the other blocks (R151, R152, R371 to R376, R396 to R399): owners and power of
bank sets, capacity and the allocation map of external memory, the placement of segments, writes of bytes, and
the activity of segments (R160).
-/
namespace Sys2Proof.Machine

/-- Bytes in a bank set: 1.5 MiB (R371). -/
def setBytes : Nat := 0x180000

/-- The owner in effect of a bank set (R373, R376, R385): NONE while the set is not ON or changes power. -/
def State.owner (s : State) (n : Nat) : Nat :=
  let x := s.bset n
  if x.pwr ≠ 0 ∨ x.trans.isSome then 0
  else x.own.getD (RegId.resetAt .MEM_SETn_OWN n 0).toNat

/-- A set serves: ON, without a power change, and no castling of it in progress. -/
def State.setReady (s : State) (n : Nat) : Bool :=
  let x := s.bset n
  x.pwr = 0 && x.trans.isNone && !(match s.mem.castle with
    | some c => c.set = n
    | none => false)

/-- A command of a queue is under way on this device: begun, and not forwarded to another (R33, R356). -/
def State.here (s : State) (q : Nat) (c : Cmd) : Bool :=
  c.phase = .begun &&
    (if c.hdr.flags % 2 = 1 then s.chn.bcasts.any fun b => b.cmd = ⟨q, c.k⟩ && b.own.isNone else c.hdr.dest = s.ownAddr)

/-- A memory test that a predicate holds for is under way on this device. -/
def State.tests (s : State) (f : Cmd → Bool) : Bool :=
  (List.range 10).any fun q => (s.q q).inflight.any fun c => c.hdr.opcode = 0x0801 && s.here q c && f c

/-- A memory test is running on a bank set (R387, R393). -/
def State.testing (s : State) (n : Nat) : Bool :=
  s.tests fun c => bit (wAt c.payload 0) 0 && (fld (wAt c.payload 0) 23 16).testBit n

/-- The sets that an on-chip range touches. -/
def setsOf (addr len : Nat) : List Nat :=
  (List.range 8).filter fun n => n * setBytes < addr + len && addr < (n + 1) * setBytes

/-- The reserved region of R47: 9 MiB at the top. -/
def State.reservedBase (s : State) : Nat := s.capacity - 9 * 2 ^ 20

/-- Two ranges overlap. -/
def overlaps (a n b m : Nat) : Bool := a < b + m && b < a + n

/-- A range of external memory meets an entry of the allocation map (R399). -/
def State.mapTaken (s : State) (addr len : Nat) : Bool :=
  s.drm.alloc.any fun p => overlaps addr len (p.2.first * 65536) (p.2.len * 65536)

/-- The channel of a system address (R396, R397). -/
def parityMask (a mask : Nat) : Nat :=
  ((List.range 18).filter fun j => mask.testBit j && (a >>> (16 + j)).testBit 0).length % 2

/-- Highest address bits take part in the hash. -/
def State.hashIn (s : State) (a : Nat) : Nat := a % s.capacity

def State.drmChannel (s : State) (a : Nat) : Nat :=
  let a := s.hashIn a
  let c0 := (a / 64 % 2 + parityMask a (s.rd .DRM_HASH_CH0).toNat) % 2
  let c1 := (a / 128 % 2 + parityMask a (s.rd .DRM_HASH_CH1).toNat) % 2
  c0 + 2 * c1

def State.drmBank (s : State) (a : Nat) : Nat :=
  let a := s.hashIn a
  let b (i : Nat) (r : RegId) := (a / 2 ^ (13 + i) % 2 + parityMask a (s.rd r).toNat) % 2
  b 0 .DRM_HASH_B0 + 2 * b 1 .DRM_HASH_B1 + 4 * b 2 .DRM_HASH_B2

/-- Row bits: 15, 16 or 17 (R395). -/
def State.rowBits (s : State) : Nat := 15 + s.rf .DRM_GEOM 0 0 1 0

def State.drmRow (s : State) (a : Nat) : Nat := a / 65536 % 2 ^ s.rowBits
def State.drmRank (s : State) (a : Nat) : Nat := if s.rb .DRM_GEOM 0 0 4 then a / 2 ^ (16 + s.rowBits) % 2 else 0

/-- A range of external memory touches a fenced channel. -/
def State.chanFenced (s : State) (a len : Nat) : Bool :=
  !s.drm.fenced.isEmpty &&
    (List.range (min 4096 (ceilDiv (a % 64 + len) 64))).any fun i => s.drm.fenced.contains (s.drmChannel (a + 64 * i))

/-! ### The allocation map (R399) -/

/-- The lowest free index of the map. -/
def State.allocFree (s : State) : Option Nat := (List.range 32).find? fun k => (KMap.find? s.drm.alloc k).isNone

/-- The first block of the network region, the third fixed entry. -/
def State.networkFirst (s : State) : Nat := (s.capacity - 12 * 2 ^ 20) / 65536

/-- The first block of the firmware region, the second fixed entry. -/
def State.firmwareFirst (s : State) : Nat := (s.capacity - 10 * 2 ^ 20) / 65536

/-- The highest range of `len` blocks below the network region that no entry of the map covers. -/
def State.highestFree (s : State) (len : Nat) : Option Nat :=
  let tops := s.networkFirst :: s.drm.alloc.map fun p => p.2.first
  let fits := (tops.filter fun t => len ≤ t && t ≤ s.networkFirst).map fun t => t - len
  let free := fits.filter fun f => !(s.drm.alloc.any fun p => overlaps f len p.2.first p.2.len)
  free.foldl (fun a f => match a with
    | none => some f
    | some b => some (max b f)) none

/-- The entry of an owner. -/
def State.allocOf (s : State) (owner : Nat) : Option Alloc := (s.drm.alloc.map fun p => p.2).find? fun a => a.owner = owner

/-- Remove the entries of an owner. -/
def State.allocDrop (s : State) (owner : Nat) : State :=
  { s with drm := { s.drm with alloc := s.drm.alloc.filter fun p => p.2.owner ≠ owner } }

/-- Enter a range in the map at the lowest free index. -/
def State.allocPut (s : State) (a : Alloc) : Option State :=
  s.allocFree.map fun k => { s with drm := { s.drm with alloc := KMap.insert s.drm.alloc k a } }

/-! ### Writes -/

/-- Write one byte of external memory; writes to a fenced channel are dropped (R405). -/
def State.writeExt (s : State) (addr : Nat) (b : Byte) : State :=
  if s.drm.fenced.contains (s.drmChannel addr) then s else { s with ext := KMap.insert s.ext addr b }

/-- Write one byte of on-chip memory; an unlisted byte reads zero. -/
def State.writeChip (s : State) (addr : Nat) (b : Byte) : State := { s with onchip := KMap.put s.onchip addr b 0 }

/-- Write one byte of either memory. -/
def State.writeB (s : State) (chip : Bool) (addr : Nat) (b : Byte) : State :=
  if chip then s.writeChip addr b else s.writeExt addr b

/-- Write bytes from an address up. -/
def State.writeBytes (s : State) (chip : Bool) : Nat → List Byte → State
  | _, [] => s
  | addr, b :: t => (s.writeB chip addr b).writeBytes chip (addr + 1) t

/-- A 64 KiB block of external memory has been written (R159): some byte of it is listed. -/
def State.blockWritten (s : State) (blk : Nat) : Bool := s.ext.any fun p => p.1 / 65536 = blk

/-- Every word of a set reads zero (R378, R385). -/
def State.clearSet (s : State) (n : Nat) : State :=
  { s with onchip := s.onchip.filter fun p => p.1 / setBytes ≠ n }

/-! ### Errors of on-chip words (R382) -/

/-- The place of a word as MEM_ERR_ADDR holds it: set, bank, row and column, with its valid bit (R371, R392). -/
def errAddr (addr : Nat) : Word :=
  let w := addr % setBytes / 8
  mkW (addr / setBytes + w % 8 * 8 + w / 8 / 128 * 64 + w / 8 % 128 * 2 ^ 14 + 2 ^ 31)

/-- MEM_ERR_INFO: syndrome, uncorrectable, owner and finder (R392). -/
def State.errInfo (s : State) (addr finder : Nat) (ue : Bool) : Word :=
  mkW (Config.syndrome addr % 256 + (if ue then 256 else 0) + s.owner (addr / setBytes) * 512 + finder * 4096)

/-- Load the error registers. -/
def State.errLoad (s : State) (addr finder : Nat) (ue : Bool) : State :=
  (s.wr .MEM_ERR_ADDR 0 0 (errAddr addr)).wr .MEM_ERR_INFO 0 0 (s.errInfo addr finder ue)

/-- A single-bit error: corrected, counted, and the registers loaded (R382). -/
def State.memCe (s : State) (addr finder : Nat) : State :=
  (s.bump .MEM_SETn_CNT_CE (addr / setBytes)).errLoad addr finder false

/-- An uncorrectable word of on-chip memory, found by a reader (0), the scrubber (1) or a test (2): counted, recorded and
reported (R382). -/
def State.memUe (s : State) (addr finder : Nat) : State :=
  let set := addr / setBytes
  let s1 := (s.bump .MEM_SETn_CNT_UE set).errLoad addr finder true
  (s1.lasting 13 set 0x000C 0xFF (errAddr addr).toNat (s.errInfo addr finder true).toNat).irqIf .MEM_CTL 0 1

/-! ### Activity (R160) -/

/-- The segments that an entry needs. -/
def entrySegs (e : List Word) : List Nat := eSlots e ++ (if ePatEn e then [ePseg e] else [])

/-- The entries in a group's prefetch horizon (R160, R178). -/
def State.horizon (s : State) (g : Nat) : List Nat := (List.range 6).filterMap fun r => s.region g r

/-- A gambit region holds a segment. -/
def HeldRec.names (h : HeldRec) (i : Nat) : Bool := h.pseg = some i || (h.seg ≤ i && h.mask.testBit (i - h.seg))

/-- The gambit of a group holds a segment (R160): in a region, also while the group is being armed or for a released set, or for a jump
that waits. -/
def State.gambitHolds (s : State) (g i : Nat) : Bool :=
  (s.grp g).held.any (fun h => h.names i) ||
    (s.grp g).trigs.any fun y => y.heldAt.isSome && (entrySegs (s.entry g y.target)).contains i

/-- A segment is active in a group (R160, R445, R448): its horizon names it, its gambit holds it, or it is the fallback segment of a
running group. A segment of the due entry of a group in FALLBACK that is not VALID is not made due. -/
def State.activeIn (s : State) (g i : Nat) : Bool :=
  s.gambitHolds g i || s.grpRunning g &&
    (s.rf .Gn_FALLBACK g 0 13 0 = i ||
      (s.horizon g).any fun e => (entrySegs (s.entry g e)).contains i &&
        !((s.grp g).fb && s.segSt i ≠ .valid))

/-- A segment is active (R160). -/
def State.active (s : State) (i : Nat) : Bool := (List.range 8).any fun g => s.activeIn g i

/-- A segment whose data area meets a range. -/
def State.segOver (s : State) (i : Nat) (chip : Bool) (addr len : Nat) : Bool :=
  let d := s.segDesc i
  i ≠ 0 && s.segSt i ≠ .free && dLoc d = chip && overlaps addr len (dAddr d) (dSize d * 64)

/-- The segments, other than 0, that are not FREE and whose data area meets a range. -/
def State.segsOver (s : State) (chip : Bool) (addr len : Nat) : List Nat :=
  (s.segs.map fun p => p.1).filter fun i => s.segOver i chip addr len

/-- A VALID segment that becomes FENCED while a group plays it is an underrun of that group (R156, R444). -/
def State.playedBy (s : State) (g i : Nat) : Bool :=
  let x := s.grp g
  x.st.plays && (if x.fb then s.rf .Gn_FALLBACK g 0 13 0 = i else (entrySegs (s.entry g x.entry)).contains i)

/-- A lasting fault of a stage of one group (R438): fenced, stopped at once without a ramp. -/
def State.fenceGroup (s : State) (g stage : Nat) : State :=
  let s1 := { s with err := { s.err with gfenced := setBit s.err.gfenced g true } }
  let s2 := s1.lasting 18 g 0x0019 0xFF stage 0
  if (s2.grp g).st.isRunning then (s2.svCatchUp s2.now).stopGroup g s2.now false else s2

/-- The gambit of a group drops a segment that is no longer VALID (R142, R161). -/
def State.dropHeld (s : State) (g i : Nat) : State :=
  s.modGrp g fun x => { x with
    held := x.held.filter fun h => !h.names i
    trigs := x.trigs.map fun y => if (entrySegs (s.entry g y.target)).contains i then { y with heldAt := none } else y
    dueHeld := if (entrySegs (s.entry g x.due)).contains i then none else x.dueHeld }

/-- A segment enters FENCED (R142, R156, R382): no gambit holds it, and the groups that play it have an underrun; a fallback segment
that fails fences its group (R447). -/
def State.fenceSeg (s : State) (i : Nat) : State :=
  let s1 := s.modSeg i fun x => { x with st := .fenced }
  (List.range 8).foldl (fun s g =>
    let s2 := s.dropHeld g i
    if s2.playedBy g i then s2.underrun g 7 none else s2) s1

end Sys2Proof.Machine
end

