-- ==== Sys2Proof/Machine/Run.lean ====
section
/-!
DEFINITION. The execution of a command in flight (R33, R38 to R44): when it may begin, and what its beginning does.
-/
namespace Sys2Proof.Machine


/-- The pairs of offset and value from word `i` of a payload. -/
def pairsFrom (i : Nat) (p : List Word) : List (Nat × Word) :=
  (List.range ((p.length - i) / 2)).map fun j => ((wAt p (i + 2 * j)).toNat, wAt p (i + 2 * j + 1))

/-- The segments that an entry names, its P segment included. -/
def entryNames (e : List Word) : List Nat := eSlots e ++ (if ePatEn e then [ePseg e] else [])

/-- The fallback segments that writes name (R198). -/
def writesName (ws : List (Nat × Word)) : List Nat :=
  ws.filterMap fun w => match RegId.at? w.1 with
    | some (.Gn_FALLBACK, _, _) => some (fld w.2 13 0)
    | _ => none

/-- The segments that a stage set names: those of its table entries, since no staged field names one. -/
def StageSet.names (x : StageSet) : List Nat := x.entries.flatMap fun e => entryNames e.2

/-- The segments that a command names (R44): in its payload, in the entry that it arms, or in the set that it releases (R161). -/
def State.namedSegs (s : State) (c : Cmd) : List Nat :=
  let w0 := fld (wAt c.payload 0) 13 0
  let open_ := (s.grp (fld (wAt c.payload 0) 2 0)).openSet.names
  match c.hdr.opcode with
  | 0x0202 => writesName (pairsFrom 0 c.payload)
  | 0x0203 => writesName [((wAt c.payload 0).toNat, wAt c.payload 2)]
  | 0x0405 => if bit (wAt c.payload 0) 8 then open_ else []
  | 0x0406 => open_
  | 0x0301 | 0x0302 | 0x0303 | 0x0304 => [w0]
  | 0x0401 =>
    (List.range (wAt c.payload 1).toNat).flatMap fun i =>
      entryNames ((c.payload.drop (2 + 8 * i)).take 8)
  | 0x0402 =>
    let g := fld (wAt c.payload 0) 2 0
    entryNames (s.entry g (fld (wAt c.payload 0) 25 16)) ++ [s.rf .Gn_FALLBACK g 0 13 0]
  | _ => []

/-- A command of a queue that R41 orders before another: earlier, ordered, of the same class, and not completed. A repeat that waits
at check 5 may still execute as new (R46) and counts. -/
def orderedBefore (c d : Cmd) : Bool :=
  d.k < c.k && !d.independent && d.hdr.cls = c.hdr.cls && d.phase ≠ .done

/-- The loads of a segment that are in flight on a queue before a command (R44). -/
def loadBefore (c : Cmd) (segs : List Nat) (d : Cmd) : Bool :=
  d.k < c.k && d.hdr.opcode = 0x0302 && segs.contains (fld (wAt d.payload 0) 13 0) && (d.phase = .ready || d.phase = .begun)

/-- A queue is skipping for a command: an ordered one, later than what began the skip state of its class or of all (R43). -/
def Queue.skips (x : Queue) (c : Cmd) : Bool :=
  !c.independent && ((x.skipAll.any fun k => k < c.k) || x.skipClasses.any fun p => p.1 = c.hdr.cls && p.2 < c.k)

/-- A command may begin: accepted, not begun, eligible under R41 and R44. A command from the chain has been ordered by its own
device. -/
def State.eligible (s : State) (q : Nat) (x : Queue) (c : Cmd) : Bool :=
  c.phase = .ready && !x.resetting && (q = 9 || (c.independent || !x.inflight.any (orderedBefore c)) &&
    !x.inflight.any (loadBefore c (s.namedSegs c)))

/-- The packet of a command as it was fetched (R29 to R31). -/
def Cmd.packet (c : Cmd) : List Byte :=
  let b := c.hraw ++ bytesOf c.payload
  b ++ leBytes 4 (crc32c b).toNat

/-- The boot loader runs in place of firmware (R481): RECOVERY of SYS_BOOT. -/
def State.recovery (s : State) : Bool := s.rb .SYS_BOOT 0 0 3

/-- A command begins here: EXCLUDED answers family 0x04 but GROUP_STOP (R365), recovery executes only families 0x01, 0x02 and
0x0A (R481), else `body` decides. -/
def State.runHere (s : State) (c : Cmd) (r : CmdRef) (body : State → Cmd → CmdRef → State) : State :=
  let fam := c.hdr.opcode / 256
  if s.recovery && fam ≠ 1 && fam ≠ 2 && fam ≠ 10 then s.finish r stNotReady []
  else if s.chn.excluded && fam = 4 && c.hdr.opcode ≠ 0x0404 then s.finish r stExcluded []
  else body (s.begun r) c r

/-- A command for another device goes out on the chain and waits for its reply; without a device there it is UNREACHABLE
(R33, R34, R346). -/
def State.forwardCmd (s : State) (c : Cmd) (r : CmdRef) : State :=
  match (if s.chnOn then s.routePort c.hdr.dest else none) with
  | some p =>
    if s.portUp p then
      let n := s.nextNum
      (n.2.begun r).sendPacket p 0 c.hdr.dest n.1 false c.packet
    else s.finish r stUnreachable []
  | none => s.finish r stUnreachable []

/-- Opcodes that may not be broadcast (R356). -/
def noBroadcast (op : Nat) : Bool := [0x0601, 0x0602, 0x0604, 0x0306, 0x0802, 0x0903].contains op || op / 256 = 10

/-- Register a broadcast that executes here. -/
def State.bcastOpen (s : State) (num : Nat) (r : CmdRef) : State :=
  { s.wr .CHN_BSEQ 0 0 (mkW num) with chn := { s.chn with
    bnext := max s.chn.bnext num
    bcasts := s.chn.bcasts ++ [⟨num, r, if s.chnOn then s.downUp else [], none, []⟩] } }

/-- A broadcast begins (R356): at the top it takes the next number, its marker and then its packet go out on every downstream
port, and it executes; a member's own broadcast goes to the root; one that came down executes once its marker is the
lowest that waits. -/
def State.runBroadcast (s : State) (c : Cmd) (r : CmdRef) (body : State → Cmd → CmdRef → State) : State :=
  if noBroadcast c.hdr.opcode then s.finish r stBadParam []
  else if s.isTop then
    let num := (s.chn.bnext + 1) % 2 ^ 32
    let n := s.nextNum
    let origin := match KMap.find? s.chn.from_ r.k with
      | some f => if r.q = 9 then (f.2.1, f.2.2, s) else (s.ownAddr, n.1, n.2)
      | none => (s.ownAddr, n.1, n.2)
    let s1 := origin.2.2
    let s2 := if s1.chnOn then s1.downUp.foldl (fun s p =>
        (s.sendBodies p 2 [markerBody s.ownAddr num origin.1 origin.2.1]).sendMsg p 0
          ⟨0, true, false, origin.1, origin.2.1⟩ c.packet) s1
      else s1
    (s2.bcastOpen num r).runHere c r body
  else if r.q = 9 then
    match KMap.find? s.chn.from_ r.k with
    | some f =>
      match s.chn.markers.find? fun m => m.2.1 = f.2.1 && m.2.2 = f.2.2 with
      | some m =>
        if s.chn.markers.all fun z => m.1 ≤ z.1 then
          let s1 := { s with chn := { s.chn with markers := s.chn.markers.filter fun z => z.1 ≠ m.1 } }
          (s1.bcastOpen m.1 r).runHere c r body
        else s
      | none => s
    | none => s
  else
    let n := s.nextNum
    if s.portUp 0 then (n.2.begun r).sendPacket 0 0 0 n.1 true c.packet else s.finish r stUnreachable []

/-- Execute a command of opcode `op` that is in flight on queue `q` at place `k`, where it is eligible: in skip state it
completes with SKIPPED (R43), a broadcast runs under R356, a command for another device is forwarded (R33), else `body`
decides. A command that is not there or not eligible does nothing. -/
def State.run (s : State) (q k op : Nat) (body : State → Cmd → CmdRef → State) : State :=
  let x := s.q q
  match x.find k with
  | none => s
  | some c =>
    if s.fwReady && c.hdr.opcode = op && s.eligible q x c then
      if q ≠ 9 && x.skips c then s.finish ⟨q, k⟩ stSkipped []
      else if c.hdr.flags % 2 = 1 then s.runBroadcast c ⟨q, k⟩ body
      else if c.hdr.dest = s.ownAddr then s.runHere c ⟨q, k⟩ body
      else s.forwardCmd c ⟨q, k⟩
    else s

end Sys2Proof.Machine
end

