-- ==== Sys2Proof/Machine/Segments.lean ====
section
/-!
DEFINITION. The segment and memory commands (R141 to R164, R505): definition, loading, verification, freeing,
filling and reading.
-/
namespace Sys2Proof.Machine

/-! ### Checks of a descriptor (R144 to R150) -/

/-- The data-area size in granules that the kind demands (R145 to R150). -/
def dSizeDue (d : List Word) : Nat :=
  let b := fmtBytes (dFmt d)
  match dKind d with
  | 0 => 2 ^ dK d * b / 64
  | 1 => ceilDiv (dCount d * b) 64
  | 2 =>
    let p := dCount d * 2 ^ dK d
    (p * b + ceilDiv (2 * (p / dSub d + 1)) 64 * 64) / 64
  | _ =>
    let lanes := ((List.range 64).filter fun i => (dMask d).getLsbD i).length
    lanes * ceilDiv (dCount d) 512

/-- The descriptor lies within the ranges of R144 and its SIZE is the one due. -/
def descOk (d : List Word) : Bool :=
  let w0 := wAt d 0
  let kind := dKind d
  let cm : Bool := kind = 0 || kind = 2
  let k := dK d
  let ex := wAt d 6
  let ex2 := wAt d 7
  fld w0 7 5 = 0 && !bit w0 15 &&
    (if kind = 3 then dFmt d = 0 else dFmt d ≠ 3) &&
    (if cm then 8 ≤ k && k ≤ 16 else k = 0) &&
    (if kind = 2 then fld w0 14 13 ≤ 2 else fld w0 14 13 = 0) &&
    (if cm then dFine d = 0 else if kind = 3 then 4 ≤ dFine d else true) &&
    (if kind = 0 then dCount d = 1 else if kind = 2 then 1 ≤ dCount d && dCount d ≤ 16777215 else 1 ≤ dCount d) &&
    dAddr d % 64 = 0 &&
    (if cm then ex = 0 && ex2 = 0
      else if kind = 1 then 1 ≤ ex.toNat && ex.toNat ≤ 20000000 && ex2 = 0
      else !(ex = 0 && ex2 = 0)) &&
    dSize d = dSizeDue d

/-- The data area may be placed for segment `i` (R151, R152, R414): within its memory, on no other segment and no buffer. -/
def State.placeOk (s : State) (i : Nat) (d : List Word) : Bool :=
  let addr := dAddr d
  let len := dSize d * 64
  let others := (s.segsOver (dLoc d) addr len).filter fun j => j ≠ i
  if dLoc d then
    addr + len ≤ 8 * setBytes && addr / setBytes = (addr + len - 1) / setBytes && s.owner (addr / setBytes) = 1 &&
      -- not while a castling of the set waits to take effect (R378)
      !(s.mem.castle.any fun c => c.set = addr / setBytes) && others.isEmpty
  else addr + len ≤ s.reservedBase && !s.mapTaken addr len && others.isEmpty

/-- A load of a segment is running or waiting that R44 does not order before command `c` of queue `q` (R154): any load in
flight elsewhere. Loads earlier on the same queue have completed when the command begins. -/
def State.loadPending (s : State) (i : Nat) : Bool := (s.seg i).job.isSome || !(s.seg i).waiting.isEmpty

/-- A load or a verification of a segment keeps it from being defined and freed (R154, R157). -/
def State.segBusy (s : State) (i : Nat) : Bool := s.loadPending i || !(s.seg i).verifies.isEmpty

/-- SEG_DEFINE (R154). DESIGN CHOICE: where several refusals apply, BAD_PARAM of the payload comes first, then NOT_READY, BAD_PARAM of the
place, ACTIVE and BUSY; the spec gives no order for this command. -/
def State.segDefine (s : State) (q k : Nat) : State :=
  s.run q k 0x0301 fun s c r =>
    let i := fld (wAt c.payload 0) 13 0
    let d := (c.payload.drop 1).take 8
    if i = 0 ∨ (wAt c.payload 0).toNat ≠ i ∨ !descOk d then s.finish r stBadParam []
    else if !dLoc d && !s.drmOn then s.finish r stNotReady []
    else if !s.placeOk i d then s.finish r stBadParam []
    else if s.active i then s.finish r stActive []
    else if s.segBusy i then s.finish r stBusy []
    else (s.setSeg i { s.seg i with st := .defined, desc := d }).finish r stOK [1]

/-! ### Loading (R155, R156, R163, R164) -/

/-- The CRC-32C of the whole data area of a segment as stored. -/
def State.segCrc (s : State) (i : Nat) : Word :=
  let d := s.segDesc i
  crc32c (s.bytesAt (dLoc d) (dAddr d) (dSize d * 64))

/-- A load starts, or is answered at once when the segment may not be loaded (R155). -/
def State.loadStart (s : State) (i : Nat) (j : SegJob) : State :=
  let x := s.seg i
  let r : CmdRef := ⟨j.q, j.k⟩
  if i = 0 ∨ x.st = .free then s.finish r stBadParam []
  else if dSize x.desc * 64 < j.offset + j.len then s.finish r stBadParam []
  else if !dLoc x.desc && !s.drmOn then s.finish r stNotReady []
  else if s.active i then s.finish r stActive []
  else (s.setSeg i { x with st := .loading, job := some j }).modQ j.q fun y => y.upd j.k fun c => { c with timer := some s.now }

/-- The load that waited longest starts when neither a load nor a verification runs (R163). -/
def State.loadNext (s : State) (i : Nat) : Nat → State
  | 0 => s
  | fuel + 1 =>
    let x := s.seg i
    match x.job, x.verifies, x.waiting with
    | none, [], j :: t => ((s.setSeg i { x with waiting := t }).loadStart i j).loadNext i fuel
    | _, _, _ => s

/-- The running load of a segment ends: the segment's state, its command's reply, and the next load. -/
def State.loadEnd (s : State) (i : Nat) (st : SegSt) (status : Nat) (result : List Word) : State :=
  let x := s.seg i
  match x.job with
  | none => s
  | some j =>
    let s1 := (s.setSeg i { x with st := st, job := none }).finish ⟨j.q, j.k⟩ status result
    s1.loadNext i x.waiting.length

/-- A load stops early: the segment is DEFINED with the granules written (R155, R50, R64, R164). -/
def State.loadStop (s : State) (i : Nat) (status : Nat) : State :=
  match (s.seg i).job with
  | none => s
  | some j => s.loadEnd i .defined status (if status = stAborted then [mkW j.done, 0] else [])

/-- Every load of a segment ends with ABORTED for a superseding load: first those that wait (R164). -/
def State.abortLoads (s : State) (i : Nat) : State :=
  let x := s.seg i
  let s1 := x.waiting.foldl (fun s j => s.finish ⟨j.q, j.k⟩ stAborted [0, 0]) (s.setSeg i { x with waiting := [] })
  s1.loadStop i stAborted

/-- The verification at the end of a load (R156). DESIGN CHOICE: where the repeat matches, the record's CRC is that of the first try, which
did not; the table of codes says 'CRC computed' only. -/
def State.loadVerify (s : State) (i : Nat) (j : SegJob) : State :=
  let crc := s.segCrc i
  let want := dCrc (s.segDesc i)
  let n := mkW j.len
  if crc = want then
    if j.retry then
      (s.transient 21 i 0x0008 stRetried want.toNat j.crc.toNat).loadEnd i .valid stRetried [n, crc]
    else s.loadEnd i .valid stOK [n, crc]
  else if j.retry then
    ((s.lasting 21 i 0x0008 stFenced want.toNat crc.toNat).fenceSeg i).loadEnd i .fenced stFenced [n, crc]
  else s.modSeg i fun x => { x with job := some { j with retry := true, done := 0, crc := crc } }

/-- Host data arrives for the running load of a segment: whole granules are written in ascending order; the load ends
when all has come. -/
def State.loadData (s : State) (i : Nat) (data : List Byte) : State :=
  let x := s.seg i
  match x.job with
  | none => s
  | some j =>
    let take := min (data.length / 64 * 64) (j.len - j.done)
    let d := x.desc
    let s1 := s.writeBytes (dLoc d) (dAddr d + j.offset + j.done) (data.take take)
    let j' := { j with done := j.done + take }
    let s2 := s1.modSeg i fun y => { y with job := some j' }
    if j'.done < j.len then s2
    else if j.verify then s2.loadVerify i j'
    else s2.loadEnd i .defined stOK [mkW j.len, 0]

/-- SEG_LOAD (R155): begins when the command has not begun, then takes the host data that has arrived. DESIGN CHOICE: a superseding load
refused with BAD_PARAM ends no earlier load; one that is then refused with NOT_READY or ACTIVE, as it starts, has ended them (R164). -/
def State.segLoad (s : State) (q k : Nat) (data : List Byte) : State :=
  let s1 := s.run q k 0x0302 fun s c r =>
    let p := c.payload
    let i := fld (wAt p 0) 13 0
    let off := (wAt p 1).toNat
    let len := (wAt p 2).toNat
    if (wAt p 0).toNat ≠ i ∨ off % 64 ≠ 0 ∨ len = 0 ∨ len % 64 ≠ 0 ∨ 1 < (wAt p 5).toNat then s.finish r stBadParam []
    else if i = 0 ∨ s.segSt i = .free ∨ dSize (s.segDesc i) * 64 < off + len then s.finish r stBadParam []
    else
      let j : SegJob := ⟨r.q, r.k, true, off, len, bit (wAt p 5) 0, 0, false, 0⟩
      let s1 := if c.hdr.flags / 2 % 2 = 1 then s.abortLoads i else s
      if (s1.seg i).job.isSome || !(s1.seg i).verifies.isEmpty then s1.modSeg i fun x => { x with waiting := x.waiting ++ [j] }
      else s1.loadStart i j
  match (s1.q q).find k with
  | none => s1
  | some c =>
    let i := fld (wAt c.payload 0) 13 0
    match (s1.seg i).job with
    | some j => if j.q = q ∧ j.k = k then s1.loadData i data else s1
    | none => s1

/-- The code of a segment state (R142). -/
def SegSt.code : SegSt → Nat
  | .free => 0
  | .defined => 1
  | .loading => 2
  | .valid => 3
  | .fenced => 4

/-- The result of SEG_VERIFY: state, active bit and CRC (R153). -/
def State.verifyResult (s : State) (i : Nat) (crc : Word) : List Word :=
  [mkW ((s.segSt i).code + if s.active i then 256 else 0), crc]

/-- The outcome of a verification of a segment (R156). `glitch` is a read error that spoils the first reading and not the repeat; `ue`
is an on-chip word found uncorrectable, which fences the segment (R382). DESIGN CHOICE: the CRC of the record is that of the repeat. -/
def State.verifyOutcome (s : State) (r : CmdRef) (i : Nat) (glitch : Bool) (ue : Option Nat) : State :=
  let d := s.segDesc i
  let crc := s.segCrc i
  let want := dCrc d
  let hit := ue.filter fun a => dLoc d && dAddr d ≤ a && a < dAddr d + dSize d * 64
  if s.segSt i = .fenced then s.finish r stOK (s.verifyResult i crc)
  else if hit.isSome then
    let s1 := (s.memUe (hit.getD 0) 0).fenceSeg i
    s1.finish r stFenced (s1.verifyResult i crc)
  else if crc = want then
    let s1 := s.modSeg i fun x => { x with st := .valid }
    if glitch then
      (s1.transient 21 i 0x0008 stRetried want.toNat crc.toNat).finish r stRetried (s1.verifyResult i crc)
    else s1.finish r stOK (s1.verifyResult i crc)
  else
    let s1 := (s.lasting 21 i 0x0008 stFenced want.toNat crc.toNat).fenceSeg i
    s1.finish r stFenced (s1.verifyResult i crc)

/-- A verification of a segment no longer runs, and a load that waited for it may start (R163). -/
def State.verifyDrop (s : State) (r : CmdRef) (i : Nat) : State :=
  let x := s.seg i
  if x.verifies.contains (r.q, r.k) then
    (s.setSeg i { x with verifies := x.verifies.erase (r.q, r.k) }).loadNext i x.waiting.length
  else s

/-- SEG_VERIFY (R154, R156): with QUERY 0 it begins, or, while it runs, ends with what it read. -/
def State.segVerify (s : State) (q k : Nat) (glitch : Bool) (ue : Option Nat) : State :=
  match (s.q q).find k with
  | none => s
  | some c =>
    let i := fld (wAt c.payload 0) 13 0
    if c.hdr.opcode = 0x0303 && s.here q c then (s.verifyOutcome ⟨q, k⟩ i glitch ue).verifyDrop ⟨q, k⟩ i
    else s.run q k 0x0303 fun s c r =>
      if (wAt c.payload 0).toNat ≠ i ∨ 1 < (wAt c.payload 1).toNat then s.finish r stBadParam []
      else if bit (wAt c.payload 1) 0 then s.finish r stOK (s.verifyResult i 0)
      else if i = 0 ∨ s.segSt i = .free then s.finish r stBadParam []
      else if s.loadPending i then s.finish r stBusy []
      else if !dLoc (s.segDesc i) && !s.drmOn then s.finish r stNotReady []
      else s.modSeg i fun x => { x with verifies := x.verifies ++ [(r.q, r.k)] }

/-- SEG_FREE (R157). -/
def State.segFree (s : State) (q k : Nat) : State :=
  s.run q k 0x0304 fun s c r =>
    let i := fld (wAt c.payload 0) 13 0
    if i = 0 ∨ (wAt c.payload 0).toNat ≠ i then s.finish r stBadParam []
    else if s.active i then s.finish r stActive []
    else if s.segBusy i then s.finish r stBusy []
    else (s.setSeg i { s.seg i with st := .free, desc := [] }).finish r stOK []

/-! ### Filling and reading (R158, R159, R505) -/

/-- Checks 1 to 3 of R505 on a range: the status of the first that fails. -/
def State.rangeCheck (s : State) (w0 : Word) (addr len : Nat) : Option Nat :=
  let chip := bit w0 0
  let cap := if chip then 8 * setBytes else s.capacity
  if 1 < w0.toNat ∨ addr % 64 ≠ 0 ∨ len = 0 ∨ len % 64 ≠ 0 ∨ cap < addr + len then some stBadParam
  else if chip then
    if !(setsOf addr len).all s.setReady then some stNotReady
    else if !(setsOf addr len).all fun n => s.owner n = 1 then some stBadParam
    else none
  else if !s.drmOn then some stNotReady
  else if s.reservedBase < addr + len then some stBadParam
  else none

/-- Fill a range with a pattern (R158). -/
def State.fill (s : State) (chip : Bool) (addr : Nat) (pat : Word) : Nat → State
  | 0 => s
  | n + 1 => (s.writeBytes chip addr (leBytes 4 pat.toNat)).fill chip (addr + 4) pat n

/-- MEM_FILL (R158, R505): segments in VALID or FENCED whose data area is touched become DEFINED. -/
def State.memFill (s : State) (q k : Nat) : State :=
  s.run q k 0x0305 fun s c r =>
    let p := c.payload
    let chip := bit (wAt p 0) 0
    let addr := (join64 (wAt p 1) (wAt p 2)).toNat
    let len := (wAt p 3).toNat
    match s.rangeCheck (wAt p 0) addr len with
    | some st => s.finish r st []
    | none =>
      let hit := s.segsOver chip addr len
      if hit.any s.active then s.finish r stActive []
      else
        let s1 := s.fill chip addr (wAt p 4) (len / 4)
        let s2 := hit.foldl (fun s i =>
          if s.segSt i = .valid ∨ s.segSt i = .fenced then s.modSeg i fun x => { x with st := .defined } else s) s1
        s2.finish r stOK [mkW len]

/-- The bytes that MEM_READ delivers: an uncorrectable word of on-chip memory reads as zero (R382). -/
def State.readRange (s : State) (chip : Bool) (addr len : Nat) (bad : List Nat) : List Byte :=
  (List.range len).map fun i =>
    if chip && bad.contains ((addr + i) / 8 * 8) then 0 else s.byteAt chip (addr + i)

/-- An external read returned on its repeat (R405). -/
def State.readRetried (s : State) (addr : Nat) : State :=
  (s.bump .DRM_CNT_RD_RETRY).transient 14 (s.drmChannel addr) 0x000F 0xFF (addr % 2 ^ 32) (addr / 2 ^ 32)

/-- MEM_READ (R159, R505). `bad` lists the on-chip words found uncorrectable, `ces` those with a single-bit error (R382);
`retry` is an external read that was issued again and returned (R405). -/
def State.memRead (s : State) (q k : Nat) (bad ces : List Nat) (retry : Option Nat) : State :=
  s.run q k 0x0306 fun s c r =>
    let p := c.payload
    let chip := bit (wAt p 0) 0
    let addr := (join64 (wAt p 1) (wAt p 2)).toNat
    let len := (wAt p 3).toNat
    match s.rangeCheck (wAt p 0) addr len with
    | some st => s.finish r st []
    | none =>
      if !chip && s.chanFenced addr len then s.finish r stFenced [0, 0xFFFFFFFF]
      else
        let hit := if chip then bad.filter fun a => addr ≤ a && a < addr + len else []
        let s0 := if chip then (ces.filter fun a => addr ≤ a && a < addr + len).foldl (fun s a => s.memCe a 0) s else s
        let s1 := s0.put (.dma (join64 (wAt p 4) (wAt p 5)).toNat (s.readRange chip addr len bad))
        let again := retry.filter fun a => !chip && addr ≤ a && a < addr + len
        let s2 := match again with
          | some a => s1.readRetried a
          | none => hit.foldl (fun s a => s.memUe a 0) s1
        let first := if chip then none
          else (List.range ((addr + len - 1) / 65536 - addr / 65536 + 1)).find? fun i => !s.blockWritten (addr / 65536 + i)
        match first with
        | some i => s2.finish r stUninit [mkW len, mkW i]
        | none => s2.finish r (if !hit.isEmpty then stFenced else if again.isSome then stRetried else stOK)
          [mkW len, 0xFFFFFFFF]

end Sys2Proof.Machine
end

