-- ==== Sys2Proof/Machine/Plaku.lean ====
section
/-!
DEFINITION. Plaku on the host's queues (R29 to R65): fetching and the acceptance checks, repeats, completions,
the queue registers, resets and command timeouts.
-/
namespace Sys2Proof.Machine

/-! ### Packets (R29 to R38) -/

/-- The header fields of 16 header bytes (R29). -/
def parseHdr (b : List Byte) : Hdr :=
  { opcode := leAt b 0 2, flags := leAt b 2 1, version := leAt b 3 1, tag := leAt b 4 2 % 4096, queue := leAt b 4 2 / 4096
    len := leAt b 6 2, seq := leAt b 8 4, dest := leAt b 12 2, cls := leAt b 14 2 }

/-- A packet as a command that is not in flight yet. -/
def mkCmd (k : Nat) (b : List Byte) (replyAddr replyLen : Nat) : Cmd :=
  { k := k, hdr := parseHdr b, hraw := sliceB b 0 16, payload := wordsOf ((b.drop 16).take (b.length - 20))
    replyAddr := replyAddr, replyLen := replyLen, phase := .ready, holdsTag := false, reply := none }

/-- Opcodes of R48. -/
def opDefined (op : Nat) : Bool :=
  [0x0101, 0x0102, 0x0103, 0x0104, 0x0201, 0x0202, 0x0203, 0x0301, 0x0302, 0x0303, 0x0304, 0x0305, 0x0306,
    0x0401, 0x0402, 0x0403, 0x0404, 0x0405, 0x0406, 0x0407, 0x0501, 0x0502, 0x0503, 0x0601, 0x0602, 0x0603, 0x0604,
    0x0701, 0x0702, 0x0703, 0x0801, 0x0802, 0x0803, 0x0901, 0x0902, 0x0903, 0x0A01, 0x0A02, 0x0A03].contains op

/-- The payload length is valid for the opcode (check 7; the payload tables of R51 and of each chapter). -/
def lenOk (op : Nat) (p : List Word) : Bool :=
  let n := p.length
  match op with
  | 0x0101 => n ≤ 64
  | 0x0102 | 0x0103 | 0x0104 | 0x0A03 => n = 0
  | 0x0201 | 0x0303 => n = 2
  | 0x0202 => 2 ≤ n && n ≤ 1018 && n % 2 = 0
  | 0x0203 => n = 3
  | 0x0301 | 0x0702 => n = 9
  | 0x0302 | 0x0306 | 0x0703 | 0x0803 => n = 6
  | 0x0304 | 0x0402 | 0x0404 | 0x0406 | 0x0407 | 0x0502 | 0x0503 | 0x0601 | 0x0604 | 0x0A01 => n = 1
  | 0x0305 | 0x0602 => n = 5
  | 0x0401 => 2 ≤ n && n = 2 + 8 * fld (wAt p 1) 6 0
  | 0x0403 | 0x0603 | 0x0802 | 0x0901 | 0x0902 => n = 4
  | 0x0405 => 3 ≤ n && n ≤ 1019 && n % 2 = 1
  | 0x0501 => n = 1 + 4 * fld (wAt p 0) 12 8
  | 0x0701 => n = 15
  | 0x0801 => n = if bit (wAt p 0) 0 then 3 else 4
  | 0x0903 => n ≤ 1
  | 0x0A02 => 2 ≤ n && n ≤ 1019
  | _ => false

/-- The largest result of a packet in words (R38): of ECHO, REG_READ and ADC_READ what the packet asks for, of every other opcode the
longest of its table, 7 words of TIME_GET (R94) included; a broadcast is answered with 4 words (R357). -/
def largestResult (h : Hdr) (p : List Word) : Nat :=
  if h.flags % 2 = 1 then 4
  else match h.opcode with
    | 0x0101 => p.length
    | 0x0102 => 16
    | 0x0201 => (wAt p 1).toNat
    | 0x0403 | 0x0404 | 0x0405 | 0x0406 | 0x0407 | 0x0502 | 0x0602 | 0x0603 | 0x0604 | 0x0802 | 0x0901 | 0x0902 => 3
    | 0x0503 => if bit (wAt p 0) 8 then 3 else 3 * fld (wAt p 0) 24 20
    | 0x0601 | 0x0801 => 4
    | 0x0903 => 7
    | _ => 2

/-- Checks 1 to 4 of R38 on a packet of `len` bytes that arrived on queue `q`: the status of the first that fails. -/
def checks1to4 (q len : Nat) (b : List Byte) : Option Nat :=
  let h := parseHdr b
  if len % 4 ≠ 0 ∨ len < 20 ∨ 4096 < len then some stBadLength
  else if leAt b (len - 4) 4 ≠ (crc32c (b.take (len - 4))).toNat then some stCrcFail
  else if h.version ≠ 1 ∨ h.queue ≠ q ∨ 16 ≤ h.flags ∨ 0x4000 ≤ h.dest ∨ (h.flags / 2 % 2 = 1 ∧ h.opcode ≠ 0x0302)
      ∨ (h.flags % 2 = 1 ∧ h.dest ≠ 0) then some stBadParam
  else if len ≠ 20 + 4 * h.len then some stBadLength
  else none

/-- Checks 6 to 9 of R38: the status of the first that fails, and whether the packet holds its tag (R40). -/
def Queue.checks6to9 (x : Queue) (c : Cmd) : Option Nat × Bool :=
  let big := largestResult c.hdr c.payload
  if !opDefined c.hdr.opcode then (some stBadOpcode, false)
  else if !lenOk c.hdr.opcode c.payload || (c.wantsReply && 2 < big && c.replyLen < 20 + 4 * big) then (some stBadLength, false)
  else if x.inflight.any fun d => d.holdsTag && d.hdr.tag = c.hdr.tag then (some stBadParam, false)
  else if x.skips c then (some stSkipped, true)
  else (none, true)

/-- The reply header of R35; of a packet shorter than 16 bytes it holds only the queue and the status (R38). -/
def replyHeader (c : Cmd) (short : Bool) (status words dev : Nat) : List Byte :=
  if short then [0, 0, 0, BitVec.ofNat 8 status] ++ leBytes 2 (c.hdr.queue * 4096) ++ List.replicate 10 0
  else c.hraw.take 2 ++ leBytes 1 (c.hdr.flags % 16) ++ leBytes 1 status ++ (c.hraw.drop 4).take 2 ++ leBytes 2 words ++
    (c.hraw.drop 8).take 4 ++ leBytes 2 dev ++ (c.hraw.drop 14).take 2

/-- The reply packet of a command: its result only when the reply was requested (R35, R36). -/
def replyPacket (c : Cmd) (r : Reply) : List Byte :=
  let res := if c.wantsReply then r.result else []
  let b := replyHeader c (c.hraw = []) r.status res.length r.device ++ bytesOf res
  b ++ leBytes 4 (crc32c b).toNat

/-- Put a command in flight with its reply decided. -/
def State.enterDone (s : State) (q : Nat) (c : Cmd) (status : Nat) : State :=
  (s.modQ q fun x => { x with inflight := x.inflight ++ [c] }).decide1 ⟨q, c.k⟩ status [] s.ownAddr

/-- A command in flight that passed check 5 goes through checks 6 to 9 (R38). -/
def State.acceptRest (s : State) (q : Nat) (c : Cmd) : State :=
  let x := s.q q
  let r := x.checks6to9 c
  let c' := { c with phase := .ready, holdsTag := r.2 }
  let s1 := s.setQ q (x.upd c.k fun _ => c')
  match r.1 with
  | none => s1
  | some st => s1.decide1 ⟨q, c.k⟩ st [] s.ownAddr

/-- The reply of a repeat: OK_DUPLICATE with the original result and status (R46). -/
def State.answerDup (s : State) (q : Nat) (c : Cmd) (r : Reply) : State :=
  s.modQ q fun x =>
    { x.upd c.k (fun y => { y with phase := .done, reply := some { r with status := stDuplicate } }) with
      cntDup := satInc x.cntDup }

/-- An original of a packet's sequence number is in flight, its completion not yet posted (R39, R46). -/
def Queue.original (x : Queue) (c : Cmd) : Bool :=
  x.inflight.any fun d => d.k < c.k && d.hdr.seq = c.hdr.seq && (d.holdsTag || d.phase = .dupWait)

/-- Check 5 and what follows it (R38, R46): a recorded number is answered, one in flight waits, any other goes on. -/
def State.acceptFrom5 (s : State) (q : Nat) (c : Cmd) : State :=
  let x := s.q q
  match x.window.find? fun e => e.seq = c.hdr.seq with
  | some e => s.answerDup q c e.reply
  | none =>
    if x.original c then s.setQ q (x.upd c.k fun y => { y with phase := .dupWait })
    else s.acceptRest q c

/-- A packet of a queue is judged by R38 and takes the place `k` of its queue. -/
def State.accept (s : State) (q : Nat) (b : List Byte) (len replyAddr replyLen : Nat) : State :=
  let x := s.q q
  let k := x.nextK
  let b := padTo len (b.take len)
  let c0 := mkCmd k b replyAddr replyLen
  -- a packet shorter than 16 bytes leaves no header (R38)
  let c := if len < 16 then { c0 with hraw := [], hdr := { queue := q } } else c0
  let s1 := s.setQ q { x with nextK := k + 1 }
  match checks1to4 q len b with
  | some st =>
    let s2 := s1.modQ q fun x => { x with inflight := x.inflight ++ [{ c with phase := .done, reply := some ⟨st, st, s.ownAddr, []⟩ }] }
    if st = stCrcFail then
      s2.modQ q fun x => { x with skipAll := some (min k (x.skipAll.getD k)), cntCrc := satInc x.cntCrc } else s2
  | none => (s1.modQ q fun x => { x with inflight := x.inflight ++ [c] }).acceptFrom5 q c

/-- Commands in flight over the nine queues (R39, R63). -/
def State.inflight (s : State) : Nat := (List.range 9).foldl (fun n q => n + (s.q q).inflight.length) 0

/-! ### Rings (R56 to R59) -/

/-- N of a queue: 2^SIZE_LOG2. -/
def Queue.size (x : Queue) : Nat := 2 ^ x.sizeLog2

/-- An ignored BAR2 write: counted in the queue, recorded in the error log with bit 30, SYS_LAST_IGN unchanged (R60, R74). -/
def State.ignored2 (s : State) (q : Nat) (off cause : Nat) (val : Word) : State :=
  (s.modQ q fun x => { x with cntIgnored := satInc x.cntIgnored }).logErr 0 15 q 0x0001 0xFF
    (off % 2 ^ 20 + cause * 2 ^ 20 + 2 ^ 30 + 2 ^ 31) val.toNat

/-- The ring index of a doorbell: bits 11:0; the others are reserved (R6, R60). -/
def ringIndex (v : Word) : Nat := fld v 11 0

/-- Q_SQ_TAIL (R59, R60). -/
def State.sqTail (s : State) (q : Nat) (v : Word) : State :=
  if (s.q q).size ≤ ringIndex v then s.ignored2 q (q * 0x1000) 3 v
  else s.modQ q fun x => { x with tail := ringIndex v }

/-- The completion message of a queue: one, where completions have been posted since the last (R59). -/
def State.cqMessage (s : State) (q : Nat) : State :=
  let x := s.q q
  if x.intEn && x.owed && !x.msgSent then (s.setQ q { x with msgSent := true, owed := false }).irq x.vec else s

/-- Q_CQ_HEAD (R58 to R60): the hold on the message ends, and completions that have had none get one. -/
def State.cqHead (s : State) (q : Nat) (v : Word) : State :=
  if (s.q q).size ≤ ringIndex v then s.ignored2 q (q * 0x1000 + 4) 3 v
  else (s.modQ q fun x => { x with cqHead := ringIndex v, msgSent := false }).cqMessage q

/-- A queue fetches (R39, R59, R62): firmware runs, EN and ENABLED are 1, an entry waits and fewer than 4,096 commands are in
flight. -/
def State.mayFetch (s : State) (q : Nat) : Bool :=
  let x := s.q q
  s.fwReady && x.en && x.enabled && !x.resetting && x.sqHead ≠ x.tail && s.inflight < 4096

/-- The fields of a submission ring entry (R56): the packet's address and length, the reply buffer's address and length. -/
structure RingEntry where
  packetAddr : Nat
  len : Nat
  replyLen : Nat
  replyAddr : Nat
  deriving DecidableEq, Repr

/-- A submission ring entry of 32 bytes (R56); its reserved bytes are not looked at. -/
def ringEntry (b : List Byte) : RingEntry :=
  { packetAddr := leAt b 0 8, len := leAt b 8 2, replyLen := leAt b 12 4, replyAddr := leAt b 16 8 }

/-- The host address of the entry that a queue fetches next (R56, R59). -/
def Queue.entryAddr (x : Queue) : Nat := x.sqBase.toNat + 32 * x.sqHead

/-- PACKET_FETCH: the device reads the 32-byte entry at Q_SQ_HEAD and then the packet that it names, which the host holds in its memory
(R38, R56). -/
def State.packetFetch (s : State) (q : Nat) (entry packet : List Byte) : State :=
  if s.mayFetch q then
    let e := ringEntry entry
    let s1 := (s.put (.hostRead (s.q q).entryAddr 32)).put (.hostRead e.packetAddr e.len)
    (s1.modQ q fun x => { x with sqHead := (x.sqHead + 1) % x.size }).accept q packet e.len e.replyAddr e.replyLen
  else s

/-- A repeat that waits at check 5 is answered, or goes on, once its original has completed (R46). -/
def State.duplicateReply (s : State) (q k : Nat) : State :=
  match (s.q q).find k with
  | some c => if c.phase = .dupWait && s.fwReady then s.acceptFrom5 q c else s
  | none => s

/-- CQ_FULL: the next entry is the one before the head (R58). -/
def Queue.cqFull (x : Queue) : Bool := (x.cqTail + 1) % x.size = x.cqHead % x.size

/-- The first command of a queue, where its reply is decided. -/
def Queue.headDone (x : Queue) : Option (Cmd × Reply) :=
  match x.inflight with
  | c :: _ => match c.phase, c.reply with
    | .done, some r => some (c, r)
    | _, _ => none
  | [] => none

/-- A queue whose EN is 0 is no longer ENABLED once it has drained (R61). -/
def Queue.drained (x : Queue) : Queue := if !x.en && x.inflight.isEmpty then { x with enabled := false } else x

/-- The completion entry of R57. -/
def completionEntry (c : Cmd) (r : Reply) (phase : Bool) : List Byte :=
  let pk := replyPacket c r
  let res := if c.wantsReply then r.result else []
  pk.take 16 ++ leBytes 4 (wAt res 0).toNat ++ leBytes 4 (wAt res 1).toNat ++ leBytes 1 r.orig ++
    leBytes 1 (if phase then 1 else 0) ++ [0, 0] ++ pk.drop (pk.length - 4)

/-- The host address of the completion entry that a queue writes next (R57). -/
def Queue.completionAddr (x : Queue) : Nat := x.cqBase.toNat + 32 * x.cqTail

/-- Post the oldest completion of a host queue: the reply buffer, then the entry, then the message (R42, R55, R57 to R59). DESIGN
CHOICE: the whole reply of a repeat answered at check 5 is written to the buffer that its own entry names, although check 7, which
asks whether that buffer holds it, is not made for it (R38, R46). -/
def State.postHost (s : State) (q : Nat) : State :=
  let x := s.q q
  match x.headDone with
  | none => s
  | some (c, r) =>
    if x.resetting || !x.enabled || x.cqFull then s
    else
      let s1 := if c.wantsReply && 2 < r.result.length then s.put (.dma c.replyAddr (replyPacket c r)) else s
      let s2 := s1.put (.completion q x.cqTail x.completionAddr (completionEntry c r x.phase))
      let t := (x.cqTail + 1) % x.size
      let y := { x with inflight := x.inflight.drop 1, cqTail := t, phase := if t = 0 then !x.phase else x.phase, owed := true }
      (s2.setQ q y.drained).cqMessage q

/-- Replies of the island leave for the reply slot once no forwarded command that was submitted before them is in flight (R42). -/
def State.releaseHeld (s : State) : State :=
  let free (p : Nat × List Byte) : Bool := (s.q 8).inflight.all fun c => p.1 ≤ c.k
  { s with mgt := { s.mgt with
    replies := s.mgt.replies ++ (s.mgt.held.takeWhile free).map fun p => p.2
    held := s.mgt.held.dropWhile free } }

/-- Queue 8: the reply waits for a reply slot of the management line (R423). -/
def State.postMgt (s : State) : State :=
  let x := s.q 8
  match x.headDone with
  | none => s
  | some (c, r) =>
    ({ s.setQ 8 { x with inflight := x.inflight.drop 1 } with
      mgt := { s.mgt with replies := s.mgt.replies ++ [replyPacket c r] } }).releaseHeld

/-- A reply leaves for the device that a command came from (R33), or as a BCAST_REPLY upward (R357). -/
def State.postChain (s : State) : State :=
  let x := s.q 9
  match x.inflight.find? fun c => c.phase = .done with
  | none => s
  | some c =>
    let r := c.reply.getD ⟨0, 0, 0, []⟩
    let s1 := s.setQ 9 { x with inflight := x.inflight.filter fun y => y.k ≠ c.k }
    let s2 := { s1 with chn := { s1.chn with from_ := KMap.erase s1.chn.from_ c.k } }
    match KMap.find? s.chn.from_ c.k, s.chn.bcasts.find? fun b => b.cmd = ⟨9, c.k⟩ with
    | some f, some b =>
      let s3 := { s2 with chn := { s2.chn with bcasts := s2.chn.bcasts.filter fun z => z.num ≠ b.num } }
      if s.isTop then s3.sendMsg f.1 1 ⟨f.2.1, false, false, s.ownAddr, f.2.2⟩ (replyPacket c r)
      else
        let m := b.merged
        let g (i : Nat) := m.getD i 0
        s3.sendLink 0 1 0x000C b.num
          (leBytes 2 (g 0) ++ leBytes 2 (g 1) ++ leBytes 2 (g 2) ++ leBytes 1 (g 3) ++ leBytes 1 (g 4) ++ leBytes 4 (g 5))
    | some f, none => s2.sendMsg f.1 1 ⟨f.2.1, false, false, s.ownAddr, f.2.2⟩ (replyPacket c r)
    | none, _ => s2

/-- COMPLETION_POST on a queue: 0 to 7 the host's, 8 the management line's, 9 the chain's. -/
def State.completionPost (s : State) (q : Nat) : State :=
  if !s.fwReady then s
  else if q < 8 then
    let c := (s.q q).inflight.head?
    let s1 := s.postHost q
    -- a broadcast of this device is over once its completion is posted
    match c with
    | some c => if ((s1.q q).find c.k).isSome then s1
        else { s1 with chn := { s1.chn with bcasts := s1.chn.bcasts.filter fun b => b.cmd ≠ ⟨q, c.k⟩ } }
    | none => s1
  else if q = 8 then s.postMgt
  else s.postChain

/-! ### Withdrawing and stopping commands (R50, R64) -/

/-- A command that waits for a time, a commit point, a stop or a switch is withdrawn before it acts: what it left waiting
is removed. -/
def State.withdraw (s : State) (c : CmdRef) : State :=
  let s1 := (List.range 8).foldl (fun s g =>
    let x := s.grp g
    let y := { x with
      released := x.released.filter fun z => z.cmd ≠ some c
      relWait := x.relWait.filter fun z => z.1 ≠ some c
      trigs := x.trigs.filter fun z => z.cmd ≠ some c
      stops := x.stops.filter fun z => z.cmd ≠ some c
      armCmd := if x.armCmd = some c then none else x.armCmd
      startCmd := if x.startCmd = some c then none else x.startCmd
      st := if x.startCmd = some c ∧ x.st = .waiting then .armed else x.st }
    if x = y then s else s.setGrp g y) s
  let h := s1.chn
  { s1 with
    tb := { s1.tb with ppsWait := s1.tb.ppsWait.filter fun w => !(w.q = c.q && w.k = c.k) }
    adcs := s1.adcs.map fun (p : Nat × Adc) => (p.1, { p.2 with
      cal := if p.2.cal = some c then none else p.2.cal
      slots := p.2.slots.filter fun y => match y.kind with
        | .urgent _ r => r ≠ c
        | _ => true })
    chn := { h with
      timed_ := h.timed_.filter fun w => w.2.2 ≠ c
      census := h.census.bind fun x => if x.cmd = c then none else some x
      enum_ := h.enum_.bind fun x => if x.cmd = some c then none else some x
      align := h.align.bind fun x => if x.cmd = some c then none else some x } }

/-- The segment loads of a command stop at their granule: a waiting load is dropped, a running one leaves its segment DEFINED, and a
verification ends without effect (R50, R64). -/
def State.stopLoads (s : State) (c : CmdRef) (status : Nat) : State :=
  s.segs.foldl (fun s p =>
    let x := s.seg p.1
    let s1 := if x.waiting.any fun j => j.q = c.q && j.k = c.k then
        (s.setSeg p.1 { x with waiting := x.waiting.filter fun j => !(j.q = c.q && j.k = c.k) }) else s
    let s2 := s1.verifyDrop c p.1
    match (s2.seg p.1).job with
    | some j => if j.q = c.q ∧ j.k = c.k then s2.loadStop p.1 status else s2
    | none => s2) s

/-- The command had begun and waits for a time, a commit point or a switch (R50, R64). -/
def Cmd.waitsFor (c : Cmd) : Bool :=
  [0x0202, 0x0203, 0x0401, 0x0403, 0x0404, 0x0405, 0x0406, 0x0407, 0x0603, 0x0901, 0x0902].contains c.hdr.opcode

/-- The command moves data (R50, R64). -/
def Cmd.moves (c : Cmd) : Bool := c.hdr.opcode = 0x0302

/-- A queue reset begins (R64, steps 1 to 7). -/
def State.queueReset (s : State) (q : Nat) : State :=
  let x := s.q q
  let s1 := s.setQ q { x with
    resetting := true, en := false, inflight := x.inflight.filter fun c => c.phase = .begun }
  let begun := x.inflight.filter fun c => c.phase = .begun
  begun.foldl (fun s c =>
    let r : CmdRef := ⟨q, c.k⟩
    if c.waitsFor then (s.withdraw r).modQ q fun y => { y with inflight := y.inflight.filter fun d => d.k ≠ c.k }
    else if c.moves then
      let s2 := s.stopLoads r stTimeout
      s2.modQ q fun y => { y with inflight := y.inflight.filter fun d => d.k ≠ c.k }
    else s) s1

/-- The queue reset is done: no command of the queue is left (R64, step 8). -/
def State.queueResetDone (s : State) (q : Nat) : State :=
  let x := s.q q
  if x.resetting && x.inflight.isEmpty then
    s.setQ q { x with
      resetting := false, enabled := false, en := false, window := [], skipClasses := [], skipAll := none
      tail := 0, sqHead := 0, cqTail := 0, cqHead := 0, phase := true, msgSent := false, owed := false }
  else s

/-- FUNCTION_LEVEL_RESET (R65): every host queue is reset, BAR2 and configuration space take their reset values, HST_CNT_FLR counts.
DESIGN CHOICE: clearing EN of a queue restarts the interval of the slack monitor (R16), although R65 names no register outside HST. -/
def State.flr (s : State) : State :=
  let s1 := (List.range 8).foldl (fun s q =>
    let s1 := s.queueReset q
    let x := s1.q q
    s1.setQ q { nextK := x.nextK, inflight := x.inflight, resetting := true }) s
  let s2 := if (List.range 8).any (fun q => (s.q q).en) then s1.slackRestart else s1
  ({ s2 with msix := [], msixPend := [], pci := {} }).bump .HST_CNT_FLR

/-! ### Q_CTL (R61) -/

/-- The base addresses and the size allow an enable. -/
def Queue.enableOk (x : Queue) : Bool :=
  4 ≤ x.sizeLog2 && x.sizeLog2 ≤ 12 && x.sqBase.toNat % 4096 = 0 && x.cqBase.toNat % 4096 = 0

/-- The stored value of Q_CTL. -/
def Queue.ctl (x : Queue) : Word :=
  bitW x.en 0 ||| bitW x.intEn 3 ||| putF x.sizeLog2 4 ||| putF x.vec 8

/-- The configuration fields of Q_CTL in a value. -/
def qCtlCfg : Word := 0x3FF8

/-- The EN bit of a write to Q_CTL takes effect (R61). DESIGN CHOICE: while RESETTING is 1 it is dropped, neither refused nor counted; EN
stays 0 until it is written again after the reset. -/
def Queue.writeEn (x : Queue) (en : Bool) : Queue :=
  if x.resetting then x
  else if en then
    if x.enabled then { x with en := true }
    else if x.enableOk then
      { x with en := true, enabled := true, baseErr := false, tail := 0, sqHead := 0, cqTail := 0, cqHead := 0
               phase := true, msgSent := false, owed := false }
    else { x with en := false, baseErr := true }
  else ({ x with en := false }).drained

/-- A write to Q_CTL (R60, R61): configuration fields are ignored and counted while ENABLED is 1; RESUME ends the skip state;
RESET begins a reset. -/
def State.writeQCtl (s : State) (q : Nat) (v : Word) : State :=
  let x := s.q q
  let changes : Bool := decide (x.ctl &&& qCtlCfg ≠ v &&& qCtlCfg)
  let s1 := if x.enabled && changes then s.ignored2 q (q * 0x1000 + 0x20) 1 v else s
  let s2 := if x.enabled then s1
    else s1.modQ q fun y => { y with intEn := bit v 3, sizeLog2 := fld v 7 4, vec := fld v 13 8 }
  let s3 := if bit v 2 then s2.modQ q fun y => { y with skipClasses := [], skipAll := none } else s2
  let s4 := s3.modQ q fun y => y.writeEn (bit v 0)
  let s5 := if bit v 1 then s4.queueReset q else s4
  if (s5.q q).en = x.en then s5 else s5.slackRestart

/-- Q_STATUS (R62). -/
def Queue.status (x : Queue) : Word :=
  bitW x.enabled 0 ||| bitW (x.skipAll.isSome || !x.skipClasses.isEmpty) 1 |||
    bitW (x.cqFull && x.enabled && x.headDone.isSome) 2 ||| bitW x.resetting 3 ||| bitW x.baseErr 4 |||
    putF x.inflight.length 16

/-- Q_SKIP (R60). -/
def Queue.skip (x : Queue) : Word :=
  let cls := (x.skipClasses.head?.map fun p => p.1).getD 0
  let n := x.skipClasses.length + if x.skipAll.isSome then 1 else 0
  putF cls 0 ||| bitW (0 < n) 16 ||| bitW x.skipAll.isSome 17 ||| bitW (1 < n) 18

/-! ### Timeouts (R49, R50) -/

/-- The bytes that a command moves or checks, by which its timeout grows (R49). -/
def State.bytesMoved (s : State) (c : Cmd) : Nat :=
  match c.hdr.opcode with
  | 0x0302 => (wAt c.payload 2).toNat
  | 0x0303 => dSize (s.segDesc (fld (wAt c.payload 0) 13 0)) * 64
  | 0x0305 | 0x0306 => (wAt c.payload 3).toNat
  | 0x0801 =>
    if bit (wAt c.payload 0) 0 then ((List.range 8).filter fun n => bit (wAt c.payload 0) (16 + n)).length * (wAt c.payload 2).toNat
    else (wAt c.payload 3).toNat
  | _ => 0

/-- The timeout of a command's family, in grains (R49); 20 µs more for another device. DESIGN CHOICE: a part of a KiB counts as one. -/
def State.familyTimeout (s : State) (c : Cmd) : Nat :=
  let own : Nat :=
    match c.hdr.opcode with
    | 0x0502 => msec 60
    | 0x0601 | 0x0A03 => msec 2000
    | 0x0602 => msec 100
    | 0x0603 | 0x0604 | 0x0802 | 0x0A01 | 0x0A02 => msec 10
    | 0x0801 => msec 10 + s.bytesMoved c * msec 1000 / 2 ^ 30
    | op =>
      if op / 256 = 2 then usec 100
      else if op / 256 = 3 then msec 1 + usec (ceilDiv (s.bytesMoved c) 1024)
      else if op / 256 = 7 then msec 10
      else msec 1
  if c.hdr.dest = s.ownAddr then own else own + usec 20

/-- A begun command waits for a device time, a commit point, a PPS_IN edge or an earlier load: its timer does not run (R49, R92, R163). -/
def State.holdsTimer (s : State) (r : CmdRef) : Bool :=
  (s.tb.ppsWait.any fun w => w.q = r.q && w.k = r.k) || (s.chn.timed_.any fun w => w.2.2 = r) ||
    (s.segs.any fun p => p.2.waiting.any fun j => j.q = r.q && j.k = r.k) ||
    s.groups.any fun p => decide (p.2.startCmd = some r) || (p.2.released.any fun y => y.cmd = some r) ||
      p.2.relWait.any fun y => y.1 = some r

/-- A command has begun and waits for nothing that holds its timer, or may begin: its timer runs (R49). -/
def State.timerRuns (s : State) (q : Nat) (c : Cmd) : Bool :=
  (c.phase = .begun && !s.holdsTimer ⟨q, c.k⟩) || s.eligible q (s.q q) c

/-- The ports of a broadcast that have not answered count as one failing device each, with TIMEOUT (R357, R361). -/
def State.bcastMissing (s : State) (b : Bcast) : State :=
  let late := b.ports.filter fun p => !b.got.any fun x => x.1 = p
  let fail (p : Nat) : Nat × List Nat := (p, [0, 1, ((s.port p).partner.map fun y => y.1).getD 0, stTimeout, 0, 0])
  { s with chn := { s.chn with bcasts := s.chn.bcasts.map fun x =>
    if x.num = b.num then { x with got := x.got ++ late.map fail } else x } }

/-- The command of a broadcast that ran here times out: its own part, where it is not decided, fails with TIMEOUT, and so does every
port that has not answered (R357, R361). -/
def State.timeoutReply (s : State) (r : CmdRef) : State :=
  match s.chn.bcasts.find? fun b => b.cmd = r with
  | some b => if b.own.isSome then (s.bcastMissing b).bcastTry b.num else (s.bcastMissing b).finish r stTimeout []
  | none => s.finish r stTimeout []

/-- A command is withdrawn at its safe point and completes with TIMEOUT, with one record of class 0 (R50). DESIGN CHOICE: the record's
BLOCK is 22, the control processor, and its INSTANCE the queue, neither of which R50 or R456 names. -/
def State.timedOut (s : State) (q k : Nat) (c : Cmd) : State :=
  let r : CmdRef := ⟨q, k⟩
  let s1 := (s.withdraw r).stopLoads r stTimeout
  let s2 := if (s.q q).resetting then s1 else s1.logErr 0 22 q 0x001C stTimeout c.hdr.opcode c.hdr.seq
  s2.timeoutReply r

/-- Device time has reached the end of a wait of a command that began the given time ago. -/
def State.reachWait (s : State) (c : Cmd) (wait : Nat) : State :=
  match c.timer with
  | some t => s.reach (t + wait)
  | none => s

/-- COMMAND_TIMEOUT: the end of the timeout of the command's family (R49, R50). -/
def State.commandTimeout (s : State) (q k : Nat) : State :=
  match (s.q q).find k with
  | none => s
  | some c =>
    if s.timerRuns q c && s.fwReady then (s.reachWait c (s.familyTimeout c)).timedOut q k c else s

end Sys2Proof.Machine
end

