-- ==== Sys2Proof/Machine/Flags.lean ====
section
/-!
DEFINITION. The status words of the timebase, the synthesisers, the groups, the external-memory controller, the
error log and the island, each computed from the state it reports (R75), and the crash records that hold them.
-/
namespace Sys2Proof.Machine

/-! ### Timebase and synthesisers (R103, R136, R138) -/

/-- 200 ppm in units of 2^−40 (R86). -/
def steerBound : Int := 219902325

/-- STEER_LIMIT (R86). -/
def State.steerLimit (s : State) : Bool := decide (steerBound ≤ s.tb.steer ∨ s.tb.steer ≤ -steerBound)

/-- TB_STATUS (R103). -/
def State.tbStatus (s : State) : Word :=
  let t := s.tb
  bitW t.lock 0 ||| bitW t.refPresent 1 ||| bitW t.holdover 2 ||| bitW t.timeValid 3 ||| bitW s.steerLimit 4 |||
    bitW t.stepPending.isSome 5 ||| bitW t.ppsSeen 6

/-- PLLx_STATUS (R136). -/
def State.pllStatus (s : State) (x : Nat) : Word :=
  let p := s.pll x
  bitW p.lock 0 ||| bitW (s.noBands x) 1 ||| bitW p.applyAt.isSome 2 ||| bitW (s.pllRunning x && !p.lock) 3 |||
    putF p.band 4 ||| bitW p.stopPending 10

/-- PLLA_STATUS (R138): calibration runs while PLL A is enabled and not locked (R132). -/
def State.pllaStatus (s : State) : Word :=
  bitW s.tb.lock 0 ||| bitW (s.running 1 && !s.tb.lock) 1 ||| bitW s.tb.stopPending 2

/-- PLLA_FRAC (R86, R138): the steering of 2^−40 as a part of the divider of 640, in units of 2^−32. -/
def State.pllaFrac (s : State) : Word := wordOfInt (fdiv (s.tb.steer * 5) 2)

/-- The frequency in Hz of a source of the clock outputs, as a fraction (R133, R139). -/
def State.ckRate (s : State) (src : Nat) : Nat × Nat :=
  if src = 0 then (800000000, 1)
  else if src ≤ 2 then (100000000 * s.pllRatio (src - 1), 2 ^ 32 * s.pllP (src - 1))
  else
    let p := s.periodTicks (src - 8)
    (800000000 * p.2, p.1)

/-- A source of the clock outputs gives edges (R133): a group's sample clock only while the group runs. -/
def State.ckSource (s : State) (src : Nat) : Bool :=
  if src = 0 then s.counting
  else if src ≤ 2 then s.pllRunning (src - 1) && s.counting
  else (s.grp (src - 8)).st.plays

/-- A clock output is high in half period `h` of its source since it started with a full high phase (R133): an odd divider above 1 is
high one source period longer than low. -/
def ckPhase (div h : Nat) : Bool :=
  let high := if div % 2 = 1 && 1 < div then div + 1 else div
  h % (2 * div) < high

/-- The level of clock output `n` in half period `h` of its source since its start (R133, R139); a stopped source holds it low. -/
def State.ckLevel (s : State) (n h : Nat) : Bool :=
  s.rb .CKOUT_STATUS 0 0 n && s.ckSource (s.rf .CKOUT_CTLn n 0 7 4) &&
    (ckPhase (s.rf .CKOUT_CTLn n 0 15 8 + 1) h != s.rb .CKOUT_CTLn n 0 16)

/-- A clock output may start (R133, R139): the frequency of its source over DIV + 1 does not exceed its format's limit, and FMT and SRC
are allowed. `vio` is whether an LVCMOS level matches the measured supply. -/
def State.ckOk (s : State) (n : Nat) (vio : Bool) : Bool :=
  let fmt := s.rf .CKOUT_CTLn n 0 3 1
  let src := s.rf .CKOUT_CTLn n 0 7 4
  let div := s.rf .CKOUT_CTLn n 0 15 8 + 1
  let limit := if fmt ≤ 2 then 800000000 else 200000000
  1 ≤ fmt && fmt ≤ 4 && (src ≤ 2 || 8 ≤ src) &&
    (s.ckRate src).1 ≤ limit * div * (s.ckRate src).2 && (fmt ≤ 2 || vio)

/-! ### The configuration epoch (R81) -/

/-- The registers that affect output: every one that is not operational. -/
def State.configRegs (s : State) : List (Nat × Nat) :=
  (s.regs.filter fun p => match RegId.at? p.1 with
    | some r => r.1.row.mask ≠ 0 && r.1.row.cls ≠ .op
    | none => false).map fun p => (p.1, p.2.toNat)

/-- The configuration epoch: zero while nothing is configured, else the digest. -/
def State.epoch (s : State) : W64 :=
  let segs := s.segs.map fun p => (p.1, p.2.desc)
  if s.configRegs.isEmpty && s.tables.isEmpty && segs.isEmpty then 0 else Config.epoch s.configRegs s.tables segs

/-! ### Groups (R120, R198, R199) -/

/-- The code of a group state (R168). -/
def GState.code : GState → Nat
  | .disabled => 0
  | .stopped => 1
  | .armed => 2
  | .waiting => 3
  | .running => 4
  | .fallback => 5
  | .excluded => 6
  | .stopping => 7

/-- LATE: a released set is late and waits (R185). -/
def State.lateSet (s : State) (g : Nat) : Bool := (s.grp g).released.any fun x => x.late

/-- Gn_STATUS (R199). -/
def State.grpStatus (s : State) (g : Nat) : Word :=
  let x := s.grp g
  putF x.st.code 0 ||| bitW x.st.isRunning 3 ||| bitW (s.lateSet g) 4 ||| bitW (s.unheld g) 5 |||
    putF x.released.length 6 ||| bitW (!x.openSet.isEmpty) 9

/-- The code of the follow loop's state (R120). -/
def FolSt.code : FolSt → Nat
  | .off => 0
  | .free => 1
  | .track => 2
  | .hold => 3

/-- Gn_ANG_STATUS (R120). -/
def State.angStatus (s : State) (g : Nat) : Word :=
  let x := s.grp g
  bitW x.flimit 0 ||| bitW x.holdover 1 ||| putF x.fol.code 2 ||| bitW x.folLoss 4

/-- Gn_GAMBIT (R198): HELD and the regions in use. -/
def State.gambit (s : State) (g : Nat) : Word :=
  flagsW (fun r => s.regionHeld g r && (s.regionsUsed g).contains r) 6 |||
    (flagsW (fun r => (s.regionsUsed g).contains r) 6 <<< 8)

/-- Gn_ENTRY (R198). -/
def State.entryWord (s : State) (g : Nat) : Word :=
  let x := s.grp g
  if x.st.plays then putF x.entry 0 ||| putF x.plays 16 else 0

/-- The index of the last presented sample (R198). -/
def State.lastSample (s : State) (g : Nat) : Nat := (s.grp g).n - 1

/-! ### External memory (R408, R416, R417) -/

/-- HOT (R408). -/
def State.drmHot (s : State) : Bool := s.drm.mr4.any fun c => 4 ≤ c

/-- OVERTEMP (R408). -/
def State.drmOvertemp (s : State) : Bool := s.drm.mr4.any fun c => 5 ≤ c

/-- A memory test of external memory runs (R413). -/
def State.extTest (s : State) : Bool := s.tests fun c => !bit (wAt c.payload 0) 0

/-- DRM_STATUS (R417). -/
def State.drmStatus (s : State) : Word :=
  let d := s.drm
  bitW d.stopPending 0 ||| bitW d.trained 1 ||| bitW d.trainFail 2 ||| bitW d.selfref 3 ||| bitW d.fchgBusy 4 |||
    bitW (d.active = 1) 5 ||| bitW s.drmHot 6 ||| bitW s.drmOvertemp 7 ||| bitW d.maintLate 8 ||| bitW s.extTest 9 |||
    (flagsW (fun c => d.fenced.contains c) 4 <<< 12)

/-! ### Errors (R457, R459) -/

/-- A record of a ring by its sequence number (R210, R457): at most 2,048 back from the next number. -/
def ringAt (log : List (List Byte)) (wr idx : Word) : Option (List Byte) :=
  let d := (wr - idx).toNat
  if d = 0 then none else log[d - 1]?

/-- IDX_VALID of the error log. -/
def State.errIdxValid (s : State) : Bool := (ringAt s.err.log s.err.wr (s.rd .ERR_LOG_IDX)).isSome

/-- LOG_FULL of the error log: 2,048 records are unread. -/
def State.errFull (s : State) : Bool := 2048 ≤ (s.err.wr - s.err.rd).toNat

/-- Any resource of R437 is fenced. A link counts while it retrains. -/
def State.fenceAny (s : State) : Bool :=
  (s.segs.any fun p => p.2.st = .fenced) || (s.dacs.any fun p => p.2.prot = .fenced) ||
    (s.pins.any fun p => p.2.prot = .fenced) || (s.adcs.any fun p => p.2.fenced) ||
    (s.bsets.any fun p => p.2.fenced) || !s.drm.fenced.isEmpty || (s.drm.alloc.any fun p => p.2.owner = 2) ||
    (s.queues.any fun p => p.2.skipAll.isSome || !p.2.skipClasses.isEmpty) || (s.ports.any fun p => p.2.st = 4) ||
    s.err.gfenced ≠ 0

/-- FALLBACK_ANY. -/
def State.fallbackAny (s : State) : Bool := s.groups.any fun p => p.2.st = .fallback || p.2.st = .excluded

/-- ERR_STATUS (R459). -/
def State.errStatus (s : State) : Word :=
  bitW s.err.safe 0 ||| bitW s.errFull 1 ||| bitW s.err.wdogHalt 2 ||| bitW s.errIdxValid 3 ||| bitW s.fenceAny 4 |||
    bitW s.fallbackAny 5

/-- ERR_SAFE_CAUSE (R459). -/
def State.safeCause (s : State) : Word := putF s.err.first 0 ||| (s.err.present <<< 8) ||| (s.err.seen <<< 16)

/-! ### The island (R434) and its crash records (R432) -/

/-- MGT_STATUS (R434). -/
def State.mgtStatus (s : State) : Word :=
  let m := s.mgt
  bitW m.mainPwr 0 ||| bitW m.mainRun 1 ||| bitW m.unresp 2 ||| bitW m.safeReq 3 ||| bitW m.rst 4 |||
    bitW m.lineActive 5

/-- The STATE of the eight groups, three bits each (R432). -/
def State.groupStates (s : State) : Word :=
  mkW ((List.range 8).foldl (fun a g => a + (s.grp g).st.code * 8 ^ g) 0)

/-- The main side is unpowered or in reset: the island cannot read it. -/
def State.mainDown (s : State) : Bool := s.mgt.rst || !s.mgt.mainPwr

/-- What a crash record takes from the main side now. -/
def State.vitals (s : State) : Heartbeat :=
  { time := s.now, fw := s.rd .SYS_FWVER, opcode := s.err.lastOp, tag := s.err.lastTag
    tb := s.tbStatus, groups := s.groupStates, drm := s.drmStatus, addr := s.ownAddr }

/-- The 64 bytes of a crash record (R432). -/
def crashBytes (seq cause : Nat) (stale : Bool) (h : Heartbeat) : List Byte :=
  leBytes 4 seq ++ leBytes 1 cause ++ leBytes 1 (if stale then 1 else 0) ++ [0, 0] ++ timeField h.time ++
    leBytes 4 h.fw.toNat ++ leBytes 2 h.opcode ++ leBytes 2 h.tag ++ leBytes 4 h.tb.toNat ++ leBytes 4 h.groups.toNat ++
    leBytes 4 h.drm.toNat ++ List.replicate 24 0

/-- Write a crash record into the ring of four (R432): with the last heartbeat's values while the main side is down. -/
def State.crash (s : State) (cause : Nat) : State :=
  let seq := (s.rd .MGT_CRASH_SEQ).toNat
  let b := crashBytes seq cause s.mainDown (if s.mainDown then s.mgt.hb else s.vitals)
  let s1 := (List.range 16).foldl (fun s i => s.wr .MGT_CRASH_i (seq % 4 * 16 + i) 0 (mkW (leAt b (4 * i) 4))) s
  s1.wr .MGT_CRASH_SEQ 0 0 (mkW (seq + 1))

/-! ### Safe state (R451 to R454) -/

/-- Entry into safe state (R452): outputs, groups, the records. -/
def State.safeEntry (s : State) (cause : Nat) : State :=
  let e := s.err
  let bitC := mkW (2 ^ (cause - 1))
  let s1 := { s with err := { e with safe := true, first := cause, present := e.present ||| bitC, seen := e.present ||| bitC } }
  let s2 := (List.range 8).foldl (fun s g => if (s.grp g).st.isRunning then s.stopGroup g s.now false else s) (s1.svCatchUp s1.now)
  let s3 := (List.range 32).foldl (fun s d => s.dacMid d) s2
  let s4 := (List.range 16).foldl (fun s m => s.mkLow m) s3
  let s5 := ((s4.settlePairs s4.now).bump .ERR_CNT_SAFE).logErr 3 17 0 0x001A 0xFF s4.safeCause.toNat 0
  (s5.crash 2).irqIf .ERR_CTL 0 2

/-- A cause of safe state (R451, R452): while SAFE is 1 it is only added to PRESENT and SEEN. -/
def State.safeCauseRaise (s : State) (cause : Nat) : State :=
  if s.err.safe then
    let e := s.err
    let bitC := mkW (2 ^ (cause - 1))
    { s with err := { e with present := e.present ||| bitC, seen := e.seen ||| bitC } }
  else s.safeEntry cause

/-- Leaving safe state when no cause is present (R454). -/
def State.safeLeave (s : State) : State :=
  if s.err.safe && s.err.present = 0 then
    let s1 := { s with err := { s.err with safe := false }, mgt := { s.mgt with safeReq := false } }
    s1.settlePairs s1.now
  else s

/-- A cause is gone (R451): it leaves PRESENT, and SAFE stays until SAFE_CLR (R454). -/
def State.safeCauseGone (s : State) (cause : Nat) : State :=
  { s with err := { s.err with present := s.err.present &&& ~~~(mkW (2 ^ (cause - 1))) } }

/-- SAFE_CLR would leave a cause present (R454): cause 3 is recorded when a host writes while cause 2 is present. -/
def State.safeClrLeft (s : State) (q8 : Bool) : Word :=
  s.err.present &&& ~~~(if q8 then 3 else 1)

/-- SAFE_CLR (R454): cause 1 clears, through queue 8 also cause 2; without a cause the device leaves safe state. -/
def State.safeClr (s : State) (q8 : Bool) : State :=
  ({ s with err := { s.err with present := s.safeClrLeft q8 } }).safeLeave

end Sys2Proof.Machine
end

