-- ==== Sys2Proof/Machine/Adc.lean ====
section
/-!
DEFINITION. The readback converters (R288 to R313): slots and sample instants, triggers, urgent requests, windows,
open-wire detection, follow results, calibration and the capture ring.
-/
namespace Sys2Proof.Machine

/-! ### Converter edges and slots (R288 to R292) -/

/-- A guard unit: ADC14 and ADC15. -/
def isGuard (u : Nat) : Bool := 14 ≤ u

/-- Converter clocks as grains: 16 ticks each. -/
def clocks (n : Nat) : Nat := ticks (16 * n)

/-- The first converter edge at or after a time (R288). -/
def convEdge (t : Nat) : Nat := ceilDiv t 4096 * 4096

/-- The first user hold edge of a guard unit at or after a time: tick 512 of a frame of 800 (R292). -/
def userEdge (t : Nat) : Nat := ceilDiv (t + ticks 288) (ticks 800) * ticks 800 - ticks 288

/-- The end of a slot: the 18th edge after its hold edge (R290). -/
def Slot.stop (x : Slot) : Nat := x.hold + ticks 288

/-- The latch of a slot: 304 ticks after its hold edge (R290). -/
def Slot.latch (x : Slot) : Nat := x.hold + ticks 304

/-- A slot that lies later by some grains. -/
def Slot.shift (d : Nat) (x : Slot) : Slot := { x with start := x.start + d, hold := x.hold + d }

/-- The slot converts an entry of the sequence. -/
def Slot.isEntry (x : Slot) : Bool :=
  match x.kind with
  | .entry _ => true
  | _ => false

/-- The slot converts an urgent request. -/
def Slot.isUrgent (x : Slot) : Bool :=
  match x.kind with
  | .urgent _ _ => true
  | _ => false

/-- Fields of an entry (R313). -/
def State.adcSel (s : State) (u e : Nat) : Nat := s.rf .ADCn_ENTRY_e u e 3 0
def State.adcAcq (s : State) (u e : Nat) : Nat := s.rf .ADCn_ENTRY_e u e 11 4
def State.adcWen (s : State) (u e : Nat) : Bool := s.rb .ADCn_ENTRY_e u e 12
def State.adcLen (s : State) (u : Nat) : Nat := s.rf .ADCn_SEQ u 0 4 0

/-- A run or an urgent conversion is in progress on the unit (R297). -/
def Adc.busy (x : Adc) : Bool := x.slots.any fun y => y.isEntry || y.isUrgent

/-! ### Enable (R297 to R299, R313) -/

/-- The settings allow the unit to start. -/
def State.adcParamOk (s : State) (u : Nat) : Bool :=
  let n := s.adcLen u
  s.rf .ADCn_TRIG u 0 2 0 ≤ 3 && s.rf .ADCn_TRIG u 0 11 8 ≤ 12 && 1 ≤ n && n ≤ 16 &&
    s.rf .ADCn_OW_CTL u 0 6 5 ≠ 3 && 7 ≤ s.rf .ADCn_OW_CTL u 0 31 16 &&
    (List.range n).all fun e => if isGuard u then s.adcAcq u e = 7 else 7 ≤ s.adcAcq u e

/-- A unit whose EN is 1 starts once its reference is ready, it is not fenced and its settings allow it (R298, R301, R302). -/
def State.adcStart (s : State) (u : Nat) : State :=
  let x := s.adc u
  if s.rb .ADCn_CTL u 0 0 && x.refReady && !x.fenced && !x.run && s.adcParamOk u then
    (s.setAdc u { x with run := true, idleAt := s.now, slots := [], detDue := false, trigAt := none }).wr .ADCn_WSTATE u 0 0
  else s

/-- A unit whose EN is 0, or that is fenced, stops at the latch of the conversion in progress (R299, R301). -/
def State.adcStop (s : State) (u : Nat) : State :=
  let x := s.adc u
  let kept := x.slots.filter fun y => y.hold ≤ s.now || y.isUrgent
  s.setAdc u { x with slots := kept, detDue := false, run := x.run && !kept.isEmpty }

/-- REF_READY sets 5 ms after REF_EN (R298). -/
def State.adcRefReady (s : State) (u : Nat) : State :=
  let x := s.adc u
  if s.rb .ADCn_CTL u 0 1 && !x.refReady then
    let s1 := s.reach (x.refAt + msec 5)
    (s1.setAdc u { s1.adc u with refReady := true }).adcStart u
  else s

/-- A write to ADCn_CTL takes effect (R298, R299, R313). -/
def State.adcCtl (s : State) (u : Nat) (v : Word) : State :=
  let old := s.rd .ADCn_CTL u
  let new := if isGuard u then setBit v 1 true else v
  let s1 := s.wr .ADCn_CTL u 0 new
  let s2 := if bit old 1 = bit new 1 then s1
    else if bit new 1 then s1.modAdc u fun x => { x with refAt := s1.now }
    else (s1.modAdc u fun x => { x with refReady := false }).adcStop u
  let s3 := if bit new 0 then s2.adcStart u else s2.adcStop u
  if bit old 0 = bit new 0 then s3 else s3.slackRestart

/-! ### Windows (R302, R303) -/

/-- The shadow of an entry's window; at first the values in effect. -/
def State.winShadow (s : State) (u e : Nat) : WinSet :=
  KMap.getD (s.adc u).shadow e ⟨s.rd .ADCn_WLO_e u e, s.rd .ADCn_WHI_e u e, s.rd .ADCn_WHYST_e u e⟩

/-- A window is not allowed: LO > HI or 2 × HYST > HI − LO. -/
def WinSet.bad (w : WinSet) : Bool := sint w.hi < sint w.lo || decide (sint w.hi - sint w.lo < 2 * (w.hyst.toNat : Int))

/-- An apply is refused: the shadow of a window with WEN 1 is not allowed. -/
def State.applyBad (s : State) (u : Nat) : Bool := (List.range 16).any fun e => s.adcWen u e && (s.winShadow u e).bad

/-- Write a window in effect. -/
def State.winPut (s : State) (u e : Nat) (w : WinSet) : State :=
  ((s.wr .ADCn_WLO_e u e w.lo).wr .ADCn_WHI_e u e w.hi).wr .ADCn_WHYST_e u e w.hyst

/-- Copy the whole window set of a unit; window states carry over. -/
def State.winApply (s : State) (u : Nat) : State :=
  let s1 := (List.range 16).foldl (fun (z : State) e => z.winPut u e (s.winShadow u e)) s
  s1.modAdc u fun x => { x with applyPend := false }

/-- APPLY of ADCn_CMD (R303): refused, at once while stopped, else with the next run. -/
def State.adcApply (s : State) (u : Nat) : State :=
  if s.applyBad u then s.bump .ADCn_CNT_APPLY_REJ u
  else if (s.adc u).run then s.modAdc u fun x => { x with applyPend := true }
  else s.winApply u

/-- The window of an entry judges a result latched at `t` (R302). -/
def State.window (s : State) (u e : Nat) (code : Int) (t : Nat) : State :=
  let w := s.rd .ADCn_WSTATE u
  let st := fld w (2 * e + 1) (2 * e)
  let put (s : State) (v : Nat) : State := s.wr .ADCn_WSTATE u 0 (blend (mkW (3 * 4 ^ e)) w (mkW (v * 4 ^ e)))
  if s.adcWen u e then
    let lo := sint (s.rd .ADCn_WLO_e u e)
    let hi := sint (s.rd .ADCn_WHI_e u e)
    let hyst : Int := (s.rf .ADCn_WHYST_e u e 16 0 : Nat)
    let side := if code < lo then 3 else if hi < code then 2 else 1
    if st = 0 then put s side
    else if side ≠ 1 && side ≠ st then
      ((put s side).bump .ADCn_CNT_WIN u).event (srcOf 2 (u * 16 + e)) t none (wordOfInt code)
    else if st ≠ 1 && decide (lo + hyst ≤ code ∧ code ≤ hi - hyst) then put s 1
    else s
  else put s 0

/-! ### Runs and triggers (R291 to R294, R297) -/

/-- The slots of a run whose entry 0 has hold edge `h`, from entry `e` (R291, R292). -/
def State.runSlots (s : State) (u : Nat) : Nat → Nat → Nat → List Slot
  | 0, _, _ => []
  | n + 1, e, h =>
    ⟨.entry e, h - clocks (s.adcAcq u e), h⟩ ::
      s.runSlots u n (e + 1) (h + if isGuard u then ticks 800 else clocks (s.adcAcq u (e + 1) + 18))

/-- The hold edge of entry 0 of a run triggered at `t` (R291, R292). -/
def State.runHold (s : State) (u t : Nat) : Nat :=
  let x := s.adc u
  let t0 := t + ticks (max (s.rf .ADCn_TRIG_DELAY u 0 19 0) 16)
  let free := x.slots.foldl (fun a y => max a y.stop) x.idleAt
  if isGuard u then userEdge (max t0 (if x.slots.isEmpty then 0 else free))
  else convEdge (max t0 (free + clocks (s.adcAcq u 0)))

/-- A trigger of a unit at time `t` (R297, R300): missed while a run, an urgent conversion or a calibration is in progress,
held behind a detection slot. A window apply takes effect with the run (R303). -/
def State.trigger (s : State) (u t : Nat) : State :=
  let x := s.adc u
  if x.cal.isSome then s.bump .ADCn_CNT_TRIG_MISS u
  else if !x.run || !s.rb .ADCn_CTL u 0 0 then s
  else if x.busy then s.bump .ADCn_CNT_TRIG_MISS u
  else
    let s1 := if x.slots.isEmpty then s else s.bump .ADCn_CNT_TRIG_LATE u
    let s2 := if x.applyPend then s1.winApply u else s1
    s2.modAdc u fun y => { y with slots := y.slots ++ s2.runSlots u (s2.adcLen u) 0 (s2.runHold u t) }

/-- A write of TRIG in ADCn_CMD, at the tick of device time (R297). -/
def State.writeTrigger (s : State) (u : Nat) : State := s.trigger u (s.now / 256 * 256)

/-- ADC_TRIG_ALL: one trigger for every unit named (R294). -/
def State.trigAll (s : State) (v : Word) : State :=
  (List.range 16).foldl (fun s u => if bit v u then s.writeTrigger u else s) s

/-- The last step of a group's angle crosses a multiple of 2^(64 − M), formed without a step, in the direction of F (R297). -/
def angleCross (m : Nat) (hist : List (Nat × W64 × W64)) : Bool :=
  match hist with
  | _ :: (_, a, f) :: _ =>
    let d := 2 ^ (64 - m)
    let r := a.toNat % d
    if f.toInt > 0 then decide ((d - r : Nat) ≤ f.toInt)
    else if f.toInt < 0 then decide (((if r = 0 then d else r) : Nat) ≤ -f.toInt)
    else false
  | _ => false

/-- The source of a unit's trigger fires at time `t` (R297). -/
def State.trigHolds (s : State) (u t : Nat) : Bool :=
  let w := s.rd .ADCn_TRIG u
  let g := fld w 6 4
  let x := s.grp g
  let tp := max 1 (s.rf .ADCn_TPARAM u 0 23 0)
  let last := x.times.head?.map nextTick
  match fld w 2 0 with
  | 1 => x.st = .running && last = some t && 1 ≤ x.n &&
      if bit w 7 then angleCross (fld w 11 8) x.hist else (x.n - 1) % tp = 0
  | 2 => s.pinDecides (fld w 17 12) = some (bit w 18)
  | 3 => x.st = .running && last = some t && x.startN + 1 = x.n && (bit w 24 || (eMark (s.entry g x.entry)).testBit (fld w 23 20))
  | _ => false

/-- ADC_TRIGGER: a group timer, a pulse on a lane or an entry start triggers a unit at time `t`, once per time (R297). -/
def State.adcTrigger (s : State) (u t : Nat) : State :=
  if s.trigHolds u t && (s.adc u).trigAt ≠ some t && (s.adc u).run then
    let s1 := (s.reach t).modAdc u fun x => { x with trigAt := some t }
    s1.trigger u t
  else s

/-! ### Results (R289, R290, R305, R307, R312) -/

/-- The corrected code (R289). -/
def State.adcCode (s : State) (u : Nat) (raw : Int) : Int :=
  clampI (-(2 ^ 17)) (2 ^ 17 - 1)
    (fdiv ((raw - sint (s.rd .ADCn_CAL_OFS u)) * ((s.rd .ADCn_CAL_GAIN u).toNat : Int) + 2 ^ 21) (2 ^ 22))

/-- CAL_VALID of a unit; guard units are trimmed in the factory (R300). -/
def State.calValid (s : State) (u : Nat) : Bool := isGuard u || (s.adc u).calValid

/-- The open-wire state of an input of a unit. -/
def State.owIn (s : State) (u i : Nat) : OwIn := KMap.getD (s.adc u).ow i {}

/-- Replace the open-wire state of an input. -/
def State.setOw (s : State) (u i : Nat) (x : OwIn) : State := s.modAdc u fun a => { a with ow := KMap.insert a.ow i x }

/-- A result register: code, BRK, UNCAL (R312). -/
def State.resWord (s : State) (u sel : Nat) (code : Int) : Word :=
  let brk : Bool := decide (sel ≤ 3 ∧ (s.owIn u sel).st ≠ .clean)
  mkW (code % 2 ^ 24).toNat ||| bitW brk 24 ||| bitW (!s.calValid u) 25

/-- The three words of ADC_READ for a result with its hold edge (R308). -/
def readWords (res : Word) (hold : Nat) : List Word := [res, mkW (tickOf hold), lo32 (secOf hold)]

/-- A unit's result feeds the follow loops that name the unit and entry (R115, R307). DESIGN CHOICE (log 59): a result whose conversion
instant lies in an earlier turn than its latch counts in the turn of the latch. -/
def State.followResult (s : State) (u e hold : Nat) (code : Int) : State :=
  (List.range 8).foldl (fun s g =>
    let x := s.grp g
    let w := s.rd .Gn_FOL_CTL g
    let t := s.rd .ADCn_TRIG u
    if x.fol ≠ .off && fld w 7 4 = u && fld w 11 8 = e && fld t 2 0 = 1 && fld t 6 4 = g && (s.adc u).run then
      match x.hist.find? fun h => h.1 ≤ hold with
      | some (p, a, f) =>
        let per := s.periodTicks g
        let th := BitVec.ofInt 64 ((a.toNat : Int) + roundUp (f.toInt * (((hold - p) * per.2 : Nat) : Int)) (per.1 * 256))
        s.setGrp g { x with folRes := x.folRes ++ [(code, th.toNat)] }
      | none => s
    else s) s

/-! ### The capture ring (R309) -/

/-- A result is written to the capture ring; what P10 cannot write is counted. -/
def State.capture (s : State) (u e : Nat) (urgent detect : Bool) (res : Word) (hold : Nat) : State :=
  match s.allocOf 4 with
  | some a =>
    if s.rb .ADCn_CTL u 0 3 then
      let n := a.len * 4096
      let wr := s.rd .ADC_CAP_WR
      let addr := a.first * 65536 + 16 * (wr.toNat % n)
      let rec_ := leBytes 4 res.toNat ++ leBytes 4 (tickOf hold) ++ leBytes 4 (secOf hold) ++ leBytes 1 u ++
        leBytes 1 (e % 16 + (if urgent then 16 else 0) + if detect then 32 else 0) ++ [0, 0]
      if s.drmOn && !s.chanFenced addr 16 then
        let full : Bool := decide ((wr - s.rd .ADC_CAP_RD).toNat = n)
        let s1 := (s.writeBytes false addr rec_).wr .ADC_CAP_WR 0 0 (wr + 1)
        if full then (s1.wr .ADC_CAP_RD 0 0 (s.rd .ADC_CAP_RD + 1)).bump .ADC_CAP_CNT_LOST else s1
      else s.bump .ADC_CAP_CNT_LOST
    else s
  | none => s

/-- A write of SIZE (R309): the ring is taken from the map or returned; none where it cannot be. -/
def State.capSize (s : State) (size : Nat) : Option State :=
  if !s.drmOn then none
  else
    let s1 := (s.allocDrop 4).wr .ADC_CAP_CTL 0 0 (mkW size)
    if size = 0 then some s1
    else match s1.highestFree (size * 16) with
      | some f => s1.allocPut ⟨f, size * 16, 4⟩
      | none => none

/-! ### Open-wire detection (R304 to R306) -/

/-- The next input of OW_MASK from `i` in rotation. -/
def owNext (mask i : Nat) : Nat :=
  match (List.range 4).find? fun k => mask.testBit ((i + k) % 4) with
  | some k => (i + k) % 4
  | none => i

/-- A detection slot is laid out from time `t` (R292, R304). -/
def State.detectSlot (s : State) (u t : Nat) : State :=
  let x := s.adc u
  let i := owNext (s.rf .ADCn_OW_CTL u 0 3 0) x.detNext
  let acq := clocks (s.rf .ADCn_OW_CTL u 0 31 16)
  let hold := if isGuard u then userEdge (t + acq) else convEdge t + acq
  s.setAdc u { x with slots := x.slots ++ [⟨.detect i, hold - acq, hold⟩], detDue := false, detNext := (i + 1) % 4 }

/-- DETECTION_TIMER (R304): a slot at once when the unit is idle, else at the end of the run in progress. -/
def State.detectionTimer (s : State) (u : Nat) : State :=
  let x := s.adc u
  if x.run && s.rb .ADCn_CTL u 0 0 && x.cal.isNone && s.rf .ADCn_OW_CTL u 0 3 0 ≠ 0 then
    if x.slots.isEmpty then s.detectSlot u s.now else s.setAdc u { x with detDue := true }
  else s

/-- BRK in the result registers of entries that select an input and whose hold edge lies after a time (R305). -/
def State.setBrk (s : State) (u i after : Nat) : State :=
  (List.range 16).foldl (fun s e =>
    match KMap.find? (s.adc u).holds e with
    | some h => if s.adcSel u e = i ∧ after < h then s.wrb .ADCn_RES_e u e 24 true else s
    | none => s) s

/-- A detection slot's result is judged (R304, R305). -/
def State.detected (s : State) (u i : Nat) (code : Int) (hold latch : Nat) : State :=
  let thr : Int := (s.rf .ADCn_OW_THR u 0 16 0 : Nat)
  let found : Bool := if s.rb .ADCn_OW_CTL u 0 4 then decide (code ≤ -thr) else decide (thr ≤ code)
  let x := s.owIn u i
  let ai := 4 * u + i
  if found then
    match x.st with
    | .clean => ((s.setBrk u i x.lastClean).setOw u i { x with st := .suspect, good := 0 }).bump .ADCn_CNT_OW_FIND u
    | .suspect =>
      let s1 := ((s.setOw u i { x with st := .opened, good := 0 }).bump .ADCn_CNT_OW u).lasting 20 u 0x000A 0xFF ai (wordOfInt code).toNat
      (s1.irqIf .ADCn_CTL u 2).event (srcOf 3 ai) latch none (wordOfInt code)
    | .opened => s.setOw u i { x with good := 0 }
  else
    match x.st with
    | .clean => s.setOw u i { x with lastClean := hold }
    | .suspect =>
      (s.setOw u i { x with st := .clean, good := 0, lastClean := hold }).transient 20 u 0x000A 0xFF ai (wordOfInt code).toNat
    | .opened =>
      if x.good = 0 then s.setOw u i { x with good := 1, lastClean := hold }
      else s.setOw u i { x with st := .clean, good := 0, lastClean := hold }

/-! ### The latch of a slot -/

/-- What the latch of a slot stores (R290, R295, R304, R312). -/
def State.latchSlot (s : State) (u : Nat) (y : Slot) (raw : Int) : State :=
  let code := s.adcCode u raw
  match y.kind with
  | .entry e =>
    let res := s.resWord u (s.adcSel u e) code
    let s1 := (s.wr .ADCn_RES_e u e res).wr .ADCn_TS_e u e (mkW (tickOf y.hold))
    let s2 := s1.modAdc u fun x => { x with holds := KMap.insert x.holds e y.hold }
    ((s2.followResult u e y.hold code).capture u e false false res y.hold).window u e code y.latch
  | .urgent sel cmd =>
    let res := s.resWord u sel code
    (s.capture u 0 true false res y.hold).finish cmd stOK (readWords res y.hold)
  | .detect i =>
    let res := s.resWord u i code
    (s.detected u i code y.hold y.latch).capture u 0 false true res y.hold

/-- CONVERSION_RESULT: the next slot of the unit is latched, 304 ticks after its hold edge (R290). Then the unit is idle, a
detection slot that waits starts, or a unit that stops has stopped (R299, R304). -/
def State.conversionResult (s : State) (u : Nat) (raw : Int) : State :=
  match (s.adc u).slots with
  | y :: rest =>
    let s1 := (s.reach y.latch).modAdc u fun x => { x with slots := rest, idleAt := if rest.isEmpty then y.latch else x.idleAt }
    let s2 := s1.latchSlot u y raw
    let x := s2.adc u
    if x.slots.isEmpty then
      if !s2.rb .ADCn_CTL u 0 0 || x.fenced || !x.refReady then s2.setAdc u { x with run := false }
      else if x.detDue then s2.detectSlot u y.latch else s2
    else s2
  | [] => s

/-! ### Urgent requests and steps of device time (R288, R295, R296) -/

/-- Insert a slot by its hold edge. -/
def slotInsert (y : Slot) : List Slot → List Slot
  | [] => [y]
  | x :: t => if y.hold < x.hold then y :: x :: t else x :: slotInsert y t

/-- The slots from the first that runs at, or starts after, an urgent slot move behind its latch. -/
def slotsBehind (from_ : Nat) : List Slot → List Slot
  | [] => []
  | x :: t => (x :: t).map (Slot.shift (from_ - x.start))

/-- An urgent request on a general unit (R295). `first` says that a hold edge at this instant is granted first. -/
def State.urgentGeneral (s : State) (u sel : Nat) (c : CmdRef) (first : Bool) : State :=
  let x := s.adc u
  let e0 := (s.now / 4096 + 1) * 4096
  let granted (y : Slot) : Bool := first && y.hold = s.now
  let before := x.slots.filter fun y => y.stop ≤ e0 || granted y
  let after := x.slots.filter fun y => !(y.stop ≤ e0 || granted y)
  let start := before.foldl (fun a y => max a y.stop) e0
  let y : Slot := ⟨.urgent sel c, start, start + clocks 7⟩
  let aborts : Bool := match after with
    | z :: _ => decide (z.start ≤ start)
    | [] => false
  let s1 := s.setAdc u { x with slots := before ++ y :: slotsBehind y.latch after }
  if aborts then s1.bump .ADCn_CNT_ABORT u else s1

/-- An urgent request on a guard unit (R296). -/
def State.urgentGuard (s : State) (u sel : Nat) (c : CmdRef) : State :=
  let x := s.adc u
  let h := userEdge (s.now + clocks 7)
  if x.slots.any fun z => z.hold = h || (z.start ≤ h && h < z.stop) then
    (s.bump .ADCn_CNT_URG_DROP u).finish c stBusy []
  else s.setAdc u { x with slots := slotInsert ⟨.urgent sel c, h - clocks 7, h⟩ x.slots }

/-- Device time steps from `old` to `new` (R93, R288): conversions restart from the new time as under an urgent request. -/
def State.adcRestep (s : State) (old new : Nat) : State :=
  (List.range 16).foldl (fun s u =>
    let x := s.adc u
    match x.slots with
    | [] => if x.run then s.setAdc u { x with idleAt := x.idleAt + new - old } else s
    | y :: _ =>
      let len := y.hold - y.start
      let h := if isGuard u then userEdge (new + len) else convEdge new + len
      let move (z : Slot) : Slot := { z with start := z.start + h - y.hold, hold := z.hold + h - y.hold }
      s.setAdc u { x with slots := x.slots.map move, idleAt := x.idleAt + new - old }) s

/-! ### Commands (R300, R303, R308) -/

/-- Bits of a word outside a mask are set. -/
def extraBits (w : Word) (mask : Nat) : Bool := decide (w &&& ~~~(mkW mask) ≠ 0)

/-- The payload of ADC_SEQ_SET is allowed (R292, R303, R308, R311, R313). -/
def seqSetOk (p : List Word) : Bool :=
  let w := wAt p 0
  let u := fld w 3 0
  let n := fld w 12 8
  !extraBits w 0x1F0F && 1 ≤ n && n ≤ 16 && (List.range n).all fun e =>
    let x := wAt p (1 + 4 * e)
    let win : WinSet := ⟨wAt p (2 + 4 * e), wAt p (3 + 4 * e), wAt p (4 + 4 * e)⟩
    !extraBits x 0x1FFF && (if isGuard u then fld x 11 4 = 7 else 7 ≤ fld x 11 4 && fld x 3 0 ≤ 3) &&
      !extraBits win.hyst 0x1FFFF && !(bit x 12 && win.bad)

/-- ADC_SEQ_SET (R299, R303, R308). -/
def State.adcSeqSet (s : State) (q k : Nat) : State :=
  s.run q k 0x0501 fun s c r =>
    let p := c.payload
    let u := fld (wAt p 0) 3 0
    let n := fld (wAt p 0) 12 8
    if !seqSetOk p then s.finish r stBadParam []
    else if (s.adc u).run then s.finish r stEnabled []
    else
      let s1 := (List.range n).foldl (fun s e =>
        let w : WinSet := ⟨wAt p (2 + 4 * e), wAt p (3 + 4 * e), wAt p (4 + 4 * e)⟩
        ((s.wr .ADCn_ENTRY_e u e (wAt p (1 + 4 * e))).winPut u e w).modAdc u fun x =>
          { x with shadow := KMap.insert x.shadow e w }) (s.wr .ADCn_SEQ u 0 (mkW n))
      (s1.wr .ADCn_WSTATE u 0 0).finish r stOK [mkW n]

/-- ADC_READ (R295, R296, R300, R308, R311). -/
def State.adcRead (s : State) (q k : Nat) : State :=
  s.run q k 0x0503 fun s c r =>
    let w := wAt c.payload 0
    let u := fld w 3 0
    let sel := fld w 15 12
    let first := fld w 19 16
    let n := fld w 24 20
    let x := s.adc u
    if extraBits w 0x01FFF10F then s.finish r stBadParam []
    else if !bit w 8 then
      if n = 0 || 16 < first + n then s.finish r stBadParam []
      else s.finish r stOK ((List.range n).flatMap fun i =>
        readWords (s.rd .ADCn_RES_e u (first + i)) (KMap.getD x.holds (first + i) 0))
    else if !isGuard u && 3 < sel then s.finish r stBadParam []
    else if !x.run then s.finish r stNotReady []
    else if x.cal.isSome then s.finish r stBusy []
    else if isGuard u then s.urgentGuard u sel r
    else if x.slots.any fun y => y.isUrgent then s.finish r stBusy []
    else
      let d := s.draw
      d.2.urgentGeneral u sel r (Config.grantFirst d.1)

/-! ### Self-calibration (R300, R308) -/

/-- Factors that a calibration accepts. -/
def calOk (ofs : Int) (gain : Nat) : Bool :=
  decide (-2048 ≤ ofs ∧ ofs ≤ 2048 ∧ 98 * 2 ^ 22 ≤ 100 * gain ∧ 100 * gain ≤ 102 * 2 ^ 22)

/-- The units of a mask. -/
def unitsOf (mask : Nat) : List Nat := (List.range 14).filter fun u => mask.testBit u

/-- A calibration of one unit ends: the factors of the first averaging or of its repeat are stored, or the unit is fenced. -/
def State.calEnd (s : State) (f : CalFinding) : State :=
  let u := f.unit
  let again := !calOk f.ofs f.gain
  let ofs := if again then f.ofs2 else f.ofs
  let gain := if again then f.gain2 else f.gain
  let d0 := (wordOfInt ofs).toNat
  let s0 := s.modAdc u fun x => { x with cal := none }
  if calOk ofs gain then
    let s1 := ((s0.wr .ADCn_CAL_OFS u 0 (wordOfInt ofs)).wr .ADCn_CAL_GAIN u 0 (mkW gain)).modAdc u fun x => { x with calValid := true }
    if again then (s1.bump .ADCn_CNT_CAL_RETRY u).transient 20 u 0x000B stRetried d0 gain else s1
  else
    let s1 := s0.modAdc u fun x => { x with fenced := true }
    (s1.adcStop u).lasting 20 u 0x000B stFenced d0 gain

/-- ADC_SELFCAL begins: the named units disconnect their inputs and leave their runs. -/
def State.selfcalBegin (s : State) (q k : Nat) : State :=
  s.run q k 0x0502 fun s c r =>
    let w := wAt c.payload 0
    let us := unitsOf (fld w 13 0)
    if extraBits w 0x3FFF then s.finish r stBadParam []
    else if us.any fun u => !(s.adc u).refReady || (s.adc u).fenced then s.finish r stNotReady []
    else if us.any fun u => (s.adc u).cal.isSome then s.finish r stBusy []
    else if us.isEmpty then s.finish r stOK [0, 0, 0]
    else us.foldl (fun s u => s.modAdc u fun x =>
      { x with cal := some r, detDue := false, slots := x.slots.filter fun y => y.isUrgent }) s

/-- The mask of the units that a predicate holds for. -/
def unitMask (us : List Nat) (f : Nat → Bool) : Word := us.foldl (fun w u => w ||| bitW (f u) u) 0

/-- ADC_SELFCAL (R300): it begins, or, while it runs, the findings of every unit it calibrates end it. -/
def State.adcSelfcal (s : State) (q k : Nat) (found : List CalFinding) : State :=
  let us := (List.range 14).filter fun u => (s.adc u).cal = some ⟨q, k⟩
  if us.isEmpty then s.selfcalBegin q k
  else
    let fs := us.filterMap fun u => found.find? fun f => f.unit = u
    if fs.length = us.length then
      let s1 := fs.foldl (fun s f => s.calEnd f) s
      let again (u : Nat) : Bool := fs.any fun f => f.unit = u && !calOk f.ofs f.gain
      let bad (u : Nat) : Bool := (s1.adc u).fenced
      let st := if us.any bad then stFenced else if us.any again then stRetried else stOK
      s1.finish ⟨q, k⟩ st [unitMask us fun u => !bad u, unitMask us again, unitMask us bad]
    else s

/-- FENCE_CLR of ADCn_CMD returns a fenced unit to NORMAL (R301). -/
def State.adcFenceClr (s : State) (u : Nat) : State :=
  if (s.adc u).fenced then (s.modAdc u fun x => { x with fenced := false }).adcStart u else s

/-- ADCn_STATUS (R313). -/
def State.adcStatus (s : State) (u : Nat) : Word :=
  let x := s.adc u
  let ow (o : OwSt) (lo : Nat) : Word := flagsW (fun i => (s.owIn u i).st = o) 4 <<< lo
  bitW x.run 0 ||| bitW x.refReady 1 ||| bitW (s.calValid u) 2 ||| bitW x.cal.isSome 3 ||| bitW (!x.slots.isEmpty) 4 |||
    bitW x.applyPend 5 ||| bitW x.fenced 6 ||| ow .suspect 8 ||| ow .opened 12

end Sys2Proof.Machine
end

