-- ==== Sys2Proof/Machine/Time.lean ====
section
/-!
DEFINITION. The timebase and the synthesisers (R85 to R103, R121 to R139): setting, stepping and reading device time,
the calendar, PPS, references and holdover, PLL A, and the lock and apply of PLL B and PLL C and the clock outputs.
-/
namespace Sys2Proof.Machine

/-- Some group has its enable set (R92, R93). -/
def State.anyEnabled (s : State) : Bool := (List.range 8).any fun g => s.rb .Gn_CTL g 0 0

/-! ### Time matches (R207) -/

/-- The match time of time match `k`. -/
def State.tmTime (s : State) (k : Nat) : Nat :=
  mkTime ((s.rd .EVT_TM_HI_k k).toNat + 2 ^ 32 * s.rf .EVT_TM_XHI_k k 0 15 0) (s.rf .EVT_TM_LO_k k 0 29 0) 0

/-- Time match `k` can fire: EVT runs, ARM is 1, and it has neither fired nor been passed. -/
def State.tmOpen (s : State) (k : Nat) : Bool :=
  s.evtOn && s.rb .EVT_TM_CTL_k k 0 0 && !bit s.ev.tmFired k && !bit s.ev.tmPast k

/-- Time match `k` fires, stamped at `t` (R207). -/
def State.tmFire (s : State) (k t flags : Nat) : State :=
  ({ s with ev := { s.ev with tmFired := setBit s.ev.tmFired k true } }).event (srcOf 6 k) t none 0 flags

/-- Time match `k` is judged where its ARM or EVT starts: a time at or before now is past (R207). -/
def State.tmJudge (s : State) (k : Nat) : State :=
  if s.evtOn && s.rb .EVT_TM_CTL_k k 0 0 && s.tmTime k ≤ s.now then
    ({ s with ev := { s.ev with tmPast := setBit s.ev.tmPast k true } }).bump .EVT_CNT_TM_PAST
  else s

/-- ARM of time match `k` is cleared: FIRED_k and PAST_k clear (R207). -/
def State.tmDisarm (s : State) (k : Nat) : State :=
  { s with ev := { s.ev with tmFired := setBit s.ev.tmFired k false, tmPast := setBit s.ev.tmPast k false } }

/-! ### Steps of device time (R92, R93) -/

/-- A running stream restarts at the next second boundary (R317). -/
def SvStream.restart (x : SvStream) (now : Nat) : SvStream :=
  { x with inst := ceilDiv now grainsPerSec * x.rate, buf := [] }

/-- Device time steps to `t`: time matches that a forward step passes fire as STEPPED (R207), streams restart (R317), conversions
restart (R288), the reference of the synthesisers realigns (R121). -/
def State.stepTo (s : State) (t : Nat) : State :=
  let old := s.now
  let s0 : State := { s with
    tb := { s.tb with now := t }
    streams := s.streams.map fun (p : Nat × SvStream) => (p.1, if p.2.run then p.2.restart t else p.2)
    -- a waiting apply keeps its distance and meets the divider's new edges (R121)
    plls := s.plls.map fun (p : Nat × Pll) => (p.1, { p.2 with applyAt := p.2.applyAt.map fun a => t + (a - old) }) }
  let s1 := s0.adcRestep old t
  if old < t then
    (List.range 8).foldl (fun s k => if s.tmOpen k && s.tmTime k ≤ t then s.tmFire k t 2 else s) s1
  else s1

/-- Device time is loaded by a command: TIME_VALID is set and TB_CNT_STEP counts (R90, R101). -/
def State.loadTime (s : State) (t : Nat) : State :=
  let s1 := s.stepTo t
  ({ s1 with tb := { s1.tb with timeValid := true } }).bump .TB_CNT_STEP

/-- Checks 2 to 4 of R92: the status of the first that fails. -/
def State.timeSetRefused (s : State) : Option Nat :=
  let ref := s.rf .TB_CTL 0 0 2 0
  if s.rb .SYS_EN 0 0 0 && (ref = 1 || ref = 2) then some stBusy
  else if s.anyEnabled then some stEnabled
  else if !s.counting then some stNotReady
  else none

/-- Load a time at once, or at the next PPS_IN edge (R92). -/
def State.timeSetAt (s : State) (r : CmdRef) (t : Nat) (atPps : Bool) : State :=
  match s.timeSetRefused with
  | some st => s.finish r st []
  | none =>
    if atPps then { s with tb := { s.tb with ppsWait := s.tb.ppsWait ++ [⟨r.q, r.k, t⟩] } }
    else (s.loadTime t).finish r stOK (timeWords t)

/-- TIME_SET (R92). -/
def State.timeSet (s : State) (q k : Nat) : State :=
  s.run q k 0x0901 fun s c r =>
    let p := c.payload
    let tick := fld (wAt p 2) 29 0
    if 800000000 ≤ tick || fld (wAt p 1) 31 16 ≠ 0 || fld (wAt p 2) 31 30 ≠ 0 || 1 < (wAt p 3).toNat then
      s.finish r stBadParam []
    else s.timeSetAt r (mkTime ((wAt p 0).toNat + 2 ^ 32 * fld (wAt p 1) 15 0) tick 0) (bit (wAt p 3) 0)

/-! ### Calendar (R95 to R98) -/

/-- A leap year (R96). -/
def leapYear (y : Nat) : Bool := y % 4 = 0 && (y % 100 ≠ 0 || y % 400 = 0)

/-- The days of a month. -/
def monthDays (y m : Nat) : Nat :=
  if m = 2 then (if leapYear y then 29 else 28)
  else if m = 4 || m = 6 || m = 9 || m = 11 then 30 else 31

/-- Days from 1970-01-01 to a date (R97). -/
def daysOfDate (y m d : Nat) : Int :=
  let mp := if 2 < m then m - 3 else m + 9
  let y1 := if 2 < m then y else y - 1
  let era := y1 / 400
  let yoe := y1 - era * 400
  let doy := (153 * mp + 2) / 5 + d - 1
  let doe := yoe * 365 + yoe / 4 - yoe / 100 + doy
  ((era * 146097 + doe : Nat) : Int) - 719468

/-- The date of a count of days from 1970-01-01: year, month, day. -/
def dateOfDays (days : Nat) : Nat × Nat × Nat :=
  let z := days + 719468
  let era := z / 146097
  let doe := z % 146097
  let yoe := (doe - doe / 1460 + doe / 36524 - doe / 146096) / 365
  let doy := doe - (365 * yoe + yoe / 4 - yoe / 100)
  let mp := (5 * doy + 2) / 153
  let d := doy - (153 * mp + 2) / 5 + 1
  let m := if mp < 10 then mp + 3 else mp - 9
  (yoe + era * 400 + (if m ≤ 2 then 1 else 0), m, d)

/-- The UTC offset, and whether it is valid (R95). -/
def State.utcOfs (s : State) : Int × Bool :=
  ((BitVec.ofNat 16 (s.rf .TB_UTC_OFS 0 0 15 0)).toInt, s.rb .TB_UTC_OFS 0 0 16)

/-- A date and time of day of R97, check 3, as TAI seconds. -/
def State.calendarSecs (s : State) (w0 w1 : Word) : Option Nat :=
  let y := fld w0 15 0
  let m := fld w0 23 16
  let d := fld w0 31 24
  let hh := fld w1 7 0
  let mi := fld w1 15 8
  let ss := fld w1 23 16
  if 1970 ≤ y && y ≤ 9999 && 1 ≤ m && m ≤ 12 && 1 ≤ d && d ≤ monthDays y m && hh ≤ 23 && mi ≤ 59 && ss ≤ 59 &&
      s.utcOfs.2 then
    let t := daysOfDate y m d * 86400 + ((hh * 3600 + mi * 60 + ss : Nat) : Int) + s.utcOfs.1
    if 0 ≤ t then some t.toNat else none
  else none

/-- TIME_SET_CALENDAR (R97). -/
def State.timeSetCalendar (s : State) (q k : Nat) : State :=
  s.run q k 0x0902 fun s c r =>
    let p := c.payload
    let tick := fld (wAt p 2) 29 0
    if !s.rb .TB_CTL 0 0 14 then s.finish r stBadParam []
    else if 800000000 ≤ tick || fld (wAt p 1) 31 24 ≠ 0 || fld (wAt p 2) 31 30 ≠ 0 || 1 < (wAt p 3).toNat then
      s.finish r stBadParam []
    else match s.calendarSecs (wAt p 0) (wAt p 1) with
      | none => s.finish r stBadDate []
      | some secs => s.timeSetAt r (mkTime secs tick 0) (bit (wAt p 3) 0)

/-- Words 4 to 6 of TIME_GET for a device time, where the calendar is valid (R94, R98). -/
def State.calendarWords (s : State) : Option (List Word) :=
  let utc := (secOf s.now : Int) - s.utcOfs.1
  if s.utcOfs.2 && s.tb.timeValid && 0 ≤ utc then
    let u := utc.toNat
    let ymd := dateOfDays (u / 86400)
    if ymd.1 ≤ 9999 then
      let r := u % 86400
      some [mkW (ymd.1 + ymd.2.1 * 2 ^ 16 + ymd.2.2 * 2 ^ 24), mkW (r / 3600 + r / 60 % 60 * 2 ^ 8 + r % 60 * 2 ^ 16),
        mkW (tickOf s.now)]
    else none
  else none

/-- TIME_GET (R94). -/
def State.timeGet (s : State) (q k : Nat) : State :=
  s.run q k 0x0903 fun s c r =>
    let w := wAt c.payload 0
    if 1 < w.toNat then s.finish r stBadParam []
    else
      let cal := if bit w 0 then s.calendarWords else none
      let w3 := putF (s.rf .TB_UTC_OFS 0 0 15 0) 0 ||| bitW s.utcOfs.2 16 ||| bitW s.tb.timeValid 17 |||
        bitW s.tb.holdover 18 ||| bitW cal.isSome 19 ||| putF (s.rf .TB_CTL 0 0 2 0) 20
      let tail := if bit w 0 then cal.getD [0, 0, 0] else []
      s.finish r stOK (timeWords (s.now / 256 * 256) ++ [w3] ++ tail)

/-! ### References and steering (R86, R87, R93) -/

/-- A correction of device time that a reference demands, in grains (R86, R93): steering, and a pending step when it exceeds 1 ms; a
smaller one is removed by steering alone. The law of the servo is not given: the steering it reaches is a free value within its bounds.
None is made in holdover (R87). -/
def State.correct (s : State) (d : Int) : State :=
  if s.tb.holdover then s
  else
    let n := s.draw
    { n.2 with tb := { n.2.tb with
      steer := clampI (-steerBound) steerBound (Config.steering n.1 d)
      stepPending := if msec 1 < d.natAbs then some d else none } }

/-- LOCK of the PTP clock clears (R330). -/
def State.ptpUnlock (s : State) : State :=
  if s.ptp.lock then ({ s with ptp := { s.ptp with lock := false } }).bump .NET_PTP_CNT_LOCKLOSS else s

/-- REFERENCE_LOSS (R87): monitored only while TB runs. The loss of a PTP reference clears its LOCK (R330). -/
def State.referenceLoss (s : State) : State :=
  if s.running 0 && !s.tb.holdover then
    let s1 := { s with tb := { s.tb with holdover := true, refPresent := false } }
    let s2 := (s1.bump .TB_CNT_REFLOSS).logErr 0 1 0 0x0003 0xFF (s.rf .TB_CTL 0 0 2 0) 0
    if s.rf .TB_CTL 0 0 2 0 = 2 then s2.ptpUnlock else s2
  else s

/-- HOLDOVER_END (R87). -/
def State.holdoverEnd (s : State) : State :=
  if s.tb.holdover then { s with tb := { s.tb with holdover := false, refPresent := true } } else s

/-- TIME_STEP (R93): at the next second boundary the pending step is applied, while no group is enabled; in holdover there is none (R87). -/
def State.timeStep (s : State) : State :=
  match s.tb.stepPending with
  | some d =>
    if s.counting && !s.anyEnabled && !s.tb.holdover then
      let edge := ceilDiv s.now grainsPerSec * grainsPerSec
      let s1 := s.reach edge
      let s2 := s1.stepTo ((edge : Int) + d).toNat
      ({ s2 with tb := { s2.tb with stepPending := none } }).bump .TB_CNT_STEP
    else s
  | none => s

/-- TB starts: only with an allowed reference (R85, R102). -/
def State.tbStart (s : State) : State :=
  if s.rf .TB_CTL 0 0 2 0 ≤ 3 && s.rf .TB_CTL 0 0 5 4 ≠ 3 && !s.running 0 then
    let s1 := s.setRunning 0 true
    { s1 with tb := { s1.tb with refPresent := true, holdover := false } }
  else s

/-- TB stops (R87, R88). -/
def State.tbStop (s : State) : State :=
  let s1 := s.setRunning 0 false
  { s1 with tb := { s1.tb with refPresent := false, holdover := false, ppsOut := false } }

/-! ### PPS (R99, R100) -/

/-- PPS_OUT may be high (R99). -/
def State.ppsOutOn (s : State) : Bool := s.running 0 && s.rb .TB_CTL 0 0 8 && s.tb.timeValid && s.counting

/-- PPS_OUT: a rise at tick-of-second 0, or the fall PPS_WIDTH ms later (R99). -/
def State.ppsOutEdge (s : State) (rise : Bool) : State :=
  if rise then
    if s.ppsOutOn && !s.tb.ppsOut then
      let s1 := s.reach (ceilDiv s.now grainsPerSec * grainsPerSec)
      { s1 with tb := { s1.tb with ppsOut := true } }
    else s
  else if s.tb.ppsOut then
    let w := s.rf .TB_CTL 0 0 23 16
    let s1 := s.reach (s.now / grainsPerSec * grainsPerSec + msec (if w = 0 then 1 else w))
    { s1 with tb := { s1.tb with ppsOut := false } }
  else s

/-- One waiting load at a PPS_IN edge (R92); while a group is enabled time is never stepped (R93). -/
def State.ppsLoad (s : State) (w : PpsWait) : State :=
  if s.anyEnabled then s.finish ⟨w.q, w.k⟩ stEnabled []
  else (s.loadTime w.time).finish ⟨w.q, w.k⟩ stOK (timeWords w.time)

/-- PPS_IN_EDGE at `t` (R88, R92, R100): an edge of the polarity of PPS_IN_POL is stamped while TB runs; in mode 3 it steers; waiting
loads take it. -/
def State.ppsInEdge (s : State) (rise : Bool) (t : Nat) : State :=
  if s.counting && rise != s.rb .TB_CTL 0 0 9 then
    let s1 := s.reach t
    let at_ := t / 256 * 256
    let s2 := if s1.running 0 then { s1 with tb := { s1.tb with ppsIn := at_, ppsSeen := true } } else s1
    let ph := at_ % grainsPerSec
    let err : Int := if 2 * ph < grainsPerSec then -(ph : Int) else ((grainsPerSec - ph : Nat) : Int)
    let s3 := if s2.running 0 && s2.rf .TB_CTL 0 0 2 0 = 3 then s2.correct err else s2
    let ws := s3.tb.ppsWait
    ws.foldl (fun s w => s.ppsLoad w) { s3 with tb := { s3.tb with ppsWait := [] } }
  else s

/-- PPS_SEEN_TIMEOUT (R100). -/
def State.ppsSeenTimeout (s : State) : State := { s with tb := { s.tb with ppsSeen := false } }

/-- PPS_WAIT_TIMEOUT (R92): no edge within 1.5 s of the execution of a load that waits for one. -/
def State.ppsWaitTimeout (s : State) (q k : Nat) : State :=
  match (s.q q).find k with
  | some c =>
    if s.fwReady && s.tb.ppsWait.any fun w => w.q = q && w.k = k then (s.reachWait c (msec 1500)).timedOut q k c else s
  | none => s

/-! ### PLL A (R88, R90, R132) -/

/-- PLL_A_LOCK (R132): cause 3 of safe state is gone (R451). -/
def State.pllALock (s : State) : State :=
  if s.running 1 && !s.tb.lock then
    ({ s with tb := { s.tb with lock := true } }).safeCauseGone 3
  else s

/-- PLL_A_LOCK_LOSS (R90, R92, R432, R451). -/
def State.pllALockLoss (s : State) : State :=
  if s.running 1 && s.tb.lock then
    let s1 := { s with tb := { s.tb with lock := false, timeValid := false, ppsOut := false, ppsWait := [] } }
    let s2 := (s1.bump .TB_CNT_LOL).logErr 0 2 0 0x0004 0xFF 0 0
    let s3 := s.tb.ppsWait.foldl (fun s w => s.finish ⟨w.q, w.k⟩ stTimeout []) s2
    (s3.crash 6).safeCauseRaise 3
  else s

/-- The PLLA enable changes (R132). -/
def State.pllAEnable (s : State) (on : Bool) : State :=
  if on then { s.setRunning 1 true with tb := { s.tb with stopPending := false } }
  else if s.anyRunning then { s with tb := { s.tb with stopPending := true } }
  else s.pllAStop

/-! ### PLL B and PLL C (R122 to R129, R504) -/

/-- The enable of a synthesiser changes (R72, R126, R504). -/
def State.pllEnable (s : State) (x : Nat) (on : Bool) : State :=
  if on then (s.modPll x fun p => { p with stopPending := false }).pllStart x
  else if s.anyOn x then s.modPll x fun p => { p with stopPending := true }
  else s.pllStop x

/-- The expected count of a lock window (R127). -/
def State.lockExpect (s : State) (x : Nat) : Int :=
  roundUp ((s.pllRatio x * 2 ^ s.rf .PLLx_CTL x 0 8 4 : Nat) : Int) (2 ^ 32 * s.pllP x)

/-- A lock window is good (R127). -/
def State.goodWindow (s : State) (x count : Nat) : Bool :=
  ((count : Int) - s.lockExpect x).natAbs ≤ s.rf .PLLx_CTL x 0 23 16

/-- LOCK_WINS (R127, R135): 0 counts as 1. -/
def State.lockWins (s : State) (x : Nat) : Nat := max 1 (s.rf .PLLx_CTL x 0 15 12)

/-- PLL_LOCK: a lock window ends with `count` cycles while LOCK is 0 (R127): LOCK is set after LOCK_WINS consecutive good windows. -/
def State.pllLock (s : State) (x count : Nat) : State :=
  if s.pllRunning x && s.tb.lock && !(s.pll x).lock then
    let n := if s.goodWindow x count then (s.pll x).wins + 1 else 0
    s.modPll x fun p => { p with lock := s.lockWins x ≤ n, wins := n, bads := 0, fcount := count }
  else s

/-- A group of a synthesiser that has lost lock stops at its next sample edge (R128, R259): one that presents no samples at once, and one
that only ramps goes to mid-scale at once. -/
def State.lockStop (s : State) (g : Nat) : State :=
  let x := s.grp g
  if x.st.plays then s.setGrp g { x with st := .stopping, stops := x.stops ++ [⟨2, none, false, true⟩] }
  else if x.st.isRunning then s.stopGroup g s.now false
  else s.rampsMid g

/-- LOCK clears on a running synthesiser (R128): its groups stop, and it relocks on a band chosen anew. -/
def State.lockLost (s : State) (x count : Nat) : State :=
  let s1 := s.modPll x fun p => { p with lock := false, wins := 0, bads := 0, fcount := count }
  let s2 := (s1.bump .PLLx_CNT_LOL x).logErr 0 (3 + x) 0 0x0004 0xFF count 0
  let s3 := (List.range 8).foldl (fun s g => if s.grpPll g = x then s.lockStop g else s) s2
  match s3.chooseBand x (s3.pllRatio x) with
  | some b => s3.modPll x fun p => { p with band := b }
  | none => s3

/-- PLL_LOCK_LOSS: a lock window ends with `count` cycles while LOCK is 1 (R127): LOCK clears after two consecutive windows that are not
good. No window is compared for 50 µs after an apply (R129). -/
def State.pllLockLoss (s : State) (x count : Nat) : State :=
  let p := s.pll x
  if s.pllRunning x && p.lock && p.suspend ≤ s.now then
    if s.goodWindow x count then s.setPll x { p with bads := 0, fcount := count }
    else if p.bads = 0 then s.setPll x { p with bads := 1, fcount := count }
    else s.lockLost x count
  else s

/-- The shadow of a synthesiser may be applied (R122, R126, R129, R130). -/
def State.applyOk (s : State) (x : Nat) : Bool :=
  let p := s.pll x
  let i := fld p.shInt 6 0
  let f := p.shFrac.toNat
  let post := fld p.shPost 5 0
  let new := i * 2 ^ 32 + f
  let old := s.pllRatio x
  match (if pllSetValid i f post then s.chooseBand x new else none) with
  | none => false
  | some b =>
    !s.anyOn x ||
      (post = s.pllP x && p.shMod = s.rd .PLLx_MOD x && b = p.band &&
        (max new old - min new old) * 1000 ≤ old &&
        (List.range 8).all fun g => !(s.grpRunning g && s.grpPll g = x) || 40 * new ≤ 8 * s.grpN g * post * 2 ^ 32)

/-- An apply is refused (R129): counted and recorded. -/
def State.applyRefused (s : State) (x : Nat) : State :=
  (s.bump .PLLx_CNT_APPLY_REJ x).logErr 0 (3 + x) 0 0x0005 0xFF (fld (s.pll x).shInt 6 0) (s.pll x).shFrac.toNat

/-- PLLx_APPLY is written with 1 while no apply waits (R129). -/
def State.pllApply (s : State) (x : Nat) : State :=
  if s.applyOk x then
    s.modPll x fun p => { p with applyAt := some (nextTick s.now + ticks 8) }
  else s.applyRefused x

/-- APPLY_EDGE (R129): the five values change at the reference edge. -/
def State.applyEdge (s : State) (x : Nat) : State :=
  match (s.pll x).applyAt with
  | some from_ =>
    if s.counting then
      let t := ceilDiv from_ 2048 * 2048
      let s1 := (s.reach t).modPll x fun p => { p with applyAt := none }
      if s1.applyOk x then
        let p := s1.pll x
        let s2 := (((s1.wr .PLLx_INT x 0 (mkW (fld p.shInt 6 0))).wr .PLLx_FRAC x 0 p.shFrac).wr .PLLx_POST x 0
          (mkW (fld p.shPost 5 0))).wr .PLLx_MOD x 0 p.shMod
        let seed := fld p.shMod 31 8
        let b := (s2.chooseBand x (s2.pllRatio x)).getD p.band
        let s3 := s2.modPll x fun p => { (if s2.anyOn x || b = p.band then p else p.unlock) with
          band := b
          suspend := if s2.anyOn x then t + usec 50 else p.suspend
          modFrom := t
          lfsr := if bit p.shMod 0 then (if seed = 0 then 1 else seed) else p.lfsr }
        s3.pllStart x
      else s1.applyRefused x
    else s
  | none => s

/-! ### Clock outputs (R133) -/

/-- EN of a clock output takes effect (R133): RUN, or FMT_ERR where its start is refused. -/
def State.ckSet (s : State) (n : Nat) (on : Bool) : State :=
  let s1 := s.wrb .CKOUT_CTLn n 0 0 on
  let ok := s1.ckOk n (Config.vioMatches (s1.rf .CKOUT_CTLn n 0 3 1))
  (s1.wrb .CKOUT_STATUS 0 0 n (on && ok)).wrb .CKOUT_STATUS 0 0 (4 + n) (on && !ok)

end Sys2Proof.Machine
end

