-- ==== Sys2Proof/Machine/Io.lean ====
section
/-!
DEFINITION. Events, check windows, DAC protection, pattern lanes, markers and binary inputs (R200 to R212, R245 to R247,
R258 to R287): what their commands and expiries do.
-/
namespace Sys2Proof.Machine

/-! ### Binary inputs (R280, R281) -/

/-- Input `n` is sampled: its EN is 1 and BIN runs. -/
def State.binOn (s : State) (n : Nat) : Bool := s.running 8 && s.rb .BIN_CFG_n n 0 31

/-- BINARY_INPUT_CHANGE at `t` (R280): the debounced state inverts, raising its class 1 event. -/
def State.binChange (s : State) (n t : Nat) : State :=
  let x := s.bin n
  if s.binOn n && x.valid then
    let s1 := (s.reach t).setBin n { x with state := !x.state, raw := !x.state, time := t / 256 * 256 }
    (s1.bump .BIN_CNT_EDGE_n n).event (srcOf 1 n) (t / 256 * 256) (some (!x.state)) 0
  else s

/-- BOUNCE (R280). -/
def State.binBounce (s : State) (n : Nat) : State :=
  let x := s.bin n
  if s.binOn n && x.valid then (s.setBin n { x with raw := x.state }).bump .BIN_CNT_BOUNCE_n n else s

/-- BINARY_INPUT_START (R281): a stable run gives the state without an event. -/
def State.binStable (s : State) (n : Nat) (level : Bool) : State :=
  let x := s.bin n
  if s.binOn n && !x.valid then s.setBin n { x with state := level, raw := level, valid := true } else s

/-- Input `n` starts: until VALID its state reads 0 (R281). -/
def State.binBegin (s : State) (n : Nat) : State :=
  s.modBin n fun x => { x with state := false, raw := false, valid := false }

/-- Input `n` is no longer sampled: VALID clears and the state keeps its last value (R281). -/
def State.binEnd (s : State) (n : Nat) : State := s.modBin n fun x => { x with raw := false, valid := false }

/-! ### Time matches and soft events (R200, R207) -/

/-- ARM of time match `k` may be set: its tick lies in a second (R207). -/
def State.tmArmOk (s : State) (k : Nat) : Bool := s.rf .EVT_TM_LO_k k 0 29 0 < 800000000

/-- ARM of time match `k` is written (R207). -/
def State.tmArm (s : State) (k : Nat) (on : Bool) : State :=
  let old := s.rb .EVT_TM_CTL_k k 0 0
  let s1 := s.wrb .EVT_TM_CTL_k k 0 0 on
  if on && !old then s1.tmJudge k else if !on && old then s1.tmDisarm k else s1

/-- TIME_MATCH: device time reaches the match time (R207). -/
def State.timeMatch (s : State) (k : Nat) : State :=
  if s.tmOpen k then
    let s1 := s.reach (s.tmTime k)
    if s1.tmTime k ≤ s1.now then s1.tmFire k (s1.tmTime k) 0 else s
  else s

/-- A write to EVT_SOFT raises its events, stamped at the tick of the write (R200). -/
def State.softEvents (s : State) (v : Word) : State :=
  (List.range 32).foldl (fun s k =>
    if bit v k then s.event (srcOf 8 k) (s.now / 256 * 256) none 0 else s) s

/-- EVT stops or starts (R201, R207): at a start the armed matches are judged. -/
def State.evtEnable (s : State) (on : Bool) : State :=
  let was := s.running 9
  let s1 := s.setRunning 9 on
  if on && !was then (List.range 8).foldl (fun s k => s.tmJudge k) s1
  -- a record that is not yet written is not written (R201)
  else if on then s1 else { s1 with ev := { s1.ev with open_ := [] } }

/-- The chain event that executes first. -/
def firstChainEv : List ChainEv → Option ChainEv
  | [] => none
  | x :: t => match firstChainEv t with
    | none => some x
    | some y => if x.time ≤ y.time then some x else some y

/-- CHAIN_EVENT_EXECUTION: the earliest waiting chain event reaches its execution time (R204, R205). -/
def State.chainEventExec (s : State) : State :=
  match firstChainEv s.ev.chain with
  | some x =>
    let s1 := s.reach (x.time + usec 3)
    let s2 := { s1 with ev := { s1.ev with chain := s1.ev.chain.erase x } }
    if s2.evtOn then s2.deliver (srcOf 5 x.num) x.time (x.time + usec 3) none (mkW x.origin) 0 else s2
  | none => s

/-! ### The event log (R209, R210) -/

/-- LOG_FULL of the event log. -/
def State.evtFull (s : State) : Bool := 2048 ≤ (s.ev.wr - s.ev.rd).toNat

/-- The bytes of `n` records from sequence number `first` on, in order. -/
def State.logBytes (s : State) (first : Word) (n : Nat) : List Byte :=
  (List.range n).flatMap fun i => (ringAt s.ev.log s.ev.wr (first + mkW i)).getD []

/-- LOG_READ (R210). -/
def State.logRead (s : State) (q k : Nat) : State :=
  s.run q k 0x0802 fun s c r =>
    let p := c.payload
    let e := s.ev
    let count := fld (wAt p 1) 11 0
    let addr := (join64 (wAt p 2) (wAt p 3)).toNat
    if count = 0 || 2048 < count || fld (wAt p 1) 15 12 ≠ 0 || fld (wAt p 1) 31 17 ≠ 0 || addr % 64 ≠ 0 then
      s.finish r stBadParam []
    else
      let w := if wAt p 0 = 0xFFFFFFFF then e.rd else wAt p 0
      let d := (e.wr - w).toNat
      if d = 0 || 2 ^ 31 < d then s.finish r stOK [0, w, 0]
      else
        let want := min count d
        let lost := min want (d - min d e.log.length)
        let first := w + mkW lost
        let moved := want - lost
        let s1 := if moved = 0 then s else s.put (.dma addr (s.logBytes first moved))
        let next := first + mkW moved
        let s2 := if bit (wAt p 1) 16 && 0 < moved && (e.wr - next).toNat < (e.wr - e.rd).toNat then
            { s1 with ev := { s1.ev with rd := next } } else s1
        s2.finish r stOK [mkW moved, first, mkW lost]

/-! ### Check windows (R245 to R247) -/

/-- The code of a window's state (R245). -/
def CwSt.code : CwSt → Nat
  | .idle => 0
  | .armed => 1
  | .openw => 2
  | .pass => 3
  | .fail => 4
  | .aborted => 5

/-- The result of CHECK_WINDOW_SET (R246). -/
def cwResult (w : CheckWin) : List Word := [mkW (w.st.code + if w.shadow.isSome then 256 else 0)]

/-- DISARM (R246): IDLE, or ABORTED from OPEN; any shadow is discarded. -/
def State.cwDisarm (s : State) (i : Nat) : State :=
  let w := s.win i
  let st := if w.st = .openw then CwSt.aborted else .idle
  (s.setWin i { w with st := st, shadow := none }).cwEnd (i / 4) st

/-- CHECK_WINDOW_SET (R246, R247). -/
def State.checkWindowSet (s : State) (q k : Nat) : State :=
  s.run q k 0x0803 fun s c r =>
    let p := c.payload
    let w0 := wAt p 0
    let i := 4 * fld w0 4 0 + fld w0 9 8
    let tick := fld (wAt p 3) 29 0
    let start := mkTime ((wAt p 1).toNat + 2 ^ 32 * fld (wAt p 2) 15 0) tick 0
    if fld w0 7 5 ≠ 0 || fld w0 15 10 ≠ 0 || fld w0 31 17 ≠ 0 then s.finish r stBadParam []
    else if bit w0 16 then
      let s1 := s.cwDisarm i
      s1.finish r stOK (cwResult (s1.win i))
    else if fld (wAt p 2) 31 16 ≠ 0 || fld (wAt p 3) 31 30 ≠ 0 || 800000000 ≤ tick || wAt p 4 = 0 ||
        start < s.now + usec 20 then s.finish r stBadParam []
    else
      let w := s.win i
      let x : CwSet := ⟨start, (wAt p 4).toNat, wAt p 5⟩
      if w.shadow.isSome then s.finish r stBusy []
      else
        let w' := if w.st = .openw then { w with shadow := some x }
          else { w with st := .armed, cur := x, done := 0, crc := 0, underrun := false, missed := false }
        (s.setWin i w').finish r stOK (cwResult w')

/-- CHECK_WINDOW_CLOSE: a window that has covered its codes takes its shadow at the sample presented at `t` (R247). -/
def State.cwClose (s : State) (i t : Nat) : State :=
  let w := s.win i
  let w' := cwShadow w t
  if w' = w then s else (s.setWin i w').cwEnd (i / 4) w'.st

/-- CHn_CW_STATUS_k (R251). -/
def cwStatus (w : CheckWin) : Word :=
  putF w.st.code 0 ||| bitW w.shadow.isSome 4 ||| bitW w.underrun 5 ||| bitW w.missed 6

/-! ### DACs (R258 to R263) -/

/-- The code of a protection state in the error log. -/
def Prot.code : Prot → Nat
  | .normal => 0
  | .off => 1
  | .retry => 2
  | .fenced => 3

/-- MIDSCALE_RAMP_END (R258). -/
def State.rampEnd (s : State) (d : Nat) : State :=
  match (s.dac d).mode with
  | .ramp _ _ _ => s.modDac d fun x => { x with mode := .mid, code := 0 }
  | _ => s

/-- DAC_REF_READY (R260): the clamps are released; a DAC with a running source takes it at the next turn boundary. -/
def State.dacRefReady (s : State) : State :=
  if s.running 6 && !s.rb .DAC_STATUS 0 0 1 then
    (List.range 32).foldl (fun s d =>
      if (s.dacGroup d).isSome && (s.dac d).mode = .mid then s.modDac d fun x => { x with waiting := true } else s)
      (s.wrb .DAC_STATUS 0 0 1 true)
  else s

/-- RANGE_CHANGE_HOLD_END (R254). -/
def State.rangeHoldEnd (s : State) (d : Nat) : State :=
  if (s.dac d).hold.isSome then s.modDac d fun x => { x with hold := none } else s

/-- Two consecutive overs-limit readings of a DAC (R262). -/
def State.dacTrip (s : State) (d : Nat) : State :=
  match (s.dac d).prot with
  | .normal =>
    let s1 := s.modDac d fun x => { x with prot := .off, overs := 0, retryAt := s.now + msec 1 }
    (s1.bump .DAC_CNT_SHORT_d d).logErr 0 7 d 0x0009 0xFF 1 0
  | .retry =>
    let s1 := s.modDac d fun x => { x with prot := .fenced, overs := 0 }
    ((s1.bump .DAC_CNT_FENCE_d d).lasting 7 d 0x0009 0xFF 3 0).irqIf .DAC_CTL 0 0
  | _ => s

/-- One reading of a DAC's sense tap (R261, R262). -/
def State.dacSense (s : State) (d : Nat) (overs : Bool) : State :=
  let x := s.dac d
  if x.prot = .normal || x.prot = .retry then
    if !overs then (if x.overs = 0 then s else s.setDac d { x with overs := 0 })
    else if x.overs = 0 then s.setDac d { x with overs := 1 }
    else s.dacTrip d
  else s

/-- I_LIM of a DAC in µA (R265); ILIM 3 is no level. -/
def State.ilim (s : State) (d : Nat) : Option Nat :=
  match s.rf .DAC_CFG_d d 0 5 4 with
  | 0 => some 10000
  | 1 => some 20000
  | 2 => some 40000
  | _ => none

/-- A reading is over limit: either leg carries at least 90 % of I_LIM (R261). -/
def State.overLimit (s : State) (d legP legN : Nat) : Bool :=
  match s.ilim d with
  | some l => 9 * l ≤ 10 * max legP legN
  | none => false

/-- MONITOR_SLOT of frame `f` on guard unit 14 or 15: the currents of the two legs of the DAC whose turn it is, in µA (R261, R292, R293). -/
def State.monitorSlot (s : State) (u15 : Bool) (f legP legN : Nat) : State :=
  let u := if u15 then 15 else 14
  let d := (u - 14) * 16 + f % 16
  if s.counting && (s.adc u).refReady then s.dacSense d (s.overLimit d legP legN) else s

/-- DAC_RETRY: OFF ends after 1 ms (R262). -/
def State.dacRetry (s : State) (d : Nat) : State :=
  let x := s.dac d
  if x.prot = .off then (s.reach x.retryAt).setDac d { x with prot := .retry, overs := 0 } else s

/-- DAC_RETRY_PASSED (R262). -/
def State.dacRetryPassed (s : State) (d : Nat) : State :=
  let x := s.dac d
  if x.prot = .retry then (s.setDac d { x with prot := .normal, overs := 0 }).transient 7 d 0x0009 0xFF 0 0 else s

/-- A fenced DAC returns to NORMAL at mid-scale and waits for its group's next turn boundary (R263). -/
def State.dacUnfence (s : State) (d : Nat) : State :=
  let x := s.dac d
  if x.prot = .fenced then
    s.setDac d { x with prot := .normal, overs := 0, mode := .mid, code := 0, hold := none, waiting := (s.dacGroup d).isSome }
  else s

/-- A write to DAC_FENCE_CLR: the bits that name a fenced DAC act. -/
def State.dacFenceClr (s : State) (v : Word) : State :=
  (List.range 32).foldl (fun s d => if bit v d then s.dacUnfence d else s) s

/-- A bit of a write to DAC_FENCE_CLR names a DAC that is not FENCED (R263). -/
def State.dacClrBad (s : State) (v : Word) : Bool :=
  (List.range 32).any fun d => bit v d && (s.dac d).prot ≠ .fenced

/-- DAC_MIDSCALE (R258, R264). -/
def State.dacMidscale (s : State) (d : Nat) : Bool := (s.dac d).mode = .mid || !s.dacReady

/-! ### Pattern lanes, pairs and markers (R267 to R274) -/

/-- One lane takes a step bit (R267, R272, R273). -/
def State.laneStep (s : State) (g seg k n : Nat) : State :=
  if (dMask (s.segDesc seg)).getLsbD n && s.laneGroup n = g && s.rf .PAT_LANE_n n 0 2 1 = 0 && s.pinRuns n &&
      (s.pin n).ovr.isNone then
    s.modPin n fun p => { p with level := some (s.patBit seg n k) }
  else s

/-- PATTERN_STEP of a group: the next step of its P segment falls due, or is absent (R267, R268): by
itself, with the frame of the last edge (R19, R20), or with a segment that is no longer VALID (R142). -/
def State.patternStep (s : State) (g : Nat) (absent : Bool) : State :=
  match (s.grp g).pat with
  | some (seg, t0, k) =>
    let d := s.segDesc seg
    if s.groupDrives g && k < dCount d then
      let t := t0 + ticks (k * dFine d)
      let s1 := (s.reach t).modGrp g fun x => { x with pat := some (seg, t0, k + 1) }
      if absent || (s1.grp g).patLost || s1.segSt seg ≠ .valid then s1.underrun g 4 none
      else ((List.range 64).foldl (fun s n => s.laneStep g seg k n) s1).settlePairs t
    else s
  | none => s

/-- PAIR_MAKE: the dead time of pair `k` ends and the waiting lane goes high (R271). -/
def State.pairMake (s : State) (k : Nat) : State :=
  let x := s.pair k
  match x.due with
  | some t =>
    let y := if x.makeA then { x with a := true, due := none } else { x with b := true, due := none }
    (s.reach t).setPair k y
  | none => s

/-- MARKER_END (R274). -/
def State.markerEnd (s : State) (m : Nat) : State :=
  let x := s.mrk m
  if x.high then (s.reach x.until_).mkLow m else s

/-- PIN_MISMATCH at the eighth tick `t` (R276, R277). -/
def State.pinMismatch (s : State) (n t : Nat) : State :=
  let x := s.pin n
  if (s.pinLevel n).isSome && x.keeper.isNone && !x.prot.isOff then
    let s1 := ((s.reach t).bump .PAT_CNT_MISM_n n).event (srcOf 7 n) (t / 256 * 256) none 0
    let s2 := match x.prot with
      | .normal =>
        (s1.modPin n fun p => { p with prot := .off, retryAt := s1.now + msec 1 }).logErr 0 8 n 0x0009 0xFF 1 0
      | _ =>
        let s3 := (s1.modPin n fun p => { p with prot := .fenced }).bump .PAT_CNT_FENCE_n n
        (s3.lasting 8 n 0x0009 0xFF 3 0).irqIf .PAT_CTL 0 0
    s2.settlePairs s2.now
  else s

/-- PIN_RETRY: OFF ends after 1 ms (R277). -/
def State.pinRetry (s : State) (n : Nat) : State :=
  let x := s.pin n
  if x.prot = .off then
    let s1 := (s.reach x.retryAt).setPin n { x with prot := .retry }
    s1.settlePairs s1.now
  else s

/-- PIN_RETRY_PASSED (R277, R278). -/
def State.pinRetryPassed (s : State) (n : Nat) : State :=
  let x := s.pin n
  if x.prot = .retry then
    let s1 := (s.setPin n { x with prot := .normal }).transient 8 n 0x0009 0xFF 0 0
    s1.settlePairs s1.now
  else s

/-- A write to PAT_FENCE_CLR for the 32 pins from `lo` (R278). -/
def State.patFenceClr (s : State) (lo : Nat) (v : Word) : State :=
  let s1 := (List.range 32).foldl (fun s i =>
    if bit v i && (s.pin (lo + i)).prot = .fenced then s.modPin (lo + i) fun p => { p with prot := .normal } else s) s
  s1.settlePairs s1.now

/-- A bit of a write to PAT_FENCE_CLR names a pin that is not FENCED (R278). -/
def State.patClrBad (s : State) (lo : Nat) (v : Word) : Bool :=
  (List.range 32).any fun i => bit v i && (s.pin (lo + i)).prot ≠ .fenced

/-- A write to PAT_OVR_CLR for the 32 lanes from `lo` (R272): a lane that its group has given a level keeps the level it drove (R268). -/
def State.patOvrClr (s : State) (lo : Nat) (v : Word) : State :=
  let s1 := (List.range 32).foldl (fun s i =>
    let p := s.pin (lo + i)
    if bit v i && p.ovr.isSome then s.setPin (lo + i) { p with level := if p.level.isSome then p.ovr else none, ovr := none } else s) s
  s1.settlePairs s1.now

/-- EN of a pin is written (R269). -/
def State.pinEnable (s : State) (n : Nat) (on : Bool) : State :=
  let s1 := s.wrb .PAT_LANE_n n 0 0 on
  let s2 := if on then s1.startPin n else s1.stopPin n
  s2.settlePairs s2.now

/-- EN of a marker is written (R274). -/
def State.markerEnable (s : State) (m : Nat) (on : Bool) : State :=
  let s1 := s.wrb .PAT_MK_m m 0 0 on
  if on then s1 else s1.mkLow m

/-- PAT starts or stops (R274, R279): pins whose EN is 1 start with it. -/
def State.patEnable (s : State) (on : Bool) : State :=
  if on then
    if s.running 7 then s
    else
      let s1 := (List.range 64).foldl (fun s n => if s.rb .PAT_LANE_n n 0 0 then s.startPin n else s) (s.setRunning 7 true)
      s1.settlePairs s1.now
  else
    let s1 := (List.range 16).foldl (fun s m => s.mkLow m) s
    let s2 := (List.range 64).foldl (fun s n => if (s.pin n).en then s.stopPin n else s) (s1.setRunning 7 false)
    s2.settlePairs s2.now

/-- BIN starts or stops (R281). -/
def State.binEnable (s : State) (on : Bool) : State :=
  let was := s.running 8
  let s1 := s.setRunning 8 on
  if on = was then s1
  else (List.range 32).foldl (fun s n =>
    if s.rb .BIN_CFG_n n 0 31 then (if on then s.binBegin n else s.binEnd n) else s) s1

end Sys2Proof.Machine
end

