-- ==== Sys2Proof/Machine/Groups.lean ====
section
/-!
DEFINITION. The commands of the groups (R161, R168 to R199, R228, R230, R237, R240, R242, R364, R375, R438, R445): tables,
arming, starting, stopping, staging and jumps, and the enable of a group.
-/
namespace Sys2Proof.Machine

/-! ### Table entries (R169 to R171) -/

/-- The highest slot of a SLOT_MASK. -/
def topSlot (mask : Nat) : Nat := (List.range 8).foldl (fun a j => if mask.testBit j then j else a) 0

/-- A table entry is valid (R171). -/
def entryValid (e : List Word) : Bool :=
  let kind := eDurKind e
  let w1 := wAt e 1
  let w2 := wAt e 2
  let w3 := wAt e 3
  fld (wAt e 0) 31 28 = 0 && fld (wAt e 4) 15 10 = 0 && fld (wAt e 5) 31 30 = 0 &&
    eSeg e + topSlot (eMask e) ≤ 16383 && !((eMask e).testBit 0 && eSeg e = 0 && eMask e ≠ 1) &&
    (if kind < 2 then !(w1 = 0 && w2 = 0) && fld w3 15 0 = 0
      else if kind = 2 then w1.toNat < 800000000 && eRepeat e = 0
      else w1 = 0 && w2 = 0 && w3 = 0) &&
    (!ePatEn e || ePseg e ≠ 0)

/-- The entries of a TABLE_WRITE payload. -/
def payloadEntries (p : List Word) (n : Nat) : List (List Word) := (List.range n).map fun i => (p.drop (2 + 8 * i)).take 8

/-- Entries with the numbers they are written to. -/
def numbered (first : Nat) (es : List (List Word)) : List (Nat × List Word) :=
  (List.range es.length).map fun i => (first + i, es.getD i [])

/-- TABLE_WRITE (R189, R190). -/
def State.tableWrite (s : State) (q k : Nat) : State :=
  s.run q k 0x0401 fun s c r =>
    let p := c.payload
    let w0 := wAt p 0
    let g := fld w0 2 0
    let first := fld w0 25 16
    let n := fld (wAt p 1) 6 0
    let es := payloadEntries p n
    if fld w0 15 3 ≠ 0 || fld w0 31 26 ≠ 0 || fld (wAt p 1) 31 7 ≠ 0 || n = 0 || 1024 < first + n ||
        !es.all entryValid then s.finish r stBadParam []
    else if !s.grpRunning g then
      ((numbered first es).foldl (fun s x => s.setEntry g x.1 x.2) s).finish r stOK [mkW n]
    else if !es.all (s.entryOk g) then s.finish r stNotReady []
    else if !(s.grp g).openSet.fits 0 n then s.finish r stBadParam []
    else if s.hold g then (s.addition g [] (numbered first es) none none).finish r stOK [mkW n]
    else s.addition g [] (numbered first es) (some r) (some [mkW n])

/-! ### Arming and starting (R191, R192) -/

/-- The channels that belong to a group: EN 1 and GROUP (R228). -/
def State.members (s : State) (g : Nat) : List Nat := (List.range 32).filter fun c => s.chEn c && s.chGroup c = g

/-- Two channels of a group share a slot (R230). -/
def State.slotsShared (s : State) (g : Nat) : Bool :=
  (s.members g).any fun c => (s.members g).any fun d => c ≠ d && s.chSlot c = s.chSlot d

/-- A route to a DAC is enabled from a channel of the group (R260). -/
def State.dacRouted (s : State) (g : Nat) : Bool :=
  (List.range 32).any fun d => match s.dacSrc d with
    | some c => (s.members g).contains c
    | none => false

/-- The set and the window that a group's gambit uses (R375, R394). -/
def State.gwin (s : State) (g : Nat) : Nat × Nat := (s.rf .MEM_GWIN_g g 0 2 0, s.rf .MEM_GWIN_g g 0 10 8)

/-- A group's window may be used (R375). -/
def State.gwinReady (s : State) (g : Nat) : Bool :=
  let w := s.gwin g
  s.rb .MEM_GWIN_g g 0 31 && s.setReady w.1 && s.owner w.1 = 2 &&
    (List.range 8).all fun h => h = g || !s.rb .MEM_GWIN_g h 0 31 || s.gwin h ≠ w

/-- A group that follows another group follows a running one (R112, R168, R191). -/
def State.leaderRuns (s : State) (g : Nat) : Bool := s.bindMode g ≠ 1 || (s.grp (s.bindLeader g)).st.isRunning

/-- FMIN lies above FMAX in the limits in effect (R106). -/
def State.limitsBad (s : State) (g : Nat) : Bool := decide ((s.limits g).2 < (s.limits g).1)

/-- A condition input that is enabled names no source (R203). -/
def State.condBad (s : State) (g : Nat) : Bool :=
  (List.range 32).any fun i => s.rb .EVT_COND_g_i g i 31 && !srcValid (s.rf .EVT_COND_g_i g i 12 0)

/-- The fallback segment is an on-chip C segment (R445); segment 0 is one (R141). -/
def State.fallbackKind (s : State) (g : Nat) : Bool :=
  let d := s.segDesc (s.rf .Gn_FALLBACK g 0 13 0)
  dLoc d && dKind d = 0

/-- A chain-bound group is refused by the census (R364). -/
def State.censusBad (s : State) (g : Nat) : Bool :=
  s.chainBound g && !(s.chn.censusOk &&
    s.epoch = s.rd64 .CHN_CENSUS_EPOCH_LO .CHN_CENSUS_EPOCH_HI 0)

/-- What refuses an arm and a start alike (R106, R130, R364, R429, R453). -/
def State.armStartRefused (s : State) (q g : Nat) : Option Nat :=
  if s.err.safe || (q < 8 && s.rb .MGT_CTL 0 0 1) then some stBusy
  else if s.chainBound g && s.chn.excluded then some stExcluded
  else if s.censusBad g then some stCensus
  else if !s.clkParam g || s.limitsBad g then some stBadParam
  else if !s.clkReady g then some stNotReady
  else none

/-- Another queue's GROUP_ARM, GROUP_START or FORCE_JUMP was granted for the group at this instant (R468). -/
def State.claimed (s : State) (q g : Nat) : Bool :=
  match (s.grp g).claim with
  | some c => c.1 = s.now && c.2 ≠ q
  | none => false

/-- Why GROUP_ARM of start entry `e` is refused. -/
def State.armRefused (s : State) (q g e : Nat) : Option Nat :=
  let x := s.grp g
  let fb := s.rf .Gn_FALLBACK g 0 13 0
  if bit s.err.gfenced g then some stFenced
  else if x.st = .disabled || !s.rb .Gn_CTL g 0 0 then some stNotReady
  else if (x.st ≠ .stopped && x.st ≠ .armed) || x.armCmd.isSome || s.claimed q g then some stBusy
  else match s.armStartRefused q g with
    | some st => some st
    | none =>
      if s.condBad g || s.slotsShared g || !s.fallbackKind g || 6 ≤ (s.gwin g).2 ||
          (s.members g).any fun c => sint (s.rd .CHn_CLIP_HI c) < sint (s.rd .CHn_CLIP_LO c) then some stBadParam
      else if !s.leaderRuns g || s.segSt fb ≠ .valid || !s.running 5 || (s.dacRouted g && !s.dacReady) ||
          !s.gwinReady g || !s.entryOk g (s.entry g e) then some stNotReady
      else none

/-- A group whose start entry is held is ARMED (R191). -/
def State.armed (s : State) (g : Nat) : State :=
  let x := s.grp g
  if s.err.safe then (s.setGrp g { x with armCmd := none }).finishOpt x.armCmd stBusy []
  else
    let s1 := if x.st.isRunning then s else s.chansArm g
    (s1.modGrp g fun y => { y with st := if y.st.isRunning then y.st else .armed, armCmd := none }).finishOpt x.armCmd stOK []

/-- GROUP_ARM (R191). -/
def State.groupArm (s : State) (q k : Nat) : State :=
  s.run q k 0x0402 fun s c r =>
    let w0 := wAt c.payload 0
    let g := fld w0 2 0
    let e := fld w0 25 16
    if fld w0 15 3 ≠ 0 || fld w0 31 26 ≠ 0 then s.finish r stBadParam []
    else match s.armRefused r.q g e with
      | some st => s.finish r st []
      | none =>
        let s1 := s.modGrp g fun x => { x with startEntry := e, armCmd := some r, held := [], claim := some (s.now, r.q) }
        if eSynth (s1.entry g e) then s1.armed g else s1

/-- Why GROUP_START is refused for its binding (R111, R112, R118). -/
def State.bindRefused (s : State) (g : Nat) : Option Nat :=
  let m := s.bindMode g
  let l := s.bindLeader g
  if 4 ≤ m || (s.folEn g && (m = 1 || m = 3)) then some stBadParam
  else if m = 1 && (s.bindMode l = 1 || l = g || s.grpPll l ≠ s.grpPll g || s.grpN l ≠ s.grpN g) then some stBadParam
  else if !s.leaderRuns g then some stNotReady
  else none

/-- GROUP_START (R189, R192). -/
def State.groupStart (s : State) (q k : Nat) : State :=
  s.run q k 0x0403 fun s c r =>
    let p := c.payload
    let w0 := wAt p 0
    let g := fld w0 2 0
    let tick := fld (wAt p 3) 29 0
    let at_ := bit w0 8
    let t := if at_ then mkTime ((wAt p 1).toNat + 2 ^ 32 * fld (wAt p 2) 15 0) tick 0 else s.now + usec 20
    if fld w0 7 3 ≠ 0 || fld w0 31 9 ≠ 0 || fld (wAt p 2) 31 16 ≠ 0 || fld (wAt p 3) 31 30 ≠ 0 || 800000000 ≤ tick then
      s.finish r stBadParam []
    else if s.err.safe || (r.q < 8 && s.rb .MGT_CTL 0 0 1) || s.claimed r.q g then s.finish r stBusy []
    else if (s.grp g).st ≠ .armed then s.finish r stNotReady []
    else match s.armStartRefused r.q g, s.bindRefused g with
      | some st, _ => s.finish r st []
      | none, some st => s.finish r st []
      | none, none =>
        if at_ && t < s.now + usec 20 then s.finish r stBadParam []
        else (s.modGrp g fun x => { x with st := .waiting, startAt := t, startCmd := some r, claim := some (s.now, r.q) }).lanesStart g

/-! ### Stopping (R189, R193) -/

/-- GROUP_STOP (R193). A group that presents no samples stops at once; the time its next sample would have had is then no value
that the manual gives. -/
def State.groupStop (s : State) (q k : Nat) : State :=
  s.run q k 0x0404 fun s c r =>
    let w0 := wAt c.payload 0
    let g := fld w0 2 0
    let mode := fld w0 9 8
    if fld w0 7 3 ≠ 0 || fld w0 31 10 ≠ 0 || mode = 3 then s.finish r stBadParam []
    else
      let x := s.grp g
      if x.st.plays then
        s.setGrp g { x with st := .stopping, stops := x.stops ++ [{ mode := mode, cmd := some r, disable := false }] }
      else
        let s1 := if x.st.isRunning then s.stopGroup g s.now true else s
        let n := s1.draw
        n.2.finish r stOK (timeWords (Config.openTime n.1))

/-- EN of a group is written (R72, R168, R193). -/
def State.groupEnable (s : State) (g : Nat) (on : Bool) : State :=
  if s.rb .Gn_CTL g 0 0 = on then s
  else
    let s1 := (s.wrb .Gn_CTL g 0 0 on).slackRestart
    let x := s1.grp g
    if on then (if x.st = .disabled then s1.setGrp g { x with st := .stopped } else s1)
    else if x.st.plays then s1.setGrp g { x with st := .stopping, stops := x.stops ++ [{ mode := 2, cmd := none, disable := true }] }
    else if x.st.isRunning then s1.stopGroup g s1.now true
    else (s1.setGrp g { x with st := .disabled, armCmd := none }).finishOpt x.armCmd stNotReady []

/-! ### Staging (R182, R183, R189, R190) -/

/-- A route write would move a DAC from a channel of a running group to a channel of another group (R242). -/
def State.routeMoves (s : State) (w : Nat × Word) : Bool :=
  match RegId.at? w.1 with
  | some (.OUT_DAC_SRC_d, d, _) =>
    match s.dacSrc d with
    | some c => bit w.2 31 && s.chEn c && s.grpRunning (s.chGroup c) && s.chGroup (fld w.2 4 0) ≠ s.chGroup c
    | none => false
  | _ => false

/-- REF_GAIN 1 would take effect at once for a DAC without permission (R253). -/
def State.gainDenied (s : State) (w : Nat × Word) : Bool :=
  match RegId.at? w.1 with
  | some (.DAC_CFG_d, d, _) => bit w.2 0 && !s.rb .DAC_X2_PERMIT 0 0 d
  | _ => false

/-- A pair for DAC_CFG_d changes ILIM (R265). -/
def State.ilimMoves (s : State) (w : Nat × Word) : Bool :=
  match RegId.at? w.1 with
  | some (.DAC_CFG_d, d, _) => decide (fld w.2 5 4 ≠ s.rf .DAC_CFG_d d 0 5 4)
  | _ => false

/-- A change of ILIM in a STAGE is ignored, counted and refused while LOCK_DAC is set, and while the DAC block runs (R74, R265). -/
def State.ilimDenied (s : State) (w : Nat × Word) : Option (Nat × Nat) :=
  if !s.ilimMoves w then none
  else if s.rb .SYS_LOCK 0 0 RegId.DAC_CFG_d.row.lockBit then some (2, stLocked)
  else if s.running 6 then some (1, stEnabled) else none

/-- ILIM of DAC_CFG_d is no staged field: it takes its value at once (R265). -/
def State.applyIlim (s : State) (w : Nat × Word) : State :=
  if s.ilimMoves w then
    match RegId.at? w.1 with
    | some (r, d, j) => s.wr r d j (blend 0x30 (s.rd r d j) w.2)
    | none => s
  else s

/-- An offset is a staged field that a group owns (R190). -/
def State.ownedBy (s : State) (g : Nat) (w : Nat × Word) : Bool :=
  match RegId.at? w.1 with
  | some ref => ref.1.row.cls = .staged && s.stagedOwner ref w.2 = some g
  | none => false

/-- A step that takes effect while its group is stopped is consumed at once (R119). -/
def State.dropStep (s : State) (off : Nat) : State :=
  match RegId.at? off with
  | some (.Gn_ASTEP_LO, g, _) | some (.Gn_ASTEP_HI, g, _) => s.wr64 .Gn_ASTEP_LO .Gn_ASTEP_HI g 0
  | _ => s

/-- A staged write takes effect at once (R77). -/
def State.applyOne (s : State) (w : Nat × Word) : State := (s.applyStaged w.1 w.2).dropStep w.1

/-- The staged writes of one addition take effect at once (R77, R106). -/
def State.applyNow (s : State) (ws : List (Nat × Word)) : State := ws.foldl (fun s w => s.confineAt w.1) (ws.foldl State.applyOne s)

/-- A STAGE that would release a set of a running group in which an entry names a segment that is not VALID (R161). DEDUCED: no staged
field names a segment, so a STAGE names those of the set that it releases. -/
def State.stageNames (s : State) (g : Nat) : Bool :=
  s.grpRunning g && (s.grp g).openSet.names.any fun i => s.segSt i ≠ .valid

/-- STAGE (R161, R182, R190). -/
def State.stage (s : State) (q k : Nat) : State :=
  s.run q k 0x0405 fun s c r =>
    let w0 := wAt c.payload 0
    let g := fld w0 2 0
    let rel := bit w0 8
    let ws := pairsFrom 1 c.payload
    if fld w0 7 3 ≠ 0 || fld w0 31 9 ≠ 0 || !ws.all (s.ownedBy g) then s.finish r stBadParam []
    else match ws.find? s.routeMoves with
      | some _ => (s.bump .OUT_CNT_ROUTE_REJ).finish r stEnabled []
      | none =>
      match ws.findSome? fun w => (s.ilimDenied w).map fun y => (w, y) with
      | some (w, y) => (s.ignored (RegId.at? w.1) w.1 y.1 w.2 y.2).finish r y.2 []
      | none =>
        if !s.grpRunning g then
          match ws.find? s.gainDenied with
          | some w => (s.ignored (RegId.at? w.1) w.1 2 w.2 stLocked).finish r stLocked []
          | none =>
            let n := s.draw
            let s1 := ws.foldl State.applyIlim s
            let s2 := ws.foldl State.applyIlim n.2
            if rel then (s2.applyNow ws).finish r stOK (timeWords (Config.openTime n.1)) else (s1.applyNow ws).finish r stOK []
        else if !(s.grp g).openSet.fits ws.length 0 then s.finish r stBadParam []
        else if rel && s.stageNames g then s.finish r stNotReady []
        else
          let s1 := ws.foldl State.applyIlim s
          if rel then
            (s1.modGrp g fun x => { x with openSet := { x.openSet with writes := x.openSet.writes ++ ws } }).releaseSet g (some r) none
          else if s.hold g then (s1.addition g ws [] none none).finish r stOK []
          else s1.addition g ws [] (some r) (some [])

/-- COMMIT (R190). -/
def State.commit (s : State) (q k : Nat) : State :=
  s.run q k 0x0406 fun s c r =>
    let w0 := wAt c.payload 0
    let g := fld w0 2 0
    if fld w0 31 3 ≠ 0 then s.finish r stBadParam []
    else if (s.grp g).openSet.isEmpty then s.finish r stOK (timeWords (s.grp g).lastCommit)
    else s.releaseSet g (some r) none

/-- Gn_STAGE_CTL would release a set while four are released (R183). -/
def State.holdBlocked (s : State) (g : Nat) (v : Word) : Bool :=
  s.hold g && !bit v 0 && !bit v 1 && !(s.grp g).openSet.isEmpty && 4 ≤ (s.grp g).released.length

/-- A write to Gn_STAGE_CTL: DISCARD empties the open set; HOLD written to 0 releases it (R182, R198). -/
def State.stageCtl (s : State) (g : Nat) (v : Word) : State :=
  let s1 := if bit v 1 then s.modGrp g fun x => { x with openSet := {} } else s
  let was := s1.hold g
  let s2 := s1.wrb .Gn_STAGE_CTL g 0 0 (bit v 0)
  if was && !bit v 0 && !(s2.grp g).openSet.isEmpty then s2.releaseSet g none none else s2

/-! ### Jumps and held targets (R178 to R181, R194) -/

/-- FORCE_JUMP (R194). -/
def State.forceJump (s : State) (q k : Nat) : State :=
  s.run q k 0x0407 fun s c r =>
    let w0 := wAt c.payload 0
    let g := fld w0 2 0
    let x := s.grp g
    if fld w0 7 3 ≠ 0 || fld w0 15 9 ≠ 0 || fld w0 31 26 ≠ 0 then s.finish r stBadParam []
    else if s.err.safe || x.st ≠ .running || x.episode.isSome || s.claimed r.q g then (s.bump .Gn_CNT_FORCE_REJ g).finish r stBusy []
    else s.setGrp g { x with claim := some (s.now, r.q), trigs := x.trigs ++
      [{ idx := 0, target := fld w0 25 16, earliest := s.now / 256 * 256 + ticks 40, seamless := bit w0 8, ev := none
         cmd := some r, delayed := false, heldAt := none }] }

/-- An entry may be held: its segments may be played, and its points fit its region (R161, R179). -/
def State.holdable (s : State) (g : Nat) (w : List Word) : Bool := s.entryOk g w && s.entryFits g w

/-- TARGET_HELD: at `t` the gambit holds entry `e`, in effect and as released sets change it, in its regions of a group (R179 to R181,
R187, R191, R448), and for the jumps and FORCE_JUMPs to it. -/
def State.targetHeld (s : State) (g e t : Nat) : State :=
  let s1 := s.reach t
  let x := s1.grp g
  let rs := (((s1.wants g).filter fun p => p.1 = e && s1.holdable g p.2.2).map fun p => heldRec p.2.1 p.2.2).filter fun h => !x.held.contains h
  let s2 := s1.setGrp g { x with held := x.held ++ rs }
  if !s1.holdable g (s1.entry g e) then s2
  else
    let s3 := s2.modGrp g fun x => { x with
      trigs := x.trigs.map fun z => if z.target = e && z.heldAt.isNone then { z with heldAt := some t } else z
      dueHeld := if (x.fb || x.episode.isSome) && x.due = e && x.dueHeld.isNone then some t else x.dueHeld }
    if x.armCmd.isSome && x.startEntry = e && !x.st.plays then s3.armed g else s3

/-! ### Steps of the sequencer as commands (R177) -/

/-- A decision for the next sample of a group, presented at `t`. -/
def State.atSample (s : State) (g t : Nat) (f : State → State) : State :=
  let x := s.grp g
  if x.st.plays && 1 ≤ x.n && x.times.head?.getD 0 < t && s.leaderReady g t then f (((s.svCatchUp t).reach t).foreseeStep g t) else s

/-- UNDERRUN of a group at `t` for one of the causes of R456. -/
def State.underrunAt (s : State) (g cause t : Nat) : State :=
  if 1 ≤ cause && cause ≤ 10 then (s.reach t).underrun g cause none else s

/-- Groups that a write to GFENCE_CLR names and that are not fenced (R438). -/
def State.gfenceClrBad (s : State) (m : Nat) : Bool := (List.range 8).any fun g => m.testBit g && !bit s.err.gfenced g

/-- GFENCE_CLR for the groups of a mask (R438). -/
def State.gfenceClr (s : State) (m : Nat) : State :=
  { s with err := { s.err with gfenced := s.err.gfenced &&& ~~~(mkW m) } }

end Sys2Proof.Machine
end

