-- ==== Sys2Proof/Machine/Net.lean ====
section
/-!
DEFINITION. The Ethernet ports and what they carry (R314 to R335): links, sampled-value frames, GOOSE subscriptions
and the PTP clock.
-/
namespace Sys2Proof.Machine

/-! ### Ports (R314, R315, R334) -/

/-- A port can carry frames: enabled, running and with its link up. -/
def State.netUp (s : State) (p : Nat) : Bool := (s.netp p).run && (s.netp p).link

/-- The PTP clock is enabled and NET runs, on port `p`. -/
def State.ptpOn (s : State) (p : Nat) : Bool := s.ptp.run && fld (wAt s.ptp.cfg 0) 1 0 = p

/-- Master-only role of the PTP configuration (R329). -/
def Ptp.master? (x : Ptp) : Bool := bit (wAt x.cfg 0) 8

/-- The port of the PTP configuration. -/
def Ptp.port (x : Ptp) : Nat := fld (wAt x.cfg 0) 1 0

/-- The port state that the clock has on a port that carries frames, or DISABLED (R335). -/
def State.ptpPortState (s : State) : State :=
  { s with ptp := { s.ptp with
    st := if !s.ptp.run then 0 else if !s.netUp s.ptp.port then 3 else if s.ptp.master? then 6 else 4 } }

/-- A port's LINK sets. -/
def State.ethLinkUp (s : State) (p : Nat) : State :=
  let x := s.netp p
  if x.run && !x.link then
    let s1 := s.setNetp p { x with link := true, anDone := s.rb .NET_Pp_CTL p 0 1 && s.rb .NET_Pp_CTL p 0 2 }
    if s1.ptpOn p then s1.ptpPortState else s1
  else s

/-- A port's LINK clears: counted, and interrupted where INT_LINK is 1. -/
def State.ethLinkDown (s : State) (p : Nat) : State :=
  let x := s.netp p
  if x.link then
    let s1 := ((s.setNetp p { x with link := false, anDone := false }).bump .NET_Pp_CNT_LINKDOWN p).irqIf .NET_Pp_CTL p 3
    if s1.ptpOn p then s1.ptpPortState else s1
  else s

/-- EN of a port takes effect (R315): clearing it takes the link down. -/
def State.netPortEn (s : State) (p : Nat) (on : Bool) : State :=
  if on then s.modNetp p fun x => { x with run := true }
  else (s.ethLinkDown p).modNetp p fun x => { x with run := false }

/-- A frame is received and discarded (R315, R328): an FCS or length error, or a kind that nothing takes. -/
def State.frameDiscard (s : State) (p : Nat) (err : Bool) : State :=
  if s.netUp p then
    let s1 := s.bump .NET_Pp_CNT_RX p
    if err then s1.bump .NET_Pp_CNT_RX_ERR p else s1.bump .NET_Pp_CNT_RX_DROP p
  else s

/-! ### Sampled-value streams (R316 to R322) -/

/-- svID length of a configuration. -/
def svL (cfg : List Word) : Nat := fld (wAt cfg 5) 5 0

/-- The svID bytes of a configuration. -/
def svId (cfg : List Word) : List Byte := (bytesOf ((cfg.drop 6).take 9)).take (svL cfg)

/-- V: the bytes of a VLAN tag. -/
def svV (cfg : List Word) : Nat := if bit (wAt cfg 0) 24 then 4 else 0

/-- The frame length without FCS (R318). -/
def svLen (cfg : List Word) : Nat := 33 + svV cfg + fld (wAt cfg 0) 23 20 * (83 + svL cfg)

/-- The payload of SV_CONFIG is allowed (R316). -/
def svConfigOk (p : List Word) : Bool :=
  let n := fld (wAt p 0) 23 20
  let a := fld (wAt p 2) 31 16
  let l := svL p
  !extraBits (wAt p 0) 0x03F3310F && !extraBits (wAt p 3) 0x7FFF && !extraBits (wAt p 5) 0x3F &&
    1 ≤ n && n ≤ 8 && n ≠ 7 && 0x4000 ≤ a && a ≤ 0x7FFF && 1 ≤ l && l ≤ 34 &&
    ((svId p).all fun b => 0x20 ≤ b.toNat && b.toNat ≤ 0x7E) &&
    ((bytesOf ((p.drop 6).take 9)).drop l).all fun b => b.toNat = 0

/-- The payload that a stream has or will have. -/
def SvStream.config (x : SvStream) : List Word := x.next.getD x.cfg

/-- 840 times the load of a configuration in bit/s (R316); 840 is a multiple of every NOASDU. -/
def svLoad (cfg : List Word) : Nat :=
  let x : SvStream := { cfg := cfg }
  x.rate * (840 / x.noasdu) * (svLen cfg + 24) * 8

/-- The port of a configuration. -/
def svPort (cfg : List Word) : Nat := fld (wAt cfg 0) 13 12

/-- Enabling stream `st` with a configuration keeps the load of its port at or below 90 % of the line rate. -/
def State.svLoadOk (s : State) (st : Nat) (cfg : List Word) : Bool :=
  let others := s.streams.foldl (fun a p =>
    if p.1 ≠ st ∧ p.2.en ∧ svPort p.2.config = svPort cfg then a + svLoad p.2.config else a) 0
  let rate := if s.rb .NET_Pp_CTL (svPort cfg) 0 1 then 10 ^ 9 else 10 ^ 10
  (others + svLoad cfg) * 10 ≤ rate * 9 * 840

/-- A payload takes effect: at once, or after the frame in progress. -/
def SvStream.configure (x : SvStream) (p : List Word) : SvStream :=
  let en := bit (wAt p 0) 8
  if x.run && !x.buf.isEmpty then { x with en := en, next := some p }
  else { x with en := en, cfg := p, next := none, run := false, buf := [] }

/-- SV_CONFIG (R316). -/
def State.svConfig (s : State) (q k : Nat) : State :=
  s.run q k 0x0701 fun s c r =>
    let p := c.payload
    let st := fld (wAt p 0) 3 0
    let en := bit (wAt p 0) 8
    let x := s.sv st
    if !svConfigOk p then s.finish r stBadParam []
    else if en && x.en then s.finish r stEnabled []
    else if en && !s.svLoadOk st p then s.finish r stBadParam []
    else
      let s1 := if en = x.en then s else s.slackRestart
      (s1.setSv st (x.configure p)).finish r stOK [mkW (svLen p), mkW (33 + svV p)]

/-- SV_STREAM_START (R317): at the next second boundary, once NET runs and the port is up. -/
def State.svStreamStart (s : State) (st : Nat) : State :=
  let x := s.sv st
  if x.en && !x.run && s.netOn && s.netUp (svPort x.cfg) && s.counting then
    let b := ceilDiv s.now grainsPerSec
    (s.reach (b * grainsPerSec)).setSv st { x with run := true, inst := b * x.rate, buf := [], last := [] }
  else s

/-- The 83 + L bytes of an ASDU (R318). -/
def asdu (cfg : List Word) (i : SvInst) (synch : Nat) : List Byte :=
  let l := svL cfg
  [0x30, BitVec.ofNat 8 (81 + l), 0x80, BitVec.ofNat 8 l] ++ svId cfg ++ [0x82, 2] ++ beBytes 2 i.k ++ [0x83, 4] ++
    beBytes 4 (wAt cfg 4).toNat ++ [0x85, 1, BitVec.ofNat 8 synch, 0x87, 0x40] ++
    i.q.flatMap fun v => beBytes 4 (v.1 % 2 ^ 32).toNat ++ beBytes 4 v.2

/-- A sampled-value frame without its FCS (R318). -/
def svFrameBytes (cfg : List Word) (mac : List Byte) (is : List SvInst) (synch : Nat) : List Byte :=
  let n := is.length
  let body := n * (83 + svL cfg)
  let dst := (bytesOf [wAt cfg 1, wAt cfg 2]).take 6
  let tag := if bit (wAt cfg 0) 24 then
      [0x81, 0x00] ++ beBytes 2 (fld (wAt cfg 3) 14 12 * 8192 + fld (wAt cfg 3) 11 0) else []
  dst ++ mac ++ tag ++ [0x88, 0xBA] ++ beBytes 2 (fld (wAt cfg 2) 31 16) ++ beBytes 2 (19 + body) ++
    [if bit (wAt cfg 0) 25 then 0x80 else 0, 0, 0, 0] ++ [0x60, 0x82] ++ beBytes 2 (7 + body) ++ [0x80, 1, BitVec.ofNat 8 n] ++
    [0xA2, 0x82] ++ beBytes 2 body ++ is.flatMap fun i => asdu cfg i synch

/-- The MAC address of a port. -/
def State.netMac (s : State) (p : Nat) : List Byte := (bytesOf [s.rd .NET_Pp_MAC_LO p, s.rd .NET_Pp_MAC_HI p]).take 6

/-- Values that have not reached the encoder (R322): `missing` names instant of the frame and quantity. Each is replaced by the
value of the instant before. Yields the instants to be sent. -/
def State.svFill (s : State) (st : Nat) (missing : List (Nat × Nat)) : Nat → List Int → List SvInst → List SvInst
  | _, _, [] => []
  | i, last, x :: t =>
    let q := (List.range 8).map fun j =>
      let v := x.q.getD j (0, 0)
      if missing.contains (i, j) && (s.svSource st j).isSome then
        (last.getD j 0, (s.svQuantity st j true (s.sv st).test).2) else v
    { x with q := q } :: s.svFill st missing (i + 1) (q.map fun v => v.1) t

/-- A missing quantity is an underrun of the group of its source (R322). -/
def State.svUnderruns (s : State) (st : Nat) (missing : List (Nat × Nat)) : State :=
  let gs := (missing.filterMap fun m => s.svSource st m.2).map fun c => s.rf .CHn_CTL c 0 6 4
  if gs.isEmpty then s
  else (List.range 8).foldl (fun s g => if gs.contains g then s.underrun g 3 none else s) (s.bump .NET_SV_CNT_UNDERRUN_s st)

/-- NET stops once every stream has ended its frame in progress (R72). -/
def State.netSettle (s : State) : State :=
  if s.netOn && !s.rb .SYS_EN 0 0 10 && !(s.streams.any fun p => p.2.run) then s.setRunning 10 false else s

/-- After a frame a stream goes on, or stops where it is disabled, reconfigured or NET is disabled. -/
def State.svAfter (s : State) (st : Nat) : State :=
  let x := s.sv st
  let s1 := match x.next with
    | some p => s.setSv st { x with cfg := p, next := none, run := false, buf := [] }
    | none => if x.en && s.rb .SYS_EN 0 0 10 then s else s.setSv st { x with run := false, buf := [] }
  s1.netSettle

/-- SV_FRAME (R318 to R322): after the last of NOASDU instants the frame is built and presented to its port. -/
def State.svFrame (s : State) (st : Nat) (missing : List (Nat × Nat)) : State :=
  let x := s.sv st
  if x.run then
    let n := x.noasdu
    let lastInst := x.inst - x.buf.length + n - 1
    let t := instTime x.rate lastInst
    let s1 := (s.svTo st (t + 1) n).reach t
    let y := s1.sv st
    let now := y.buf.take n
    if now.length = n then
      let is := s1.svFill st (missing.filter fun m => m.1 < n) 0 y.last now
      let synch := ((is.getLast?).map fun i => i.synch).getD 0
      let z := { y with buf := y.buf.drop n, last := ((is.getLast?).map fun i => i.q.map fun v => v.1).getD [] }
      let s2 := (s1.setSv st z).svUnderruns st (missing.filter fun m => m.1 < n)
      let p := svPort x.cfg
      let s3 := if s.netUp p then
          (((s2.put (.eth p (svFrameBytes x.cfg (s.netMac p) is synch))).bump .NET_Pp_CNT_TX p).bump .NET_SV_CNT_FRAMES_s st).wr
            .NET_SV_STATUS_s st 0 (putF synch 1)
        else s2.bump .NET_SV_CNT_DROP_s st
      s3.svAfter st
    else s
  else s

/-! ### GOOSE subscriptions (R323 to R327) -/

/-- The position of a boolean: INDEX, SUB and the reserved bits. -/
def gsPos (cfg : List Word) (b : Nat) : Nat := if b % 2 = 0 then fld (wAt cfg (5 + b / 2)) 15 0 else fld (wAt cfg (5 + b / 2)) 31 16

/-- NB of a subscription. -/
def gsNb (cfg : List Word) : Nat := fld (wAt cfg 0) 27 24

/-- The payload of GOOSE_SUB is allowed (R323). -/
def gooseSubOk (p : List Word) : Bool :=
  !extraBits (wAt p 0) 0x0F03F13F && fld (wAt p 2) 31 16 ≤ 0x3FFF && gsNb p ≤ 8 &&
    (List.range 8).all fun b => gsPos p b < 2 ^ 13

/-- GOOSE_SUB (R323, R326). -/
def State.gooseSub (s : State) (q k : Nat) : State :=
  s.run q k 0x0702 fun s c r =>
    let p := c.payload
    let d := fld (wAt p 0) 5 0
    let en := bit (wAt p 0) 8
    let x := s.gs d
    if !gooseSubOk p then s.finish r stBadParam []
    else if en && x.st ≠ 0 then s.finish r stEnabled []
    else
      let st := if en then 1 else 0
      let y := { x with cfg := p, st := st, confErr := false, bools := if en then List.replicate 8 false else x.bools }
      let s1 := if en = bit (wAt x.cfg 0) 8 then s else s.slackRestart
      (s1.setGs d y).finish r stOK [mkW st]

/-- A boolean of a frame (R326): none where the position does not exist or is not BOOLEAN. -/
def gooseBool (f : GooseFrame) (pos : Nat) : Option Bool :=
  let sub := nfld pos 12 8
  let item (x : GooseItem) : Option Bool := match x with
    | .bool n => some (n ≠ 0)
    | .other => none
  match f.members[nfld pos 7 0]?, sub with
  | some (.item x), 0 => item x
  | some (.struct l), n + 1 => (l[n]?).bind item
  | _, _ => none

/-- The booleans of a frame for a subscription. -/
def gooseBools (f : GooseFrame) (cfg : List Word) : Option (List Bool) :=
  (List.range (gsNb cfg)).mapM fun b => gooseBool f (gsPos cfg b)

/-- A frame matches a subscription (R324). -/
def GooseSub.matches (x : GooseSub) (f : GooseFrame) : Bool :=
  x.st ≠ 0 && (fld (wAt x.cfg 0) 15 12).testBit f.port.val && f.dst = (bytesOf [wAt x.cfg 1, wAt x.cfg 2]).take 6 &&
    f.appid = fld (wAt x.cfg 2) 31 16 && crc32c f.ref = wAt x.cfg 3

/-- The length of the time allowed to live (R327). -/
def gooseLive (f : GooseFrame) : Nat := msec (max 1 f.ttl)

/-- Accept a frame of subscription `d` at `t` (R325): numbers, count, time to live, booleans with events unless it is the first. -/
def State.gooseAccept (s : State) (d t : Nat) (f : GooseFrame) (bs : List Bool) (events : Bool) : State :=
  let x := s.gs d
  let old := x.bools
  let s1 := (s.setGs d { x with
    st := 2, stNum := f.stNum, sqNum := f.sqNum, expires := t + gooseLive f
    bools := bs ++ List.replicate (8 - bs.length) false }).bump .NET_GS_CNT_ACCEPT_d d
  if events then
    (List.range bs.length).foldl (fun s b =>
      let v := bs.getD b false
      if v ≠ old.getD b false then s.event (srcOf 4 (d * 8 + b)) (t / 256 * 256) (some v) (mkW f.stNum) else s) s1
  else s1

/-- Judge a frame that passed R324 (R325). -/
def State.gooseJudge (s : State) (d t : Nat) (f : GooseFrame) (bs : List Bool) : State :=
  let x := s.gs d
  let ds := (f.stNum + 2 ^ 32 - x.stNum) % 2 ^ 32
  let dq := (f.sqNum + 2 ^ 32 - x.sqNum) % 2 ^ 32
  let reject := s.bump .NET_GS_CNT_REJECT_d d
  if x.st = 1 then s.gooseAccept d t f bs false
  else if x.st = 3 then s.gooseAccept d t f bs true
  else if f.stNum = 1 ∧ f.sqNum = 0 ∧ x.stNum ≠ 1 then s.gooseAccept d t f bs true
  else if ds = 0 then
    if 1 ≤ dq ∧ dq < 2 ^ 31 then
      let s1 := s.setGs d { x with expires := t + gooseLive f }
      if (List.range bs.length).any fun b => bs.getD b false ≠ x.bools.getD b false then s1.bump .NET_GS_CNT_INCONS_d d else s1
    else reject
  else if ds < 2 ^ 31 then
    (if 1 < ds then s.bump .NET_GS_CNT_GAP_d d else s).gooseAccept d t f bs true
  else reject

/-- A matched frame is checked (R324): CONF_ERR follows its confRev while CHK_CONFREV is 1. -/
def State.gooseMatched (s : State) (d t : Nat) (f : GooseFrame) : State :=
  let x := s.gs d
  let wrong : Bool := bit (wAt x.cfg 0) 16 && decide (f.confRev ≠ (wAt x.cfg 4).toNat)
  let s1 := if f.parses && bit (wAt x.cfg 0) 16 then s.setGs d { x with confErr := wrong } else s
  match gooseBools f x.cfg with
  | some bs =>
    if !f.parses || (f.sim && !bit (wAt x.cfg 0) 17) || wrong || f.ndsCom then s1.bump .NET_GS_CNT_REJECT_d d
    else s1.gooseJudge d t f bs
  | none => s1.bump .NET_GS_CNT_REJECT_d d

/-- GOOSE_FRAME: a frame whose booleans its port presents at `t` (R324 to R326); one that matches no subscription is discarded. -/
def State.gooseFrame (s : State) (f : GooseFrame) (t : Nat) : State :=
  let p := f.port.val
  if s.netUp p then
    let s1 := (s.reach t).bump .NET_Pp_CNT_RX p
    let ds := (List.range 64).filter fun d => s.netOn && (s.gs d).matches f
    if ds.isEmpty then s1.bump .NET_Pp_CNT_RX_DROP p else ds.foldl (fun s d => s.gooseMatched d t f) s1
  else s

/-- TIME_ALLOWED_TO_LIVE_EXPIRY (R327). -/
def State.gooseExpire (s : State) (d : Nat) : State :=
  let x := s.gs d
  if x.st = 2 then
    let s1 := ((s.reach x.expires).setGs d { x with st := 3 }).bump .NET_GS_CNT_EXPIRE_d d
    s1.event (srcOf 9 d) (nextTick x.expires) none (mkW x.stNum)
  else s

/-- NET_GS_STATUS_d (R333). -/
def GooseSub.status (x : GooseSub) : Word :=
  putF x.st 0 ||| bitW x.confErr 2 ||| (flagsW (fun b => x.bools.getD b false) 8 <<< 8)

/-! ### The PTP clock (R328 to R331, R335) -/

/-- The PTP clock starts where it is enabled and NET runs. -/
def State.ptpStart (s : State) : State :=
  if bit (wAt s.ptp.cfg 0) 4 && s.netOn && !s.ptp.run then
    ({ s with ptp := { s.ptp with run := true, good := 0, bad := 0, master := none, pdelayWait := false } }).ptpPortState
  else s

/-- The PTP clock stops with NET. -/
def State.ptpStop (s : State) : State :=
  if s.ptp.run then { s with ptp := { s.ptp with run := false, st := 0, master := none, utcValid := false, pdelayWait := false } } else s

/-- PTP_CONFIG (R329). -/
def State.ptpConfig (s : State) (q k : Nat) : State :=
  s.run q k 0x0703 fun s c r =>
    let p := c.payload
    let thr := (wAt p 5).toNat
    if extraBits (wAt p 0) 0x7F011113 || extraBits (wAt p 1) 0x7FFF || extraBits (wAt p 3) 0x03FFFFFF || thr = 0 || 1000000 < thr then
      s.finish r stBadParam []
    else if bit (wAt p 0) 8 && s.rf .TB_CTL 0 0 2 0 = 2 then s.finish r stBadParam []
    else if s.rb .SYS_LOCK 0 0 7 then s.finish r stLocked []
    else if s.ptp.run then s.finish r stEnabled []
    else if bit (wAt p 0) 8 && !s.tb.timeValid then s.finish r stNotReady []
    else (({ s with ptp := { s.ptp with cfg := p } }).ptpStart).finish r stOK []

/-- Send a PTP message on the clock's port. -/
def State.ptpSend (s : State) (kind seq : Nat) : State :=
  (s.put (.ptp s.ptp.port kind seq)).bump .NET_Pp_CNT_TX s.ptp.port

/-- Send an Announce with the UTC offset of TB_UTC_OFS (R95). -/
def State.ptpSendAnnounce (s : State) (seq : Nat) : State :=
  (s.put (.announce s.ptp.port seq (s.rd .TB_UTC_OFS))).bump .NET_Pp_CNT_TX s.ptp.port

/-- One-step transmit (R328, R329). -/
def Ptp.oneStep (x : Ptp) : Bool := bit (wAt x.cfg 0) 12

/-- The PTP port takes frames: NET runs and the link of its port is up. -/
def State.ptpTakes (s : State) : Bool := s.ptp.run && s.netUp s.ptp.port

/-- An offset in grains as signed nanoseconds, saturating. -/
def offsetNs (off : Int) : Word := wordOfInt (clampI (-(2 ^ 31)) (2 ^ 31 - 1) (roundUp (off * 5) 1024))

/-- PTP_SYNC: a Sync yields an offset from master, in grains (R90, R330). -/
def State.ptpSync (s : State) (off : Int) : State :=
  if s.ptpTakes && !s.ptp.master? then
    let s0 := s.bump .NET_Pp_CNT_RX s.ptp.port
    if s.ptp.master.isSome then
      let inside : Bool := decide ((off.natAbs : Nat) ≤ nsec (wAt s.ptp.cfg 5).toNat)
      let x := s.ptp
      let y := { x with st := 9, lastSync := s.now, good := if inside then x.good + 1 else 0, bad := if inside then 0 else x.bad + 1 }
      let s1 := (({ s0 with ptp := y }).bump .NET_PTP_CNT_SYNC).wr .NET_PTP_OFFSET 0 0 (offsetNs off)
      let s2 := if 3 ≤ y.good then { s1 with ptp := { y with lock := true } } else if 3 ≤ y.bad then s1.ptpUnlock else s1
      if s.rf .TB_CTL 0 0 2 0 = 2 && s.running 0 then
        let s3 := if decide (off.natAbs < msec 1) && s2.counting then { s2 with tb := { s2.tb with timeValid := true } } else s2
        s3.correct (-off)
      else s2
    else s0
  else s

/-- PTP_ANNOUNCE (R95, R330, R331). -/
def State.ptpAnnounce (s : State) (a : Announce) : State :=
  if s.ptpTakes then
    let s0 := s.bump .NET_Pp_CNT_RX s.ptp.port
    let x := s.ptp
    if x.master? then
      ({ s0 with ptp := { x with foreign := true, foreignAt := s.now } }).bump .NET_PTP_CNT_FOREIGN
    else if a.chosen then
      let y := { x with
        master := some a.gm, lastAnnounce := s.now, utcValid := a.utcValid, st := if x.st = 9 && x.master = some a.gm then 9 else 8 }
      let s1 := (({ s0 with ptp := y }).wr .NET_PTP_GMID_LO 0 0 (lo32 a.gm.toNat)).wr .NET_PTP_GMID_HI 0 0 (hi32 a.gm.toNat)
      if s.rf .TB_CTL 0 0 2 0 = 2 then s1.wr .TB_UTC_OFS 0 0 (mkW (a.utc % 2 ^ 16 + if a.utcValid then 2 ^ 16 else 0)) else s1
    else s0
  else s

/-- PTP_PDELAY: a request is answered, or a response gives the mean peer delay in nanoseconds (R328, R331). -/
def State.ptpPdelay (s : State) (resp : Option Nat) : State :=
  if s.ptpTakes then
    let s0 := s.bump .NET_Pp_CNT_RX s.ptp.port
    match resp with
    | some ns => ({ s0 with ptp := { s0.ptp with pdelayWait := false } }).wr .NET_PTP_MPD 0 0 (mkW ns)
    | none =>
      let s1 := s0.ptpSend 4 s.ptp.seqPd
      if s.ptp.oneStep then s1 else s1.ptpSend 5 s.ptp.seqPd
  else s

/-- PTP_INTERVAL: each second a master sends Sync and Announce, and either role a Pdelay_Req (R328). -/
def State.ptpInterval (s : State) : State :=
  if s.ptpTakes then
    let x := s.ptp
    let s1 := if x.pdelayWait then s.bump .NET_PTP_CNT_PDELAY_TO else s
    let s2 := (s1.ptpSend 3 x.seqPd)
    let y := { x with pdelayWait := true, seqPd := (x.seqPd + 1) % 2 ^ 16 }
    if x.master? then
      let s3 := s2.ptpSend 0 x.seqSync
      let s4 := if x.oneStep then s3 else s3.ptpSend 1 x.seqSync
      { s4.ptpSendAnnounce x.seqAnn with ptp := { y with seqSync := (x.seqSync + 1) % 2 ^ 16, seqAnn := (x.seqAnn + 1) % 2 ^ 16 } }
    else { s2 with ptp := y }
  else s

/-- ANNOUNCE_RECEIPT_TIMEOUT: the slave loses its master (R328). -/
def State.announceTimeout (s : State) : State :=
  if s.ptp.run && s.ptp.master.isSome then
    { s with ptp := { s.ptp with master := none, utcValid := false, st := if s.ptp.st = 3 then 3 else 4 } }
  else s

/-- NET_PTP_STATUS (R335); FOREIGN lasts 3 s. -/
def State.ptpStatus (s : State) : Word :=
  let x := s.ptp
  putF x.st 0 ||| bitW x.lock 4 ||| bitW (x.foreign && s.now < x.foreignAt + msec 3000) 5 ||| bitW x.utcValid 6 ||| putF x.port 8

/-! ### The NET enable (R333) -/

/-- NET starts. -/
def State.netStart (s : State) : State := (s.setRunning 10 true).ptpStart

/-- NET stops: subscriptions go OFF, the PTP clock stops, streams end their frame in progress. -/
def State.netStop (s : State) : State :=
  let s1 := { s with subs := s.subs.map fun (p : Nat × GooseSub) => (p.1, { p.2 with st := 0 }) }
  let s2 := { s1 with streams := s1.streams.map fun (p : Nat × SvStream) =>
    (p.1, if p.2.run && p.2.buf.isEmpty then { p.2 with run := false } else p.2) }
  s2.ptpStop.netSettle

end Sys2Proof.Machine
end

