-- ==== Sys2Proof/Machine/Link.lean ====
section
/-!
DEFINITION. The links of the Gunter chain (R336 to R354): link states, flits received, acknowledgement, credits and
replay, delay and time, alignment and self-exclusion, and the records of VC2.
-/
namespace Sys2Proof.Machine

/-! ### Received flits (R338, R343) -/

/-- A port has flit lock: INIT, UP, or RETRAIN after relock. -/
def State.portLocked (s : State) (p : Nat) : Bool := let st := (s.port p).st; s.chnOn && (st = 2 || st = 3 || st = 4)

/-- One NAK with the expected number on the first flit that fails (R343). -/
def State.nakOnce (s : State) (p : Nat) : State :=
  let x := s.port p
  if x.st = 3 && !x.nakSent then (s.setPort p { x with nakSent := true }).sendCtl p tyNak (leBytes 2 (x.rxNext % 4096)) else s

/-- The flits that an ACK leaves in the replay buffer: those after the acknowledged number, where it is there. -/
def afterAck (a : Nat) (l : List TxFlit) : List TxFlit :=
  if l.any fun f => f.seq = a then (l.dropWhile fun f => f.seq ≠ a).drop 1 else l

/-- ACK and CREDIT of a flit (R338, R341, R343): replay entries are freed, credits return to their pools, and what waits is sent.
A flit acknowledged after a replay is a transient fault (R436). -/
def State.ackCredit (s : State) (p : Nat) (f : List Byte) : State :=
  let x := s.port p
  let a := leAt f 4 2
  let rest := if a / 0x8000 = 1 then afterAck (a % 4096) x.replay else x.replay
  let freed := x.replay.take (x.replay.length - rest.length)
  let cr := leAt f 6 2
  let y := { x with replay := rest, credits := (List.range 4).map fun i => x.credits.getD i 0 + cr / 16 ^ i % 16 }
  let s1 := s.setPort p y
  let s2 := if freed.any fun z => 0 < z.tries then s1.transient 12 p 0x0014 0xFF p y.st else s1
  if y.st = 3 then s2.pump p y.waiting else s2

/-- The TYPE codes of R338. -/
def tyKnown (ty : Nat) : Bool := ty ≤ 5 || ty = tyData

/-- A flit arrives on a port: one whose CRC fails or whose TYPE is unknown is discarded and counted; one of type `ty` has its ACK and
CREDIT taken and its body acted on. -/
def State.rx (s : State) (p ty : Nat) (f : List Byte) (body : State → State) : State :=
  if !s.portLocked p then s
  else if !flitOk f then (s.bump .CHN_Pp_CNT_CRC p).nakOnce p
  else if !tyKnown (leAt f 0 1) then s.bump .CHN_Pp_CNT_CRC p
  else if leAt f 0 1 ≠ ty then s
  else body (s.ackCredit p f)

/-! ### Link states (R345) -/

/-- An interrupt of a chain port: INT_DOWN with the vector of CHN_CTL. -/
def State.portIrq (s : State) (p : Nat) : State :=
  if s.rb .CHN_Pp_CTL p 0 1 then s.irq (s.rf .CHN_CTL 0 0 13 8) else s

/-- The root keeps port 0 in DOWN (R347). -/
def State.portBarred (s : State) (p : Nat) : Bool := p = 0 && s.rf .CHN_CTL 0 0 1 0 = 1

/-- SIGNAL_PRESENT: DOWN to TRAIN. -/
def State.signalPresent (s : State) (p : Nat) : State :=
  if s.chnOn && s.rb .CHN_Pp_CTL p 0 0 && (s.port p).st = 0 && !s.portBarred p then s.modPort p fun x => { x with st := 1 } else s

/-- Send INIT on a port (R339). -/
def State.sendInit (s : State) (p : Nat) : State :=
  s.sendCtl p tyInit (leBytes 2 ((if s.chn.enumerated then s.ownAddr + 0x8000 else 0)) ++ leBytes 1 p ++ [0] ++ leBytes 4 s.chn.linkInst)

/-- FLIT_LOCK: TRAIN to INIT, with sequence numbers and credits as after reset; in RETRAIN the partner is asked for its INIT. -/
def State.flitLock (s : State) (p : Nat) : State :=
  let x := s.port p
  if x.st = 1 then (s.setPort p { st := 2 : ChnPort }).sendInit p
  else if x.st = 4 then s.sendInit p
  else s

/-- The subtree of a port departs (R367): its route entries go. -/
def State.dropRoutes (s : State) (p : Nat) : State :=
  { s with chn := { s.chn with route := s.chn.route.filter fun e => e.2 ≠ p + 1 } }

/-- Commands in flight to devices beyond a port complete with UNREACHABLE (R345). -/
def State.dropForwarded (s : State) (p : Nat) : State :=
  (List.range 9).foldl (fun s q =>
    (s.q q).inflight.foldl (fun s c =>
      if c.phase = .begun && c.hdr.flags % 2 = 0 && c.hdr.dest ≠ s.ownAddr && s.routePort c.hdr.dest = some p then
        s.decide1 ⟨q, c.k⟩ stUnreachable [] s.ownAddr
      else s) s) s

/-- Runs of consecutive addresses: first and count. -/
def ranges : List Nat → List (Nat × Nat)
  | [] => []
  | a :: t =>
    match ranges t with
    | (b, n) :: r => if b = a + 1 then (a, n + 1) :: r else (a, 1) :: (b, n) :: r
    | [] => [(a, 1)]

/-- The body of a LEAVE message (R360). -/
def leaveBody (addr port : Nat) (rs : List (Nat × Nat)) : List Byte :=
  leBytes 2 addr ++ leBytes 1 port ++ [0] ++ leBytes 2 rs.length ++ [0, 0] ++ rs.flatMap fun r => leBytes 2 r.1 ++ leBytes 2 r.2

/-- The addresses of a device, its route table and its census go (R367); downstream devices hear of it by INIT. -/
def State.loseAddress (s : State) : State :=
  if s.chn.enumerated then
    let s1 := { s.wr .SYS_ADDR 0 0 0 with chn := { s.chn with enumerated := false, route := [], censusOk := false, depth := 0 } }
    s1.downUp.foldl (fun s p => s.sendInit p) s1
  else { s with chn := { s.chn with route := [], censusOk := false } }

/-- A link goes DOWN (R345, R367). -/
def State.linkDown (s : State) (p : Nat) : State :=
  let x := s.port p
  if x.st = 0 then s
  else
    let was := x.st = 3 || x.st = 4
    let s1 := if was then ((s.bump .CHN_Pp_CNT_DOWN p).portIrq p).dropForwarded p else s
    let s2 := s1.setPort p {}
    if !was then s2
    else if p = 0 then { s2.loseAddress with chn := { s2.loseAddress.chn with timed := false } }
    else
      let gone := (s2.chn.route.filter fun e => e.2 = p + 1).map fun e => e.1
      let s3 := s2.dropRoutes p
      if s3.isRoot then s3.bump .CHN_CNT_LEAVE
      else if s3.chn.enumerated then
        (List.range (max 1 (ceilDiv (ranges gone).length 1019))).foldl (fun s i =>
          s.sendInternal 0 0 0x0007 0 (leaveBody s.ownAddr p (((ranges gone).drop (1019 * i)).take 1019))) s3
      else s3

/-- The link enters RETRAIN (R344, R345). -/
def State.retrain (s : State) (p : Nat) (lasting : Bool) : State :=
  let s1 := (s.modPort p fun x => { x with st := 4 }).bump .CHN_Pp_CNT_RETRAIN p
  if lasting then s1.lasting 12 p 0x0014 0xFF p 4 else s1.logErr 0 12 p 0x0014 0xFF p 4

/-- LOSS_OF_BLOCK_LOCK: UP to RETRAIN; a link not yet UP trains anew. -/
def State.blockLoss (s : State) (p : Nat) : State :=
  let x := s.port p
  if x.st = 3 then s.retrain p false
  else if x.st = 2 then s.setPort p { x with st := 1 }
  else s

/-- RETRAIN_TIMEOUT: DOWN (R345). -/
def State.retrainTimeout (s : State) (p : Nat) : State :=
  if (s.port p).st = 4 then (s.linkDown p).lasting 12 p 0x0014 0xFF p 0 else s

/-- Resend every unacknowledged flit of a port, in order. -/
def State.resend (s : State) (p : Nat) : State :=
  (s.port p).replay.foldl (fun s f => s.sendFlit p tyData f.vcf f.seq f.body) s

/-- Replay (R344): a flit that two replays have not delivered takes the link to RETRAIN. -/
def State.replay (s : State) (p : Nat) : State :=
  let x := s.port p
  if x.st ≠ 3 || x.replay.isEmpty then s
  else if x.replay.any fun f => 2 ≤ f.tries then s.retrain p true
  else ((s.setPort p { x with replay := x.replay.map fun f => { f with tries := f.tries + 1 } }).bump .CHN_Pp_CNT_REPLAY p).resend p

/-- REPLAY_TIMEOUT: the oldest unacknowledged flit has waited 1 µs (R344). -/
def State.replayTimeout (s : State) (p : Nat) : State := s.replay p

/-- A NAK flit (R343, R344). -/
def State.nak (s : State) (p : Nat) (f : List Byte) : State := s.rx p tyNak f fun s => s.replay p

/-- A NULL flit: its ACK and CREDIT (R343). -/
def State.nullFlit (s : State) (p : Nat) (f : List Byte) : State := s.rx p tyNull f fun s => s

/-- A child without an address has reached UP: its parent reports the join to the root, or is it (R366). -/
def State.sendJoin (s : State) (p inst : Nat) : State :=
  s.sendInternal 0 0 0x0005 0 (leBytes 2 s.ownAddr ++ leBytes 1 p ++ [0] ++ leBytes 4 inst)

/-- The partner that an INIT names: address, enumerated, link instance. -/
def initPartner (f : List Byte) : Nat × Bool × Nat := (leAt f 8 2 % 0x4000, leAt f 8 2 / 0x8000 = 1, leAt f 12 4)

/-- The lowest free address (R348). -/
def lowestFree (route : KMap Nat) : Option Nat :=
  (List.range (route.length + 1)).find? fun a => (KMap.find? route a).isNone && a < 16384

/-- Set a route entry. -/
def State.setRoute (s : State) (a v : Nat) : State := { s with chn := { s.chn with route := KMap.insert s.chn.route a v } }

/-- Grant one address to the child of a port (R361). -/
def State.grantChild (s : State) (p a : Nat) : State :=
  let s1 := (s.setRoute a (p + 1)).modPort p fun x => { x with partner := x.partner.map fun y => (a, true, y.2.2) }
  s1.sendLink p 0 0x0003 (s.rd .CHN_ENUM_GEN).toNat (leBytes 1 1 ++ leBytes 1 (s.chn.depth + 1) ++ leBytes 2 1 ++ leBytes 2 a)

/-- A join reaches the root: counted, and addressed where AUTO_JOIN is 1 (R361, R366). -/
def State.joinAtRoot (s : State) (parent port : Nat) : State :=
  let s1 := s.bump .CHN_CNT_JOIN
  if s1.rb .CHN_CTL 0 0 2 then
    match lowestFree s1.chn.route with
    | some a =>
      if parent = s1.ownAddr then s1.grantChild port a
      else
        match s1.routePort parent with
        | some p => (s1.setRoute a (p + 1)).sendInternal parent 0 0x0006 0 (leBytes 2 a ++ leBytes 1 port)
        | none => s1
    | none => s1
  else s1

/-- A join of the child on a port is reported. -/
def State.reportJoin (s : State) (p inst : Nat) : State :=
  if s.isRoot then s.joinAtRoot s.ownAddr p else s.sendJoin p inst

/-- An INIT flit (R339, R345, R361, R366, R367). -/
def State.initFlit (s : State) (p : Nat) (f : List Byte) : State :=
  s.rx p tyInit f fun s =>
    let x := s.port p
    let pr := initPartner f
    let opposite : Bool := decide ((leAt f 10 1 = 0) ↔ p ≠ 0)
    if !opposite then (if x.st = 2 then s.setPort p { x with peerErr := true } else s)
    else if x.st = 4 then
      if x.partner.map (fun y => y.2.2) = some pr.2.2 then
        let s1 := (s.setPort p { x with st := 3, partner := some pr, replay := x.replay.map fun z => { z with tries := 0 } }).resend p
        s1.pump p (s1.port p).waiting
      else s.linkDown p
    else
      let s1 := s.setPort p { x with st := 3, partner := some pr, peerErr := false }
      if p = 0 then (if x.st = 3 && !pr.2.1 then s1.loseAddress else s1)
      else if x.st = 2 && !pr.2.1 && s1.chn.enumerated then s1.reportJoin p pr.2.2
      else s1

/-! ### DATA flits and reassembly (R340, R343, R352) -/

/-- The header of a fragment. -/
def fragHdr (body : List Byte) (p vc : Nat) : Msg :=
  let d := leAt body 0 2
  { port := p, vc := vc, internal := d / 0x8000 = 1, bcast := d / 0x4000 % 2 = 1, dest := d % 0x4000, src := leAt body 2 2 % 0x4000
    num := leAt body 4 2 % 0x1000, content := (body.drop 8).take (min 44 (leAt body 6 2)) }

/-- MTYPE, XACT and body of an INTERNAL message (R359). -/
def Msg.mtype (m : Msg) : Nat := leAt m.content 0 2
def Msg.xact (m : Msg) : Nat := leAt m.content 4 4

/-- An INTERNAL message is whole: its CRC holds and its type is known (R359, R360). -/
def Msg.crcOk (m : Msg) : Bool :=
  let n := leAt m.content 2 2 + 8
  n + 4 ≤ m.content.length && leAt m.content n 4 = (crc32c (m.content.take n)).toNat

/-- A complete message waits for its row; an INTERNAL one whose CRC fails is discarded and counted. -/
def State.deliverMsg (s : State) (m : Msg) : State :=
  if m.internal && !m.crcOk then s.bump .CHN_Pp_CNT_CRC m.port
  else if m.internal && !(1 ≤ m.mtype && m.mtype ≤ 14) then s
  else { s with chn := { s.chn with inbox := s.chn.inbox ++ [m] } }

/-- A fragment extends the message that is assembled on its VC. -/
def State.fragment (s : State) (p vc : Nat) (body : List Byte) : State :=
  let x := s.port p
  let h := fragHdr body p vc
  let w := leAt body 4 2
  let old := if vc = 0 then x.asm0 else x.asm1
  let m := if w / 0x4000 % 2 = 1 then some h else old.map fun y => { y with content := y.content ++ h.content }
  let put (z : Option Msg) : State := s.setPort p (if vc = 0 then { x with asm0 := z } else { x with asm1 := z })
  match m with
  | none => s
  | some m => if w / 0x8000 = 1 then (put none).deliverMsg m else put (some m)

/-- An event record of another device (R205, R354): forwarded, and delivered here at its execution time. One that comes later than
40 ticks before that time is late. -/
def State.eventRecord (s : State) (p : Nat) (body : List Byte) : State :=
  let s1 := s.flood p body
  let num := leAt body 1 1
  let origin := leAt body 2 2 % 0x4000
  let t := ofTimeField ((body.drop 4).take 12)
  -- the tick at which the record arrives
  let at_ := s1.now / 256 * 256
  if t + usec 3 < at_ + ticks 40 then
    let s2 := s1.bump .EVT_CNT_CHAIN_LATE
    if s2.evtOn then s2.deliver (srcOf 5 num) t (at_ + ticks 40) none (mkW origin) 1 else s2
  else { s1 with ev := { s1.ev with chain := s1.ev.chain ++ [⟨num, t, origin⟩] } }

/-- A record of VC2 (R352 to R354): an event acts at once; turn records and markers wait for their rows; any other KIND is discarded. -/
def State.record (s : State) (p : Nat) (body : List Byte) : State :=
  match leAt body 0 1 with
  | 1 => s.eventRecord p body
  | 2 => { s with chn := { s.chn with inbox := s.chn.inbox ++ [⟨p, 2, false, false, 0, 0, 2, body⟩] } }
  | 3 => { s with chn := { s.chn with inbox := s.chn.inbox ++ [⟨p, 2, false, false, 0, 0, 3, body⟩] } }
  | _ => s

/-- The pool that a received flit's credit returns to. -/
def owePool (vcf : Nat) (owed : List Nat) : List Nat :=
  let i := if vcf / 4 % 2 = 1 then 3 else vcf % 4
  owed.set i (owed.getD i 0 + 1)

/-- A DATA flit (R343): accepted in order, its credit owed and its body taken; else one NAK, and DATA is discarded until the
expected number comes. -/
def State.dataFlit (s : State) (p : Nat) (f : List Byte) : State :=
  s.rx p tyData f fun s =>
    let x := s.port p
    let vcf := leAt f 1 1
    if x.st ≠ 3 then s
    else if leAt f 2 2 % 4096 ≠ x.rxNext % 4096 then s.nakOnce p
    else
      let body := (f.drop 8).take 52
      let s1 := s.setPort p { x with rxNext := x.rxNext + 1, nakSent := false, owed := owePool vcf x.owed }
      match vcf % 4 with
      | 2 => s1.record p body
      | 3 => s1
      | vc => s1.fragment p vc body

/-! ### Delay and time (R349, R350) -/

/-- A DLY_REQ goes out on port 0, stamped t. -/
def State.sendDlyReq (s : State) (t : Nat) : State := if s.portUp 0 then s.sendCtl 0 tyDlyReq (timeField t) else s

/-- DELAY_MEASUREMENT_TIMER: every 1 ms (R349). -/
def State.delayTimer (s : State) (t : Nat) : State := if s.chnOn && s.portUp 0 then (s.reach t).sendDlyReq t else s

/-- A DLY_REQ is answered, stamped on arrival and on departure (R349). -/
def State.dlyReq (s : State) (p : Nat) (f : List Byte) (t2 t3 : Nat) : State :=
  s.rx p tyDlyReq f fun s =>
    if s.portUp p && p ≠ 0 then
      (s.reach t3).sendCtl p tyDlyRsp (((f.drop 8).take 12) ++ timeField t2 ++ timeField t3)
    else s

/-- Mean of the delays kept. -/
def delayMean (ds : List Int) : Int := if ds.isEmpty then 0 else fdiv (ds.foldl (fun a d => a + d) 0) ds.length

/-- One measurement of delay d and offset o (R349): a delay far from the mean is discarded and counted. -/
def State.measure (s : State) (t1 t2 t3 t4 : Nat) : State :=
  let x := s.port 0
  let asym := sint (s.rd .CHN_Pp_ASYM 0)
  let a1 : Int := t1
  let a2 : Int := t2
  let a3 : Int := t3
  let a4 : Int := t4
  let d := fdiv ((a4 - a1) - (a3 - a2)) 2 + asym
  let o := fdiv ((a4 - a3) - (a2 - a1)) 2 - asym
  let far : Bool := !x.delays.isEmpty && decide (256 < (d - delayMean x.delays).natAbs)
  let s1 := if far then s.bump .CHN_Pp_CNT_DLY_REJ 0 else s.setPort 0 { x with delays := (d :: x.delays).take 16 }
  { s1 with chn := { s1.chn with offset := o } }

/-- A DLY_RSP arrives at `t4` (R349). -/
def State.dlyRsp (s : State) (p : Nat) (f : List Byte) (t4 : Nat) : State :=
  s.rx p tyDlyRsp f fun s =>
    if p = 0 && s.portUp 0 then
      let tf (o : Nat) : Nat := ofTimeField ((f.drop o).take 12)
      let s1 := (s.reach t4).measure (tf 8) (tf 20) (tf 32) t4
      -- a series of CHAIN_ALIGN goes on (R368)
      if 1 < s1.chn.series then
        ({ s1 with chn := { s1.chn with series := s1.chn.series - 1 } }).sendDlyReq s1.now
      else { s1 with chn := { s1.chn with series := 0 } }
    else s

/-- TIME_FLIT_TIMER: a TIME flit on each downstream port in UP (R339, R350). -/
def State.timeTimer (s : State) (t : Nat) : State :=
  if s.chnOn then
    let s0 := s.reach t
    let flags := (if s0.tb.timeValid then 1 else 0) + (if s0.sync then 2 else 0) + if s0.global_ then 4 else 0
    let terr := if s0.isRoot then 0 else (s0.rd .CHN_TERR).toNat
    let body := timeField t ++ leBytes 1 flags ++ [0, 0, 0] ++ leBytes 4 terr ++ leBytes 2 s0.ownAddr
    s0.downUp.foldl (fun s p => s.sendCtl p tyTime body) s0
  else s

/-- ±10 ppm in units of 2^−40 (R350). -/
def chainBound10 : Int := 10995116

/-- CHN_TERR: o in picoseconds and the sender's error, rounded to nearest, saturating (R350). -/
def chainError (o : Int) (up : Word) : Word :=
  wordOfInt (clampI (-(2 ^ 31)) (2 ^ 31 - 1) (roundUp (o * 625) 128 + sint up))

/-- A reading of the time error lies inside the tolerance, or outside it since some time (R350, R365). -/
def State.reading (s : State) (inside : Bool) : State :=
  { s with chn := { s.chn with
    aligned := inside, outSince := if inside then none else some (s.chn.outSince.getD s.now) } }

/-- A TIME flit on port 0 (R350): the first with TIME_VALID sets device time; then the offset is steered out within ±10 ppm; in holdover it is not followed (R87). -/
def State.timeFlit (s : State) (p : Nat) (f : List Byte) (t : Nat) : State :=
  s.rx p tyTime f fun s =>
    if p = 0 && s.portUp 0 && !s.isRoot then
      let flags := leAt f 20 1
      let mode1 := s.rf .TB_CTL 0 0 2 0 = 1 && s.running 0
      let s0 := s.reach t
      let d := delayMean (s0.port 0).delays
      let now : Int := (ofTimeField ((f.drop 8).take 12) : Nat) + d
      let follows := mode1 && !s0.tb.holdover
      let first := follows && flags % 2 = 1 && !(s0.chn.timed && s0.tb.timeValid)
      let s1 := if first then
          let s1 := if s0.anyEnabled then { s0 with tb := { s0.tb with stepPending := some (now - (s0.now : Int)), timeValid := s0.counting } }
            else if s0.counting then s0.loadTime now.toNat else s0
          { s1 with chn := { s1.chn with timed := true, offset := 0 } }
        else s0
      let s2 := if follows && !first then
          let n := s1.draw
          let y := { n.2 with tb := { n.2.tb with steer := clampI (-chainBound10) chainBound10 (Config.steering n.1 (-s1.chn.offset)) } }
          { y with tb := { y.tb with stepPending := if msec 1 < s1.chn.offset.natAbs then some (-s1.chn.offset) else none } }
        else s1
      let terr := chainError s2.chn.offset (mkW (leAt f 24 4))
      let s3 := { s2.wr .CHN_TERR 0 0 terr with chn := { s2.chn with
        upSync := flags / 2 % 2 = 1, upGlobal := flags / 4 % 2 = 1, lastTime := s2.now } }
      s3.reading (flags / 2 % 2 = 1 && decide ((sint terr).natAbs ≤ s.rf .CHN_TOL 0 0 15 0))
    else s

/-- TIME_SILENCE: no TIME flit for 500 µs; readings count as outside until one arrives (R350). -/
def State.timeSilence (s : State) : State := if s.chnOn && !s.isRoot then s.reading false else s

/-! ### Self-exclusion (R365, R450) -/

/-- A running group enters EXCLUDED: this moment counts as its first underrun sample, and its jumps end (R446, R450). -/
def State.excludeGroup (s : State) (g : Nat) : State :=
  let x := s.grp g
  if x.st.isRunning then
    let y := { x with
      st := if x.st = .stopping then .stopping else .excluded, trigs := []
      episode := if x.fb then none else some ((x.episode).getD ⟨x.n, some s.now, x.entry⟩), due := if x.fb then x.due else x.entry }
    x.trigs.foldl (fun s t =>
      if t.cmd.isSome then (s.finishOpt t.cmd stExcluded []).bump .Gn_CNT_FORCE_REJ g
      else s.resolveEv t.ev g false false 0) (s.setGrp g y)
  else s

/-- SELF_EXCLUSION: a member whose readings have all lain outside the tolerance for 1 ms excludes itself (R365). -/
def State.selfExclusion (s : State) : State :=
  match s.chn.outSince with
  | some t0 =>
    if s.chnOn && !s.isRoot && !s.chn.excluded then
      let s1 := s.reach (t0 + msec 1)
      let terr := s1.rd .CHN_TERR
      let s2 := (List.range 8).foldl (fun s g => s.excludeGroup g) s1
      let s3 := { s2 with chn := { s2.chn with excluded := true, censusOk := false, outSince := some s2.now } }
      let s4 := s3.sendInternal 0 0 0x0008 0
        (leBytes 2 s3.ownAddr ++ [0, 0] ++ leBytes 4 terr.toNat ++ timeField s3.now)
      let s5 := ((s4.bump .CHN_CNT_EXCL).logErr 0 12 0 0x0015 0xFF terr.toNat 0).irqIf .CHN_CTL 0 3
      s5.exclSettle
    else s
  | none => s

/-! ### Records that wait for their rows (R114, R353) -/

/-- The oldest record of a KIND that came on a port, and the chain without it. -/
def State.takeRecord (s : State) (p kind : Nat) : Option (List Byte × State) :=
  (s.chn.inbox.find? fun m => m.vc = 2 && m.port = p && m.num = kind).map fun m =>
    (m.content, { s with chn := { s.chn with inbox := s.chn.inbox.erase m } })

/-- TURN_RECORD: forwarded, and taken by the groups that follow it (R114, R354). -/
def State.turnRecord (s : State) (p : Nat) : State :=
  match s.takeRecord p 2 with
  | some (b, s1) =>
    let w (o : Nat) : W64 := BitVec.ofNat 64 (leAt b o 8)
    (s1.flood p b).takeTurnRecord ⟨leAt b 2 2, w 4, w 12, w 20, w 28, w 36⟩
  | none => s

/-- BROADCAST_SEQUENCE_MARKER: forwarded, and kept until its broadcast executes (R353). -/
def State.bcastMarker (s : State) (p : Nat) : State :=
  match s.takeRecord p 3 with
  | some (b, s1) =>
    let s2 := s1.flood p b
    { s2 with chn := { s2.chn with markers := s2.chn.markers ++ [(leAt b 4 4, leAt b 8 2 % 0x4000, leAt b 10 2 % 0x1000)] } }
  | none => s

end Sys2Proof.Machine
end

