-- ==== Sys2Proof/Machine/Chain.lean ====
section
/-!
DEFINITION. Messages of the Gunter chain and its commands (R33, R34, R348, R355 to R368): packets, enumeration,
joining and leaving, the census, broadcasts and alignment.
-/
namespace Sys2Proof.Machine

/-! ### Plaku packets on the chain (R33, R34, R356) -/

/-- The oldest message of a port that a predicate takes, and the chain without it. -/
def State.takeMsg (s : State) (p : Nat) (f : Msg → Bool) : Option (Msg × State) :=
  (s.chn.inbox.find? fun m => m.port = p && m.vc ≠ 2 && f m).map fun m =>
    (m, { s with chn := { s.chn with inbox := s.chn.inbox.erase m } })

/-- A packet enters the commands that came over the chain (R33). -/
def State.fromChain (s : State) (m : Msg) : State :=
  let x := s.q 9
  let c := { mkCmd x.nextK m.content 0 0 with k := x.nextK }
  let s1 := s.setQ 9 { x with nextK := x.nextK + 1, inflight := x.inflight ++ [c] }
  { s1 with chn := { s1.chn with from_ := KMap.insert s1.chn.from_ x.nextK (m.port, m.src, m.num) } }

/-- The root answers a packet for a device that is not there (R34, R346). -/
def State.unreachableReply (s : State) (m : Msg) : State :=
  let c := mkCmd 0 m.content 0 0
  s.sendMsg m.port 1 ⟨m.src, false, false, s.ownAddr, m.num⟩ (replyPacket c ⟨stUnreachable, stUnreachable, s.ownAddr, []⟩)

/-- A reply comes home (R33): it decides the reply of the command that waits for it. -/
def State.takeReply (s : State) (m : Msg) : State :=
  let b := m.content
  let q := leAt b 4 2 / 4096
  let tag := leAt b 4 2 % 4096
  let seq := leAt b 8 4
  let words := (wordsOf (b.drop 16)).take (leAt b 6 2)
  match (s.q q).inflight.find? fun c => c.phase = .begun && c.hdr.tag = tag && c.hdr.seq = seq with
  | some c => if q < 9 then s.decide1 ⟨q, c.k⟩ (leAt b 3 1) words (leAt b 12 2) else s
  | none => s

/-- PLAKU_MESSAGE (R33, R34, R356): a request executes here or is forwarded, a broadcast goes up to the root or down to every device,
a reply goes home. -/
def State.plakuMessage (s : State) (p : Nat) : State :=
  match s.takeMsg p fun m => !m.internal with
  | some (m, s1) =>
    let h : MsgHdr := ⟨m.dest, m.bcast, false, m.src, m.num⟩
    if m.bcast then
      if p = 0 then (s1.downUp.foldl (fun s d => s.sendMsg d 0 h m.content) s1).fromChain m
      else if s1.isTop then s1.fromChain m
      else s1.sendMsg 0 0 h m.content
    else if s1.chn.enumerated && m.dest = s1.ownAddr then
      if m.vc = 1 then s1.takeReply m else s1.fromChain m
    else match s1.routePort m.dest with
      | some d => if s1.portUp d then s1.sendMsg d m.vc h m.content else if m.vc = 0 then s1.unreachableReply m else s1
      | none => if m.vc = 0 then s1.unreachableReply m else s1
  | none => s

/-! ### INTERNAL messages (R359, R360) -/

/-- Act on the oldest INTERNAL message of a type that came on a port: a link message, or one for this device, is consumed; another
is forwarded by its destination, after `pass` with the port it leaves by. -/
def State.internal (s : State) (p mtype : Nat) (own : State → Msg → State) (pass : State → Msg → Nat → State) : State :=
  match s.takeMsg p fun m => m.internal && m.mtype = mtype with
  | some (m, s1) =>
    if m.bcast || (m.dest = 0 && s1.isRoot) || (s1.chn.enumerated && m.dest = s1.ownAddr) then own s1 m
    else match s1.routePort m.dest with
      | some d => (pass s1 m d).sendMsg d m.vc ⟨m.dest, false, true, m.src, m.num⟩ m.content
      | none => s1
  | none => s

/-- Byte, 16-bit and 32-bit fields of a message's content. -/
def Msg.b (m : Msg) (o : Nat) : Nat := leAt m.content o 1
def Msg.h (m : Msg) (o : Nat) : Nat := leAt m.content o 2
def Msg.w (m : Msg) (o : Nat) : Nat := leAt m.content o 4

/-! ### Enumeration (R348, R361) -/

/-- The numbers that a port has answered with. -/
def Xact.of (x : Xact) (p : Nat) : List Nat := ((x.got.find? fun g => g.1 = p).map fun g => g.2).getD []

/-- Number `i` of a port's answer. -/
def Xact.num (x : Xact) (p i : Nat) : Nat := (x.of p).getD i 0

/-- Every port has answered. -/
def Xact.full (x : Xact) : Bool := x.ports.all fun p => x.got.any fun g => g.1 = p

/-- Add a port's answer. -/
def Xact.add (x : Xact) (p : Nat) (ns : List Nat) : Xact := if x.got.any fun g => g.1 = p then x else { x with got := x.got ++ [(p, ns)] }

/-- The devices of this one that an enumeration counts: itself, or itself while it has no address. -/
def State.ownCount (s : State) (mode : Nat) : Nat := if mode = 0 || !s.chn.enumerated then 1 else 0

/-- Replace the enumeration in progress. -/
def State.setEnum (s : State) (x : Option Xact) : State := { s with chn := { s.chn with enum_ := x } }

/-- The device takes an address in an enumeration of a generation, at a depth (R361, R364). -/
def State.takeAddress (s : State) (a depth : Nat) : State :=
  let s1 := s.wr .SYS_ADDR 0 0 (mkW a)
  { s1 with chn := { s1.chn with enumerated := true, depth := depth, route := KMap.insert s1.chn.route a 1 } }

/-- A device that gained an address sends INIT again downward (R361); children that this grant leaves without an address have
joined under R366. -/
def State.announce (s : State) (granted : List Nat) : State :=
  s.downUp.foldl (fun s p =>
    let s1 := s.sendInit p
    match (s.port p).partner with
    | some y => if !y.2.1 && !granted.contains p then s1.reportJoin p y.2.2 else s1
    | none => s1) s

/-- Routes of a range of addresses to a port. -/
def State.routeAll (s : State) (as : List Nat) (p : Nat) : State := as.foldl (fun s a => s.setRoute a (p + 1)) s

/-- Pass granted addresses down a port (R360, R361). -/
def State.passDown (s : State) (p mode gen : Nat) (as : List Nat) : State :=
  let s1 := s.routeAll as p
  let s2 := match as with
    | a :: _ => s1.modPort p fun x => { x with partner := x.partner.map fun (y : Nat × Bool × Nat) => if mode = 1 && y.2.1 then y else (a, true, y.2.2) }
    | [] => s1
  let tail := if mode = 0 then leBytes 2 (as.head?.getD 0) else as.flatMap fun a => leBytes 2 a
  s2.sendLink p 0 0x0003 gen (leBytes 1 mode ++ leBytes 1 (s.chn.depth + 1) ++ leBytes 2 as.length ++ tail)

/-- An enumeration has every answer of its second phase: the totals go up, or complete the command (R348, R361). -/
def State.enumFinish (s : State) (x : Xact) : State :=
  let sum (i : Nat) : Nat := x.ports.foldl (fun a p => a + x.num p i) (x.own.getD i 0)
  let deep : Nat := x.ports.foldl (fun a p => max a (x.num p 2)) x.depth
  let s1 := s.setEnum none
  match x.cmd with
  | some c => s1.finish c stOK [mkW s1.chn.route.length, mkW deep, mkW x.gen, mkW (sum 1)]
  | none => s1.sendLink 0 1 0x0004 x.gen (leBytes 2 (sum 0) ++ leBytes 2 (sum 1) ++ leBytes 1 deep)

/-- Hand out a grant at this device (R361): its own address first where it needs one, then port 1, then port 2. In full enumeration
every route is rebuilt and CENSUS_OK clears. -/
def State.enumGrant (s : State) (x : Xact) (depth : Nat) (as : List Nat) : State :=
  let need := s.ownCount x.mode
  let s0 := if x.mode = 0 then { s.wr .SYS_ADDR 0 0 0 with chn := { s.chn with route := [], censusOk := false, enumerated := false } } else s
  let s1 := match as with
    | a :: _ => if need = 1 then s0.takeAddress a depth else s0
    | [] => s0
  let s2 := s1.wr .CHN_ENUM_GEN 0 0 (mkW x.gen)
  let rest := as.drop need
  let n1 := if x.ports.contains 1 then x.num 1 0 else 0
  let a1 := rest.take n1
  let a2 := rest.drop n1
  let part (p : Nat) : List Nat := if p = 1 then a1 else a2
  let s3 := x.ports.foldl (fun s p => s.passDown p x.mode x.gen (part p)) s2
  let got := (x.ports.filter fun p => !(part p).isEmpty)
  let s4 := if need = 1 && !as.isEmpty then s3.announce got else s3
  let took := min need as.length
  let y := { x with phase := 1, got := [], own := [took, need - took], depth := if s4.chn.enumerated then s4.chn.depth else depth }
  if x.ports.isEmpty then s4.enumFinish y else s4.setEnum (some y)

/-- The addresses that the root grants (R348, R361): from 0 in full enumeration, the lowest free ones in a join; none above 16,383. -/
def State.rootGrant (s : State) (x : Xact) : List Nat :=
  let total := x.ports.foldl (fun a p => a + x.num p 0) (s.ownCount x.mode)
  if x.mode = 0 then List.range (min total 16384)
  else ((List.range (min 16384 (total + s.chn.route.length))).filter fun a => (KMap.find? s.chn.route a).isNone).take total

/-- An enumeration has every answer of its first phase: the sum goes up, or the root hands out addresses. -/
def State.enumCounted (s : State) (x : Xact) : State :=
  match x.cmd with
  | some _ => s.enumGrant x 0 (s.rootGrant x)
  | none =>
    let total := x.ports.foldl (fun a p => a + x.num p 0) (s.ownCount x.mode)
    let deep := x.ports.foldl (fun a p => max a (x.num p 1)) x.depth
    (s.setEnum (some { x with phase := 1 })).sendLink 0 1 0x0002 x.gen (leBytes 2 total ++ leBytes 1 deep)

/-- An enumeration begins at this device, at a depth: its ports are asked. -/
def State.enumBegin (s : State) (mode gen depth : Nat) (cmd : Option CmdRef) : State :=
  let x : Xact := { gen := gen, mode := mode, cmd := cmd, phase := 0, ports := s.downUp, got := [], own := [], depth := depth }
  let s1 := s.setEnum (some x)
  let s2 := x.ports.foldl (fun s p => s.sendLink p 0 0x0001 gen (leBytes 1 mode ++ leBytes 1 (depth + 1))) s1
  if x.ports.isEmpty then s2.enumCounted x else s2

/-- A port answers, or is taken as answering with nothing (R361). -/
def State.enumAnswer (s : State) (p phase : Nat) (ns : List Nat) : State :=
  match s.chn.enum_ with
  | some x =>
    if x.phase = phase && x.ports.contains p && !x.full then
      let y := x.add p ns
      let s1 := s.setEnum (some y)
      if y.full then (if phase = 0 then s1.enumCounted y else s1.enumFinish y) else s1
    else s
  | none => s

/-- CHAIN_ENUM (R348). `remote` says that a group on another enumerated device has RUNNING set. -/
def State.chainEnum (s : State) (q k : Nat) (remote : Bool) : State :=
  s.run q k 0x0601 fun s c r =>
    let w := wAt c.payload 0
    if extraBits w 1 || !s.isRoot then s.finish r stBadParam []
    else if s.chn.enum_.isSome || (!bit w 0 && (s.anyRunning || remote)) then s.finish r stBusy []
    else s.enumBegin (fld w 0 0) ((s.rd .CHN_ENUM_GEN).toNat + 1) 0 (some r)

/-- ENUM_QUERY. -/
def State.enumQuery (s : State) (p : Nat) : State :=
  s.internal p 0x0001 (fun s m => s.enumBegin (m.b 8 % 2) m.xact (m.b 9) none) (fun s _ _ => s)

/-- ENUM_COUNT. -/
def State.enumCount (s : State) (p : Nat) : State :=
  s.internal p 0x0002 (fun s m =>
    if s.chn.enum_.map (fun x => x.gen) = some m.xact then s.enumAnswer p 0 [m.h 8, m.b 10] else s) (fun s _ _ => s)

/-- ENUM_ASSIGN: the grant of an enumeration under way, or of a single join. -/
def State.enumAssign (s : State) (p : Nat) : State :=
  s.internal p 0x0003 (fun s m =>
    let mode := m.b 8 % 2
    let n := m.h 10
    let as := if mode = 0 then (List.range n).map fun i => m.h 12 + i else (List.range n).map fun i => m.h (12 + 2 * i)
    match s.chn.enum_ with
    | some x => if x.gen = m.xact && x.phase = 1 then s.enumGrant x (m.b 9) as else s
    | none =>
      match as with
      | a :: _ => if s.chn.enumerated then s else ((s.takeAddress a (m.b 9)).wr .CHN_ENUM_GEN 0 0 (mkW m.xact)).announce []
      | [] => s) (fun s _ _ => s)

/-- ENUM_DONE. -/
def State.enumDone (s : State) (p : Nat) : State :=
  s.internal p 0x0004 (fun s m =>
    if s.chn.enum_.map (fun x => x.gen) = some m.xact then s.enumAnswer p 1 [m.h 8, m.h 10, m.b 12] else s) (fun s _ _ => s)

/-! ### Joining, leaving, exclusion at the root (R365 to R367) -/

/-- JOIN_MESSAGE. -/
def State.joinMessage (s : State) (p : Nat) : State :=
  s.internal p 0x0005 (fun s m => s.joinAtRoot (m.h 8) (m.b 10)) (fun s _ _ => s)

/-- JOIN_ASSIGN: each device on the way sets the route of the new address; the parent grants it. -/
def State.joinAssign (s : State) (p : Nat) : State :=
  s.internal p 0x0006 (fun s m => s.grantChild (m.b 10) (m.h 8)) (fun s m d => s.setRoute (m.h 8) (d + 1))

/-- The addresses that a LEAVE names. -/
def leaveAddrs (m : Msg) : List Nat :=
  (List.range (m.h 12)).flatMap fun i => (List.range (m.h (18 + 4 * i))).map fun j => m.h (16 + 4 * i) + j

/-- Free addresses from the route table. -/
def State.freeRoutes (s : State) (as : List Nat) : State :=
  { s with chn := { s.chn with route := s.chn.route.filter fun e => !as.contains e.1 } }

/-- LEAVE: the root frees the addresses of the departed subtree; a device on the way forgets them too. -/
def State.leave (s : State) (p : Nat) : State :=
  s.internal p 0x0007 (fun s m => (s.freeRoutes (leaveAddrs m)).bump .CHN_CNT_LEAVE) (fun s m _ => s.freeRoutes (leaveAddrs m))

/-- EXCLUDE. -/
def State.exclude (s : State) (p : Nat) : State :=
  s.internal p 0x0008 (fun s _ => (s.bump .CHN_CNT_EXCL_RX).irqIf .CHN_CTL 0 3) (fun s _ _ => s)

/-! ### The census (R362 to R364) -/

/-- The BIND_IDs of the groups in a binding mode. -/
def State.bindIds (s : State) (mode : Nat) : List Nat := ((List.range 8).filter fun g => s.bindMode g = mode).map fun g => s.bindId g

/-- The body of this device's CENSUS_REPORT (R360). -/
def State.reportBody (s : State) : List Byte :=
  let led := s.bindIds 2
  let fol := s.bindIds 3
  let flag (b : Bool) (i : Nat) : Nat := if b then 2 ^ i else 0
  let flags := flag s.tb.timeValid 0 + flag s.chn.aligned 1 + flag s.chn.excluded 2 +
    flag ((List.range 8).any fun g => (s.grp g).st = .excluded) 3 + flag ((List.range 16).any fun n => s.rb .EVT_CHTX_n n 0 31) 4 +
    s.rf .TB_CTL 0 0 2 0 * 32
  let parent := ((s.port 0).partner.map fun y => y.1).getD 0
  leBytes 4 (s.rd .SYS_FWVER).toNat ++ leBytes 8 s.epoch.toNat ++ leBytes 4 (if s.isRoot then 0 else (s.rd .CHN_TERR).toNat) ++
    leBytes 2 parent ++ leBytes 1 s.chn.depth ++ leBytes 1 flags ++ leBytes 1 led.length ++ leBytes 1 fol.length ++ [0, 0] ++
    (led ++ fol).flatMap fun b => leBytes 2 b

/-- Fields of a report's body; offsets of R360 less 8. -/
def repFlag (b : List Byte) (i : Nat) : Bool := (leAt b 19 1).testBit i
def repRef (b : List Byte) : Nat := leAt b 19 1 / 32
def repParent (b : List Byte) : Nat := leAt b 16 2
def repDepth (b : List Byte) : Nat := leAt b 18 1
def repLed (b : List Byte) : List Nat := (List.range (leAt b 20 1)).map fun i => leAt b (24 + 2 * i) 2
def repFol (b : List Byte) : List Nat := (List.range (leAt b 21 1)).map fun i => leAt b (24 + 2 * (leAt b 20 1 + i)) 2

/-- The known path from a device up the tree: address and depth, as far as the reports name parents. -/
def upPath (reports : List (Nat × List Byte)) : Nat → Nat → List (Nat × Nat)
  | 0, _ => []
  | n + 1, a =>
    match reports.find? fun r => r.1 = a with
    | some r => (a, repDepth r.2) :: if repDepth r.2 = 0 then [] else
        (match upPath reports n (repParent r.2) with
          | [] => [(repParent r.2, repDepth r.2 - 1)]
          | l => l)
    | none => []

/-- Hops between two participants: over the nearest common device of their known paths, else over the root. -/
def hops (reports : List (Nat × List Byte)) (a b : Nat) : Nat :=
  let pa := upPath reports 64 a
  let pb := upPath reports 64 b
  let da := (pa.head?.map fun x => x.2).getD 0
  let db := (pb.head?.map fun x => x.2).getD 0
  let common := ((pa.find? fun x => pb.any fun y => y.1 = x.1).map fun x => x.2).getD 0
  da + db - 2 * common

/-- The reasons that make a participant an offender (R363). -/
def State.reasons (s : State) (x : Census) (e : Nat × Bool × W64) : Nat :=
  match x.reports.find? fun r => r.1 = e.1 with
  | none => 1
  | some r =>
    let b := r.2
    let root : Bool := e.1 = s.ownAddr
    let ids := repLed b ++ repFol b
    let flag (c : Bool) (i : Nat) : Nat := if c then 2 ^ i else 0
    let count (i : Nat) (f : List Byte → List Nat) : Nat :=
      (x.reports.map fun z => ((f z.2).filter fun j => j = i).length).foldl (fun a n => a + n) 0
    flag (leAt b 0 4 ≠ (s.rd .SYS_FWVER).toNat) 1 + flag (e.2.1 && leAt b 4 8 ≠ e.2.2.toNat) 2 +
      flag (!repFlag b 0 || (!root && (!repFlag b 1 || repRef b ≠ 1))) 3 +
      flag (repFlag b 2 || repFlag b 3 || (root && repRef b = 1)) 4 +
      flag ((repFlag b 4 || !(repLed b).isEmpty) && x.reports.any fun z => 16 < hops x.reports e.1 z.1) 5 +
      flag (ids.any fun i => 0 < count i repFol && count i repLed ≠ 1) 6

/-- A participant stores the result of a census (R364). -/
def State.censusStore (s : State) (gen : Nat) (passed : Bool) : State :=
  let s1 := (s.wr .CHN_CENSUS_GEN 0 0 (mkW gen)).wr64 .CHN_CENSUS_EPOCH_LO .CHN_CENSUS_EPOCH_HI 0 s.epoch
  { s1 with chn := { s1.chn with censusOk := passed } }

/-- The census is judged: the offender list, the result to every participant, the reply (R362 to R364). -/
def State.censusEnd (s : State) (x : Census) : State :=
  let offs := (x.table.map fun e => (e.1, s.reasons x e)).filter fun o => o.2 ≠ 0
  let s1 := { s with chn := { s.chn with census := none } }
  let s2 := if offs.isEmpty then s1 else s1.put (.dma x.listAddr (offs.flatMap fun o => leBytes 4 (o.1 + o.2 * 65536)))
  let s3 := x.table.foldl (fun s e =>
    if e.1 = s.ownAddr then s.censusStore x.gen offs.isEmpty
    else s.sendInternal e.1 0 0x000B x.gen (leBytes 1 (if offs.isEmpty then 1 else 0))) s2
  s3.finish x.cmd (if offs.isEmpty then stOK else stCensus) [mkW x.table.length, mkW offs.length, mkW x.gen]

/-- A report has come, or this device's own is there: when every reachable participant has reported, the census ends. -/
def State.censusTry (s : State) : State :=
  match s.chn.census with
  | some x =>
    if x.table.all fun e => (x.reports.any fun r => r.1 = e.1) || (e.1 ≠ s.ownAddr && (s.routePort e.1).isNone) then s.censusEnd x else s
  | none => s

/-- An entry of the expectation table (R362). -/
def censusEntry (b : List Byte) : Nat × Bool × W64 := (leAt b 0 2, leAt b 2 2 % 2 = 1, BitVec.ofNat 64 (leAt b 8 8))

/-- CENSUS (R362): `table` is what the host's memory holds at the table's address. -/
def State.censusCmd (s : State) (q k : Nat) (table : List Byte) : State :=
  s.run q k 0x0602 fun s c r =>
    let p := c.payload
    let n := (wAt p 2).toNat
    let es := (List.range (min n 16384)).map fun i => censusEntry (sliceB table (16 * i) 16)
    let as := es.map fun e => e.1
    if !s.isRoot || n = 0 || 16384 < n || !as.Nodup || (es.any fun e => 0x4000 ≤ e.1) then s.finish r stBadParam []
    else if s.chn.census.isSome then s.finish r stBusy []
    else
      let gen := s.chn.censusGen + 1
      let own := if as.contains s.ownAddr then [(s.ownAddr, s.reportBody)] else []
      let x : Census := ⟨gen, r, (join64 (wAt p 3) (wAt p 4)).toNat, es, own⟩
      let s1 := { s with chn := { s.chn with censusGen := gen, census := some x } }
      let s2 := as.foldl (fun s a => if a = s.ownAddr then s else s.sendInternal a 0 0x0009 gen []) s1
      s2.censusTry

/-- CENSUS_QUERY. -/
def State.censusQuery (s : State) (p : Nat) : State :=
  s.internal p 0x0009 (fun s m => s.sendInternal 0 1 0x000A m.xact s.reportBody) (fun s _ _ => s)

/-- CENSUS_REPORT. -/
def State.censusReport (s : State) (p : Nat) : State :=
  s.internal p 0x000A (fun s m =>
    match s.chn.census with
    | some x =>
      if x.gen = m.xact && !(x.reports.any fun r => r.1 = m.src) then
        ({ s with chn := { s.chn with census := some { x with reports := x.reports ++ [(m.src, (m.content.drop 8).take (m.h 2))] } } }).censusTry
      else s
    | none => s) (fun s _ _ => s)

/-- CENSUS_RESULT. -/
def State.censusResult (s : State) (p : Nat) : State :=
  s.internal p 0x000B (fun s m => s.censusStore m.xact (m.b 8 % 2 = 1)) (fun s _ _ => s)

/-! ### Broadcast replies (R357) -/

/-- A port answers a broadcast. -/
def State.bcastAnswer (s : State) (num p : Nat) (ns : List Nat) : State :=
  let add (b : Bcast) : Bcast :=
    if b.num = num ∧ p ∈ b.ports ∧ ¬ (b.got.any fun g => g.1 = p) then { b with got := b.got ++ [(p, ns)] } else b
  ({ s with chn := { s.chn with bcasts := s.chn.bcasts.map add } }).bcastTry num

/-- BCAST_REPLY. -/
def State.bcastReplyMsg (s : State) (p : Nat) : State :=
  s.internal p 0x000C (fun s m => s.bcastAnswer m.xact p [m.h 8, m.h 10, m.h 12, m.b 14, m.b 15, m.w 16]) (fun s _ _ => s)

/-! ### Alignment (R361, R368) -/

/-- The larger of two alignment answers: |CHN_TERR| and its address; devices not ALIGNED add up. -/
def alignMerge (a b : List Nat) : List Nat :=
  let g (l : List Nat) (i : Nat) := l.getD i 0
  let big := if g a 0 < g b 0 then b else a
  [g big 0, g big 1, g a 2 + g b 2]

/-- This device's own answer. -/
def State.alignOwn (s : State) : List Nat :=
  if s.isRoot then [0, s.ownAddr, 0] else [(sint (s.rd .CHN_TERR)).natAbs, s.ownAddr, if s.chn.aligned then 0 else 1]

/-- The alignment answers go up, or complete the command, once every port has answered and this device's series is over. -/
def State.alignTry (s : State) : State :=
  match s.chn.align with
  | some x =>
    if x.full && s.chn.series = 0 then
      let m := x.ports.foldl (fun a p => alignMerge a (x.of p)) s.alignOwn
      let g (i : Nat) := m.getD i 0
      let s1 := { s with chn := { s.chn with align := none } }
      match x.cmd with
      | some c => s1.finish c stOK [mkW (g 0), mkW (g 1), mkW (g 2)]
      | none => s1.sendLink 0 1 0x000E x.gen (leBytes 4 (g 0) ++ leBytes 2 (g 1) ++ leBytes 2 (g 2))
    else s
  | none => s

/-- An alignment begins here: the query goes down where ALL is 1, and a series of 16 measurements starts on port 0. -/
def State.alignBegin (s : State) (gen : Nat) (all : Bool) (cmd : Option CmdRef) : State :=
  let x : Xact := { gen := gen, mode := 0, cmd := cmd, phase := 0, ports := if all then s.downUp else [], got := [], own := [], depth := 0 }
  let s1 := { s with chn := { s.chn with align := some x, series := if s.portUp 0 then 16 else 0 } }
  let s2 := (x.ports.foldl (fun s p => s.sendLink p 0 0x000D gen (leBytes 1 1)) s1).sendDlyReq s1.now
  s2.alignTry

/-- A port answers an alignment. -/
def State.alignAnswer (s : State) (p : Nat) (ns : List Nat) : State :=
  match s.chn.align with
  | some x => if x.ports.contains p then ({ s with chn := { s.chn with align := some (x.add p ns) } }).alignTry else s
  | none => s

/-- CHAIN_ALIGN (R368). -/
def State.chainAlign (s : State) (q k : Nat) : State :=
  s.run q k 0x0604 fun s c r =>
    let w := wAt c.payload 0
    if extraBits w 1 || !s.isRoot then s.finish r stBadParam []
    else if s.chn.align.isSome then s.finish r stBusy []
    else s.alignBegin 1 (bit w 0) (some r)

/-- ALIGN_QUERY. -/
def State.alignQuery (s : State) (p : Nat) : State :=
  s.internal p 0x000D (fun s m => s.alignBegin m.xact (m.b 8 % 2 = 1) none) (fun s _ _ => s)

/-- ALIGN_REPORT. -/
def State.alignReport (s : State) (p : Nat) : State :=
  s.internal p 0x000E (fun s m => s.alignAnswer p [m.w 8, m.h 12, m.h 14]) (fun s _ _ => s)

/-- A DLY_RSP may end the series of an alignment (R368). -/
def State.dlyRspAlign (s : State) (p : Nat) (f : List Byte) (t4 : Nat) : State :=
  let s1 := s.dlyRsp p f t4
  if s1.chn.series = 0 then s1.alignTry else s1

/-! ### Missing responses (R357, R361) -/

/-- EXCHANGE_TIMEOUT: a port has not answered within the timeout of the command. -/
def State.exchangeTimeout (s : State) (e : Exchange) (p : Nat) : State :=
  match e with
  | .enum => (match s.chn.enum_ with
    | some x => s.enumAnswer p x.phase [0, 0, 0]
    | none => s)
  | .align => s.alignAnswer p [0, 0, 0]
  | .census => (match s.chn.census with
    | some x => s.censusEnd x
    | none => s)
  | .bcast num =>
    let child := ((s.port p).partner.map fun y => y.1).getD 0
    s.bcastAnswer num p [0, 1, child, stTimeout, 0, 0]

/-! ### Chain events of the host (R355) -/

/-- CHAIN_BROADCAST. -/
def State.chainBroadcast (s : State) (q k : Nat) : State :=
  s.run q k 0x0603 fun s c r =>
    let p := c.payload
    let w0 := wAt p 0
    let num := fld w0 7 0
    let tick := fld (wAt p 3) 29 0
    let t := mkTime ((wAt p 1).toNat + 2 ^ 32 * fld (wAt p 2) 15 0) tick 0
    if extraBits w0 0x1FF || fld (wAt p 2) 31 16 ≠ 0 || fld (wAt p 3) 31 30 ≠ 0 || 800000000 ≤ tick then s.finish r stBadParam []
    else if bit w0 8 then
      if t < s.now + usec 20 then s.finish r stBadParam []
      else { s with chn := { s.chn with timed_ := s.chn.timed_ ++ [(num, t, r)] } }
    else
      let now := s.now / 256 * 256
      (s.sendChainEvent num now).finish r stOK (timeWords now)

/-- CHAIN_BROADCAST_TIME: device time reaches the time-stamp of the oldest such command. -/
def State.chainBroadcastTime (s : State) : State :=
  match s.chn.timed_.foldl (fun (a : Option (Nat × Nat × CmdRef)) x => match a with
      | some y => if x.2.1 < y.2.1 then some x else some y
      | none => some x) none with
  | some x =>
    if s.counting then
      let s1 := s.reach x.2.1
      let s2 := { s1 with chn := { s1.chn with timed_ := s1.chn.timed_.erase x } }
      (s2.sendChainEvent x.1 x.2.1).finish x.2.2 stOK (timeWords x.2.1)
    else s
  | none => s

/-! ### Enables and status (R370) -/

/-- EN of a chain port takes effect. -/
def State.chnPortEn (s : State) (p : Nat) (on : Bool) : State := if on then s else s.linkDown p

/-- CHN starts: not with ROLE 3 (R370). -/
def State.chnStart (s : State) : State := if s.rf .CHN_CTL 0 0 1 0 = 3 then s else s.setRunning 11 true

/-- CHN stops: every link goes down. -/
def State.chnStop (s : State) : State := (((s.linkDown 1).linkDown 2).linkDown 0).setRunning 11 false

/-- CHN_STATUS (R370). -/
def State.chnStatus (s : State) : Word :=
  let x := s.chn
  bitW x.enumerated 0 ||| bitW s.isRoot 1 ||| bitW x.aligned 2 ||| bitW s.sync 3 ||| bitW s.global_ 4 ||| bitW x.excluded 5 |||
    bitW x.censusOk 6 ||| putF (x.depth % 64) 16

/-- CHN_Pp_STATUS (R370). -/
def State.chnPortStatus (s : State) (p : Nat) : Word :=
  let x := s.port p
  putF x.st 0 ||| bitW x.peerErr 3 ||| bitW (s.portStall p) 4

/-- CHN_Pp_PARTNER (R369). -/
def State.chnPartner (s : State) (p : Nat) : Word :=
  match (s.port p).partner with
  | some y => putF y.1 0 ||| bitW y.2.1 15 ||| bitW true 31
  | none => 0

end Sys2Proof.Machine
end

