-- ==== Sys2Proof/Machine/Fw.lean ====
section
/-!
DEFINITION. The firmware store, its update and the firmware watchdog (R441, R442, R479 to R482).
-/
namespace Sys2Proof.Machine

/-! ### Images (R479) -/

/-- What a slot of the store holds. -/
def State.slotImage (s : State) (i : Nat) : List Byte := KMap.getD s.fw.slots i (Config.factorySlot i)

/-- Every field of bytes 0 to 63 lies within the table of R479. -/
def headerOk (b : List Byte) : Bool :=
  let body := leAt b 12 4
  sliceB b 0 4 = [0x43, 0x5A, 0x46, 0x57] && leAt b 4 2 = 1 && leAt b 6 2 = 0x4810 &&
    body % 64 = 0 && 64 ≤ body && body ≤ 458752 && (sliceB b 16 48).all fun x => x = 0

/-- Why an image is not authentic: 0 it is, 1 header, 2 key hash, 3 signature (R479, R486). -/
def imageReason (b : List Byte) : Nat :=
  if !headerOk b then 1
  else if !Config.keyOk (sliceB b 64 64) then 2
  else if !Config.sigOk (sliceB b 0 64) (sliceB b 64 64) (sliceB b 128 64) (sliceB b 256 (leAt b 12 4)) then 3
  else 0

/-- The version of an image. -/
def imageVersion (b : List Byte) : Word := mkW (leAt b 8 4)

/-- The slot of the running image (R486). -/
def State.slotRun (s : State) : Nat := s.rf .SYS_BOOT 0 0 0 0

/-! ### Update (R482) -/

/-- The queue that a session is bound to: a queue of this device, or a queue of the device that a command came from. -/
def State.sessionQueue (s : State) (c : Cmd) (r : CmdRef) : Nat :=
  if r.q = 9 then 16 + 16 * ((KMap.find? s.chn.from_ r.k).map fun (x : Nat × Nat × Nat) => x.2.1).getD 0 + c.hdr.queue else r.q

/-- FW_BEGIN. -/
def State.fwBegin (s : State) (q k : Nat) : State :=
  s.run q k 0x0A01 fun s c r =>
    let len := (wAt c.payload 0).toNat
    let qid := s.sessionQueue c r
    let slot := 1 - s.slotRun
    if len < 256 + 64 ∨ 256 + 458752 < len ∨ len % 64 ≠ 0 then s.finish r stBadParam []
    else if (match s.fw.session with
      | some x => decide (x.queue ≠ qid)
      | none => false) then s.finish r stBusy []
    else
      ({ s with fw := { s.fw with slots := KMap.insert s.fw.slots slot [], session := some ⟨qid, slot, len, []⟩ } }).finish r
        stOK [mkW slot]

/-- FW_DATA. DESIGN CHOICE: the session buffer (R399) begins at the firmware region's first byte. -/
def State.fwData (s : State) (q k : Nat) : State :=
  s.run q k 0x0A02 fun s c r =>
    match s.fw.session with
    | none => s.finish r stNotReady []
    | some x =>
      let data := bytesOf (c.payload.drop 1)
      if x.queue ≠ s.sessionQueue c r then s.finish r stNotReady []
      else if (wAt c.payload 0).toNat ≠ x.data.length then s.finish r stBadParam []
      else if x.len < x.data.length + data.length then s.finish r stBadLength []
      else
        let all := x.data ++ data
        -- the session buffer lies in the firmware region of external memory
        let s1 := if s.drmOn then s.writeBytes false (s.firmwareFirst * 65536 + x.data.length) data else s
        ({ s1 with fw := { s1.fw with slots := KMap.insert s1.fw.slots x.slot all, session := some { x with data := all } } }).finish r
          stOK [mkW all.length]

/-- FW_COMMIT. -/
def State.fwCommit (s : State) (q k : Nat) : State :=
  s.run q k 0x0A03 fun s c r =>
    match s.fw.session with
    | none => s.finish r stNotReady []
    | some x =>
      if x.queue ≠ s.sessionQueue c r ∨ x.data.length < x.len then s.finish r stNotReady []
      else if imageReason x.data ≠ 0 then ({ s with fw := { s.fw with session := none } }).finish r stAuthFail []
      else
        ({ s with fw := { s.fw with active := x.slot, session := none } }).finish r stOK [imageVersion x.data]

/-! ### The watchdog (R441, R442) -/

/-- The commands of a queue that have begun and are not completed, in the queue's order. -/
def State.begunOf (s : State) (q : Nat) : List CmdRef :=
  ((s.q q).inflight.filter fun c => c.phase = .begun).map fun c => ⟨q, c.k⟩

/-- Every command that firmware had begun completes with TIMEOUT; loads stop at their granule (R441). -/
def State.timeoutBegun (s : State) : State :=
  ((List.range 10).flatMap s.begunOf).foldl (fun s r => ((s.withdraw r).stopLoads r stTimeout).finish r stTimeout []) s

/-- The control processor is held halted: safe state with cause 5 (R442). -/
def State.wdogHalt (s : State) : State :=
  let s1 := s.lasting 22 0 0x001B 0xFF s.err.lastOp s.err.lastTag
  ({ s1 with fwReady := false, err := { s1.err with wdogHalt := true } }).safeCauseRaise 5

/-- WATCHDOG_EXPIRY: the control processor restarts when its image passes the check, or is halted when the image fails it or
the expiry comes less than 10 s after the last restart. -/
def State.watchdog (s : State) : State :=
  if !s.fwReady then s
  else
    let s0 := s.bump .ERR_CNT_WDOG
    let soon : Bool := match s.err.lastRestart with
      | some t => decide (s.now < t + 10 * grainsPerSec)
      | none => false
    if soon then s0.wdogHalt
    else if imageReason (s.slotImage s.slotRun) ≠ 0 then (s0.crash 1).wdogHalt
    else
      let s2 := (s0.crash 1).transient 22 0 0x001B 0xFF s.err.lastOp s.err.lastTag
      { s2.timeoutBegun with err := { s2.timeoutBegun.err with lastRestart := some s.now } }

end Sys2Proof.Machine
end

