-- ==== Sys2Proof/Machine/Mem.lean ====
section
/-!
DEFINITION. On-chip memory at work (R371 to R390, R466, R471): castling, owners, power states, the scrubber, spare
rows and MEM_TEST with LOC 1.
-/
namespace Sys2Proof.Machine

/-- The MEM enable is in effect (bit 12 of SYS_EN_STATUS). -/
def State.memOn (s : State) : Bool := s.running 12

/-- The owner that a set's register holds. -/
def State.rawOwner (s : State) (n : Nat) : Nat := (s.bset n).own.getD (RegId.resetAt .MEM_SETn_OWN n 0).toNat

/-- A castling, a power change or a test is in progress. -/
def State.memBusy (s : State) : Bool :=
  s.mem.castle.isSome || ((List.range 8).any fun n => (s.bset n).trans.isSome) || s.tests fun c => bit (wAt c.payload 0) 0

/-- A cleared MEM enable takes effect once nothing is in progress (R392). -/
def State.memSettle (s : State) : State :=
  if s.mem.stopPending && !s.memBusy then { s.setRunning 12 false with mem := { s.mem with stopPending := false } } else s

/-- A write of the MEM enable. -/
def State.memEnable (s : State) (on : Bool) : State :=
  if on then { s.setRunning 12 true with mem := { s.mem with stopPending := false } }
  else ({ s with mem := { s.mem with stopPending := true } }).memSettle

/-! ### Castling (R377, R378) -/

/-- A segment that is not FREE has a byte in a set. -/
def State.segInSet (s : State) (n : Nat) : Bool := !(s.segsOver true (n * setBytes) setBytes).isEmpty

/-- An enabled window lies in a set. -/
def State.winInSet (s : State) (n : Nat) : Bool :=
  (List.range 8).any fun g => s.rb .MEM_GWIN_g g 0 31 && s.rf .MEM_GWIN_g g 0 2 0 = n

/-- The first condition of R377 that refuses a castling. -/
def State.castleRefused (s : State) (n own : Nat) : Option Nat :=
  let x := s.bset n
  if !s.memOn then some stNotReady
  else if n < 2 ∨ own = 3 then some stBadParam
  else if x.trans.isSome then some stNotReady
  else if own ≠ 0 ∧ x.fenced then some stFenced
  else if s.testing n then some stBusy
  else if s.rawOwner n = 1 ∧ s.segInSet n then some stActive
  else if s.rawOwner n = 2 ∧ s.winInSet n then some stActive
  else if own ≠ 0 ∧ x.pwr ≠ 0 then some stNotReady
  else none

/-- MEM_CASTLE (R377): a refusal is reported and counted; else the castling is in progress. -/
def State.castle (s : State) (v : Word) : State :=
  let n := fld v 2 0
  let own := fld v 9 8
  match s.castleRefused n own with
  | some st =>
    (s.wr .MEM_CASTLE_RES 0 0 (putF n 0 ||| putF own 8 ||| putF st 16 ||| bitW true 31)).bump .MEM_CNT_CASTLE_REJ
  | none =>
    let s1 := s.wr .MEM_CASTLE_RES 0 0 (putF n 0 ||| putF own 8)
    { s1 with mem := { s1.mem with castle := some ⟨n, own, bit v 16⟩ } }

/-- The castling is done: the contents are zero when CLEAR asked for it, the new owner is in effect, DONE is set (R378). -/
def State.castlingDone (s : State) : State :=
  match s.mem.castle with
  | none => s
  | some c =>
    let s1 := if c.clear then s.clearSet c.set else s
    let s2 := (s1.modBset c.set fun x => { x with own := some c.owner }).wr .MEM_CASTLE_RES 0 0
      (putF c.set 0 ||| putF c.owner 8 ||| bitW true 31)
    ({ s2 with mem := { s2.mem with castle := none } }).memSettle

/-- A direct write of MEM_SETn_OWN while MEM is not running hands the set over at once (R379). -/
def State.setOwner (s : State) (n own : Nat) : State :=
  if s.memOn ∨ n < 2 ∨ own = 3 then s else s.modBset n fun x => { x with own := some own }

/-! ### Power states (R384, R385) -/

/-- A power request is refused (R385, R471). -/
def State.pwrRefused (s : State) (n v : Nat) : Bool :=
  let x := s.bset n
  v = 3 || !s.memOn || x.trans.isSome || (match s.mem.castle with
    | some c => c.set = n
    | none => false) || s.testing n ||
    (v ≠ 0 && (n < 2 || s.rawOwner n ≠ 0 || !s.rb .MEM_PWR_PERMIT 0 0 n))

/-- A write of MEM_SETn_PWR: refused and counted, or the change begins. -/
def State.setPower (s : State) (n v : Nat) : State :=
  if s.pwrRefused n v then s.bump .MEM_CNT_PWR_REJ
  else
    let s1 := s.wr .MEM_SETn_PWR n 0 (mkW v)
    if (s.bset n).pwr = v then s1 else s1.modBset n fun x => { x with trans := some v }

/-- The power change of a set is complete: contents are lost on the way into OFF and are zero on the way out of it. -/
def State.powerDone (s : State) (n : Nat) : State :=
  let x := s.bset n
  match x.trans with
  | none => s
  | some v =>
    let s1 := if v = 2 ∨ x.pwr = 2 then s.clearSet n else s
    (s1.setBset n { x with pwr := v, trans := none }).memSettle

/-! ### Errors and spare rows (R382, R389, R390) -/

/-- The bank and the row of an on-chip address (R371). -/
def bankRow (addr : Nat) : Nat × Nat :=
  let w := addr % setBytes / 8
  (w % 8, w / 1024)

/-- Spare rows in use in a set (R393). -/
def BankSet.spareUsed (x : BankSet) : Nat := x.spares.foldl (· + ·) 0

/-- Zero the word at an address. -/
def State.zeroWord (s : State) (addr : Nat) : State := s.writeBytes true (addr / 8 * 8) (List.replicate 8 0)

/-- Map the failing row of an address to a free spare of its bank (R390), or fence the set when the bank has none (R389). -/
def State.repair (s : State) (n bank addr : Nat) : State :=
  let x := s.bset n
  let loc := (errAddr addr).toNat
  if x.spares.getD bank 0 < 4 then
    let y := { x with spares := x.spares.set bank (x.spares.getD bank 0 + 1), field := true }
    ((s.setBset n y).bump .MEM_SETn_CNT_REPAIR n).logErr 0 13 n 0x000D 0xFF loc y.spareUsed
  else (s.setBset n { x with fenced := true }).lasting 13 n 0x000D 0xFF loc x.spareUsed

/-- What becomes of the region of an uncorrectable word that no owner was reading (R382): the firmware region restarts the control
processor, the sine table is rewritten by firmware, another SYS region is rewritten as zero, a segment over the word enters FENCED. -/
def State.ueAct (s : State) (addr : Nat) : State :=
  let n := addr / setBytes
  let o := addr % setBytes
  match s.owner n with
  | 3 =>
    if n = 0 ∧ o < 0x70000 then s.watchdog
    else if n = 0 ∧ 0x168000 ≤ o ∧ o < 0x174000 then s
    else s.zeroWord addr
  | 1 => (s.segsOver true (addr / 8 * 8) 8).foldl (fun s i => s.fenceSeg i) s
  | _ => s

/-- A set that the scrubber reads: ON, without a power change. -/
def State.setOn (s : State) (n : Nat) : Bool := n < 8 && (s.bset n).pwr = 0 && (s.bset n).trans.isNone

/-- The scrubber's finding at one word. -/
def State.scrubUe (s : State) (addr : Nat) : State :=
  (((s.memUe addr 1).repair (addr / setBytes) (bankRow addr).1 addr).zeroWord addr).ueAct addr

/-- SCRUB (R383): a pass over every word of every ON set. `ces` and `ues` are the addresses of the words with single-bit and with
uncorrectable errors. A row with a single-bit error in two passes in a row, or with an uncorrectable error, is repaired. -/
def State.scrub (s : State) (ces ues : List Nat) : State :=
  if s.memOn && s.rb .MEM_CTL 0 0 0 then
    let ces := ces.filter fun a => s.setOn (a / setBytes)
    let ues := ues.filter fun a => s.setOn (a / setBytes)
    let s1 := ces.foldl (fun s a => s.memCe a 1) s
    let rowsOf (n : Nat) : List (Nat × Nat) := ((ces.filter fun a => a / setBytes = n).map bankRow).eraseDups
    let s2 := (List.range 8).foldl (fun s n =>
      if s.setOn n then
        let again := (rowsOf n).filter fun r => (s.bset n).suspect.contains r
        let s3 := again.foldl (fun s r =>
          s.repair n r.1 ((ces.find? fun a => a / setBytes = n && bankRow a = r).getD 0)) s
        s3.modBset n fun x => { x with suspect := (rowsOf n).filter fun r => !again.contains r }
      else s) s1
    ues.foldl (fun s a => s.scrubUe a) s2
  else s

/-! ### MEM_TEST on chip (R387 to R389) -/

/-- The rows of 8 KiB of a range within a set. -/
def rowsIn (off len : Nat) : List Nat := (List.range (len / 8192)).map fun i => off / 8192 + i

/-- A transparent test skips a row (R388). -/
def State.rowSkipped (s : State) (n row : Nat) : Bool :=
  let a := n * setBytes + row * 8192
  match s.owner n with
  | 2 => (List.range 8).any fun g =>
    s.grpRunning g && s.rb .MEM_GWIN_g g 0 31 && s.rf .MEM_GWIN_g g 0 2 0 = n && s.rf .MEM_GWIN_g g 0 10 8 = row / 32
  | 1 => (s.segsOver true a 8192).any s.active
  | _ => n = 0 && 0xB4 ≤ row && row < 0xBA && s.anyRunning

/-- The checks of R387 and R466: the status of the first that fails. -/
def State.memTestCheck (s : State) (p : List Word) : Option Nat :=
  let w := wAt p 0
  let mask := fld w 23 16
  let off := (wAt p 1).toNat
  let len := (wAt p 2).toNat
  let sets := (List.range 8).filter fun n => mask.testBit n
  if extraBits w 0xFF0101 ∨ mask = 0 ∨ off % 8192 ≠ 0 ∨ len % 8192 ≠ 0 ∨ setBytes < off + len then some stBadParam
  else if !s.memOn ∨ sets.any fun n => !s.setOn n then some stNotReady
  else if (match s.mem.castle with
    | some c => sets.contains c.set
    | none => false) then some stBusy
  else if !bit w 8 ∧ sets.any fun n => s.rawOwner n ≠ 0 then some stActive
  else none

/-- A failing row is tested once more (R389): it is a transient failure, or it is repaired. -/
def State.rowFail (s : State) (f : RowFail) : State :=
  let a := f.set.val * setBytes + f.row * 8192 + f.bank.val * 8
  let s1 := s.errLoad a 2 f.again
  if f.again then s1.repair f.set.val f.bank.val a
  else s1.transient 13 f.set.val 0x000D stRetried (errAddr a).toNat (s1.bset f.set.val).spareUsed

/-- The end of a memory test (R387, R389): a destructive test leaves its region zero. -/
def State.memTestEnd (s : State) (r : CmdRef) (p : List Word) (fails : List RowFail) : State :=
  let w := wAt p 0
  let off := (wAt p 1).toNat
  let sets := (List.range 8).filter fun n => (fld w 23 16).testBit n
  let rows := sets.flatMap fun n => (rowsIn off (wAt p 2).toNat).map fun row => (n, row)
  let skipped := if bit w 8 then rows.filter fun x => s.rowSkipped x.1 x.2 else []
  let tested := rows.filter fun x => !skipped.contains x
  let fs := fails.filter fun f => tested.contains (f.set.val, f.row)
  let s1 := if bit w 8 then s
    else { s with onchip := s.onchip.filter fun b => !tested.contains (b.1 / setBytes, b.1 % setBytes / 8192) }
  let before (n : Nat) : Nat := (s1.bset n).spareUsed
  let s2 := fs.foldl (fun s f => s.rowFail f) s1
  let repaired := sets.foldl (fun a n => a + ((s2.bset n).spareUsed - before n)) 0
  let broken := (fs.filter fun f => f.again).length > repaired
  let st := if broken then stFenced else if fs.isEmpty then stOK else stRetried
  (s2.finish r st [mkW tested.length, mkW fs.length, mkW repaired, mkW skipped.length]).memSettle

/-- MEM_TEST with LOC 1: it begins, or, while it runs, ends with the rows that failed. -/
def State.memTest (s : State) (q k : Nat) (fails : List RowFail) : State :=
  match (s.q q).find k with
  | none => s
  | some c =>
    if !bit (wAt c.payload 0) 0 then s
    else if c.hdr.opcode = 0x0801 && s.here q c then s.memTestEnd ⟨q, k⟩ c.payload fails
    else s.run q k 0x0801 fun s c r =>
      match s.memTestCheck c.payload with
      | some st => s.finish r st []
      | none => s

end Sys2Proof.Machine
end

