-- ==== Sys2Proof/Machine/Drm.lean ====
section
/-!
DEFINITION. The external-memory controller at work (R398 to R415): training, failed reads, refresh and row counts,
maintenance, states of rest, the change of frequency, geometry, and MEM_TEST with LOC 0.
-/
namespace Sys2Proof.Machine

/-! ### Training and fences (R400, R405) -/

/-- One channel's failure at one rate: passed on the repeat, or fenced. -/
def State.trainFailure (s : State) (f : TrainFail) : State :=
  let c := f.chan.val
  if f.again then
    let s1 := s.lasting 14 c 0x000E 0xFF c f.set.val
    { s1 with drm := { s1.drm with trainFail := true, fenced := if s1.drm.fenced.contains c then s1.drm.fenced else c :: s1.drm.fenced } }
  else (s.bump .DRM_CNT_TRAIN_RETRY).transient 14 c 0x000E 0xFF c f.set.val

/-- DRM_TRAINING_DONE: training of every channel ends, or the retraining of fenced channels that FENCE_CLR began. -/
def State.trainingDone (s : State) (fails : List TrainFail) : State :=
  if s.drm.training then
    let s1 := fails.foldl (fun s f => s.trainFailure f) s
    if fails.any fun f => f.again then
      { s1 with drm := { s1.drm with training := false, trained := false } }
    else ({ s1 with drm := { s1.drm with training := false, trained := true, setTrained := [0, 1] } }).drmRun
  else if !s.drm.retrain.isEmpty then
    let fs := fails.filter fun f => s.drm.retrain.contains f.chan.val
    let s1 := fs.foldl (fun s f => s.trainFailure f) s
    let passed := s.drm.retrain.filter fun c => !(fs.any fun f => f.chan.val = c && f.again)
    { s1 with drm := { s1.drm with retrain := [], fenced := s1.drm.fenced.filter fun c => !passed.contains c } }
  else s

/-- FENCE_CLR in DRM_CMD: the fenced channels of the mask are retrained. -/
def State.drmFenceClr (s : State) (mask : Nat) : State :=
  let cs := s.drm.fenced.filter fun c => mask.testBit c && !s.drm.retrain.contains c
  { s with drm := { s.drm with retrain := s.drm.retrain ++ cs } }

/-- DRM_READ_TIMEOUT: the read returns on its repeat, or its channel is fenced. -/
def State.readTimeout (s : State) (addr : Nat) (again : Bool) : State :=
  let c := s.drmChannel addr
  if !s.drmOn ∨ s.drm.fenced.contains c then s
  else if again then
    let s1 := (s.bump .DRM_CNT_RD_FAIL).lasting 14 c 0x000F 0xFF (addr % 2 ^ 32) (addr / 2 ^ 32)
    ({ s1 with drm := { s1.drm with fenced := c :: s1.drm.fenced } }).irqIf .DRM_CTL 0 2
  else s.readRetried addr

/-! ### Refresh and row counts (R408 to R410) -/

/-- REFRESH: a bank of a channel is refreshed; the channel is not in power-down for it. -/
def State.refresh (s : State) (chan : Nat) : State :=
  if s.drmOn then { s with drm := { s.drm with powerDown := s.drm.powerDown.filter fun c => c ≠ chan } } else s

/-- REFRESH_WINDOW_END: every row-activate table is cleared. -/
def State.windowEnd (s : State) : State := { s with drm := { s.drm with rows := [] } }

/-- DRM_MR4 (R416). -/
def State.mr4Word (s : State) : Word :=
  (List.range 4).foldl (fun w c => w ||| putF (s.drm.mr4.getD c 0 % 8) (3 * c)) (bitW s.drm.mr4Valid 31)

/-- MR4_READ: the readings of the four channels; a rise of OVERTEMP is counted and recorded. -/
def State.mr4Read (s : State) (c0 c1 c2 c3 : Nat) : State :=
  if s.drmOn then
    let s1 := { s with drm := { s.drm with mr4 := [c0, c1, c2, c3], mr4Valid := true } }
    if s1.drmOvertemp && !s.drmOvertemp then (s1.bump .DRM_CNT_OVERTEMP).logErr 0 14 0 0x0010 0xFF s1.mr4Word.toNat 0 else s1
  else s

/-- A table of row counts after `n` more activates of a row (R410): the table and the row's count. -/
def rowCount (rows : List (Nat × Nat)) (row n : Nat) : List (Nat × Nat) × Nat :=
  match rows.find? fun p => p.1 = row with
  | some p => (rows.map fun q => if q.1 = row then (row, p.2 + n) else q, p.2 + n)
  | none =>
    if rows.length < 16 then ((row, n) :: rows, n)
    else
      let low := rows.foldl (fun (a : Nat × Nat) q => if q.2 < a.2 then q else a) (rows.headD (0, 0))
      ((row, low.2 + n) :: rows.erase low, low.2 + n)

/-- NEIGHBOUR_REFRESH: `acts` activates of the row of an address; a count that reaches RAC_THR refreshes the rows beside it and
becomes zero. -/
def State.neighbourRefresh (s : State) (addr acts : Nat) : State :=
  if s.drmOn then
    let d := s.drm
    let ch := s.drmChannel addr
    let rk := s.drmRank addr
    let bk := s.drmBank addr
    let row := s.drmRow addr
    let same (t : RowTable) : Bool := t.chan = ch && t.rank = rk && t.bank = bk
    let old := ((d.rows.find? same).map fun (t : RowTable) => t.rows).getD []
    let new := rowCount old row acts
    let hit := s.rf .DRM_RAC_THR 0 0 15 0 ≤ new.2
    let tab := if hit then new.1.map fun p => if p.1 = row then (row, 0) else p else new.1
    let s1 := { s with drm := { d with rows := ⟨ch, rk, bk, tab⟩ :: d.rows.filter fun t => !same t } }
    let s2 := if hit && 0 < row then s1.bump .DRM_CNT_NREF else s1
    if hit && row + 1 < 2 ^ s.rowBits then s2.bump .DRM_CNT_NREF else s2
  else s

/-! ### Reported tolerances (R26, R406, R418) -/

/-- The gambit of a group holds content of external memory. -/
def State.heldExternal (s : State) (g : Nat) : Bool :=
  (List.range 6).any fun r => match s.region g r with
    | some e => s.regionHeld g r && (entrySegs (s.entry g e)).any fun i => !dLoc (s.segDesc i)
    | none => false

/-- The tolerance of a playback port in ns after the present device time (R26, R406): what is held of external content covers the first
3 µs of R179, counted from a start time that is still to come, and as much more as the regions have been filled with, which is not given.
None while the group needs no service. -/
def State.tolOf (s : State) (g : Nat) : Option Nat :=
  let x := s.grp g
  if (x.st = .armed || x.st = .waiting || x.st = .running || x.st = .fallback) && s.heldExternal g then
    let ahead := if x.st = .waiting then x.startAt - s.now else 0
    some (ahead * 5 / 1024 + 3000 + Config.portTolerance g s.now)
  else none

/-- The tolerance of the pattern port, for the P segments of external memory that groups play. -/
def State.patTol (s : State) : Option Nat :=
  if (List.range 8).any fun g => match (s.grp g).pat with
      | some p => !dLoc (s.segDesc p.1)
      | none => false
  then some (3000 + Config.portTolerance 8 s.now) else none

/-- DRM_PORTp_TOL: what P0 to P8 report, in µs, and the register of P9 to P12. DESIGN CHOICE: a port that needs no service reports the
greatest value. -/
def State.portTol (s : State) (p : Nat) : Word :=
  if p < 9 then mkW (match (if p < 8 then s.tolOf p else s.patTol) with
    | some n => min (n / 1000) (2 ^ 20 - 1)
    | none => 2 ^ 20 - 1)
  else s.rd .DRM_PORTp_TOL p

/-- The least tolerance of the ports of groups and patterns, at most `n`. -/
def State.leastTol (s : State) (n : Nat) : Nat :=
  ((s.patTol :: (List.range 8).map s.tolOf).filterMap id).foldl min n

/-! ### Maintenance and rest (R401, R406, R407) -/

/-- The slack (R406) where the ports of host, capture, network and firmware, whose requests the model does not hold, leave `n` ns: the
least tolerance of all ports. -/
def State.slackOf (s : State) (n : Nat) : Nat := min (s.leastTol n) (2 ^ 32 - 1)

/-- DRM_SLACK reports the slack; when it has fallen to t_SRX + 1 µs, self-refresh ends (R407, R420). -/
def State.setSlack (s : State) (n : Nat) : State :=
  { s with drm := { s.drm with slack := s.slackOf n, selfref := s.drm.selfref && (!s.drmOn || 1500 < s.slackOf n) } }

/-- MAINTENANCE: an item that is due runs when the slack is at least 2 µs; one that has waited four intervals sets MAINT_LATE,
which clears when every item is current. -/
def State.maintenance (s : State) (slack waited : Nat) (current : Bool) : State :=
  if s.drmOn then
    let s1 := s.setSlack slack
    if 2000 ≤ s.slackOf slack then
      if current then { s1 with drm := { s1.drm with maintLate := false } } else s1
    else if 4 ≤ waited && !s1.drm.maintLate then
      ({ s1 with drm := { s1.drm with maintLate := true } }).bump .DRM_CNT_MAINT_LATE
    else s1
  else s

/-- SELF_REFRESH_ENTRY: no request is queued and the slack is at least SR_THR. -/
def State.selfRefEntry (s : State) (slack : Nat) : State :=
  let s1 := s.setSlack slack
  if s.drmOn && s.rb .DRM_CTL 0 0 0 && !s.drm.selfref && !s.drm.fchgBusy && !s.extTest && s.rf .DRM_SR_THR 0 0 15 0 ≤ s.slackOf slack && 1500 < s.slackOf slack then
    ({ s1 with drm := { s1.drm with selfref := true, powerDown := [] } }).bump .DRM_CNT_SR
  else s1

/-- SELF_REFRESH_EXIT. -/
def State.selfRefExit (s : State) (slack : Nat) : State :=
  let s1 := s.setSlack slack
  if s.drmOn then { s1 with drm := { s1.drm with selfref := false } } else s1

/-- POWER_DOWN_ENTRY of a channel. -/
def State.powerDownEntry (s : State) (c : Nat) : State :=
  if s.drmOn && s.rb .DRM_CTL 0 0 1 && !s.drm.selfref && !s.drm.powerDown.contains c then
    { s with drm := { s.drm with powerDown := c :: s.drm.powerDown } }
  else s

/-! ### Change of frequency (R411, R412) -/

/-- The first condition of R411 that refuses a change. -/
def State.fchgRefused (s : State) (slack : Nat) : Option Nat :=
  if !s.drmOn || !s.drm.fenced.isEmpty then some stNotReady
  else if !s.drm.setTrained.contains (1 - s.drm.active) then some stNotReady
  else if s.drm.fchgBusy || s.extTest then some stBusy
  else if s.slackOf slack < 10000 then some stBusy
  else none

/-- FCHG in DRM_CMD. -/
def State.fchg (s : State) (slack : Nat) : State :=
  let s1 := s.setSlack slack
  match s.fchgRefused slack with
  | some st => (s1.wr .DRM_FCHG_RES 0 0 (putF st 0 ||| bitW true 31)).bump .DRM_CNT_FCHG_REJ
  | none => { s1.wr .DRM_FCHG_RES 0 0 0 with drm := { s1.drm with fchgBusy := true } }

/-- FCHG_DONE: the shadow set is active, after one entry into self-refresh. -/
def State.fchgDone (s : State) : State :=
  if s.drm.fchgBusy then
    let a := 1 - s.drm.active
    let s1 := { s with drm := { s.drm with active := a, fchgBusy := false, powerDown := [], selfref := !s.drmOn && s.drm.selfref } }
    let s2 := if s.drm.selfref then s1 else s1.bump .DRM_CNT_SR
    (s2.wr .DRM_FCHG_RES 0 0 (putF stOK 0 ||| putF a 8 ||| bitW true 31)).bump .DRM_CNT_FCHG
  else s

/-! ### Geometry (R398) -/

/-- The registers of the geometry, by the record's INSTANCE. -/
def geomReg : Nat → RegId
  | 0 => .DRM_GEOM
  | 1 => .DRM_HASH_CH0
  | 2 => .DRM_HASH_CH1
  | 3 => .DRM_HASH_B0
  | 4 => .DRM_HASH_B1
  | _ => .DRM_HASH_B2

/-- DRM_GEOMETRY: a change clears the written bits, demotes segments in external memory, empties the allocation map and is
recorded. -/
def State.geometry (s : State) (inst : Nat) (v : Word) : State :=
  let r := geomReg inst
  let old := s.rd r
  if old = v then s
  else
    let s1 := (s.wr r 0 0 v).logErr 0 14 inst 0x0011 0xFF old.toNat v.toNat
    { s1 with
      ext := []
      segs := s1.segs.map fun (p : Nat × Segment) =>
        if !dLoc p.2.desc && (p.2.st = .valid || p.2.st = .fenced) then (p.1, { p.2 with st := .defined }) else p
      drm := { s1.drm with alloc := [], mapMade := false } }

/-! ### MEM_TEST of external memory (R413, R414, R466) -/

/-- The checks: the status of the first that fails. -/
def State.extTestCheck (s : State) (p : List Word) : Option Nat :=
  let w := wAt p 0
  let addr := (join64 (wAt p 1) (wAt p 2)).toNat
  let len := (wAt p 3).toNat
  if w ≠ 0 ∨ addr % 65536 ≠ 0 ∨ len % 65536 ≠ 0 ∨ s.capacity < addr + len ∨ s.reservedBase < addr + len then some stBadParam
  else if !s.drmOn || s.chanFenced addr len then some stNotReady
  else if s.drm.fchgBusy then some stBusy
  else if !(s.segsOver false addr len).isEmpty || s.mapTaken addr len then some stActive
  else none

/-- A granule that fails (R414): transient, or its block is entered as BAD. -/
def State.granuleFail (s : State) (f : GranuleFail) : State :=
  let c := s.drmChannel f.addr
  if f.again then
    let s1 := s.lasting 14 c 0x000F stFenced (f.addr % 2 ^ 32) (f.addr / 2 ^ 32)
    if s1.mapTaken f.addr 1 then s1
    else (s1.allocPut ⟨f.addr / 65536, 1, 2⟩).getD (s1.bump .DRM_CNT_MAP_FULL)
  else s.transient 14 c 0x000F stRetried (f.addr % 2 ^ 32) (f.addr / 2 ^ 32)

/-- The end of an external test: the range is zero and written. -/
def State.extTestEnd (s : State) (r : CmdRef) (p : List Word) (fails : List GranuleFail) : State :=
  let addr := (join64 (wAt p 1) (wAt p 2)).toNat
  let len := (wAt p 3).toNat
  let fs := fails.filter fun f => addr ≤ f.addr && f.addr < addr + len
  let first := fs.foldl (fun (a : Option Nat) f => match a with
    | some x => some (min x (f.addr / 64 * 64))
    | none => some (f.addr / 64 * 64)) none
  let s1 := s.fill false addr 0 (len / 4)
  let s2 := fs.foldl (fun s f => s.granuleFail f) s1
  let st := if fs.any fun f => f.again then stFenced else if fs.isEmpty then stOK else stRetried
  s2.finish r st [mkW len, mkW fs.length, first.elim 0xFFFFFFFF lo32, first.elim 0xFFFFFFFF hi32]

/-- MEM_TEST with LOC 0: it begins, or, while it runs, ends with the granules that failed. -/
def State.memTestExt (s : State) (q k : Nat) (fails : List GranuleFail) : State :=
  match (s.q q).find k with
  | none => s
  | some c =>
    if bit (wAt c.payload 0) 0 then s
    else if c.hdr.opcode = 0x0801 && s.here q c then s.extTestEnd ⟨q, k⟩ c.payload fails
    else s.run q k 0x0801 fun s c r =>
      match s.extTestCheck c.payload with
      | some st => s.finish r st []
      | none => s

end Sys2Proof.Machine
end

