-- ==== Sys2Proof/Machine/Mgmt.lean ====
section
/-!
DEFINITION. The island's authority over the main side, its supplies and resets, boot, the host link, and faults of
the fabric (R20, R63, R427 to R432, R436 to R442, R473 to R481).
-/
namespace Sys2Proof.Machine

/-! ### The main reset (R476) -/

/-- A register of the MGT block, which no reset of the main side clears (R433). -/
def isMgtOff (off : Nat) : Bool := 0xFA000 ≤ off && off < 0xFC000

/-- The main reset is asserted: the main side takes its reset state; the island, the firmware store and what has been sent
stay (R433, R476). The device leaves the chain (R367). No forwarded command is left for the island's replies to wait for (R430). -/
def State.assertReset (s : State) : State :=
  if s.mgt.rst then s
  else
    { State.reset with
      pending := s.pending
      regs := s.regs.filter fun p => isMgtOff p.1
      fw := { s.fw with session := none }
      mgt := { s.mgt with rst := true, mainRun := false, replies := s.mgt.replies ++ s.mgt.held.map fun p => p.2, held := [] }
      chn := { linkInst := s.chn.linkInst + 1 }
      drawn := s.drawn
      sent := s.sent }

/-- The main reset may be released (R430, R431, R434, R476). -/
def State.mayRelease (s : State) : Bool :=
  s.mgt.mainPwr && !s.mgt.down && !s.mgt.off && s.rb .MGT_CTL 0 0 3 && !s.rb .MGT_CTL 0 0 2

/-- A command of the main side: without effect while the main reset is asserted. -/
def State.onMain (s : State) (f : State → State) : State := if s.mgt.rst then s else f s

/-! ### The safe request and its users (R427 to R431) -/

/-- The island asserts its safe request (R429): cause 2 on a main side that is powered and out of reset. -/
def State.safeRequest (s : State) : State :=
  let s1 := { s with mgt := { s.mgt with safeReq := true } }
  if s.mgt.rst then s1 else s1.safeCauseRaise 2

/-- The safe request, the host interrupt, the main reset and the crash record of RESET_MAIN (R430, steps 1 to 3). -/
def State.resetMainNow (s : State) : State := (((s.safeRequest).irqIf .MGT_INT 0 0).assertReset).crash 4

/-- What SILENT_ACT and LINE_ACT choose (R427, R434). -/
def State.silenceAct (s : State) (act : Nat) : State :=
  match act with
  | 1 => (s.safeRequest).irqIf .MGT_INT 0 0
  | 2 => if s.mgt.mainPwr then s.resetMainNow else s
  | _ => s.irqIf .MGT_INT 0 0

/-- The control processor's heartbeat (R427). -/
def State.heartbeat (s : State) : State :=
  if s.fwReady && !s.mgt.rst && !s.mgt.off then
    { s with mgt := { s.mgt with mainRun := s.mgt.mainPwr, unresp := false, hb := s.vitals } }
  else s

/-- MAIN_UNRESP: no heartbeat for 1 s while MAIN_PWR is 1. -/
def State.mainUnresp (s : State) : State :=
  if s.mgt.mainPwr && !s.mgt.unresp && !s.mgt.off then
    let s1 := { s with mgt := { s.mgt with unresp := true, mainRun := false } }
    ((s1.bump .MGT_CNT_UNRESP).crash 5).silenceAct (s.rf .MGT_CTL 0 0 5 4)
  else s

/-- LINE_SILENCE: the master has been silent for LINE_TO ms. -/
def State.lineSilence (s : State) : State :=
  if s.rf .MGT_LINE_TO 0 0 15 0 = 0 ∨ s.mgt.off then s else s.silenceAct (s.rf .MGT_CTL 0 0 7 6)

/-- LINE_ACTIVE clears after a second without a valid master frame (R434). -/
def State.lineQuiet (s : State) : State := { s with mgt := { s.mgt with lineActive := false } }

/-- A write of MGT_CTL through queue 8: MAIN_RST_HOLD holds the main side in reset, PWR_REQ powers it down or asks for its
supplies (R431, R434). -/
def State.mgtCtl (s : State) (v : Word) : State :=
  let v := v &&& 0xFF
  let old := s.rd .MGT_CTL
  let s1 := s.wr .MGT_CTL 0 0 v
  let s2 := if bit v 2 && !bit old 2 then s1.assertReset else s1
  if bit old 3 && !bit v 3 then
    let s3 := (s2.safeRequest).assertReset
    { s3 with mgt := { s3.mgt with pwrEn := false } }
  else if bit v 3 && !bit old 3 then { s2 with mgt := { s2.mgt with pwrEn := true } }
  else s2

/-- PWR_REQ written through queue 8, the other bits of MGT_CTL unchanged. -/
def State.pwrReq (s : State) (on : Bool) : State := if s.mgt.off then s else s.mgtCtl (setBit (s.rd .MGT_CTL) 3 on)

/-! ### Supplies and resets (R473 to R478) -/

/-- The island powers on: the MGT registers and the crash ring are clear, PWR_EN rises, the main reset is asserted. -/
def State.islandOn (s : State) : State :=
  let s1 := s.assertReset
  { s1 with regs := s1.regs.filter fun p => !isMgtOff p.1, mgt := { rst := true, down := s.mgt.down } }

/-- VDD_MG is lost: the island stops and PWR_EN falls. -/
def State.islandOff (s : State) : State :=
  { s with mgt := { s.mgt with off := true, pwrEn := false, lineActive := false } }

/-- The main supplies come within range (R427); the main reset is released when BOOT begins. -/
def State.mainPwrUp (s : State) : State := if s.mgt.off then s else { s with mgt := { s.mgt with mainPwr := true } }

/-- MAIN_PWR clears (R475). -/
def State.mainPwrLoss (s : State) : State :=
  if s.mgt.mainPwr && !s.mgt.off then
    let s1 := (s.safeRequest).assertReset
    ({ s1 with mgt := { s1.mgt with mainPwr := false, mainRun := false } }).crash 3
  else s

/-- RST_N goes low, for at least 1 µs, or high (R476). -/
def State.rstN (s : State) (low : Bool) : State :=
  let s1 := { s with mgt := { s.mgt with down := low } }
  if low then s1.assertReset else s1

/-- A main supply crosses a cause-6 threshold for 2 µs (R474, R485). -/
def State.brownOut (s : State) (n : Nat) : State :=
  if s.rb .SYS_PWR 0 0 n then s
  else ((s.wrb .SYS_PWR 0 0 n true).bump .SYS_CNT_BROWNOUT).safeCauseRaise 6

/-- Every supply has been back within its thresholds for 1 ms. -/
def State.brownOutClear (s : State) : State := (s.wr .SYS_PWR 0 0 0).safeCauseGone 6

/-! ### Host link (R63, R347) -/

/-- The PCI Express link goes down, or trains to a speed code and a width; a training below x4 or 16 GT/s is counted. -/
def State.hostLink (s : State) (up : Bool) (speed width : Nat) : State :=
  if up then
    let s1 := { s with link := ⟨speed, width, true⟩ }
    if width < 4 ∨ speed < 4 then s1.bump .HST_CNT_DOWNTRAIN else s1
  else { s with link := ⟨0, 0, false⟩ }

/-- HST_LINK (R63). -/
def State.hstLink (s : State) : Word := putF s.link.speed 0 ||| putF s.link.width 4 ||| bitW s.link.up 9

/-! ### Boot (R386, R390, R480, R481) -/

/-- A row that the fuses or the start-up test replace. -/
def State.bistRow (s : State) (x : BistRow) : State :=
  let n := x.set.val
  if x.factory then
    s.modBset n fun y => { y with spares := y.spares.set x.bank.val (min 4 (y.spares.getD x.bank.val 0 + 1)) }
  else s.repair n x.bank.val (n * setBytes + x.row * 8192 + x.bank.val * 8)

/-- The start-up test: every word is zero, failing rows are repaired, a set that cannot be repaired is FENCED (R386). -/
def State.bist (s : State) (rows : List BistRow) : State :=
  let s1 := rows.foldl (fun s x => s.bistRow x) { s with onchip := [] }
  let fail := (List.range 8).any fun n => (s1.bset n).fenced
  { s1 with mem := { s1.mem with bistDone := true, bistFail := fail } }

/-- The CRC-32C of the sine table of R216, which R222 fixes: the value of `crc32c (sineBytes 16384)`. -/
def sineCrc : Word := 0x8157CEE3

/-- The CRC of the sine table, as firmware has written it, is checked (R222, R225). -/
def State.tableCheck (s : State) (crc : Word) : State :=
  ((s.wr .HRM_TBL_CRC 0 0 crc).wrb .HRM_STATUS 0 0 0 (crc = sineCrc)).wrb .HRM_STATUS 0 0 1 (crc ≠ sineCrc)

/-- Firmware is ready (R480, step 6): its version, the band tables of the factory record, the sine table, the power permits. `table` is
the CRC-32C of the sine table that it writes: its code is outside the manual. -/
def State.firmwareUp (s : State) (slot reasonA reasonB : Nat) (fallback : Bool) (version table : Word) : State :=
  let s1 := { (s.wr .SYS_FWVER 0 0 version) with fwReady := true }
  let s2 := (List.range 128).foldl (fun s i =>
    (s.wr .PLLx_BAND_RANGE_k (i / 64) (i % 64) (Config.factoryBand (i / 64) (i % 64) 0)).wr .PLLx_BAND_TRIM_k (i / 64) (i % 64)
      (Config.factoryBand (i / 64) (i % 64) 1 &&& 0x800000FF)) s1
  let s3 := (s2.tableCheck table).wr .MEM_PWR_PERMIT 0 0 0xFC
  (s3.wr .SYS_BOOT 0 0 (putF slot 0 ||| bitW fallback 2 ||| bitW true 5 ||| putF reasonA 8 ||| putF reasonB 12)).heartbeat

/-- Both slots failed: recovery (R481). -/
def State.recoveryUp (s : State) (reasonA reasonB : Nat) : State :=
  ({ (s.wr .SYS_BOOT 0 0 (bitW true 3 ||| putF reasonA 8 ||| putF reasonB 12)) with fwReady := true }).heartbeat

/-- Steps 4 to 6 of R480: the active slot, then the other. `readErr` says which slots give a read error. -/
def State.bootImage (s : State) (readErr : Nat → Bool) (table : Word) : State :=
  let a := s.fw.active % 2
  let reason (i : Nat) : Nat := if readErr i then 4 else imageReason (s.slotImage i)
  let ra := reason a
  let rb := reason (1 - a)
  let reasonOf (i : Nat) : Nat := if i = a then ra else if ra = 0 then 0 else rb
  if ra = 0 then s.firmwareUp a 0 0 false (imageVersion (s.slotImage a)) table
  else if rb = 0 then
    s.firmwareUp (1 - a) (reasonOf 0) (reasonOf 1) true (imageVersion (s.slotImage (1 - a))) table
  else s.recoveryUp (reasonOf 0) (reasonOf 1)

/-- BOOT: the main reset is released, RESET_MAIN is answered, and the device boots. `rows` are the rows that the fuses and the
start-up test replace, `link` the speed and width that the host link trains to. The safe request that came with the reset
is released with it. -/
def State.bootNow (s : State) (rows : List BistRow) (readErrA readErrB : Bool) (link : Option (Nat × Nat)) (table : Word) : State :=
  let s0 := { s with mgt := { s.mgt with rst := false, safeReq := false } }
  let s1 := s0.bist rows
  if (s1.bset 0).fenced || (s1.bset 1).fenced then s1.wr .SYS_BOOT 0 0 (bitW true 4)
  else
    let s2 := match link with
      | some l => s1.hostLink true l.1 l.2
      | none => s1
    s2.bootImage (fun i => if i = 0 then readErrA else readErrB) table

/-! ### The control fabric (R20, R436, R438, R440) -/

/-- HANDSHAKE_TIMEOUT: the step is withdrawn and offered once more; on a second failure its group is fenced, or a shared stage
brings the device into safe state with cause 4. It is one lasting fault, counted once, with the fence or without (R436). -/
def State.handshake (s : State) (stage tag : Nat) (grp : Option Nat) (again : Bool) : State :=
  let s1 := s.bump .ERR_CNT_HSK_TO
  if !again then s1.transient 23 0 0x0012 0xFF stage tag
  else
    let s2 := s1.bump .ERR_CNT_HSK_TO
    match grp with
    | some g => (s2.logErr 2 23 0 0x0012 0xFF stage tag).fenceGroup g stage
    | none => (s2.lasting 23 0 0x0012 0xFF stage tag).safeCauseRaise 4

end Sys2Proof.Machine
end

