-- ==== Sys2Proof/Machine/Views.lean ====
section
/-!
DEFINITION. What a read of a register returns (R67, R68, R75): a status register is a view of the state, every other
register returns the value in effect; and the latches of each master.
-/
namespace Sys2Proof.Machine

/-! ### Words over the instances of a block -/

/-- SYS_ID (R82). -/
def sysId : Word := putF 0x4810 0 ||| putF (Config.grade % 2) 16 ||| putF (Config.siliconRev % 256) 20

/-- SYS_ADDR (R81). -/
def State.sysAddr (s : State) : Word := putF s.ownAddr 0 ||| bitW s.isRoot 16

/-- An enable of SYS_EN whose change waits for every group to stop (R223, R248, R260). -/
def State.pendRun (s : State) (b : Nat) : Bool := s.anyRunning && s.enWait.contains b

/-- HRM_STATUS (R225). -/
def State.hrmStatus (s : State) : Word :=
  bitW (s.rb .HRM_STATUS 0 0 0) 0 ||| bitW (s.rb .HRM_STATUS 0 0 1) 1 ||| bitW (s.pendRun 4) 2 ||| bitW (s.rb .HRM_STATUS 0 0 3) 3

/-- The partial that HRM_PEEK_SEL names (R224). -/
def State.peek (s : State) : Partial := s.prt (prtKey (s.rf .HRM_PEEK_SEL 0 0 12 8) (s.rf .HRM_PEEK_SEL 0 0 5 0))

/-- CHn_STATUS (R251): a channel that does not run fetches nothing that could be stopped. -/
def State.chStatus (s : State) (c : Nat) : Word :=
  let x := s.chan c
  bitW x.run 0 ||| bitW x.clipped 1 ||| bitW (x.run && s.fetchStop c) 2 ||| bitW x.conflict 3

/-- A DAC presents a running source (R248). -/
def State.dacSourced (s : State) (d : Nat) : Bool := (s.dac d).mode = .live

/-- A DAC is ramping (R258). -/
def State.dacRamping (s : State) (d : Nat) : Bool :=
  match (s.dac d).mode with
  | .ramp _ _ _ => true
  | _ => false

/-- An output in OFF or RETRY. -/
def Prot.short (p : Prot) : Bool := p = .off || p = .retry

/-- Time as the LO, HI and XHI words of a time register. -/
def timeLo (t : Nat) : Word := mkW (tickOf t)
def timeHi (t : Nat) : Word := mkW (secOf t)
def timeXhi (t : Nat) : Word := mkW (secOf t / 2 ^ 32 + grainOf t * 65536)

/-- The time of a check window's start as it is set, 48-bit seconds without a grain (R250). -/
def cwXhi (t : Nat) : Word := mkW (secOf t / 2 ^ 32)

/-- The index of the last presented sample; zero before the first. -/
def State.sampleIdx (s : State) (g : Nat) : Nat := (s.grp g).n - 1

/-- Gn_TBL_DATA: a word of the entry in effect (R198). -/
def State.tblData (s : State) (g : Nat) : Word := wAt (s.entry g (s.rf .Gn_TBL_ADDR g 0 9 0)) (s.rf .Gn_TBL_ADDR g 0 12 10)

/-- NET_STATUS (R333). -/
def State.netStatus (s : State) : Word := flagsW (fun p => (s.netp p).link) 4 ||| bitW s.ptp.lock 8

/-- NET_Pp_STATUS (R334). -/
def State.netPortStatus (s : State) (p : Nat) : Word :=
  let x := s.netp p
  bitW x.link 0 ||| bitW x.anDone 1 ||| bitW x.run 2

/-- The UTC offset comes from the grandmaster (R95): REF_SEL 2 with the device as PTP slave. -/
def State.fromPtp (s : State) : Bool := s.rf .TB_CTL 0 0 2 0 = 2 && s.ptp.run && !bit (wAt s.ptp.cfg 0) 8

/-- TB_UTC_OFS (R95, R101). -/
def State.utcWord (s : State) : Word := (s.rd .TB_UTC_OFS &&& 0x1FFFF) ||| bitW s.fromPtp 17

/-- MEM_STATUS (R392). -/
def State.memStatus (s : State) : Word :=
  bitW s.mem.bistDone 0 ||| bitW s.mem.bistFail 1 ||| bitW s.mem.castle.isSome 2 |||
    bitW (s.tests fun c => bit (wAt c.payload 0) 0) 3

/-- MEM_SETn_STATUS (R393). -/
def State.setStatus (s : State) (n : Nat) : Word :=
  let x := s.bset n
  putF x.pwr 0 ||| putF (s.owner n) 2 ||| bitW x.trans.isSome 4 ||| bitW x.fenced 5 ||| bitW (s.testing n) 6 |||
    bitW x.field 7 ||| putF x.spareUsed 8

/-- DRM_ALLOC_LO_k and DRM_ALLOC_HI_k (R416). -/
def State.allocLo (s : State) (k : Nat) : Word :=
  match KMap.find? s.drm.alloc k with
  | some a => putF a.first 0 ||| putF a.owner 20
  | none => 0

def State.allocHi (s : State) (k : Nat) : Word :=
  match KMap.find? s.drm.alloc k with
  | some a => putF a.len 0
  | none => 0

/-- The base address of the capture ring; zero without one (R309). -/
def State.capBase (s : State) : Nat := ((s.allocOf 4).map fun (a : Alloc) => a.first * 65536).getD 0

/-- A word of the error-log record that ERR_LOG_IDX names (R457). -/
def State.logRec (s : State) (i : Nat) : Word :=
  match ringAt s.err.log s.err.wr (s.rd .ERR_LOG_IDX) with
  | some b => mkW (leAt b (4 * i) 4)
  | none => 0

/-- A 64-bit field pair confined to ±2^62 (R106, R119). -/
def State.confined (s : State) (lo hi : RegId) (g : Nat) : W64 := BitVec.ofInt 64 (confine62 (s.rd64 lo hi g).toInt)

def lo64 (x : W64) : Word := lo32 x.toNat
def hi64 (x : W64) : Word := hi32 x.toNat

/-! ### Reads -/

/-- What an instance of a register reads as, without its latch. -/
def State.view (s : State) (r : RegId) (i j : Nat) : Word :=
  match r with
  | .HST_LINK => s.hstLink
  | .HST_INFLIGHT => mkW s.inflight
  | .SYS_ID => sysId
  | .SYS_ADDR => s.sysAddr
  | .SYS_EPOCH_LO => lo64 s.epoch
  | .SYS_EPOCH_HI => hi64 s.epoch
  | .TB_STATUS => s.tbStatus
  | .TB_NOW_LO => timeLo s.now
  | .TB_NOW_HI => timeHi s.now
  | .TB_NOW_XHI => timeXhi (s.now / 256 * 256)
  | .TB_UTC_OFS => s.utcWord
  | .TB_STEER => wordOfInt s.tb.steer
  | .TB_PPSIN_LO => timeLo s.tb.ppsIn
  | .TB_PPSIN_HI => timeHi s.tb.ppsIn
  | .Gn_ANGLE_LO => lo64 (s.grp i).a
  | .Gn_ANGLE_HI => hi64 (s.grp i).a
  | .Gn_FNOW_LO => lo64 (s.grp i).f
  | .Gn_FNOW_HI => hi64 (s.grp i).f
  | .Gn_TURN_LO => lo64 (s.grp i).turn
  | .Gn_TURN_HI => hi64 (s.grp i).turn
  | .Gn_FMIN_LO => lo64 (s.confined .Gn_FMIN_LO .Gn_FMIN_HI i)
  | .Gn_FMIN_HI => hi64 (s.confined .Gn_FMIN_LO .Gn_FMIN_HI i)
  | .Gn_FMAX_LO => lo64 (s.confined .Gn_FMAX_LO .Gn_FMAX_HI i)
  | .Gn_FMAX_HI => hi64 (s.confined .Gn_FMAX_LO .Gn_FMAX_HI i)
  | .Gn_ASTEP_LO => lo64 (s.confined .Gn_ASTEP_LO .Gn_ASTEP_HI i)
  | .Gn_ASTEP_HI => hi64 (s.confined .Gn_ASTEP_LO .Gn_ASTEP_HI i)
  | .Gn_FOL_ERR => (s.grp i).folErr
  | .Gn_ANG_STATUS => s.angStatus i
  | .PLLx_STATUS => s.pllStatus i
  | .PLLx_FCOUNT => mkW (s.pll i).fcount
  | .PLLA_STATUS => s.pllaStatus
  | .PLLA_FRAC => s.pllaFrac
  | .Gn_STATUS => s.grpStatus i
  | .Gn_ENTRY => s.entryWord i
  | .Gn_SAMPLE_LO => lo32 (s.sampleIdx i)
  | .Gn_SAMPLE_HI => hi32 (s.sampleIdx i)
  | .Gn_LASTSW_LO => timeLo (s.grp i).lastSw
  | .Gn_LASTSW_HI => timeHi (s.grp i).lastSw
  | .Gn_LASTSW_XHI => timeXhi (s.grp i).lastSw
  | .Gn_LASTSW_INFO => (s.grp i).lastInfo
  | .Gn_GAMBIT => s.gambit i
  | .Gn_TBL_DATA => s.tblData i
  | .EVT_STATUS => bitW s.evtFull 0
  | .EVT_LOG_WR => s.ev.wr
  | .EVT_LOG_RD => s.ev.rd
  | .EVT_TM_STATUS => s.ev.tmFired ||| (s.ev.tmPast <<< 8)
  | .HRM_STATUS => s.hrmStatus
  | .HRM_PEEK_AMP_LO => lo32 s.peek.peekAmp
  | .HRM_PEEK_AMP_HI => hi32 s.peek.peekAmp
  | .HRM_PEEK_ANG_LO => lo64 s.peek.q
  | .HRM_PEEK_ANG_HI => hi64 s.peek.q
  | .OUT_STATUS => bitW (s.pendRun 5) 0
  | .OUT_DAC_SOURCED => flagsW s.dacSourced 32
  | .OUT_DAC_RAMP => flagsW s.dacRamping 32
  | .CHn_STATUS => s.chStatus i
  | .CHn_VALUE => (s.chan i).value
  | .CHn_CW_STATUS_k => cwStatus (s.win (4 * i + j))
  | .CHn_CW_START_LO_k => timeLo (s.win (4 * i + j)).cur.start
  | .CHn_CW_START_HI_k => timeHi (s.win (4 * i + j)).cur.start
  | .CHn_CW_START_XHI_k => cwXhi (s.win (4 * i + j)).cur.start
  | .CHn_CW_COUNT_k => mkW (s.win (4 * i + j)).cur.count
  | .CHn_CW_EXPECT_k => (s.win (4 * i + j)).cur.expect
  | .CHn_CW_CRC_k => (s.win (4 * i + j)).crc
  | .CHn_CW_DONE_k => mkW (s.win (4 * i + j)).done
  | .DAC_STATUS => bitW (s.pendRun 6) 0 ||| bitW (s.rb .DAC_STATUS 0 0 1) 1
  | .DAC_UNDERRUN => flagsW (fun d => (s.dac d).underrun) 32
  | .DAC_SHORT => flagsW (fun d => (s.dac d).prot.short) 32
  | .DAC_FENCED => flagsW (fun d => (s.dac d).prot = .fenced) 32
  | .DAC_MIDSCALE => flagsW s.dacMidscale 32
  | .DAC_CODE_d => mkW ((s.dac i).code % 2 ^ 20).toNat
  | .PAT_MK_LEVEL => flagsW s.mkLevel 16
  | .PAT_RUN_LO => s.pinWord 0 State.pinRuns
  | .PAT_RUN_HI => s.pinWord 32 State.pinRuns
  | .PAT_LEVEL_LO => s.pinWord 0 fun s n => s.pinLevel n = some true
  | .PAT_LEVEL_HI => s.pinWord 32 fun s n => s.pinLevel n = some true
  | .PAT_SHORT_LO => s.pinWord 0 fun s n => (s.pin n).prot.short
  | .PAT_SHORT_HI => s.pinWord 32 fun s n => (s.pin n).prot.short
  | .PAT_FENCED_LO => s.pinWord 0 fun s n => (s.pin n).prot = .fenced
  | .PAT_FENCED_HI => s.pinWord 32 fun s n => (s.pin n).prot = .fenced
  | .PAT_OVR_LO => s.pinWord 0 fun s n => (s.pin n).ovr.isSome
  | .PAT_OVR_HI => s.pinWord 32 fun s n => (s.pin n).ovr.isSome
  | .PAT_DRIVE_LO => s.pinWord 0 fun s n => s.pinDecides n = some true
  | .PAT_DRIVE_HI => s.pinWord 32 fun s n => s.pinDecides n = some true
  | .PAT_PAIR_ERR => flagsW s.pairErr 32
  | .BIN_STATE => flagsW (fun n => (s.bin n).state) 32
  | .BIN_RAW => flagsW (fun n => (s.bin n).raw) 32
  | .BIN_VALID => flagsW (fun n => (s.bin n).valid) 32
  | .BIN_TIME_LO_n => timeLo (s.bin i).time
  | .BIN_TIME_HI_n => timeHi (s.bin i).time
  | .ADC_CAP_CTL => (s.rd .ADC_CAP_CTL &&& 0x7F) ||| bitW (s.allocOf 4).isSome 31
  | .ADC_CAP_BASE_LO => lo32 s.capBase
  | .ADC_CAP_BASE_HI => hi32 s.capBase
  | .ADCn_STATUS => s.adcStatus i
  | .NET_STATUS => s.netStatus
  | .NET_Pp_STATUS => s.netPortStatus i
  | .NET_PTP_STATUS => s.ptpStatus
  | .NET_PTP_GMID_LO => ((s.ptp.master.map fun (x : W64) => lo64 x).getD 0)
  | .NET_PTP_GMID_HI => ((s.ptp.master.map fun (x : W64) => hi64 x).getD 0)
  | .NET_SV_STATUS_s => bitW (s.sv i).run 0 ||| (s.rd .NET_SV_STATUS_s i &&& 6)
  | .NET_GS_STATUS_d => (s.gs i).status
  | .NET_GS_STNUM_d => mkW (s.gs i).stNum
  | .NET_GS_SQNUM_d => mkW (s.gs i).sqNum
  | .CHN_STATUS => s.chnStatus
  | .CHN_SUBTREE => mkW s.chn.route.length
  | .CHN_Pp_STATUS => s.chnPortStatus i
  | .CHN_Pp_DELAY => if i = 0 then wordOfInt (delayMean (s.port 0).delays) else 0
  | .CHN_Pp_PARTNER => s.chnPartner i
  | .MEM_STATUS => s.memStatus
  | .MEM_SETn_OWN => mkW (s.rawOwner i)
  | .MEM_SETn_STATUS => s.setStatus i
  | .DRM_STATUS => s.drmStatus
  | .DRM_SLACK => mkW s.drm.slack
  | .DRM_MR4 => s.mr4Word
  | .DRM_CAPACITY => mkW s.capacityMiB
  | .DRM_PORTp_TOL => s.portTol i
  | .DRM_TSt_CTL => (s.rd .DRM_TSt_CTL i &&& 7) ||| bitW (s.drm.setTrained.contains i) 8
  | .DRM_ALLOC_LO_k => s.allocLo i
  | .DRM_ALLOC_HI_k => s.allocHi i
  | .MGT_STATUS => s.mgtStatus
  | .ERR_STATUS => s.errStatus
  | .ERR_SAFE_CAUSE => s.safeCause
  | .ERR_GFENCED => s.err.gfenced
  | .ERR_LOG_WR => s.err.wr
  | .ERR_LOG_RD => s.err.rd
  | .ERR_LOG_REC_i => s.logRec i
  | _ => if r.row.acc = .wo then 0 else s.rd r i j

/-! ### Latches (R67, R68, R91, R100, R108, R110, R195, R286, R312, R333, R369, R457) -/

/-- The registers that a read of a register latches. -/
def latchedBy (ref : RegRef) : List RegRef :=
  let one (r : RegId) : List RegRef := [(r, ref.2.1, ref.2.2)]
  match ref.1 with
  | .SYS_EPOCH_LO => one .SYS_EPOCH_HI
  | .TB_NOW_LO => one .TB_NOW_HI ++ one .TB_NOW_XHI
  | .TB_PPSIN_LO => one .TB_PPSIN_HI
  | .Gn_ANGLE_LO => one .Gn_ANGLE_HI
  | .Gn_FNOW_LO => one .Gn_FNOW_HI
  | .Gn_TURN_LO => one .Gn_TURN_HI
  | .Gn_SAMPLE_LO => one .Gn_SAMPLE_HI
  | .Gn_LASTSW_LO => one .Gn_LASTSW_HI ++ one .Gn_LASTSW_XHI ++ one .Gn_LASTSW_INFO
  | .HRM_PEEK_AMP_LO => one .HRM_PEEK_AMP_HI
  | .HRM_PEEK_ANG_LO => one .HRM_PEEK_ANG_HI
  | .BIN_TIME_LO_n => one .BIN_TIME_HI_n
  | .ADCn_RES_e => one .ADCn_TS_e
  | .NET_PTP_GMID_LO => one .NET_PTP_GMID_HI
  | .CHN_CENSUS_EPOCH_LO => one .CHN_CENSUS_EPOCH_HI
  | .ERR_LOG_REC_i => if ref.2.1 = 0 then (List.range 7).map fun i => (RegId.ERR_LOG_REC_i, i + 1, 0) else []
  | _ => []

/-- The place of a master's latch of a register: the masters are 0 for direct reads and 1 + q for queue q. -/
def latchKey (master off : Nat) : Nat := master * 2 ^ 20 + off

/-- A read of a BAR0 offset by a master: an unmapped offset reads zero; a latched register returns its latch; a latching
register loads the latches of its master. -/
def State.readReg (s : State) (master off : Nat) : Word × State :=
  match RegId.at? off with
  | none => (0, s)
  | some ref =>
    let v := (KMap.find? s.latches (latchKey master off)).getD (s.view ref.1 ref.2.1 ref.2.2)
    let l := (latchedBy ref).foldl (fun (l : KMap Word) (p : RegRef) =>
      KMap.insert l (latchKey master (p.1.off p.2.1 p.2.2)) (s.view p.1 p.2.1 p.2.2)) s.latches
    (v, { s with latches := l })

/-- Reads of `n` consecutive registers, one by one in ascending order (R51, R68). -/
def State.readRegs (s : State) (master off : Nat) : Nat → List Word × State
  | 0 => ([], s)
  | n + 1 =>
    let x := s.readReg master off
    let y := x.2.readRegs master (off + 4) n
    (x.1 :: y.1, y.2)

end Sys2Proof.Machine
end

