-- ==== Sys2Proof/Machine/Regs.lean ====
section
/-!
DEFINITION. Writes to registers (R51 to R53, R66 to R79, R81, R428): when a write is ignored and why, what a write that is
taken does, direct writes to BAR0 and BAR2, and the register commands of the queues.
-/
namespace Sys2Proof.Machine

/-! ### Why a write is ignored (R74) -/

/-- The running bit that governs the configuration fields of a register (R70, R73); `val` is the value to be written. -/
def State.governed (s : State) (ref : RegRef) (val : Word) : Bool :=
  let (r, i, _) := ref
  let leads (w : Word) : Bool := fld w 2 0 = 1 && s.grpRunning (fld w 6 4)
  match r.row.gov with
  | .none => false
  | .sys b => s.running b
  | .group => s.grpRunning i
  | .groupBind => s.grpRunning i || leads (s.rd r i) || leads val
  | .chan => (s.chan i).run || s.grpRunning (s.chGroup i) || s.grpRunning (fld val 6 4)
  | .pll => s.pllRunning i
  | .ckout => s.rb .CKOUT_STATUS 0 0 i
  | .tmArm => s.rb .EVT_TM_CTL_k i 0 0
  | .pin =>
    -- PAIR and DT of an even lane name the odd lane too
    let spans : Bool := r = .PAT_LANE_n ∧ i % 2 = 0 ∧ (s.rd r i ^^^ val) &&& 0xFF0400 ≠ 0
    s.pinRuns i || (spans && s.pinRuns (i + 1))
  | .marker => s.mkRuns i
  | .bin => s.binOn i
  | .adc => (s.adc i).run
  | .adcCap => (List.range 16).any fun u => s.rb .ADCn_CTL u 0 3
  | .netPort => (s.netp i).run
  | .chnPort => s.chnOn && s.rb .CHN_Pp_CTL i 0 0

/-- A write touches fields of a mask: all that the register has, or some that it changes (R74). -/
def touches (row : RegRow) (mask : Nat) (old val : Word) : Bool :=
  mask ≠ 0 && (mask = row.mask || (old ^^^ val) &&& mkW mask ≠ 0)

/-- A register of the queue-8 fields (R428). -/
def RegId.q8 (r : RegId) : Bool := r = .MGT_CTL || r = .MGT_LINE_TO

/-- SAFE_CLR is written and would leave a cause present (R454). -/
def State.safeClrBad (s : State) (q8 : Bool) (val : Word) : Bool := bit val 0 && s.safeClrLeft q8 ≠ 0

/-- A SAFE_CLR that leaves a cause present: cause 3 from a host while cause 2 is present, else the cause is open. -/
def State.safeClrCause (s : State) (q8 : Bool) : Nat :=
  if !q8 && bit s.err.present 1 then 3 else [1, 2, 3, 5].getD (Config.safeClrCause s.drawn % 4) 3

/-- A value that a chapter does not permit for its register (cause 3 of R74). -/
def State.notPermitted (s : State) (q8 : Bool) (ref : RegRef) (val : Word) : Bool :=
  let (r, i, _) := ref
  match r with
  | .TB_UTC_OFS => s.fromPtp
  | .EVT_TM_CTL_k => bit val 0 && !s.tmArmOk i
  | .DAC_FENCE_CLR => s.dacClrBad val
  | .PAT_FENCE_CLR_LO => s.patClrBad 0 val
  | .PAT_FENCE_CLR_HI => s.patClrBad 32 val
  | .ADCn_CMD => bit val 1 && !(s.adc i).fenced
  | .ADC_CAP_CTL => 64 < fld val 7 0 || (s.capSize (fld val 7 0)).isNone
  | .MEM_SETn_OWN => i < 2 || fld val 1 0 = 3
  | .DRM_PORTp_TOL => i < 9
  | .ERR_CMD => s.gfenceClrBad (fld val 15 8) || (s.safeClrBad q8 val && s.safeClrCause q8 = 3)
  | .MGT_HEARTBEAT => true
  | _ => r.q8 && !q8

/-- A second request before the first has taken effect (cause 5 of R74). -/
def State.requestPending (s : State) (q8 : Bool) (ref : RegRef) (val : Word) : Bool :=
  let (r, i, _) := ref
  match r with
  | .PLLx_APPLY => bit val 0 && (s.pll i).applyAt.isSome
  | .ADCn_CMD => bit val 0 && (s.adc i).applyPend
  | .MEM_CASTLE => s.mem.castle.isSome
  | .ERR_CMD => s.safeClrBad q8 val && s.safeClrCause q8 = 5
  | _ => false

/-- The running group whose set takes a write to a staged field (R77); none where the write takes effect at once. -/
def State.stageGroup (s : State) (ref : RegRef) (val : Word) : Option Nat :=
  if ref.1.row.cls = .staged then
    match s.stagedOwner ref val with
    | some g => if s.grpRunning g then some g else none
    | none => none
  else none

/-- The cause for which a whole-width write of a register is ignored: the first of 3, 2, 1 and 5 that applies (R74). -/
def State.writeCause (s : State) (q8 : Bool) (off : Nat) (val : Word) : Option Nat :=
  match RegId.at? off with
  | none => some 3
  | some ref =>
    let row := ref.1.row
    let old := s.rd ref.1 ref.2.1 ref.2.2
    let erc : Bool := ref.1 = .ERR_CMD && s.safeClrBad q8 val
    if row.acc = .ro || row.acc = .rs || s.notPermitted q8 ref val then some 3
    else if (touches row row.lockMask old val && s.rb .SYS_LOCK 0 0 row.lockBit)
        || (s.gainDenied (off, val) && (s.stageGroup ref val).isNone) || (erc && s.safeClrCause q8 = 2) then some 2
    else if (touches row row.cfg old val && s.governed ref val) || s.routeMoves (off, val) || (erc && s.safeClrCause q8 = 1) then
      some 1
    else if s.requestPending q8 ref val then some 5
    else none

/-- What still acts of an ignored write: the operational fields of a register that mixes them with configuration fields
(R74), and the bits of a command register that name something they may act on. -/
def State.actsStill (s : State) (q8 : Bool) (ref : RegRef) (cause : Nat) (val : Word) : Option Word :=
  let (r, i, j) := ref
  let keep := r.row.cfg ||| r.row.lockMask
  match r with
  | .DAC_FENCE_CLR | .PAT_FENCE_CLR_LO | .PAT_FENCE_CLR_HI => some val
  | .ADCn_CMD => some (setBit (setBit val 0 (bit val 0 && !(s.adc i).applyPend)) 1 (bit val 1 && (s.adc i).fenced))
  | .ERR_CMD => some (setBit val 0 (bit val 0 && !s.safeClrBad q8 val))
  | _ =>
    if (cause = 1 || cause = 2) && r.row.acc = .rw && r.row.cls = .op && keep ≠ 0 && keep ≠ r.row.mask then
      some (blend (mkW keep) val (s.rd r i j))
    else none

/-! ### What a write does -/

/-- The blocks whose counters a bit of SYS_CNT_RESET clears (R81). -/
def cntBit (v : Word) (b : Blk) (i : Nat) : Bool :=
  match b with
  | .tb => bit v 0
  | .plla => bit v 1
  | .pllx => bit v (2 + i)
  | .hrm => bit v 4
  | .out => bit v 5
  | .dac => bit v 6
  | .pat => bit v 7
  | .bin => bit v 8
  | .evt => bit v 9
  | .net => bit v 10
  | .chn => bit v 11
  | .mem => bit v 12
  | .drm => bit v 13
  | .hst => bit v 16
  | .err => bit v 17
  | .sys => bit v 20
  | .group => bit v 21
  | .chan => bit v 22
  | .adc => bit v 23
  | .adcCap => bit v 23
  | .mgt => false

/-- A register at an offset is a counter of a named block. -/
def cntNamed (v : Word) (off : Nat) : Bool :=
  match RegId.at? off with
  | some (r, i, _) => r.row.acc = .rs && cntBit v r.blk i
  | none => false

/-- SYS_CNT_RESET (R76, R81): the counters of the named blocks read zero. -/
def State.cntReset (s : State) (v : Word) : State :=
  let s1 := { s with regs := s.regs.filter fun (p : Nat × Word) => !cntNamed v p.1 }
  if bit v 16 then
    { s1 with queues := s1.queues.map fun (p : Nat × Queue) =>
      (p.1, { p.2 with cntCrc := 0, cntDup := 0, cntSkip := 0, cntTimeout := 0, cntIgnored := 0 }) }
  else s1

/-- A bit of SYS_EN takes effect, as SYS_EN already holds it (R72). -/
def State.blockSet (s : State) (b : Nat) (on : Bool) : State :=
  match b with
  | 0 => if on then s.tbStart else s.tbStop
  | 1 => s.pllAEnable on
  | 2 => s.pllEnable 0 on
  | 3 => s.pllEnable 1 on
  | 4 | 5 | 6 => s.enAsk State.dacBlock b
  | 7 => s.patEnable on
  | 8 => s.binEnable on
  | 9 => s.evtEnable on
  | 10 => if on then s.netStart else s.netStop
  | 11 => if on then s.chnStart else s.chnStop
  | 12 => s.memEnable on
  | _ => s.drmEnable

/-- A write of SYS_EN (R16, R71, R72): each bit that changes takes effect, and a 1 for a block that does not run tries its start. -/
def State.sysEn (s : State) (v : Word) : State :=
  let old := s.rd .SYS_EN
  let s1 := s.wr .SYS_EN 0 0 v
  let s2 := (List.range 14).foldl (fun s b =>
    if bit v b != bit old b || (bit v b && !s.running b) then s.blockSet b (bit v b) else s) s1
  if v = old then s2 else s2.slackRestart

/-- The interval of the slack monitor restarts when an instance's EN bit changes (R16). -/
def State.enChanged (s : State) (old new : Word) (b : Nat) : State := if bit old b = bit new b then s else s.slackRestart

/-- A write of PAT_LANE_n (R269, R275): a keeper takes the level at the pin over where FUNC changes, low where the
pin is off and pulled down; EN starts or stops the pin. -/
def State.laneCtl (s : State) (n : Nat) (v : Word) : State :=
  let old := s.rd .PAT_LANE_n n
  let lvl := s.pinLevel n
  let s1 := if fld old 2 1 = fld v 2 1 || !s.patOn then s else s.modPin n fun p => { p with keeper := some (lvl.getD false) }
  let s2 := s1.wr .PAT_LANE_n n 0 v
  -- two lanes that become a pair bring the levels they drive
  let s3 := if n % 2 = 0 && !bit old 10 && bit v 10 then
      s2.setPair (n / 2) { a := lvl = some true, b := s.pinLevel (n + 1) = some true } else s2
  let s4 := if bit v 0 then (if (s3.pin n).en then s3 else s3.pinEnable n true) else if bit old 0 then s3.pinEnable n false else s3
  (s4.settlePairs s4.now).enChanged old v 0

/-- A write of CHn_CTL (R229, R230): the enable acts at the group's next turn mark; clearing it clears SLOT_CONFLICT. -/
def State.chanCtl (s : State) (c : Nat) (v : Word) : State :=
  let old := s.rd .CHn_CTL c
  let s1 := s.wr .CHn_CTL c 0 v
  let s2 := if bit v 0 then s1 else s1.modChan c fun x => { x with conflict := false }
  s2.enChanged old v 0

/-- A write of BIN_CFG_n (R280, R281). -/
def State.binCfg (s : State) (n : Nat) (v : Word) : State :=
  let old := s.rd .BIN_CFG_n n
  let s1 := s.wr .BIN_CFG_n n 0 v
  let s2 := if bit old 31 != bit v 31 && s1.running 8 then (if bit v 31 then s1.binBegin n else s1.binEnd n) else s1
  s2.enChanged old v 31

/-- A write of CKOUT_CTLn (R133): EN starts or stops the output. -/
def State.ckCtl (s : State) (n : Nat) (v : Word) : State :=
  let old := s.rd .CKOUT_CTLn n
  let s1 := s.wr .CKOUT_CTLn n 0 (setBit v 0 (bit old 0))
  let s2 := if bit old 0 != bit v 0 || (bit v 0 && !s1.rb .CKOUT_STATUS 0 0 n) then s1.ckSet n (bit v 0) else s1
  s2.enChanged old v 0

/-- CONSUME (R457): ERR_LOG_RD moves past the record that ERR_LOG_IDX names, unless it lies beyond it already. -/
def State.consume (s : State) : State :=
  let idx := s.rd .ERR_LOG_IDX
  let d := (s.err.wr - idx).toNat
  if 0 < d && d < 2 ^ 31 && (s.err.wr - (idx + 1)).toNat < (s.err.wr - s.err.rd).toNat then
    { s with err := { s.err with rd := idx + 1 } }
  else s

/-- A write of ERR_CMD: SAFE_CLR, CONSUME and GFENCE_CLR (R438, R454, R457). -/
def State.errCmd (s : State) (q8 : Bool) (v : Word) : State :=
  let s1 := if bit v 0 then s.safeClr q8 else s
  let s2 := if bit v 1 then s1.consume else s1
  s2.gfenceClr (fld v 15 8)

/-- A write of ADCn_CMD: APPLY, FENCE_CLR and TRIG (R297, R301, R303). -/
def State.adcCmd (s : State) (u : Nat) (v : Word) : State :=
  let s1 := if bit v 0 then s.adcApply u else s
  let s2 := if bit v 1 then s1.adcFenceClr u else s1
  if bit v 2 then s2.writeTrigger u else s2

/-- A write of DRM_CMD: FCHG and FENCE_CLR (R405, R411). A change judges the slack that DRM_SLACK reports. -/
def State.drmCmd (s : State) (v : Word) : State :=
  let s1 := if bit v 0 then s.fchg s.drm.slack else s
  if bit v 1 then s1.drmFenceClr (fld v 11 8) else s1

/-- A write of a timing set (R419): a change clears its SET_TRAINED. -/
def State.timingSet (s : State) (r : RegId) (t : Nat) (v : Word) : State :=
  if s.rd r t = v then s
  else { s.wr r t 0 v with drm := { s.drm with setTrained := s.drm.setTrained.filter fun x => x ≠ t } }

/-- The register of the geometry that a register is (R398). -/
def RegId.geomInst : RegId → Option Nat
  | .DRM_GEOM => some 0
  | .DRM_HASH_CH0 => some 1
  | .DRM_HASH_CH1 => some 2
  | .DRM_HASH_B0 => some 3
  | .DRM_HASH_B1 => some 4
  | .DRM_HASH_B2 => some 5
  | _ => none

/-- The command on whose behalf a register is written, with the result it completes with. -/
abbrev Writer := Option (CmdRef × List Word)

/-- A write that is taken takes effect at once (R70). Reserved bits keep their zero (R6). -/
def State.writeNow (s : State) (q8 : Bool) (w : Writer) (ref : RegRef) (val : Word) : State :=
  let (r, i, j) := ref
  let old := s.rd r i j
  let v := val &&& mkW r.row.mask
  match r with
  | .SYS_EN => s.sysEn v
  | .SYS_LOCK => s.wr r 0 0 (old ||| v)
  | .SYS_CNT_RESET => s.cntReset val
  | .PLLx_INT => s.modPll i fun p => { p with shInt := v }
  | .PLLx_FRAC => s.modPll i fun p => { p with shFrac := v }
  | .PLLx_POST => s.modPll i fun p => { p with shPost := v }
  | .PLLx_MOD => s.modPll i fun p => { p with shMod := v }
  | .PLLx_APPLY => if bit val 0 then s.pllApply i else s
  | .PLLx_BAND_RANGE_k | .PLLx_BAND_TRIM_k => (s.wr r i j v).pllStart i
  | .CKOUT_CTLn => s.ckCtl i v
  | .Gn_CTL => (s.wr r i 0 (setBit v 0 (bit old 0))).groupEnable i (bit v 0)
  | .Gn_STAGE_CTL =>
    let s1 := if bit val 1 then s.modGrp i fun x => { x with openSet := {} } else s
    let s2 := s1.wrb .Gn_STAGE_CTL i 0 0 (bit val 0)
    if bit old 0 && !bit val 0 && !(s2.grp i).openSet.isEmpty then
      s2.releaseSet i (w.map fun (p : CmdRef × List Word) => p.1) (w.map fun (p : CmdRef × List Word) => p.2)
    else s2
  | .EVT_SOFT => s.softEvents val
  | .EVT_TM_CTL_k => s.tmArm i (bit v 0)
  | .CHn_CTL => s.chanCtl i v
  | .DAC_FENCE_CLR => s.dacFenceClr val
  | .PAT_FENCE_CLR_LO => s.patFenceClr 0 val
  | .PAT_FENCE_CLR_HI => s.patFenceClr 32 val
  | .PAT_OVR_CLR_LO => s.patOvrClr 0 val
  | .PAT_OVR_CLR_HI => s.patOvrClr 32 val
  | .PAT_LANE_n => s.laneCtl i v
  | .PAT_MK_m => ((s.wr r i 0 v).markerEnable i (bit v 0)).enChanged old v 0
  | .BIN_CFG_n => s.binCfg i v
  | .ADC_TRIG_ALL => s.trigAll val
  | .ADC_CAP_CTL => (s.capSize (fld v 7 0)).getD s
  | .ADCn_CTL => s.adcCtl i v
  | .ADCn_CMD => s.adcCmd i val
  | .ADCn_WLO_e => s.modAdc i fun x => { x with shadow := KMap.insert x.shadow j { s.winShadow i j with lo := v } }
  | .ADCn_WHI_e => s.modAdc i fun x => { x with shadow := KMap.insert x.shadow j { s.winShadow i j with hi := v } }
  | .ADCn_WHYST_e => s.modAdc i fun x => { x with shadow := KMap.insert x.shadow j { s.winShadow i j with hyst := v } }
  | .NET_Pp_CTL =>
    let s1 := s.wr r i 0 v
    if bit old 0 = bit v 0 then s1 else (s1.netPortEn i (bit v 0)).slackRestart
  | .CHN_Pp_CTL =>
    let s1 := s.wr r i 0 v
    if bit old 0 = bit v 0 then s1 else (s1.chnPortEn i (bit v 0)).slackRestart
  | .MEM_CASTLE => s.castle val
  | .MEM_SCRUB_PERIOD => s.wr r 0 0 (mkW (max 100 (min 60000 v.toNat)))
  | .MEM_SETn_OWN => s.setOwner i (fld v 1 0)
  | .MEM_SETn_PWR => s.setPower i (fld v 1 0)
  | .DRM_CMD => s.drmCmd val
  | .DRM_TSt_CTL | .DRM_TSt_TIM0 | .DRM_TSt_TIM1 | .DRM_TSt_TIM2 => s.timingSet r i v
  | .MGT_CTL => s.mgtCtl v
  | .ERR_CMD => s.errCmd q8 val
  | _ =>
    match r.geomInst with
    | some n => s.geometry n v
    | none => if r.row.cls = .staged then s.applyOne (r.off i j, val) else if r.row.acc = .rw then s.wr r i j v else s

/-- The configuration fields of a register that also holds a staged one, ILIM of DAC_CFG_d, take their value at once (R265). -/
def State.writeCfg (s : State) (ref : RegRef) (val : Word) : State :=
  match ref with
  | (.DAC_CFG_d, d, _) => s.wr .DAC_CFG_d d 0 (blend 0x30 (s.rd .DAC_CFG_d d) val)
  | _ => s

/-! ### Direct writes (R66, R69, R74, R183) -/

/-- The addition of one direct write to the open set of a running group; one that would exceed a limit, or release while
four sets are released, is ignored and counted (R182, R183). -/
def State.stageDirect (s : State) (g off : Nat) (val : Word) : State :=
  let x := s.grp g
  if x.openSet.fits 1 0 && (s.hold g || x.released.length < 4) then s.addition g [(off, val)] [] none none
  else s.bump .Gn_CNT_STAGE_OVF g

/-- A whole-width write that is not ignored. -/
def State.directTaken (s : State) (ref : RegRef) (off : Nat) (val : Word) : State :=
  let s1 := s.writeCfg ref val
  match s1.stageGroup ref val with
  | some g => s1.stageDirect g off val
  | none =>
    if ref.1 = .Gn_STAGE_CTL && s1.holdBlocked ref.2.1 val then s1.bump .Gn_CNT_STAGE_OVF ref.2.1
    else (s1.writeNow false none ref val).confineAt off

/-- A direct write of a BAR0 register with byte enables (R66, R74, R242). -/
def State.directWrite (s : State) (off : Nat) (val : Word) (be : Nat := 15) : State :=
  let o := off % 2 ^ 20 / 4 * 4
  let ref := RegId.at? o
  if be ≠ 15 || off % 4 ≠ 0 then s.ignored ref o 4 val
  else match s.writeCause false o val, ref with
    | some c, some rf =>
      let s1 := if s.routeMoves (o, val) && c = 1 then s.bump .OUT_CNT_ROUTE_REJ else s
      let s2 := if rf.1 = .ERR_CMD then s1.draw.2 else s1
      ((match s.actsStill false rf c val with
        | some v => s2.writeNow false none rf v
        | none => s2)).ignored ref o c val
    | some c, none => s.ignored none o c val
    | none, some rf => s.directTaken rf o val
    | none, none => s

/-- The fields of a register take a value and its other fields keep theirs, by one direct write. -/
def State.directBit (s : State) (r : RegId) (i b : Nat) (on : Bool) : State := s.directWrite (r.off i 0) (setBit (s.rd r i) b on)

/-! ### BAR2 (R54, R60, R65) -/

/-- A write of a queue's base register: bits 11:0 must be zero for an enable; ignored while ENABLED is 1. -/
def State.queueBase (s : State) (q : Nat) (reg : Nat) (val : Word) : State :=
  if (s.q q).enabled then s.ignored2 q (q * 0x1000 + reg) 1 val
  else
    let lo (x : W64) : W64 := join64 val (hi32 x.toNat)
    let hi (x : W64) : W64 := join64 (lo32 x.toNat) val
    s.modQ q fun x =>
      match reg with
      | 0x10 => { x with sqBase := lo x.sqBase }
      | 0x14 => { x with sqBase := hi x.sqBase }
      | 0x18 => { x with cqBase := lo x.cqBase }
      | _ => { x with cqBase := hi x.cqBase }

/-- A word of the MSI-X table is written; unmasking a vector whose pending bit is set sends its message (R54). -/
def State.msixWrite (s : State) (off : Nat) (val : Word) : State :=
  let reset : Word := if off % 16 = 12 then 1 else 0
  let v := if off % 16 = 12 then val &&& 1 else val
  let s1 := { s with msix := KMap.put s.msix off v reset }
  let n := (off - 0x8000) / 16
  if off % 16 = 12 && v = 0 && s1.msixPend.contains n && s.pci.msixEn && !s.pci.msixMask then
    ({ s1 with msixPend := s1.msixPend.filter fun m => m ≠ n }).put (.msix n)
  else s1

/-- A read of BAR2 (R54, R60 to R62): a queue's page, the MSI-X table or its pending-bit array; write-only and unlisted offsets read
zero. -/
def State.bar2Read (s : State) (off : Nat) : Word :=
  let o := off % 2 ^ 16 / 4 * 4
  let x := s.q (o / 0x1000)
  if o < 0x8000 then
    match o % 0x1000 with
    | 0x10 => lo32 x.sqBase.toNat
    | 0x14 => hi32 x.sqBase.toNat
    | 0x18 => lo32 x.cqBase.toNat
    | 0x1C => hi32 x.cqBase.toNat
    | 0x20 => x.ctl
    | 0x24 => x.status
    | 0x28 => mkW x.sqHead
    | 0x2C => mkW x.cqTail
    | 0x30 => x.skip
    | 0x40 => x.cntCrc
    | 0x44 => x.cntDup
    | 0x48 => x.cntSkip
    | 0x4C => x.cntTimeout
    | 0x50 => x.cntIgnored
    | _ => 0
  else if o < 0x8400 then KMap.getD s.msix o (if o % 16 = 12 then 1 else 0)
  else if o = 0x9000 then flagsW (fun v => s.msixPend.contains v) 32
  else if o = 0x9004 then flagsW (fun v => s.msixPend.contains (32 + v)) 32
  else 0

/-- A direct write of BAR2: a queue's page, or the MSI-X table. -/
def State.bar2Write (s : State) (off : Nat) (val : Word) (be : Nat) : State :=
  let o := off % 2 ^ 16 / 4 * 4
  let q := o / 0x1000
  let reg := o % 0x1000
  if q < 8 then
    if be ≠ 15 || off % 4 ≠ 0 then s.ignored2 q o 4 val
    else match reg with
      | 0x00 => s.sqTail q val
      | 0x04 => s.cqHead q val
      | 0x10 | 0x14 | 0x18 | 0x1C => s.queueBase q reg val
      | 0x20 => s.writeQCtl q val
      | _ => s.ignored2 q o 3 val
  else if 0x8000 ≤ o && o < 0x8400 && be = 15 && off % 4 = 0 then s.msixWrite o val
  else s

/-! ### Configuration space (R54, R65) -/

/-- Where the fields of configuration space lie. PRESUMED: the header's words are PCI's; DESIGN CHOICE: the places of the capabilities,
which the manual does not give. -/
def cfgPower : Nat := 0x44
def cfgDevice : Nat := 0x78
def cfgMsix : Nat := 0xB0

/-- A read of configuration space (R54): the identity, the power state, the payload and read-request sizes, and the MSI-X capability
with its 64 vectors, its table and its pending-bit array in BAR2. -/
def State.cfgRead (s : State) (off : Nat) : Word :=
  let o := off % 4096 / 4 * 4
  if o = 0 then 0x48101E8C
  else if o = 8 then putF 0x118000 8 ||| mkW (Config.siliconRev % 256)
  else if o = cfgPower then putF s.pci.power 0
  else if o = cfgDevice then putF s.pci.maxPayload 5 ||| putF s.pci.maxRead 12
  else if o = cfgMsix then putF 63 16 ||| bitW s.pci.msixMask 30 ||| bitW s.pci.msixEn 31
  else if o = cfgMsix + 4 then 0x8002
  else if o = cfgMsix + 8 then 0x9002
  else 0

/-- Messages that waited for a mask leave once neither the function nor their vector is masked (R54). -/
def State.msixFlush (s : State) : State :=
  if s.pci.msixEn && !s.pci.msixMask then
    let go := s.msixPend.filter fun v => !s.msixMasked v
    go.foldl (fun s v => s.put (.msix v)) { s with msixPend := s.msixPend.filter fun v => s.msixMasked v }
  else s

/-- A write of configuration space: a power state other than D0 and D3hot and a size that is not supported are not taken (R54). -/
def State.cfgWrite (s : State) (off : Nat) (val : Word) : State :=
  let o := off % 4096 / 4 * 4
  let p := s.pci
  if o = cfgPower then
    if fld val 1 0 = 0 ∨ fld val 1 0 = 3 then { s with pci := { p with power := fld val 1 0 } } else s
  else if o = cfgDevice then
    { s with pci := { p with
      maxPayload := if fld val 7 5 ≤ 2 then fld val 7 5 else p.maxPayload
      maxRead := if fld val 14 12 ≤ 5 then fld val 14 12 else p.maxRead } }
  else if o = cfgMsix then ({ s with pci := { p with msixMask := bit val 30, msixEn := bit val 31 } }).msixFlush
  else s

/-! ### Direct accesses (R66) -/

/-- One 32-bit write of the host. -/
def State.write32 (s : State) (sp : Space) (off : Nat) (val : Word) (be : Nat) : State :=
  match sp with
  | .bar0 => s.directWrite off val be
  | .bar2 => s.bar2Write off val be
  | .config => if be = 15 then s.cfgWrite off val else s

/-- REGISTER_WRITE: a 64-bit write is two 32-bit writes in ascending offset order, with four byte enables each (R66). -/
def State.registerWrite (s : State) (sp : Space) (off : Nat) (val : Word) (be : Nat) (hi : Option Word) : State :=
  let s1 := s.write32 sp off val (be % 16)
  match hi with
  | some v => s1.write32 sp (off + 4) v (be / 16)
  | none => s1

/-- LATCH_READ: a direct read of one offset, or of two in ascending order (R66 to R68); only BAR0 has latches. -/
def State.latchRead (s : State) (sp : Space) (off : Nat) (wide : Bool) : State :=
  let n := if wide then 2 else 1
  match sp with
  | .bar0 =>
    let x := s.readRegs 0 (off % 2 ^ 20 / 4 * 4) n
    x.2.put (.readData x.1)
  | .bar2 => s.put (.readData ((List.range n).map fun i => s.bar2Read (off + 4 * i)))
  | .config => s.put (.readData ((List.range n).map fun i => s.cfgRead (off + 4 * i)))

/-! ### Register commands (R51 to R53) -/

/-- The status of a command whose write is ignored for a cause (R52). -/
def causeStatus : Nat → Nat
  | 1 => stEnabled
  | 2 => stLocked
  | 5 => stBusy
  | _ => stBadParam

/-- An offset that a register command may name (R51). -/
def regOffset (o : Nat) : Bool := o % 4 = 0 && o < 2 ^ 20

/-- Writes in order; those to staged fields of running groups are gathered with their group (R52, R182). -/
def State.writePairs (s : State) (q8 : Bool) (w : Writer) :
    List (Nat × Word) → State × List (Nat × Nat × Word)
  | [] => (s, [])
  | p :: t =>
    match RegId.at? p.1 with
    | none => s.writePairs q8 w t
    | some ref =>
      let s1 := s.writeCfg ref p.2
      match s1.stageGroup ref p.2 with
      | some g =>
        let x := s1.writePairs q8 w t
        (x.1, (g, p) :: x.2)
      | none => (s1.writeNow q8 w ref p.2).writePairs q8 w t

/-- The gathered writes of a group. -/
def gathered (adds : List (Nat × Nat × Word)) (g : Nat) : List (Nat × Word) := (adds.filter fun x => x.1 = g).map fun x => x.2

/-- The pairs of one command are applied, each group's staged pairs as one addition (R182, R183). The command completes with
the last set that it releases, or at once. -/
def State.applyPairs (s : State) (q8 : Bool) (r : CmdRef) (ps : List (Nat × Word)) (result bad : List Word) : State :=
  let x := s.writePairs q8 (some (r, result)) ps
  let gs := (List.range 8).filter fun g => !(gathered x.2 g).isEmpty
  if gs.any fun g => !(x.1.grp g).openSet.fits (gathered x.2 g).length 0 then s.finish r stBadParam bad
  else
    let s0 := ps.foldl (fun s p => s.confineAt p.1) x.1
    let s1 := gs.foldl (fun s g => s.addition g (gathered x.2 g) [] (some r) (some result)) s0
    if s1.setsLeft (some r) then s1 else s1.finish r stOK result

/-- The command's write through queue 8 (R428). A command from the chain carries the queue of its own device. -/
def Cmd.viaQ8 (c : Cmd) : Bool := c.hdr.queue = 8

/-- A refused pair counts as one ignored write (R52). -/
def State.refuse (s : State) (q8 : Bool) (off cause : Nat) (val : Word) : State :=
  let ref := RegId.at? off
  let s1 := if s.routeMoves (off, val) && cause = 1 then s.bump .OUT_CNT_ROUTE_REJ else s
  let s2 := match ref with
    | some (.ERR_CMD, _, _) => if s.safeClrBad q8 val then s1.draw.2 else s1
    | _ => s1
  s2.ignored ref off cause val (causeStatus cause)

/-- The first pair of a list that is refused: its index, the pair and its cause (R52). -/
def State.firstRefused (s : State) (q8 : Bool) (i : Nat) : List (Nat × Word) → Option (Nat × (Nat × Word) × Nat)
  | [] => none
  | p :: t =>
    match s.writeCause q8 p.1 p.2 with
    | some c => some (i, p, c)
    | none => s.firstRefused q8 (i + 1) t

/-- REG_READ through a master (R51, R68). -/
def State.regReadBody (s : State) (c : Cmd) (r : CmdRef) : State :=
  let off := (wAt c.payload 0).toNat
  let n := (wAt c.payload 1).toNat
  if !regOffset off || n = 0 || 64 < n || 2 ^ 20 < off + 4 * n then s.finish r stBadParam []
  else
    let x := s.readRegs (1 + c.hdr.queue) off n
    x.2.finish r stOK x.1

/-- REG_WRITE (R52). -/
def State.regWriteBody (s : State) (c : Cmd) (r : CmdRef) : State :=
  let ps := pairsFrom 0 c.payload
  let q8 := c.viaQ8
  if !ps.all fun p => regOffset p.1 then s.finish r stBadParam []
  else match s.firstRefused q8 0 ps with
    | some (i, p, cause) => (s.refuse q8 p.1 cause p.2).finish r (causeStatus cause) [0, mkW i]
    | none => s.applyPairs q8 r ps [mkW ps.length, 0xFFFFFFFF] [0, 0xFFFFFFFF]

/-- REG_WRITE_MASKED (R53). -/
def State.regMaskedBody (s : State) (c : Cmd) (r : CmdRef) : State :=
  let off := (wAt c.payload 0).toNat
  let q8 := c.viaQ8
  if !regOffset off then s.finish r stBadParam []
  else
    let old := match RegId.at? off with
      | some (r, i, j) => s.view r i j
      | none => 0
    let new := blend (wAt c.payload 1) old (wAt c.payload 2)
    match s.writeCause q8 off new with
    | some cause => (s.refuse q8 off cause new).finish r (causeStatus cause) [old]
    | none =>
      let x := s.writePairs q8 (some (r, [new])) [(off, new)]
      let after := match RegId.at? off with
        | some (r, i, j) => if x.2.isEmpty then x.1.view r i j else new &&& mkW r.row.mask
        | none => 0
      s.applyPairs q8 r [(off, new)] [after] [old]

/-- REG_READ. -/
def State.regRead (s : State) (q k : Nat) : State := s.run q k 0x0201 State.regReadBody

/-- REG_WRITE. -/
def State.regWrite (s : State) (q k : Nat) : State := s.run q k 0x0202 State.regWriteBody

/-- REG_WRITE_MASKED. -/
def State.regWriteMasked (s : State) (q k : Nat) : State := s.run q k 0x0203 State.regMaskedBody

/-! ### ECHO, IDENTIFY and SAFE_STATE (R51, R429) -/

/-- The result of IDENTIFY. -/
def State.identity (s : State) : List Word :=
  let e := s.epoch
  [0x4810, mkW (Config.siliconRev % 256), s.rd .SYS_FWVER, mkW s.ownAddr, lo64 e, hi64 e] ++ List.replicate 10 0

/-- ECHO. -/
def State.echo (s : State) (q k : Nat) : State := s.run q k 0x0101 fun s c r => s.finish r stOK c.payload

/-- IDENTIFY. -/
def State.identify (s : State) (q k : Nat) : State := s.run q k 0x0102 fun s _ r => s.finish r stOK s.identity

/-- SAFE_STATE on a host queue, or for another device: cause 1 of safe state (R429, R451). -/
def State.safeStateCmd (s : State) (q k : Nat) : State :=
  s.run q k 0x0104 fun s _ r => (s.safeCauseRaise 1).finish r stOK []

/-- RESET_MAIN that reaches the main side: the island alone executes it, on queue 8 of its own device (R430). -/
def State.resetMainCmd (s : State) (q k : Nat) : State := s.run q k 0x0103 fun s _ r => s.finish r stBadParam []

/-! ### The slack monitor (R15 to R17) -/

/-- The slack monitor reports the ratio of a window (R15, R17). -/
def State.slackReport (s : State) (v : Nat) : State :=
  let thr := s.rf .SYS_SLACK_THR 0 0 15 0
  let low := v < thr
  let rose := low && !s.rb .SYS_SLACK 0 0 17
  let s1 := s.wr .SYS_SLACK 0 0 (mkW v ||| bitW true 16 ||| bitW low 17)
  let s2 := s1.wr .SYS_SLACK_MIN 0 0 (mkW (min v (s1.rf .SYS_SLACK_MIN 0 0 15 0)))
  if rose then (s2.bump .SYS_CNT_SLACK_LOW).logErr 0 0 0 0x0002 0xFF v thr else s2

/-- An edge is enabled: the EN bit of an instance of R16 is 1. -/
def State.edgeEnabled (s : State) : Bool :=
  (List.range 8).any (fun g => s.rb .Gn_CTL g 0 0 || (s.q g).en) || (List.range 16).any (fun u =>
      s.rb .ADCn_CTL u 0 0 || s.rb .PAT_MK_m u 0 0 || (s.sv u).en) ||
    (List.range 32).any (fun c => s.rb .CHn_CTL c 0 0 || s.rb .BIN_CFG_n c 0 31) ||
    (List.range 64).any (fun n => s.rb .PAT_LANE_n n 0 0 || bit (wAt (s.gs n).cfg 0) 8) ||
    (List.range 4).any (fun p => s.rb .CKOUT_CTLn p 0 0 || s.rb .NET_Pp_CTL p 0 0) ||
    (List.range 3).any (fun p => s.rb .CHN_Pp_CTL p 0 0)

/-- SLACK_WINDOW: the 1 ms window that is under way ends, without an interruption since it began (R15, R16), with a ratio in 1/256; no
work is demanded while no edge is enabled. -/
def State.slackWindow (s : State) (ratio : Nat) : State :=
  let upTo := s.slackFrom + msec 1
  ({ s.reach upTo with slackFrom := upTo }).slackReport (if s.edgeEnabled then min ratio 0xFFFF else 0xFFFF)

end Sys2Proof.Machine
end

