-- ==== Sys2Proof/Machine/Island.lean ====
section
/-!
DEFINITION. The management line and the commands that the island executes itself (R421 to R430): frames, the reply slot,
the island's duplicate window, and the release of the main reset with the replies that wait for it.
-/
namespace Sys2Proof.Machine

/-! ### Frames (R422 to R424) -/

/-- A frame of the device: preamble, SFD, FTYPE, LEN, body, FCS (R422). -/
def mgtFrame (ftype : Nat) (body : List Byte) : List Byte :=
  let b := leBytes 1 ftype ++ leBytes 2 body.length ++ body
  [0x55, 0x55, 0x55, 0x55, 0xD5] ++ b ++ leBytes 4 (crc32c b).toNat

/-- A correct frame of the master, as its FTYPE and body: COMMAND with 20 to 4,096 bytes, or POLL with none (R422, R423). -/
def parseFrame (f : List Byte) : Option (Nat × List Byte) :=
  let len := leAt f 6 2
  let ftype := leAt f 5 1
  if f.getD 4 0 = 0xD5 && f.length = 12 + len &&
      ((ftype = 1 && 20 ≤ len && len ≤ 4096) || (ftype = 2 && len = 0)) &&
      leAt f (8 + len) 4 = (crc32c (sliceB f 5 (3 + len))).toNat then
    some (ftype, sliceB f 8 len)
  else none

/-- The device's frame in a reply slot: the oldest completion of queue 8 that has not been sent, else a STATUS (R423, R424). -/
def State.replySlot (s : State) : State :=
  match s.mgt.replies with
  | r :: t => ({ s with mgt := { s.mgt with replies := t } }).put (.mgmt (mgtFrame 0x81 r))
  | [] =>
    s.put (.mgmt (mgtFrame 0x82 (leBytes 4 s.mgtStatus.toNat ++ [0] ++ leBytes 1 (s.rd .MGT_CRASH_SEQ).toNat ++ [0, 0])))

/-- MGT_FRAME_ERROR: the frame is discarded and counted, and the slot stays empty (R423). -/
def State.frameError (s : State) (f : List Byte) : State :=
  if s.mgt.off || (parseFrame f).isSome then s else s.bump .MGT_CNT_FRAME_ERR

/-- A correct frame has been received: counted, and the line is active (R433, R434). -/
def State.frameReceived (s : State) : State :=
  { s.bump .MGT_CNT_FRAME_RX with mgt := { s.mgt with lineActive := true } }

/-- POLL: the frame opens a reply slot. -/
def State.pollFrame (s : State) (f : List Byte) : State :=
  match parseFrame f with
  | some (2, _) => if s.mgt.off then s else s.frameReceived.replySlot
  | _ => s

/-! ### Commands of the island (R425 to R430) -/

/-- The device's address as the island knows it: the last one with the main side down (R426). -/
def State.islandAddr (s : State) : Nat := if s.mainDown then s.mgt.hb.addr else s.ownAddr

/-- A reply of the island waits for a reply slot, behind the forwarded commands submitted before it (R42). -/
def State.islandReply (s : State) (c : Cmd) (r : Reply) : State :=
  if (s.q 8).inflight.isEmpty then { s with mgt := { s.mgt with replies := s.mgt.replies ++ [replyPacket c r] } }
  else { s with mgt := { s.mgt with held := s.mgt.held ++ [((s.q 8).nextK, replyPacket c r)] } }

/-- Commands of queue 8 in flight (R425): forwarded, waiting for the release of the reset, or executed with their reply held back. -/
def State.inflight8 (s : State) : Nat := (s.q 8).inflight.length + s.mgt.rstCmds.length + s.mgt.held.length

/-- The tag of a packet or a reply. -/
def packetTag (b : List Byte) : Nat := leAt b 4 2 % 4096

/-- A tag is held by a command of queue 8 in flight (R40). -/
def State.tag8Held (s : State) (tag : Nat) : Bool :=
  ((s.q 8).inflight.any fun d => d.holdsTag && d.hdr.tag = tag) || (s.mgt.rstCmds.any fun p => packetTag p = tag) ||
    s.mgt.held.any fun p => packetTag p.2 = tag

/-- A command that the island executed is answered; a recorded status enters its window of the last 16 (R426). -/
def State.islandDone (s : State) (c : Cmd) (status : Nat) (result : List Word) : State :=
  let r : Reply := ⟨status, status, s.islandAddr, result⟩
  let s1 := if recorded status then
      { s with mgt := { s.mgt with window := (⟨c.hdr.seq, r⟩ :: s.mgt.window).take 16 } }
    else s
  s1.islandReply c r

/-- A repeat of a command in the island's window is answered with its reply (R46). -/
def State.islandRepeat (s : State) (c : Cmd) (e : MgtEntry) : State :=
  s.islandReply c { e.reply with status := stDuplicate }

/-- The offsets that a register command names. -/
def namedOffsets (c : Cmd) : List Nat :=
  if c.hdr.opcode = 0x0201 then
    (List.range (min (wAt c.payload 1).toNat 64)).map fun i => (wAt c.payload 0).toNat + 4 * i
  else if c.hdr.opcode = 0x0202 then (pairsFrom 0 c.payload).map fun (p : Nat × Word) => p.1
  else if c.hdr.opcode = 0x0203 then [(wAt c.payload 0).toNat]
  else []

/-- The island executes a command itself: ECHO, IDENTIFY, RESET_MAIN, SAFE_STATE, and register commands that name an MGT
offset (R426). -/
def islandOp (c : Cmd) : Bool :=
  (0x0101 ≤ c.hdr.opcode && c.hdr.opcode ≤ 0x0104) || (namedOffsets c).any isMgtOff

/-- A refused write of the island: with the main side down only the island's counter takes it (R433, R74). -/
def State.islandRefuse (s : State) (off cause : Nat) (val : Word) : State :=
  if s.mainDown then s.bump .MGT_CNT_IGNORED else s.refuse true off cause val

/-- A register command on MGT registers (R51 to R53, R426, R428): its status, result and effect. -/
def State.islandRegs (s : State) (c : Cmd) : Nat × List Word × State :=
  let w (i : Nat) : Word := wAt c.payload i
  if !(namedOffsets c).all (fun o => isMgtOff o && o % 4 = 0) then (stBadParam, [], s)
  else if c.hdr.opcode = 0x0201 then
    if w 1 = 0 || 64 < (w 1).toNat then (stBadParam, [], s)
    else
      let x := s.readRegs 9 (w 0).toNat (w 1).toNat
      (stOK, x.1, x.2)
  else if c.hdr.opcode = 0x0202 then
    let ps := pairsFrom 0 c.payload
    match s.firstRefused true 0 ps with
    | some (i, p, cause) => (causeStatus cause, [0, mkW i], s.islandRefuse p.1 cause p.2)
    | none => (stOK, [mkW ps.length, 0xFFFFFFFF], (s.writePairs true none ps).1)
  else
    let off := (w 0).toNat
    let view (s : State) : Word := match RegId.at? off with
      | some (r, i, j) => s.view r i j
      | none => 0
    let new := blend (w 1) (view s) (w 2)
    match s.writeCause true off new with
    | some cause => (causeStatus cause, [view s], s.islandRefuse off cause new)
    | none =>
      let s1 := (s.writePairs true none [(off, new)]).1
      (stOK, [view s1], s1)

/-- A host command that claims a group or a pin at the instant of the safe request loses: BUSY, counted (R429). -/
def State.preempt (s : State) (c : CmdRef) : State :=
  let x := s.q c.q
  match x.find c.k with
  | some y =>
    if c.q < 8 && [0x0402, 0x0403, 0x0407].contains y.hdr.opcode && s.eligible c.q x y then
      (s.finish c stBusy []).bump .MGT_CNT_PREEMPT
    else s
  | none => s

/-- SAFE_STATE on queue 8 (R429). `claims` are the host commands that claim a group or a pin at the same instant. -/
def State.islandSafe (s : State) (c : Cmd) (claims : List CmdRef) : State :=
  if !s.mgt.mainPwr then s.islandDone c stOK []
  else
    let s1 := claims.foldl State.preempt s
    ((s1.safeRequest).irqIf .MGT_INT 0 0).islandDone c stOK []

/-- RESET_MAIN on queue 8 (R430, steps 1 to 3); its reply waits for the release of the reset. -/
def State.islandReset (s : State) (c : Cmd) (packet : List Byte) : State :=
  if !s.mgt.mainPwr then s.islandDone c stNotReady []
  else
    let s1 := s.resetMainNow
    { s1 with mgt := { s1.mgt with rstCmds := s1.mgt.rstCmds ++ [packet] } }

/-- The result of IDENTIFY from the island: with the main side down only what the island knows (R426). -/
def State.islandIdentity (s : State) : List Word :=
  if s.mainDown then [0x4810, mkW (Config.siliconRev % 256), 0, mkW s.islandAddr] ++ List.replicate 12 0 else s.identity

/-- The queue skips a command of the island (R43); SAFE_STATE and RESET_MAIN act on receipt whatever their class and flags (R429,
R430). -/
def State.skips8 (s : State) (c : Cmd) : Bool :=
  c.hdr.opcode ≠ 0x0103 && c.hdr.opcode ≠ 0x0104 && (s.q 8).skips { c with k := (s.q 8).nextK }

/-- The island executes a command that is new to its window, after checks 7 to 9 (R38). -/
def State.islandRun (s : State) (c : Cmd) (packet : List Byte) (claims : List CmdRef) : State :=
  if !lenOk c.hdr.opcode c.payload then s.islandDone c stBadLength []
  else if s.tag8Held c.hdr.tag then s.islandDone c stBadParam []
  else if s.skips8 c then s.islandDone c stSkipped []
  else
    match c.hdr.opcode with
    | 0x0101 => s.islandDone c stOK c.payload
    | 0x0102 => s.islandDone c stOK s.islandIdentity
    | 0x0103 => s.islandReset c packet
    | 0x0104 => s.islandSafe c claims
    | _ =>
      let x := s.islandRegs c
      x.2.2.islandDone c x.1 x.2.1

/-- The sequence number of a packet. -/
def packetSeq (b : List Byte) : Nat := leAt b 8 4

/-- A command that the island executes itself: a repeat is answered from the window, a repeat of a RESET_MAIN in progress waits
with it, any other is executed (R46, R426). -/
def State.islandExec (s : State) (c : Cmd) (packet : List Byte) (claims : List CmdRef) : State :=
  match s.mgt.window.find? fun (e : MgtEntry) => e.seq = c.hdr.seq with
  | some e => s.islandRepeat c e
  | none =>
    if s.mgt.rstCmds.any fun p => packetSeq p = c.hdr.seq then
      { s with mgt := { s.mgt with rstCmds := s.mgt.rstCmds ++ [packet] } }
    else s.islandRun c packet claims

/-- A packet of the management line (R425, R426): executed by the island, forwarded as queue 8, or answered. DESIGN CHOICE: with 4,096
commands in flight over the nine queues (R39) it is answered BUSY like one beyond the 16 of queue 8. -/
def State.mgtPacket (s : State) (packet : List Byte) (claims : List CmdRef) : State :=
  let c := mkCmd 0 packet 0 65536
  let st := checks1to4 8 packet.length packet
  if 16 ≤ s.inflight8 || 4096 ≤ s.inflight then s.islandDone c stBusy []
  else if st.isNone && c.hdr.dest = s.islandAddr && c.hdr.flags % 2 = 0 && islandOp c then s.islandExec c packet claims
  else if s.mgt.mainRun && s.rb .MGT_CTL 0 0 0 then s.accept 8 packet packet.length 0 65536
  else s.islandReply c ⟨st.getD stNotReady, st.getD stNotReady, s.islandAddr, []⟩

/-- COMMAND_FRAME: a correct frame's packet is taken, and the device answers in the reply slot (R423, R425, R426). -/
def State.commandFrame (s : State) (f : List Byte) (claims : List CmdRef) : State :=
  match parseFrame f with
  | some (1, packet) => if s.mgt.off then s else (s.frameReceived.mgtPacket packet claims).replySlot
  | _ => s

/-- SAFE_STATE and RESET_MAIN as rows of their own: on queue 8 the island takes the packet, on another queue the main side
executes the command. -/
def State.islandOr (s : State) (q : Nat) (packet : List Byte) (op : Nat) (claims : List CmdRef) (main : State → State) : State :=
  if q = 8 then
    if s.mgt.off || (mkCmd 0 packet 0 65536).hdr.opcode ≠ op then s else s.mgtPacket packet claims
  else s.onMain main

/-- SAFE_STATE. -/
def State.safeState (s : State) (q k : Nat) (packet : List Byte) (claims : List CmdRef) : State :=
  s.islandOr q packet 0x0104 claims fun s => s.safeStateCmd q k

/-- RESET_MAIN. -/
def State.resetMain (s : State) (q k : Nat) (packet : List Byte) : State :=
  s.islandOr q packet 0x0103 [] fun s => s.resetMainCmd q k

/-! ### Boot (R430, step 4, and R480) -/

/-- A RESET_MAIN that waited for the release is answered: OK, or OK_DUPLICATE for a repeat. -/
def State.resetAnswer (s : State) (packet : List Byte) : State :=
  let c := mkCmd 0 packet 0 65536
  match s.mgt.window.find? fun (e : MgtEntry) => e.seq = c.hdr.seq with
  | some e => s.islandRepeat c e
  | none => s.islandDone c stOK []

/-- BOOT: on release of the main reset the waiting RESET_MAIN commands are answered and the device boots. -/
def State.boot (s : State) (rows : List BistRow) (readErrA readErrB : Bool) (link : Option (Nat × Nat)) (table : Word) : State :=
  if s.mayRelease && (s.mgt.rst || s.rd .SYS_BOOT = 0) then
    let s1 := s.mgt.rstCmds.foldl State.resetAnswer { s with mgt := { s.mgt with rstCmds := [] } }
    s1.bootNow rows readErrA readErrB link table
  else s

/-! ### A flit of the control fabric that fails its check (R20) -/

/-- FLIT_CHECK_FAIL: the flit of the group's next sample is requested once more; when the repeat fails too, its frame is
discarded at the sample edge `t`. DESIGN CHOICE (log 58): R20 calls only a repeat that arrives in time transient and gives no class for
a good repeat that would arrive after its presentation time; here such a flit counts as failed (`again`) and its record is lasting. -/
def State.flitCheckFail (s : State) (g t : Nat) (again : Bool) : State :=
  let n := (s.grp g).n % 2 ^ 32
  if again then (s.lasting 23 g 0x0013 0xFF n 0).discardFrame g t else s.transient 23 g 0x0013 0xFF n 0

end Sys2Proof.Machine
end

