-- ==== Sys2Proof/Machine/Operands.lean ====
section
/-!
DEFINITION. The operand forms of the commands: enables by what they enable, uncorrectable words by address, commands of the
host by queue and place; and the few commands whose effect is the operand's alone.
-/
namespace Sys2Proof.Machine

/-- What the machine answers to a command. -/
abbrev Outcome := Host.Outcome State Fault Refusal

/-- The register, the instance and the bit that hold an enable (R71). -/
def enableBit : EnTarget → RegId × Nat × Nat
  | .sys b => (.SYS_EN, 0, b.val)
  | .group g => (.Gn_CTL, g.val, 0)
  | .chan c => (.CHn_CTL, c.val, 0)
  | .adc u => (.ADCn_CTL, u.val, 0)
  | .pin n => (.PAT_LANE_n, n.val, 0)
  | .marker m => (.PAT_MK_m, m.val, 0)
  | .bin n => (.BIN_CFG_n, n.val, 31)
  | .netPort p => (.NET_Pp_CTL, p.val, 0)
  | .chnPort p => (.CHN_Pp_CTL, p.val, 0)
  | .errLog => (.ERR_CTL, 0, 0)
  | .mgt => (.MGT_CTL, 0, 0)

/-- A direct write of an enable, the register's other fields unchanged (R71, R72). -/
def State.enable (s : State) (x : EnTarget) (on : Bool) : State :=
  let e := enableBit x
  s.directBit e.1 e.2.1 e.2.2 on

/-- An address in the sine table (R222, R374). -/
def inSine (a : Nat) : Bool := 0x168000 ≤ a && a < 0x174000

/-- A reader of on-chip memory meets an erroneous word (R382). -/
def State.readBad (s : State) (b : BadWord) : State := if b.ue then s.memUe b.addr 0 else s.memCe b.addr 0

/-- The sample's lookups met an erroneous word of the sine table: found by its reader (R222, R382). -/
def State.sineUe (s : State) (sine : Option BadWord) : State :=
  match sine with
  | some b => if inSine b.addr && s.hrmRunning then s.readBad b else s
  | none => s

/-- The operand names an uncorrectable word of the sine table. -/
def sineHit (sine : Option BadWord) : Bool :=
  match sine with
  | some b => b.ue && inSine b.addr
  | none => false

/-- GROUP_SAMPLE, with the sine-table word that the sample met. -/
def State.sampleEdge (s : State) (g t : Nat) (absent stale : Bool) (sine : Option BadWord) : State :=
  (s.sineUe sine).groupSample g t absent stale (sineHit sine)

/-- FIRST_SAMPLE_EDGE, with the sine-table word that the sample met. -/
def State.sampleZero (s : State) (g t : Nat) (absent : Bool) (sine : Option BadWord) : State :=
  if s.firstEdge g t then (s.sineUe sine).firstSample g t absent (sineHit sine) else s

/-- TARGET_HELD, with the erroneous word that the gambit's fill met: an uncorrectable one fences the on-chip segment that it lies in, which
the fill was for (R382). -/
def State.targetHeldUe (s : State) (g e t : Nat) (bad : Option BadWord) : State :=
  match bad with
  | some b =>
    let is := (s.segsOver true b.addr 1).filter fun i => (s.wants g).any fun p => p.1 = e && (entrySegs p.2.2).contains i
    if is.isEmpty then s.targetHeld g e t
    else (is.foldl (fun s i => if b.ue then s.fenceSeg i else s) (s.readBad b)).targetHeld g e t
  | none => s.targetHeld g e t

/-- UNDERRUN of a group, with the on-chip word that a playback read met (cause 8 of R456, R382). -/
def State.underrunUe (s : State) (g cause t : Nat) (ue : Option Nat) : State :=
  match ue with
  | some a => if cause = 8 ∧ a < 8 * setBytes then (s.memUe a 0).underrunAt g cause t else s.underrunAt g cause t
  | none => s.underrunAt g cause t

/-- EVENT_RECORD: a DATA flit on VC2 whose body is of KIND 1 (R352, R354). -/
def State.eventFlit (s : State) (p : Nat) (f : List Byte) : State :=
  if leAt f 0 1 = tyData && leAt f 1 1 % 4 = 2 && leAt f 8 1 = 1 then s.dataFlit p f else s

/-- FOREIGN_TIMEOUT: 3 s after the last announce of another master FOREIGN clears (R331). -/
def State.foreignTimeout (s : State) : State :=
  if s.ptp.foreign then
    let s1 := s.reach (s.ptp.foreignAt + msec 3000)
    { s1 with ptp := { s1.ptp with foreign := false } }
  else s

/-- COMMAND_TIMEOUT, after which a memory block that was waiting for a test may stop (R50, R392). -/
def State.timeoutCmd (s : State) (q k : Nat) : State := (s.commandTimeout q k).memSettle

/-- FCHG: the slack of the moment is judged by the write (R411). -/
def State.fchgWrite (s : State) (slack : Nat) : State := (s.setSlack slack).directWrite (RegId.off .DRM_CMD 0 0) 1

/-- DRM_GEOMETRY: a write of DRM_GEOM or of a hash mask (R398). -/
def State.geometryWrite (s : State) (inst : Nat) (v : Word) : State := s.directWrite ((geomReg inst).off 0 0) v

/-- A write of one of the two registers of a pair of 32 lanes or pins. -/
def State.writeHalf (s : State) (lo hi : RegId) (high : Bool) (v : Word) : State :=
  s.directWrite ((if high then hi else lo).off 0 0) v

/-- One tick passes with no command waiting: device time counts on to the next tick edge (R88). DESIGN CHOICE. -/
def State.idle (s : State) : State := s.reach (s.now / grainsPerTick * grainsPerTick + grainsPerTick)

/-- The commands of the host that lose to the safe request, by queue and place. -/
def claimRefs (claims : List (Nat × Nat)) : List CmdRef := claims.map fun (p : Nat × Nat) => ⟨p.1, p.2⟩

end Sys2Proof.Machine
end

