-- ==== Sys2Proof/Machine/ChainCmds.lean ====
section
/-! DEFINITION. The meanings of the commands of the Gunter chain. -/
namespace Sys2Proof.Machine

/-- CHAIN_ENUM (R348): At the root, numbers every reachable device in full or join mode and rebuilds route tables. -/
def execChainEnum (q : Fin 10) (k : Nat) (remote : Bool) (s : State) : Outcome :=
  .next (s.onMain fun s => s.chainEnum q.val k remote)

/-- CENSUS (R362): At the root, collects and judges reports from listed devices and records offenders. -/
def execCensus (q : Fin 10) (k : Nat) (table : List Byte) (s : State) : Outcome :=
  .next (s.onMain fun s => s.censusCmd q.val k table)

/-- CHAIN_BROADCAST (R355): Raises a chain event from the host at a given or present time-stamp. -/
def execChainBroadcast (q : Fin 10) (k : Nat) (s : State) : Outcome := .next (s.onMain fun s => s.chainBroadcast q.val k)

/-- CHAIN_ALIGN (R368): Starts an immediate series of delay measurements and collects time errors. -/
def execChainAlign (q : Fin 10) (k : Nat) (s : State) : Outcome := .next (s.onMain fun s => s.chainAlign q.val k)

/-- SIGNAL_PRESENT (R345): An enabled chain port sees lane signal and enters TRAIN. -/
def execSignalPresent (p : Fin 3) (s : State) : Outcome := .next (s.onMain fun s => s.signalPresent p.val)

/-- FLIT_LOCK (R345): Block lock, deskew and flit lock are reached on both lanes and the port enters INIT. -/
def execFlitLock (p : Fin 3) (s : State) : Outcome := .next (s.onMain fun s => s.flitLock p.val)

/-- INIT (R345): An INIT flit from a port of the opposite kind takes the link UP, or sets PEER_ERR. -/
def execInitFlit (p : Fin 3) (f : List Byte) (s : State) : Outcome := .next (s.onMain fun s => s.initFlit p.val f)

/-- LOSS_OF_BLOCK_LOCK (R345): A link in UP loses block lock and enters RETRAIN. -/
def execLossOfBlockLock (p : Fin 3) (s : State) : Outcome := .next (s.onMain fun s => s.blockLoss p.val)

/-- RETRAIN_TIMEOUT (R345): RETRAIN is not done within 10 ms and the link goes DOWN. -/
def execRetrainTimeout (p : Fin 3) (s : State) : Outcome := .next (s.onMain fun s => s.retrainTimeout p.val)

/-- DATA (R343): A DATA flit is accepted in order, or a NAK is sent on the first bad flit. -/
def execData (p : Fin 3) (f : List Byte) (s : State) : Outcome := .next (s.onMain fun s => s.dataFlit p.val f)

/-- NAK (R344): A received NAK causes replay of every unacknowledged flit from the oldest. -/
def execNak (p : Fin 3) (f : List Byte) (s : State) : Outcome := .next (s.onMain fun s => s.nak p.val f)

/-- REPLAY_TIMEOUT (R344): The oldest unacknowledged flit has waited 1 µs; replay or RETRAIN follows. -/
def execReplayTimeout (p : Fin 3) (s : State) : Outcome := .next (s.onMain fun s => s.replayTimeout p.val)

/-- DELAY_MEASUREMENT_TIMER (R349): Every 1 ms a device sends DLY_REQ on port 0. -/
def execDelayMeasurementTimer (t : Nat) (s : State) : Outcome := .next (s.onMain fun s => s.delayTimer t)

/-- DLY_REQ (R349): The upstream device answers a DLY_REQ with DLY_RSP. -/
def execDlyReq (p : Fin 3) (f : List Byte) (t2 : Nat) (t3 : Nat) (s : State) : Outcome :=
  .next (s.onMain fun s => s.dlyReq p.val f t2 t3)

/-- DLY_RSP (R349): A DLY_RSP yields link delay d and offset o. -/
def execDlyRsp (p : Fin 3) (f : List Byte) (t4 : Nat) (s : State) : Outcome :=
  .next (s.onMain fun s => s.dlyRspAlign p.val f t4)

/-- TIME_FLIT_TIMER (R350): Every 125 µs a device sends a TIME flit on each downstream port in UP. -/
def execTimeFlitTimer (t : Nat) (s : State) : Outcome := .next (s.onMain fun s => s.timeTimer t)

/-- TIME (R350): A received TIME flit sets or steers device time and updates CHN_TERR and ALIGNED. -/
def execTimeFlit (p : Fin 3) (f : List Byte) (t : Nat) (s : State) : Outcome := .next (s.onMain fun s => s.timeFlit p.val f t)

/-- TIME_SILENCE (R350): No TIME flit for 500 µs makes later readings count as outside tolerance. -/
def execTimeSilence (s : State) : Outcome := .next (s.onMain fun s => s.timeSilence)

/-- SELF_EXCLUSION (R365): A member outside tolerance for 1 ms excludes itself and its groups play fallback. -/
def execSelfExclusion (s : State) : Outcome := .next (s.onMain fun s => s.selfExclusion)

/-- TURN_RECORD (R114): A turn record arrives, is forwarded and is applied by followers at its boundary. -/
def execTurnRecord (p : Fin 3) (s : State) : Outcome := .next (s.onMain fun s => s.turnRecord p.val)

/-- BROADCAST_SEQUENCE_MARKER (R353): A KIND 3 marker orders execution of the following broadcast command. -/
def execBroadcastSequenceMarker (p : Fin 3) (s : State) : Outcome := .next (s.onMain fun s => s.bcastMarker p.val)

/-- ENUM_QUERY (R361): An enumeration query is forwarded down and counted subtrees are awaited. -/
def execEnumQuery (p : Fin 3) (s : State) : Outcome := .next (s.onMain fun s => s.enumQuery p.val)

/-- ENUM_COUNT (R361): A subtree count arrives upward and is summed. -/
def execEnumCount (p : Fin 3) (s : State) : Outcome := .next (s.onMain fun s => s.enumCount p.val)

/-- ENUM_ASSIGN (R361): An address grant is taken and the rest passed down with route entries set. -/
def execEnumAssign (p : Fin 3) (s : State) : Outcome := .next (s.onMain fun s => s.enumAssign p.val)

/-- ENUM_DONE (R361): Enumeration totals return upward to the root. -/
def execEnumDone (p : Fin 3) (s : State) : Outcome := .next (s.onMain fun s => s.enumDone p.val)

/-- JOIN_MESSAGE (R366): The root receives a JOIN and addresses the device when AUTO_JOIN is 1. -/
def execJoinMessage (p : Fin 3) (s : State) : Outcome := .next (s.onMain fun s => s.joinMessage p.val)

/-- JOIN_ASSIGN (R361): A single-join address travels to the parent, setting route entries on the way. -/
def execJoinAssign (p : Fin 3) (s : State) : Outcome := .next (s.onMain fun s => s.joinAssign p.val)

/-- LEAVE (R367): The root frees the addresses of a departed subtree. -/
def execLeave (p : Fin 3) (s : State) : Outcome := .next (s.onMain fun s => s.leave p.val)

/-- EXCLUDE (R365): The root counts a member's self-exclusion and raises INT_EXCL. -/
def execExclude (p : Fin 3) (s : State) : Outcome := .next (s.onMain fun s => s.exclude p.val)

/-- CENSUS_QUERY (R361): A participant answers the root's census query with its report. -/
def execCensusQuery (p : Fin 3) (s : State) : Outcome := .next (s.onMain fun s => s.censusQuery p.val)

/-- CENSUS_REPORT (R363): The root judges a participant's report. -/
def execCensusReport (p : Fin 3) (s : State) : Outcome := .next (s.onMain fun s => s.censusReport p.val)

/-- CENSUS_RESULT (R364): A participant stores the census generation and epoch and sets or clears CENSUS_OK. -/
def execCensusResult (p : Fin 3) (s : State) : Outcome := .next (s.onMain fun s => s.censusResult p.val)

/-- BCAST_REPLY (R357): A subtree's broadcast reply is merged upward. -/
def execBcastReply (p : Fin 3) (s : State) : Outcome := .next (s.onMain fun s => s.bcastReplyMsg p.val)

/-- ALIGN_QUERY (R368): A device starts alignment measurements and forwards the query. -/
def execAlignQuery (p : Fin 3) (s : State) : Outcome := .next (s.onMain fun s => s.alignQuery p.val)

/-- ALIGN_REPORT (R368): Alignment reports are merged upward. -/
def execAlignReport (p : Fin 3) (s : State) : Outcome := .next (s.onMain fun s => s.alignReport p.val)

/-- EXCHANGE_TIMEOUT (R361): A port's response is missing at the command timeout and counts as empty or failing. -/
def execExchangeTimeout (e : Exchange) (p : Fin 3) (s : State) : Outcome :=
  .next (s.onMain fun s => s.exchangeTimeout e p.val)

/-- NULL_FLIT (R343): A received NULL control flit delivers its ACK and CREDIT fields, freeing replay-buffer entries and
returning credits. -/
def execNullFlit (p : Fin 3) (f : List Byte) (s : State) : Outcome := .next (s.onMain fun s => s.nullFlit p.val f)

/-- CHAIN_BROADCAST_TIME (R355): Device time reaches the time-stamp of a CHAIN_BROADCAST with AT_TIME 1 and the chain event
record is sent. -/
def execChainBroadcastTime (s : State) : Outcome := .next (s.onMain fun s => s.chainBroadcastTime)

end Sys2Proof.Machine
end

