-- ==== Sys2Proof/Machine/ConverterCmds.lean ====
section
/-! DEFINITION. The meanings of the commands of the converter units. -/
namespace Sys2Proof.Machine

/-- ADC_SEQ_SET (R308): Writes a converter unit's sequence entries and window limits and resets window baselines. -/
def execAdcSeqSet (q : Fin 10) (k : Nat) (s : State) : Outcome := .next (s.onMain fun s => s.adcSeqSet q.val k)

/-- ADC_SELFCAL (R300): Calibrates the named general units in parallel, repeating once and fencing on failure. -/
def execAdcSelfcal (q : Fin 10) (k : Nat) (found : List CalFinding) (s : State) : Outcome :=
  .next (s.onMain fun s => s.adcSelfcal q.val k found)

/-- ADC_READ (R308): Reads result registers, or with URGENT converts one input at once outside the sequence. -/
def execAdcRead (q : Fin 10) (k : Nat) (s : State) : Outcome := .next (s.onMain fun s => s.adcRead q.val k)

/-- ADC_TRIGGER (R297): A trigger from a group timer, lane pulse or segment start begins a converter run or is missed. -/
def execAdcTrigger (u : Fin 16) (t : Nat) (s : State) : Outcome := .next (s.onMain fun s => s.adcTrigger u.val t)

/-- TRIG (R297): Writing TRIG in ADCn_CMD triggers a run of the unit. -/
def execTrig (u : Fin 16) (s : State) : Outcome := .next (s.onMain fun s => s.directWrite (RegId.off .ADCn_CMD u.val 0) 4)

/-- ADC_TRIG_ALL (R294): Writing ADC_TRIG_ALL is one trigger for every unit named. -/
def execAdcTrigAll (v : Word) (s : State) : Outcome := .next (s.onMain fun s => s.directWrite (RegId.off .ADC_TRIG_ALL 0 0) v)

/-- ADC_APPLY (R303): Writing APPLY in ADCn_CMD copies the window set at the next run start. -/
def execAdcApply (u : Fin 16) (s : State) : Outcome := .next (s.onMain fun s => s.directWrite (RegId.off .ADCn_CMD u.val 0) 1)

/-- ADC_FENCE_CLR (R301): Writing FENCE_CLR in ADCn_CMD returns a fenced unit to NORMAL. -/
def execAdcFenceClr (u : Fin 16) (s : State) : Outcome :=
  .next (s.onMain fun s => s.directWrite (RegId.off .ADCn_CMD u.val 0) 2)

/-- CONVERSION_RESULT (R290): A conversion result is latched 304 ticks after its hold edge and stored. -/
def execConversionResult (u : Fin 16) (raw : Int) (s : State) : Outcome :=
  .next (s.onMain fun s => s.conversionResult u.val raw)

/-- DETECTION_TIMER (R304): The open-wire detection timer fires and schedules one detection slot. -/
def execDetectionTimer (u : Fin 16) (s : State) : Outcome := .next (s.onMain fun s => s.detectionTimer u.val)

/-- ADC_REF_READY (R298): REF_READY sets 5 ms after the reference buffer is switched on and an enabled unit starts. -/
def execAdcRefReady (u : Fin 16) (s : State) : Outcome := .next (s.onMain fun s => s.adcRefReady u.val)

/-- ADC_CAP_CTL (R309): Writing SIZE allocates or returns the capture ring. -/
def execAdcCapCtl (v : Word) (s : State) : Outcome := .next (s.onMain fun s => s.directWrite (RegId.off .ADC_CAP_CTL 0 0) v)

end Sys2Proof.Machine
end

