-- ==== Sys2Proof/Machine/ErrorsCmds.lean ====
section
/-! DEFINITION. The meanings of the commands of brown-outs, safe state and handshakes. -/
namespace Sys2Proof.Machine

/-- BROWN_OUT (R474): A main supply crosses a cause-6 threshold for 2 µs and the device enters safe state. -/
def execBrownOut (n : Fin 16) (s : State) : Outcome := .next (s.onMain fun s => s.brownOut n.val)

/-- BROWN_OUT_CLEAR (R474): Every supply has been back within thresholds for 1 ms and cause 6 clears. -/
def execBrownOutClear (s : State) : Outcome := .next (s.onMain fun s => s.brownOutClear)

/-- SAFE_CLR (R454): Writing SAFE_CLR clears causes and leaves safe state when none remains. -/
def execSafeClr (s : State) : Outcome := .next (s.onMain fun s => s.directWrite (RegId.off .ERR_CMD 0 0) 1)

/-- CONSUME (R457): Writing CONSUME advances ERR_LOG_RD past the selected record. -/
def execConsume (s : State) : Outcome := .next (s.onMain fun s => s.directWrite (RegId.off .ERR_CMD 0 0) 2)

/-- HANDSHAKE_TIMEOUT (R440): A fabric step without acknowledge for 4 µs is withdrawn and offered once more. -/
def execHandshakeTimeout (stage : Nat) (tag : Nat) (grp : Option (Fin 8)) (again : Bool) (s : State) : Outcome :=
  .next (s.onMain fun s => s.handshake stage tag (grp.map fun (g : Fin 8) => g.val) again)

end Sys2Proof.Machine
end

