-- ==== Sys2Proof/Machine/EventCmds.lean ====
section
/-! DEFINITION. The meanings of the commands of events, binary inputs and time matches. -/
namespace Sys2Proof.Machine

/-- LOG_READ (R210): Moves event-log records to host memory and optionally consumes them. -/
def execLogRead (q : Fin 10) (k : Nat) (s : State) : Outcome := .next (s.onMain fun s => s.logRead q.val k)

/-- BINARY_INPUT_CHANGE (R280): A binary input's debounced state changes after DEB consecutive differing samples, raising a
class 1 event. -/
def execBinaryInputChange (n : Fin 32) (t : Nat) (s : State) : Outcome := .next (s.onMain fun s => s.binChange n.val t)

/-- BOUNCE (R280): A differing run ends before it is accepted and is counted as a bounce. -/
def execBounce (n : Fin 32) (s : State) : Outcome := .next (s.onMain fun s => s.binBounce n.val)

/-- BINARY_INPUT_START (R281): A started input takes its state from a stable run and sets VALID. -/
def execBinaryInputStart (n : Fin 32) (level : Bool) (s : State) : Outcome :=
  .next (s.onMain fun s => s.binStable n.val level)

/-- TIME_MATCH_ARM (R207): Writing ARM of EVT_TM_CTL_k arms a time match or sets PAST_k when already passed. -/
def execTimeMatchArm (k : Fin 8) (on : Bool) (s : State) : Outcome :=
  .next (s.onMain fun s => s.directBit .EVT_TM_CTL_k k.val 0 on)

/-- TIME_MATCH (R207): Device time reaches an armed match time and the match fires a class 6 event. -/
def execTimeMatch (k : Fin 8) (s : State) : Outcome := .next (s.onMain fun s => s.timeMatch k.val)

/-- HOST_SOFT_EVENT (R200): Writing EVT_SOFT raises host soft events. -/
def execHostSoftEvent (v : Word) (s : State) : Outcome := .next (s.onMain fun s => s.directWrite (RegId.off .EVT_SOFT 0 0) v)

/-- EVENT_RECORD (R354): A chain event record arrives on VC2 and is forwarded and delivered locally. -/
def execEventRecord (p : Fin 3) (f : List Byte) (s : State) : Outcome := .next (s.onMain fun s => s.eventFlit p.val f)

/-- CHAIN_EVENT_EXECUTION (R204): A chain event reaches its execution time and acts on class 5 inputs and overrides. -/
def execChainEventExecution (s : State) : Outcome := .next (s.onMain fun s => s.chainEventExec)

end Sys2Proof.Machine
end

