-- ==== Sys2Proof/Machine/ExtMemoryCmds.lean ====
section
/-! DEFINITION. The meanings of the commands of external memory. -/
namespace Sys2Proof.Machine

/-- MEM_TEST_EXTERNAL (R413): Tests an external-memory range destructively, entering failing blocks as BAD. -/
def execMemTestExternal (q : Fin 10) (k : Nat) (fails : List GranuleFail) (s : State) : Outcome :=
  .next (s.onMain fun s => s.memTestExt q.val k fails)

/-- DRM_TRAINING_DONE (R400): Training of every channel at both rates completes, retried once or failed. -/
def execDrmTrainingDone (fails : List TrainFail) (s : State) : Outcome := .next (s.onMain fun s => s.trainingDone fails)

/-- DRM_READ_TIMEOUT (R405): A read without data after 20 µs is reissued, or fences its channel on a second failure. -/
def execDrmReadTimeout (addr : Nat) (again : Bool) (s : State) : Outcome := .next (s.onMain fun s => s.readTimeout addr again)

/-- REFRESH (R408): A per-bank refresh falls due at the interval that MR4 calls for. -/
def execRefresh (chan : Fin 4) (s : State) : Outcome := .next (s.onMain fun s => s.refresh chan.val)

/-- REFRESH_WINDOW_END (R410): At the end of each refresh window every row-activate table is cleared. -/
def execRefreshWindowEnd (s : State) : Outcome := .next (s.onMain fun s => s.windowEnd)

/-- MR4_READ (R408): MR4 is read from every channel every 4 ms, setting HOT or OVERTEMP. -/
def execMr4Read (c0 : Fin 8) (c1 : Fin 8) (c2 : Fin 8) (c3 : Fin 8) (s : State) : Outcome :=
  .next (s.onMain fun s => s.mr4Read c0.val c1.val c2.val c3.val)

/-- NEIGHBOUR_REFRESH (R410): An activate count reaching RAC_THR refreshes the neighbouring rows. -/
def execNeighbourRefresh (addr : Nat) (acts : Nat) (s : State) : Outcome :=
  .next (s.onMain fun s => s.neighbourRefresh addr acts)

/-- MAINTENANCE (R401): A ZQ calibration or DQS tracking item runs when slack allows, or sets MAINT_LATE. -/
def execMaintenance (slack : Nat) (waited : Nat) (current : Bool) (s : State) : Outcome :=
  .next (s.onMain fun s => s.maintenance slack waited current)

/-- SELF_REFRESH_ENTRY (R407): With no request and enough slack all channels enter self-refresh. -/
def execSelfRefreshEntry (slack : Nat) (s : State) : Outcome := .next (s.onMain fun s => s.selfRefEntry slack)

/-- SELF_REFRESH_EXIT (R407): A request or falling slack brings the channels out of self-refresh. -/
def execSelfRefreshExit (slack : Nat) (s : State) : Outcome := .next (s.onMain fun s => s.selfRefExit slack)

/-- POWER_DOWN_ENTRY (R407): A channel idle for 100 ns enters power-down. -/
def execPowerDownEntry (c : Fin 4) (s : State) : Outcome := .next (s.onMain fun s => s.powerDownEntry c.val)

/-- FCHG (R411): Writing FCHG in DRM_CMD requests a change to the shadow timing set or is refused. -/
def execFchg (slack : Nat) (s : State) : Outcome := .next (s.onMain fun s => s.fchgWrite slack)

/-- FCHG_DONE (R412): The frequency change completes, swaps ACTIVE and releases held requests. -/
def execFchgDone (s : State) : Outcome := .next (s.onMain fun s => s.fchgDone)

/-- DRM_FENCE_CLR (R405): Writing FENCE_CLR in DRM_CMD retrains a fenced channel and clears its fence on success. -/
def execDrmFenceClr (mask : Fin 16) (s : State) : Outcome :=
  .next (s.onMain fun s => s.directWrite (RegId.off .DRM_CMD 0 0) (mkW (2 + mask.val * 256)))

/-- DRM_GEOMETRY (R398): A change of DRM_GEOM or a hash mask clears written bits, demotes external segments and is logged. -/
def execDrmGeometry (inst : Fin 6) (v : Word) (s : State) : Outcome := .next (s.onMain fun s => s.geometryWrite inst.val v)

end Sys2Proof.Machine
end

