-- ==== Sys2Proof/Machine/FirmwareCmds.lean ====
section
/-! DEFINITION. The meanings of the commands of firmware images, boot and the watchdog. -/
namespace Sys2Proof.Machine

/-- FW_BEGIN (R482): Opens a firmware update session and erases the slot not holding the running image. -/
def execFwBegin (q : Fin 10) (k : Nat) (s : State) : Outcome := .next (s.onMain fun s => s.fwBegin q.val k)

/-- FW_DATA (R482): Appends image data to the open update session. -/
def execFwData (q : Fin 10) (k : Nat) (s : State) : Outcome := .next (s.onMain fun s => s.fwData q.val k)

/-- FW_COMMIT (R482): Checks the image's authenticity and marks its slot active. -/
def execFwCommit (q : Fin 10) (k : Nat) (s : State) : Outcome := .next (s.onMain fun s => s.fwCommit q.val k)

/-- BOOT (R480): On release of the main reset the device tests memory, trains PCI Express, loads firmware and starts it. -/
def execBoot (rows : List BistRow) (readErrA : Bool) (readErrB : Bool) (link : Option (Nat × Nat)) (table : Word) (s : State) : Outcome :=
  .next (s.boot rows readErrA readErrB link table)

/-- WATCHDOG_EXPIRY (R441): The firmware watchdog expires and the control processor restarts, or halts if lasting. -/
def execWatchdogExpiry (s : State) : Outcome := .next (s.onMain fun s => s.watchdog)

end Sys2Proof.Machine
end

