-- ==== Sys2Proof/Machine/GroupCmds.lean ====
section
/-! DEFINITION. The meanings of the commands of the groups' commands and stage sets. -/
namespace Sys2Proof.Machine

/-- TABLE_WRITE (R190): Writes sequencer table entries at once, or stages them while the group runs. -/
def execTableWrite (q : Fin 10) (k : Nat) (s : State) : Outcome := .next (s.onMain fun s => s.tableWrite q.val k)

/-- GROUP_ARM (R191): Loads the start entry, fetches its horizon and arms the group once the entry is held. -/
def execGroupArm (q : Fin 10) (k : Nat) (s : State) : Outcome := .next (s.onMain fun s => s.groupArm q.val k)

/-- GROUP_START (R192): Starts an armed group at a start time, setting the start angle for the first sample edge. -/
def execGroupStart (q : Fin 10) (k : Nat) (s : State) : Outcome := .next (s.onMain fun s => s.groupStart q.val k)

/-- GROUP_STOP (R193): Requests a stop of the group at the stop point of its mode. -/
def execGroupStop (q : Fin 10) (k : Nat) (s : State) : Outcome := .next (s.onMain fun s => s.groupStop q.val k)

/-- STAGE (R182): Adds staged field writes to the open set and optionally releases it. -/
def execStage (q : Fin 10) (k : Nat) (s : State) : Outcome := .next (s.onMain fun s => s.stage q.val k)

/-- COMMIT (R190): Releases the open set of a group. -/
def execCommit (q : Fin 10) (k : Nat) (s : State) : Outcome := .next (s.onMain fun s => s.commit q.val k)

/-- FORCE_JUMP (R194): Acts as an event of its group that switches to the named target entry. -/
def execForceJump (q : Fin 10) (k : Nat) (s : State) : Outcome := .next (s.onMain fun s => s.forceJump q.val k)

/-- STAGE_HOLD (R182): Writing HOLD collects additions in the open set, or releases it when written to 0. -/
def execStageHold (g : Fin 8) (on : Bool) (s : State) : Outcome :=
  .next (s.onMain fun s => s.directBit .Gn_STAGE_CTL g.val 0 on)

/-- STAGE_DISCARD (R198): Writing DISCARD empties the group's open set. -/
def execStageDiscard (g : Fin 8) (s : State) : Outcome := .next (s.onMain fun s => s.directBit .Gn_STAGE_CTL g.val 1 true)

end Sys2Proof.Machine
end

