-- ==== Sys2Proof/Machine/IslandCmds.lean ====
section
/-! DEFINITION. The meanings of the commands of the management island, its line and its power. -/
namespace Sys2Proof.Machine

/-- COMMAND_FRAME (R426): A management COMMAND frame is executed by the island or forwarded to queue 8. -/
def execCommandFrame (f : List Byte) (claims : List (Nat × Nat)) (s : State) : Outcome :=
  .next (s.commandFrame f (claimRefs claims))

/-- POLL (R423): A POLL frame from the master opens a reply slot. -/
def execPoll (f : List Byte) (s : State) : Outcome := .next (s.pollFrame f)

/-- MGT_FRAME_ERROR (R423): A management frame with bad SFD, FCS or LEN is discarded and counted. -/
def execMgtFrameError (f : List Byte) (s : State) : Outcome := .next (s.frameError f)

/-- MGT_HEARTBEAT (R427): The control processor's heartbeat write sets MAIN_RUN and clears MAIN_UNRESP. -/
def execMgtHeartbeat (s : State) : Outcome := .next (s.heartbeat)

/-- MAIN_UNRESP (R427): No heartbeat for 1 s; the island reports, records and takes SILENT_ACT. -/
def execMainUnresp (s : State) : Outcome := .next (s.mainUnresp)

/-- LINE_SILENCE (R427): The master is silent for LINE_TO ms and LINE_ACT is taken. -/
def execLineSilence (s : State) : Outcome := .next (s.lineSilence)

/-- PWR_REQ (R431): Writing PWR_REQ through queue 8 powers the main supplies down after safe request and reset, or up again.
-/
def execPwrReq (on : Bool) (s : State) : Outcome := .next (s.pwrReq on)

/-- ISLAND_POWER_ON (R476): The island powers on, clears MGT state and raises PWR_EN. -/
def execIslandPowerOn (s : State) : Outcome := .next (s.islandOn)

/-- MAIN_PWR_UP (R431): The main supplies come within range and MAIN_PWR sets, holding reset for 10 ms. -/
def execMainPwrUp (s : State) : Outcome := .next (s.mainPwrUp)

/-- MAIN_PWR_LOSS (R475): MAIN_PWR clears; the island asserts safe request and main reset and writes a crash record. -/
def execMainPwrLoss (s : State) : Outcome := .next (s.mainPwrLoss)

/-- RST_N (R476): RST_N held low resets the main side. -/
def execRstN (low : Bool) (s : State) : Outcome := .next (s.rstN low)

/-- LINE_ACTIVE_TIMEOUT (R434): One second passes without a valid master frame and LINE_ACTIVE in MGT_STATUS clears. -/
def execLineActiveTimeout (s : State) : Outcome := .next (s.lineQuiet)

/-- ISLAND_POWER_LOSS (R478): VDD_MG is lost, the island stops and PWR_EN falls low as an unpowered pin. -/
def execIslandPowerLoss (s : State) : Outcome := .next (s.islandOff)

end Sys2Proof.Machine
end

