-- ==== Sys2Proof/Machine/MemoryCmds.lean ====
section
/-! DEFINITION. The meanings of the commands of on-chip memory. -/
namespace Sys2Proof.Machine

/-- MEM_TEST (R387): Tests on-chip rows destructively or transparently, repairing failing rows. -/
def execMemTest (q : Fin 10) (k : Nat) (fails : List RowFail) (s : State) : Outcome :=
  .next (s.onMain fun s => s.memTest q.val k fails)

/-- MEM_CASTLE (R377): A castling request hands a bank set to a new owner or is refused. -/
def execMemCastle (v : Word) (s : State) : Outcome := .next (s.onMain fun s => s.directWrite (RegId.off .MEM_CASTLE 0 0) v)

/-- CASTLING_DONE (R378): The castling completes, optionally clearing the set, and DONE is set. -/
def execCastlingDone (s : State) : Outcome := .next (s.onMain fun s => s.castlingDone)

/-- MEM_SETN_OWN (R379): A direct owner write hands a set over at once while MEM is not running. -/
def execMemSetnOwn (n : Fin 8) (v : Word) (s : State) : Outcome :=
  .next (s.onMain fun s => s.directWrite (RegId.off .MEM_SETn_OWN n.val 0) v)

/-- POWER_STATE_REQUEST (R385): A write of MEM_SETn_PWR requests a bank-set power state or is refused. -/
def execPowerStateRequest (n : Fin 8) (v : Word) (s : State) : Outcome :=
  .next (s.onMain fun s => s.directWrite (RegId.off .MEM_SETn_PWR n.val 0) v)

/-- POWER_TRANSITION_DONE (R385): A bank set completes its power change and TRANSITION clears. -/
def execPowerTransitionDone (n : Fin 8) (s : State) : Outcome := .next (s.onMain fun s => s.powerDone n.val)

/-- SCRUB (R383): The scrubber reads and corrects every word of every ON set once per period. -/
def execScrub (ces : List Nat) (ues : List Nat) (s : State) : Outcome := .next (s.onMain fun s => s.scrub ces ues)

end Sys2Proof.Machine
end

