-- ==== Sys2Proof/Machine/NetCmds.lean ====
section
/-! DEFINITION. The meanings of the commands of Ethernet: sampled values, GOOSE and PTP. -/
namespace Sys2Proof.Machine

/-- SV_CONFIG (R316): Configures, enables or disables a sampled-value stream. -/
def execSvConfig (q : Fin 10) (k : Nat) (s : State) : Outcome := .next (s.onMain fun s => s.svConfig q.val k)

/-- GOOSE_SUB (R323): Configures, enables or disables a GOOSE subscription. -/
def execGooseSub (q : Fin 10) (k : Nat) (s : State) : Outcome := .next (s.onMain fun s => s.gooseSub q.val k)

/-- PTP_CONFIG (R329): Configures and enables the PTP ordinary clock. -/
def execPtpConfig (q : Fin 10) (k : Nat) (s : State) : Outcome := .next (s.onMain fun s => s.ptpConfig q.val k)

/-- ETH_LINK_UP (R334): An Ethernet port reaches block lock or synchronisation and LINK sets. -/
def execEthLinkUp (p : Fin 4) (s : State) : Outcome := .next (s.onMain fun s => s.ethLinkUp p.val)

/-- ETH_LINK_DOWN (R315): An Ethernet port's link goes down and its due frames are discarded. -/
def execEthLinkDown (p : Fin 4) (s : State) : Outcome := .next (s.onMain fun s => s.ethLinkDown p.val)

/-- FRAME_DISCARD (R315): A received frame with bad FCS, length or EtherType, or matching no subscription, is discarded and
counted. -/
def execFrameDiscard (p : Fin 4) (err : Bool) (s : State) : Outcome := .next (s.onMain fun s => s.frameDiscard p.val err)

/-- SV_STREAM_START (R317): An enabled stream starts at the next second boundary of device time. -/
def execSvStreamStart (st : Fin 16) (s : State) : Outcome := .next (s.onMain fun s => s.svStreamStart st.val)

/-- SV_FRAME (R321): After a frame's last sampling instant the sampled-value frame is built and presented to its port. -/
def execSvFrame (st : Fin 16) (missing : List (Nat × Nat)) (s : State) : Outcome :=
  .next (s.onMain fun s => s.svFrame st.val missing)

/-- GOOSE_FRAME (R325): A matched GOOSE frame is checked and accepted, refreshed or rejected by stNum and sqNum. -/
def execGooseFrame (f : GooseFrame) (t : Nat) (s : State) : Outcome := .next (s.onMain fun s => s.gooseFrame f t)

/-- TIME_ALLOWED_TO_LIVE_EXPIRY (R327): A subscription's time allowed to live runs out; STATE becomes EXPIRED and a class 9
event is raised. -/
def execTimeAllowedToLiveExpiry (d : Fin 64) (s : State) : Outcome := .next (s.onMain fun s => s.gooseExpire d.val)

/-- PTP_SYNC (R330): A Sync message yields an offset from master that drives steering and lock. -/
def execPtpSync (off : Int) (s : State) : Outcome := .next (s.onMain fun s => s.ptpSync off)

/-- PTP_ANNOUNCE (R330): An Announce message qualifies a master and passes its UTC offset, or is counted as foreign by a
master. -/
def execPtpAnnounce (a : Announce) (s : State) : Outcome := .next (s.onMain fun s => s.ptpAnnounce a)

/-- PTP_PDELAY (R331): A peer-delay request is answered or a response updates the mean peer delay. -/
def execPtpPdelay (resp : Option Nat) (s : State) : Outcome := .next (s.onMain fun s => s.ptpPdelay resp)

/-- PTP_INTERVAL (R328): The 1 s interval timer sends Sync, Announce or Pdelay_Req messages. -/
def execPtpInterval (s : State) : Outcome := .next (s.onMain fun s => s.ptpInterval)

/-- ANNOUNCE_RECEIPT_TIMEOUT (R328): No Announce arrives within 3 intervals and the slave loses its master. -/
def execAnnounceReceiptTimeout (s : State) : Outcome := .next (s.onMain fun s => s.announceTimeout)

/-- FOREIGN_TIMEOUT (R331): Three seconds after the last foreign Announce seen by a master-only clock, FOREIGN clears. -/
def execForeignTimeout (s : State) : Outcome := .next (s.onMain fun s => s.foreignTimeout)

end Sys2Proof.Machine
end

