-- ==== Sys2Proof/Machine/OutputCmds.lean ====
section
/-! DEFINITION. The meanings of the commands of channels' check windows and DACs. -/
namespace Sys2Proof.Machine

/-- CHECK_WINDOW_SET (R246): Arms, shadows or disarms an output check window. -/
def execCheckWindowSet (q : Fin 10) (k : Nat) (s : State) : Outcome := .next (s.onMain fun s => s.checkWindowSet q.val k)

/-- CHECK_WINDOW_CLOSE (R245): A window has covered COUNT codes and enters PASS or FAIL, then takes any shadow. -/
def execCheckWindowClose (c : Fin 32) (k : Fin 4) (t : Nat) (s : State) : Outcome :=
  .next (s.onMain fun s => s.cwClose (4 * c.val + k.val) t)

/-- MIDSCALE_RAMP_END (R258): A DAC finishes its 64-edge ramp and holds mid-scale. -/
def execMidscaleRampEnd (d : Fin 32) (s : State) : Outcome := .next (s.onMain fun s => s.rampEnd d.val)

/-- DAC_REF_READY (R260): The DAC reference settles, REF_READY sets and the power-on clamp is released. -/
def execDacRefReady (s : State) : Outcome := .next (s.onMain fun s => s.dacRefReady)

/-- RANGE_CHANGE_HOLD_END (R254): The range-change hold ends and the DAC tracks codes in the new range. -/
def execRangeChangeHoldEnd (d : Fin 32) (s : State) : Outcome := .next (s.onMain fun s => s.rangeHoldEnd d.val)

/-- MONITOR_SLOT (R292): A guard unit reads one DAC sense tap in the monitor slot of each 1 µs frame. -/
def execMonitorSlot (u15 : Bool) (f : Nat) (legP : Nat) (legN : Nat) (s : State) : Outcome :=
  .next (s.onMain fun s => s.monitorSlot u15 f legP legN)

/-- DAC_RETRY (R262): A DAC's OFF state ends after 1 ms and it drives again in RETRY. -/
def execDacRetry (d : Fin 32) (s : State) : Outcome := .next (s.onMain fun s => s.dacRetry d.val)

/-- DAC_RETRY_PASSED (R262): A DAC in RETRY sees no over-limit within 100 µs and returns to NORMAL. -/
def execDacRetryPassed (d : Fin 32) (s : State) : Outcome := .next (s.onMain fun s => s.dacRetryPassed d.val)

/-- DAC_FENCE_CLR (R263): Writing DAC_FENCE_CLR returns a fenced DAC to NORMAL. -/
def execDacFenceClr (v : Word) (s : State) : Outcome :=
  .next (s.onMain fun s => s.directWrite (RegId.off .DAC_FENCE_CLR 0 0) v)

end Sys2Proof.Machine
end

