-- ==== Sys2Proof/Machine/PatternCmds.lean ====
section
/-! DEFINITION. The meanings of the commands of pattern lanes, pairs, markers and pins. -/
namespace Sys2Proof.Machine

/-- PATTERN_STEP (R267): A P segment step falls due and drives its lanes. -/
def execPatternStep (g : Fin 8) (absent : Bool) (s : State) : Outcome := .next (s.onMain fun s => s.patternStep g.val absent)

/-- PAIR_MAKE (R271): The dead time of a complementary pair expires and the waiting lane goes high. -/
def execPairMake (k : Fin 32) (s : State) : Outcome := .next (s.onMain fun s => s.pairMake k.val)

/-- MARKER_END (R274): A marker pulse ends after WIDTH ticks. -/
def execMarkerEnd (m : Fin 16) (s : State) : Outcome := .next (s.onMain fun s => s.markerEnd m.val)

/-- PIN_MISMATCH (R276): Eight consecutive mismatching ticks raise a class 7 event and turn the pin off. -/
def execPinMismatch (n : Fin 64) (t : Nat) (s : State) : Outcome := .next (s.onMain fun s => s.pinMismatch n.val t)

/-- PIN_RETRY (R277): A pin's OFF state ends after 1 ms and it drives again in RETRY. -/
def execPinRetry (n : Fin 64) (s : State) : Outcome := .next (s.onMain fun s => s.pinRetry n.val)

/-- PIN_RETRY_PASSED (R277): A pin in RETRY sees no mismatch within 100 µs and returns to NORMAL. -/
def execPinRetryPassed (n : Fin 64) (s : State) : Outcome := .next (s.onMain fun s => s.pinRetryPassed n.val)

/-- PAT_FENCE_CLR (R278): Writing PAT_FENCE_CLR returns a fenced pin to NORMAL. -/
def execPatFenceClr (high : Bool) (v : Word) (s : State) : Outcome :=
  .next (s.onMain fun s => s.writeHalf .PAT_FENCE_CLR_LO .PAT_FENCE_CLR_HI high v)

/-- PAT_OVR_CLR (R272): Writing PAT_OVR_CLR ends event overrides on lanes. -/
def execPatOvrClr (high : Bool) (v : Word) (s : State) : Outcome :=
  .next (s.onMain fun s => s.writeHalf .PAT_OVR_CLR_LO .PAT_OVR_CLR_HI high v)

end Sys2Proof.Machine
end

