-- ==== Sys2Proof/Machine/PlaybackCmds.lean ====
section
/-! DEFINITION. The meanings of the commands of samples, marks, switches, underruns and stops of groups. -/
namespace Sys2Proof.Machine

/-- FIRST_SAMPLE_EDGE (R192): A waiting group reaches its first sample edge, presents sample 0 and enters RUNNING. -/
def execFirstSampleEdge (g : Fin 8) (t : Nat) (absent : Bool) (sine : Option BadWord) (s : State) : Outcome :=
  .next (s.onMain fun s => s.sampleZero g.val t absent sine)

/-- GROUP_SAMPLE (R104): A group advances its angle, words and accumulators and presents one sample frame at its sample edge.
-/
def execGroupSample (g : Fin 8) (t : Nat) (absent : Bool) (stale : Bool) (sine : Option BadWord) (s : State) : Outcome :=
  .next (s.onMain fun s => s.sampleEdge g.val t absent stale sine)

/-- TURN_MARK (R109): A turn boundary or the 1 s substitute mark occurs, at which late sets, enables and fallback rules act.
-/
def execTurnMark (g : Fin 8) (t : Nat) (s : State) : Outcome :=
  .next (s.onMain fun s => s.atSample g.val t fun s => s.turnMark g.val t)

/-- COMMIT_POINT (R186): Bound stage sets are applied whole at their commit sample and their commands complete. -/
def execCommitPoint (g : Fin 8) (t : Nat) (s : State) : Outcome :=
  .next (s.onMain fun s => s.atSample g.val t fun s => s.commitPoint g.val t)

/-- DURATION_END (R174): The playing entry reaches its duration end and the group goes on to NEXT or stops. -/
def execDurationEnd (g : Fin 8) (t : Nat) (s : State) : Outcome :=
  .next (s.onMain fun s => s.atSample g.val t fun s => s.durationEnd g.val t)

/-- SWITCH (R24): A conditional jump takes effect at its switch sample and the candidate frame of the target is presented. -/
def execSwitch (g : Fin 8) (t : Nat) (s : State) : Outcome :=
  .next (s.onMain fun s => s.atSample g.val t fun s => s.switch g.val t (some false))

/-- TARGET_HELD (R180): The gambit finishes holding a successor or target in its region. -/
def execTargetHeld (g : Fin 8) (e : Nat) (t : Nat) (bad : Option BadWord) (s : State) : Outcome :=
  .next (s.onMain fun s => s.targetHeldUe g.val e t bad)

/-- DELAYED_SWITCH (R181): A jump whose target was not held switches once the target has been held for 40 ticks. -/
def execDelayedSwitch (g : Fin 8) (t : Nat) (s : State) : Outcome :=
  .next (s.onMain fun s => s.atSample g.val t fun s => s.switch g.val t (some true))

/-- UNDERRUN (R444): A cause of underrun opens an underrun episode of the group. -/
def execUnderrun (g : Fin 8) (cause : Nat) (t : Nat) (ue : Option Nat) (s : State) : Outcome :=
  .next (s.onMain fun s => s.underrunUe g.val cause t ue)

/-- FALLBACK (R446): At the fallback boundary the group enters FALLBACK and plays its fallback segment. -/
def execFallback (g : Fin 8) (t : Nat) (s : State) : Outcome :=
  .next (s.onMain fun s => s.atSample g.val t fun s => s.fallback g.val t)

/-- RESUMPTION (R448): A group in FALLBACK with RESUME 1 restarts its due entry at a qualifying turn mark. -/
def execResumption (g : Fin 8) (t : Nat) (s : State) : Outcome :=
  .next (s.onMain fun s => s.atSample g.val t fun s => s.resumption g.val t)

/-- STOP_POINT (R193): A group reaches its stop point, ramps its DACs, sets safe levels and enters STOPPED. -/
def execStopPoint (g : Fin 8) (t : Nat) (s : State) : Outcome :=
  .next (s.onMain fun s => s.atSample g.val t fun s => s.stopPoint g.val t)

/-- GROUP_FENCE (R438): A lasting fault in a stage of one group fences and stops that group. -/
def execGroupFence (g : Fin 8) (stage : Nat) (s : State) : Outcome := .next (s.onMain fun s => s.fenceGroup g.val stage)

/-- GFENCE_CLR (R438): Writing GFENCE_CLR in ERR_CMD clears a group's fence. -/
def execGfenceClr (mask : Fin 256) (s : State) : Outcome :=
  .next (s.onMain fun s => s.directWrite (RegId.off .ERR_CMD 0 0) (mkW (mask.val * 256)))

/-- FLIT_CHECK_FAIL (R20): A fabric flit fails its check and is requested once more, or its frame is discarded as an
underrun. -/
def execFlitCheckFail (g : Fin 8) (t : Nat) (again : Bool) (s : State) : Outcome :=
  .next (s.onMain fun s => s.flitCheckFail g.val t again)

end Sys2Proof.Machine
end

