-- ==== Sys2Proof/Machine/ProtocolCmds.lean ====
section
/-! DEFINITION. The meanings of the commands of packets of the chain, ECHO, IDENTIFY, RESET_MAIN and SAFE_STATE. -/
namespace Sys2Proof.Machine

/-- PLAKU_MESSAGE (R33): A Plaku packet arriving on the chain is executed at its destination or forwarded, and its reply
returns on the same path. -/
def execPlakuMessage (p : Fin 3) (s : State) : Outcome := .next (s.onMain fun s => s.plakuMessage p.val)

/-- ECHO (R51): Returns the payload unchanged. -/
def execEcho (q : Fin 10) (k : Nat) (s : State) : Outcome := .next (s.onMain fun s => s.echo q.val k)

/-- IDENTIFY (R51): Returns part number, revision, firmware version, address and configuration epoch. -/
def execIdentify (q : Fin 10) (k : Nat) (s : State) : Outcome := .next (s.onMain fun s => s.identify q.val k)

/-- RESET_MAIN (R430): On queue 8 the island asserts safe request and main reset, holds it, writes a crash record and
releases the main side to boot. -/
def execResetMain (q : Fin 10) (k : Nat) (packet : List Byte) (s : State) : Outcome := .next (s.resetMain q.val k packet)

/-- SAFE_STATE (R429): Brings the device into safe state; on queue 8 it acts on receipt ahead of all other commands. -/
def execSafeState (q : Fin 10) (k : Nat) (packet : List Byte) (claims : List (Nat × Nat)) (s : State) : Outcome :=
  .next (s.safeState q.val k packet (claimRefs claims))

end Sys2Proof.Machine
end

