-- ==== Sys2Proof/Machine/QueueCmds.lean ====
section
/-! DEFINITION. The meanings of the commands of host queues, their completion and reset. -/
namespace Sys2Proof.Machine

/-- Q_SQ_TAIL (R59): Host writes a new submission tail to a queue's doorbell, making ring entries available for fetch. -/
def execQSqTail (q : Fin 8) (v : Word) (s : State) : Outcome := .next (s.onMain fun s => s.sqTail q.val v)

/-- PACKET_FETCH (R38): Device fetches one submission ring entry when the in-flight limit allows and runs the acceptance
checks on its packet. -/
def execPacketFetch (q : Fin 8) (entry : List Byte) (packet : List Byte) (s : State) : Outcome :=
  .next (s.onMain fun s => s.packetFetch q.val entry packet)

/-- DUPLICATE_REPLY (R46): A repeated sequence number waiting at check 5 is answered with the recorded reply once its
original completes, or continues as new. -/
def execDuplicateReply (q : Fin 10) (k : Nat) (s : State) : Outcome := .next (s.onMain fun s => s.duplicateReply q.val k)

/-- COMPLETION_POST (R57): Device posts a completion entry, with the reply buffer first, in submission order and only when
the completion ring has room. -/
def execCompletionPost (q : Fin 10) (s : State) : Outcome := .next (s.onMain fun s => s.completionPost q.val)

/-- Q_CQ_HEAD (R58): Host advances the completion head, freeing ring room and re-enabling the completion message. -/
def execQCqHead (q : Fin 8) (v : Word) (s : State) : Outcome := .next (s.onMain fun s => s.cqHead q.val v)

/-- QUEUE_ENABLE (R61): Write of EN in Q_CTL enables a queue afresh or stops its fetching. -/
def execQueueEnable (q : Fin 8) (v : Word) (s : State) : Outcome :=
  .next (s.onMain fun s => s.writeQCtl q.val (v &&& ~~~(mkW 6)))

/-- QUEUE_RESET (R64): Write of RESET in Q_CTL begins a queue reset that stops, withdraws or drops the queue's commands. -/
def execQueueReset (q : Fin 8) (v : Word) (s : State) : Outcome :=
  .next (s.onMain fun s => s.writeQCtl q.val (setBit v 1 true))

/-- QUEUE_RESET_DONE (R64): The queue reset completes, clearing windows, skip state and indices, and RESETTING clears. -/
def execQueueResetDone (q : Fin 8) (s : State) : Outcome := .next (s.onMain fun s => s.queueResetDone q.val)

/-- RESUME (R43): Write of RESUME in Q_CTL ends every skip state of the queue. -/
def execResume (q : Fin 8) (v : Word) (s : State) : Outcome := .next (s.onMain fun s => s.writeQCtl q.val (setBit v 2 true))

/-- FUNCTION_LEVEL_RESET (R65): A PCI Express function-level reset applies a queue reset to all host queues and resets
configuration space and BAR2. -/
def execFunctionLevelReset (s : State) : Outcome := .next (s.onMain fun s => s.flr)

/-- COMMAND_TIMEOUT (R50): A command's family timeout expires; the command stops at its safe point and completes with
TIMEOUT. -/
def execCommandTimeout (q : Fin 10) (k : Nat) (s : State) : Outcome := .next (s.onMain fun s => s.timeoutCmd q.val k)

/-- PCIE_LINK_TRAINING (R63): The PCI Express host link goes down or trains, updating HST_LINK, counting down-trainings and
changing root eligibility under ROLE 0. -/
def execPcieLinkTraining (up : Bool) (speed : Fin 16) (width : Fin 32) (s : State) : Outcome :=
  .next (s.onMain fun s => s.hostLink up speed.val width.val)

end Sys2Proof.Machine
end

