-- ==== Sys2Proof/Machine/RegisterCmds.lean ====
section
/-! DEFINITION. The meanings of the commands of reads and writes of registers, enables and locks. -/
namespace Sys2Proof.Machine

/-- REG_READ (R51): Reads 1 to 64 consecutive registers in ascending offset order. -/
def execRegRead (q : Fin 10) (k : Nat) (s : State) : Outcome := .next (s.onMain fun s => s.regRead q.val k)

/-- REG_WRITE (R52): Checks every offset-value pair and applies all of them in order or none. -/
def execRegWrite (q : Fin 10) (k : Nat) (s : State) : Outcome := .next (s.onMain fun s => s.regWrite q.val k)

/-- REG_WRITE_MASKED (R53): Read-modify-writes one register atomically under its block's mutual-exclusion element. -/
def execRegWriteMasked (q : Fin 10) (k : Nat) (s : State) : Outcome := .next (s.onMain fun s => s.regWriteMasked q.val k)

/-- REGISTER_WRITE (R74): A direct BAR0 or BAR2 write to a register without a row of its own is applied or ignored and
counted. -/
def execRegisterWrite (sp : Space) (off : Nat) (val : Word) (be : Fin 256) (hi : Option Word) (s : State) : Outcome :=
  .next (s.onMain fun s => s.registerWrite sp off val be.val hi)

/-- LATCH_READ (R68): A read of a latching _LO or ERR_LOG_REC_0 register latches the matching high words for the same master.
-/
def execLatchRead (sp : Space) (off : Nat) (wide : Bool) (s : State) : Outcome :=
  .next (s.onMain fun s => s.latchRead sp off wide)

/-- STAGED_WRITE (R182): A write to a staged field of a running group is added to the open set and released unless HOLD is 1.
-/
def execStagedWrite (off : Nat) (val : Word) (s : State) : Outcome := .next (s.onMain fun s => s.directWrite off val)

/-- BLOCK_ENABLE (R72): Setting a block or instance enable starts it if its prerequisites are present. -/
def execBlockEnable (x : EnTarget) (s : State) : Outcome := .next (s.onMain fun s => s.enable x true)

/-- BLOCK_DISABLE (R72): Clearing a block or instance enable stops it at its chapter's stop point. -/
def execBlockDisable (x : EnTarget) (s : State) : Outcome := .next (s.onMain fun s => s.enable x false)

/-- DEFERRED_ENABLE_CHANGE (R467): A waiting change of the HRM, OUT, DAC, DRM or PLL enable takes effect once every concerned
group has stopped. -/
def execDeferredEnableChange (s : State) : Outcome := .next (s.onMain fun s => s.settleEnables State.dacBlock)

/-- LOCK_SET (R79): Writing 1 to a SYS_LOCK bit protects the listed fields until reset. -/
def execLockSet (v : Word) (s : State) : Outcome := .next (s.onMain fun s => s.directWrite (RegId.off .SYS_LOCK 0 0) v)

/-- SYS_CNT_RESET (R81): Writing 1 to a bit clears every counter of the named block. -/
def execSysCntReset (v : Word) (s : State) : Outcome :=
  .next (s.onMain fun s => s.directWrite (RegId.off .SYS_CNT_RESET 0 0) v)

/-- SLACK_WINDOW (R15): At the end of each 1 ms window the slack ratio is updated and compared with the threshold. -/
def execSlackWindow (ratio : Nat) (s : State) : Outcome := .next (s.onMain fun s => s.slackWindow ratio)

end Sys2Proof.Machine
end

