-- ==== Sys2Proof/Machine/SegmentCmds.lean ====
section
/-! DEFINITION. The meanings of the commands of segments and memory ranges. -/
namespace Sys2Proof.Machine

/-- SEG_DEFINE (R154): Checks and stores a segment descriptor and puts the segment in DEFINED. -/
def execSegDefine (q : Fin 10) (k : Nat) (s : State) : Outcome := .next (s.onMain fun s => s.segDefine q.val k)

/-- SEG_LOAD (R155): Copies host data into a segment's data area and optionally verifies the whole area. -/
def execSegLoad (q : Fin 10) (k : Nat) (data : List Byte) (s : State) : Outcome :=
  .next (s.onMain fun s => s.segLoad q.val k data)

/-- SEG_VERIFY (R156): Queries a segment's state or checks its data area against its CRC, retrying once and fencing on a
second mismatch. -/
def execSegVerify (q : Fin 10) (k : Nat) (glitch : Bool) (ue : Option Nat) (s : State) : Outcome :=
  .next (s.onMain fun s => s.segVerify q.val k glitch ue)

/-- SEG_FREE (R157): Releases a segment's data area and puts it in FREE. -/
def execSegFree (q : Fin 10) (k : Nat) (s : State) : Outcome := .next (s.onMain fun s => s.segFree q.val k)

/-- MEM_FILL (R158): Writes a 32-bit pattern to every word of an external or on-chip range. -/
def execMemFill (q : Fin 10) (k : Nat) (s : State) : Outcome := .next (s.onMain fun s => s.memFill q.val k)

/-- MEM_READ (R159): Moves an external or on-chip range to host memory by DMA, flagging unwritten blocks. -/
def execMemRead (q : Fin 10) (k : Nat) (bad : List Nat) (ces : List Nat) (retry : Option Nat) (s : State) : Outcome :=
  .next (s.onMain fun s => s.memRead q.val k bad ces retry)

end Sys2Proof.Machine
end

