-- ==== Sys2Proof/Machine/TimeCmds.lean ====
section
/-! DEFINITION. The meanings of the commands of the timebase and the synthesisers. -/
namespace Sys2Proof.Machine

/-- TIME_SET (R92): Loads device time at execution or at the next PPS_IN edge. -/
def execTimeSet (q : Fin 10) (k : Nat) (s : State) : Outcome := .next (s.onMain fun s => s.timeSet q.val k)

/-- TIME_SET_CALENDAR (R97): Converts a UTC date and time to TAI seconds and loads it as TIME_SET. -/
def execTimeSetCalendar (q : Fin 10) (k : Nat) (s : State) : Outcome := .next (s.onMain fun s => s.timeSetCalendar q.val k)

/-- TIME_GET (R94): Returns device time and optionally the UTC calendar date. -/
def execTimeGet (q : Fin 10) (k : Nat) (s : State) : Outcome := .next (s.onMain fun s => s.timeGet q.val k)

/-- PLL_A_LOCK (R132): PLL A declares lock, so device time counts. -/
def execPllALock (s : State) : Outcome := .next (s.onMain fun s => s.pllALock)

/-- PLL_A_LOCK_LOSS (R90): PLL A loses lock: device time stops, TIME_VALID clears and safe state cause 3 begins. -/
def execPllALockLoss (s : State) : Outcome := .next (s.onMain fun s => s.pllALockLoss)

/-- REFERENCE_LOSS (R87): The selected reference misses its criterion and the timebase enters holdover. -/
def execReferenceLoss (s : State) : Outcome := .next (s.onMain fun s => s.referenceLoss)

/-- HOLDOVER_END (R87): The reference has been present for 100 ms and holdover ends. -/
def execHoldoverEnd (s : State) : Outcome := .next (s.onMain fun s => s.holdoverEnd)

/-- TIME_STEP (R93): A pending correction steps device time at a second boundary while no group is enabled. -/
def execTimeStep (s : State) : Outcome := .next (s.onMain fun s => s.timeStep)

/-- PPS_OUT (R99): PPS_OUT rises at tick-of-second 0 and falls after PPS_WIDTH ms. -/
def execPpsOut (rise : Bool) (s : State) : Outcome := .next (s.onMain fun s => s.ppsOutEdge rise)

/-- PPS_IN_EDGE (R100): A PPS_IN edge is time-stamped, sets PPS_SEEN and may load a waiting TIME_SET. -/
def execPpsInEdge (rise : Bool) (t : Nat) (s : State) : Outcome := .next (s.onMain fun s => s.ppsInEdge rise t)

/-- PPS_SEEN_TIMEOUT (R100): No PPS_IN edge for 2 s clears PPS_SEEN. -/
def execPpsSeenTimeout (s : State) : Outcome := .next (s.onMain fun s => s.ppsSeenTimeout)

/-- PLL_APPLY (R129): Writing PLLx_APPLY requests the shadow values, refused when invalid or disturbing running groups. -/
def execPllApply (x : Fin 2) (v : Word) (s : State) : Outcome :=
  .next (s.onMain fun s => s.directWrite (RegId.off .PLLx_APPLY x.val 0) v)

/-- APPLY_EDGE (R129): An accepted apply takes effect at the first reference edge at least 8 ticks later. -/
def execApplyEdge (x : Fin 2) (s : State) : Outcome := .next (s.onMain fun s => s.applyEdge x.val)

/-- PLL_LOCK (R127): The lock detector declares LOCK after LOCK_WINS good windows. -/
def execPllLock (x : Fin 2) (count : Nat) (s : State) : Outcome := .next (s.onMain fun s => s.pllLock x.val count)

/-- PLL_LOCK_LOSS (R128): LOCK clears on a running synthesiser and every group clocked by it stops. -/
def execPllLockLoss (x : Fin 2) (count : Nat) (s : State) : Outcome := .next (s.onMain fun s => s.pllLockLoss x.val count)

/-- CKOUT_ENABLE (R133): Setting or clearing EN of CKOUT_CTLn starts or stops a clock output without runt pulses. -/
def execCkoutEnable (n : Fin 4) (on : Bool) (s : State) : Outcome :=
  .next (s.onMain fun s => s.directBit .CKOUT_CTLn n.val 0 on)

/-- PPS_WAIT_TIMEOUT (R92): A TIME_SET or TIME_SET_CALENDAR with AT_PPS 1 sees no PPS_IN edge within 1.5 s and completes with
TIMEOUT, leaving time unchanged. -/
def execPpsWaitTimeout (q : Fin 10) (k : Nat) (s : State) : Outcome := .next (s.onMain fun s => s.ppsWaitTimeout q.val k)

end Sys2Proof.Machine
end

