-- ==== Sys2Proof/Machine/Dispatch.lean ====
section
/-! DEFINITION. The meaning of every command, by its row of the table. -/

namespace Sys2Proof.Machine

/-- The effect of a command on everything but the queue of waiting commands. -/
def exec (i : Instr) (s : State) : Host.Outcome State Fault Refusal :=
  match i with
  | .qSqTail q v => Sys2Proof.Machine.execQSqTail q v s
  | .packetFetch q entry packet => Sys2Proof.Machine.execPacketFetch q entry packet s
  | .duplicateReply q k => Sys2Proof.Machine.execDuplicateReply q k s
  | .completionPost q => Sys2Proof.Machine.execCompletionPost q s
  | .qCqHead q v => Sys2Proof.Machine.execQCqHead q v s
  | .queueEnable q v => Sys2Proof.Machine.execQueueEnable q v s
  | .queueReset q v => Sys2Proof.Machine.execQueueReset q v s
  | .queueResetDone q => Sys2Proof.Machine.execQueueResetDone q s
  | .resume q v => Sys2Proof.Machine.execResume q v s
  | .functionLevelReset => Sys2Proof.Machine.execFunctionLevelReset s
  | .commandTimeout q k => Sys2Proof.Machine.execCommandTimeout q k s
  | .plakuMessage p => Sys2Proof.Machine.execPlakuMessage p s
  | .echo q k => Sys2Proof.Machine.execEcho q k s
  | .identify q k => Sys2Proof.Machine.execIdentify q k s
  | .resetMain q k packet => Sys2Proof.Machine.execResetMain q k packet s
  | .safeState q k packet claims => Sys2Proof.Machine.execSafeState q k packet claims s
  | .regRead q k => Sys2Proof.Machine.execRegRead q k s
  | .regWrite q k => Sys2Proof.Machine.execRegWrite q k s
  | .regWriteMasked q k => Sys2Proof.Machine.execRegWriteMasked q k s
  | .registerWrite sp off val be hi => Sys2Proof.Machine.execRegisterWrite sp off val be hi s
  | .latchRead sp off wide => Sys2Proof.Machine.execLatchRead sp off wide s
  | .stagedWrite off val => Sys2Proof.Machine.execStagedWrite off val s
  | .blockEnable x => Sys2Proof.Machine.execBlockEnable x s
  | .blockDisable x => Sys2Proof.Machine.execBlockDisable x s
  | .deferredEnableChange => Sys2Proof.Machine.execDeferredEnableChange s
  | .lockSet v => Sys2Proof.Machine.execLockSet v s
  | .sysCntReset v => Sys2Proof.Machine.execSysCntReset v s
  | .slackWindow ratio => Sys2Proof.Machine.execSlackWindow ratio s
  | .segDefine q k => Sys2Proof.Machine.execSegDefine q k s
  | .segLoad q k data => Sys2Proof.Machine.execSegLoad q k data s
  | .segVerify q k glitch ue => Sys2Proof.Machine.execSegVerify q k glitch ue s
  | .segFree q k => Sys2Proof.Machine.execSegFree q k s
  | .memFill q k => Sys2Proof.Machine.execMemFill q k s
  | .memRead q k bad ces retry => Sys2Proof.Machine.execMemRead q k bad ces retry s
  | .tableWrite q k => Sys2Proof.Machine.execTableWrite q k s
  | .groupArm q k => Sys2Proof.Machine.execGroupArm q k s
  | .groupStart q k => Sys2Proof.Machine.execGroupStart q k s
  | .groupStop q k => Sys2Proof.Machine.execGroupStop q k s
  | .stage q k => Sys2Proof.Machine.execStage q k s
  | .commit q k => Sys2Proof.Machine.execCommit q k s
  | .forceJump q k => Sys2Proof.Machine.execForceJump q k s
  | .stageHold g on => Sys2Proof.Machine.execStageHold g on s
  | .stageDiscard g => Sys2Proof.Machine.execStageDiscard g s
  | .adcSeqSet q k => Sys2Proof.Machine.execAdcSeqSet q k s
  | .adcSelfcal q k found => Sys2Proof.Machine.execAdcSelfcal q k found s
  | .adcRead q k => Sys2Proof.Machine.execAdcRead q k s
  | .chainEnum q k remote => Sys2Proof.Machine.execChainEnum q k remote s
  | .census q k table => Sys2Proof.Machine.execCensus q k table s
  | .chainBroadcast q k => Sys2Proof.Machine.execChainBroadcast q k s
  | .chainAlign q k => Sys2Proof.Machine.execChainAlign q k s
  | .svConfig q k => Sys2Proof.Machine.execSvConfig q k s
  | .gooseSub q k => Sys2Proof.Machine.execGooseSub q k s
  | .ptpConfig q k => Sys2Proof.Machine.execPtpConfig q k s
  | .memTest q k fails => Sys2Proof.Machine.execMemTest q k fails s
  | .memTestExternal q k fails => Sys2Proof.Machine.execMemTestExternal q k fails s
  | .logRead q k => Sys2Proof.Machine.execLogRead q k s
  | .checkWindowSet q k => Sys2Proof.Machine.execCheckWindowSet q k s
  | .timeSet q k => Sys2Proof.Machine.execTimeSet q k s
  | .timeSetCalendar q k => Sys2Proof.Machine.execTimeSetCalendar q k s
  | .timeGet q k => Sys2Proof.Machine.execTimeGet q k s
  | .fwBegin q k => Sys2Proof.Machine.execFwBegin q k s
  | .fwData q k => Sys2Proof.Machine.execFwData q k s
  | .fwCommit q k => Sys2Proof.Machine.execFwCommit q k s
  | .pllALock => Sys2Proof.Machine.execPllALock s
  | .pllALockLoss => Sys2Proof.Machine.execPllALockLoss s
  | .referenceLoss => Sys2Proof.Machine.execReferenceLoss s
  | .holdoverEnd => Sys2Proof.Machine.execHoldoverEnd s
  | .timeStep => Sys2Proof.Machine.execTimeStep s
  | .ppsOut rise => Sys2Proof.Machine.execPpsOut rise s
  | .ppsInEdge rise t => Sys2Proof.Machine.execPpsInEdge rise t s
  | .ppsSeenTimeout => Sys2Proof.Machine.execPpsSeenTimeout s
  | .pllApply x v => Sys2Proof.Machine.execPllApply x v s
  | .applyEdge x => Sys2Proof.Machine.execApplyEdge x s
  | .pllLock x count => Sys2Proof.Machine.execPllLock x count s
  | .pllLockLoss x count => Sys2Proof.Machine.execPllLockLoss x count s
  | .ckoutEnable n on => Sys2Proof.Machine.execCkoutEnable n on s
  | .firstSampleEdge g t absent sine => Sys2Proof.Machine.execFirstSampleEdge g t absent sine s
  | .groupSample g t absent stale sine => Sys2Proof.Machine.execGroupSample g t absent stale sine s
  | .turnMark g t => Sys2Proof.Machine.execTurnMark g t s
  | .commitPoint g t => Sys2Proof.Machine.execCommitPoint g t s
  | .durationEnd g t => Sys2Proof.Machine.execDurationEnd g t s
  | .switch g t => Sys2Proof.Machine.execSwitch g t s
  | .targetHeld g e t bad => Sys2Proof.Machine.execTargetHeld g e t bad s
  | .delayedSwitch g t => Sys2Proof.Machine.execDelayedSwitch g t s
  | .underrun g cause t ue => Sys2Proof.Machine.execUnderrun g cause t ue s
  | .fallback g t => Sys2Proof.Machine.execFallback g t s
  | .resumption g t => Sys2Proof.Machine.execResumption g t s
  | .stopPoint g t => Sys2Proof.Machine.execStopPoint g t s
  | .groupFence g stage => Sys2Proof.Machine.execGroupFence g stage s
  | .gfenceClr mask => Sys2Proof.Machine.execGfenceClr mask s
  | .binaryInputChange n t => Sys2Proof.Machine.execBinaryInputChange n t s
  | .bounce n => Sys2Proof.Machine.execBounce n s
  | .binaryInputStart n level => Sys2Proof.Machine.execBinaryInputStart n level s
  | .timeMatchArm k on => Sys2Proof.Machine.execTimeMatchArm k on s
  | .timeMatch k => Sys2Proof.Machine.execTimeMatch k s
  | .hostSoftEvent v => Sys2Proof.Machine.execHostSoftEvent v s
  | .eventRecord p f => Sys2Proof.Machine.execEventRecord p f s
  | .chainEventExecution => Sys2Proof.Machine.execChainEventExecution s
  | .checkWindowClose c k t => Sys2Proof.Machine.execCheckWindowClose c k t s
  | .midscaleRampEnd d => Sys2Proof.Machine.execMidscaleRampEnd d s
  | .dacRefReady => Sys2Proof.Machine.execDacRefReady s
  | .rangeChangeHoldEnd d => Sys2Proof.Machine.execRangeChangeHoldEnd d s
  | .monitorSlot u15 f legP legN => Sys2Proof.Machine.execMonitorSlot u15 f legP legN s
  | .dacRetry d => Sys2Proof.Machine.execDacRetry d s
  | .dacRetryPassed d => Sys2Proof.Machine.execDacRetryPassed d s
  | .dacFenceClr v => Sys2Proof.Machine.execDacFenceClr v s
  | .patternStep g absent => Sys2Proof.Machine.execPatternStep g absent s
  | .pairMake k => Sys2Proof.Machine.execPairMake k s
  | .markerEnd m => Sys2Proof.Machine.execMarkerEnd m s
  | .pinMismatch n t => Sys2Proof.Machine.execPinMismatch n t s
  | .pinRetry n => Sys2Proof.Machine.execPinRetry n s
  | .pinRetryPassed n => Sys2Proof.Machine.execPinRetryPassed n s
  | .patFenceClr high v => Sys2Proof.Machine.execPatFenceClr high v s
  | .patOvrClr high v => Sys2Proof.Machine.execPatOvrClr high v s
  | .adcTrigger u t => Sys2Proof.Machine.execAdcTrigger u t s
  | .trig u => Sys2Proof.Machine.execTrig u s
  | .adcTrigAll v => Sys2Proof.Machine.execAdcTrigAll v s
  | .adcApply u => Sys2Proof.Machine.execAdcApply u s
  | .adcFenceClr u => Sys2Proof.Machine.execAdcFenceClr u s
  | .conversionResult u raw => Sys2Proof.Machine.execConversionResult u raw s
  | .detectionTimer u => Sys2Proof.Machine.execDetectionTimer u s
  | .adcRefReady u => Sys2Proof.Machine.execAdcRefReady u s
  | .adcCapCtl v => Sys2Proof.Machine.execAdcCapCtl v s
  | .ethLinkUp p => Sys2Proof.Machine.execEthLinkUp p s
  | .ethLinkDown p => Sys2Proof.Machine.execEthLinkDown p s
  | .frameDiscard p err => Sys2Proof.Machine.execFrameDiscard p err s
  | .svStreamStart st => Sys2Proof.Machine.execSvStreamStart st s
  | .svFrame st missing => Sys2Proof.Machine.execSvFrame st missing s
  | .gooseFrame f t => Sys2Proof.Machine.execGooseFrame f t s
  | .timeAllowedToLiveExpiry d => Sys2Proof.Machine.execTimeAllowedToLiveExpiry d s
  | .ptpSync off => Sys2Proof.Machine.execPtpSync off s
  | .ptpAnnounce a => Sys2Proof.Machine.execPtpAnnounce a s
  | .ptpPdelay resp => Sys2Proof.Machine.execPtpPdelay resp s
  | .ptpInterval => Sys2Proof.Machine.execPtpInterval s
  | .announceReceiptTimeout => Sys2Proof.Machine.execAnnounceReceiptTimeout s
  | .signalPresent p => Sys2Proof.Machine.execSignalPresent p s
  | .flitLock p => Sys2Proof.Machine.execFlitLock p s
  | .initFlit p f => Sys2Proof.Machine.execInitFlit p f s
  | .lossOfBlockLock p => Sys2Proof.Machine.execLossOfBlockLock p s
  | .retrainTimeout p => Sys2Proof.Machine.execRetrainTimeout p s
  | .data p f => Sys2Proof.Machine.execData p f s
  | .nak p f => Sys2Proof.Machine.execNak p f s
  | .replayTimeout p => Sys2Proof.Machine.execReplayTimeout p s
  | .delayMeasurementTimer t => Sys2Proof.Machine.execDelayMeasurementTimer t s
  | .dlyReq p f t2 t3 => Sys2Proof.Machine.execDlyReq p f t2 t3 s
  | .dlyRsp p f t4 => Sys2Proof.Machine.execDlyRsp p f t4 s
  | .timeFlitTimer t => Sys2Proof.Machine.execTimeFlitTimer t s
  | .timeFlit p f t => Sys2Proof.Machine.execTimeFlit p f t s
  | .timeSilence => Sys2Proof.Machine.execTimeSilence s
  | .selfExclusion => Sys2Proof.Machine.execSelfExclusion s
  | .turnRecord p => Sys2Proof.Machine.execTurnRecord p s
  | .broadcastSequenceMarker p => Sys2Proof.Machine.execBroadcastSequenceMarker p s
  | .enumQuery p => Sys2Proof.Machine.execEnumQuery p s
  | .enumCount p => Sys2Proof.Machine.execEnumCount p s
  | .enumAssign p => Sys2Proof.Machine.execEnumAssign p s
  | .enumDone p => Sys2Proof.Machine.execEnumDone p s
  | .joinMessage p => Sys2Proof.Machine.execJoinMessage p s
  | .joinAssign p => Sys2Proof.Machine.execJoinAssign p s
  | .leave p => Sys2Proof.Machine.execLeave p s
  | .exclude p => Sys2Proof.Machine.execExclude p s
  | .censusQuery p => Sys2Proof.Machine.execCensusQuery p s
  | .censusReport p => Sys2Proof.Machine.execCensusReport p s
  | .censusResult p => Sys2Proof.Machine.execCensusResult p s
  | .bcastReply p => Sys2Proof.Machine.execBcastReply p s
  | .alignQuery p => Sys2Proof.Machine.execAlignQuery p s
  | .alignReport p => Sys2Proof.Machine.execAlignReport p s
  | .exchangeTimeout e p => Sys2Proof.Machine.execExchangeTimeout e p s
  | .memCastle v => Sys2Proof.Machine.execMemCastle v s
  | .castlingDone => Sys2Proof.Machine.execCastlingDone s
  | .memSetnOwn n v => Sys2Proof.Machine.execMemSetnOwn n v s
  | .powerStateRequest n v => Sys2Proof.Machine.execPowerStateRequest n v s
  | .powerTransitionDone n => Sys2Proof.Machine.execPowerTransitionDone n s
  | .scrub ces ues => Sys2Proof.Machine.execScrub ces ues s
  | .drmTrainingDone fails => Sys2Proof.Machine.execDrmTrainingDone fails s
  | .drmReadTimeout addr again => Sys2Proof.Machine.execDrmReadTimeout addr again s
  | .refresh chan => Sys2Proof.Machine.execRefresh chan s
  | .refreshWindowEnd => Sys2Proof.Machine.execRefreshWindowEnd s
  | .mr4Read c0 c1 c2 c3 => Sys2Proof.Machine.execMr4Read c0 c1 c2 c3 s
  | .neighbourRefresh addr acts => Sys2Proof.Machine.execNeighbourRefresh addr acts s
  | .maintenance slack waited current => Sys2Proof.Machine.execMaintenance slack waited current s
  | .selfRefreshEntry slack => Sys2Proof.Machine.execSelfRefreshEntry slack s
  | .selfRefreshExit slack => Sys2Proof.Machine.execSelfRefreshExit slack s
  | .powerDownEntry c => Sys2Proof.Machine.execPowerDownEntry c s
  | .fchg slack => Sys2Proof.Machine.execFchg slack s
  | .fchgDone => Sys2Proof.Machine.execFchgDone s
  | .drmFenceClr mask => Sys2Proof.Machine.execDrmFenceClr mask s
  | .drmGeometry inst v => Sys2Proof.Machine.execDrmGeometry inst v s
  | .commandFrame f claims => Sys2Proof.Machine.execCommandFrame f claims s
  | .poll f => Sys2Proof.Machine.execPoll f s
  | .mgtFrameError f => Sys2Proof.Machine.execMgtFrameError f s
  | .mgtHeartbeat => Sys2Proof.Machine.execMgtHeartbeat s
  | .mainUnresp => Sys2Proof.Machine.execMainUnresp s
  | .lineSilence => Sys2Proof.Machine.execLineSilence s
  | .pwrReq on => Sys2Proof.Machine.execPwrReq on s
  | .islandPowerOn => Sys2Proof.Machine.execIslandPowerOn s
  | .mainPwrUp => Sys2Proof.Machine.execMainPwrUp s
  | .mainPwrLoss => Sys2Proof.Machine.execMainPwrLoss s
  | .rstN low => Sys2Proof.Machine.execRstN low s
  | .boot rows readErrA readErrB link table => Sys2Proof.Machine.execBoot rows readErrA readErrB link table s
  | .watchdogExpiry => Sys2Proof.Machine.execWatchdogExpiry s
  | .brownOut n => Sys2Proof.Machine.execBrownOut n s
  | .brownOutClear => Sys2Proof.Machine.execBrownOutClear s
  | .safeClr => Sys2Proof.Machine.execSafeClr s
  | .consume => Sys2Proof.Machine.execConsume s
  | .handshakeTimeout stage tag grp again => Sys2Proof.Machine.execHandshakeTimeout stage tag grp again s
  | .flitCheckFail g t again => Sys2Proof.Machine.execFlitCheckFail g t again s
  | .nullFlit p f => Sys2Proof.Machine.execNullFlit p f s
  | .ppsWaitTimeout q k => Sys2Proof.Machine.execPpsWaitTimeout q k s
  | .chainBroadcastTime => Sys2Proof.Machine.execChainBroadcastTime s
  | .foreignTimeout => Sys2Proof.Machine.execForeignTimeout s
  | .lineActiveTimeout => Sys2Proof.Machine.execLineActiveTimeout s
  | .pcieLinkTraining up speed width => Sys2Proof.Machine.execPcieLinkTraining up speed width s
  | .islandPowerLoss => Sys2Proof.Machine.execIslandPowerLoss s

end Sys2Proof.Machine
end

