-- ==== Sys2Proof/WellFormed.lean ====
section
/-!
DEFINITION. Which operands the hardware can present: addresses within their memories, offsets of whole registers, flits of 64
bytes. The step gives a meaning to the others too.
-/
namespace Sys2Proof

/-- An offset of a register within BAR0 (R66). -/
def bar0Off (off : Nat) : Bool := off < 0x100000 && off % 4 = 0

/-- An offset of a register within the 64 KiB of BAR2 (R54). -/
def bar2Off (off : Nat) : Bool := off < 0x10000 && off % 4 = 0

/-- An offset of a register in the space that a direct access names; configuration space has 4 KiB. -/
def spaceOff : Space → Nat → Bool
  | .bar0, off => bar0Off off
  | .bar2, off => bar2Off off
  | .config, off => off < 0x1000 && off % 4 = 0

/-- A host address of a packet or a reply buffer, on a 4-byte boundary (R56). -/
def hostAddr (a : Nat) : Bool := a < 2 ^ 64 && a % 4 = 0

/-- An address of the 12 MiB of on-chip memory (R371). -/
def onChip (a : Nat) : Bool := a < 0xC00000

/-- An address of at most 16 GiB of external memory (R395). -/
def extAddr (a : Nat) : Bool := a < 2 ^ 34

/-- A DAC. -/
def dacNo (d : Nat) : Bool := d < 32

/-- A flit (R338). -/
def flitWf (f : List Byte) : Bool := f.length = 64

/-- A Plaku packet of 20 to 4,096 bytes (R29). -/
def packetWf (b : List Byte) : Bool := 20 ≤ b.length && b.length ≤ 4096

/-- A frame of the management line, with preamble, SFD, FTYPE, LEN, a body of at most 4,096 bytes and FCS (R422). -/
def frameWf (f : List Byte) : Bool := f.length ≤ 4108

/-- A speed code and a width to which the host link trains (R63). -/
def linkWf (speed width : Nat) : Bool := 1 ≤ speed && speed ≤ 4 && (width = 1 || width = 2 || width = 4)

/-- The operands are ones that the hardware can present. -/
def WellFormed : Instr → Bool
  | .qSqTail .. => true
  | .packetFetch _ entry packet =>
    entry.length = 32 && packet.length = leAt entry 8 2 && hostAddr (leAt entry 0 8) && hostAddr (leAt entry 16 8)
  | .duplicateReply .. => true
  | .completionPost .. => true
  | .qCqHead .. => true
  | .queueEnable .. => true
  | .queueReset .. => true
  | .queueResetDone .. => true
  | .resume .. => true
  | .functionLevelReset => true
  | .commandTimeout .. => true
  | .plakuMessage .. => true
  | .echo .. => true
  | .identify .. => true
  | .resetMain _ _ packet => packetWf packet
  | .safeState _ _ packet _ => packetWf packet
  | .regRead .. => true
  | .regWrite .. => true
  | .regWriteMasked .. => true
  | .registerWrite sp off _ be hi => spaceOff sp off && (if hi.isSome then off % 8 = 0 else be.val < 16)
  | .latchRead sp off wide => spaceOff sp off && (!wide || off % 8 = 0)
  | .stagedWrite off _ => bar0Off off
  | .blockEnable .. => true
  | .blockDisable .. => true
  | .deferredEnableChange => true
  | .lockSet .. => true
  | .sysCntReset .. => true
  | .slackWindow ratio => ratio < 2 ^ 16
  | .segDefine .. => true
  | .segLoad .. => true
  | .segVerify _ _ _ ue => ue.all onChip
  | .segFree .. => true
  | .memFill .. => true
  | .memRead _ _ bad ces retry => bad.all onChip && ces.all onChip && retry.all extAddr
  | .tableWrite .. => true
  | .groupArm .. => true
  | .groupStart .. => true
  | .groupStop .. => true
  | .stage .. => true
  | .commit .. => true
  | .forceJump .. => true
  | .stageHold .. => true
  | .stageDiscard .. => true
  | .adcSeqSet .. => true
  | .adcSelfcal _ _ found => found.all fun f => f.unit < 14
  | .adcRead .. => true
  | .chainEnum .. => true
  | .census _ _ table => table.length % 16 = 0
  | .chainBroadcast .. => true
  | .chainAlign .. => true
  | .svConfig .. => true
  | .gooseSub .. => true
  | .ptpConfig .. => true
  | .memTest _ _ fails => fails.all fun f => f.row < 192
  | .memTestExternal _ _ fails => fails.all fun f => extAddr f.addr && f.addr % 64 = 0
  | .logRead .. => true
  | .checkWindowSet .. => true
  | .timeSet .. => true
  | .timeSetCalendar .. => true
  | .timeGet .. => true
  | .fwBegin .. => true
  | .fwData .. => true
  | .fwCommit .. => true
  | .pllALock => true
  | .pllALockLoss => true
  | .referenceLoss => true
  | .holdoverEnd => true
  | .timeStep => true
  | .ppsOut .. => true
  | .ppsInEdge .. => true
  | .ppsSeenTimeout => true
  | .pllApply .. => true
  | .applyEdge .. => true
  | .pllLock _ count => count < 2 ^ 32
  | .pllLockLoss _ count => count < 2 ^ 32
  | .ckoutEnable .. => true
  | .firstSampleEdge _ _ _ sine => sine.all fun b => onChip b.addr
  | .groupSample _ _ _ _ sine => sine.all fun b => onChip b.addr
  | .turnMark .. => true
  | .commitPoint .. => true
  | .durationEnd .. => true
  | .switch .. => true
  | .targetHeld _ e _ bad => e < 1024 && bad.all fun b => onChip b.addr
  | .delayedSwitch .. => true
  | .underrun _ cause _ ue => 1 ≤ cause && cause ≤ 10 && ue.all onChip
  | .fallback .. => true
  | .resumption .. => true
  | .stopPoint .. => true
  | .groupFence .. => true
  | .gfenceClr .. => true
  | .binaryInputChange .. => true
  | .bounce .. => true
  | .binaryInputStart .. => true
  | .timeMatchArm .. => true
  | .timeMatch .. => true
  | .hostSoftEvent .. => true
  | .eventRecord _ f => flitWf f
  | .chainEventExecution => true
  | .checkWindowClose .. => true
  | .midscaleRampEnd .. => true
  | .dacRefReady => true
  | .rangeChangeHoldEnd .. => true
  | .monitorSlot _ f _ _ => f < 1000000
  | .dacRetry .. => true
  | .dacRetryPassed .. => true
  | .dacFenceClr .. => true
  | .patternStep .. => true
  | .pairMake .. => true
  | .markerEnd .. => true
  | .pinMismatch .. => true
  | .pinRetry .. => true
  | .pinRetryPassed .. => true
  | .patFenceClr .. => true
  | .patOvrClr .. => true
  | .adcTrigger .. => true
  | .trig .. => true
  | .adcTrigAll .. => true
  | .adcApply .. => true
  | .adcFenceClr .. => true
  | .conversionResult _ raw => -(2 ^ 17) ≤ raw && raw < 2 ^ 17
  | .detectionTimer .. => true
  | .adcRefReady .. => true
  | .adcCapCtl .. => true
  | .ethLinkUp .. => true
  | .ethLinkDown .. => true
  | .frameDiscard .. => true
  | .svStreamStart .. => true
  | .svFrame _ missing => missing.all fun m => m.1 < 8 && m.2 < 8
  | .gooseFrame f _ => f.dst.length = 6 && f.stNum < 2 ^ 32 && f.sqNum < 2 ^ 32 && f.ttl < 2 ^ 32
  | .timeAllowedToLiveExpiry .. => true
  | .ptpSync .. => true
  | .ptpAnnounce a => a.utc < 2 ^ 16
  | .ptpPdelay resp => resp.all fun ns => ns < 2 ^ 32
  | .ptpInterval => true
  | .announceReceiptTimeout => true
  | .signalPresent .. => true
  | .flitLock .. => true
  | .initFlit _ f => flitWf f
  | .lossOfBlockLock .. => true
  | .retrainTimeout .. => true
  | .data _ f => flitWf f
  | .nak _ f => flitWf f
  | .replayTimeout .. => true
  | .delayMeasurementTimer .. => true
  | .dlyReq _ f _ _ => flitWf f
  | .dlyRsp _ f _ => flitWf f
  | .timeFlitTimer .. => true
  | .timeFlit _ f _ => flitWf f
  | .timeSilence => true
  | .selfExclusion => true
  | .turnRecord .. => true
  | .broadcastSequenceMarker .. => true
  | .enumQuery .. => true
  | .enumCount .. => true
  | .enumAssign .. => true
  | .enumDone .. => true
  | .joinMessage .. => true
  | .joinAssign .. => true
  | .leave .. => true
  | .exclude .. => true
  | .censusQuery .. => true
  | .censusReport .. => true
  | .censusResult .. => true
  | .bcastReply .. => true
  | .alignQuery .. => true
  | .alignReport .. => true
  | .exchangeTimeout .. => true
  | .memCastle .. => true
  | .castlingDone => true
  | .memSetnOwn .. => true
  | .powerStateRequest .. => true
  | .powerTransitionDone .. => true
  | .scrub ces ues => ces.all onChip && ues.all onChip
  | .drmTrainingDone .. => true
  | .drmReadTimeout addr _ => extAddr addr
  | .refresh .. => true
  | .refreshWindowEnd => true
  | .mr4Read .. => true
  | .neighbourRefresh addr acts => extAddr addr && 0 < acts
  | .maintenance .. => true
  | .selfRefreshEntry .. => true
  | .selfRefreshExit .. => true
  | .powerDownEntry .. => true
  | .fchg .. => true
  | .fchgDone => true
  | .drmFenceClr .. => true
  | .drmGeometry .. => true
  | .commandFrame f _ => frameWf f
  | .poll f => frameWf f
  | .mgtFrameError .. => true
  | .mgtHeartbeat => true
  | .mainUnresp => true
  | .lineSilence => true
  | .pwrReq .. => true
  | .islandPowerOn => true
  | .mainPwrUp => true
  | .mainPwrLoss => true
  | .rstN .. => true
  | .boot rows _ _ link _ => rows.all (fun x => x.row < 192) && link.all fun l => linkWf l.1 l.2
  | .watchdogExpiry => true
  | .brownOut .. => true
  | .brownOutClear => true
  | .safeClr => true
  | .consume => true
  | .handshakeTimeout .. => true
  | .flitCheckFail .. => true
  | .nullFlit _ f => flitWf f
  | .ppsWaitTimeout .. => true
  | .chainBroadcastTime => true
  | .foreignTimeout => true
  | .lineActiveTimeout => true
  | .pcieLinkTraining up speed width => !up || linkWf speed.val width.val
  | .islandPowerLoss => true

end Sys2Proof
end

