-- ==== Sys2Proof/Safety.lean ====
section
/-!
DEFINITION. What claims are stated in: the canonical form of memory and of every sparse part of State, a command that
is about to run, the reply that it leaves, and what of State stays as it was.
-/
namespace Sys2Proof.Machine

/-- The canonical form of memory: addresses strictly rising, and no on-chip byte listed that reads as an unlisted one does. An
external byte is listed when it has been written, whatever it holds. -/
def Memory.wf (s : State) : Bool := KMap.canon (fun _ => 0) s.onchip && KMap.wf s.ext

/-- The canonical form of State: memory's, and the keys of every other sparse part strictly rising, so that no register, instance
or table entry is listed twice. -/
def State.Canonical (s : State) : Prop :=
  Memory.wf s = true ∧
  KMap.wf s.regs = true ∧ KMap.wf s.msix = true ∧ KMap.wf s.queues = true ∧ KMap.wf s.plls = true ∧
  KMap.wf s.segs = true ∧ KMap.wf s.groups = true ∧ KMap.wf s.tables = true ∧ KMap.wf s.partials = true ∧
  KMap.wf s.chans = true ∧ KMap.wf s.wins = true ∧ KMap.wf s.dacs = true ∧ KMap.wf s.pins = true ∧
  KMap.wf s.pairs = true ∧ KMap.wf s.markers = true ∧ KMap.wf s.bins = true ∧ KMap.wf s.bsets = true ∧
  KMap.wf s.adcs = true ∧ KMap.wf s.netPorts = true ∧ KMap.wf s.streams = true ∧ KMap.wf s.subs = true ∧
  KMap.wf s.ports = true ∧ KMap.wf s.latches = true

/-- Two sparse maps list the same under every key but those named. -/
def KMap.agreeBut {α : Type} (m m' : KMap α) (ks : List Nat) : Prop := ∀ j, j ∉ ks → KMap.find? m' j = KMap.find? m j

/-- The reply of the command at place `k` of queue `q`, where it is decided. -/
def State.replyOf (s : State) (q k : Nat) : Option Reply :=
  ((s.q q).find k).bind fun c => if c.phase = .done then c.reply else none

/-- The command `c` of opcode `op` at place `k` of queue `q` is the next that this device runs itself: the main side is out of
reset and firmware runs; the command may begin (R41, R44), its queue does not skip it (R43), it is no broadcast and goes to this
device (R33); in recovery it is of a family that the boot loader executes (R481), on an excluded device it is not of family 0x04, or is
GROUP_STOP (R365). -/
def State.Runs (s : State) (q k op : Nat) (c : Cmd) : Prop :=
  s.mgt.rst = false ∧ s.fwReady = true ∧ (s.q q).find k = some c ∧ c.hdr.opcode = op ∧ s.eligible q (s.q q) c = true ∧
    (s.q q).skips c = false ∧ c.hdr.flags % 2 = 0 ∧ c.hdr.dest = s.ownAddr ∧
    (s.recovery = false ∨ op / 256 = 1 ∨ op / 256 = 2 ∨ op / 256 = 10) ∧
    (s.chn.excluded = false ∨ op / 256 ≠ 4 ∨ op = 0x0404) ∧
    ∀ b ∈ s.chn.bcasts, b.cmd ≠ ⟨q, k⟩

/-- The command at `k` of queue `q` is answered in `t` with a status and a result; the rest of its queue, the other queues and
their commands in flight stay as they were in `s`. -/
def State.Replied (s t : State) (q k status : Nat) (result : List Word) : Prop :=
  t.replyOf q k = some ⟨status, status, s.ownAddr, result⟩ ∧ KMap.agreeBut s.queues t.queues [q] ∧
    (∀ j, j ≠ k → (t.q q).find j = (s.q q).find j) ∧
    (startsSkip status = false → status ≠ stSkipped →
      { t.q q with inflight := (s.q q).inflight, window := (s.q q).window } = s.q q)

/-- `t` with its queues, and its note of the command that began last, as they were in `s`. -/
def State.sansReply (s t : State) : State :=
  { t with queues := s.queues, err := { t.err with lastOp := s.err.lastOp, lastTag := s.err.lastTag } }

/-- The command at `k` of queue `q` is answered, and nothing else happens. -/
def State.RepliedOnly (s t : State) (q k status : Nat) (result : List Word) : Prop :=
  State.Replied s t q k status result ∧ State.sansReply s t = s

/-- A sample edge of a playing group at `t`, later than its last sample, with the main side out of reset, and after its leader's sample
where it follows another group: `u` is the state that the sample finds, with device time at `t` and the sampled-value instants before it
gathered (R104, R112, R503, R317). -/
def State.AtEdge (s : State) (g t : Nat) (u : State) : Prop :=
  s.mgt.rst = false ∧ (s.grp g).st.plays = true ∧ 1 ≤ (s.grp g).n ∧ (s.grp g).times.head?.getD 0 < t ∧ s.leaderReady g t = true ∧
    u = (s.svCatchUp t).reach t

/-- The same, and `u` also knows whether the sample is a turn boundary with the step that its commits bring (R108). -/
def State.AtDecision (s : State) (g t : Nat) (u : State) : Prop := ∃ w, s.AtEdge g t w ∧ u = w.foreseeStep g t

/-- The command `c` at `k` of queue `q` begins now and waits; the rest of its queue and the other queues stay as they were. -/
def State.Began (s t : State) (q k : Nat) (c : Cmd) : Prop :=
  (t.q q).find k = some { c with phase := .begun, timer := some s.now } ∧ KMap.agreeBut s.queues t.queues [q] ∧
    ∀ j, j ≠ k → (t.q q).find j = (s.q q).find j

/-- The open set of group `g`, grown by writes and entries, is released at the tick of `s` (R182); where the group plays, its last
set may be found late at once (R185). Beside commands in flight nothing else happens. -/
def State.ReleasedFor (s t : State) (g : Nat) (ws : List (Nat × Word)) (es : List (Nat × List Word)) (cmd : Option CmdRef)
    (res : Option (List Word)) : Prop :=
  (∃ y : StageSet, (t.grp g).released = (s.grp g).released ++ [y] ∧ y.writes = (s.grp g).openSet.writes ++ ws ∧
    y.entries = (s.grp g).openSet.entries ++ es ∧ y.r = s.now / 256 * 256 ∧ y.cmd = cmd ∧ y.res = res) ∧
    t.grp g = { s.grp g with released := (t.grp g).released, openSet := {} } ∧ KMap.agreeBut s.groups t.groups [g] ∧
    KMap.agreeBut s.regs t.regs [RegId.off .Gn_CNT_LATE g 0] ∧ ((s.grp g).st.plays = false → t.regs = s.regs) ∧
    { s.sansReply t with groups := s.groups, regs := s.regs, msixPend := s.msixPend, sent := s.sent } = s

/-- The command at `k` of queue `q` has begun and waits, and its reply may be decided. -/
def State.Waits (s : State) (q k : Nat) : Prop :=
  ∃ c, (s.q q).find k = some c ∧ c.phase = .begun ∧ (s.q q).resetting = false ∧ ∀ b ∈ s.chn.bcasts, b.cmd ≠ ⟨q, k⟩

/-- An INTERNAL message that this device takes itself: a link message, one for the root here, or one for its own address (R359). -/
def State.TakesMsg (s : State) (m : Msg) : Prop :=
  m.bcast = true ∨ m.dest = 0 ∧ s.isRoot = true ∨ s.chn.enumerated = true ∧ m.dest = s.ownAddr

/-- A register that only holds what is written to it: a write stores the bits that it has, and a read gives them. -/
def PlainReg (r : RegId) (i j : Nat) : Prop :=
  (∀ (u : State) (q8 : Bool) (w : Writer) (v : Word), u.writeNow q8 w (r, i, j) v = u.wr r i j (v &&& mkW r.row.mask)) ∧
    (∀ u : State, u.view r i j = u.rd r i j) ∧ r.row.cls ≠ .staged ∧ RegId.at? (r.off i j) = some (r, i, j) ∧
    regOffset (r.off i j) = true

/-- A packet of the management line that the island executes itself, as new, as command `op` (R425, R426). -/
def State.IslandTakes (s : State) (packet : List Byte) (op : Nat) : Prop :=
  let c := mkCmd 0 packet 0 65536
  s.mgt.off = false ∧ c.hdr.opcode = op ∧ islandOp c = true ∧ checks1to4 8 packet.length packet = none ∧
    c.hdr.dest = s.islandAddr ∧ c.hdr.flags % 2 = 0 ∧ s.inflight8 < 16 ∧ s.inflight < 4096 ∧
    s.tag8Held c.hdr.tag = false ∧ s.skips8 c = false ∧ lenOk op c.payload = true ∧ (∀ e ∈ s.mgt.window, e.seq ≠ c.hdr.seq) ∧ ∀ p ∈ s.mgt.rstCmds, packetSeq p ≠ c.hdr.seq

/-- A command of the main side: every command but those of the island, of the boot, and SAFE_STATE and RESET_MAIN, which the
island takes on queue 8. -/
def ofMainSide : Instr → Bool
  | .resetMain _ _ _ | .safeState _ _ _ _ | .boot _ _ _ _ _ | .commandFrame _ _ | .poll _ | .mgtFrameError _ | .mgtHeartbeat
  | .mainUnresp | .lineSilence | .pwrReq _ | .islandPowerOn | .mainPwrUp | .mainPwrLoss | .rstN _ | .lineActiveTimeout
  | .islandPowerLoss => false
  | _ => true

end Sys2Proof.Machine
end

