-- ==== Sys2Proof/Certificates/Slice0/Obligations.lean ====
section
/-!
DEFINITION. The obligations: what is claimed of the CZG-4810, one statement for each group of commands or rule of the manual.
-/
set_option linter.unusedVariables false
open Sys2Proof Sys2Proof.Machine

/-! ### The block as a whole -/

/-- When c stands at the front of the queue of waiting commands, step is exec of c on the state with the queue's rest. -/
def Obligations.StepRunsFront : Prop :=
  ∀ (c : Instr) (rest : List Instr) (s : State), s.pending = c :: rest → step s = exec c { s with pending := rest }

/-- From every state in canonical form, not only from those that a run reaches, a step that answers a next state answers one in
canonical form: memory addresses rise strictly, no on-chip byte is listed that reads as an unlisted one, and no register, table entry
or instance of a block is listed twice. -/
def Obligations.StepKeepsCanonical : Prop :=
  ∀ s t : State, s.Canonical → step s = .next t → t.Canonical

/-- The commands that wait after a step are those that waited before it without the first; no command of the table adds to the
queue, drops from it or reorders it. -/
def Obligations.StepTakesFront : Prop :=
  ∀ s t : State, step s = .next t → t.pending = s.pending.tail

/-- The invariant of StepKeepsCanonical holds of the state after reset, whose queue of waiting commands is empty. -/
def Obligations.ResetCanonical : Prop := State.reset.Canonical ∧ State.reset.pending = []

/-- The model's own choice (log entry on the tick): on an empty queue a step answers a next state. While PLL A is enabled and
locked, device time is then the next tick edge, and the event records that are due by then are written; with no open event record
nothing else changes. While it is not, nothing changes. -/
def Obligations.IdleCountsOneTick : Prop :=
  ∀ s : State, s.pending = [] →
    (s.counting = true →
      step s = .next ({ s with tb := { s.tb with now := (s.tb.now / 256 + 1) * 256 } }).flushLog ∧
      (s.ev.open_ = [] → step s = .next { s with tb := { s.tb with now := (s.tb.now / 256 + 1) * 256 } })) ∧
    (s.counting = false → step s = .next s)

/-- In a state whose main reset is asserted, every command but those of the island, of the boot and of queue 8 of SAFE_STATE and
RESET_MAIN answers the state unchanged. -/
def Obligations.MainResetHolds : Prop :=
  ∀ (c : Instr) (s : State), s.mgt.rst = true → ofMainSide c = true → exec c s = .next s

/-- For every packet of its own length that passes the first four acceptance checks, whatever its payload up to 4,076 bytes, the
header bytes, the payload words and the CRC-32C that the device keeps of it spell the packet again: no bit is dropped. A frame of type COMMAND
of the management line around any body of 20 to 4,096 bytes is read as a COMMAND with that body. -/
def Obligations.PacketRoundTrip : Prop :=
  (∀ (q k ra rl : Nat) (b : List Byte), checks1to4 q b.length b = none → (mkCmd k b ra rl).packet = b) ∧
  (∀ b : List Byte, 20 ≤ b.length → b.length ≤ 4096 → parseFrame (mgtFrame 1 b) = some (1, b))

/-- After reset TGT of DRM_PORTp_CTL holds 1,000 for ports 0 to 8, 5,000 for port 9, 2,000 for ports 10 and 11 and 10,000 for port
12; MAXRD holds 64 for every port; TOL holds 100 for ports 9 and 12, 20 for port 10 and 50 for port 11. -/
def Obligations.ResetValuesOfThePorts : Prop :=
  (∀ p : Fin 13, State.reset.rf .DRM_PORTp_CTL p.val 0 15 0 =
    if p.val ≤ 8 then 1000 else if p.val = 9 then 5000 else if p.val ≤ 11 then 2000 else 10000) ∧
  (∀ p : Fin 13, State.reset.rf .DRM_PORTp_CTL p.val 0 31 16 = 64) ∧
  State.reset.rf .DRM_PORTp_TOL 9 0 31 0 = 100 ∧ State.reset.rf .DRM_PORTp_TOL 12 0 31 0 = 100 ∧
  State.reset.rf .DRM_PORTp_TOL 10 0 31 0 = 20 ∧ State.reset.rf .DRM_PORTp_TOL 11 0 31 0 = 50

/-- In the state after reset, after RST_N low and after a RESET_MAIN that the island executes on a powered main side, every entry of
every table holds 0x03000000 in word 0 and zero in words 1 to 7. Such an entry plays partial set 0 on every channel, has no segment
in any slot and no pattern segment, has no end and arms no jump. -/
def Obligations.TableAfterReset : Prop :=
  let e0 : List Word := [0x03000000, 0, 0, 0, 0, 0, 0, 0]
  (∀ g e : Nat, State.reset.entry g e = e0) ∧
  (∀ s : State, s.mgt.rst = false → ∃ t, exec (.rstN true) s = .next t ∧ ∀ g e : Nat, t.entry g e = e0) ∧
  (∀ (s : State) (k : Nat) (b : List Byte), s.IslandTakes b 0x0103 → s.mgt.mainPwr = true → s.mgt.rst = false →
    ∃ t, exec (.resetMain 8 k b) s = .next t ∧ ∀ g e : Nat, t.entry g e = e0) ∧
  eSlots e0 = [] ∧ ePset e0 = 0 ∧ ePatEn e0 = false ∧ eDurKind e0 = 3 ∧ (∀ j < 4, jumpEn e0 j = false)

/-! ### Queues and packets -/

/-- Where the queue may fetch, PACKET_FETCH reads the 32 bytes of the entry at the submission head and the packet that the entry names,
advances the head by one, modulo the ring, and gives the packet the queue's next place. A packet that fails one of checks 1 to 4 is answered
with that check's status and an empty result, and CRC_FAIL begins the skip state of every class and counts. A packet whose sequence number
the window holds is answered with OK_DUPLICATE, the original status and result, and counted; one whose original is in flight waits. Any
other packet goes through checks 6 to 9: where it passes it waits there with its tag held, else it is answered with that check's status
and an empty result. No other queue and no other state changes. Where the queue may not fetch, nothing changes. -/
def Obligations.PacketFetched : Prop :=
  ∀ (q : Fin 8) (entry packet : List Byte) (s : State), s.mgt.rst = false →
    (s.mayFetch q = false → exec (.packetFetch q entry packet) s = .next s) ∧
    (s.mayFetch q = true → (s.q q).inflight.all (fun d => decide (d.k < (s.q q).nextK)) = true →
      let e := ringEntry entry
      let b := padTo e.len (packet.take e.len)
      let c := mkCmd (s.q q).nextK b e.replyAddr e.replyLen
      let x := { s.q q with inflight := (s.q q).inflight ++ [c] }
      ∃ t, exec (.packetFetch q entry packet) s = .next t ∧
        t.sent = .hostRead e.packetAddr e.len :: .hostRead (s.q q).entryAddr 32 :: s.sent ∧
        (t.q q).sqHead = ((s.q q).sqHead + 1) % (s.q q).size ∧
        (t.q q).nextK = (s.q q).nextK + 1 ∧ (t.q q).inflight.length = (s.q q).inflight.length + 1 ∧
        (∀ j, j ≠ (s.q q).nextK → (t.q q).find j = (s.q q).find j) ∧
        KMap.agreeBut s.queues t.queues [q.val] ∧ { t with queues := s.queues, sent := s.sent } = s ∧
        (∀ st, checks1to4 q e.len b = some st →
          t.replyOf q (s.q q).nextK = some ⟨st, st, s.ownAddr, []⟩ ∧
          (t.q q).skipAll = (if st = stCrcFail then some (min (s.q q).nextK ((s.q q).skipAll.getD (s.q q).nextK)) else (s.q q).skipAll) ∧
          (t.q q).cntCrc = if st = stCrcFail then satInc (s.q q).cntCrc else (s.q q).cntCrc) ∧
        (checks1to4 q e.len b = none →
          (∀ w, ((s.q q).window.find? fun w => w.seq = c.hdr.seq) = some w →
            t.replyOf q (s.q q).nextK = some { w.reply with status := stDuplicate } ∧ (t.q q).cntDup = satInc (s.q q).cntDup) ∧
          (((s.q q).window.find? fun w => w.seq = c.hdr.seq) = none →
            ((s.q q).original c = true → (t.q q).find (s.q q).nextK = some { c with phase := .dupWait }) ∧
            ((s.q q).original c = false →
              (x.checks6to9 c = (none, true) → (t.q q).find (s.q q).nextK = some { c with phase := .ready, holdsTag := true }) ∧
              (∀ st h, x.checks6to9 c = (some st, h) → t.replyOf q (s.q q).nextK = some ⟨st, st, s.ownAddr, []⟩)))))

/-- COMPLETION_POST on an enabled host queue whose oldest command is decided and whose ring has room takes that command out of the
queue and writes its entry at the completion tail, after its reply buffer where the reply was requested and does not fit in the entry; the tail
advances modulo the ring and the phase inverts where it wraps. With the interrupt enabled one completion message goes out, unless one
has since the last write of the completion head, and then one is owed. With the ring full, in a queue reset, on a queue that is not enabled, or with the oldest
command not decided, nothing changes. On queue 8 the reply waits for a slot of the management line, and replies of the island that were held behind
it follow. On the chain the oldest decided command leaves. DUPLICATE_REPLY of a
command that waits at check 5, whose sequence number the window holds, completes it with OK_DUPLICATE, the original status and result, and
counts it; once its original is neither recorded nor in flight it goes on as new. Beside the queue only what goes out changes, and a broadcast is
over once its completion is posted. -/
def Obligations.CompletionPosted : Prop :=
  (∀ (q : Fin 10) (k : Nat) (s : State) (c : Cmd), s.mgt.rst = false → s.fwReady = true →
    (s.q q).find k = some c → c.phase = .dupWait →
    (∀ e, ((s.q q).window.find? fun e => e.seq = c.hdr.seq) = some e →
      ∃ t, exec (.duplicateReply q k) s = .next t ∧ t.replyOf q k = some { e.reply with status := stDuplicate } ∧
        (t.q q).cntDup = satInc (s.q q).cntDup ∧ (∀ j, j ≠ k → (t.q q).find j = (s.q q).find j) ∧
        { t.q q with inflight := (s.q q).inflight, cntDup := (s.q q).cntDup } = s.q q ∧
        KMap.agreeBut s.queues t.queues [q.val] ∧ { t with queues := s.queues } = s) ∧
    (((s.q q).window.find? fun e => e.seq = c.hdr.seq) = none → (s.q q).original c = false →
      (s.q q).checks6to9 c = (none, true) →
      ∃ t, exec (.duplicateReply q k) s = .next t ∧ (t.q q).find k = some { c with phase := .ready, holdsTag := true } ∧
        (∀ j, j ≠ k → (t.q q).find j = (s.q q).find j) ∧ { t.q q with inflight := (s.q q).inflight } = s.q q ∧
        KMap.agreeBut s.queues t.queues [q.val] ∧ { t with queues := s.queues } = s)) ∧
  (∀ (q : Fin 8) (s : State), s.mgt.rst = false → s.fwReady = true →
    (s.q q).headDone = none ∨ (s.q q).resetting = true ∨ (s.q q).enabled = false ∨ (s.q q).cqFull = true →
    exec (.completionPost ⟨q, by omega⟩) s = .next s) ∧
  (∀ (q : Fin 8) (s : State) (c : Cmd) (r : Reply) (l : List Cmd), s.mgt.rst = false → s.fwReady = true →
    (s.q q).inflight = c :: l → (∀ d ∈ l, d.k ≠ c.k) → c.phase = .done → c.reply = some r → (s.q q).resetting = false →
    (s.q q).enabled = true → (s.q q).cqFull = false →
    let owe : Bool := (s.q q).intEn && !(s.q q).msgSent
    ∃ t, exec (.completionPost ⟨q, by omega⟩) s = .next t ∧ (t.q q).inflight = l ∧
      (t.q q).cqTail = ((s.q q).cqTail + 1) % (s.q q).size ∧
      (t.q q).phase = (if ((s.q q).cqTail + 1) % (s.q q).size = 0 then !(s.q q).phase else (s.q q).phase) ∧
      (t.q q).msgSent = ((s.q q).msgSent || owe) ∧ (t.q q).owed = !owe ∧
      t.sent = (if owe && s.pci.msixEn && !s.pci.msixMask && !s.msixMasked (s.q q).vec then [.msix (s.q q).vec] else []) ++
        (.completion q (s.q q).cqTail (s.q q).completionAddr (completionEntry c r (s.q q).phase) ::
          ((if c.wantsReply = true ∧ 2 < r.result.length then [.dma c.replyAddr (replyPacket c r)] else []) ++ s.sent)) ∧
      (owe = false → t.msixPend = s.msixPend) ∧
      t.chn = { s.chn with bcasts := s.chn.bcasts.filter fun b => b.cmd ≠ ⟨q.val, c.k⟩ } ∧
      KMap.agreeBut s.queues t.queues [q.val] ∧
      { t with queues := s.queues, chn := s.chn, msixPend := s.msixPend, sent := s.sent } = s) ∧
  (∀ (s : State) (c : Cmd) (r : Reply) (l : List Cmd), s.mgt.rst = false → s.fwReady = true →
    (s.q 8).inflight = c :: l → c.phase = .done → c.reply = some r →
    ∃ t, exec (.completionPost 8) s = .next t ∧ (t.q 8).inflight = l ∧
      t.mgt = { s.mgt with
        replies := s.mgt.replies ++ [replyPacket c r] ++
          (s.mgt.held.takeWhile fun p => l.all fun d => p.1 ≤ d.k).map fun p => p.2
        held := s.mgt.held.dropWhile fun p => l.all fun d => p.1 ≤ d.k } ∧
      KMap.agreeBut s.queues t.queues [8] ∧ { t with queues := s.queues, mgt := s.mgt } = s) ∧
  (∀ (s : State) (c : Cmd), s.mgt.rst = false → s.fwReady = true →
    ((s.q 9).inflight.find? fun c => c.phase = .done) = some c →
    ∃ t, exec (.completionPost 9) s = .next t ∧ (t.q 9).inflight = (s.q 9).inflight.filter fun d => d.k ≠ c.k)

/-- A write of Q_SQ_TAIL whose index, bits 11:0, is below the queue's size sets its tail, and one of Q_CQ_HEAD its completion head, which
re-enables the completion message: a message that is owed goes out. With an index at or above the size the write is ignored: only the queue's
ignored-write counter and the log change. QUEUE_ENABLE of a queue that is not enabled, whose base addresses are aligned and whose written size is
allowed, enables it afresh: every index is 0 and the phase is 1; with a base that is not aligned it sets BASE_ERR and EN stays 0. A write of Q_CTL with EN
0 stops an enabled queue's fetching, and a queue with no command left is then no longer ENABLED. RESUME ends every skip state. QUEUE_RESET
clears EN and holds RESETTING, and the commands that have not begun are dropped. QUEUE_RESET_DONE of an empty queue in reset clears
RESETTING, ENABLED, the window, the skip state and the indices. Each leaves the other queues alone, and beside queues only registers, the log
and the slack monitor's interval change. -/
def Obligations.QueueControl : Prop :=
  (∀ (q : Fin 8) (v : Word) (s : State), s.mgt.rst = false →
     (ringIndex v < (s.q q).size → exec (.qSqTail q v) s = .next (s.setQ q { s.q q with tail := ringIndex v })) ∧
     (ringIndex v < (s.q q).size → ((s.q q).intEn = false ∨ (s.q q).owed = false) →
       exec (.qCqHead q v) s = .next (s.setQ q { s.q q with cqHead := ringIndex v, msgSent := false })) ∧
     (ringIndex v < (s.q q).size → (s.q q).intEn = true → (s.q q).owed = true →
       ∃ t, exec (.qCqHead q v) s = .next t ∧
         t.q q = { s.q q with cqHead := ringIndex v, msgSent := true, owed := false } ∧
         (s.pci.msixEn = true → s.pci.msixMask = false → s.msixMasked (s.q q).vec = false → t.sent = .msix (s.q q).vec :: s.sent) ∧
         KMap.agreeBut s.queues t.queues [q.val] ∧
         { t with queues := s.queues, msixPend := s.msixPend, sent := s.sent } = s) ∧
     ((s.q q).size ≤ ringIndex v →
       ∃ t u, exec (.qSqTail q v) s = .next t ∧ exec (.qCqHead q v) s = .next u ∧
         t.q q = { s.q q with cntIgnored := satInc (s.q q).cntIgnored } ∧
         u.q q = { s.q q with cntIgnored := satInc (s.q q).cntIgnored } ∧
         KMap.agreeBut s.queues t.queues [q.val] ∧ KMap.agreeBut s.queues u.queues [q.val] ∧
         { t with queues := s.queues, regs := s.regs, err := s.err } = s ∧
         { u with queues := s.queues, regs := s.regs, err := s.err } = s)) ∧
  (∀ (q : Fin 8) (v : Word) (s : State), s.mgt.rst = false →
     ((s.q q).enabled = false → (s.q q).resetting = false → bit v 0 = true → 4 ≤ fld v 7 4 → fld v 7 4 ≤ 12 →
       ((s.q q).sqBase.toNat % 4096 = 0 → (s.q q).cqBase.toNat % 4096 = 0 →
         ∃ t, exec (.queueEnable q v) s = .next t ∧
           t.q q = { s.q q with intEn := bit v 3, sizeLog2 := fld v 7 4, vec := fld v 13 8, en := true, enabled := true,
                                baseErr := false, tail := 0, sqHead := 0, cqTail := 0, cqHead := 0, phase := true,
                                msgSent := false, owed := false } ∧
           KMap.agreeBut s.queues t.queues [q.val] ∧
           { t with queues := s.queues, regs := s.regs, slackFrom := s.slackFrom } = s) ∧
       ((s.q q).sqBase.toNat % 4096 ≠ 0 ∨ (s.q q).cqBase.toNat % 4096 ≠ 0 →
         ∃ t, exec (.queueEnable q v) s = .next t ∧
           t.q q = { s.q q with intEn := bit v 3, sizeLog2 := fld v 7 4, vec := fld v 13 8, en := false, baseErr := true } ∧
           KMap.agreeBut s.queues t.queues [q.val] ∧
           { t with queues := s.queues, regs := s.regs, slackFrom := s.slackFrom } = s)) ∧
     (bit v 0 = false → (s.q q).resetting = false → (s.q q).enabled = true → v &&& qCtlCfg = (s.q q).ctl &&& qCtlCfg →
       ∃ t, exec (.queueEnable q v) s = .next t ∧
         t.q q = { s.q q with en := false, enabled := !(s.q q).inflight.isEmpty } ∧
         KMap.agreeBut s.queues t.queues [q.val] ∧
         { t with queues := s.queues, regs := s.regs, slackFrom := s.slackFrom } = s) ∧
     (bit v 1 = false → bit v 0 = true → (s.q q).resetting = false → (s.q q).enabled = true →
       v &&& qCtlCfg = (s.q q).ctl &&& qCtlCfg → (s.q q).en = true →
       exec (.resume q v) s = .next (s.setQ q { s.q q with skipClasses := [], skipAll := none })) ∧
     (∃ t, exec (.queueReset q v) s = .next t ∧ (t.q q).resetting = true ∧ (t.q q).en = false) ∧
     ((∀ c ∈ (s.q q).inflight, c.phase ≠ .begun) →
       ∃ t, exec (.queueReset q v) s = .next t ∧ (t.q q).resetting = true ∧ (t.q q).en = false ∧ (t.q q).inflight = [] ∧
         (t.q q).window = (s.q q).window ∧ KMap.agreeBut s.queues t.queues [q.val] ∧
         { t with queues := s.queues, regs := s.regs, err := s.err, slackFrom := s.slackFrom } = s) ∧
     ((s.q q).resetting = true → (s.q q).inflight = [] →
       exec (.queueResetDone q) s = .next (s.setQ q { s.q q with
         resetting := false, enabled := false, en := false, window := [], skipClasses := [], skipAll := none,
         tail := 0, sqHead := 0, cqTail := 0, cqHead := 0, phase := true, msgSent := false, owed := false })))

/-- FUNCTION_LEVEL_RESET, where no command of a host queue has begun, resets every host queue: its registers take their reset values,
RESETTING holds and no command is left; the MSI-X table, its pending bits and configuration space take their reset values and HST_CNT_FLR
counts; queues 8 and 9 stay. The restart of the slack monitor's interval is the model's own choice (log entry on it).
PCIE_LINK_TRAINING sets the link's speed, width and state and counts a training below x4 or 16 GT/s; a link that goes down reads
all zero. -/
def Obligations.HostLinkAndReset : Prop :=
  ∀ s : State, s.mgt.rst = false →
    ((∀ q : Fin 8, ∀ c ∈ (s.q q).inflight, c.phase ≠ .begun) →
      ∃ t, exec .functionLevelReset s = .next t ∧
        (∀ q : Fin 8, t.q q = { nextK := (s.q q).nextK, resetting := true }) ∧ t.q 8 = s.q 8 ∧ t.q 9 = s.q 9 ∧
        t.msix = [] ∧ t.msixPend = [] ∧ t.pci = {} ∧ t.rd .HST_CNT_FLR = satInc (s.rd .HST_CNT_FLR) ∧
        KMap.agreeBut s.regs t.regs [RegId.off .HST_CNT_FLR 0 0, RegId.off .SYS_SLACK 0 0] ∧
        { t with queues := s.queues, regs := s.regs, msix := s.msix, msixPend := s.msixPend, pci := s.pci,
                 slackFrom := s.slackFrom } = s) ∧
    (∀ (speed : Fin 16) (width : Fin 32),
      ∃ t u, exec (.pcieLinkTraining true speed width) s = .next t ∧ t.link = ⟨speed, width, true⟩ ∧
        t.rd .HST_CNT_DOWNTRAIN =
          (if width.val < 4 ∨ speed.val < 4 then satInc (s.rd .HST_CNT_DOWNTRAIN) else s.rd .HST_CNT_DOWNTRAIN) ∧
        KMap.agreeBut s.regs t.regs [RegId.off .HST_CNT_DOWNTRAIN 0 0] ∧ { t with link := s.link, regs := s.regs } = s ∧
        exec (.pcieLinkTraining false speed width) s = .next u ∧ u = { s with link := ⟨0, 0, false⟩ })

/-- COMMAND_TIMEOUT of a command whose timer runs, for which no segment load or verification runs or waits and which is no broadcast,
completes it with TIMEOUT and no result, counts it in its queue and begins the skip state of its class for the commands after it; the other
queues and commands stay, and no segment and no byte of memory changes. Of a command whose timer does not run it changes nothing. -/
def Obligations.TimeoutStopsACommand : Prop :=
  ∀ (q : Fin 9) (k : Nat) (s : State) (c : Cmd), s.mgt.rst = false → s.fwReady = true → (s.q q).find k = some c →
    (s.timerRuns q c = false → s.mem.stopPending = false → exec (.commandTimeout ⟨q, by omega⟩ k) s = .next s) ∧
    (s.timerRuns q c = true → (s.q q).resetting = false → (∀ b ∈ s.chn.bcasts, b.cmd ≠ ⟨q.val, k⟩) →
      (∀ i, (∀ j, (s.seg i).job = some j → ¬(j.q = q ∧ j.k = k)) ∧ (∀ j ∈ (s.seg i).waiting, ¬(j.q = q ∧ j.k = k)) ∧
        (q.val, k) ∉ (s.seg i).verifies) →
      ∃ t, exec (.commandTimeout ⟨q, by omega⟩ k) s = .next t ∧ t.replyOf q k = some ⟨stTimeout, stTimeout, s.ownAddr, []⟩ ∧
        (t.q q).cntTimeout = satInc (s.q q).cntTimeout ∧ (∃ j, (c.hdr.cls, j) ∈ (t.q q).skipClasses ∧ j ≤ k) ∧
        (∀ j, j ≠ k → (t.q q).find j = (s.q q).find j) ∧ KMap.agreeBut s.queues t.queues [q.val] ∧
        (c.timer = none → t.sent = s.sent) ∧ (∀ a, c.timer = some a → t.sent = (s.reach (a + s.familyTimeout c)).sent) ∧
        t.segs = s.segs ∧ t.onchip = s.onchip ∧ t.ext = s.ext ∧ t.tables = s.tables)

/-! ### Commands of the protocol and registers -/

/-- An ECHO that runs here completes with OK and its payload as the result; an IDENTIFY with OK and 16 words: 0x4810, the silicon revision, the firmware version, the device address, the epoch and zeros. Nothing but the reply changes.
A direct read of BAR0 of 4 or 8 bytes returns for each register its view, or its latch where the host's master holds one; beside the read data only
latches change. A direct read of BAR2 returns a queue's base, control, status, indices, skip state and counters, and one of configuration space its
fields; it changes nothing.
A REG_READ of 1 to 64 registers in range completes with OK and the values that the same reads give one by one in ascending order by the
queue's own master; beside the reply only latches change. A count or an offset out of range is BAD_PARAM. -/
def Obligations.RegisterReads : Prop :=
  (∀ (q : Fin 10) (k : Nat) (c : Cmd) (s : State),
     (s.Runs q k 0x0101 c → ∃ t, exec (.echo q k) s = .next t ∧ s.RepliedOnly t q k stOK c.payload) ∧
     (s.Runs q k 0x0102 c →
       ∃ t, exec (.identify q k) s = .next t ∧
         s.RepliedOnly t q k stOK ([0x4810, mkW (Config.siliconRev % 256), s.rd .SYS_FWVER, mkW s.ownAddr,
           lo64 s.epoch, hi64 s.epoch] ++ List.replicate 10 0))) ∧
  (∀ (off : Nat) (wide : Bool) (s : State), s.mgt.rst = false →
    ∃ t, exec (.latchRead .bar0 off wide) s = .next t ∧
      t.sent = .readData (s.readRegs 0 (off % 2 ^ 20 / 4 * 4) (if wide then 2 else 1)).1 :: s.sent ∧
      { t with latches := s.latches, sent := s.sent } = s ∧
      (∀ r i j, RegId.at? (off % 2 ^ 20 / 4 * 4) = some (r, i, j) →
        (s.readReg 0 (off % 2 ^ 20 / 4 * 4)).1 =
          (KMap.find? s.latches (latchKey 0 (off % 2 ^ 20 / 4 * 4))).getD (s.view r i j))) ∧
  (∀ (q : Fin 8) (s : State), s.mgt.rst = false →
    exec (.latchRead .bar2 (q * 0x1000 + 0x10) true) s =
      .next (s.put (.readData [lo32 (s.q q).sqBase.toNat, hi32 (s.q q).sqBase.toNat])) ∧
    exec (.latchRead .bar2 (q * 0x1000 + 0x18) true) s =
      .next (s.put (.readData [lo32 (s.q q).cqBase.toNat, hi32 (s.q q).cqBase.toNat])) ∧
    exec (.latchRead .bar2 (q * 0x1000 + 0x20) true) s = .next (s.put (.readData [(s.q q).ctl, (s.q q).status])) ∧
    exec (.latchRead .bar2 (q * 0x1000 + 0x28) true) s = .next (s.put (.readData [mkW (s.q q).sqHead, mkW (s.q q).cqTail])) ∧
    exec (.latchRead .bar2 (q * 0x1000 + 0x30) false) s = .next (s.put (.readData [(s.q q).skip])) ∧
    exec (.latchRead .bar2 (q * 0x1000 + 0x40) true) s = .next (s.put (.readData [(s.q q).cntCrc, (s.q q).cntDup])) ∧
    exec (.latchRead .bar2 (q * 0x1000 + 0x48) true) s = .next (s.put (.readData [(s.q q).cntSkip, (s.q q).cntTimeout])) ∧
    exec (.latchRead .bar2 (q * 0x1000 + 0x50) false) s = .next (s.put (.readData [(s.q q).cntIgnored])) ∧
    exec (.latchRead .config 0 false) s = .next (s.put (.readData [0x48101E8C])) ∧
    (∀ off : Nat, exec (.latchRead .config off false) s = .next (s.put (.readData [s.cfgRead off])))) ∧
  (∀ (q : Fin 10) (k : Nat) (c : Cmd) (s : State), s.Runs q k 0x0201 c →
    (regOffset (wAt c.payload 0).toNat = true → 1 ≤ (wAt c.payload 1).toNat → (wAt c.payload 1).toNat ≤ 64 →
      (wAt c.payload 0).toNat + 4 * (wAt c.payload 1).toNat ≤ 2 ^ 20 →
      ∃ t, exec (.regRead q k) s = .next t ∧
        s.Replied t q k stOK (s.readRegs (1 + c.hdr.queue) (wAt c.payload 0).toNat (wAt c.payload 1).toNat).1 ∧
        { s.sansReply t with latches := s.latches } = s) ∧
    (regOffset (wAt c.payload 0).toNat = false ∨ (wAt c.payload 1).toNat = 0 ∨ 64 < (wAt c.payload 1).toNat ∨
        2 ^ 20 < (wAt c.payload 0).toNat + 4 * (wAt c.payload 1).toNat →
      ∃ t, exec (.regRead q k) s = .next t ∧ s.RepliedOnly t q k stBadParam []))

/-- After a direct read of TB_NOW_LO that no latch answers, reads of TB_NOW_HI and TB_NOW_XHI by the same master return what those
registers held at the read of TB_NOW_LO, whatever has changed since, while the latches stand; the three are the tick-of-second, the low
and the high part of the seconds of the device time at the read of TB_NOW_LO, with grain 0. One REG_READ of the three registers from TB_NOW_LO, by a
master that holds no latch of it, answers the same of the device time at which it runs. -/
def Obligations.TimeReadIsWhole : Prop :=
  (∀ s : State, s.mgt.rst = false → KMap.find? s.latches (latchKey 0 (RegId.off .TB_NOW_LO 0 0)) = none →
    ∃ t, exec (.latchRead .bar0 (RegId.off .TB_NOW_LO 0 0) false) s = .next t ∧
      t.sent = .readData [mkW (tickOf s.now)] :: s.sent ∧
      ∀ u : State, u.mgt.rst = false → u.latches = t.latches →
        ∃ v w, exec (.latchRead .bar0 (RegId.off .TB_NOW_HI 0 0) false) u = .next v ∧
          v.sent = .readData [mkW (secOf s.now)] :: u.sent ∧
          exec (.latchRead .bar0 (RegId.off .TB_NOW_XHI 0 0) false) u = .next w ∧
          w.sent = .readData [mkW (secOf s.now / 2 ^ 32)] :: u.sent) ∧
  (∀ (q : Fin 10) (k : Nat) (c : Cmd) (s : State), s.Runs q k 0x0201 c → c.payload = [mkW (RegId.off .TB_NOW_LO 0 0), 3] →
    KMap.find? s.latches (latchKey (1 + c.hdr.queue) (RegId.off .TB_NOW_LO 0 0)) = none →
    ∃ t, exec (.regRead q k) s = .next t ∧
      s.Replied t q k stOK [mkW (tickOf s.now), mkW (secOf s.now), mkW (secOf s.now / 2 ^ 32)])

/-- A REG_WRITE of any number of pairs that nothing refuses, each to a register whose write only stores its value and that no group stages,
completes with OK, the number of pairs and no index, and writes the pairs in order; REG_WRITE_MASKED of one such register completes with OK and
the value read back, under its mask. Only those registers change beside the reply. A REG_WRITE whose pair i is the first that is refused
completes with that cause's status, no pair written and i, and a refused REG_WRITE_MASKED with that cause's status and the old value; then no register
but counters and SYS_LAST_IGN changes. An offset that no register command may name is BAD_PARAM. -/
def Obligations.RegisterWriteCommands : Prop :=
  ∀ (q : Fin 10) (k : Nat) (c : Cmd) (s : State),
    (∀ l : List (RegId × Nat × Nat × Word), s.Runs q k 0x0202 c → s.setsLeft (some ⟨q, k⟩) = false →
      (∀ x ∈ l, PlainReg x.1 x.2.1 x.2.2.1 ∧ x.1 ≠ .SYS_ADDR) →
      c.payload = l.flatMap (fun x => [mkW (x.1.off x.2.1 x.2.2.1), x.2.2.2]) →
      s.firstRefused c.viaQ8 0 (pairsFrom 0 c.payload) = none →
      ∃ t, exec (.regWrite q k) s = .next t ∧ s.Replied t q k stOK [mkW l.length, 0xFFFFFFFF] ∧
        s.sansReply t = l.foldl (fun u x => u.wr x.1 x.2.1 x.2.2.1 (x.2.2.2 &&& mkW x.1.row.mask)) s) ∧
    (∀ (i cause : Nat) (p : Nat × Word), s.Runs q k 0x0202 c → (pairsFrom 0 c.payload).all (fun p => regOffset p.1) = true →
      s.firstRefused c.viaQ8 0 (pairsFrom 0 c.payload) = some (i, p, cause) →
      ∃ t, exec (.regWrite q k) s = .next t ∧
        t.replyOf q k = some ⟨causeStatus cause, causeStatus cause, s.ownAddr, [0, mkW i]⟩ ∧
        { s.sansReply t with regs := s.regs, err := s.err, drawn := s.drawn } = s) ∧
    (s.Runs q k 0x0202 c → (pairsFrom 0 c.payload).all (fun p => regOffset p.1) = false →
      ∃ t, exec (.regWrite q k) s = .next t ∧ s.RepliedOnly t q k stBadParam []) ∧
    (∀ (r : RegId) (i j : Nat) (m v : Word), s.Runs q k 0x0203 c → PlainReg r i j → c.payload = [mkW (r.off i j), m, v] →
      (s.writeCause c.viaQ8 (r.off i j) (blend m (s.rd r i j) v) = none → r ≠ .SYS_ADDR → s.setsLeft (some ⟨q, k⟩) = false →
        ∃ t, exec (.regWriteMasked q k) s = .next t ∧ s.Replied t q k stOK [blend m (s.rd r i j) v &&& mkW r.row.mask] ∧
          s.sansReply t = s.wr r i j (blend m (s.rd r i j) v &&& mkW r.row.mask)) ∧
      (∀ cause, s.writeCause c.viaQ8 (r.off i j) (blend m (s.rd r i j) v) = some cause →
        ∃ t, exec (.regWriteMasked q k) s = .next t ∧
          t.replyOf q k = some ⟨causeStatus cause, causeStatus cause, s.ownAddr, [s.rd r i j]⟩ ∧
          { s.sansReply t with regs := s.regs, err := s.err, drawn := s.drawn } = s)) ∧
    (s.Runs q k 0x0203 c → regOffset (wAt c.payload 0).toNat = false →
      ∃ t, exec (.regWriteMasked q k) s = .next t ∧ s.RepliedOnly t q k stBadParam [])

/-- A direct BAR0 write of all four bytes of a register whose write only stores its value, which nothing refuses, stores the bits that
the register has and changes nothing else. A write to an unmapped offset, or one whose byte enables do not cover the register, changes no
state but counters, SYS_LAST_IGN and the log; SYS_LAST_IGN then holds the offset, the cause (3 or 4) and its valid bit. In BAR2 a write of a half of a queue's
submission or completion base stores that half while ENABLED is 0, and is ignored and counted by the queue while ENABLED is 1; an address or
data word of the MSI-X table stores its value. A 64-bit write is the write of its low word and then that of its high word, four bytes further. -/
def Obligations.DirectWrites : Prop :=
  (∀ (r : RegId) (i j : Nat) (v : Word) (s : State), PlainReg r i j → s.mgt.rst = false → s.writeCause false (r.off i j) v = none →
    exec (.registerWrite .bar0 (r.off i j) v 15 none) s = .next (s.wr r i j (v &&& mkW r.row.mask))) ∧
  (∀ (off : Nat) (v : Word) (be : Fin 16) (s : State), s.mgt.rst = false → off < 2 ^ 20 →
    (be.val ≠ 15 ∨ off % 4 ≠ 0 ∨ RegId.at? (off / 4 * 4) = none) →
    ∃ t, exec (.registerWrite .bar0 off v ⟨be, by omega⟩ none) s = .next t ∧
      t.rd .SYS_LAST_IGN = mkW (off / 4 * 4 + (if be.val ≠ 15 ∨ off % 4 ≠ 0 then 4 else 3) * 2 ^ 20 + 2 ^ 31) ∧
      { t with regs := s.regs, err := s.err } = s) ∧
  (∀ (q : Fin 8) (v : Word) (s : State), s.mgt.rst = false →
    ((s.q q).enabled = false →
      exec (.registerWrite .bar2 (q * 0x1000 + 0x10) v 15 none) s =
        .next (s.setQ q { s.q q with sqBase := join64 v (hi32 (s.q q).sqBase.toNat) }) ∧
      exec (.registerWrite .bar2 (q * 0x1000 + 0x14) v 15 none) s =
        .next (s.setQ q { s.q q with sqBase := join64 (lo32 (s.q q).sqBase.toNat) v }) ∧
      exec (.registerWrite .bar2 (q * 0x1000 + 0x18) v 15 none) s =
        .next (s.setQ q { s.q q with cqBase := join64 v (hi32 (s.q q).cqBase.toNat) }) ∧
      exec (.registerWrite .bar2 (q * 0x1000 + 0x1C) v 15 none) s =
        .next (s.setQ q { s.q q with cqBase := join64 (lo32 (s.q q).cqBase.toNat) v })) ∧
    ((s.q q).enabled = true → ∀ h : Fin 4,
      ∃ t, exec (.registerWrite .bar2 (q * 0x1000 + 0x10 + 4 * h) v 15 none) s = .next t ∧
        t.q q = { s.q q with cntIgnored := satInc (s.q q).cntIgnored } ∧ KMap.agreeBut s.queues t.queues [q.val] ∧
        { t with queues := s.queues, regs := s.regs, err := s.err } = s)) ∧
  (∀ (w : Fin 256) (v : Word) (s : State), s.mgt.rst = false → w.val % 4 ≠ 3 →
    exec (.registerWrite .bar2 (0x8000 + 4 * w) v 15 none) s = .next { s with msix := KMap.put s.msix (0x8000 + 4 * w) v 0 }) ∧
  (∀ (sp : Space) (off : Nat) (v w : Word) (be : Fin 256) (s : State), s.mgt.rst = false →
    ∃ t, exec (.registerWrite sp off v ⟨be % 16, by omega⟩ none) s = .next t ∧
      (t.mgt.rst = false →
        exec (.registerWrite sp off v be (some w)) s = exec (.registerWrite sp (off + 4) w ⟨be / 16, by omega⟩ none) t))

/-- A direct write to a staged register of a running group, which nothing refuses: while HOLD is 1 it joins the open set; while HOLD is 0 the open set
with it is released at once; with the open set full, or a release while four sets are released, it is ignored and counted. While the group is
stopped a write of its frequency word takes effect at once. STAGE_HOLD with an empty set only writes HOLD, and
clearing HOLD releases a set that is not empty; STAGE_DISCARD empties the open set and leaves HOLD. -/
def Obligations.StagedWrites : Prop :=
  ∀ (g : Fin 8) (v : Word) (s : State), s.mgt.rst = false →
    (∀ (off : Nat) (ref : RegRef), RegId.at? off = some ref → regOffset off = true → ref.1 ≠ .DAC_CFG_d →
      s.writeCause false off v = none → s.stageGroup ref v = some g.val →
      ((s.grp g).openSet.fits 1 0 = true → s.hold g = true →
        exec (.stagedWrite off v) s = .next (s.setGrp g { s.grp g with
          openSet := { (s.grp g).openSet with
            writes := (s.grp g).openSet.writes ++ [(off, v)], entries := (s.grp g).openSet.entries ++ [] } })) ∧
      ((s.grp g).openSet.fits 1 0 = true → s.hold g = false → (s.grp g).released.length < 4 →
        ∃ t y, exec (.stagedWrite off v) s = .next t ∧ (t.grp g).released = (s.grp g).released ++ [y] ∧
          y.writes = (s.grp g).openSet.writes ++ [(off, v)] ∧ y.entries = (s.grp g).openSet.entries ∧
          y.r = s.now / 256 * 256 ∧ y.cmd = none ∧ (t.grp g).openSet = {} ∧ ((s.grp g).st.plays = false → t.regs = s.regs) ∧
          KMap.agreeBut s.groups t.groups [g.val] ∧
          { t with groups := s.groups, regs := s.regs, msixPend := s.msixPend, sent := s.sent } = s) ∧
      ((s.grp g).openSet.fits 1 0 = false ∨ (s.hold g = false ∧ 4 ≤ (s.grp g).released.length) →
        exec (.stagedWrite off v) s = .next (s.bump .Gn_CNT_STAGE_OVF g))) ∧
    (s.grpRunning g = false → exec (.stagedWrite (RegId.off .Gn_FREQ_LO g 0) v) s = .next (s.wr .Gn_FREQ_LO g 0 v)) ∧
    (∀ on : Bool, (s.grp g).openSet = {} →
      ∃ t, exec (.stageHold g on) s = .next t ∧ t.hold g = on ∧ (t.grp g).openSet = {} ∧
        KMap.agreeBut s.regs t.regs [RegId.off .Gn_STAGE_CTL g 0] ∧ KMap.agreeBut s.groups t.groups [g.val] ∧
        { t with regs := s.regs, groups := s.groups } = s) ∧
    (s.hold g = true → (s.grp g).openSet.isEmpty = false → (s.grp g).released.length < 4 → bit (s.rd .Gn_STAGE_CTL g) 1 = false →
      ∃ t y, exec (.stageHold g false) s = .next t ∧ t.hold g = false ∧ (t.grp g).openSet = {} ∧
        (t.grp g).released = (s.grp g).released ++ [y] ∧ y.writes = (s.grp g).openSet.writes ∧
        y.entries = (s.grp g).openSet.entries ∧ y.r = s.now / 256 * 256 ∧ y.cmd = none ∧
        KMap.agreeBut s.groups t.groups [g.val] ∧
        { t with groups := s.groups, regs := s.regs, msixPend := s.msixPend, sent := s.sent } = s) ∧
    (∃ t, exec (.stageDiscard g) s = .next t ∧ (t.grp g).openSet = {} ∧ t.hold g = s.hold g ∧
      KMap.agreeBut s.groups t.groups [g.val] ∧ { t with groups := s.groups, regs := s.regs } = s)

/-- BLOCK_ENABLE and BLOCK_DISABLE of any block or instance are a direct write of its enable, its register's other fields unchanged.
With no group running, BLOCK_ENABLE of OUT sets its enable and its running bit and BLOCK_DISABLE clears both; while a group runs the
running bit waits, and DEFERRED_ENABLE_CHANGE makes it follow the enable once no group runs; while one runs it changes nothing. BLOCK_ENABLE takes a
DISABLED group to STOPPED, and BLOCK_DISABLE takes a STOPPED group to DISABLED and begins a stop of a playing one. The enable of the error log is a bit of
ERR_CTL. -/
def Obligations.Enables : Prop :=
  ∀ s : State, s.mgt.rst = false →
    (∀ x : EnTarget,
      exec (.blockEnable x) s =
        exec (.registerWrite .bar0 ((enableBit x).1.off (enableBit x).2.1 0)
          (setBit (s.rd (enableBit x).1 (enableBit x).2.1) (enableBit x).2.2 true) 15 none) s ∧
      exec (.blockDisable x) s =
        exec (.registerWrite .bar0 ((enableBit x).1.off (enableBit x).2.1 0)
          (setBit (s.rd (enableBit x).1 (enableBit x).2.1) (enableBit x).2.2 false) 15 none) s) ∧
    ((∀ b : Fin 14, s.rb .SYS_EN 0 0 b = s.running b) →
      (s.anyRunning = false →
        ∃ t u, exec (.blockEnable (.sys 5)) s = .next t ∧ t.rb .SYS_EN 0 0 5 = true ∧ t.running 5 = true ∧
          exec (.blockDisable (.sys 5)) s = .next u ∧ u.rb .SYS_EN 0 0 5 = false ∧ u.running 5 = false ∧
          { t with regs := s.regs, slackFrom := s.slackFrom } = s ∧ { u with regs := s.regs, slackFrom := s.slackFrom } = s) ∧
      (s.anyRunning = true → s.running 5 = true →
        ∃ u, exec (.blockDisable (.sys 5)) s = .next u ∧ u.rb .SYS_EN 0 0 5 = false ∧ u.running 5 = true ∧ 5 ∈ u.enWait ∧
          { u with regs := s.regs, slackFrom := s.slackFrom, enWait := s.enWait } = s)) ∧
    ((s.pll 0).stopPending = false → (s.pll 1).stopPending = false →
      (s.anyRunning = true → exec .deferredEnableChange s = .next s) ∧
      (s.anyRunning = false → s.tb.stopPending = false → s.drm.stopPending = false → (∀ b ∈ s.enWait, b = 4 ∨ b = 5) →
        ∃ t, exec .deferredEnableChange s = .next t ∧ t.enWait = [] ∧
          (5 ∈ s.enWait → t.running 5 = s.rb .SYS_EN 0 0 5) ∧
          (4 ∈ s.enWait → t.running 4 = (s.rb .SYS_EN 0 0 4 && s.rb .HRM_STATUS 0 0 0)) ∧
          KMap.agreeBut s.regs t.regs [RegId.off .SYS_EN_STATUS 0 0] ∧ { t with regs := s.regs, enWait := s.enWait } = s)) ∧
    (∀ g : Fin 8,
      ((s.grp g).st = .disabled → s.rb .Gn_CTL g 0 0 = false →
        ∃ t, exec (.blockEnable (.group g)) s = .next t ∧ t.grp g = { s.grp g with st := .stopped } ∧
          t.rb .Gn_CTL g 0 0 = true ∧ KMap.agreeBut s.groups t.groups [g.val] ∧
          { t with groups := s.groups, regs := s.regs, slackFrom := s.slackFrom } = s) ∧
      ((s.grp g).st = .stopped → s.rb .Gn_CTL g 0 0 = true → (s.grp g).armCmd = none →
        ∃ t, exec (.blockDisable (.group g)) s = .next t ∧ t.grp g = { s.grp g with st := .disabled } ∧
          t.rb .Gn_CTL g 0 0 = false ∧ KMap.agreeBut s.groups t.groups [g.val] ∧
          { t with groups := s.groups, regs := s.regs, slackFrom := s.slackFrom } = s) ∧
      ((s.grp g).st.plays = true → s.rb .Gn_CTL g 0 0 = true →
        ∃ t, exec (.blockDisable (.group g)) s = .next t ∧
          t.grp g = { s.grp g with st := .stopping, stops := (s.grp g).stops ++ [{ mode := 2, cmd := none, disable := true }] } ∧
          t.rb .Gn_CTL g 0 0 = false ∧ KMap.agreeBut s.groups t.groups [g.val] ∧
          { t with groups := s.groups, regs := s.regs, slackFrom := s.slackFrom } = s)) ∧
    (exec (.blockEnable .errLog) s = .next (s.wr .ERR_CTL 0 0 (setBit (s.rd .ERR_CTL) 0 true &&& 0x3F0F))) ∧
    (exec (.blockDisable .errLog) s = .next (s.wr .ERR_CTL 0 0 (setBit (s.rd .ERR_CTL) 0 false &&& 0x3F0F)))

/-- LOCK_SET adds the eight lock bits that the value names and clears none. SYS_CNT_RESET makes every saturating counter of a named block
read its reset value, zero, the queues' counters with bit 16, and changes no other register and nothing else. SLACK_WINDOW, at the end of its 1 ms,
loads the ratio, limited to 16 bits and at that limit while no edge is enabled, with VALID and, below the threshold, SLACK_LOW; the minimum
follows, and a rise of SLACK_LOW counts once. Beside registers, the log and the interval nothing else changes. -/
def Obligations.LocksAndCounters : Prop :=
  (∀ (v : Word) (s : State), s.mgt.rst = false →
    exec (.lockSet v) s = .next (s.wr .SYS_LOCK 0 0 (s.rd .SYS_LOCK ||| (v &&& 0xFF))) ∧
    (∃ t, exec (.sysCntReset v) s = .next t ∧
      (bit v 20 = true → t.rd .SYS_CNT_IGNORED = 0) ∧ (bit v 17 = true → t.rd .ERR_CNT_LOST = 0) ∧
      (bit v 9 = true → t.rd .EVT_CNT_EVENTS = 0) ∧
      (∀ o, cntNamed v o = false → KMap.find? t.regs o = KMap.find? s.regs o) ∧
      (∀ o, cntNamed v o = true → KMap.find? t.regs o = none) ∧
      (∀ q : Nat, (t.q q).inflight = (s.q q).inflight ∧ (t.q q).tail = (s.q q).tail ∧
        (bit v 16 = true → (t.q q).cntIgnored = 0 ∧ (t.q q).cntCrc = 0 ∧ (t.q q).cntDup = 0 ∧ (t.q q).cntSkip = 0 ∧
          (t.q q).cntTimeout = 0)) ∧
      { t with regs := s.regs, queues := s.queues } = s)) ∧
  ∀ (ratio v : Nat) (s u : State), s.mgt.rst = false → u = s.reach (s.slackFrom + msec 1) →
    v = (if s.edgeEnabled then min ratio 0xFFFF else 0xFFFF) →
    ∃ t, exec (.slackWindow ratio) s = .next t ∧ t.slackFrom = s.slackFrom + msec 1 ∧
      t.rd .SYS_SLACK = (mkW v ||| bitW true 16 ||| bitW (decide (v < u.rf .SYS_SLACK_THR 0 0 15 0)) 17) ∧
      t.rd .SYS_SLACK_MIN = mkW (min v (u.rf .SYS_SLACK_MIN 0 0 15 0)) ∧
      t.rd .SYS_CNT_SLACK_LOW =
        (if v < u.rf .SYS_SLACK_THR 0 0 15 0 ∧ u.rb .SYS_SLACK 0 0 17 = false then satInc (u.rd .SYS_CNT_SLACK_LOW)
          else u.rd .SYS_CNT_SLACK_LOW) ∧
      { t with regs := u.regs, err := u.err, slackFrom := u.slackFrom } = u

/-! ### Segments and memory -/

/-- A SEG_DEFINE that no check refuses makes the segment DEFINED with its new descriptor and answers 1; a SEG_FREE of a segment that is not
active and that no load or verification uses makes it FREE; on an active segment both answer ACTIVE, on one in use BUSY. A SEG_VERIFY query
answers the segment's state and active bit and changes nothing. A verification begins; at its end a segment whose CRC-32C of the stored data area
equals the descriptor's is VALID, with OK_RETRIED where only the repeat matched, and one whose CRC differs in both readings, or that has an
uncorrectable word, is FENCED and the reply FENCED. Beside the reply only that segment changes where it is not fenced and nothing was repeated. -/
def Obligations.SegmentCommands : Prop :=
  (∀ (q : Fin 10) (k : Nat) (c : Cmd) (s : State) (i : Nat), i = fld (wAt c.payload 0) 13 0 →
    (s.Runs q k 0x0301 c →
      (i = 0 ∨ (wAt c.payload 0).toNat ≠ i ∨ descOk ((c.payload.drop 1).take 8) = false →
        ∃ t, exec (.segDefine q k) s = .next t ∧ s.RepliedOnly t q k stBadParam []) ∧
      (i ≠ 0 → (wAt c.payload 0).toNat = i → descOk ((c.payload.drop 1).take 8) = true →
        (dLoc ((c.payload.drop 1).take 8) = true ∨ s.drmOn = true) → s.placeOk i ((c.payload.drop 1).take 8) = true →
        (s.active i = true → ∃ t, exec (.segDefine q k) s = .next t ∧ s.RepliedOnly t q k stActive []) ∧
        (s.active i = false → s.segBusy i = true → ∃ t, exec (.segDefine q k) s = .next t ∧ s.RepliedOnly t q k stBusy []) ∧
        (s.active i = false → s.segBusy i = false →
          ∃ t, exec (.segDefine q k) s = .next t ∧ s.Replied t q k stOK [1] ∧
            t.seg i = { s.seg i with st := .defined, desc := (c.payload.drop 1).take 8 } ∧
            KMap.agreeBut s.segs t.segs [i] ∧ { s.sansReply t with segs := s.segs } = s))) ∧
    (s.Runs q k 0x0304 c → i ≠ 0 → (wAt c.payload 0).toNat = i →
      (s.active i = true → ∃ t, exec (.segFree q k) s = .next t ∧ s.RepliedOnly t q k stActive []) ∧
      (s.active i = false → s.segBusy i = true → ∃ t, exec (.segFree q k) s = .next t ∧ s.RepliedOnly t q k stBusy []) ∧
      (s.active i = false → s.segBusy i = false →
        ∃ t, exec (.segFree q k) s = .next t ∧ s.Replied t q k stOK [] ∧ t.seg i = { s.seg i with st := .free, desc := [] } ∧
          KMap.agreeBut s.segs t.segs [i] ∧ { s.sansReply t with segs := s.segs } = s)) ∧
    (∀ (glitch : Bool) (ue : Option Nat), s.Runs q k 0x0303 c → (wAt c.payload 0).toNat = i →
      (wAt c.payload 1 = 1 →
        ∃ t, exec (.segVerify q k glitch ue) s = .next t ∧
          s.RepliedOnly t q k stOK [mkW ((s.segSt i).code + if s.active i then 256 else 0), 0]) ∧
      (wAt c.payload 1 = 0 → i ≠ 0 → s.segSt i ≠ .free → s.loadPending i = false → (dLoc (s.segDesc i) = true ∨ s.drmOn = true) →
        ∃ t, exec (.segVerify q k glitch ue) s = .next t ∧
          s.Began t q k c ∧
          t.seg i = { s.seg i with verifies := (s.seg i).verifies ++ [(q.val, k)] } ∧
          KMap.agreeBut s.segs t.segs [i] ∧ { s.sansReply t with segs := s.segs } = s))) ∧
  (∀ (q : Fin 10) (k : Nat) (c : Cmd) (s : State) (i : Nat), s.mgt.rst = false → (s.q q).find k = some c →
    c.hdr.opcode = 0x0303 → s.here q c = true → s.Waits q k → i = fld (wAt c.payload 0) 13 0 → i ≠ 0 →
    s.segSt i ≠ .fenced → (s.seg i).waiting = [] →
    (s.segCrc i = dCrc (s.segDesc i) →
      (∃ t b, exec (.segVerify q k false none) s = .next t ∧
        t.seg i = { s.seg i with st := .valid, verifies := (s.seg i).verifies.erase (q.val, k) } ∧
        s.Replied t q k stOK [mkW (3 + if b = true then 256 else 0), s.segCrc i] ∧ KMap.agreeBut s.segs t.segs [i] ∧
        { s.sansReply t with segs := s.segs } = s) ∧
      (∃ t b, exec (.segVerify q k true none) s = .next t ∧
        t.seg i = { s.seg i with st := .valid, verifies := (s.seg i).verifies.erase (q.val, k) } ∧
        s.Replied t q k stRetried [mkW (3 + if b = true then 256 else 0), s.segCrc i] ∧ KMap.agreeBut s.segs t.segs [i] ∧
        { s.sansReply t with segs := s.segs, regs := s.regs, err := s.err } = s)) ∧
    (s.segCrc i ≠ dCrc (s.segDesc i) → (∀ g : Fin 8, s.playedBy g i = false) →
      ∃ t w, exec (.segVerify q k false none) s = .next t ∧ (t.seg i).st = .fenced ∧
        t.replyOf q k = some ⟨stFenced, stFenced, s.ownAddr, [w, s.segCrc i]⟩))

/-- A SEG_LOAD of an idle, defined, inactive segment takes it into LOADING as the running load; while a load or a verification of the segment runs it
waits behind those that wait. When the rest of the data has arrived, each byte of the data stands at its place of the data area and every other byte of
either memory is as before; a load without VERIFY then leaves the segment DEFINED and answers the bytes loaded, one with VERIFY whose CRC matches
leaves it VALID and answers the CRC too, and one whose CRC does not match takes its data once more. -/
def Obligations.SegmentLoad : Prop :=
  (∀ (q : Fin 10) (k i : Nat) (c : Cmd) (s : State), s.Runs q k 0x0302 c → c.hdr.flags / 2 % 2 = 0 →
    wAt c.payload 0 = mkW i → i < 2 ^ 14 → i ≠ 0 → (wAt c.payload 1).toNat % 64 = 0 → (wAt c.payload 2).toNat % 64 = 0 →
    0 < (wAt c.payload 2).toNat → (wAt c.payload 5).toNat ≤ 1 →
    (s.seg i).st ≠ .free → (wAt c.payload 1).toNat + (wAt c.payload 2).toNat ≤ dSize (s.seg i).desc * 64 →
    ((s.seg i).job = none → (s.seg i).verifies = [] → (dLoc (s.seg i).desc = true ∨ s.drmOn = true) → s.active i = false →
      ∃ t, exec (.segLoad q k []) s = .next t ∧ s.Began t q k c ∧
        t.seg i = { s.seg i with
          st := .loading
          job := some ⟨q, k, true, (wAt c.payload 1).toNat, (wAt c.payload 2).toNat, bit (wAt c.payload 5) 0, 0, false, 0⟩ } ∧
        KMap.agreeBut s.segs t.segs [i] ∧ { s.sansReply t with segs := s.segs } = s) ∧
    ((∀ j, (s.seg i).job = some j → ¬(j.q = q ∧ j.k = k)) → (s.seg i).job ≠ none ∨ (s.seg i).verifies ≠ [] →
      ∃ t, exec (.segLoad q k []) s = .next t ∧ s.Began t q k c ∧
        t.seg i = { s.seg i with
          waiting := (s.seg i).waiting ++
            [⟨q, k, true, (wAt c.payload 1).toNat, (wAt c.payload 2).toNat, bit (wAt c.payload 5) 0, 0, false, 0⟩] } ∧
        KMap.agreeBut s.segs t.segs [i] ∧ { s.sansReply t with segs := s.segs } = s)) ∧
  (∀ (q : Fin 10) (k i : Nat) (c : Cmd) (s : State) (j : SegJob) (data : List Byte), s.mgt.rst = false →
    (s.q q).find k = some c → s.Waits q k → wAt c.payload 0 = mkW i → i < 2 ^ 14 → i ≠ 0 →
    (s.seg i).job = some j → j.q = q → j.k = k → (s.seg i).waiting = [] →
    j.done < j.len → j.len % 64 = 0 → j.done % 64 = 0 → data.length = j.len - j.done →
    (dLoc (s.seg i).desc = true ∨ s.drm.fenced = []) →
    ∃ t, exec (.segLoad q k data) s = .next t ∧ KMap.agreeBut s.segs t.segs [i] ∧
      (∀ n < data.length, t.byteAt (dLoc (s.seg i).desc) (dAddr (s.seg i).desc + j.offset + j.done + n) = data.getD n 0) ∧
      (∀ (chip : Bool) (a : Nat), (chip ≠ dLoc (s.seg i).desc ∨ a < dAddr (s.seg i).desc + j.offset + j.done ∨
        dAddr (s.seg i).desc + j.offset + j.done + data.length ≤ a) → t.byteAt chip a = s.byteAt chip a) ∧
      (j.verify = false → t.seg i = { s.seg i with st := .defined, job := none } ∧ s.Replied t q k stOK [mkW j.len, 0] ∧
        { s.sansReply t with segs := s.segs, onchip := s.onchip, ext := s.ext } = s) ∧
      (j.verify = true → j.retry = false →
        (t.segCrc i = dCrc (s.seg i).desc → t.seg i = { s.seg i with st := .valid, job := none } ∧
          s.Replied t q k stOK [mkW j.len, t.segCrc i] ∧
          { s.sansReply t with segs := s.segs, onchip := s.onchip, ext := s.ext } = s) ∧
        (t.segCrc i ≠ dCrc (s.seg i).desc →
          t.seg i = { s.seg i with job := some { j with retry := true, done := 0, crc := t.segCrc i } } ∧
          { t with segs := s.segs, onchip := s.onchip, ext := s.ext } = s)))

/-- A MEM_FILL of a range that the checks accept, no byte of which an active segment has, answers the length; every byte of the range then
holds the pattern's byte of its place, every other byte of either memory is as before, and segments of the range in VALID or FENCED are
DEFINED; over an active segment it answers ACTIVE. A MEM_READ of a range without errors puts out the bytes of the range and answers the length; nothing
else changes. In external memory a block that was never written is answered with UNINIT and its number, and a fenced channel with FENCED. A range that
the checks refuse answers their status. -/
def Obligations.FillAndRead : Prop :=
  ∀ (q : Fin 10) (k : Nat) (c : Cmd) (s : State) (chip : Bool) (addr len : Nat),
    chip = bit (wAt c.payload 0) 0 → addr = (join64 (wAt c.payload 1) (wAt c.payload 2)).toNat →
    len = (wAt c.payload 3).toNat →
    (∀ st, s.rangeCheck (wAt c.payload 0) addr len = some st →
      (s.Runs q k 0x0305 c → ∃ t, exec (.memFill q k) s = .next t ∧ s.RepliedOnly t q k st []) ∧
      (s.Runs q k 0x0306 c → ∃ t, exec (.memRead q k [] [] none) s = .next t ∧ s.RepliedOnly t q k st [])) ∧
    (s.rangeCheck (wAt c.payload 0) addr len = none →
      (s.Runs q k 0x0305 c → (s.segsOver chip addr len).any s.active = true →
        ∃ t, exec (.memFill q k) s = .next t ∧ s.RepliedOnly t q k stActive []) ∧
      (s.Runs q k 0x0305 c → (s.segsOver chip addr len).any s.active = false → (chip = true ∨ s.drm.fenced = []) →
        ∃ t, exec (.memFill q k) s = .next t ∧ s.Replied t q k stOK [mkW len] ∧
          (∀ n < len, t.byteAt chip (addr + n) = BitVec.ofNat 8 ((wAt c.payload 4).toNat / 256 ^ (n % 4))) ∧
          (∀ (ch : Bool) (a : Nat), (ch ≠ chip ∨ a < addr ∨ addr + len ≤ a) → t.byteAt ch a = s.byteAt ch a) ∧
          (∀ i ∈ s.segsOver chip addr len, i ≠ 0 → (s.seg i).st = .valid ∨ (s.seg i).st = .fenced →
            (t.seg i).st = .defined) ∧
          { s.sansReply t with segs := s.segs, onchip := s.onchip, ext := s.ext } = s) ∧
      (s.Runs q k 0x0306 c → chip = true →
        ∃ t, exec (.memRead q k [] [] none) s = .next t ∧ s.Replied t q k stOK [mkW len, 0xFFFFFFFF] ∧
          t.sent = .dma (join64 (wAt c.payload 4) (wAt c.payload 5)).toNat (s.bytesAt true addr len) :: s.sent ∧
          { s.sansReply t with sent := s.sent } = s) ∧
      (s.Runs q k 0x0306 c → chip = false → s.chanFenced addr len = true →
        ∃ t, exec (.memRead q k [] [] none) s = .next t ∧ s.RepliedOnly t q k stFenced [0, 0xFFFFFFFF]) ∧
      (∀ first : Option Nat, s.Runs q k 0x0306 c → chip = false → s.chanFenced addr len = false →
        first = ((List.range ((addr + len - 1) / 65536 - addr / 65536 + 1)).find? fun i => !s.blockWritten (addr / 65536 + i)) →
        ∃ t, exec (.memRead q k [] [] none) s = .next t ∧
          s.Replied t q k (if first.isSome then stUninit else stOK) [mkW len, first.elim 0xFFFFFFFF mkW] ∧
          t.sent = .dma (join64 (wAt c.payload 4) (wAt c.payload 5)).toNat (s.bytesAt false addr len) :: s.sent ∧
          { s.sansReply t with sent := s.sent } = s))

/-- MEM_CASTLE while no castling is in progress: a refusal is reported with its status and DONE in MEM_CASTLE_RES and counted, and no set
changes; else the castling is in progress. CASTLING_DONE gives the set its new owner, zeroes its contents where CLEAR asked for it and no
other byte, and sets DONE. MEM_SETn_OWN of sets 2 to 7 acts at once while MEM is not running. POWER_STATE_REQUEST that is refused counts;
else the change begins, and POWER_TRANSITION_DONE ends it, the contents zero on the way into and out of OFF. -/
def Obligations.OwnersAndPower : Prop :=
  (∀ (v : Word) (s : State), s.mgt.rst = false → s.mem.castle = none →
    ∃ t, exec (.memCastle v) s = .next t ∧ t.bsets = s.bsets ∧ { t with regs := s.regs, mem := s.mem } = s ∧
      (∀ st, s.castleRefused (fld v 2 0) (fld v 9 8) = some st → t.mem = s.mem ∧
        t.rd .MEM_CASTLE_RES = (putF (fld v 2 0) 0 ||| putF (fld v 9 8) 8 ||| putF st 16 ||| bitW true 31) ∧
        t.rd .MEM_CNT_CASTLE_REJ = satInc (s.rd .MEM_CNT_CASTLE_REJ)) ∧
      (s.castleRefused (fld v 2 0) (fld v 9 8) = none →
        t.mem = { s.mem with castle := some ⟨fld v 2 0, fld v 9 8, bit v 16⟩ } ∧
        t.rd .MEM_CNT_CASTLE_REJ = s.rd .MEM_CNT_CASTLE_REJ)) ∧
  (∀ (s : State) (n own : Nat) (clear : Bool), s.mgt.rst = false → s.mem.castle = some ⟨n, own, clear⟩ → s.mem.stopPending = false →
    ∃ t, exec .castlingDone s = .next t ∧ t.bset n = { s.bset n with own := some own } ∧ t.mem = { s.mem with castle := none } ∧
      t.rb .MEM_CASTLE_RES 0 0 31 = true ∧ KMap.agreeBut s.bsets t.bsets [n] ∧
      { t with bsets := s.bsets, mem := s.mem, regs := s.regs, onchip := s.onchip } = s ∧
      (∀ a, t.byteAt true a = if clear = true ∧ a / setBytes = n then 0 else s.byteAt true a)) ∧
  (∀ (n : Fin 8) (v : Word) (s : State), s.mgt.rst = false → 2 ≤ n.val → fld v 1 0 ≠ 3 → s.memOn = false →
    s.rb .SYS_LOCK 0 0 5 = false → exec (.memSetnOwn n v) s = .next (s.setBset n { s.bset n with own := some (fld v 1 0) })) ∧
  (∀ (n : Fin 8) (v : Word) (s : State), s.mgt.rst = false →
    (s.pwrRefused n (fld v 1 0) = true →
      exec (.powerStateRequest n v) s = .next (s.wr .MEM_CNT_PWR_REJ 0 0 (satInc (s.rd .MEM_CNT_PWR_REJ)))) ∧
    (s.pwrRefused n (fld v 1 0) = false → (s.bset n).pwr ≠ fld v 1 0 →
      ∃ t, exec (.powerStateRequest n v) s = .next t ∧ t.bset n = { s.bset n with trans := some (fld v 1 0) } ∧
        t.rd .MEM_SETn_PWR n = mkW (fld v 1 0) ∧ KMap.agreeBut s.bsets t.bsets [n.val] ∧
        { t with bsets := s.bsets, regs := s.regs } = s) ∧
    (∀ p : Nat, (s.bset n).trans = some p → s.mem.stopPending = false →
      ∃ t, exec (.powerTransitionDone n) s = .next t ∧ t.bset n = { s.bset n with pwr := p, trans := none } ∧
        KMap.agreeBut s.bsets t.bsets [n.val] ∧ { t with bsets := s.bsets, onchip := s.onchip } = s ∧
        (∀ a, t.byteAt true a = if (p = 2 ∨ (s.bset n).pwr = 2) ∧ a / setBytes = n then 0 else s.byteAt true a)))

/-- A scrub pass without errors changes no memory and repairs nothing. A pass that finds one single-bit error in a row that had none in the
pass before counts it for its set and remembers the row. An on-chip MEM_TEST that the checks accept begins and changes nothing else; while it
runs, its end without a failing row answers OK and the rows tested; a destructive test leaves zeros in its region, and every byte outside
the sets named or outside the region is as before. -/
def Obligations.ScrubAndTest : Prop :=
  (∀ s : State, s.mgt.rst = false → s.memOn = true → s.rb .MEM_CTL 0 0 0 = true →
    ∃ t, exec (.scrub [] []) s = .next t ∧ { t with bsets := s.bsets } = s ∧
      ∀ n : Fin 8, { t.bset n with suspect := (s.bset n).suspect } = s.bset n) ∧
  (∀ (s : State) (a : Nat), s.mgt.rst = false → s.memOn = true → s.rb .MEM_CTL 0 0 0 = true → s.setOn (a / setBytes) = true →
    (s.bset (a / setBytes)).suspect.contains (bankRow a) = false →
    ∃ t, exec (.scrub [a] []) s = .next t ∧ (t.bset (a / setBytes)).suspect = [bankRow a] ∧
      t.rd .MEM_SETn_CNT_CE (a / setBytes) = satInc (s.rd .MEM_SETn_CNT_CE (a / setBytes)) ∧
      { t with bsets := s.bsets, regs := s.regs } = s) ∧
  (∀ (q : Fin 10) (k : Nat) (c : Cmd) (s : State) (fails : List RowFail), s.Runs q k 0x0801 c → bit (wAt c.payload 0) 0 = true →
    s.memTestCheck c.payload = none →
    ∃ t, exec (.memTest q k fails) s = .next t ∧ s.Began t q k c ∧ s.sansReply t = s) ∧
  (∀ (q : Fin 10) (k : Nat) (c : Cmd) (s : State), s.mgt.rst = false → (s.q q).find k = some c → c.hdr.opcode = 0x0801 →
    bit (wAt c.payload 0) 0 = true → bit (wAt c.payload 0) 8 = false → s.here q c = true → c.hdr.flags % 2 = 0 →
    (s.q q).resetting = false → (∀ b ∈ s.chn.bcasts, b.cmd ≠ ⟨q, k⟩) → s.mem.stopPending = false →
    (wAt c.payload 1).toNat % 8192 = 0 → (wAt c.payload 2).toNat % 8192 = 0 →
    (wAt c.payload 1).toNat + (wAt c.payload 2).toNat ≤ setBytes →
    ∃ t n, exec (.memTest q k []) s = .next t ∧ s.Replied t q k stOK [mkW n, 0, 0, 0] ∧
      { s.sansReply t with onchip := s.onchip } = s ∧
      (∀ a, t.byteAt true a =
        if a < 8 * setBytes ∧ (fld (wAt c.payload 0) 23 16).testBit (a / setBytes) = true ∧
            (wAt c.payload 1).toNat ≤ a % setBytes ∧ a % setBytes < (wAt c.payload 1).toNat + (wAt c.payload 2).toNat then 0
        else s.byteAt true a))

/-! ### External memory -/

/-- Training that ends without failure trains both timing sets and the DRM runs, out of self-refresh and with every row count zero; a channel
that fails its repeat leaves the DRM untrained and is fenced. A read that returns on its repeat is counted; one that fails again fences
its channel. DRM_FENCE_CLR marks the fenced channels of its mask for retraining, which ends their fence when they pass. -/
def Obligations.ExternalMemoryHealth : Prop :=
  (∀ s : State, s.mgt.rst = false → s.drm.training = true →
    (∃ t, exec (.drmTrainingDone []) s = .next t ∧ t.drmOn = true ∧ t.drm.trained = true ∧ t.drm.training = false ∧
      t.drm.setTrained = [0, 1] ∧ t.drm.selfref = false ∧ t.drm.rows = [] ∧ t.drm.mr4Valid = false ∧
      KMap.agreeBut s.regs t.regs [RegId.off .SYS_EN_STATUS 0 0] ∧ { t with regs := s.regs, drm := s.drm } = s) ∧
    (∀ (c : Fin 4) (z : Fin 2), ∃ t, exec (.drmTrainingDone [⟨c, z, true⟩]) s = .next t ∧ t.drm.trained = false ∧
      t.drm.training = false ∧ t.drm.trainFail = true ∧ c.val ∈ t.drm.fenced)) ∧
  (∀ (s : State) (addr : Nat), s.mgt.rst = false → s.drmOn = true → s.drm.fenced.contains (s.drmChannel addr) = false →
    (∃ t, exec (.drmReadTimeout addr false) s = .next t ∧ t.rd .DRM_CNT_RD_RETRY = satInc (s.rd .DRM_CNT_RD_RETRY) ∧
      t.drm = s.drm ∧ { t with regs := s.regs, err := s.err } = s) ∧
    (∃ t, exec (.drmReadTimeout addr true) s = .next t ∧ t.drm = { s.drm with fenced := s.drmChannel addr :: s.drm.fenced } ∧
      t.rd .DRM_CNT_RD_FAIL = satInc (s.rd .DRM_CNT_RD_FAIL) ∧
      { t with regs := s.regs, err := s.err, drm := s.drm, msixPend := s.msixPend, sent := s.sent } = s)) ∧
  (∀ (m : Fin 16) (s : State), s.mgt.rst = false →
    exec (.drmFenceClr m) s = .next { s with drm := { s.drm with
      retrain := s.drm.retrain ++ s.drm.fenced.filter fun c => m.val.testBit c && !s.drm.retrain.contains c } }) ∧
  (∀ s : State, s.mgt.rst = false → s.drm.training = false → s.drm.retrain ≠ [] →
    ∃ t, exec (.drmTrainingDone []) s = .next t ∧ t = { s with drm := { s.drm with
      retrain := [], fenced := s.drm.fenced.filter fun c => !s.drm.retrain.contains c } })

/-- While the DRM runs: a refresh takes its channel out of power-down; an MR4 reading is held as valid, and a rise of OVERTEMP counts; row
activates are counted in the table of the row's bank, and a row that is new to a table with room and reaches RAC_THR refreshes its two
neighbours and counts again from zero. The end of a refresh window clears every table. -/
def Obligations.RefreshAndRows : Prop :=
  ∀ s : State, s.mgt.rst = false →
    (∀ c : Fin 4, s.drmOn = true → exec (.refresh c) s =
      .next { s with drm := { s.drm with powerDown := s.drm.powerDown.filter fun x => x ≠ c } }) ∧
    exec .refreshWindowEnd s = .next { s with drm := { s.drm with rows := [] } } ∧
    (∀ c0 c1 c2 c3 : Fin 8, s.drmOn = true →
      ∃ t, exec (.mr4Read c0 c1 c2 c3) s = .next t ∧ t.drm = { s.drm with mr4 := [c0, c1, c2, c3], mr4Valid := true } ∧
        t.rd .DRM_CNT_OVERTEMP = (if t.drmOvertemp = true ∧ s.drmOvertemp = false then satInc (s.rd .DRM_CNT_OVERTEMP)
          else s.rd .DRM_CNT_OVERTEMP) ∧ { t with drm := s.drm, regs := s.regs, err := s.err } = s) ∧
    (∀ addr acts : Nat, s.drmOn = true → s.drm.rows = [] → 0 < s.drmRow addr → s.drmRow addr + 1 < 2 ^ s.rowBits →
      ∃ t, exec (.neighbourRefresh addr acts) s = .next t ∧
        t.drm = { s.drm with rows := [⟨s.drmChannel addr, s.drmRank addr, s.drmBank addr,
          [(s.drmRow addr, if s.rf .DRM_RAC_THR 0 0 15 0 ≤ acts then 0 else acts)]⟩] } ∧
        t.rd .DRM_CNT_NREF =
          (if s.rf .DRM_RAC_THR 0 0 15 0 ≤ acts then satInc (satInc (s.rd .DRM_CNT_NREF)) else s.rd .DRM_CNT_NREF) ∧
        { t with drm := s.drm, regs := s.regs } = s)

/-- Each of these commands first reports the slack: the least tolerance of the ports of groups and patterns and of what the others leave; self-refresh ends
when it has fallen to 1,500 ns. Maintenance runs at a slack of 2 µs or more and MAINT_LATE clears when every item is current; with less slack an item that has
waited four intervals sets it and counts. Self-refresh is entered with SR_EN at a slack of SR_THR or more, counted, and left; power-down is entered with
PD_EN. FCHG is accepted only with a trained shadow set, nothing fenced, no test and a slack of 10 µs, and FCHG_DONE makes the shadow set
active; a refusal is reported with its status and counted. -/
def Obligations.RestAndFrequency : Prop :=
  ∀ (s : State) (slack v : Nat), s.mgt.rst = false → s.drmOn = true → v = s.slackOf slack →
    (∀ waited : Nat, ∀ current : Bool,
      ∃ t, exec (.maintenance slack waited current) s = .next t ∧
        t.drm = { s.drm with
          slack := v, selfref := s.drm.selfref && decide (1500 < v)
          maintLate := if 2000 ≤ v then s.drm.maintLate && !current else s.drm.maintLate || decide (4 ≤ waited) } ∧
        t.rd .DRM_CNT_MAINT_LATE = (if v < 2000 ∧ 4 ≤ waited ∧ s.drm.maintLate = false then satInc (s.rd .DRM_CNT_MAINT_LATE)
          else s.rd .DRM_CNT_MAINT_LATE) ∧
        { t with drm := s.drm, regs := s.regs } = s) ∧
    (s.rb .DRM_CTL 0 0 0 = true → s.drm.selfref = false → s.drm.fchgBusy = false → s.extTest = false →
      s.rf .DRM_SR_THR 0 0 15 0 ≤ v → 1500 < v →
      ∃ t, exec (.selfRefreshEntry slack) s = .next t ∧ t.drm = { s.drm with slack := v, selfref := true, powerDown := [] } ∧
        t.rd .DRM_CNT_SR = satInc (s.rd .DRM_CNT_SR) ∧ { t with drm := s.drm, regs := s.regs } = s) ∧
    (s.rb .DRM_CTL 0 0 0 = false ∨ v < s.rf .DRM_SR_THR 0 0 15 0 →
      exec (.selfRefreshEntry slack) s =
        .next { s with drm := { s.drm with slack := v, selfref := s.drm.selfref && decide (1500 < v) } }) ∧
    (exec (.selfRefreshExit slack) s = .next { s with drm := { s.drm with slack := v, selfref := false } }) ∧
    (∀ c : Fin 4, s.rb .DRM_CTL 0 0 1 = true → s.drm.selfref = false → s.drm.powerDown.contains c.val = false →
      exec (.powerDownEntry c) s = .next { s with drm := { s.drm with powerDown := c :: s.drm.powerDown } }) ∧
    (s.drm.fenced = [] → s.drm.setTrained.contains (1 - s.drm.active) = true → s.drm.fchgBusy = false → s.extTest = false →
      10000 ≤ v →
      ∃ t, exec (.fchg slack) s = .next t ∧ t.drm = { s.drm with slack := v, fchgBusy := true } ∧ t.rd .DRM_FCHG_RES = 0 ∧
        { t with drm := s.drm, regs := s.regs } = s) ∧
    (∀ st : Nat, (st = stNotReady ∧ (s.drm.fenced ≠ [] ∨ s.drm.setTrained.contains (1 - s.drm.active) = false)) ∨
        (st = stBusy ∧ s.drm.fenced = [] ∧ s.drm.setTrained.contains (1 - s.drm.active) = true ∧
          (s.drm.fchgBusy = true ∨ s.extTest = true ∨ v < 10000)) →
      ∃ t, exec (.fchg slack) s = .next t ∧
        t.drm = { s.drm with slack := v, selfref := s.drm.selfref && decide (1500 < v) } ∧
        t.rd .DRM_FCHG_RES = (putF st 0 ||| bitW true 31) ∧
        t.rd .DRM_CNT_FCHG_REJ = satInc (s.rd .DRM_CNT_FCHG_REJ) ∧ { t with drm := s.drm, regs := s.regs } = s) ∧
    (s.drm.fchgBusy = true →
      ∃ t, exec .fchgDone s = .next t ∧
        t.drm = { s.drm with active := 1 - s.drm.active, fchgBusy := false, powerDown := [], selfref := false } ∧
        t.rd .DRM_CNT_FCHG = satInc (s.rd .DRM_CNT_FCHG) ∧ { t with drm := s.drm, regs := s.regs } = s)

/-- A write of the geometry while the DRM is stopped that changes it takes its new value, and every byte of external memory is unwritten, the
allocation map is empty, and VALID or FENCED segments there are DEFINED; the on-chip memory is as before. An external MEM_TEST that
the checks accept begins; its end without a failing granule answers OK, leaves its range zero and written, and every other byte as before. -/
def Obligations.GeometryAndTest : Prop :=
  (∀ (inst : Fin 6) (v : Word) (s : State), s.mgt.rst = false → s.writeCause false ((geomReg inst).off 0 0) v = none →
    v &&& mkW (geomReg inst).row.mask ≠ s.rd (geomReg inst) →
    ∃ t, exec (.drmGeometry inst v) s = .next t ∧ t.rd (geomReg inst) = (v &&& mkW (geomReg inst).row.mask) ∧ t.ext = [] ∧
      t.drm.alloc = [] ∧ t.onchip = s.onchip ∧
      (∀ i, (s.seg i).st = .valid → dLoc (s.seg i).desc = false → (t.seg i).st = .defined) ∧
      { t with regs := s.regs, err := s.err, ext := s.ext, segs := s.segs, drm := s.drm } = s) ∧
  (∀ (q : Fin 10) (k : Nat) (c : Cmd) (s : State) (fails : List GranuleFail), s.Runs q k 0x0801 c →
    bit (wAt c.payload 0) 0 = false → s.extTestCheck c.payload = none →
    ∃ t, exec (.memTestExternal q k fails) s = .next t ∧ s.Began t q k c ∧ s.sansReply t = s) ∧
  (∀ (q : Fin 10) (k : Nat) (c : Cmd) (s : State) (addr len : Nat), s.mgt.rst = false → (s.q q).find k = some c →
    c.hdr.opcode = 0x0801 → bit (wAt c.payload 0) 0 = false → s.here q c = true → c.hdr.flags % 2 = 0 →
    (s.q q).resetting = false → (∀ b ∈ s.chn.bcasts, b.cmd ≠ ⟨q, k⟩) → s.drm.fenced = [] →
    addr = (join64 (wAt c.payload 1) (wAt c.payload 2)).toNat → len = (wAt c.payload 3).toNat → len % 65536 = 0 →
    ∃ t, exec (.memTestExternal q k []) s = .next t ∧ s.Replied t q k stOK [mkW len, 0, 0xFFFFFFFF, 0xFFFFFFFF] ∧
      { s.sansReply t with ext := s.ext } = s ∧
      (∀ a, t.byteAt false a = if addr ≤ a ∧ a < addr + len then 0 else s.byteAt false a))

/-! ### Readback converters -/

/-- ADC_SEQ_SET on a stopped unit stores the length, the entries and their windows and answers the count; on a running unit it answers
ENABLED and changes nothing else. ADC_READ answers, for each entry asked, the result register, the tick and the low seconds of its hold
edge. An urgent request on an idle general unit takes the next converter edge and waits. ADC_SELFCAL of ready units begins by calibrating each
unit named; when the findings of its one unit are within the limits it stores the factors and answers OK with the unit's bit. -/
def Obligations.ConverterCommands : Prop :=
  ∀ (q : Fin 10) (k : Nat) (c : Cmd) (s : State),
    (s.Runs q k 0x0501 c → seqSetOk c.payload = true →
      ((s.adc (fld (wAt c.payload 0) 3 0)).run = true →
        ∃ t, exec (.adcSeqSet q k) s = .next t ∧ s.RepliedOnly t q k stEnabled []) ∧
      ((s.adc (fld (wAt c.payload 0) 3 0)).run = false →
        ∃ t, exec (.adcSeqSet q k) s = .next t ∧ s.Replied t q k stOK [mkW (fld (wAt c.payload 0) 12 8)] ∧
          t.rd .ADCn_SEQ (fld (wAt c.payload 0) 3 0) = mkW (fld (wAt c.payload 0) 12 8) ∧
          (∀ e < fld (wAt c.payload 0) 12 8,
            t.rd .ADCn_ENTRY_e (fld (wAt c.payload 0) 3 0) e = wAt c.payload (1 + 4 * e) ∧
            t.rd .ADCn_WLO_e (fld (wAt c.payload 0) 3 0) e = wAt c.payload (2 + 4 * e) ∧
            t.rd .ADCn_WHI_e (fld (wAt c.payload 0) 3 0) e = wAt c.payload (3 + 4 * e) ∧
            t.rd .ADCn_WHYST_e (fld (wAt c.payload 0) 3 0) e = wAt c.payload (4 + 4 * e)) ∧
          KMap.agreeBut s.adcs t.adcs [fld (wAt c.payload 0) 3 0] ∧ { s.sansReply t with regs := s.regs, adcs := s.adcs } = s)) ∧
    (s.Runs q k 0x0503 c → extraBits (wAt c.payload 0) 0x01FFF10F = false → bit (wAt c.payload 0) 8 = false →
      fld (wAt c.payload 0) 24 20 ≠ 0 → fld (wAt c.payload 0) 19 16 + fld (wAt c.payload 0) 24 20 ≤ 16 →
      ∃ t, exec (.adcRead q k) s = .next t ∧
        s.RepliedOnly t q k stOK ((List.range (fld (wAt c.payload 0) 24 20)).flatMap fun i =>
          [s.rd .ADCn_RES_e (fld (wAt c.payload 0) 3 0) (fld (wAt c.payload 0) 19 16 + i),
            mkW (tickOf (KMap.getD (s.adc (fld (wAt c.payload 0) 3 0)).holds (fld (wAt c.payload 0) 19 16 + i) 0)),
            lo32 (secOf (KMap.getD (s.adc (fld (wAt c.payload 0) 3 0)).holds (fld (wAt c.payload 0) 19 16 + i) 0))])) ∧
    (∀ u : Nat, s.Runs q k 0x0503 c → extraBits (wAt c.payload 0) 0x01FFF10F = false → bit (wAt c.payload 0) 8 = true →
      u = fld (wAt c.payload 0) 3 0 → isGuard u = false → fld (wAt c.payload 0) 15 12 ≤ 3 → (s.adc u).run = true →
      (s.adc u).cal = none → (s.adc u).slots = [] →
      ∃ t, exec (.adcRead q k) s = .next t ∧ s.Began t q k c ∧
        t.adc u = { s.adc u with slots := [⟨.urgent (fld (wAt c.payload 0) 15 12) ⟨q, k⟩, (s.now / 4096 + 1) * 4096,
          (s.now / 4096 + 1) * 4096 + clocks 7⟩] } ∧
        KMap.agreeBut s.adcs t.adcs [u] ∧ { s.sansReply t with adcs := s.adcs, drawn := s.drawn } = s) ∧
    (∀ found : List CalFinding, s.Runs q k 0x0502 c → extraBits (wAt c.payload 0) 0x3FFF = false →
      unitsOf (fld (wAt c.payload 0) 13 0) ≠ [] → (∀ u < 14, (s.adc u).cal ≠ some ⟨q, k⟩) →
      (∀ u ∈ unitsOf (fld (wAt c.payload 0) 13 0),
        (s.adc u).refReady = true ∧ (s.adc u).fenced = false ∧ (s.adc u).cal = none) →
      ∃ t, exec (.adcSelfcal q k found) s = .next t ∧ s.Began t q k c ∧
        (∀ u ∈ unitsOf (fld (wAt c.payload 0) 13 0), t.adc u =
          { s.adc u with cal := some ⟨q, k⟩, detDue := false, slots := (s.adc u).slots.filter fun y => y.isUrgent }) ∧
        (∀ u < 16, u ∉ unitsOf (fld (wAt c.payload 0) 13 0) → t.adc u = s.adc u) ∧ { s.sansReply t with adcs := s.adcs } = s) ∧
    (∀ (u : Fin 14) (ofs : Int) (gain : Nat), s.mgt.rst = false → (s.q q).find k = some c → c.phase = .begun →
      (s.q q).resetting = false → (∀ b ∈ s.chn.bcasts, b.cmd ≠ ⟨q, k⟩) → (s.adc u).cal = some ⟨q, k⟩ →
      (∀ v < 14, v ≠ u.val → (s.adc v).cal ≠ some ⟨q, k⟩) → (s.adc u).fenced = false → calOk ofs gain = true →
      ∃ t, exec (.adcSelfcal q k [⟨u, ofs, gain, 0, 0⟩]) s = .next t ∧ s.Replied t q k stOK [mkW (2 ^ u.val), 0, 0] ∧
        t.adc u = { s.adc u with cal := none, calValid := true } ∧ t.rd .ADCn_CAL_OFS u = wordOfInt ofs ∧
        t.rd .ADCn_CAL_GAIN u = mkW gain ∧ KMap.agreeBut s.adcs t.adcs [u.val] ∧ { s.sansReply t with adcs := s.adcs, regs := s.regs } = s)

/-- A trigger of a running, enabled, idle unit, by TRIG, by ADC_TRIG_ALL or by its own source, lays out one slot for every entry of the
sequence from the run's first hold edge; a trigger while a run or an urgent conversion is in progress is missed and counted and lays out
nothing. A source's trigger brings device time to its instant. ADC_TRIG_ALL leaves every unit that it does not name as it was; a source that does not fire has no effect. -/
def Obligations.ConverterTriggers : Prop :=
  ∀ (s : State), s.mgt.rst = false →
    (∀ u : Fin 16, (s.adc u).run = true → (s.adc u).cal = none → s.rb .ADCn_CTL u 0 0 = true →
      ((s.adc u).slots = [] → (s.adc u).applyPend = false →
        (exec (.trig u) s = .next (s.setAdc u { s.adc u with
          slots := s.runSlots u (s.adcLen u) 0 (s.runHold u (s.now / 256 * 256)) })) ∧
        (∀ t : Nat, s.trigHolds u t = true → (s.adc u).trigAt ≠ some t →
          ∃ v, exec (.adcTrigger u t) s = .next v ∧
            v.adc u = { s.adc u with trigAt := some t, slots := s.runSlots u (s.adcLen u) 0 (s.runHold u t) } ∧
            KMap.agreeBut s.adcs v.adcs [u.val] ∧ { v with adcs := s.adcs } = s.reach t)) ∧
      ((s.adc u).busy = true →
        exec (.trig u) s = .next (s.wr .ADCn_CNT_TRIG_MISS u 0 (satInc (s.rd .ADCn_CNT_TRIG_MISS u))))) ∧
    (∀ (u : Fin 16) (t : Nat), s.trigHolds u t = false → exec (.adcTrigger u t) s = .next s) ∧
    (∀ v : Word, (∀ u : Fin 16, bit v u = true → (s.adc u).run = true ∧ (s.adc u).cal = none ∧ s.rb .ADCn_CTL u 0 0 = true ∧
        (s.adc u).slots = [] ∧ (s.adc u).applyPend = false) →
      ∃ t, exec (.adcTrigAll v) s = .next t ∧ { t with adcs := s.adcs } = s ∧
        ∀ u : Fin 16, t.adc u = if bit v u then { s.adc u with
          slots := s.runSlots u (s.adcLen u) 0 (s.runHold u (s.now / 256 * 256)) } else s.adc u)

/-- A conversion of a sequence entry without a window and without a capture ring stores its corrected result and the tick of its hold edge
in the entry's registers; an urgent conversion answers its command with the result. A detection timer on an idle unit lays out a detection
slot, on a busy one makes it due. REF_READY sets, and starts a unit that is enabled and allowed. APPLY on a stopped unit copies the window
set, on a running unit waits for its next run. FENCE_CLR returns a fenced unit to NORMAL. SIZE 0 of the capture ring returns its memory. -/
def Obligations.ConverterResults : Prop :=
  ∀ (u : Fin 16) (s : State), s.mgt.rst = false →
    (∀ (raw : Int) (e start hold : Nat), (s.adc u).slots = [⟨.entry e, start, hold⟩] → e < 16 → s.allocOf 4 = none → s.adcWen u e = false →
      s.rb .ADCn_CTL u 0 0 = true → (s.adc u).fenced = false → (s.adc u).refReady = true → (s.adc u).detDue = false →
      ∃ t, exec (.conversionResult u raw) s = .next t ∧
        t.rd .ADCn_RES_e u e = s.resWord u (s.adcSel u e) (s.adcCode u raw) ∧ t.rd .ADCn_TS_e u e = mkW (tickOf hold) ∧
        (t.adc u).slots = [] ∧ KMap.getD (t.adc u).holds e 0 = hold ∧ (t.adc u).run = (s.adc u).run ∧
        KMap.agreeBut s.adcs t.adcs [u.val] ∧
        { t with adcs := s.adcs, regs := s.regs, groups := s.groups } = { s.reach (hold + ticks 304) with regs := s.regs }) ∧
    (∀ (raw : Int) (sel start hold k : Nat) (q : Fin 10) (c : Cmd), (s.adc u).slots = [⟨.urgent sel ⟨q, k⟩, start, hold⟩] →
      s.allocOf 4 = none → (s.q q).find k = some c → c.phase = .begun → (s.q q).resetting = false →
      (∀ b ∈ s.chn.bcasts, b.cmd ≠ ⟨q, k⟩) →
      ∃ t, exec (.conversionResult u raw) s = .next t ∧
        s.Replied t q k stOK [s.resWord u sel (s.adcCode u raw), mkW (tickOf hold), lo32 (secOf hold)] ∧
        KMap.agreeBut s.adcs t.adcs [u.val] ∧ { s.sansReply t with adcs := s.adcs } = s.sansReply (s.reach (hold + ticks 304))) ∧
    ((s.adc u).run = true → s.rb .ADCn_CTL u 0 0 = true → (s.adc u).cal = none → s.rf .ADCn_OW_CTL u 0 3 0 ≠ 0 →
      ∃ t, exec (.detectionTimer u) s = .next t ∧ { t with adcs := s.adcs } = s ∧ KMap.agreeBut s.adcs t.adcs [u.val] ∧
        ((s.adc u).slots = [] → (t.adc u).slots.length = 1 ∧ (t.adc u).detDue = false ∧
          ∀ y ∈ (t.adc u).slots, y.kind = .detect (owNext (s.rf .ADCn_OW_CTL u 0 3 0) (s.adc u).detNext)) ∧
        ((s.adc u).slots ≠ [] → t.adc u = { s.adc u with detDue := true })) ∧
    (s.rb .ADCn_CTL u 0 1 = true → (s.adc u).refReady = false → (s.adc u).run = false → (s.adc u).fenced = false →
      ∃ t, exec (.adcRefReady u) s = .next t ∧ (t.adc u).refReady = true ∧
        (t.adc u).run = (s.rb .ADCn_CTL u 0 0 && s.adcParamOk u) ∧ KMap.agreeBut s.adcs t.adcs [u.val] ∧
        { t with adcs := s.adcs, regs := s.regs } = { s.reach ((s.adc u).refAt + msec 5) with regs := s.regs }) ∧
    ((s.adc u).applyPend = false → s.applyBad u = false →
      ∃ t, exec (.adcApply u) s = .next t ∧ { t with adcs := s.adcs, regs := s.regs } = s ∧
        (t.adc u).applyPend = (s.adc u).run ∧
        ((s.adc u).run = false → ∀ e < 16, t.rd .ADCn_WLO_e u e = (s.winShadow u e).lo ∧
          t.rd .ADCn_WHI_e u e = (s.winShadow u e).hi ∧ t.rd .ADCn_WHYST_e u e = (s.winShadow u e).hyst)) ∧
    ((s.adc u).fenced = true → s.rb .ADCn_CTL u 0 0 = false →
      exec (.adcFenceClr u) s = .next (s.setAdc u { s.adc u with fenced := false })) ∧
    (s.drmOn = true → (∀ w : Fin 16, s.rb .ADCn_CTL w 0 3 = false) →
      ∃ t, exec (.adcCapCtl 0) s = .next t ∧ t.rd .ADC_CAP_CTL = 0 ∧ t.allocOf 4 = none ∧
        KMap.agreeBut s.regs t.regs [RegId.off .ADC_CAP_CTL 0 0] ∧ { t with drm := s.drm, regs := s.regs } = s)

/-! ### Groups -/

/-- TABLE_WRITE that sets a reserved bit, names no entry or one past the table, or has an invalid entry is BAD_PARAM as a whole. To a group
that is not running it writes its entries at once and no others, and is answered OK with their number. To a running group it is NOT_READY
where an entry may not be played, and BAD_PARAM where the open set has no room for it; else it adds its entries to the open set and is
answered OK while HOLD is 1; while HOLD is 0 it waits, and the open set is released at once, at the tick of the release, or waits for its
release behind four released sets. FORCE_JUMP with a reserved bit is BAD_PARAM. To a RUNNING group outside an underrun episode and outside
safe state, which no other queue has claimed at the same instant, it claims the group and adds a jump that the group may take from 40 ticks
after the tick of its execution; else it is answered BUSY and counts. Nothing else changes. -/
def Obligations.TablesAndJumps : Prop :=
  ∀ (q : Fin 10) (k g first n : Nat) (c : Cmd) (s : State) (es : List (List Word)), g = fld (wAt c.payload 0) 2 0 →
    first = fld (wAt c.payload 0) 25 16 → n = fld (wAt c.payload 1) 6 0 → es = payloadEntries c.payload n →
    (s.Runs q k 0x0401 c →
      (fld (wAt c.payload 0) 15 3 ≠ 0 ∨ fld (wAt c.payload 0) 31 26 ≠ 0 ∨ fld (wAt c.payload 1) 31 7 ≠ 0 ∨ n = 0 ∨
          1024 < first + n ∨ es.all entryValid = false →
        ∃ t, exec (.tableWrite q k) s = .next t ∧ s.RepliedOnly t q k stBadParam []) ∧
      (fld (wAt c.payload 0) 15 3 = 0 → fld (wAt c.payload 0) 31 26 = 0 → fld (wAt c.payload 1) 31 7 = 0 → 1 ≤ n →
        first + n ≤ 1024 → es.all entryValid = true →
        (s.grpRunning g = false →
          ∃ t, exec (.tableWrite q k) s = .next t ∧ s.Replied t q k stOK [mkW n] ∧
            (∀ h e : Nat, e < 1024 → t.entry h e =
              if h = g ∧ first ≤ e ∧ e < first + n then (c.payload.drop (2 + 8 * (e - first))).take 8 else s.entry h e) ∧
            { s.sansReply t with tables := s.tables } = s) ∧
        (s.grpRunning g = true →
          (es.all (s.entryOk g) = false → ∃ t, exec (.tableWrite q k) s = .next t ∧ s.RepliedOnly t q k stNotReady []) ∧
          (es.all (s.entryOk g) = true →
            ((s.grp g).openSet.fits 0 n = false → ∃ t, exec (.tableWrite q k) s = .next t ∧ s.RepliedOnly t q k stBadParam []) ∧
            ((s.grp g).openSet.fits 0 n = true → s.hold g = true →
              ∃ t, exec (.tableWrite q k) s = .next t ∧ s.Replied t q k stOK [mkW n] ∧
                t.grp g = { s.grp g with openSet := { (s.grp g).openSet with
                  writes := (s.grp g).openSet.writes ++ [], entries := (s.grp g).openSet.entries ++ numbered first es } } ∧
                KMap.agreeBut s.groups t.groups [g] ∧ { s.sansReply t with groups := s.groups } = s) ∧
            ((s.grp g).openSet.fits 0 n = true → s.hold g = false →
              ((s.grp g).released.length < 4 → ∃ t, exec (.tableWrite q k) s = .next t ∧ s.Began t q k c ∧
                s.ReleasedFor t g [] (numbered first es) (some ⟨q, k⟩) (some [mkW n])) ∧
              (4 ≤ (s.grp g).released.length → ∃ t, exec (.tableWrite q k) s = .next t ∧ s.Began t q k c ∧
                t.grp g = { s.grp g with
                  openSet := { (s.grp g).openSet with
                    writes := (s.grp g).openSet.writes ++ [], entries := (s.grp g).openSet.entries ++ numbered first es }
                  relWait := (s.grp g).relWait ++ [(some ⟨q, k⟩, some [mkW n])] } ∧
                KMap.agreeBut s.groups t.groups [g] ∧ { s.sansReply t with groups := s.groups } = s)))))) ∧
    (s.Runs q k 0x0407 c →
      (fld (wAt c.payload 0) 7 3 ≠ 0 ∨ fld (wAt c.payload 0) 15 9 ≠ 0 ∨ fld (wAt c.payload 0) 31 26 ≠ 0 →
        ∃ t, exec (.forceJump q k) s = .next t ∧ s.RepliedOnly t q k stBadParam []) ∧
      (fld (wAt c.payload 0) 7 3 = 0 → fld (wAt c.payload 0) 15 9 = 0 → fld (wAt c.payload 0) 31 26 = 0 →
        (s.err.safe = false → (s.grp g).st = .running → (s.grp g).episode = none → s.claimed q g = false →
          ∃ t, exec (.forceJump q k) s = .next t ∧ s.Began t q k c ∧
            t.grp g = { s.grp g with claim := some (s.now, q), trigs := (s.grp g).trigs ++
              [{ idx := 0, target := first, earliest := s.now / 256 * 256 + 40 * 256
                 seamless := bit (wAt c.payload 0) 8, ev := none, cmd := some ⟨q, k⟩, delayed := false, heldAt := none }] } ∧
            KMap.agreeBut s.groups t.groups [g] ∧ { s.sansReply t with groups := s.groups } = s) ∧
        (s.err.safe = true ∨ (s.grp g).st ≠ .running ∨ (s.grp g).episode ≠ none ∨ s.claimed q g = true →
          ∃ t, exec (.forceJump q k) s = .next t ∧ s.Replied t q k stBusy [] ∧
            t.rd .Gn_CNT_FORCE_REJ g = satInc (s.rd .Gn_CNT_FORCE_REJ g) ∧
            KMap.agreeBut s.regs t.regs [RegId.off .Gn_CNT_FORCE_REJ g 0] ∧ { s.sansReply t with regs := s.regs } = s)))

/-- GROUP_ARM with a reserved bit is BAD_PARAM, and one that is refused is answered with the refusal's status. Else it stores its start entry
and claims the group: with a synthesis state the group is ARMED at once and GROUP_ARM is answered OK, with any other entry it waits until the
entry is held. GROUP_START of an ARMED group that nothing refuses makes it wait for its start time: device time plus 20 microseconds, or the time
given when that is no less; the levels and overrides of the group's lanes end. A start time that is less is BAD_PARAM; a group that is not
ARMED is answered NOT_READY; in safe state, for a host queue while LOCAL is set, or claimed by another queue at the same instant, BUSY.
GROUP_STOP of a playing group enters STOPPING and waits for its stop point; of a group that is not running it is answered at once, with a
time that the manual leaves open. Beside the reply only the group changes, its lanes, and the run bits of its channels as it is armed. An
ARMED or WAITING group with nothing staged stops at once: it is STOPPED, or DISABLED where its enable is 0. -/
def Obligations.ArmStartStop : Prop :=
  ∀ (q : Fin 10) (k g e : Nat) (c : Cmd) (s : State), g = fld (wAt c.payload 0) 2 0 → e = fld (wAt c.payload 0) 25 16 →
    (s.Runs q k 0x0402 c →
      (fld (wAt c.payload 0) 15 3 ≠ 0 ∨ fld (wAt c.payload 0) 31 26 ≠ 0 →
        ∃ t, exec (.groupArm q k) s = .next t ∧ s.RepliedOnly t q k stBadParam []) ∧
      (fld (wAt c.payload 0) 15 3 = 0 → fld (wAt c.payload 0) 31 26 = 0 →
        (∀ st, s.armRefused q g e = some st → ∃ t, exec (.groupArm q k) s = .next t ∧ s.RepliedOnly t q k st []) ∧
        (s.armRefused q g e = none →
          (eSynth (s.entry g e) = true →
            ∃ t, exec (.groupArm q k) s = .next t ∧ s.Replied t q k stOK [] ∧
              t.grp g = { s.grp g with st := .armed, startEntry := e, armCmd := none, held := [], claim := some (s.now, q) } ∧
              KMap.agreeBut s.groups t.groups [g] ∧ { s.sansReply t with groups := s.groups, chans := s.chans } = s) ∧
          (eSynth (s.entry g e) = false →
            ∃ t, exec (.groupArm q k) s = .next t ∧ s.Began t q k c ∧
              t.grp g = { s.grp g with startEntry := e, armCmd := some ⟨q, k⟩, held := [], claim := some (s.now, q) } ∧
              KMap.agreeBut s.groups t.groups [g] ∧ { s.sansReply t with groups := s.groups } = s)))) ∧
    (s.Runs q k 0x0403 c → fld (wAt c.payload 0) 7 3 = 0 → fld (wAt c.payload 0) 31 9 = 0 → fld (wAt c.payload 2) 31 16 = 0 →
      fld (wAt c.payload 3) 31 30 = 0 → fld (wAt c.payload 3) 29 0 < 800000000 →
      (s.err.safe = true ∨ (q.val < 8 ∧ s.rb .MGT_CTL 0 0 1 = true) ∨ s.claimed q g = true →
        ∃ t, exec (.groupStart q k) s = .next t ∧ s.RepliedOnly t q k stBusy []) ∧
      (s.err.safe = false → (8 ≤ q.val ∨ s.rb .MGT_CTL 0 0 1 = false) → s.claimed q g = false →
        ((s.grp g).st ≠ .armed → ∃ t, exec (.groupStart q k) s = .next t ∧ s.RepliedOnly t q k stNotReady []) ∧
        ((s.grp g).st = .armed → s.armStartRefused q g = none → s.bindRefused g = none →
          ∀ time : Nat, time = (if bit (wAt c.payload 0) 8
              then mkTime ((wAt c.payload 1).toNat + 2 ^ 32 * fld (wAt c.payload 2) 15 0) (fld (wAt c.payload 3) 29 0) 0
              else s.now + usec 20) →
          (time < s.now + usec 20 → ∃ t, exec (.groupStart q k) s = .next t ∧ s.RepliedOnly t q k stBadParam []) ∧
          (s.now + usec 20 ≤ time →
            ∃ t, exec (.groupStart q k) s = .next t ∧ s.Began t q k c ∧
              t.grp g = { s.grp g with st := .waiting, startAt := time, startCmd := some ⟨q, k⟩, claim := some (s.now, q) } ∧
              (∀ n : Fin 64, t.pin n = if s.laneGroup n = g then { s.pin n with level := none, ovr := none } else s.pin n) ∧
              KMap.agreeBut s.groups t.groups [g] ∧ { s.sansReply t with groups := s.groups, pins := s.pins } = s)))) ∧
    (s.Runs q k 0x0404 c →
      (fld (wAt c.payload 0) 7 3 ≠ 0 ∨ fld (wAt c.payload 0) 31 10 ≠ 0 ∨ fld (wAt c.payload 0) 9 8 = 3 →
        ∃ t, exec (.groupStop q k) s = .next t ∧ s.RepliedOnly t q k stBadParam []) ∧
      (fld (wAt c.payload 0) 7 3 = 0 → fld (wAt c.payload 0) 31 10 = 0 → fld (wAt c.payload 0) 9 8 ≠ 3 →
        ((s.grp g).st.plays = true →
          ∃ t, exec (.groupStop q k) s = .next t ∧ s.Began t q k c ∧
            t.grp g = { s.grp g with st := .stopping, stops := (s.grp g).stops ++
              [{ mode := fld (wAt c.payload 0) 9 8, cmd := some ⟨q, k⟩, disable := false }] } ∧
            KMap.agreeBut s.groups t.groups [g] ∧ { s.sansReply t with groups := s.groups } = s) ∧
        ((s.grp g).st.isRunning = false →
          ∃ t, exec (.groupStop q k) s = .next t ∧ s.Replied t q k stOK (timeWords (Config.openTime s.drawn)) ∧
            { s.sansReply t with drawn := s.drawn } = s) ∧
        ((s.grp g).st = .armed ∨ (s.grp g).st = .waiting → (s.grp g).released = [] → (s.grp g).openSet.isEmpty = true →
          (s.grp g).relWait = [] → (s.grp g).trigs = [] →
          ∃ t, exec (.groupStop q k) s = .next t ∧ (t.grp g).st = if s.rb .Gn_CTL g 0 0 then .stopped else .disabled)))

/-- STAGE with a reserved bit or a field that the group does not own is BAD_PARAM and adds no pair; one that would move a DAC from a running
group is ENABLED and counted. With neither, and with no change of ILIM that is refused: on a group that is not running the fields are
written at once where no pair sets REF_GAIN without permission, and STAGE is answered OK, with RELEASE 1 with a commit time that the manual leaves
open. On a running group whose open set has room, the pairs join the open set: with RELEASE 0 and HOLD 1 STAGE is answered OK; with
RELEASE 1 or HOLD 0 it waits, and the open set is released at once, at the tick of the release, or waits for its release behind four released sets; with RELEASE 1
and an entry in the open set whose segment is not VALID it is NOT_READY instead. COMMIT of an empty open set is answered OK with the time of
the latest commit; of another it releases the set and waits, or waits for the release. Nothing else changes. -/
def Obligations.StageAndCommit : Prop :=
  ∀ (q : Fin 10) (k g : Nat) (c : Cmd) (s : State), g = fld (wAt c.payload 0) 2 0 →
    (∀ (ws : List (Nat × Word)) (b : State) (res : Option (List Word)), s.Runs q k 0x0405 c → ws = pairsFrom 1 c.payload →
      b = ws.foldl State.applyIlim s → res = (if bit (wAt c.payload 0) 8 then none else some []) →
      (fld (wAt c.payload 0) 7 3 ≠ 0 ∨ fld (wAt c.payload 0) 31 9 ≠ 0 ∨ ws.all (s.ownedBy g) = false →
        ∃ t, exec (.stage q k) s = .next t ∧ s.RepliedOnly t q k stBadParam []) ∧
      (fld (wAt c.payload 0) 7 3 = 0 → fld (wAt c.payload 0) 31 9 = 0 → ws.all (s.ownedBy g) = true →
        (ws.any s.routeMoves = true →
          ∃ t, exec (.stage q k) s = .next t ∧ s.Replied t q k stEnabled [] ∧
            s.sansReply t = s.bump .OUT_CNT_ROUTE_REJ) ∧
        (ws.any s.routeMoves = false → (∀ w ∈ ws, s.ilimDenied w = none) →
          (s.grpRunning g = false → ws.any s.gainDenied = false →
            (bit (wAt c.payload 0) 8 = false →
              ∃ t, exec (.stage q k) s = .next t ∧ s.Replied t q k stOK [] ∧ s.sansReply t = b.applyNow ws) ∧
            (bit (wAt c.payload 0) 8 = true →
              ∃ t, exec (.stage q k) s = .next t ∧ s.Replied t q k stOK (timeWords (Config.openTime s.drawn)) ∧
                { s.sansReply t with drawn := s.drawn } = b.applyNow ws) ∧
            (∀ (ch : Fin 32) (v : Word), ws = [(RegId.off .CHn_GAIN ch 0, v)] →
              ∃ t, exec (.stage q k) s = .next t ∧ t.rd .CHn_GAIN ch = v ∧
                KMap.agreeBut s.regs t.regs [RegId.off .CHn_GAIN ch 0])) ∧
          (s.grpRunning g = true → (s.grp g).openSet.fits ws.length 0 = true →
            (bit (wAt c.payload 0) 8 = true → s.stageNames g = true →
              ∃ t, exec (.stage q k) s = .next t ∧ s.RepliedOnly t q k stNotReady []) ∧
            (bit (wAt c.payload 0) 8 = false → s.hold g = true →
              ∃ t, exec (.stage q k) s = .next t ∧ s.Replied t q k stOK [] ∧
                t.grp g = { s.grp g with openSet := { (s.grp g).openSet with
                  writes := (s.grp g).openSet.writes ++ ws, entries := (s.grp g).openSet.entries ++ [] } } ∧
                KMap.agreeBut s.groups t.groups [g] ∧ { s.sansReply t with groups := s.groups } = b) ∧
            ((bit (wAt c.payload 0) 8 = true ∧ s.stageNames g = false) ∨ (bit (wAt c.payload 0) 8 = false ∧ s.hold g = false) →
              ((s.grp g).released.length < 4 → ∃ t, exec (.stage q k) s = .next t ∧ s.Began t q k c ∧
                b.ReleasedFor t g ws [] (some ⟨q, k⟩) res) ∧
              (4 ≤ (s.grp g).released.length → ∃ t, exec (.stage q k) s = .next t ∧ s.Began t q k c ∧
                (t.grp g).openSet.writes = (s.grp g).openSet.writes ++ ws ∧
                (t.grp g).openSet.entries = (s.grp g).openSet.entries ∧
                t.grp g = { s.grp g with
                  openSet := (t.grp g).openSet, relWait := (s.grp g).relWait ++ [(some ⟨q, k⟩, res)] } ∧
                KMap.agreeBut s.groups t.groups [g] ∧ { s.sansReply t with groups := s.groups } = b)))))) ∧
    (s.Runs q k 0x0406 c →
      (fld (wAt c.payload 0) 31 3 ≠ 0 → ∃ t, exec (.commit q k) s = .next t ∧ s.RepliedOnly t q k stBadParam []) ∧
      (fld (wAt c.payload 0) 31 3 = 0 →
        ((s.grp g).openSet.isEmpty = true →
          ∃ t, exec (.commit q k) s = .next t ∧ s.RepliedOnly t q k stOK (timeWords (s.grp g).lastCommit)) ∧
        ((s.grp g).openSet.isEmpty = false →
          ((s.grp g).released.length < 4 → ∃ t, exec (.commit q k) s = .next t ∧ s.Began t q k c ∧
            s.ReleasedFor t g [] [] (some ⟨q, k⟩) none) ∧
          (4 ≤ (s.grp g).released.length → ∃ t, exec (.commit q k) s = .next t ∧ s.Began t q k c ∧
            t.grp g = { s.grp g with relWait := (s.grp g).relWait ++ [(some ⟨q, k⟩, none)] } ∧
            KMap.agreeBut s.groups t.groups [g] ∧ { s.sansReply t with groups := s.groups } = s))))

/-! ### Playback -/

/-- The first sample edge of a waiting group presents sample 0 of its start entry: the group is RUNNING, and its GROUP_START is answered OK
with the time of the edge. An edge that cannot be its first changes nothing. A sample edge of a playing group whose frame is in time, and that its
decisions leave playing, presents one sample: unless the group follows another, its angle advances by F and the angle step of the commits;
every running channel of the group presents the value of its content. Where the frame is missing, or its flit fails its check and the repeat
too, the sample repeats the last frame: the group has an underrun episode, its jumps end, and every running channel repeats its value. A
flit that fails its check once is requested again and counted as a transient fault. An edge of a stopped group takes one of the edges of its
ramps. -/
def Obligations.SamplesOfAGroup : Prop :=
  ∀ (g : Fin 8) (t : Nat) (absent stale : Bool) (s : State),
    (∀ (q : Fin 10) (k : Nat), s.mgt.rst = false → s.firstEdge g t = true → (s.grp g).released = [] →
      (s.grp g).startCmd = some ⟨q, k⟩ → s.Waits q k →
      ∃ v, exec (.firstSampleEdge g t absent none) s = .next v ∧ (v.grp g).st = .running ∧ (v.grp g).n = 1 ∧ (v.grp g).times = [t] ∧
        (v.grp g).entry = (s.grp g).startEntry ∧ (v.grp g).startCmd = none ∧ s.Replied v q k stOK (timeWords t) ∧
        (∀ h : Nat, h ≠ g.val → { v.grp h with turnRecs := (s.grp h).turnRecs } = s.grp h) ∧ v.tables = s.tables) ∧
    (s.firstEdge g t = false → ∀ sine, exec (.firstSampleEdge g t absent sine) s = .next s) ∧
    (∀ u w a : State, s.AtEdge g t u → w = u.decideSample g t → (w.grp g).st.plays = true → w.bindMode g ≠ 1 →
      a = (w.advance g).sineCheck false →
      ∃ v, exec (.groupSample g t false stale none) s = .next v ∧ (v.grp g).n = (w.grp g).n + 1 ∧
        (v.grp g).times = (t :: (w.grp g).times).take 64 ∧
        (v.grp g).a = BitVec.ofInt 64 ((w.grp g).a.toNat + ((w.grp g).f.toInt + (w.grp g).cStep.toInt)) ∧
        (v.grp g).entry = (w.grp g).entry ∧
        (∀ c ∈ a.chansOf g, (v.chan c).value = wordOfInt (a.chanValue g c (a.grp g).a (a.grp g).turn).1 ∧ (v.chan c).lastT = t) ∧
        (∀ h : Nat, h ≠ g.val → { v.grp h with turnRecs := (w.grp h).turnRecs } = w.grp h) ∧
        v.tables = w.tables ∧ v.onchip = w.onchip ∧ v.ext = w.ext) ∧
    (∀ u w : State, s.AtEdge g t u → (u.grp g).fb = false → (u.grp g).episode = none → u.stopDue g t = false →
      w = (u.underrun g 1 none).decideSample g t → (w.grp g).st.plays = true →
      ∃ v, exec (.groupSample g t true stale none) s = .next v ∧ (v.grp g).n = (w.grp g).n + 1 ∧ (v.grp g).episode.isSome = true ∧
        (∀ c ∈ w.chansOf g, (v.chan c).value = (w.chan c).value ∧ (v.chan c).repeated = true) ∧ (v.grp g).trigs = []) ∧
    (s.mgt.rst = false →
      ∃ v, exec (.flitCheckFail g t false) s = .next v ∧
        v.rd .ERR_CNT_TRANSIENT = satInc (s.rd .ERR_CNT_TRANSIENT) ∧
        KMap.agreeBut s.regs v.regs [RegId.off .ERR_CNT_TRANSIENT 0 0, RegId.off .ERR_CNT_LOST 0 0] ∧
        { v with regs := s.regs, err := { v.err with log := s.err.log, wr := s.err.wr, rd := s.err.rd } } = s) ∧
    (∀ e u w : State, e = s.lasting 23 g 0x0013 0xFF ((s.grp g).n % 2 ^ 32) 0 → e.AtEdge g t u →
      (u.grp g).fb = false → (u.grp g).episode = none → u.stopDue g t = false →
      w = (u.underrun g 2 none).decideSample g t → (w.grp g).st.plays = true →
      ∃ v, exec (.flitCheckFail g t true) s = .next v ∧ (v.grp g).n = (w.grp g).n + 1 ∧ (v.grp g).episode.isSome = true ∧
        (∀ c ∈ w.chansOf g, (v.chan c).value = (w.chan c).value ∧ (v.chan c).repeated = true) ∧
        (v.grp g).trigs = [] ∧ v.rd .Gn_CNT_UNDERRUN g = w.rd .Gn_CNT_UNDERRUN g) ∧
    (s.mgt.rst = false → (s.grp g).st.plays = false → 0 < (s.grp g).rampLeft →
      ∃ v, exec (.groupSample g t absent stale none) s = .next v ∧
        v.grp g = { s.grp g with rampLeft := (s.grp g).rampLeft - 1 } ∧ KMap.agreeBut s.groups v.groups [g.val] ∧ v.regs = ((s.svCatchUp t).reach t).regs)

/-- At the end of a play the entry plays again while plays remain, and after the last one its successor starts when it is held; each start
is recorded with its time, the entries and cause 1, and counted. A successor that is not held makes an underrun. The one jump that claims a
sample with a held target starts its target, with cause 2 of a condition or cause 3 of FORCE_JUMP, whose command is answered OK with the
time of the sample; a delayed one does the same once its target has been held. TARGET_HELD of an entry that may be held marks it held in
each region that wants it, and for the jumps that wait for it; a group that is being armed with it is ARMED and its GROUP_ARM answered OK. -/
def Obligations.EntriesAndSwitches : Prop :=
  ∀ (g : Fin 8) (t : Nat) (s u : State),
    (s.AtDecision g t u → u.deciding g = true → (u.grp g).startN < (u.grp g).n → u.durEnd g t = true →
      (∀ next plays : Nat, u.entryOk g (u.entry g next) = true →
        (0 < (u.grp g).plays ∧ next = (u.grp g).entry ∧ plays = (u.grp g).plays - 1) ∨
          ((u.grp g).plays = 0 ∧ eLast (u.entry g (u.grp g).entry) = false ∧ u.regionHeld g 1 = true ∧
            next = eNext (u.entry g (u.grp g).entry) ∧ plays = eRepeat (u.entry g next)) →
        ∃ v, exec (.durationEnd g t) s = .next v ∧ (v.grp g).entry = next ∧ (v.grp g).plays = plays ∧
          (v.grp g).startN = (u.grp g).n ∧ (v.grp g).startT = t ∧ (v.grp g).lastSw = t ∧
          (v.grp g).lastInfo = mkW (next + (u.grp g).entry * 2 ^ 16 + 2 ^ 28) ∧ (v.grp g).a = (u.grp g).a ∧
          v.rd .Gn_CNT_SWITCH g = satInc (u.rd .Gn_CNT_SWITCH g) ∧ KMap.agreeBut u.groups v.groups [g.val] ∧
          KMap.agreeBut u.regs v.regs [RegId.off .Gn_CNT_SWITCH g 0] ∧
          { v with groups := u.groups, ev := u.ev, markers := u.markers, regs := u.regs, sent := u.sent, msixPend := u.msixPend } = u) ∧
      ((u.grp g).plays = 0 → eLast (u.entry g (u.grp g).entry) = false → u.regionHeld g 1 = false →
        ∃ v, exec (.durationEnd g t) s = .next v ∧ v.rd .Gn_CNT_UNDERRUN g = satInc (u.rd .Gn_CNT_UNDERRUN g) ∧
          (v.grp g).episode = some ⟨(u.grp g).n, none, eNext (u.entry g (u.grp g).entry)⟩ ∧ (v.grp g).entry = (u.grp g).entry)) ∧
    (∀ (delayed : Bool) (y : Trig), s.AtDecision g t u → u.deciding g = true → u.claims g t (some delayed) = [y] →
      u.entryOk g (u.entry g y.target) = true →
      ∃ v, (if delayed then exec (.delayedSwitch g t) s else exec (.switch g t) s) = .next v ∧
        (v.grp g).entry = y.target ∧ (v.grp g).plays = eRepeat (u.entry g y.target) ∧ (v.grp g).startN = (u.grp g).n ∧
        (v.grp g).startT = t ∧ y ∉ (v.grp g).trigs ∧
        (v.grp g).lastInfo = mkW (y.target + (u.grp g).entry * 2 ^ 16 + (if y.cmd.isSome then 3 * 2 ^ 28 else y.idx * 2 ^ 26 + 2 * 2 ^ 28)) ∧
        v.rd .Gn_CNT_SWITCH g = satInc (u.rd .Gn_CNT_SWITCH g) ∧ KMap.agreeBut u.groups v.groups [g.val] ∧
        (∀ (q : Fin 10) (k : Nat), y.cmd = some ⟨q, k⟩ → u.Waits q k → u.Replied v q k stOK (timeWords t))) ∧
    (∀ e : Nat, s.mgt.rst = false → u = s.reach t → u.holdable g (u.entry g e) = true →
      ((u.grp g).armCmd = none →
        ∃ v, exec (.targetHeld g e t none) s = .next v ∧
          (∀ p ∈ u.wants g, p.1 = e → u.holdable g p.2.2 = true → heldRec p.2.1 p.2.2 ∈ (v.grp g).held) ∧
          (∀ y ∈ (v.grp g).trigs, y.target = e → y.heldAt.isSome = true) ∧ (v.grp g).st = (u.grp g).st ∧
          KMap.agreeBut u.groups v.groups [g.val] ∧ { v with groups := u.groups } = u) ∧
      (∀ (k : Nat) (q : Fin 10), (u.grp g).armCmd = some ⟨q, k⟩ → (u.grp g).startEntry = e →
        (u.grp g).st = .stopped ∨ (u.grp g).st = .armed → u.err.safe = false → u.Waits q k →
        ∃ v, exec (.targetHeld g e t none) s = .next v ∧ (v.grp g).st = .armed ∧ (v.grp g).armCmd = none ∧
          (∀ p ∈ u.wants g, p.1 = e → u.holdable g p.2.2 = true → heldRec p.2.1 p.2.2 ∈ (v.grp g).held) ∧
          u.Replied v q k stOK [] ∧ KMap.agreeBut u.groups v.groups [g.val] ∧
          { v with groups := u.groups, queues := u.queues, chans := u.chans } = u))

/-- A released set that lies before a commit point, not more than 1 s, and was released no later than the 64th sample before is applied at
it: its field and its entry take their values, the commit time is the time of the sample, and its command is answered OK. A set released later is late: LATE is
counted and the set waits for a turn mark, the next after the target that it missed. At a turn mark the group's time of the last mark is the
sample's, and a running channel whose enable is 0 stops. A stop that is due stops the group: it presents no more samples, and with no stage
set waiting and no group that follows it is STOPPED, or DISABLED when its enable is 0, and GROUP_STOP is answered OK with the time of the
stop. Where none of these is due the group stays as it was. -/
def Obligations.CommitsAndMarks : Prop :=
  ∀ (g : Fin 8) (t : Nat) (s u : State), s.AtDecision g t u →
    (∀ (x : StageSet) (ch : Fin 32) (w : Word) (e : Nat) (ws : List Word) (q : Fin 10) (k : Nat), (u.grp g).commitN ≠ some (u.grp g).n →
      u.isCommit g = true → (u.grp g).released = [x] → (u.grp g).relWait = [] → x.late = false → x.r < t → t ≤ x.r + grainsPerSec →
      (x.r ≤ u.back64 g t → x.writes = [(RegId.off .CHn_GAIN ch 0, w)] → x.entries = [(e, ws)] → e < 1024 → x.cmd = some ⟨q, k⟩ →
        (∀ h : Nat, h ≠ g.val → (∀ y ∈ (u.grp h).released, y.cmd ≠ x.cmd) ∧ ∀ y ∈ (u.grp h).relWait, y.1 ≠ x.cmd) → u.Waits q k →
        ∃ v, exec (.commitPoint g t) s = .next v ∧ v.rd .CHn_GAIN ch = w ∧ v.entry g e = ws ∧ (v.grp g).lastCommit = t ∧
          (v.grp g).released = [] ∧ u.Replied v q k stOK (x.res.getD (timeWords t)) ∧ KMap.agreeBut u.groups v.groups [g.val] ∧
          KMap.agreeBut u.tables v.tables [g.val * 1024 + e]) ∧
      (u.back64 g t < x.r → x.hasRoute = false →
        ∃ v, exec (.commitPoint g t) s = .next v ∧ v.rd .Gn_CNT_LATE g = satInc (u.rd .Gn_CNT_LATE g) ∧
          (v.grp g).released = [{ x with
            late := true, marks := if u.nextMark g t = true ∨ u.wraps g = true then 1 else 2, missN := (u.grp g).n }] ∧
          v.lateSet g = true ∧ v.tables = u.tables ∧ KMap.agreeBut u.groups v.groups [g.val] ∧
          KMap.agreeBut u.regs v.regs [RegId.off .Gn_CNT_LATE g 0, RegId.off .Gn_ASTEP_LO g 0, RegId.off .Gn_ASTEP_HI g 0])) ∧
    (u.formsMark g t = true → (u.grp g).markN ≠ some (u.grp g).n →
      ∃ v, exec (.turnMark g t) s = .next v ∧ (v.grp g).lastMarkT = t ∧ (v.grp g).markN = some (u.grp g).n ∧
        (v.grp g).uSinceMark = false ∧ (v.grp g).a = (u.grp g).a ∧ (v.grp g).entry = (u.grp g).entry ∧
        (∀ c : Fin 32, (u.chan c).run = true → u.chGroup c = g → u.chEn c = false → (v.chan c).run = false) ∧
        KMap.agreeBut u.groups v.groups [g.val] ∧ v.tables = u.tables ∧ v.queues = u.queues) ∧
    (u.stopDue g t = true →
      ∃ v, exec (.stopPoint g t) s = .next v ∧ (v.grp g).st.plays = false ∧ (v.grp g).stops = [] ∧ (v.grp g).trigs = [] ∧
        (∀ (y : StopReq) (k : Nat) (q : Fin 10), (u.grp g).stops = [y] → y.cmd = some ⟨q, k⟩ → (u.grp g).released = [] →
          (u.grp g).openSet.isEmpty = true → (u.grp g).relWait = [] → (u.grp g).trigs = [] → (u.grp g).startCmd = none →
          (u.grp g).armCmd = none → (∀ h : Nat, (u.grp h).st.isRunning = true → u.bindMode h ≠ 1) → u.Waits q k →
          (v.grp g).st = (if u.rb .Gn_CTL g 0 0 then .stopped else .disabled) ∧ u.Replied v q k stOK (timeWords t))) ∧
    (u.stopDue g t = false → exec (.stopPoint g t) s = .next u) ∧
    (u.formsMark g t = false → exec (.turnMark g t) s = .next u) ∧
    ((u.grp g).released = [] → ∃ v, exec (.commitPoint g t) s = .next v ∧
      v.grp g = { u.grp g with commitN := (v.grp g).commitN } ∧ KMap.agreeBut u.groups v.groups [g.val] ∧ { v with groups := u.groups } = u)

/-- An underrun of a group that plays its table opens an episode at its next sample, counted once in the group's and the error block's
counters; in FALLBACK it is counted and the group stays. The first turn mark at least 400 ticks after the first underrun
sample takes a RUNNING group to FALLBACK with cause 4; resumption starts the due entry with cause 5. GROUP_FENCE fences the group and
stops it, with a lasting fault in the counters; GFENCE_CLR of fenced groups clears their fences. -/
def Obligations.UnderrunAndFence : Prop :=
  ∀ (g : Fin 8) (t : Nat) (s u : State),
    (∀ cause : Nat, s.mgt.rst = false → u = s.reach t → 1 ≤ cause → cause ≤ 10 → (u.grp g).st.plays = true →
      ((u.grp g).fb = false → (u.grp g).episode = none →
        ∃ v, exec (.underrun g cause t none) s = .next v ∧
          v.grp g = { u.grp g with
            episode := some ⟨(u.grp g).n, none, (u.grp g).entry⟩, due := (u.grp g).entry, dueHeld := none
            lasting := (u.grp g).lasting || (u.grp g).sinceResume.isSome, sinceResume := none } ∧
          v.rd .Gn_CNT_UNDERRUN g = satInc (u.rd .Gn_CNT_UNDERRUN g) ∧
          v.rd .ERR_CNT_UNDERRUN = satInc (u.rd .ERR_CNT_UNDERRUN) ∧ KMap.agreeBut u.groups v.groups [g.val]) ∧
      ((u.grp g).fb = true →
        ∃ v, exec (.underrun g cause t none) s = .next v ∧ v.grp g = { u.grp g with uSinceMark := true } ∧
          v.rd .Gn_CNT_UNDERRUN g = satInc (u.rd .Gn_CNT_UNDERRUN g) ∧
          v.rd .ERR_CNT_UNDERRUN = satInc (u.rd .ERR_CNT_UNDERRUN) ∧ KMap.agreeBut u.groups v.groups [g.val] ∧
          { v with groups := u.groups, regs := u.regs } = u)) ∧
    (∀ (ep : Episode) (f : Nat), s.AtDecision g t u → (u.grp g).episode = some ep → ep.firstT = some f → (u.grp g).fb = false →
      u.nextMark g t = true → f + 400 * 256 ≤ t →
      ∃ v, exec (.fallback g t) s = .next v ∧ (v.grp g).fb = true ∧ (v.grp g).episode = none ∧ (v.grp g).due = ep.due ∧
        (v.grp g).st = (if (u.grp g).st = .running then .fallback else (u.grp g).st) ∧ (v.grp g).lastSw = t ∧
        (v.grp g).lastInfo = mkW (ep.due + (u.grp g).entry * 2 ^ 16 + 4 * 2 ^ 28) ∧
        v.rd .Gn_CNT_SWITCH g = satInc (u.rd .Gn_CNT_SWITCH g) ∧ KMap.agreeBut u.groups v.groups [g.val]) ∧
    (∀ held : Nat, s.AtDecision g t u → (u.grp g).st = .fallback → u.nextMark g t = true → u.rb .Gn_FALLBACK g 0 16 = true →
      (u.grp g).lasting = false → 1 ≤ (u.grp g).fbMarks → (u.grp g).uSinceMark = false → (u.grp g).dueHeld = some held →
      held ≤ u.back64 g t → u.entryOk g (u.entry g (u.grp g).due) = true →
      ∃ v, exec (.resumption g t) s = .next v ∧ (v.grp g).st = .running ∧ (v.grp g).fb = false ∧ (v.grp g).entry = (u.grp g).due ∧
        (v.grp g).plays = eRepeat (u.entry g (u.grp g).due) ∧ (v.grp g).sinceResume = some 0 ∧
        (v.grp g).lastInfo = mkW ((u.grp g).due + (u.grp g).entry * 2 ^ 16 + 5 * 2 ^ 28) ∧
        KMap.agreeBut u.groups v.groups [g.val]) ∧
    (∀ stage : Nat, s.mgt.rst = false → s.grpRunning g = false →
      ∃ v, exec (.groupFence g stage) s = .next v ∧ bit v.err.gfenced g = true ∧
        (∀ h : Fin 8, h ≠ g → bit v.err.gfenced h = bit s.err.gfenced h) ∧
        v.rd .ERR_CNT_LASTING = satInc (s.rd .ERR_CNT_LASTING) ∧ { v with regs := s.regs, err := s.err, sent := s.sent, msixPend := s.msixPend } = s) ∧
    (∀ stage : Nat, s.mgt.rst = false → s.grpRunning g = true →
      ∃ v, exec (.groupFence g stage) s = .next v ∧ (v.grp g).st.plays = false ∧ bit v.err.gfenced g = true) ∧
    (∀ mask : Fin 256, s.mgt.rst = false → (∀ h : Fin 8, mask.val.testBit h = true → bit s.err.gfenced h = true) →
      exec (.gfenceClr mask) s = .next { s with err := { s.err with gfenced := s.err.gfenced &&& ~~~(mkW mask.val) } })

/-! ### Events -/

/-- A change of a valid binary input inverts its state, stamps it and counts the edge; while EVT runs it is an event, which adds to every
group the jumps that it triggers there, to be taken from 40 ticks after its time-stamp, and counts. A bounce is counted and raises
nothing. A stable run gives a started input its state and VALID without an event. Bit k of EVT_SOFT raises soft event k stamped at the tick
of the write. ARM of a time match whose time has come marks it past and counts; clearing ARM clears FIRED and PAST; a match whose time is reached
fires once, as an event of class 6. An input that is not sampled and a match that is not armed have no effect. -/
def Obligations.EventSources : Prop :=
  ∀ s : State, s.mgt.rst = false →
    (∀ (n : Fin 32) (t : Nat) (u : State), u = s.reach t →
      (s.binOn n = false → exec (.binaryInputChange n t) s = .next s ∧ exec (.bounce n) s = .next s ∧
        ∀ level : Bool, exec (.binaryInputStart n level) s = .next s) ∧
      (s.binOn n = true → (s.bin n).valid = true →
        exec (.bounce n) s = .next ((s.setBin n { s.bin n with raw := (s.bin n).state }).wr .BIN_CNT_BOUNCE_n n 0
          (satInc (s.rd .BIN_CNT_BOUNCE_n n))) ∧
        ∃ v, exec (.binaryInputChange n t) s = .next v ∧
          v.bin n = { s.bin n with state := !(s.bin n).state, raw := !(s.bin n).state, time := t / 256 * 256 } ∧
          v.rd .BIN_CNT_EDGE_n n = satInc (s.rd .BIN_CNT_EDGE_n n) ∧ KMap.agreeBut s.bins v.bins [n.val] ∧
          (s.evtOn = false → { v with bins := s.bins, regs := s.regs } = u) ∧
          (s.evtOn = true → v.rd .EVT_CNT_EVENTS = satInc (s.rd .EVT_CNT_EVENTS) ∧ v.ev.nextId = s.ev.nextId + 1 ∧
            ∀ g : Fin 8, (v.grp g).trigs = (s.grp g).trigs ++ u.newTrigs g (srcOf 1 n) (t / 256 * 256)
              (t / 256 * 256 + 40 * 256) (some (!(s.bin n).state)) s.ev.nextId)) ∧
      (∀ level : Bool, s.binOn n = true → (s.bin n).valid = false →
        exec (.binaryInputStart n level) s = .next (s.setBin n { s.bin n with state := level, raw := level, valid := true }))) ∧
    (∀ k : Fin 32, s.evtOn = true →
      ∃ v, exec (.hostSoftEvent (mkW (2 ^ k.val))) s = .next v ∧ v.rd .EVT_CNT_EVENTS = satInc (s.rd .EVT_CNT_EVENTS) ∧
        v.ev.nextId = s.ev.nextId + 1 ∧ ∀ g : Fin 8, (v.grp g).trigs = (s.grp g).trigs ++
          s.newTrigs g (srcOf 8 k) (s.now / 256 * 256) (s.now / 256 * 256 + 40 * 256) none s.ev.nextId) ∧
    (s.evtOn = false → ∀ w : Word, exec (.hostSoftEvent w) s = .next s) ∧
    (∀ k : Fin 8,
      (s.rb .EVT_TM_CTL_k k 0 0 = false → s.tmArmOk k = true →
        ∃ v, exec (.timeMatchArm k true) s = .next v ∧ v.rb .EVT_TM_CTL_k k 0 0 = true ∧
          (s.evtOn = true → s.tmTime k ≤ s.now → bit v.ev.tmPast k = true ∧
            v.rd .EVT_CNT_TM_PAST = satInc (s.rd .EVT_CNT_TM_PAST)) ∧
          (s.evtOn = false ∨ s.now < s.tmTime k → v.ev = s.ev) ∧ v.ev.tmFired = s.ev.tmFired ∧ { v with regs := s.regs, ev := s.ev } = s ∧
          KMap.agreeBut s.regs v.regs [RegId.off .EVT_TM_CTL_k k 0, RegId.off .EVT_CNT_TM_PAST 0 0]) ∧
      (s.rb .EVT_TM_CTL_k k 0 0 = true →
        ∃ v, exec (.timeMatchArm k false) s = .next v ∧ v.rb .EVT_TM_CTL_k k 0 0 = false ∧
          bit v.ev.tmFired k = false ∧ bit v.ev.tmPast k = false ∧ { v with regs := s.regs, ev := s.ev } = s ∧
          KMap.agreeBut s.regs v.regs [RegId.off .EVT_TM_CTL_k k 0]) ∧
      (s.tmOpen k = false → exec (.timeMatch k) s = .next s) ∧
      (s.tmOpen k = true → s.tmTime k ≤ (s.reach (s.tmTime k)).now →
        ∃ v, exec (.timeMatch k) s = .next v ∧ v.now = (s.reach (s.tmTime k)).now ∧ bit v.ev.tmFired k = true ∧
          v.tmOpen k = false ∧ v.rd .EVT_CNT_EVENTS = satInc (s.rd .EVT_CNT_EVENTS)))

/-- LOG_READ with a count that is zero or above 2,048, a reserved bit or an address that is no multiple of 64 is BAD_PARAM. An empty read,
and one from more than 2^31 records back, answers zero records. Any other moves the records asked for that the log still holds to host memory in order, 32
bytes each, and answers their count, the first sequence number and the number lost; with CONSUME the read pointer moves past them where
that leaves fewer unread. The earliest waiting chain event executes 3 microseconds after its time-stamp, leaves the list, and while EVT runs adds to
every group the jumps that it triggers. Beside the reply, the data moved and the log's pointer a read changes nothing. -/
def Obligations.EventLog : Prop :=
  ∀ s : State,
    (∀ (q : Fin 10) (k count addr : Nat) (c : Cmd), s.Runs q k 0x0802 c → count = fld (wAt c.payload 1) 11 0 →
      addr = (join64 (wAt c.payload 2) (wAt c.payload 3)).toNat →
      (count = 0 ∨ 2048 < count ∨ fld (wAt c.payload 1) 15 12 ≠ 0 ∨ fld (wAt c.payload 1) 31 17 ≠ 0 ∨ addr % 64 ≠ 0 →
        ∃ t, exec (.logRead q k) s = .next t ∧ s.RepliedOnly t q k stBadParam []) ∧
      (1 ≤ count → count ≤ 2048 → fld (wAt c.payload 1) 15 12 = 0 → fld (wAt c.payload 1) 31 17 = 0 → addr % 64 = 0 →
        ∀ (from_ : Word) (avail lost n : Nat), from_ = (if wAt c.payload 0 = 0xFFFFFFFF then s.ev.rd else wAt c.payload 0) →
        avail = (s.ev.wr - from_).toNat → lost = min (min count avail) (avail - min avail s.ev.log.length) →
        n = min count avail - lost →
        (avail = 0 ∨ 2 ^ 31 < avail → ∃ t, exec (.logRead q k) s = .next t ∧ s.RepliedOnly t q k stOK [0, from_, 0]) ∧
        (1 ≤ avail → avail ≤ 2 ^ 31 →
          ∃ t, exec (.logRead q k) s = .next t ∧ s.Replied t q k stOK [mkW n, from_ + mkW lost, mkW lost] ∧
            t.sent = (if n = 0 then s.sent else .dma addr (s.logBytes (from_ + mkW lost) n) :: s.sent) ∧
            (∀ nx rd : Word, nx = from_ + mkW lost + mkW n →
              rd = (if bit (wAt c.payload 1) 16 && decide (0 < n ∧ (s.ev.wr - nx).toNat < (s.ev.wr - s.ev.rd).toNat) then nx
                else s.ev.rd) → t.ev = { s.ev with rd := rd }) ∧
            { s.sansReply t with sent := s.sent, ev := s.ev } = s))) ∧
    (s.mgt.rst = false → s.ev.chain = [] → exec .chainEventExecution s = .next s) ∧
    (∀ (x : ChainEv) (u : State), s.mgt.rst = false → firstChainEv s.ev.chain = some x → u = s.reach (x.time + usec 3) →
      ∃ v, exec .chainEventExecution s = .next v ∧ v.ev.chain = s.ev.chain.erase x ∧
        (s.evtOn = false → { v with ev := s.ev } = u) ∧
        (s.evtOn = true → v.ev.nextId = s.ev.nextId + 1 ∧ ∀ g : Fin 8, (v.grp g).trigs = (s.grp g).trigs ++
          u.newTrigs g (srcOf 5 x.num) x.time (x.time + usec 3) none s.ev.nextId))

/-! ### Outputs and patterns -/

/-- CHECK_WINDOW_SET at least 20 microseconds ahead arms a window that is not OPEN with its start, count and expected CRC, and is the
shadow of an OPEN one; a window with a shadow is answered BUSY, and one that sets a reserved bit, whose start is nearer or whose count is
zero BAD_PARAM. DISARM makes a window that is not OPEN IDLE and an OPEN one ABORTED, without its
shadow. At the sample after its end a window takes its shadow: ARMED with it when its start has not passed, else ABORTED and missed. -/
def Obligations.CheckWindows : Prop :=
  (∀ (q : Fin 10) (k : Nat) (c : Cmd) (s : State), s.Runs q k 0x0803 c →
    (fld (wAt c.payload 0) 7 5 ≠ 0 ∨ fld (wAt c.payload 0) 15 10 ≠ 0 ∨ fld (wAt c.payload 0) 31 17 ≠ 0 ∨
      (bit (wAt c.payload 0) 16 = false ∧ (fld (wAt c.payload 2) 31 16 ≠ 0 ∨ fld (wAt c.payload 3) 31 30 ≠ 0 ∨
        800000000 ≤ fld (wAt c.payload 3) 29 0 ∨ wAt c.payload 4 = 0 ∨
        mkTime ((wAt c.payload 1).toNat + 2 ^ 32 * fld (wAt c.payload 2) 15 0) (fld (wAt c.payload 3) 29 0) 0 < s.now + usec 20)) →
      ∃ t, exec (.checkWindowSet q k) s = .next t ∧ s.RepliedOnly t q k stBadParam [])) ∧
  (∀ (q : Fin 10) (k i : Nat) (c : Cmd) (s : State) (x : CwSet), s.Runs q k 0x0803 c → fld (wAt c.payload 0) 7 5 = 0 →
    fld (wAt c.payload 0) 15 10 = 0 → fld (wAt c.payload 0) 31 17 = 0 →
    i = 4 * fld (wAt c.payload 0) 4 0 + fld (wAt c.payload 0) 9 8 →
    (bit (wAt c.payload 0) 16 = false → fld (wAt c.payload 2) 31 16 = 0 → fld (wAt c.payload 3) 31 30 = 0 →
      fld (wAt c.payload 3) 29 0 < 800000000 → wAt c.payload 4 ≠ 0 →
      x = ⟨mkTime ((wAt c.payload 1).toNat + 2 ^ 32 * fld (wAt c.payload 2) 15 0) (fld (wAt c.payload 3) 29 0) 0,
        (wAt c.payload 4).toNat, wAt c.payload 5⟩ → s.now + usec 20 ≤ x.start →
      ((s.win i).shadow ≠ none → ∃ t, exec (.checkWindowSet q k) s = .next t ∧ s.RepliedOnly t q k stBusy []) ∧
      ((s.win i).shadow = none →
        ∃ t, exec (.checkWindowSet q k) s = .next t ∧ KMap.agreeBut s.wins t.wins [i] ∧ { s.sansReply t with wins := s.wins } = s ∧
          ((s.win i).st = .openw → t.win i = { s.win i with shadow := some x } ∧ s.Replied t q k stOK [0x102]) ∧
          ((s.win i).st ≠ .openw → t.win i = ⟨.armed, x, none, 0, 0, false, false⟩ ∧ s.Replied t q k stOK [1]))) ∧
    (bit (wAt c.payload 0) 16 = true →
      ∃ t, exec (.checkWindowSet q k) s = .next t ∧ KMap.agreeBut s.wins t.wins [i] ∧ (t.win i).shadow = none ∧
        (t.win i).st = (if (s.win i).st = .openw then .aborted else .idle) ∧
        s.Replied t q k stOK [if (s.win i).st = .openw then 5 else 0] ∧
        { s.sansReply t with wins := s.wins, sent := s.sent, msixPend := s.msixPend } = s)) ∧
  (∀ (c : Fin 32) (k : Fin 4) (t i : Nat) (s : State) (x : CwSet), i = 4 * c.val + k.val → s.mgt.rst = false →
    ((s.win i).st = .openw ∨ (s.win i).shadow = none → exec (.checkWindowClose c k t) s = .next s) ∧
    ((s.win i).st ≠ .openw → (s.win i).shadow = some x →
      ∃ v, exec (.checkWindowClose c k t) s = .next v ∧ KMap.agreeBut s.wins v.wins [i] ∧
        v.win i = ⟨(if x.start < t then .aborted else .armed), x, none, 0, 0, false, decide (x.start < t)⟩ ∧
        { v with wins := s.wins, sent := s.sent, msixPend := s.msixPend } = s))

/-- A mid-scale ramp ends at code 0; a range change's hold ends; the settled reference of a running DAC block sets REF_READY and a DAC at
mid-scale with a running source waits for its turn boundary. A reading of the sense tap is over limit where a leg carries 90 % of the 10, 20
or 40 mA of ILIM. One over-limit reading is remembered, a second in a row takes
a NORMAL DAC to OFF for 1 ms with its short counter, a RETRY DAC to FENCED with its fence counter; a reading within the limit forgets.
After its time OFF becomes RETRY, RETRY that passes becomes NORMAL, and DAC_FENCE_CLR returns the fenced DACs that it names to
NORMAL at mid-scale. Outside those states the events have no effect. -/
def Obligations.OutputProtection : Prop :=
  ∀ (d : Fin 32) (s : State), s.mgt.rst = false →
    (∀ (c0 : Int) (k g : Nat), (s.dac d).mode = .ramp c0 k g →
      exec (.midscaleRampEnd d) s = .next (s.setDac d { s.dac d with mode := .mid, code := 0 })) ∧
    ((s.dac d).mode = .mid ∨ (s.dac d).mode = .live → exec (.midscaleRampEnd d) s = .next s) ∧
    ((s.dac d).hold ≠ none → exec (.rangeChangeHoldEnd d) s = .next (s.setDac d { s.dac d with hold := none })) ∧
    ((s.dac d).hold = none → exec (.rangeChangeHoldEnd d) s = .next s) ∧
    (s.running 6 = true → s.rb .DAC_STATUS 0 0 1 = false →
      ∃ v, exec .dacRefReady s = .next v ∧ v.rb .DAC_STATUS 0 0 1 = true ∧
        (∀ e : Fin 32, v.dac e = if (s.dacGroup e).isSome && (s.dac e).mode = .mid then { s.dac e with waiting := true } else s.dac e) ∧
        { v with regs := s.regs, dacs := s.dacs } = s) ∧
    (∀ (u15 : Bool) (f legP legN : Nat) (beyond : Bool), d.val = (if u15 then 16 else 0) + f % 16 →
      (beyond = true ↔ s.rf .DAC_CFG_d d 0 5 4 < 3 ∧ 9 * (10000 * 2 ^ s.rf .DAC_CFG_d d 0 5 4) ≤ 10 * max legP legN) →
      (s.counting = false ∨ (s.adc (if u15 then 15 else 14)).refReady = false ∨ (s.dac d).prot = .off ∨ (s.dac d).prot = .fenced →
        exec (.monitorSlot u15 f legP legN) s = .next s) ∧
      (s.counting = true → (s.adc (if u15 then 15 else 14)).refReady = true → (s.dac d).prot = .normal ∨ (s.dac d).prot = .retry →
      (beyond = false → exec (.monitorSlot u15 f legP legN) s =
        .next (if (s.dac d).overs = 0 then s else s.setDac d { s.dac d with overs := 0 })) ∧
      (beyond = true → (s.dac d).overs = 0 →
        exec (.monitorSlot u15 f legP legN) s = .next (s.setDac d { s.dac d with overs := 1 })) ∧
      (beyond = true → (s.dac d).overs ≠ 0 →
        ∃ v, exec (.monitorSlot u15 f legP legN) s = .next v ∧ KMap.agreeBut s.dacs v.dacs [d.val] ∧
          { v with dacs := s.dacs, regs := s.regs, err := s.err, sent := s.sent, msixPend := s.msixPend } = s ∧
          ((s.dac d).prot = .normal → v.dac d = { s.dac d with prot := .off, overs := 0, retryAt := s.now + msec 1 } ∧
            v.rd .DAC_CNT_SHORT_d d = satInc (s.rd .DAC_CNT_SHORT_d d)) ∧
          ((s.dac d).prot = .retry → v.dac d = { s.dac d with prot := .fenced, overs := 0 } ∧
            v.rd .DAC_CNT_FENCE_d d = satInc (s.rd .DAC_CNT_FENCE_d d) ∧
            v.rd .ERR_CNT_LASTING = satInc (s.rd .ERR_CNT_LASTING))))) ∧
    ((s.dac d).prot = .off →
      exec (.dacRetry d) s = .next ((s.reach (s.dac d).retryAt).setDac d { s.dac d with prot := .retry, overs := 0 })) ∧
    ((s.dac d).prot ≠ .off → exec (.dacRetry d) s = .next s) ∧
    ((s.dac d).prot = .retry →
      ∃ v, exec (.dacRetryPassed d) s = .next v ∧ v.dac d = { s.dac d with prot := .normal, overs := 0 } ∧
        KMap.agreeBut s.dacs v.dacs [d.val] ∧ v.rd .ERR_CNT_TRANSIENT = satInc (s.rd .ERR_CNT_TRANSIENT) ∧
        { v with dacs := s.dacs, regs := s.regs, err := s.err } = s) ∧
    ((s.dac d).prot ≠ .retry → exec (.dacRetryPassed d) s = .next s) ∧
    (∀ w : Word, (∀ e : Fin 32, bit w e = true → (s.dac e).prot = .fenced) →
      ∃ v, exec (.dacFenceClr w) s = .next v ∧ { v with dacs := s.dacs } = s ∧
        ∀ e : Fin 32, v.dac e = if bit w e then
          { s.dac e with prot := .normal, overs := 0, mode := .mid, code := 0, hold := none, waiting := (s.dacGroup e).isSome } else s.dac e)

/-- The next step of a driving group's pattern segment gives every running lane of the group that the segment's mask names, whose function
is the pattern and which no event overrides, the bit of its plane; no other pin changes. A step that is absent, by itself or with its sample's
frame, or whose segment is no longer VALID is an underrun; without a step due nothing changes. The lane
that waits for a pair's dead time goes high at its end. A marker's pulse ends. PAT_OVR_CLR ends the overrides that it names, a lane that its
group has given a level keeping the level driven. -/
def Obligations.PatternSteps : Prop :=
  ∀ s : State, s.mgt.rst = false →
    (∀ (g : Fin 8) (seg t0 k : Nat), (s.grp g).pat = some (seg, t0, k) → s.groupDrives g = true → k < dCount (s.segDesc seg) →
      (s.grp g).patLost = false → s.segSt seg = .valid →
      ∃ v, exec (.patternStep g false) s = .next v ∧ v.grp g = { s.grp g with pat := some (seg, t0, k + 1) } ∧
        (∀ n : Fin 64, v.pin n =
          if (dMask (s.segDesc seg)).getLsbD n ∧ s.laneGroup n = g ∧ s.rf .PAT_LANE_n n 0 2 1 = 0 ∧ s.pinRuns n = true ∧ (s.pin n).ovr = none
          then { s.pin n with level := some (s.patBit seg n k) } else s.pin n) ∧
        KMap.agreeBut s.groups v.groups [g.val] ∧
        { v with groups := s.groups, pins := s.pins, pairs := s.pairs } = s.reach (t0 + k * dFine (s.segDesc seg) * 256)) ∧
    (∀ (g : Fin 8) (seg t0 k : Nat) (absent : Bool), (s.grp g).pat = some (seg, t0, k) → s.groupDrives g = true →
      k < dCount (s.segDesc seg) → absent = true ∨ (s.grp g).patLost = true ∨ s.segSt seg ≠ .valid → (s.grp g).episode = none →
      ∃ v, exec (.patternStep g absent) s = .next v ∧ (v.grp g).episode.isSome = true ∧
        v.rd .Gn_CNT_UNDERRUN g = satInc (s.rd .Gn_CNT_UNDERRUN g) ∧ v.pins = s.pins) ∧
    (∀ (g : Fin 8) (absent : Bool),
      (s.grp g).pat = none ∨ s.groupDrives g = false ∨ (∃ seg t0 k, (s.grp g).pat = some (seg, t0, k) ∧ dCount (s.segDesc seg) ≤ k) →
      exec (.patternStep g absent) s = .next s) ∧
    (∀ k : Fin 32,
      (∀ t : Nat, (s.pair k).due = some t →
        exec (.pairMake k) s = .next ((s.reach t).setPair k (if (s.pair k).makeA then { s.pair k with a := true, due := none }
          else { s.pair k with b := true, due := none }))) ∧
      ((s.pair k).due = none → exec (.pairMake k) s = .next s)) ∧
    (∀ m : Fin 16,
      ((s.mrk m).high = true → exec (.markerEnd m) s = .next ((s.reach (s.mrk m).until_).setMrk m ⟨false, 0⟩)) ∧
      ((s.mrk m).high = false → exec (.markerEnd m) s = .next s)) ∧
    (∀ (high : Bool) (w : Word),
      ∃ v, exec (.patOvrClr high w) s = .next v ∧ { v with pins := s.pins, pairs := s.pairs } = s ∧
        ∀ n : Fin 64, v.pin n =
          if decide (32 ≤ n.val) = high ∧ bit w (n.val % 32) = true ∧ (s.pin n).ovr ≠ none
          then { s.pin n with level := if (s.pin n).level.isSome then (s.pin n).ovr else none, ovr := none } else s.pin n)

/-- A mismatch of a driven pin counts and, from NORMAL, takes it to OFF for 1 ms from the time of the mismatch, from RETRY to FENCED with
its fence counter and a lasting fault. After its time OFF becomes RETRY; RETRY that passes becomes NORMAL, with a transient fault;
PAT_FENCE_CLR returns the fenced pins that it names to NORMAL. Outside those states the events have no effect. -/
def Obligations.PinProtection : Prop :=
  ∀ (n : Fin 64) (s : State), s.mgt.rst = false →
    (∀ (t : Nat) (u : State), u = s.reach t →
      ((s.pinLevel n = none ∨ (s.pin n).keeper ≠ none → exec (.pinMismatch n t) s = .next s) ∧
      ((s.pinLevel n).isSome = true → (s.pin n).keeper = none →
        ((s.pin n).prot = .normal →
          ∃ v, exec (.pinMismatch n t) s = .next v ∧ v.rd .PAT_CNT_MISM_n n = satInc (s.rd .PAT_CNT_MISM_n n) ∧
            (v.pin n).prot = .off ∧ (v.pin n).retryAt = u.now + msec 1) ∧
        ((s.pin n).prot = .retry →
          ∃ v, exec (.pinMismatch n t) s = .next v ∧ v.rd .PAT_CNT_MISM_n n = satInc (s.rd .PAT_CNT_MISM_n n) ∧
            (v.pin n).prot = .fenced ∧ v.rd .PAT_CNT_FENCE_n n = satInc (s.rd .PAT_CNT_FENCE_n n) ∧
            v.rd .ERR_CNT_LASTING = satInc (s.rd .ERR_CNT_LASTING))))) ∧
    ((s.pin n).prot = .off →
      ∃ v, exec (.pinRetry n) s = .next v ∧ v.pin n = { s.pin n with prot := .retry } ∧ KMap.agreeBut s.pins v.pins [n.val] ∧
        { v with pins := s.pins, pairs := s.pairs } = s.reach (s.pin n).retryAt) ∧
    ((s.pin n).prot ≠ .off → exec (.pinRetry n) s = .next s) ∧
    ((s.pin n).prot = .retry →
      ∃ v, exec (.pinRetryPassed n) s = .next v ∧ v.pin n = { s.pin n with prot := .normal } ∧ KMap.agreeBut s.pins v.pins [n.val] ∧
        v.rd .ERR_CNT_TRANSIENT = satInc (s.rd .ERR_CNT_TRANSIENT) ∧
        { v with pins := s.pins, pairs := s.pairs, regs := s.regs, err := s.err } = s) ∧
    ((s.pin n).prot ≠ .retry → exec (.pinRetryPassed n) s = .next s) ∧
    (∀ (high : Bool) (w : Word),
      (∀ m : Fin 64, decide (32 ≤ m.val) = high → bit w (m.val % 32) = true → (s.pin m).prot = .fenced) →
      ∃ v, exec (.patFenceClr high w) s = .next v ∧ { v with pins := s.pins, pairs := s.pairs } = s ∧
        ∀ m : Fin 64, v.pin m =
          if decide (32 ≤ m.val) = high ∧ bit w (m.val % 32) = true then { s.pin m with prot := .normal } else s.pin m)

/-! ### Timebase and synthesisers -/

/-- TIME_SET and TIME_SET_CALENDAR whose payload is allowed and which nothing refuses load the time given, or the TAI seconds of the date
given, at once: device time is that time, TIME_VALID is set, TB_CNT_STEP counts and the command is answered OK with the time; with AT_PPS they
wait for a PPS_IN edge. A refused one is answered with its status and changes nothing else, a payload that is not allowed BAD_PARAM, an
impossible date BAD_DATE. TIME_GET answers the tick of device time, the UTC offset and the time's state, and the calendar date where it is asked
and valid; a payload above 1 is BAD_PARAM. A load that sees no PPS_IN edge for 1.5 s is answered TIMEOUT and is not made; a command
that waits for none is left alone. -/
def Obligations.SettingTime : Prop :=
  ∀ (q : Fin 10) (k : Nat) (c : Cmd) (s : State),
    (∀ (command : Instr) (time : Nat),
      (command = .timeSet q k ∧ s.Runs q k 0x0901 c ∧ fld (wAt c.payload 1) 31 16 = 0 ∧
        time = mkTime ((wAt c.payload 0).toNat + 2 ^ 32 * fld (wAt c.payload 1) 15 0) (fld (wAt c.payload 2) 29 0) 0) ∨
      (command = .timeSetCalendar q k ∧ s.Runs q k 0x0902 c ∧ s.rb .TB_CTL 0 0 14 = true ∧ fld (wAt c.payload 1) 31 24 = 0 ∧
        ∃ secs, s.calendarSecs (wAt c.payload 0) (wAt c.payload 1) = some secs ∧
          time = mkTime secs (fld (wAt c.payload 2) 29 0) 0) →
      fld (wAt c.payload 2) 29 0 < 800000000 → fld (wAt c.payload 2) 31 30 = 0 → (wAt c.payload 3).toNat ≤ 1 →
      (∀ st : Nat, s.timeSetRefused = some st → ∃ t, exec command s = .next t ∧ s.RepliedOnly t q k st []) ∧
      (s.timeSetRefused = none → wAt c.payload 3 = 0 →
        ∃ t, exec command s = .next t ∧ s.Replied t q k stOK (timeWords time) ∧ t.now = time ∧ t.tb.timeValid = true ∧
          t.rd .TB_CNT_STEP = satInc (s.rd .TB_CNT_STEP)) ∧
      (s.timeSetRefused = none → wAt c.payload 3 = 1 →
        ∃ t, exec command s = .next t ∧ s.Began t q k c ∧
          t.tb = { s.tb with ppsWait := s.tb.ppsWait ++ [⟨q, k, time⟩] } ∧ { s.sansReply t with tb := s.tb } = s)) ∧
    (s.Runs q k 0x0902 c → s.rb .TB_CTL 0 0 14 = true → fld (wAt c.payload 1) 31 24 = 0 → fld (wAt c.payload 2) 29 0 < 800000000 →
      fld (wAt c.payload 2) 31 30 = 0 → (wAt c.payload 3).toNat ≤ 1 → s.calendarSecs (wAt c.payload 0) (wAt c.payload 1) = none →
      ∃ t, exec (.timeSetCalendar q k) s = .next t ∧ s.RepliedOnly t q k stBadDate []) ∧
    (∀ bad : Prop, bad = (800000000 ≤ fld (wAt c.payload 2) 29 0 ∨ fld (wAt c.payload 2) 31 30 ≠ 0 ∨ 1 < (wAt c.payload 3).toNat) →
      (s.Runs q k 0x0901 c → bad ∨ fld (wAt c.payload 1) 31 16 ≠ 0 →
        ∃ t, exec (.timeSet q k) s = .next t ∧ s.RepliedOnly t q k stBadParam []) ∧
      (s.Runs q k 0x0902 c → bad ∨ fld (wAt c.payload 1) 31 24 ≠ 0 ∨ s.rb .TB_CTL 0 0 14 = false →
        ∃ t, exec (.timeSetCalendar q k) s = .next t ∧ s.RepliedOnly t q k stBadParam [])) ∧
    (∀ w3 : Word, s.Runs q k 0x0903 c →
      (wAt c.payload 0 = 0 →
        w3 = putF (s.rf .TB_UTC_OFS 0 0 15 0) 0 ||| bitW s.utcOfs.2 16 ||| bitW s.tb.timeValid 17 ||| bitW s.tb.holdover 18 |||
          putF (s.rf .TB_CTL 0 0 2 0) 20 →
        ∃ t, exec (.timeGet q k) s = .next t ∧ s.RepliedOnly t q k stOK
          [lo32 (secOf s.now), mkW (secOf s.now / 2 ^ 32), mkW (tickOf s.now), w3]) ∧
      (wAt c.payload 0 = 1 →
        w3 = putF (s.rf .TB_UTC_OFS 0 0 15 0) 0 ||| bitW s.utcOfs.2 16 ||| bitW s.tb.timeValid 17 ||| bitW s.tb.holdover 18 |||
          bitW s.calendarWords.isSome 19 ||| putF (s.rf .TB_CTL 0 0 2 0) 20 →
        ∃ t, exec (.timeGet q k) s = .next t ∧ s.RepliedOnly t q k stOK
          ([lo32 (secOf s.now), mkW (secOf s.now / 2 ^ 32), mkW (tickOf s.now), w3] ++ s.calendarWords.getD [0, 0, 0])) ∧
      (1 < (wAt c.payload 0).toNat → ∃ t, exec (.timeGet q k) s = .next t ∧ s.RepliedOnly t q k stBadParam [])) ∧
    (∀ w : PpsWait, w ∈ s.tb.ppsWait → w.q = q → w.k = k → s.mgt.rst = false → s.fwReady = true → s.Waits q k →
      (s.q q).find k = some c → (∀ i, (∀ j, (s.seg i).job = some j → ¬(j.q = q ∧ j.k = k)) ∧
        (∀ j ∈ (s.seg i).waiting, ¬(j.q = q ∧ j.k = k)) ∧ (q.val, k) ∉ (s.seg i).verifies) →
      ∃ t, exec (.ppsWaitTimeout q k) s = .next t ∧ t.replyOf q k = some ⟨stTimeout, stTimeout, s.ownAddr, []⟩ ∧
        (c.timer = none → t.now = s.now) ∧ (∀ a, c.timer = some a → t.now = (s.reach (a + msec 1500)).now) ∧
        t.tb.timeValid = s.tb.timeValid ∧ w ∉ t.tb.ppsWait) ∧
    ((∀ w ∈ s.tb.ppsWait, w.q ≠ q ∨ w.k ≠ k) → exec (.ppsWaitTimeout q k) s = .next s)

/-- PLL A's lock lets device time count and takes cause 3 of safe state away; the loss of its lock stops device time, clears
TIME_VALID, counts, ends the loads that wait with TIMEOUT, and is cause 3 of safe state. The loss of the reference is holdover, counted; its
return ends holdover. A pending step is applied at the next second boundary while no group is enabled and there is no holdover, and counted.
PPS_OUT rises at the next second boundary and falls PPS_WIDTH ms after it. A PPS_IN edge of the selected polarity is stamped at its tick and
seen while TB runs, in mode 3 it steers and marks an error above 1 ms for a step, and a waiting load takes it. Each event without its cause
has no effect. -/
def Obligations.TimebaseEvents : Prop :=
  ∀ s : State, s.mgt.rst = false →
    (s.running 1 = true → s.tb.lock = false →
      exec .pllALock s = .next { s with tb := { s.tb with lock := true }, err := { s.err with present := s.err.present &&& ~~~(4 : Word) } }) ∧
    (s.running 1 = false ∨ s.tb.lock = true → exec .pllALock s = .next s) ∧
    (s.running 1 = true → s.tb.lock = true →
      ∃ t, exec .pllALockLoss s = .next t ∧ t.tb.lock = false ∧ t.tb.timeValid = false ∧ t.tb.ppsOut = false ∧ t.tb.ppsWait = [] ∧
        t.now = s.now ∧ t.err.safe = true ∧ bit t.err.present 2 = true ∧ t.counting = false ∧
        ((∀ g : Fin 8, s.grpRunning g = false) → t.rd .TB_CNT_LOL = satInc (s.rd .TB_CNT_LOL) ∧
          ∀ w : PpsWait, s.tb.ppsWait = [w] → s.Waits w.q w.k → s.Replied t w.q w.k stTimeout [])) ∧
    (s.running 1 = false ∨ s.tb.lock = false → exec .pllALockLoss s = .next s) ∧
    (s.running 0 = true → s.tb.holdover = false →
      ∃ t, exec .referenceLoss s = .next t ∧ t.tb = { s.tb with holdover := true, refPresent := false } ∧
        t.rd .TB_CNT_REFLOSS = satInc (s.rd .TB_CNT_REFLOSS) ∧
        t.ptp = { s.ptp with lock := s.ptp.lock && decide (s.rf .TB_CTL 0 0 2 0 ≠ 2) } ∧
        { t with tb := s.tb, regs := s.regs, err := s.err, ptp := s.ptp } = s) ∧
    (s.running 0 = false ∨ s.tb.holdover = true → exec .referenceLoss s = .next s) ∧
    (s.tb.holdover = true → exec .holdoverEnd s = .next { s with tb := { s.tb with holdover := false, refPresent := true } }) ∧
    (s.tb.holdover = false → exec .holdoverEnd s = .next s) ∧
    (∀ d : Int, s.tb.stepPending = some d → s.counting = true → (∀ g : Fin 8, s.rb .Gn_CTL g 0 0 = false) → s.tb.holdover = false →
      ∃ t, exec .timeStep s = .next t ∧
        t.now = ((((s.now + grainsPerSec - 1) / grainsPerSec * grainsPerSec : Nat) : Int) + d).toNat ∧
        t.tb.stepPending = none ∧ t.rd .TB_CNT_STEP = satInc (s.rd .TB_CNT_STEP)) ∧
    (s.tb.stepPending = none ∨ s.counting = false ∨ (∃ g : Fin 8, s.rb .Gn_CTL g 0 0 = true) ∨ s.tb.holdover = true →
      exec .timeStep s = .next s) ∧
    (∀ u : State, u = s.reach ((s.now + grainsPerSec - 1) / grainsPerSec * grainsPerSec) → s.ppsOutOn = true → s.tb.ppsOut = false →
      exec (.ppsOut true) s = .next { u with tb := { u.tb with ppsOut := true } }) ∧
    (s.ppsOutOn = false ∨ s.tb.ppsOut = true → exec (.ppsOut true) s = .next s) ∧
    (∀ u : State, u = s.reach (s.now / grainsPerSec * grainsPerSec +
        msec (if s.rf .TB_CTL 0 0 23 16 = 0 then 1 else s.rf .TB_CTL 0 0 23 16)) → s.tb.ppsOut = true →
      exec (.ppsOut false) s = .next { u with tb := { u.tb with ppsOut := false } }) ∧
    (s.tb.ppsOut = false → exec (.ppsOut false) s = .next s) ∧
    (∀ (rise : Bool) (at_ : Nat) (u : State), u = s.reach at_ →
      (s.counting = false ∨ rise = s.rb .TB_CTL 0 0 9 → exec (.ppsInEdge rise at_) s = .next s) ∧
      (s.counting = true → rise ≠ s.rb .TB_CTL 0 0 9 →
        (s.running 0 = false → s.tb.ppsWait = [] → exec (.ppsInEdge rise at_) s = .next u) ∧
        (s.running 0 = true → s.rf .TB_CTL 0 0 2 0 ≠ 3 → s.tb.ppsWait = [] →
          exec (.ppsInEdge rise at_) s = .next { u with tb := { u.tb with ppsIn := at_ / 256 * 256, ppsSeen := true } }) ∧
        (s.running 0 = true → s.rf .TB_CTL 0 0 2 0 = 3 → s.tb.holdover = false → s.tb.ppsWait = [] →
          ∀ (ph : Nat) (err : Int), ph = at_ / 256 * 256 % grainsPerSec →
          err = (if 2 * ph < grainsPerSec then -(ph : Int) else ((grainsPerSec - ph : Nat) : Int)) →
          ∃ t, exec (.ppsInEdge rise at_) s = .next t ∧
            t.tb = { u.tb with
              ppsIn := at_ / 256 * 256, ppsSeen := true, steer := t.tb.steer
              stepPending := if msec 1 < err.natAbs then some err else none } ∧
            -steerBound ≤ t.tb.steer ∧ t.tb.steer ≤ steerBound ∧ { t with tb := u.tb, drawn := u.drawn } = u) ∧
        (∀ w : PpsWait, s.tb.ppsWait = [w] → s.Waits w.q w.k → (∀ g : Fin 8, s.rb .Gn_CTL g 0 0 = false) →
          ∃ t, exec (.ppsInEdge rise at_) s = .next t ∧ t.now = w.time ∧ t.tb.timeValid = true ∧ t.tb.ppsWait = [] ∧
            t.rd .TB_CNT_STEP = satInc (s.rd .TB_CNT_STEP) ∧ s.Replied t w.q w.k stOK (timeWords w.time)))) ∧
    exec .ppsSeenTimeout s = .next { s with tb := { s.tb with ppsSeen := false } }

/-- A write of 1 to PLLx_APPLY that may be applied waits for the first reference edge 8 ticks or more after the next tick; one that may not is
counted, recorded and changes nothing else; a second one while the first waits is ignored with cause 5. At the edge an apply that is still
allowed takes the four shadow registers, and with groups running the synthesiser keeps its lock, with no window compared for 50 µs; one that is
not allowed is counted. A window of a running synthesiser without lock adds to its good windows in a row, of which LOCK_WINS lock it, or ends
them. With lock, one window that is not good is remembered and a second in a row takes the lock and counts, and every group that presents samples on it is
to stop at its next sample, its outputs at mid-scale. EN of a clock output that changes starts it, or sets FMT_ERR where its format does not
allow its frequency or its level; clearing it stops it. -/
def Obligations.Synthesisers : Prop :=
  ∀ (x : Fin 2) (s : State), s.mgt.rst = false →
    (∀ v : Word, bit v 0 = true → (s.pll x).applyAt = none →
      (s.applyOk x = true → exec (.pllApply x v) s = .next (s.setPll x { s.pll x with
        applyAt := some (nextTick s.now + 8 * 256) })) ∧
      (s.applyOk x = false →
        ∃ t, exec (.pllApply x v) s = .next t ∧ t.rd .PLLx_CNT_APPLY_REJ x = satInc (s.rd .PLLx_CNT_APPLY_REJ x) ∧
          { t with regs := s.regs, err := s.err } = s)) ∧
    (∀ v : Word, bit v 0 = true → (s.pll x).applyAt ≠ none →
      ∃ t, exec (.pllApply x v) s = .next t ∧ t.rd .SYS_LAST_IGN = mkW (RegId.off .PLLx_APPLY x 0 + 5 * 2 ^ 20 + 2 ^ 31) ∧
        { t with regs := s.regs, err := s.err } = s) ∧
    (∀ (from_ at_ : Nat) (u : State), (s.pll x).applyAt = some from_ → s.counting = true → at_ = (from_ + 2047) / 2048 * 2048 →
      u = (s.reach at_).setPll x { s.pll x with applyAt := none } →
      (u.applyOk x = true →
        ∃ t, exec (.applyEdge x) s = .next t ∧ (t.pll x).applyAt = none ∧
          t.rd .PLLx_INT x = (s.pll x).shInt &&& 0x7F ∧ t.rd .PLLx_FRAC x = (s.pll x).shFrac ∧
          t.rd .PLLx_POST x = (s.pll x).shPost &&& 0x3F ∧ t.rd .PLLx_MOD x = (s.pll x).shMod ∧
          (s.anyOn x = true → (t.pll x).lock = (s.pll x).lock ∧ (t.pll x).suspend = at_ + usec 50) ∧
          KMap.agreeBut s.plls t.plls [x.val] ∧ { t with regs := u.regs, plls := u.plls } = u) ∧
      (u.applyOk x = false →
        ∃ t, exec (.applyEdge x) s = .next t ∧ t.rd .PLLx_CNT_APPLY_REJ x = satInc (s.rd .PLLx_CNT_APPLY_REJ x) ∧
          t.pll x = { s.pll x with applyAt := none } ∧ { t with regs := u.regs, err := u.err } = u)) ∧
    ((s.pll x).applyAt = none ∨ s.counting = false → exec (.applyEdge x) s = .next s) ∧
    (∀ count n : Nat, n = (if s.goodWindow x count then (s.pll x).wins + 1 else 0) →
      (s.pllRunning x = true → s.tb.lock = true → (s.pll x).lock = false →
        exec (.pllLock x count) s = .next (s.setPll x { s.pll x with
          lock := decide (max 1 (s.rf .PLLx_CTL x 0 15 12) ≤ n), wins := n, bads := 0, fcount := count })) ∧
      (s.pllRunning x = false ∨ s.tb.lock = false ∨ (s.pll x).lock = true → exec (.pllLock x count) s = .next s) ∧
      (s.pllRunning x = false ∨ (s.pll x).lock = false ∨ s.now < (s.pll x).suspend → exec (.pllLockLoss x count) s = .next s) ∧
      (s.pllRunning x = true → (s.pll x).lock = true → (s.pll x).suspend ≤ s.now →
        (s.goodWindow x count = true →
          exec (.pllLockLoss x count) s = .next (s.setPll x { s.pll x with bads := 0, fcount := count })) ∧
        (s.goodWindow x count = false → (s.pll x).bads = 0 →
          exec (.pllLockLoss x count) s = .next (s.setPll x { s.pll x with bads := 1, fcount := count })) ∧
        (s.goodWindow x count = false → (s.pll x).bads ≠ 0 →
          (∀ g : Fin 8, s.grpRunning g = true → s.grpPll g = x → (s.grp g).st.plays = true) →
          ∃ t, exec (.pllLockLoss x count) s = .next t ∧ (t.pll x).lock = false ∧ (t.pll x).fcount = count ∧
            t.rd .PLLx_CNT_LOL x = satInc (s.rd .PLLx_CNT_LOL x) ∧
            (∀ g : Fin 8, t.grp g = if s.grpPll g = x ∧ (s.grp g).st.plays = true then
              { s.grp g with st := .stopping, stops := (s.grp g).stops ++ [{ mode := 2, cmd := none, disable := false, mid := true }] }
              else s.grp g) ∧
            KMap.agreeBut s.plls t.plls [x.val] ∧
            { t with plls := s.plls, regs := s.regs, err := s.err, groups := s.groups, dacs := s.dacs } = s))) ∧
    (∀ (n : Fin 4) (on ok : Bool), s.rb .CKOUT_CTLn n 0 0 ≠ on → ok = s.ckOk n (Config.vioMatches (s.rf .CKOUT_CTLn n 0 3 1)) →
      ∃ t, exec (.ckoutEnable n on) s = .next t ∧ t.rb .CKOUT_CTLn n 0 0 = on ∧ t.rb .CKOUT_STATUS 0 0 n = (on && ok) ∧
        t.rb .CKOUT_STATUS 0 0 (4 + n) = (on && !ok) ∧ { t with regs := s.regs, slackFrom := s.slackFrom } = s ∧
        KMap.agreeBut s.regs t.regs [RegId.off .CKOUT_CTLn n 0, RegId.off .CKOUT_STATUS 0 0, RegId.off .SYS_SLACK 0 0])

/-! ### Ethernet -/

/-- SV_CONFIG of an allowed payload that neither enables an enabled stream nor exceeds its port's load configures its stream, at once or
after the frame in progress, and answers the frame length and the offset of the first ASDU; a payload that is not allowed is answered
BAD_PARAM, a second enable ENABLED, an enable that exceeds the load BAD_PARAM. GOOSE_SUB of an allowed payload stores it: an enabled
subscription waits with its booleans 0, a disabled one is OFF; an enable of an enabled one is answered ENABLED, a payload that is not
allowed BAD_PARAM. PTP_CONFIG of an allowed payload stores it and runs the clock where it is enabled and NET runs; a payload that is not
allowed, or a master role with PTP as the reference, is answered BAD_PARAM, with its lock set LOCKED, with the clock running ENABLED,
and a master role before the time is valid NOT_READY. The link of a port that runs comes up, and goes down, which is counted. A frame on a
port that is up is counted as received, and as an error or as dropped. An enabled stream starts at the next second boundary once NET
runs, time counts and its port is up, and not before. -/
def Obligations.NetworkConfiguration : Prop :=
  (∀ (q : Fin 10) (k st : Nat) (c : Cmd) (s : State), s.Runs q k 0x0701 c → st = fld (wAt c.payload 0) 3 0 →
    (svConfigOk c.payload = false → ∃ t, exec (.svConfig q k) s = .next t ∧ s.RepliedOnly t q k stBadParam []) ∧
    (svConfigOk c.payload = true → bit (wAt c.payload 0) 8 = true → (s.sv st).en = true →
      ∃ t, exec (.svConfig q k) s = .next t ∧ s.RepliedOnly t q k stEnabled []) ∧
    (svConfigOk c.payload = true → bit (wAt c.payload 0) 8 = true → (s.sv st).en = false → s.svLoadOk st c.payload = false →
      ∃ t, exec (.svConfig q k) s = .next t ∧ s.RepliedOnly t q k stBadParam []) ∧
    (svConfigOk c.payload = true → (bit (wAt c.payload 0) 8 = true → (s.sv st).en = false ∧ s.svLoadOk st c.payload = true) →
      ∃ t, exec (.svConfig q k) s = .next t ∧ s.Replied t q k stOK [mkW (svLen c.payload), mkW (33 + svV c.payload)] ∧
        ((s.sv st).run = true → (s.sv st).buf ≠ [] →
          t.sv st = { s.sv st with en := bit (wAt c.payload 0) 8, next := some c.payload }) ∧
        ((s.sv st).run = false ∨ (s.sv st).buf = [] →
          t.sv st = { s.sv st with en := bit (wAt c.payload 0) 8, cfg := c.payload, next := none, run := false, buf := [] }) ∧
        (bit (wAt c.payload 0) 8 = (s.sv st).en → t.regs = s.regs ∧ t.slackFrom = s.slackFrom) ∧
        KMap.agreeBut s.streams t.streams [st] ∧ KMap.agreeBut s.regs t.regs [RegId.off .SYS_SLACK 0 0] ∧
        { s.sansReply t with streams := s.streams, regs := s.regs, slackFrom := s.slackFrom } = s)) ∧
  (∀ (q : Fin 10) (k d : Nat) (c : Cmd) (s : State), s.Runs q k 0x0702 c → d = fld (wAt c.payload 0) 5 0 →
    (gooseSubOk c.payload = false → ∃ t, exec (.gooseSub q k) s = .next t ∧ s.RepliedOnly t q k stBadParam []) ∧
    (gooseSubOk c.payload = true → bit (wAt c.payload 0) 8 = true → (s.gs d).st ≠ 0 →
      ∃ t, exec (.gooseSub q k) s = .next t ∧ s.RepliedOnly t q k stEnabled []) ∧
    (gooseSubOk c.payload = true → (bit (wAt c.payload 0) 8 = true → (s.gs d).st = 0) →
      ∃ t, exec (.gooseSub q k) s = .next t ∧ s.Replied t q k stOK [if bit (wAt c.payload 0) 8 then 1 else 0] ∧
        t.gs d = { s.gs d with
          cfg := c.payload, st := (if bit (wAt c.payload 0) 8 then 1 else 0), confErr := false
          bools := (if bit (wAt c.payload 0) 8 then List.replicate 8 false else (s.gs d).bools) } ∧
        KMap.agreeBut s.subs t.subs [d] ∧ KMap.agreeBut s.regs t.regs [RegId.off .SYS_SLACK 0 0] ∧
        { s.sansReply t with subs := s.subs, regs := s.regs, slackFrom := s.slackFrom } = s)) ∧
  (∀ (q : Fin 10) (k : Nat) (ok : Prop) (c : Cmd) (s : State), s.Runs q k 0x0703 c →
    (ok ↔ extraBits (wAt c.payload 0) 0x7F011113 = false ∧ extraBits (wAt c.payload 1) 0x7FFF = false ∧
      extraBits (wAt c.payload 3) 0x03FFFFFF = false ∧ 1 ≤ (wAt c.payload 5).toNat ∧ (wAt c.payload 5).toNat ≤ 1000000 ∧
      (bit (wAt c.payload 0) 8 = true → s.rf .TB_CTL 0 0 2 0 ≠ 2)) →
    (¬ ok → ∃ t, exec (.ptpConfig q k) s = .next t ∧ s.RepliedOnly t q k stBadParam []) ∧
    (ok → s.rb .SYS_LOCK 0 0 7 = true → ∃ t, exec (.ptpConfig q k) s = .next t ∧ s.RepliedOnly t q k stLocked []) ∧
    (ok → s.rb .SYS_LOCK 0 0 7 = false → s.ptp.run = true →
      ∃ t, exec (.ptpConfig q k) s = .next t ∧ s.RepliedOnly t q k stEnabled []) ∧
    (ok → s.rb .SYS_LOCK 0 0 7 = false → s.ptp.run = false → bit (wAt c.payload 0) 8 = true → s.tb.timeValid = false →
      ∃ t, exec (.ptpConfig q k) s = .next t ∧ s.RepliedOnly t q k stNotReady []) ∧
    (ok → s.rb .SYS_LOCK 0 0 7 = false → s.ptp.run = false → (bit (wAt c.payload 0) 8 = true → s.tb.timeValid = true) →
      ∃ t, exec (.ptpConfig q k) s = .next t ∧ s.Replied t q k stOK [] ∧ t.ptp.cfg = c.payload ∧
        t.ptp.run = (bit (wAt c.payload 0) 4 && s.netOn) ∧ t.ptp.lock = s.ptp.lock ∧ { s.sansReply t with ptp := s.ptp } = s)) ∧
  (∀ (p : Fin 4) (s : State), s.mgt.rst = false →
    ((s.netp p).run = true → (s.netp p).link = false →
      ∃ t, exec (.ethLinkUp p) s = .next t ∧ (t.netp p).link = true ∧ (t.netp p).run = true ∧
        (t.netp p).anDone = (s.rb .NET_Pp_CTL p 0 1 && s.rb .NET_Pp_CTL p 0 2) ∧ KMap.agreeBut s.netPorts t.netPorts [p.val] ∧
        (s.ptpOn p = false → t.ptp = s.ptp) ∧ { t with netPorts := s.netPorts, ptp := s.ptp } = s) ∧
    ((s.netp p).run = false ∨ (s.netp p).link = true → exec (.ethLinkUp p) s = .next s) ∧
    ((s.netp p).link = true →
      ∃ t, exec (.ethLinkDown p) s = .next t ∧ t.netp p = { s.netp p with link := false, anDone := false } ∧
        t.rd .NET_Pp_CNT_LINKDOWN p = satInc (s.rd .NET_Pp_CNT_LINKDOWN p) ∧ KMap.agreeBut s.netPorts t.netPorts [p.val] ∧
        KMap.agreeBut s.regs t.regs [RegId.off .NET_Pp_CNT_LINKDOWN p 0] ∧ (s.ptpOn p = false → t.ptp = s.ptp) ∧
        { t with netPorts := s.netPorts, ptp := s.ptp, regs := s.regs, sent := s.sent, msixPend := s.msixPend } = s) ∧
    ((s.netp p).link = false → exec (.ethLinkDown p) s = .next s) ∧
    (∀ err : Bool, (s.netUp p = false → exec (.frameDiscard p err) s = .next s) ∧
      (s.netUp p = true → ∃ t, exec (.frameDiscard p err) s = .next t ∧ { t with regs := s.regs } = s ∧
        t.rd .NET_Pp_CNT_RX p = satInc (s.rd .NET_Pp_CNT_RX p) ∧
        t.rd .NET_Pp_CNT_RX_ERR p = (if err then satInc (s.rd .NET_Pp_CNT_RX_ERR p) else s.rd .NET_Pp_CNT_RX_ERR p) ∧
        t.rd .NET_Pp_CNT_RX_DROP p = (if err then s.rd .NET_Pp_CNT_RX_DROP p else satInc (s.rd .NET_Pp_CNT_RX_DROP p)) ∧
        KMap.agreeBut s.regs t.regs [RegId.off .NET_Pp_CNT_RX p 0, RegId.off .NET_Pp_CNT_RX_ERR p 0, RegId.off .NET_Pp_CNT_RX_DROP p 0]))) ∧
  (∀ (st : Fin 16) (b : Nat) (ready : Prop) (s : State), s.mgt.rst = false → b = (s.now + grainsPerSec - 1) / grainsPerSec →
    (ready ↔ (s.sv st).en = true ∧ (s.sv st).run = false ∧ s.netOn = true ∧ s.netUp (svPort (s.sv st).cfg) = true ∧
      s.counting = true) →
    (ready → exec (.svStreamStart st) s = .next ((s.reach (b * grainsPerSec)).setSv st
      { s.sv st with run := true, inst := b * (s.sv st).rate, buf := [], last := [] })) ∧
    (¬ ready → exec (.svStreamStart st) s = .next s))

/-- A running stream whose instants have all reached the encoder presents their frame to its port, counted by the port and the stream; with the
port down the frame is dropped and counted. A quantity that has not reached the encoder is sent with the value of the instant before; it
counts, and is an underrun of the group of its source. A GOOSE frame that no subscription matches is dropped. One that a subscription matches
is counted and rejected where it does not parse, is simulated, needs commissioning, has another confRev where that is checked, or lacks a
boolean; the first that a waiting subscription accepts makes it VALID with the frame's numbers, booleans and time to live, without an
event; one that only repeats the state renews the time to live; one with the next state is accepted, with an event for each boolean
that it changes. The end of the time to live makes a VALID subscription EXPIRED, with an event. A slave with a master takes the offset
of a Sync, counts it, and locks on the third in a row within the threshold; where PTP is the reference of a running timebase the offset
also corrects device time. An Announce of the chosen master names it, with the UTC offset where PTP is the reference; a master-only
clock counts it as foreign. A peer-delay request is answered, a response gives the mean delay. Each interval a request goes out, from a
master Sync and Announce too. Without Announce the slave has no master; 3 s after a foreign one FOREIGN clears. -/
def Obligations.NetworkTraffic : Prop :=
  (∀ (st : Fin 16) (time n port : Nat) (missing miss : List (Nat × Nat)) (s u w : State) (is out : List SvInst), s.mgt.rst = false →
    ((s.sv st).run = false → exec (.svFrame st missing) s = .next s) ∧
    ((s.sv st).run = true → n = (s.sv st).noasdu → time = instTime (s.sv st).rate ((s.sv st).inst - (s.sv st).buf.length + n - 1) →
    u = (s.svTo st (time + 1) n).reach time → is = (u.sv st).buf.take n →
    (is.length = n → port = svPort (s.sv st).cfg → miss = missing.filter (fun m => m.1 < n) →
    out = u.svFill st miss 0 (u.sv st).last is →
    w = (u.setSv st { u.sv st with
      buf := (u.sv st).buf.drop n, last := ((out.getLast?).map fun i => i.q.map fun v => v.1).getD [] }).svUnderruns st miss →
    (s.netUp port = true →
      ∃ t, exec (.svFrame st missing) s = .next t ∧ t.now = w.now ∧
        t.sent = Sent.eth port (svFrameBytes (s.sv st).cfg (s.netMac port) out ((out.getLast?.map fun i => i.synch).getD 0)) :: w.sent ∧
        t.rd .NET_Pp_CNT_TX port = satInc (w.rd .NET_Pp_CNT_TX port) ∧
        t.rd .NET_SV_CNT_FRAMES_s st = satInc (w.rd .NET_SV_CNT_FRAMES_s st) ∧
        t.rd .NET_SV_CNT_UNDERRUN_s st = w.rd .NET_SV_CNT_UNDERRUN_s st ∧ KMap.agreeBut w.streams t.streams [st.val] ∧
        { t with regs := w.regs, streams := w.streams, sent := w.sent } = w) ∧
    (s.netUp port = false →
      ∃ t, exec (.svFrame st missing) s = .next t ∧ t.now = w.now ∧
        t.rd .NET_SV_CNT_DROP_s st = satInc (w.rd .NET_SV_CNT_DROP_s st) ∧
        t.rd .NET_SV_CNT_UNDERRUN_s st = w.rd .NET_SV_CNT_UNDERRUN_s st ∧ KMap.agreeBut w.streams t.streams [st.val] ∧
        { t with regs := w.regs, streams := w.streams } = w) ∧
    (miss = [] → w.regs = u.regs ∧ w.groups = u.groups) ∧
    (∀ (i j c : Nat) (g : Fin 8), miss = [(i, j)] → u.svSource st j = some c → g = u.rf .CHn_CTL c 0 6 4 → (u.grp g).fb = false →
      (u.grp g).episode = none →
      w.rd .NET_SV_CNT_UNDERRUN_s st = satInc (u.rd .NET_SV_CNT_UNDERRUN_s st) ∧ (w.grp g).episode.isSome = true ∧
        w.rd .Gn_CNT_UNDERRUN g = satInc (u.rd .Gn_CNT_UNDERRUN g) ∧ KMap.agreeBut u.groups w.groups [g.val])))) ∧
  (∀ (d : Fin 64) (f : GooseFrame) (time : Nat) (s u : State), s.mgt.rst = false → u = s.reach time →
    (s.netUp f.port = false → exec (.gooseFrame f time) s = .next s) ∧
    (s.netUp f.port = true → (s.netOn = false ∨ ∀ e : Fin 64, (s.gs e).matches f = false) →
      ∃ t, exec (.gooseFrame f time) s = .next t ∧ { t with regs := u.regs } = u ∧
        t.rd .NET_Pp_CNT_RX f.port = satInc (s.rd .NET_Pp_CNT_RX f.port) ∧
        t.rd .NET_Pp_CNT_RX_DROP f.port = satInc (s.rd .NET_Pp_CNT_RX_DROP f.port)) ∧
    (s.netUp f.port = true → s.netOn = true → (∀ e : Fin 64, (s.gs e).matches f = decide (e = d)) →
      ∀ wrong passes : Prop, (wrong ↔ bit (wAt (s.gs d).cfg 0) 16 = true ∧ f.confRev ≠ (wAt (s.gs d).cfg 4).toNat) →
      (passes ↔ f.parses = true ∧ (f.sim = true → bit (wAt (s.gs d).cfg 0) 17 = true) ∧ ¬ wrong ∧ f.ndsCom = false) →
      (¬ passes ∨ gooseBools f (s.gs d).cfg = none →
        ∃ t, exec (.gooseFrame f time) s = .next t ∧ { t with regs := u.regs, subs := u.subs } = u ∧
          t.rd .NET_GS_CNT_REJECT_d d = satInc (s.rd .NET_GS_CNT_REJECT_d d) ∧ KMap.agreeBut s.subs t.subs [d.val] ∧
          { t.gs d with confErr := (s.gs d).confErr } = s.gs d ∧
          (f.parses = true → bit (wAt (s.gs d).cfg 0) 16 = true → ((t.gs d).confErr = true ↔ wrong))) ∧
      (∀ bs : List Bool, passes → gooseBools f (s.gs d).cfg = some bs → ∀ y : GooseSub,
        y = { s.gs d with
          confErr := (if bit (wAt (s.gs d).cfg 0) 16 then false else (s.gs d).confErr)
          st := 2, stNum := f.stNum, sqNum := f.sqNum, expires := time + gooseLive f
          bools := bs ++ List.replicate (8 - bs.length) false } →
        ((s.gs d).st = 1 →
          ∃ t, exec (.gooseFrame f time) s = .next t ∧ { t with regs := u.regs, subs := u.subs } = u ∧ t.gs d = y ∧
            t.rd .NET_GS_CNT_ACCEPT_d d = satInc (s.rd .NET_GS_CNT_ACCEPT_d d) ∧ KMap.agreeBut s.subs t.subs [d.val]) ∧
        ((s.gs d).st = 2 → f.stNum = (s.gs d).stNum → f.stNum < 2 ^ 32 → (s.gs d).sqNum < f.sqNum →
          f.sqNum < (s.gs d).sqNum + 2 ^ 31 → f.sqNum < 2 ^ 32 →
          ∃ t, exec (.gooseFrame f time) s = .next t ∧ { t with regs := u.regs, subs := u.subs } = u ∧
            t.gs d = { s.gs d with confErr := y.confErr, expires := y.expires } ∧ KMap.agreeBut s.subs t.subs [d.val] ∧
            (t.rd .NET_GS_CNT_INCONS_d d = if (List.range bs.length).any (fun b => bs.getD b false ≠ (s.gs d).bools.getD b false) then
              satInc (s.rd .NET_GS_CNT_INCONS_d d) else s.rd .NET_GS_CNT_INCONS_d d)) ∧
        ((s.gs d).st = 3 ∨ (s.gs d).st = 2 ∧ (s.gs d).stNum + 1 = f.stNum ∧ f.stNum < 2 ^ 32 →
          ∃ t, exec (.gooseFrame f time) s = .next t ∧ t.gs d = y ∧ KMap.agreeBut s.subs t.subs [d.val] ∧
            t.rd .NET_GS_CNT_ACCEPT_d d = satInc (s.rd .NET_GS_CNT_ACCEPT_d d) ∧ t.now = u.now ∧
            (s.evtOn = true → t.ev.nextId = s.ev.nextId +
              ((List.range bs.length).filter fun b => bs.getD b false ≠ (s.gs d).bools.getD b false).length)))) ∧
    ((s.gs d).st = 2 →
      ∃ t, exec (.timeAllowedToLiveExpiry d) s = .next t ∧ t.gs d = { s.gs d with st := 3 } ∧ KMap.agreeBut s.subs t.subs [d.val] ∧
        t.rd .NET_GS_CNT_EXPIRE_d d = satInc (s.rd .NET_GS_CNT_EXPIRE_d d) ∧ t.now = (s.reach (s.gs d).expires).now ∧
        (s.evtOn = true → t.ev.nextId = s.ev.nextId + 1)) ∧
    ((s.gs d).st ≠ 2 → exec (.timeAllowedToLiveExpiry d) s = .next s)) ∧
  (∀ s : State, s.mgt.rst = false →
    (∀ off : Int,
      (s.ptpTakes = false ∨ s.ptp.master? = true → exec (.ptpSync off) s = .next s) ∧
      (s.ptpTakes = true → s.ptp.master? = false → s.ptp.master.isSome = false →
        ∃ t, exec (.ptpSync off) s = .next t ∧ t.rd .NET_Pp_CNT_RX s.ptp.port = satInc (s.rd .NET_Pp_CNT_RX s.ptp.port) ∧
          { t with regs := s.regs } = s) ∧
      (s.ptpTakes = true → s.ptp.master? = false → s.ptp.master.isSome = true →
        ∃ t, exec (.ptpSync off) s = .next t ∧ t.rd .NET_PTP_OFFSET = offsetNs off ∧ t.ptp.st = 9 ∧ t.ptp.lastSync = s.now ∧
          t.rd .NET_PTP_CNT_SYNC = satInc (s.rd .NET_PTP_CNT_SYNC) ∧
          t.rd .NET_Pp_CNT_RX s.ptp.port = satInc (s.rd .NET_Pp_CNT_RX s.ptp.port) ∧
          (off.natAbs ≤ nsec (wAt s.ptp.cfg 5).toNat → t.ptp.good = s.ptp.good + 1 ∧ t.ptp.bad = 0 ∧
            t.ptp.lock = (s.ptp.lock || decide (2 ≤ s.ptp.good))) ∧
          (nsec (wAt s.ptp.cfg 5).toNat < off.natAbs → t.ptp.good = 0 ∧ t.ptp.bad = s.ptp.bad + 1 ∧
            t.ptp.lock = (s.ptp.lock && decide (s.ptp.bad < 2))) ∧
          (s.rf .TB_CTL 0 0 2 0 ≠ 2 ∨ s.running 0 = false → t.tb = s.tb ∧ t.drawn = s.drawn) ∧
          (s.rf .TB_CTL 0 0 2 0 = 2 → s.running 0 = true →
            t.tb.timeValid = (s.tb.timeValid || (decide (off.natAbs < msec 1) && s.counting)) ∧
            (s.tb.holdover = false → t.drawn = s.drawn + 1 ∧
              t.tb.stepPending = (if msec 1 < off.natAbs then some (-off) else none) ∧
              t.tb.steer = clampI (-steerBound) steerBound (Config.steering s.drawn (-off))) ∧
            { t.tb with timeValid := s.tb.timeValid, stepPending := s.tb.stepPending, steer := s.tb.steer } = s.tb) ∧
          { t with regs := s.regs, ptp := s.ptp, tb := s.tb, drawn := s.drawn } = s)) ∧
    (∀ a : Announce,
      (s.ptpTakes = false → exec (.ptpAnnounce a) s = .next s) ∧
      (s.ptpTakes = true → s.ptp.master? = true →
        ∃ t, exec (.ptpAnnounce a) s = .next t ∧ t.ptp = { s.ptp with foreign := true, foreignAt := s.now } ∧
          t.rd .NET_PTP_CNT_FOREIGN = satInc (s.rd .NET_PTP_CNT_FOREIGN) ∧ { t with regs := s.regs, ptp := s.ptp } = s) ∧
      (s.ptpTakes = true → s.ptp.master? = false → a.chosen = true →
        ∃ t, exec (.ptpAnnounce a) s = .next t ∧ t.ptp.master = some a.gm ∧ t.ptp.utcValid = a.utcValid ∧ t.ptp.lastAnnounce = s.now ∧
          t.rd64 .NET_PTP_GMID_LO .NET_PTP_GMID_HI 0 = a.gm ∧
          (t.rd .TB_UTC_OFS = if s.rf .TB_CTL 0 0 2 0 = 2 then mkW (a.utc % 2 ^ 16 + if a.utcValid then 2 ^ 16 else 0)
            else s.rd .TB_UTC_OFS) ∧ { t with regs := s.regs, ptp := s.ptp } = s) ∧
      (s.ptpTakes = true → s.ptp.master? = false → a.chosen = false →
        ∃ t, exec (.ptpAnnounce a) s = .next t ∧ t.rd .NET_Pp_CNT_RX s.ptp.port = satInc (s.rd .NET_Pp_CNT_RX s.ptp.port) ∧
          { t with regs := s.regs } = s)) ∧
    (s.ptpTakes = false → exec .ptpInterval s = .next s ∧ ∀ resp : Option Nat, exec (.ptpPdelay resp) s = .next s) ∧
    (s.ptpTakes = true →
      (∀ ns : Nat, ∃ t, exec (.ptpPdelay (some ns)) s = .next t ∧ t.rd .NET_PTP_MPD = mkW ns ∧
        t.ptp = { s.ptp with pdelayWait := false } ∧ { t with regs := s.regs, ptp := s.ptp } = s) ∧
      (∃ t, exec (.ptpPdelay none) s = .next t ∧
        t.sent = (if s.ptp.oneStep then [] else [Sent.ptp s.ptp.port 5 s.ptp.seqPd]) ++ Sent.ptp s.ptp.port 4 s.ptp.seqPd :: s.sent ∧
        { t with regs := s.regs, sent := s.sent } = s) ∧
      (∃ t, exec .ptpInterval s = .next t ∧ Sent.ptp s.ptp.port 3 s.ptp.seqPd ∈ t.sent ∧ t.ptp.pdelayWait = true ∧
        t.ptp.seqPd = (s.ptp.seqPd + 1) % 2 ^ 16 ∧
        (t.rd .NET_PTP_CNT_PDELAY_TO = if s.ptp.pdelayWait then satInc (s.rd .NET_PTP_CNT_PDELAY_TO) else s.rd .NET_PTP_CNT_PDELAY_TO) ∧
        (s.ptp.master? = false → t.sent = Sent.ptp s.ptp.port 3 s.ptp.seqPd :: s.sent ∧ t.ptp.seqSync = s.ptp.seqSync ∧
          t.ptp.seqAnn = s.ptp.seqAnn) ∧
        (s.ptp.master? = true → Sent.ptp s.ptp.port 0 s.ptp.seqSync ∈ t.sent ∧
          (s.ptp.oneStep = false → Sent.ptp s.ptp.port 1 s.ptp.seqSync ∈ t.sent) ∧
          Sent.announce s.ptp.port s.ptp.seqAnn (s.rd .TB_UTC_OFS) ∈ t.sent ∧
          t.ptp.seqSync = (s.ptp.seqSync + 1) % 2 ^ 16 ∧ t.ptp.seqAnn = (s.ptp.seqAnn + 1) % 2 ^ 16) ∧
        { t with regs := s.regs, sent := s.sent, ptp := s.ptp } = s)) ∧
    (s.ptp.run = true → s.ptp.master.isSome = true →
      exec .announceReceiptTimeout s = .next { s with ptp := { s.ptp with
        master := none, utcValid := false, st := (if s.ptp.st = 3 then 3 else 4) } }) ∧
    (s.ptp.run = false ∨ s.ptp.master = none → exec .announceReceiptTimeout s = .next s) ∧
    (s.ptp.foreign = true → ∀ u : State, u = s.reach (s.ptp.foreignAt + msec 3000) →
      ∃ t, exec .foreignTimeout s = .next t ∧ t.ptp = { s.ptp with foreign := false } ∧ { t with ptp := u.ptp } = u) ∧
    (s.ptp.foreign = false → exec .foreignTimeout s = .next s))

/-! ### The Gunter chain -/

/-- An enabled port in DOWN that sees a signal trains; flit lock takes TRAIN to INIT with sequence numbers and credits as after reset and
sends INIT, in RETRAIN it sends INIT alone; an INIT of the opposite kind of port takes INIT to UP with its sender as partner, one of the same kind
sets PEER_ERR; in RETRAIN the INIT of the same link instance takes the link to UP with its unacknowledged flits as new, that of another
to DOWN. Loss of block lock takes UP to RETRAIN, counted, and INIT to TRAIN; the timeout of RETRAIN takes the link to DOWN. A port
without flit lock takes no flit. A flit whose CRC fails, or whose type is unknown, is counted and not taken. DATA in order is taken: the last
fragment of a message completes it, another is kept, an event record waits for its time or is late, other records wait; out of order
it is answered with one NAK. NAK and the replay timeout send every unacknowledged flit again, a third time takes the link to RETRAIN. A NULL
flit gives its acknowledgement and its credits. -/
def Obligations.ChainLinks : Prop :=
  ∀ (p : Fin 3) (s : State), s.mgt.rst = false →
    (∀ ready : Prop, (ready ↔ s.chnOn = true ∧ s.rb .CHN_Pp_CTL p 0 0 = true ∧ (s.port p).st = 0 ∧ s.portBarred p = false) →
      (ready → exec (.signalPresent p) s = .next (s.setPort p { s.port p with st := 1 })) ∧
      (¬ ready → exec (.signalPresent p) s = .next s)) ∧
    (∀ body : List Byte, body = leBytes 2 (if s.chn.enumerated then s.ownAddr + 0x8000 else 0) ++ leBytes 1 p ++ [0] ++
        leBytes 4 s.chn.linkInst →
      ((s.port p).st = 1 →
        exec (.flitLock p) s = .next { s.setPort p { st := 2 : ChnPort } with
          sent := .flit p (flitBytes tyInit 0 0 0 0 body) :: s.sent }) ∧
      ((s.port p).st = 4 →
        ∃ t ack credit, exec (.flitLock p) s = .next t ∧ t.sent = .flit p (flitBytes tyInit 0 0 ack credit body) :: s.sent ∧
          (t.port p).st = 4 ∧ (t.port p).replay = (s.port p).replay ∧ { t with sent := s.sent, ports := s.ports } = s) ∧
      ((s.port p).st ≠ 1 → (s.port p).st ≠ 4 → exec (.flitLock p) s = .next s)) ∧
    ((s.port p).st = 3 →
      ∃ t, exec (.lossOfBlockLock p) s = .next t ∧ t.port p = { s.port p with st := 4 } ∧
        t.rd .CHN_Pp_CNT_RETRAIN p = satInc (s.rd .CHN_Pp_CNT_RETRAIN p) ∧ KMap.agreeBut s.ports t.ports [p.val] ∧
        { t with ports := s.ports, regs := s.regs, err := s.err } = s) ∧
    ((s.port p).st = 2 → exec (.lossOfBlockLock p) s = .next (s.setPort p { s.port p with st := 1 })) ∧
    ((s.port p).st ≠ 2 → (s.port p).st ≠ 3 → exec (.lossOfBlockLock p) s = .next s) ∧
    ((s.port p).st = 4 →
      ∃ t, exec (.retrainTimeout p) s = .next t ∧ t.port p = {} ∧ t.rd .CHN_Pp_CNT_DOWN p = satInc (s.rd .CHN_Pp_CNT_DOWN p) ∧
        (p = 0 → t.chn.enumerated = false ∧ t.chn.route = [])) ∧
    ((s.port p).st ≠ 4 → exec (.retrainTimeout p) s = .next s) ∧
    (∀ (f : List Byte) (e : Nat × Instr), e ∈ [(tyInit, Instr.initFlit p f), (tyData, .data p f), (tyNak, .nak p f), (tyNull, .nullFlit p f)] →
      (s.portLocked p = false → exec e.2 s = .next s) ∧
      (s.portLocked p = true → flitOk f = true → tyKnown (leAt f 0 1) = false →
        exec e.2 s = .next (s.wr .CHN_Pp_CNT_CRC p 0 (satInc (s.rd .CHN_Pp_CNT_CRC p)))) ∧
      (s.portLocked p = true → flitOk f = false → (s.port p).st ≠ 3 ∨ (s.port p).nakSent = true →
        exec e.2 s = .next (s.wr .CHN_Pp_CNT_CRC p 0 (satInc (s.rd .CHN_Pp_CNT_CRC p)))) ∧
      (s.portLocked p = true → flitOk f = false → (s.port p).st = 3 → (s.port p).nakSent = false →
        ∃ t ack credit, exec e.2 s = .next t ∧ t.rd .CHN_Pp_CNT_CRC p = satInc (s.rd .CHN_Pp_CNT_CRC p) ∧ (t.port p).nakSent = true ∧
          (t.port p).rxNext = (s.port p).rxNext ∧ (t.port p).replay = (s.port p).replay ∧
          t.sent = .flit p (flitBytes tyNak 0 0 ack credit (leBytes 2 ((s.port p).rxNext % 4096))) :: s.sent ∧
          { t with regs := s.regs, ports := s.ports, sent := s.sent } = s)) ∧
    (∀ f : List Byte, flitOk f = true → s.chnOn = true → leAt f 0 1 = tyInit →
      ((s.port p).st = 2 →
        ((leAt f 10 1 = 0 ↔ p ≠ 0) →
          ∃ t, exec (.initFlit p f) s = .next t ∧ (t.port p).st = 3 ∧ (t.port p).peerErr = false ∧
            (p = 0 ∨ (initPartner f).2.1 = true ∨ s.chn.enumerated = false → (t.port p).partner = some (initPartner f))) ∧
        (¬(leAt f 10 1 = 0 ↔ p ≠ 0) →
          ∃ t, exec (.initFlit p f) s = .next t ∧ (t.port p).st = 2 ∧ (t.port p).peerErr = true)) ∧
      ((s.port p).st = 4 → (leAt f 10 1 = 0 ↔ p ≠ 0) →
        ((s.port p).partner.map (fun y => y.2.2) = some (leAt f 12 4) → (s.port p).waiting = 0 →
          ∃ t, exec (.initFlit p f) s = .next t ∧ (t.port p).st = 3 ∧ (t.port p).partner = some (initPartner f) ∧
            (t.port p).replay = ((s.ackCredit p f).port p).replay.map (fun z => { z with tries := 0 }) ∧
            ∀ z ∈ ((s.ackCredit p f).port p).replay, ∃ ack credit, Sent.flit p (flitBytes tyData z.vcf z.seq ack credit z.body) ∈ t.sent) ∧
        ((s.port p).partner.map (fun y => y.2.2) ≠ some (leAt f 12 4) →
          ∃ t, exec (.initFlit p f) s = .next t ∧ t.port p = {} ∧
            t.rd .CHN_Pp_CNT_DOWN p = satInc (s.rd .CHN_Pp_CNT_DOWN p)))) ∧
    (∀ (f body : List Byte) (vc : Nat) (u : State), flitOk f = true → s.chnOn = true → leAt f 0 1 = tyData → (s.port p).st = 3 →
      body = (f.drop 8).take 52 → vc = leAt f 1 1 % 4 → u = s.ackCredit p f →
      (leAt f 2 2 % 4096 ≠ (s.port p).rxNext % 4096 →
        ((s.port p).nakSent = true → exec (.data p f) s = .next u) ∧
        ((s.port p).nakSent = false →
          ∃ t ack credit, exec (.data p f) s = .next t ∧ (t.port p).nakSent = true ∧ (t.port p).rxNext = (s.port p).rxNext ∧
            t.sent = .flit p (flitBytes tyNak 0 0 ack credit (leBytes 2 ((s.port p).rxNext % 4096))) :: u.sent ∧
            { t with ports := u.ports, sent := u.sent } = u)) ∧
      (leAt f 2 2 % 4096 = (s.port p).rxNext % 4096 →
        (∀ (old : Option Msg) (h : Msg), vc ≤ 1 → old = (if vc = 0 then (s.port p).asm0 else (s.port p).asm1) →
          (leAt body 4 2 / 0x4000 % 2 = 1 ∧ h = fragHdr body p vc ∨
            leAt body 4 2 / 0x4000 % 2 = 0 ∧ ∃ y, old = some y ∧ h = { y with content := y.content ++ (fragHdr body p vc).content }) →
          (leAt body 4 2 / 0x8000 = 1 → (h.internal = true → h.crcOk = true ∧ 1 ≤ h.mtype ∧ h.mtype ≤ 14) →
            ∃ t, exec (.data p f) s = .next t ∧ t.chn.inbox = s.chn.inbox ++ [h] ∧ (t.port p).rxNext = (s.port p).rxNext + 1 ∧
              { t with ports := u.ports, chn := u.chn } = u) ∧
          (leAt body 4 2 / 0x8000 = 1 → h.internal = true → h.crcOk = false → h.port = p →
            ∃ t, exec (.data p f) s = .next t ∧ t.rd .CHN_Pp_CNT_CRC p = satInc (u.rd .CHN_Pp_CNT_CRC p) ∧
              (t.port p).rxNext = (s.port p).rxNext + 1 ∧ { t with ports := u.ports, regs := u.regs } = u) ∧
          (leAt body 4 2 / 0x8000 = 0 →
            ∃ t, exec (.data p f) s = .next t ∧ (if vc = 0 then (t.port p).asm0 else (t.port p).asm1) = some h ∧
              (t.port p).rxNext = (s.port p).rxNext + 1 ∧ { t with ports := u.ports } = u)) ∧
        (∀ time : Nat, vc = 2 → leAt body 0 1 = 1 → time = ofTimeField ((body.drop 4).take 12) →
          (u.now / 256 * 256 + 40 * 256 ≤ time + usec 3 →
            ∃ t, exec (.eventRecord p f) s = .next t ∧ (t.port p).rxNext = (s.port p).rxNext + 1 ∧
              t.ev = { u.ev with chain := s.ev.chain ++ [⟨leAt body 1 1, time, leAt body 2 2 % 0x4000⟩] } ∧
              { t with ports := u.ports, ev := u.ev, sent := u.sent } = u) ∧
          (time + usec 3 < u.now / 256 * 256 + 40 * 256 →
            ∃ t, exec (.eventRecord p f) s = .next t ∧ (t.port p).rxNext = (s.port p).rxNext + 1 ∧
              t.rd .EVT_CNT_CHAIN_LATE = satInc (u.rd .EVT_CNT_CHAIN_LATE) ∧ t.ev.chain = s.ev.chain)) ∧
        (vc = 2 → (leAt body 0 1 = 2 ∨ leAt body 0 1 = 3) →
          ∃ t, exec (.data p f) s = .next t ∧ t.chn.inbox = s.chn.inbox ++ [⟨p, 2, false, false, 0, 0, leAt body 0 1, body⟩] ∧
            (t.port p).rxNext = (s.port p).rxNext + 1 ∧ { t with ports := u.ports, chn := u.chn } = u))) ∧
    (∀ f : List Byte, leAt f 0 1 ≠ tyData ∨ leAt f 1 1 % 4 ≠ 2 ∨ leAt f 8 1 ≠ 1 → exec (.eventRecord p f) s = .next s) ∧
    (∀ (u : State) (command : Instr),
      ((command = .replayTimeout p ∧ u = s) ∨
        ∃ f, command = .nak p f ∧ flitOk f = true ∧ leAt f 0 1 = tyNak ∧ s.portLocked p = true ∧ u = s.ackCredit p f) →
      ((s.port p).st ≠ 3 ∨ (u.port p).replay = [] → exec command s = .next u) ∧
      ((s.port p).st = 3 → (u.port p).replay ≠ [] → (∀ z ∈ (u.port p).replay, z.tries < 2) →
        ∃ t, exec command s = .next t ∧ (t.port p).replay = (u.port p).replay.map (fun z => { z with tries := z.tries + 1 }) ∧
          t.rd .CHN_Pp_CNT_REPLAY p = satInc (u.rd .CHN_Pp_CNT_REPLAY p) ∧ { t with ports := u.ports, regs := u.regs, sent := u.sent } = u ∧
          ∀ z ∈ (u.port p).replay, ∃ ack credit, Sent.flit p (flitBytes tyData z.vcf z.seq ack credit z.body) ∈ t.sent) ∧
      ((s.port p).st = 3 → (∃ z ∈ (u.port p).replay, 2 ≤ z.tries) →
        ∃ t, exec command s = .next t ∧ t.port p = { u.port p with st := 4 } ∧
          t.rd .CHN_Pp_CNT_RETRAIN p = satInc (u.rd .CHN_Pp_CNT_RETRAIN p))) ∧
    (∀ f : List Byte, flitOk f = true → leAt f 0 1 = tyNull → s.portLocked p = true →
      exec (.nullFlit p f) s = .next (s.ackCredit p f) ∧
      ((s.port p).waiting = 0 →
        ∃ t, exec (.nullFlit p f) s = .next t ∧ t.port p = { s.port p with
          replay := (if leAt f 4 2 / 0x8000 = 1 then afterAck (leAt f 4 2 % 4096) (s.port p).replay else (s.port p).replay)
          credits := (List.range 4).map fun i => (s.port p).credits.getD i 0 + leAt f 6 2 / 16 ^ i % 16 } ∧
          KMap.agreeBut s.ports t.ports [p.val] ∧ { t with ports := s.ports, regs := s.regs, err := s.err } = s ∧
          ((∀ z ∈ (s.port p).replay, z.tries = 0) → t.regs = s.regs ∧ t.err = s.err)))

/-- Every measurement sends DLY_REQ on port 0, stamped; the device above answers with the request's stamp and its own two; the answer yields
the offset half the difference of the two directions less the asymmetry, and the delay, of which the last 16 are kept and one far from
their mean is discarded and counted; a series of an alignment goes on with the next request. The TIME timer sends a TIME flit on every
downstream port in UP. A TIME flit gives CHN_TERR and the flags; where the chain is the reference of a running timebase that is not in
holdover, the first with TIME_VALID sets device time, or asks for a step while a group is enabled, and each later one steers. Silence counts as
a reading outside the tolerance. A member whose readings lie outside for 1 ms excludes itself: its running groups are EXCLUDED, CENSUS_OK
clears and the count rises. -/
def Obligations.ChainTime : Prop :=
  ∀ s : State, s.mgt.rst = false →
    (∀ (at_ : Nat) (u : State), u = s.reach at_ →
      (s.chnOn = false ∨ s.portUp 0 = false → exec (.delayMeasurementTimer at_) s = .next s) ∧
      (s.chnOn = true → s.portUp 0 = true →
        ∃ t ack credit, exec (.delayMeasurementTimer at_) s = .next t ∧
          t.sent = .flit 0 (flitBytes tyDlyReq 0 0 ack credit (timeField at_)) :: u.sent ∧ { t with sent := u.sent, ports := u.ports } = u) ∧
      (s.chnOn = false → exec (.timeFlitTimer at_) s = .next s) ∧
      (∀ (flags : Nat) (body : List Byte), s.chnOn = true →
        flags = (if u.tb.timeValid then 1 else 0) + (if u.sync then 2 else 0) + (if u.global_ then 4 else 0) →
        body = timeField at_ ++ leBytes 1 flags ++ [0, 0, 0] ++ leBytes 4 (if u.isRoot then 0 else (u.rd .CHN_TERR).toNat) ++
          leBytes 2 u.ownAddr →
        ∃ t, exec (.timeFlitTimer at_) s = .next t ∧
          (∀ p : Fin 3, p ≠ 0 → s.portUp p = true → ∃ ack credit, Sent.flit p (flitBytes tyTime 0 0 ack credit body) ∈ t.sent) ∧
          (s.downUp = [] → t = u) ∧ { t with sent := u.sent, ports := u.ports } = u)) ∧
    (∀ (p : Fin 3) (f : List Byte) (t2 t3 : Nat),
      (s.portLocked p = false → exec (.dlyReq p f t2 t3) s = .next s) ∧
      (s.portLocked p = true → flitOk f = true → leAt f 0 1 = tyDlyReq → p = 0 ∨ s.portUp p = false →
        exec (.dlyReq p f t2 t3) s = .next (s.ackCredit p f)) ∧
      (p ≠ 0 → s.chnOn = true → s.portUp p = true → flitOk f = true → leAt f 0 1 = tyDlyReq →
        ∃ t ack credit, exec (.dlyReq p f t2 t3) s = .next t ∧
          Sent.flit p (flitBytes tyDlyRsp 0 0 ack credit ((f.drop 8).take 12 ++ timeField t2 ++ timeField t3)) ∈ t.sent ∧
          t.now = (s.reach t3).now ∧ t.chn = s.chn)) ∧
    (∀ (f : List Byte) (t1 t2 t3 t4 asym d : Int) (n4 : Nat) (far : Prop), s.chnOn = true → s.portUp 0 = true → flitOk f = true →
      leAt f 0 1 = tyDlyRsp → t1 = ofTimeField ((f.drop 8).take 12) → t2 = ofTimeField ((f.drop 20).take 12) →
      t3 = ofTimeField ((f.drop 32).take 12) → t4 = n4 → asym = (s.rd .CHN_Pp_ASYM 0).toInt →
      d = ((t4 - t1) - (t3 - t2)) / 2 + asym →
      (far ↔ (s.port 0).delays ≠ [] ∧ 256 < (d - delayMean (s.port 0).delays).natAbs) →
      (s.chn.series ≤ 1 → s.chn.align = none →
        ∃ t, exec (.dlyRsp 0 f n4) s = .next t ∧ t.chn = { s.chn with offset := ((t4 - t3) - (t2 - t1)) / 2 - asym, series := 0 } ∧
          t.now = (s.reach n4).now ∧
          (¬ far → (t.port 0).delays = (d :: (s.port 0).delays).take 16 ∧ t.rd .CHN_Pp_CNT_DLY_REJ 0 = s.rd .CHN_Pp_CNT_DLY_REJ 0) ∧
          (far → (t.port 0).delays = (s.port 0).delays ∧ t.rd .CHN_Pp_CNT_DLY_REJ 0 = satInc (s.rd .CHN_Pp_CNT_DLY_REJ 0))) ∧
      (1 < s.chn.series →
        ∃ t ack credit, exec (.dlyRsp 0 f n4) s = .next t ∧
          t.chn = { s.chn with offset := ((t4 - t3) - (t2 - t1)) / 2 - asym, series := s.chn.series - 1 } ∧
          Sent.flit 0 (flitBytes tyDlyReq 0 0 ack credit (timeField t.now)) ∈ t.sent ∧ t.now = (s.reach n4).now)) ∧
    (∀ (p : Fin 3) (f : List Byte) (n4 : Nat), s.chn.align = none →
      (s.portLocked p = false → exec (.dlyRsp p f n4) s = .next s) ∧
      (s.portLocked p = true → p ≠ 0 ∨ s.portUp 0 = false → flitOk f = true → leAt f 0 1 = tyDlyRsp →
        exec (.dlyRsp p f n4) s = .next (s.ackCredit p f))) ∧
    (∀ (p : Fin 3) (f : List Byte) (at_ : Nat), s.portLocked p = false → exec (.timeFlit p f at_) s = .next s) ∧
    (∀ (p : Fin 3) (f : List Byte) (at_ : Nat), s.portLocked p = true → flitOk f = true → leAt f 0 1 = tyTime →
      p ≠ 0 ∨ s.portUp 0 = false ∨ s.isRoot = true → exec (.timeFlit p f at_) s = .next (s.ackCredit p f)) ∧
    (∀ (f : List Byte) (at_ : Nat) (u : State) (now : Int) (follows first : Prop) (z : Chain), s.chnOn = true → s.portUp 0 = true →
      s.isRoot = false → flitOk f = true → leAt f 0 1 = tyTime → u = (s.ackCredit 0 f).reach at_ →
      now = ofTimeField ((f.drop 8).take 12) + delayMean (s.port 0).delays →
      (follows ↔ s.rf .TB_CTL 0 0 2 0 = 1 ∧ s.running 0 = true ∧ s.tb.holdover = false) →
      (first ↔ leAt f 20 1 % 2 = 1 ∧ (s.chn.timed = false ∨ s.tb.timeValid = false)) →
      z = { s.chn with upSync := decide (leAt f 20 1 / 2 % 2 = 1), upGlobal := decide (leAt f 20 1 / 4 % 2 = 1) } →
      ∃ t, exec (.timeFlit 0 f at_) s = .next t ∧ t.rd .CHN_TERR = chainError t.chn.offset (mkW (leAt f 24 4)) ∧ t.chn.lastTime = t.now ∧
        t.chn.aligned = (decide (leAt f 20 1 / 2 % 2 = 1) &&
          decide ((chainError t.chn.offset (mkW (leAt f 24 4))).toInt.natAbs ≤ s.rf .CHN_TOL 0 0 15 0)) ∧
        t.chn.outSince = (if t.chn.aligned then none else some (s.chn.outSince.getD t.now)) ∧
        { t.chn with aligned := s.chn.aligned, outSince := s.chn.outSince, offset := s.chn.offset, timed := s.chn.timed
                     lastTime := s.chn.lastTime } = z ∧
        (¬ follows → t.chn.offset = s.chn.offset ∧ t.chn.timed = s.chn.timed ∧ { t with regs := u.regs, chn := u.chn } = u) ∧
        (follows → ¬ first → t.chn.offset = s.chn.offset ∧ t.chn.timed = s.chn.timed ∧
          t.tb = { u.tb with
            steer := clampI (-chainBound10) chainBound10 (Config.steering s.drawn (-s.chn.offset))
            stepPending := (if msec 1 < s.chn.offset.natAbs then some (-s.chn.offset) else none) } ∧
          t.drawn = s.drawn + 1 ∧ { t with regs := u.regs, chn := u.chn, tb := u.tb, drawn := u.drawn } = u) ∧
        (follows → first → t.chn.timed = true ∧ t.chn.offset = 0 ∧
          (s.anyEnabled = true →
            t.tb = { u.tb with stepPending := some (now - u.now), timeValid := s.counting } ∧
            { t with regs := u.regs, chn := u.chn, tb := u.tb } = u) ∧
          (s.anyEnabled = false → s.counting = true → t.tb.timeValid = true ∧ t.now = now.toNat) ∧
          (s.anyEnabled = false → s.counting = false → { t with regs := u.regs, chn := u.chn } = u))) ∧
    (s.chnOn = false ∨ s.isRoot = true → exec .timeSilence s = .next s) ∧
    (s.chnOn = true → s.isRoot = false →
      exec .timeSilence s = .next { s with chn := { s.chn with aligned := false, outSince := some (s.chn.outSince.getD s.now) } }) ∧
    (∀ since : Nat, s.chn.outSince = some since → s.chnOn = true → s.isRoot = false → s.chn.excluded = false →
      ∃ t, exec .selfExclusion s = .next t ∧ t.chn.censusOk = false ∧ t.rd .CHN_CNT_EXCL = satInc (s.rd .CHN_CNT_EXCL) ∧
        t.now = (s.reach (since + msec 1)).now ∧
        (∀ g : Fin 8, (t.grp g).st = if s.grpRunning g ∧ (s.grp g).st ≠ .stopping then .excluded else (s.grp g).st) ∧
        ((∃ g : Fin 8, s.grpRunning g = true ∧ (s.grp g).st ≠ .stopping) → t.chn.excluded = true)) ∧
    (s.chn.outSince = none ∨ s.chnOn = false ∨ s.isRoot = true ∨ s.chn.excluded = true → exec .selfExclusion s = .next s)

/-- The oldest message of a port is acted on and leaves; without one nothing happens, and an INTERNAL one for another device goes on by its
route. ENUM_QUERY begins an enumeration at the device; the last count goes up or hands out addresses, the last total goes up or completes
the command; a grant outside an enumeration gives a device without an address its address, its depth and the generation. A join at
the root is counted and, with AUTO_JOIN, gets the lowest free address; a single grant reaches its parent. LEAVE frees its addresses,
EXCLUDE is counted. A census query is answered with the report, a report is kept once for each sender and the last completes the census;
the result stores generation, epoch and CENSUS_OK. The last reply of a broadcast and the last answer of an alignment complete them. A
turn record reaches the groups that follow its BIND_ID, a marker waits for its broadcast. A port that does not answer in time is taken
as empty or failing. A packet for this device joins the commands from the chain, one for another is forwarded, and one for none is answered
UNREACHABLE; a broadcast goes down to every device or up to the root; a reply decides the command that waits for it. -/
def Obligations.ChainMessages : Prop :=
  ∀ (p : Fin 3) (s u : State) (m : Msg), s.mgt.rst = false →
    (∀ e : Nat × Instr,
      e ∈ [(1, Instr.enumQuery p), (2, .enumCount p), (3, .enumAssign p), (4, .enumDone p), (5, .joinMessage p), (6, .joinAssign p),
        (7, .leave p), (8, .exclude p), (9, .censusQuery p), (10, .censusReport p), (11, .censusResult p), (12, .bcastReply p),
        (13, .alignQuery p), (14, .alignReport p)] →
      (s.takeMsg p (fun m => m.internal && m.mtype = e.1) = none → exec e.2 s = .next s) ∧
      (s.takeMsg p (fun m => m.internal && m.mtype = e.1) = some (m, u) → ¬ u.TakesMsg m →
        (u.routePort m.dest = none → exec e.2 s = .next u) ∧
        (∀ d : Nat, u.routePort m.dest = some d →
          (e.1 ≠ 6 → e.1 ≠ 7 → exec e.2 s = .next (u.sendMsg d m.vc ⟨m.dest, false, true, m.src, m.num⟩ m.content)) ∧
          (e.1 = 6 → ∃ t, exec e.2 s = .next t ∧ t.chn.route = KMap.insert u.chn.route (m.h 8) (d + 1)) ∧
          (e.1 = 7 → ∃ t, exec e.2 s = .next t ∧
            ∀ a, KMap.find? t.chn.route a = if a ∈ leaveAddrs m then none else KMap.find? u.chn.route a)))) ∧
    (∀ ty : Nat, s.takeMsg p (fun m => m.internal && m.mtype = ty) = some (m, u) → u.TakesMsg m →
      (ty = 1 →
        ∃ t, exec (.enumQuery p) s = .next t ∧ t.chn.enum_ = some {
          gen := m.xact, mode := m.b 8 % 2, cmd := none, phase := (if u.downUp = [] then 1 else 0), ports := u.downUp
          got := [], own := [], depth := m.b 9 }) ∧
      (ty = 2 → u.chn.enum_.map (fun x => x.gen) ≠ some m.xact → exec (.enumCount p) s = .next u) ∧
      (∀ x y : Xact, ty = 2 → u.chn.enum_ = some x → x.gen = m.xact → x.phase = 0 → x.ports.contains p.val = true →
        x.full = false → y = x.add p [m.h 8, m.b 10] →
        (y.full = false → ∃ t, exec (.enumCount p) s = .next t ∧ t.chn = { u.chn with enum_ := some y } ∧ { t with chn := u.chn } = u) ∧
        (y.full = true → x.cmd = none →
          exec (.enumCount p) s = .next ((u.setEnum (some { y with phase := 1 })).sendLink 0 1 0x0002 x.gen
            (leBytes 2 (x.ports.foldl (fun a i => a + y.num i 0) (u.ownCount x.mode)) ++
              leBytes 1 (x.ports.foldl (fun a i => max a (y.num i 1)) x.depth)))) ∧
        (y.full = true → x.cmd.isSome = true → x.mode = 0 →
          ∃ t, exec (.enumCount p) s = .next t ∧ t.rd .SYS_ADDR = 0 ∧ t.chn.enumerated = true ∧ t.rd .CHN_ENUM_GEN = mkW x.gen ∧
            t.chn.enum_ = some { y with phase := 1, got := [], own := [1, 0], depth := 0 })) ∧
      (ty = 3 → 1 ≤ m.h 10 → u.chn.enum_ = none → u.chn.enumerated = false →
        ∃ t, exec (.enumAssign p) s = .next t ∧ t.rd .SYS_ADDR = mkW (m.h 12) ∧ t.chn.enumerated = true ∧ t.chn.depth = m.b 9 ∧
          t.rd .CHN_ENUM_GEN = mkW m.xact) ∧
      (ty = 3 → u.chn.enum_ = none → u.chn.enumerated = true ∨ m.h 10 = 0 → exec (.enumAssign p) s = .next u) ∧
      (∀ x : Xact, ty = 3 → u.chn.enum_ = some x →
        (x.gen ≠ m.xact ∨ x.phase ≠ 1 → exec (.enumAssign p) s = .next u) ∧
        (x.gen = m.xact → x.phase = 1 → m.b 8 % 2 = x.mode → x.mode = 0 → 1 ≤ m.h 10 → x.cmd = none → x.ports = [] →
          ∃ t, exec (.enumAssign p) s = .next t ∧ t.rd .SYS_ADDR = mkW (m.h 12) ∧ t.chn.enumerated = true ∧ t.chn.depth = m.b 9 ∧
            (u.downUp = [] → t.chn.route = [(m.h 12, 1)]) ∧ t.chn.enum_ = none ∧ t.rd .CHN_ENUM_GEN = mkW x.gen)) ∧
      (ty = 4 → u.chn.enum_.map (fun x => x.gen) ≠ some m.xact → exec (.enumDone p) s = .next u) ∧
      (∀ x y : Xact, ty = 4 → u.chn.enum_ = some x → x.gen = m.xact → x.phase = 1 → x.ports.contains p.val = true → x.full = false →
        y = x.add p [m.h 8, m.h 10, m.b 12] →
        (y.full = false → ∃ t, exec (.enumDone p) s = .next t ∧ t.chn = { u.chn with enum_ := some y } ∧ { t with chn := u.chn } = u) ∧
        (y.full = true → x.cmd = none →
          exec (.enumDone p) s = .next ((u.setEnum none).sendLink 0 1 0x0004 x.gen
            (leBytes 2 (x.ports.foldl (fun a i => a + y.num i 0) (x.own.getD 0 0)) ++
              leBytes 2 (x.ports.foldl (fun a i => a + y.num i 1) (x.own.getD 1 0)) ++
              leBytes 1 (x.ports.foldl (fun a i => max a (y.num i 2)) x.depth)))) ∧
        (∀ (q : Fin 10) (k : Nat), y.full = true → x.cmd = some ⟨q, k⟩ → u.Waits q k →
          ∃ t, exec (.enumDone p) s = .next t ∧ t.chn = { u.chn with enum_ := none } ∧
            u.Replied t q k stOK [mkW u.chn.route.length, mkW (x.ports.foldl (fun a i => max a (y.num i 2)) x.depth), mkW x.gen,
              mkW (x.ports.foldl (fun a i => a + y.num i 1) (x.own.getD 1 0))])) ∧
      (ty = 5 →
        (u.rb .CHN_CTL 0 0 2 = false ∨ lowestFree u.chn.route = none ∨ m.h 8 ≠ u.ownAddr ∧ u.routePort (m.h 8) = none →
          exec (.joinMessage p) s = .next (u.wr .CHN_CNT_JOIN 0 0 (satInc (u.rd .CHN_CNT_JOIN)))) ∧
        (∀ a : Nat, u.rb .CHN_CTL 0 0 2 = true → lowestFree u.chn.route = some a →
          (m.h 8 = u.ownAddr →
            ∃ t, exec (.joinMessage p) s = .next t ∧ t.rd .CHN_CNT_JOIN = satInc (u.rd .CHN_CNT_JOIN) ∧
              t.chn.route = KMap.insert u.chn.route a (m.b 10 + 1)) ∧
          (∀ d : Nat, m.h 8 ≠ u.ownAddr → u.routePort (m.h 8) = some d →
            ∃ t, exec (.joinMessage p) s = .next t ∧ t.rd .CHN_CNT_JOIN = satInc (u.rd .CHN_CNT_JOIN) ∧
              t.chn.route = KMap.insert u.chn.route a (d + 1)))) ∧
      (ty = 6 → ∃ t, exec (.joinAssign p) s = .next t ∧ t.chn.route = KMap.insert u.chn.route (m.h 8) (m.b 10 + 1)) ∧
      (ty = 7 →
        ∃ t, exec (.leave p) s = .next t ∧ t.rd .CHN_CNT_LEAVE = satInc (u.rd .CHN_CNT_LEAVE) ∧
          (∀ a, KMap.find? t.chn.route a = if a ∈ leaveAddrs m then none else KMap.find? u.chn.route a) ∧
          { t with regs := u.regs, chn := u.chn } = u) ∧
      (ty = 8 →
        ∃ t, exec (.exclude p) s = .next t ∧ t.rd .CHN_CNT_EXCL_RX = satInc (u.rd .CHN_CNT_EXCL_RX) ∧
          { t with regs := u.regs, sent := u.sent, msixPend := u.msixPend } = u) ∧
      (ty = 9 → exec (.censusQuery p) s = .next (u.sendInternal 0 1 0x000A m.xact u.reportBody)) ∧
      (ty = 10 → (∀ x : Census, u.chn.census = some x → x.gen ≠ m.xact ∨ ∃ r ∈ x.reports, r.1 = m.src) →
        exec (.censusReport p) s = .next u) ∧
      (∀ x y : Census, ty = 10 → u.chn.census = some x → x.gen = m.xact → (∀ r ∈ x.reports, r.1 ≠ m.src) →
        y = { x with reports := x.reports ++ [(m.src, (m.content.drop 8).take (m.h 2))] } →
        ((∃ e ∈ y.table, (∀ r ∈ y.reports, r.1 ≠ e.1) ∧ (e.1 = u.ownAddr ∨ (u.routePort e.1).isSome = true)) →
          ∃ t, exec (.censusReport p) s = .next t ∧ t.chn = { u.chn with census := some y } ∧ { t with chn := u.chn } = u) ∧
        (∀ (q : Fin 10) (k : Nat) (offs : List (Nat × Nat)),
          (∀ e ∈ y.table, (∃ r ∈ y.reports, r.1 = e.1) ∨ e.1 ≠ u.ownAddr ∧ u.routePort e.1 = none) → x.cmd = ⟨q, k⟩ → u.Waits q k →
          offs = (y.table.map fun e => (e.1, State.reasons { u with chn := { u.chn with census := some y } } y e)).filter
            (fun o => o.2 ≠ 0) →
          ∃ t, exec (.censusReport p) s = .next t ∧ t.chn.census = none ∧
            u.Replied t q k (if offs.isEmpty then stOK else stCensus) [mkW y.table.length, mkW offs.length, mkW x.gen])) ∧
      (ty = 11 →
        ∃ t, exec (.censusResult p) s = .next t ∧ t.rd .CHN_CENSUS_GEN = mkW m.xact ∧
          t.rd64 .CHN_CENSUS_EPOCH_LO .CHN_CENSUS_EPOCH_HI 0 = u.epoch ∧
          t.chn = { u.chn with censusOk := decide (m.b 8 % 2 = 1) } ∧ { t with chn := u.chn, regs := u.regs } = u) ∧
      (ty = 12 → (∀ b ∈ u.chn.bcasts, b.num ≠ m.xact) → exec (.bcastReply p) s = .next u) ∧
      (∀ (b y : Bcast), ty = 12 → u.chn.bcasts = [b] → b.num = m.xact → b.ports.contains p.val = true → (∀ g ∈ b.got, g.1 ≠ p.val) →
        y = { b with got := b.got ++ [(p.val, [m.h 8, m.h 10, m.h 12, m.b 14, m.b 15, m.w 16])] } →
        (y.complete = false → exec (.bcastReply p) s = .next { u with chn := { u.chn with bcasts := [y] } }) ∧
        (∀ (q : Fin 10) (k : Nat) (c : Cmd) (r : Nat × List Word), y.complete = true → b.cmd = ⟨q, k⟩ → (u.q q).find k = some c →
          c.phase = .begun → (u.q q).resetting = false → r = bcastReply y.merged →
          ∃ t, exec (.bcastReply p) s = .next t ∧ u.Replied t q k r.1 r.2 ∧ t.chn = { u.chn with bcasts := [y] })) ∧
      (ty = 13 → u.portUp 0 = true →
        ∃ t, exec (.alignQuery p) s = .next t ∧ t.chn.series = 16 ∧ t.chn.align = some {
          gen := m.xact, mode := 0, cmd := none, phase := 0, ports := (if m.b 8 % 2 = 1 then u.downUp else []), got := [], own := [], depth := 0 }) ∧
      (ty = 13 → u.portUp 0 = false → m.b 8 % 2 = 0 → ∃ t, exec (.alignQuery p) s = .next t ∧ t.chn.series = 0 ∧ t.chn.align = none) ∧
      (ty = 14 → u.chn.align = none → exec (.alignReport p) s = .next u) ∧
      (∀ x y : Xact, ty = 14 → u.chn.align = some x → x.ports.contains p.val = true → y = x.add p [m.w 8, m.h 12, m.h 14] →
        (y.full = false ∨ u.chn.series ≠ 0 → exec (.alignReport p) s = .next { u with chn := { u.chn with align := some y } }) ∧
        (∀ (q : Fin 10) (k : Nat) (r : List Nat), y.full = true → u.chn.series = 0 → x.cmd = some ⟨q, k⟩ → u.Waits q k →
          r = x.ports.foldl (fun a i => alignMerge a (y.of i)) u.alignOwn →
          ∃ t, exec (.alignReport p) s = .next t ∧ t.chn.align = none ∧
            u.Replied t q k stOK [mkW (r.getD 0 0), mkW (r.getD 1 0), mkW (r.getD 2 0)]))) ∧
    (s.takeRecord p 2 = none → exec (.turnRecord p) s = .next s) ∧
    (∀ b : List Byte, s.takeRecord p 2 = some (b, u) →
      ∃ t, exec (.turnRecord p) s = .next t ∧ ∀ (g : Fin 8) (r : TurnRec), u.rf .Gn_BIND g 0 2 0 = 3 → u.rf .Gn_BIND g 0 31 16 = leAt b 2 2 →
        r = ⟨leAt b 2 2, BitVec.ofNat 64 (leAt b 4 8), BitVec.ofNat 64 (leAt b 12 8), BitVec.ofNat 64 (leAt b 20 8),
          BitVec.ofNat 64 (leAt b 28 8), BitVec.ofNat 64 (leAt b 36 8)⟩ → r ∈ (t.grp g).turnRecs) ∧
    (s.takeRecord p 3 = none → exec (.broadcastSequenceMarker p) s = .next s) ∧
    (∀ b : List Byte, s.takeRecord p 3 = some (b, u) →
      ∃ t, exec (.broadcastSequenceMarker p) s = .next t ∧
        t.chn = { u.chn with markers := u.chn.markers ++ [(leAt b 4 4, leAt b 8 2 % 0x4000, leAt b 10 2 % 0x1000)] } ∧
        { t with chn := u.chn, ports := u.ports, sent := u.sent } = u) ∧
    (∀ x y : Xact, s.chn.enum_ = some x → x.ports.contains p.val = true → x.full = false → y = x.add p [0, 0, 0] →
      (y.full = false → exec (.exchangeTimeout .enum p) s = .next { s with chn := { s.chn with enum_ := some y } }) ∧
      (y.full = true → x.phase = 1 → x.cmd = none →
        ∃ t, exec (.exchangeTimeout .enum p) s = .next t ∧ t.chn.enum_ = none)) ∧
    (∀ x y : Xact, s.chn.align = some x → x.ports.contains p.val = true → y = x.add p [0, 0, 0] →
      (y.full = false ∨ s.chn.series ≠ 0 → exec (.exchangeTimeout .align p) s = .next { s with chn := { s.chn with align := some y } }) ∧
      (y.full = true → s.chn.series = 0 → x.cmd = none → ∃ t, exec (.exchangeTimeout .align p) s = .next t ∧ t.chn.align = none)) ∧
    (∀ (x : Census) (q : Fin 10) (k : Nat) (offs : List (Nat × Nat)), s.chn.census = some x → x.cmd = ⟨q, k⟩ → s.Waits q k →
      offs = (x.table.map fun e => (e.1, s.reasons x e)).filter (fun o => o.2 ≠ 0) →
      ∃ t, exec (.exchangeTimeout .census p) s = .next t ∧ t.chn.census = none ∧
        s.Replied t q k (if offs.isEmpty then stOK else stCensus) [mkW x.table.length, mkW offs.length, mkW x.gen]) ∧
    (∀ (b y : Bcast) (child : Nat), s.chn.bcasts = [b] → b.ports.contains p.val = true → (∀ g ∈ b.got, g.1 ≠ p.val) →
      child = ((s.port p).partner.map fun y => y.1).getD 0 → y = { b with got := b.got ++ [(p.val, [0, 1, child, stTimeout, 0, 0])] } →
      (y.complete = false → exec (.exchangeTimeout (.bcast b.num) p) s = .next { s with chn := { s.chn with bcasts := [y] } }) ∧
      (∀ (q : Fin 10) (k : Nat) (c : Cmd) (r : Nat × List Word), y.complete = true → b.cmd = ⟨q, k⟩ → (s.q q).find k = some c →
        c.phase = .begun → (s.q q).resetting = false → r = bcastReply y.merged →
        ∃ t, exec (.exchangeTimeout (.bcast b.num) p) s = .next t ∧ s.Replied t q k r.1 r.2)) ∧
    (s.chn.enum_ = none → exec (.exchangeTimeout .enum p) s = .next s) ∧
    (s.chn.align = none → exec (.exchangeTimeout .align p) s = .next s) ∧
    (s.chn.census = none → exec (.exchangeTimeout .census p) s = .next s) ∧
    (s.chn.bcasts = [] → ∀ num : Nat, exec (.exchangeTimeout (.bcast num) p) s = .next s) ∧
    (s.takeMsg p (fun m => !m.internal) = none → exec (.plakuMessage p) s = .next s) ∧
    (∀ (h : MsgHdr) (own fwd : State), s.takeMsg p (fun m => !m.internal) = some (m, u) → h = ⟨m.dest, m.bcast, false, m.src, m.num⟩ →
      own = { u.setQ 9 { u.q 9 with
          nextK := (u.q 9).nextK + 1, inflight := (u.q 9).inflight ++ [{ mkCmd (u.q 9).nextK m.content 0 0 with k := (u.q 9).nextK }] } with
        chn := { u.chn with from_ := KMap.insert u.chn.from_ (u.q 9).nextK (m.port, m.src, m.num) } } →
      (m.bcast = true →
        (p ≠ 0 → u.isTop = true → exec (.plakuMessage p) s = .next own) ∧
        (p ≠ 0 → u.isTop = false → exec (.plakuMessage p) s = .next (u.sendMsg 0 0 h m.content)) ∧
        (p = 0 →
          ∃ t, exec (.plakuMessage p) s = .next t ∧ t.queues = own.queues ∧ t.chn = own.chn ∧
            { t with queues := u.queues, chn := u.chn, ports := u.ports, sent := u.sent } = u ∧
            (u.downUp = [] → t = own))) ∧
      (m.bcast = false → u.chn.enumerated = true → m.dest = u.ownAddr →
        (m.vc ≠ 1 → exec (.plakuMessage p) s = .next own) ∧
        (∀ (q : Fin 9) (k : Nat) (c : Cmd), m.vc = 1 → leAt m.content 4 2 / 4096 = q →
          (u.q q).inflight.filter (fun y => y.phase = .begun && y.hdr.tag = leAt m.content 4 2 % 4096 && y.hdr.seq = leAt m.content 8 4) = [c] →
          c.k = k → (u.q q).find k = some c → (u.q q).resetting = false →
          ∃ t, exec (.plakuMessage p) s = .next t ∧
            t.replyOf q k = some ⟨leAt m.content 3 1, leAt m.content 3 1, leAt m.content 12 2,
              (wordsOf (m.content.drop 16)).take (leAt m.content 6 2)⟩ ∧ KMap.agreeBut u.queues t.queues [q.val] ∧
            { t with queues := u.queues } = u)) ∧
      (m.bcast = false → u.chn.enumerated = false ∨ m.dest ≠ u.ownAddr →
        fwd = u.sendMsg m.port 1 ⟨m.src, false, false, u.ownAddr, m.num⟩
          (replyPacket (mkCmd 0 m.content 0 0) ⟨stUnreachable, stUnreachable, u.ownAddr, []⟩) →
        (∀ d : Nat, u.routePort m.dest = some d → u.portUp d = true → exec (.plakuMessage p) s = .next (u.sendMsg d m.vc h m.content)) ∧
        ((∀ d : Nat, u.routePort m.dest = some d → u.portUp d = false) →
          (m.vc = 0 → exec (.plakuMessage p) s = .next fwd) ∧ (m.vc ≠ 0 → exec (.plakuMessage p) s = .next u))))

/-- At a root without ports in UP, CHAIN_ENUM mode 0 outside play gives the root address 0 in a new generation and answers one device, and mode 1
answers with the lowest address for a root that has none, and else with what there is; with ports in UP it asks them and waits. Elsewhere, or with a reserved bit set, it
is BAD_PARAM; during another, or in mode 0 while a group plays anywhere, BUSY. CENSUS of a bad table is BAD_PARAM, a second one
BUSY; one whose every reachable participant is the root itself is judged and answered at once; with a reachable participant it waits in a
new generation. CHAIN_BROADCAST at once raises a chain event stamped with the tick, sent while SYNC is 1 and else counted as
suppressed, and answers the time-stamp; with AT_TIME it waits for its time, at which the event of the earliest is sent and its command answered; a bad payload, or a
time less than 20 µs ahead, is BAD_PARAM. CHAIN_ALIGN at a root without ports answers its own zero error, with ports it asks them and
waits; elsewhere it is BAD_PARAM, during another BUSY. -/
def Obligations.ChainCommands : Prop :=
  (∀ (q : Fin 10) (k : Nat) (c : Cmd) (s : State),
    (∀ (remote : Bool) (gen : Nat), s.Runs q k 0x0601 c → gen = (s.rd .CHN_ENUM_GEN).toNat + 1 →
      (extraBits (wAt c.payload 0) 1 = true ∨ s.isRoot = false →
        ∃ t, exec (.chainEnum q k remote) s = .next t ∧ s.RepliedOnly t q k stBadParam []) ∧
      (extraBits (wAt c.payload 0) 1 = false → s.isRoot = true →
        s.chn.enum_.isSome = true ∨ bit (wAt c.payload 0) 0 = false ∧ (s.anyRunning = true ∨ remote = true) →
        ∃ t, exec (.chainEnum q k remote) s = .next t ∧ s.RepliedOnly t q k stBusy []) ∧
      (extraBits (wAt c.payload 0) 1 = false → s.isRoot = true → s.chn.enum_ = none →
        (bit (wAt c.payload 0) 0 = false → s.anyRunning = false ∧ remote = false) →
        (s.downUp = [] → bit (wAt c.payload 0) 0 = false →
          ∃ t, exec (.chainEnum q k remote) s = .next t ∧ t.rd .SYS_ADDR = 0 ∧ t.chn.enumerated = true ∧ t.chn.depth = 0 ∧
            t.chn.route = [(0, 1)] ∧ t.chn.censusOk = false ∧ t.rd .CHN_ENUM_GEN = mkW gen ∧
            t.replyOf q k = some ⟨0, 0, 0, [1, 0, mkW gen, 0]⟩) ∧
        (∀ a : Nat, s.downUp = [] → bit (wAt c.payload 0) 0 = true → s.chn.enumerated = false → s.chn.route = [] → a = 0 →
          ∃ t, exec (.chainEnum q k remote) s = .next t ∧ t.rd .SYS_ADDR = mkW a ∧ t.chn.enumerated = true ∧
            t.chn.route = [(a, 1)] ∧ t.rd .CHN_ENUM_GEN = mkW gen ∧ t.replyOf q k = some ⟨0, 0, a, [1, 0, mkW gen, 0]⟩) ∧
        (s.downUp = [] → bit (wAt c.payload 0) 0 = true → s.chn.enumerated = true →
          ∃ t, exec (.chainEnum q k remote) s = .next t ∧ t.rd .CHN_ENUM_GEN = mkW gen ∧ t.chn = s.chn ∧
            s.Replied t q k stOK [mkW s.chn.route.length, mkW s.chn.depth, mkW gen, 0]) ∧
        (s.downUp ≠ [] →
          ∃ t, exec (.chainEnum q k remote) s = .next t ∧ s.Began t q k c ∧
            t.chn.enum_ = some { gen := gen, mode := fld (wAt c.payload 0) 0 0, cmd := some ⟨q, k⟩, phase := 0, ports := s.downUp
                                 got := [], own := [], depth := 0 } ∧
            { s.sansReply t with chn := s.chn, ports := s.ports, sent := s.sent } = s))) ∧
    (∀ (table : List Byte) (n : Nat) (es : List (Nat × Bool × W64)) (x : Census) (bad : Prop), s.Runs q k 0x0602 c →
      n = (wAt c.payload 2).toNat → es = (List.range (min n 16384)).map (fun i => censusEntry (sliceB table (16 * i) 16)) →
      (bad ↔ s.isRoot = false ∨ n = 0 ∨ 16384 < n ∨ ¬ (es.map fun e => e.1).Nodup ∨ ∃ e ∈ es, 0x4000 ≤ e.1) →
      x = ⟨s.chn.censusGen + 1, ⟨q, k⟩, (join64 (wAt c.payload 3) (wAt c.payload 4)).toNat, es,
        if (es.map fun e => e.1).contains s.ownAddr then [(s.ownAddr, s.reportBody)] else []⟩ →
      (bad → ∃ t, exec (.census q k table) s = .next t ∧ s.RepliedOnly t q k stBadParam []) ∧
      (¬ bad → s.chn.census.isSome = true → ∃ t, exec (.census q k table) s = .next t ∧ s.RepliedOnly t q k stBusy []) ∧
      (¬ bad → s.chn.census = none → (∀ e ∈ es, e.1 = s.ownAddr ∨ s.routePort e.1 = none) →
        ∀ offs : List (Nat × Nat), offs = (es.map fun e => (e.1, s.reasons x e)).filter (fun o => o.2 ≠ 0) →
        ∃ t, exec (.census q k table) s = .next t ∧ t.chn.census = none ∧ t.chn.censusGen = s.chn.censusGen + 1 ∧
          s.Replied t q k (if offs.isEmpty then stOK else stCensus) [mkW n, mkW offs.length, mkW (s.chn.censusGen + 1)] ∧
          ((∃ e ∈ es, e.1 = s.ownAddr) → t.chn.censusOk = offs.isEmpty ∧ t.rd .CHN_CENSUS_GEN = mkW (s.chn.censusGen + 1)) ∧
          (offs ≠ [] → Sent.dma x.listAddr (offs.flatMap fun o => leBytes 4 (o.1 + o.2 * 65536)) ∈ t.sent)) ∧
      (¬ bad → s.chn.census = none → (∃ e ∈ es, e.1 ≠ s.ownAddr ∧ (s.routePort e.1).isSome = true) →
        ∃ t, exec (.census q k table) s = .next t ∧ s.Began t q k c ∧ t.chn.censusGen = s.chn.censusGen + 1 ∧ t.chn.census = some x ∧
          { s.sansReply t with chn := s.chn, ports := s.ports, sent := s.sent } = s)) ∧
    (∀ (time : Nat) (bad : Prop), s.Runs q k 0x0603 c →
      time = mkTime ((wAt c.payload 1).toNat + 2 ^ 32 * fld (wAt c.payload 2) 15 0) (fld (wAt c.payload 3) 29 0) 0 →
      (bad ↔ extraBits (wAt c.payload 0) 0x1FF = true ∨ fld (wAt c.payload 2) 31 16 ≠ 0 ∨ fld (wAt c.payload 3) 31 30 ≠ 0 ∨
        800000000 ≤ fld (wAt c.payload 3) 29 0) →
      (bad → ∃ t, exec (.chainBroadcast q k) s = .next t ∧ s.RepliedOnly t q k stBadParam []) ∧
      (¬ bad → bit (wAt c.payload 0) 8 = false →
        ∃ t, exec (.chainBroadcast q k) s = .next t ∧ s.Replied t q k stOK (timeWords (s.now / 256 * 256)) ∧
          (s.chnOn = false → s.sansReply t = s) ∧
          (s.chnOn = true → s.sync = true →
            t.ev = { s.ev with chain := s.ev.chain ++ [⟨fld (wAt c.payload 0) 7 0, s.now / 256 * 256, s.ownAddr⟩] } ∧
            { s.sansReply t with ev := s.ev, ports := s.ports, sent := s.sent } = s) ∧
          (s.chnOn = true → s.sync = false → t.rd .CHN_CNT_SUPPR = satInc (s.rd .CHN_CNT_SUPPR) ∧
            { s.sansReply t with regs := s.regs } = s)) ∧
      (¬ bad → bit (wAt c.payload 0) 8 = true → time < s.now + usec 20 →
        ∃ t, exec (.chainBroadcast q k) s = .next t ∧ s.RepliedOnly t q k stBadParam []) ∧
      (¬ bad → bit (wAt c.payload 0) 8 = true → s.now + usec 20 ≤ time →
        ∃ t, exec (.chainBroadcast q k) s = .next t ∧ s.Began t q k c ∧
          t.chn = { s.chn with timed_ := s.chn.timed_ ++ [(fld (wAt c.payload 0) 7 0, time, ⟨q, k⟩)] } ∧
          { s.sansReply t with chn := s.chn } = s)) ∧
    (s.Runs q k 0x0604 c →
      (extraBits (wAt c.payload 0) 1 = true ∨ s.isRoot = false →
        ∃ t, exec (.chainAlign q k) s = .next t ∧ s.RepliedOnly t q k stBadParam []) ∧
      (extraBits (wAt c.payload 0) 1 = false → s.isRoot = true → s.chn.align.isSome = true →
        ∃ t, exec (.chainAlign q k) s = .next t ∧ s.RepliedOnly t q k stBusy []) ∧
      (∀ ports : List Nat, extraBits (wAt c.payload 0) 1 = false → s.isRoot = true → s.chn.align = none →
        ports = (if bit (wAt c.payload 0) 0 then s.downUp else []) →
        (s.portUp 0 = false → ports = [] →
          ∃ t, exec (.chainAlign q k) s = .next t ∧ s.Replied t q k stOK [0, mkW s.ownAddr, 0] ∧ t.chn.align = none) ∧
        (s.portUp 0 = true ∨ ports ≠ [] →
          ∃ t, exec (.chainAlign q k) s = .next t ∧ s.Began t q k c ∧ t.chn.series = (if s.portUp 0 then 16 else 0) ∧ t.chn.align = some {
            gen := 1, mode := 0, cmd := some ⟨q, k⟩, phase := 0, ports := ports, got := [], own := [], depth := 0 })))) ∧
  (∀ (q : Fin 10) (k num time : Nat) (before after : List (Nat × Nat × CmdRef)) (s : State), s.mgt.rst = false →
    s.chn.timed_ = before ++ (num, time, ⟨q, k⟩) :: after → (∀ x ∈ before ++ after, time < x.2.1) →
    (s.counting = false → exec .chainBroadcastTime s = .next s) ∧
    (s.counting = true → s.Waits q k →
      ∃ t, exec .chainBroadcastTime s = .next t ∧ s.Replied t q k stOK (timeWords time) ∧ t.chn.timed_ = before ++ after ∧
        t.now = (s.reach time).now ∧
        (s.chnOn = true → s.sync = true →
          t.ev = { (s.reach time).ev with chain := s.ev.chain ++ [⟨num, time, s.ownAddr⟩] }))) ∧
  (∀ s : State, s.mgt.rst = false → s.chn.timed_ = [] → exec .chainBroadcastTime s = .next s)

/-! ### The island and the management line -/

/-- While the island has power: a frame that is not correct is counted and nothing else; a POLL is counted, makes the line active and sends
the oldest waiting reply, else a STATUS. A COMMAND frame is counted and its packet taken: with 16 commands of queue 8 in flight, or
4,096 over all queues, it is BUSY; an ECHO or IDENTIFY for the island, one whose length is wrong, whose tag is held or which
the queue skips, is decided by the island; a recorded status enters the island's window; a repeat is answered with its first
reply and OK_DUPLICATE; the repeat of a RESET_MAIN in progress waits with it; a command that is not the island's is answered NOT_READY, or
with what its checks find, while MAIN_RUN or EN is 0, else it joins queue 8. A reply waits behind the forwarded commands in flight, else it is sent
in the frame's slot when none waits before it. A heartbeat from running firmware sets MAIN_RUN as MAIN_PWR is, clears MAIN_UNRESP and leaves
what crash records need. LINE_ACTIVE clears. Without its power the island takes no frame. -/
def Obligations.IslandLine : Prop :=
  ∀ s : State,
    (∀ (f : List Byte) (claims : List (Nat × Nat)),
      (s.mgt.off = true → exec (.mgtFrameError f) s = .next s ∧ exec (.poll f) s = .next s ∧ exec (.commandFrame f claims) s = .next s) ∧
      (s.mgt.off = false → parseFrame f = none →
        exec (.mgtFrameError f) s = .next (s.wr .MGT_CNT_FRAME_ERR 0 0 (satInc (s.rd .MGT_CNT_FRAME_ERR)))) ∧
      ((parseFrame f).isSome = true → exec (.mgtFrameError f) s = .next s) ∧
      (∀ body : List Byte, s.mgt.off = false → parseFrame f = some (2, body) →
        ∃ t, exec (.poll f) s = .next t ∧ t.mgt = { s.mgt with lineActive := true, replies := s.mgt.replies.tail } ∧
          t.rd .MGT_CNT_FRAME_RX = satInc (s.rd .MGT_CNT_FRAME_RX) ∧ KMap.agreeBut s.regs t.regs [RegId.off .MGT_CNT_FRAME_RX 0 0] ∧
          (∀ (r : List Byte) (l : List (List Byte)), s.mgt.replies = r :: l → t.sent = .mgmt (mgtFrame 0x81 r) :: s.sent) ∧
          (s.mgt.replies = [] → t.sent = .mgmt (mgtFrame 0x82 (leBytes 4 t.mgtStatus.toNat ++ [0] ++
            leBytes 1 (s.rd .MGT_CRASH_SEQ).toNat ++ [0, 0])) :: s.sent) ∧
          { t with regs := s.regs, mgt := s.mgt, sent := s.sent } = s)) ∧
    (∀ (f packet : List Byte) (claims : List (Nat × Nat)) (c : Cmd) (u : State) (full own new : Prop), s.mgt.off = false →
      parseFrame f = some (1, packet) → c = mkCmd 0 packet 0 65536 → u = s.frameReceived →
      (full ↔ 16 ≤ s.inflight8 ∨ 4096 ≤ s.inflight) →
      (own ↔ checks1to4 8 packet.length packet = none ∧ c.hdr.dest = s.islandAddr ∧ c.hdr.flags % 2 = 0 ∧ islandOp c = true) →
      (new ↔ ¬ full ∧ own ∧ (∀ e ∈ s.mgt.window, e.seq ≠ c.hdr.seq) ∧ ∀ b ∈ s.mgt.rstCmds, packetSeq b ≠ c.hdr.seq) →
      -- what the island answers
      (∀ (st : Nat) (res : List Word) (rec_ : Bool) (r : Reply) (z : List Byte),
        (full ∧ r = ⟨stBusy, stBusy, s.islandAddr, []⟩ ∧ rec_ = false ∨
          s.IslandTakes packet 0x0101 ∧ r = ⟨stOK, stOK, s.islandAddr, c.payload⟩ ∧ rec_ = true ∨
          s.IslandTakes packet 0x0102 ∧ r = ⟨stOK, stOK, s.islandAddr, u.islandIdentity⟩ ∧ rec_ = true ∨
          new ∧ lenOk c.hdr.opcode c.payload = false ∧ r = ⟨stBadLength, stBadLength, s.islandAddr, []⟩ ∧ rec_ = true ∨
          new ∧ lenOk c.hdr.opcode c.payload = true ∧ s.tag8Held c.hdr.tag = true ∧ r = ⟨stBadParam, stBadParam, s.islandAddr, []⟩ ∧
            rec_ = true ∨
          new ∧ lenOk c.hdr.opcode c.payload = true ∧ s.tag8Held c.hdr.tag = false ∧ s.skips8 c = true ∧
            r = ⟨stSkipped, stSkipped, s.islandAddr, []⟩ ∧ rec_ = false ∨
          ¬ full ∧ own ∧ rec_ = false ∧
            (∃ e, (s.mgt.window.find? fun e => e.seq = c.hdr.seq) = some e ∧ r = { e.reply with status := stDuplicate }) ∨
          ¬ full ∧ ¬ own ∧ (s.mgt.mainRun = false ∨ s.rb .MGT_CTL 0 0 0 = false) ∧ rec_ = false ∧
            st = (checks1to4 8 packet.length packet).getD stNotReady ∧ r = ⟨st, st, s.islandAddr, res⟩ ∧ res = []) →
        z = replyPacket c r →
        ∃ t, exec (.commandFrame f claims) s = .next t ∧ t.rd .MGT_CNT_FRAME_RX = satInc (s.rd .MGT_CNT_FRAME_RX) ∧
          t.mgt.window = (if rec_ then (⟨c.hdr.seq, r⟩ :: s.mgt.window).take 16 else s.mgt.window) ∧ t.mgt.lineActive = true ∧
          ((s.q 8).inflight = [] → s.mgt.replies = [] → t.sent = .mgmt (mgtFrame 0x81 z) :: s.sent ∧ t.mgt.replies = [] ∧
            t.mgt.held = s.mgt.held) ∧
          (∀ (b : List Byte) (l : List (List Byte)), (s.q 8).inflight = [] → s.mgt.replies = b :: l →
            t.sent = .mgmt (mgtFrame 0x81 b) :: s.sent ∧ t.mgt.replies = l ++ [z] ∧ t.mgt.held = s.mgt.held) ∧
          ((s.q 8).inflight ≠ [] → t.mgt.held = s.mgt.held ++ [((s.q 8).nextK, z)] ∧ t.mgt.replies = s.mgt.replies.tail) ∧
          { t with regs := s.regs, mgt := s.mgt, sent := s.sent } = s ∧
          { t.mgt with window := s.mgt.window, lineActive := s.mgt.lineActive, replies := s.mgt.replies, held := s.mgt.held } = s.mgt) ∧
      (¬ full → own → (∀ e ∈ s.mgt.window, e.seq ≠ c.hdr.seq) → (∃ b ∈ s.mgt.rstCmds, packetSeq b = c.hdr.seq) →
        ∃ t, exec (.commandFrame f claims) s = .next t ∧ { t with regs := s.regs, mgt := s.mgt, sent := s.sent } = s ∧
          t.mgt = { s.mgt with lineActive := true, rstCmds := s.mgt.rstCmds ++ [packet], replies := s.mgt.replies.tail }) ∧
      (¬ full → ¬ own → s.mgt.mainRun = true → s.rb .MGT_CTL 0 0 0 = true → checks1to4 8 packet.length packet = none →
        ∃ t, exec (.commandFrame f claims) s = .next t ∧ (t.q 8).inflight.length = (s.q 8).inflight.length + 1 ∧
          (t.q 8).nextK = (s.q 8).nextK + 1 ∧ KMap.agreeBut s.queues t.queues [8] ∧
          t.mgt = { s.mgt with lineActive := true, replies := s.mgt.replies.tail } ∧
          { t with regs := s.regs, mgt := s.mgt, sent := s.sent, queues := s.queues } = s)) ∧
    (s.fwReady = true → s.mgt.rst = false → s.mgt.off = false →
      exec .mgtHeartbeat s = .next { s with mgt := { s.mgt with mainRun := s.mgt.mainPwr, unresp := false, hb := s.vitals } }) ∧
    (s.fwReady = false ∨ s.mgt.rst = true ∨ s.mgt.off = true → exec .mgtHeartbeat s = .next s) ∧
    exec .lineActiveTimeout s = .next { s with mgt := { s.mgt with lineActive := false } }

/-- Without a heartbeat the island sets MAIN_UNRESP, counts it, clears MAIN_RUN and writes a crash record of cause 5; with SILENT_ACT 1 it also brings
the device into safe state, with 2 it resets the main side; else it may only interrupt. A silent line does what LINE_ACT says in the
same way, and nothing with LINE_TO 0 or without power. SAFE_STATE on queue 8 asserts the safe request and is answered, and a GROUP_ARM,
GROUP_START or FORCE_JUMP of a host queue at the same instant is answered BUSY and counted; with the main side unpowered it is answered OK at once.
RESET_MAIN resets the main side, writes a crash record of cause 4 and waits for the release; it is NOT_READY without MAIN_PWR. On the
other queues SAFE_STATE raises cause 1 and RESET_MAIN is BAD_PARAM. -/
def Obligations.IslandAuthority : Prop :=
  ∀ s : State,
    (s.mgt.mainPwr = false ∨ s.mgt.unresp = true ∨ s.mgt.off = true → exec .mainUnresp s = .next s) ∧
    (s.mgt.mainPwr = true → s.mgt.unresp = false → s.mgt.off = false →
      (s.rf .MGT_CTL 0 0 5 4 ≠ 1 → s.rf .MGT_CTL 0 0 5 4 ≠ 2 →
        ∃ t, exec .mainUnresp s = .next t ∧ t.mgt = { s.mgt with unresp := true, mainRun := false } ∧
          t.rd .MGT_CNT_UNRESP = satInc (s.rd .MGT_CNT_UNRESP) ∧ t.rd .MGT_CRASH_SEQ = mkW ((s.rd .MGT_CRASH_SEQ).toNat + 1) ∧
          t.rd .MGT_CRASH_i ((s.rd .MGT_CRASH_SEQ).toNat % 4 * 16) = s.rd .MGT_CRASH_SEQ ∧
          fld (t.rd .MGT_CRASH_i ((s.rd .MGT_CRASH_SEQ).toNat % 4 * 16 + 1)) 7 0 = 5 ∧
          { t with regs := s.regs, mgt := s.mgt, sent := s.sent, msixPend := s.msixPend } = s ∧
          (s.rb .MGT_INT 0 0 0 = false → t.sent = s.sent ∧ t.msixPend = s.msixPend)) ∧
      (s.rf .MGT_CTL 0 0 5 4 = 1 →
        ∃ t, exec .mainUnresp s = .next t ∧ t.mgt.safeReq = true ∧ t.mgt.unresp = true ∧ t.mgt.mainRun = false ∧
          t.mgt.rst = s.mgt.rst ∧ (s.mgt.rst = false → t.err.safe = true)) ∧
      (s.rf .MGT_CTL 0 0 5 4 = 2 →
        ∃ t, exec .mainUnresp s = .next t ∧ t.mgt.rst = true ∧ t.mgt.safeReq = true ∧ t.mgt.unresp = true ∧ t.mgt.mainRun = false)) ∧
    (s.mgt.off = true ∨ s.rf .MGT_LINE_TO 0 0 15 0 = 0 → exec .lineSilence s = .next s) ∧
    (s.mgt.off = false → s.rf .MGT_LINE_TO 0 0 15 0 ≠ 0 →
      (s.rf .MGT_CTL 0 0 7 6 ≠ 1 → s.rf .MGT_CTL 0 0 7 6 ≠ 2 →
        ∃ t, exec .lineSilence s = .next t ∧ { t with sent := s.sent, msixPend := s.msixPend } = s ∧
          (s.rb .MGT_INT 0 0 0 = false → t = s)) ∧
      (s.rf .MGT_CTL 0 0 7 6 = 1 →
        ∃ t, exec .lineSilence s = .next t ∧ t.mgt.safeReq = true ∧ t.mgt.rst = s.mgt.rst ∧ (s.mgt.rst = false → t.err.safe = true)) ∧
      (s.rf .MGT_CTL 0 0 7 6 = 2 →
        (s.mgt.mainPwr = true → ∃ t, exec .lineSilence s = .next t ∧ t.mgt.rst = true) ∧
        (s.mgt.mainPwr = false → exec .lineSilence s = .next s))) ∧
    (∀ (k : Nat) (b : List Byte) (c : Cmd) (r : Reply) (m : Mgt), c = mkCmd 0 b 0 65536 → r = ⟨stOK, stOK, s.islandAddr, []⟩ →
      s.IslandTakes b 0x0104 →
      m = { s.mgt with
        window := (⟨c.hdr.seq, r⟩ :: s.mgt.window).take 16
        replies := s.mgt.replies ++ (if (s.q 8).inflight.isEmpty then [replyPacket c r] else [])
        held := s.mgt.held ++ (if (s.q 8).inflight.isEmpty then [] else [((s.q 8).nextK, replyPacket c r)]) } →
      (s.mgt.mainPwr = false → ∀ claims, exec (.safeState 8 k b claims) s = .next { s with mgt := m }) ∧
      (s.mgt.mainPwr = true → s.mgt.rst = true →
        ∃ t, exec (.safeState 8 k b []) s = .next t ∧ t.mgt = { m with safeReq := true } ∧
          { t with mgt := s.mgt, sent := s.sent, msixPend := s.msixPend } = s) ∧
      (s.mgt.mainPwr = true → s.mgt.rst = false →
        (∃ t, exec (.safeState 8 k b []) s = .next t ∧ t.err.safe = true ∧ t.mgt.safeReq = true ∧
          ((∀ g : Fin 8, s.grpRunning g = false) → bit t.err.present 1 = true ∧ bit t.err.seen 1 = true ∧
            t.mgt = { m with safeReq := true } ∧ t.queues = s.queues)) ∧
        (∀ (p : Fin 8) (j : Nat) (y : Cmd), (s.q p).find j = some y → y.hdr.opcode ∈ [0x0402, 0x0403, 0x0407] →
          s.eligible p (s.q p) y = true → (∀ z ∈ s.chn.bcasts, z.cmd ≠ ⟨p.val, j⟩) → (s.q p).resetting = false →
          (∀ g : Fin 8, s.grpRunning g = false) →
          ∃ t, exec (.safeState 8 k b [(p.val, j)]) s = .next t ∧ t.err.safe = true ∧
            t.replyOf p j = some ⟨stBusy, stBusy, s.ownAddr, []⟩ ∧ t.rd .MGT_CNT_PREEMPT = satInc (s.rd .MGT_CNT_PREEMPT)))) ∧
    (∀ (k : Nat) (b : List Byte) (c : Cmd) (r : Reply), c = mkCmd 0 b 0 65536 → r = ⟨stNotReady, stNotReady, s.islandAddr, []⟩ →
      s.IslandTakes b 0x0103 →
      (s.mgt.mainPwr = false → exec (.resetMain 8 k b) s = .next { s with mgt := { s.mgt with
        replies := s.mgt.replies ++ (if (s.q 8).inflight.isEmpty then [replyPacket c r] else [])
        held := s.mgt.held ++ (if (s.q 8).inflight.isEmpty then [] else [((s.q 8).nextK, replyPacket c r)]) } }) ∧
      (s.mgt.mainPwr = true → s.mgt.rst = true →
        ∃ t, exec (.resetMain 8 k b) s = .next t ∧ t.mgt = { s.mgt with safeReq := true, rstCmds := s.mgt.rstCmds ++ [b] } ∧
          t.rd .MGT_CRASH_SEQ = mkW ((s.rd .MGT_CRASH_SEQ).toNat + 1) ∧
          { t with regs := s.regs, mgt := s.mgt, sent := s.sent, msixPend := s.msixPend } = s) ∧
      (s.mgt.mainPwr = true → s.mgt.rst = false →
        ∃ (t : State) (n : Nat), exec (.resetMain 8 k b) s = .next t ∧ t.mgt.rst = true ∧ t.mgt.safeReq = true ∧ t.mgt.mainRun = false ∧
          t.mgt.rstCmds = s.mgt.rstCmds ++ [b] ∧ t.mgt.window = s.mgt.window ∧ t.mgt.held = [] ∧ n < 2 ^ 32 ∧
          (s.mgt.held = [] → t.mgt.replies = s.mgt.replies) ∧
          t.rd .MGT_CRASH_SEQ = mkW (n + 1) ∧ t.rd .MGT_CRASH_i (n % 4 * 16) = mkW n ∧ fld (t.rd .MGT_CRASH_i (n % 4 * 16 + 1)) 7 0 = 4 ∧
          (∀ off, isMgtOff off = false → KMap.find? t.regs off = none) ∧
          t.fw = { s.fw with session := none } ∧ t.pending = s.pending ∧
          { t with pending := [], regs := [], fw := {}, mgt := {}, chn := {}, drawn := 0, sent := [] } =
            { State.reset with pending := [], regs := [], fw := {}, mgt := {}, chn := {}, drawn := 0, sent := [] })) ∧
    (∀ (k : Nat) (b : List Byte) (claims : List (Nat × Nat)),
      (s.mgt.off = true ∨ (mkCmd 0 b 0 65536).hdr.opcode ≠ 0x0104 → exec (.safeState 8 k b claims) s = .next s) ∧
      (s.mgt.off = true ∨ (mkCmd 0 b 0 65536).hdr.opcode ≠ 0x0103 → exec (.resetMain 8 k b) s = .next s)) ∧
    (∀ (q : Fin 10) (k : Nat) (b : List Byte) (claims : List (Nat × Nat)) (c : Cmd), q ≠ 8 →
      (s.Runs q k 0x0104 c → s.err.safe = true →
        ∃ t, exec (.safeState q k b claims) s = .next t ∧ s.Replied t q k stOK [] ∧
          t.err = { t.err with safe := true, first := s.err.first, present := s.err.present ||| 1, seen := s.err.seen ||| 1, gfenced := s.err.gfenced } ∧
          { s.sansReply t with err := s.err } = s) ∧
      (s.Runs q k 0x0104 c → s.err.safe = false →
        ∃ t, exec (.safeState q k b claims) s = .next t ∧ t.err.safe = true ∧
          ((∀ g : Fin 8, s.grpRunning g = false) → s.Replied t q k stOK [] ∧ t.err.first = 1 ∧
            t.err.present = (s.err.present ||| 1) ∧ t.err.seen = (s.err.present ||| 1))) ∧
      (s.Runs q k 0x0103 c → ∃ t, exec (.resetMain q k b) s = .next t ∧ s.RepliedOnly t q k stBadParam []))

/-- While the island has power: MAIN_PWR follows the main supplies. PWR_REQ to 0 asserts the safe request and the main reset and lowers PWR_EN;
back to 1 it raises PWR_EN; the value it has changes nothing. The loss of MAIN_PWR asserts the main reset and writes a crash record of
cause 3. RST_N low resets the main side and keeps the island and the firmware store; RST_N high alone releases nothing. At the
island's power-on every MGT register is at its reset value, PWR_EN is high and the main side is in reset. Without VDD_MG PWR_EN
is low. -/
def Obligations.PowerAndReset : Prop :=
  ∀ s : State,
    (s.mgt.off = false →
      exec .mainPwrUp s = .next { s with mgt := { s.mgt with mainPwr := true } } ∧
      (s.rb .MGT_CTL 0 0 3 = false →
        ∃ t, exec (.pwrReq true) s = .next t ∧ t.mgt = { s.mgt with pwrEn := true } ∧
          t.rd .MGT_CTL = (setBit (s.rd .MGT_CTL) 3 true &&& 0xFF) ∧ KMap.agreeBut s.regs t.regs [RegId.off .MGT_CTL 0 0] ∧
          { t with regs := s.regs, mgt := s.mgt } = s) ∧
      (s.rb .MGT_CTL 0 0 3 = true →
        (s.mgt.rst = false → ∃ t, exec (.pwrReq false) s = .next t ∧ t.mgt.pwrEn = false ∧ t.mgt.rst = true ∧ t.mgt.safeReq = true ∧
          t.mgt.mainRun = false ∧ t.mgt.mainPwr = s.mgt.mainPwr ∧ t.groups = [] ∧ t.tables = [] ∧ t.onchip = []) ∧
        (s.mgt.rst = true → ∃ t, exec (.pwrReq false) s = .next t ∧ t.mgt = { s.mgt with pwrEn := false, safeReq := true } ∧
          t.rd .MGT_CTL = (setBit (s.rd .MGT_CTL) 3 false &&& 0xFF) ∧ { t with regs := s.regs, mgt := s.mgt } = s)) ∧
      (∀ on : Bool, s.rb .MGT_CTL 0 0 3 = on →
        ∃ t, exec (.pwrReq on) s = .next t ∧ t.rd .MGT_CTL = s.rd .MGT_CTL &&& 0xFF ∧ KMap.agreeBut s.regs t.regs [RegId.off .MGT_CTL 0 0] ∧
          { t with regs := s.regs } = s) ∧
      (s.mgt.mainPwr = true → s.mgt.rst = true →
        ∃ t, exec .mainPwrLoss s = .next t ∧ t.mgt = { s.mgt with mainPwr := false, mainRun := false, safeReq := true } ∧
          t.rd .MGT_CRASH_SEQ = mkW ((s.rd .MGT_CRASH_SEQ).toNat + 1) ∧
          fld (t.rd .MGT_CRASH_i ((s.rd .MGT_CRASH_SEQ).toNat % 4 * 16 + 1)) 7 0 = 3 ∧ { t with regs := s.regs, mgt := s.mgt } = s) ∧
      (s.mgt.mainPwr = true → s.mgt.rst = false →
        ∃ (t : State) (n : Nat), exec .mainPwrLoss s = .next t ∧ t.mgt.mainPwr = false ∧ t.mgt.mainRun = false ∧ t.mgt.rst = true ∧
          t.mgt.safeReq = true ∧ n < 2 ^ 32 ∧ t.rd .MGT_CRASH_SEQ = mkW (n + 1) ∧ t.rd .MGT_CRASH_i (n % 4 * 16) = mkW n ∧
          fld (t.rd .MGT_CRASH_i (n % 4 * 16 + 1)) 7 0 = 3 ∧ t.groups = [] ∧ t.tables = [] ∧ t.onchip = [])) ∧
    (s.mgt.mainPwr = false ∨ s.mgt.off = true → exec .mainPwrLoss s = .next s) ∧
    (s.mgt.off = true → exec .mainPwrUp s = .next s ∧ ∀ on : Bool, exec (.pwrReq on) s = .next s) ∧
    (s.mgt.rst = true → exec (.rstN true) s = .next { s with mgt := { s.mgt with down := true } }) ∧
    (s.mgt.rst = false →
      ∃ t, exec (.rstN true) s = .next t ∧ t.mgt = { s.mgt with
        down := true, rst := true, mainRun := false, replies := s.mgt.replies ++ s.mgt.held.map (fun x => x.2), held := [] } ∧
        t.fw = { s.fw with session := none } ∧ t.pending = s.pending ∧
        (∀ off, KMap.find? t.regs off = if isMgtOff off then KMap.find? s.regs off else none) ∧
        { t with pending := [], regs := [], fw := {}, mgt := {}, chn := {}, drawn := 0, sent := [] } =
          { State.reset with pending := [], regs := [], fw := {}, mgt := {}, chn := {}, drawn := 0, sent := [] }) ∧
    exec (.rstN false) s = .next { s with mgt := { s.mgt with down := false } } ∧
    (∃ t, exec .islandPowerOn s = .next t ∧ t.mgt = { rst := true, down := s.mgt.down } ∧
      (∀ off, isMgtOff off = true → KMap.find? t.regs off = none) ∧ t.rd .MGT_CTL = 9 ∧ t.rd .MGT_CRASH_SEQ = 0 ∧
      (s.mgt.rst = false → t.regs = [] ∧ t.groups = [] ∧ t.tables = [] ∧ t.onchip = [])) ∧
    exec .islandPowerLoss s = .next { s with mgt := { s.mgt with off := true, pwrEn := false, lineActive := false } }

/-! ### Errors, safe state, firmware and boot -/

/-- A supply beyond a cause-6 threshold sets its bit, counts, and brings the device into safe state: SAFE is set, every DAC goes to mid-scale, every
marker low, no group stays running. With SAFE already 1 the cause is only added; a supply whose bit is set changes nothing.
BROWN_OUT_CLEAR takes the cause away and leaves SAFE. SAFE_CLR with no cause but cause 1 leaves safe state and releases the
island's request; with another cause present it is ignored and counted. CONSUME moves ERR_LOG_RD past the selected record, and never back. A fabric step withdrawn once is
counted as a transient fault; a second time its group is fenced, or cause 4 is raised. -/
def Obligations.SafeStateAndFaults : Prop :=
  ∀ s : State, s.mgt.rst = false →
    (∀ n : Fin 16, s.rb .SYS_PWR 0 0 n = false →
      (s.err.safe = false →
        ∃ t, exec (.brownOut n) s = .next t ∧ t.err.safe = true ∧ (∀ g : Fin 8, t.grpRunning g = false) ∧
          (∀ d : Fin 32, (t.dac d).mode = .mid ∧ (t.dac d).code = 0) ∧ (∀ m : Fin 16, (t.mrk m).high = false) ∧
          ((∀ g : Fin 8, s.grpRunning g = false) →
            t.rd .SYS_PWR = setBit (s.rd .SYS_PWR) n true ∧ t.rd .SYS_CNT_BROWNOUT = satInc (s.rd .SYS_CNT_BROWNOUT) ∧
            t.rd .ERR_CNT_SAFE = satInc (s.rd .ERR_CNT_SAFE) ∧ t.err.first = 6 ∧ t.err.present = (s.err.present ||| 0x20) ∧
            t.err.seen = (s.err.present ||| 0x20) ∧ t.rd .MGT_CRASH_SEQ = mkW ((s.rd .MGT_CRASH_SEQ).toNat + 1) ∧
            t.groups = s.groups ∧ t.tables = s.tables ∧ t.onchip = s.onchip ∧ t.ext = s.ext ∧ t.queues = s.queues ∧ t.mgt = s.mgt)) ∧
      (s.err.safe = true →
        ∃ t, exec (.brownOut n) s = .next t ∧ t.rd .SYS_PWR = setBit (s.rd .SYS_PWR) n true ∧
          t.rd .SYS_CNT_BROWNOUT = satInc (s.rd .SYS_CNT_BROWNOUT) ∧
          t.err = { s.err with present := s.err.present ||| 0x20, seen := s.err.seen ||| 0x20 } ∧ { t with regs := s.regs, err := s.err } = s)) ∧
    (∀ n : Fin 16, s.rb .SYS_PWR 0 0 n = true → exec (.brownOut n) s = .next s) ∧
    (∃ t, exec .brownOutClear s = .next t ∧ t.rd .SYS_PWR = 0 ∧ t.err = { s.err with present := s.err.present &&& ~~~0x20 } ∧
      KMap.agreeBut s.regs t.regs [RegId.off .SYS_PWR 0 0] ∧ { t with regs := s.regs, err := s.err } = s) ∧
    (s.err.safe = false → s.err.present &&& ~~~1 = 0 → exec .safeClr s = .next { s with err := { s.err with present := 0 } }) ∧
    (s.err.safe = true → s.err.present &&& ~~~1 = 0 →
      ∃ t, exec .safeClr s = .next t ∧ t.err = { s.err with safe := false, present := 0 } ∧ t.mgt = { s.mgt with safeReq := false } ∧
        { t with err := s.err, mgt := s.mgt, pairs := s.pairs } = s) ∧
    (s.err.present &&& ~~~1 ≠ 0 →
      ∃ t, exec .safeClr s = .next t ∧ t.err.safe = s.err.safe ∧ t.err.present = s.err.present ∧
        t.rd .ERR_CNT_IGNORED = satInc (s.rd .ERR_CNT_IGNORED) ∧ (bit s.err.present 1 = true → t.rd .SYS_LAST_IGN = mkW (0xFC00C + 3 * 2 ^ 20 + 2 ^ 31)) ∧
        { t with regs := s.regs, err := s.err, drawn := s.drawn } = s) ∧
    (∀ d : Nat, d = (s.err.wr - s.rd .ERR_LOG_IDX).toNat → 0 < d → d < 2 ^ 31 →
      (d ≤ (s.err.wr - s.err.rd).toNat →
        exec .consume s = .next { s with err := { s.err with rd := s.rd .ERR_LOG_IDX + 1 } }) ∧
      ((s.err.wr - s.err.rd).toNat < d → exec .consume s = .next s)) ∧
    (s.err.wr = s.rd .ERR_LOG_IDX ∨ 2 ^ 31 ≤ (s.err.wr - s.rd .ERR_LOG_IDX).toNat → exec .consume s = .next s) ∧
    (∀ stage tag : Nat,
      (∀ grp : Option (Fin 8), ∃ t, exec (.handshakeTimeout stage tag grp false) s = .next t ∧
        t.rd .ERR_CNT_HSK_TO = satInc (s.rd .ERR_CNT_HSK_TO) ∧ t.rd .ERR_CNT_TRANSIENT = satInc (s.rd .ERR_CNT_TRANSIENT) ∧
        { t with regs := s.regs, err := { t.err with log := s.err.log, wr := s.err.wr, rd := s.err.rd } } = s) ∧
      (∀ g : Fin 8, ∃ t, exec (.handshakeTimeout stage tag (some g) true) s = .next t ∧ bit t.err.gfenced g = true ∧ t.grpRunning g = false ∧
        (s.grpRunning g = false → t.rd .ERR_CNT_HSK_TO = satInc (satInc (s.rd .ERR_CNT_HSK_TO)) ∧ t.groups = s.groups ∧
          (∀ h : Fin 8, h ≠ g → bit t.err.gfenced h = bit s.err.gfenced h))) ∧
      (∃ t, exec (.handshakeTimeout stage tag none true) s = .next t ∧ t.err.safe = true ∧
        ((∀ g : Fin 8, s.grpRunning g = false) → bit t.err.present 3 = true ∧
          t.rd .ERR_CNT_HSK_TO = satInc (satInc (s.rd .ERR_CNT_HSK_TO)) ∧ t.rd .ERR_CNT_LASTING = satInc (s.rd .ERR_CNT_LASTING))))

/-- FW_BEGIN of an allowed length erases the slot that does not run and opens a session of its queue; another queue's session makes it BUSY,
another length is BAD_PARAM. FW_DATA at the offset of the bytes held appends its words, which also lie in the firmware region while DRM
runs; without a session of its queue it is NOT_READY, at another offset BAD_PARAM, beyond the length BAD_LENGTH. FW_COMMIT of a
whole authentic image marks its slot active and answers its version; of another one it answers AUTH_FAIL and closes the session;
without every byte it is NOT_READY. BOOT releases a reset that may be released, answers the waiting RESET_MAIN, zeroes memory and runs
the active slot, else the other with FALLBACK, else recovery, and checks the sine table of the firmware that runs; with set 0 or 1
fenced the control processor stays halted; it does nothing where the reset may not be released or the device has booted. A watchdog
expiry restarts the processor, and a command that had begun completes with TIMEOUT; one that comes within 10 s of the last restart, or
with an image that is not authentic, halts it, with safe state. -/
def Obligations.FirmwareAndBoot : Prop :=
  ∀ s : State,
    (∀ (q : Fin 10) (k : Nat) (c : Cmd) (len : Nat), s.Runs q k 0x0A01 c → len = (wAt c.payload 0).toNat →
      (len < 320 ∨ 459008 < len ∨ len % 64 ≠ 0 → ∃ t, exec (.fwBegin q k) s = .next t ∧ s.RepliedOnly t q k stBadParam []) ∧
      (320 ≤ len → len ≤ 459008 → len % 64 = 0 →
        (∀ x : FwSession, s.fw.session = some x → x.queue ≠ s.sessionQueue c ⟨q, k⟩ →
          ∃ t, exec (.fwBegin q k) s = .next t ∧ s.RepliedOnly t q k stBusy []) ∧
        ((∀ x : FwSession, s.fw.session = some x → x.queue = s.sessionQueue c ⟨q, k⟩) →
          ∃ t, exec (.fwBegin q k) s = .next t ∧ s.Replied t q k stOK [mkW (1 - s.slotRun)] ∧ t.slotImage (1 - s.slotRun) = [] ∧
            t.slotImage s.slotRun = s.slotImage s.slotRun ∧ t.fw.active = s.fw.active ∧
            t.fw.session = some ⟨s.sessionQueue c ⟨q, k⟩, 1 - s.slotRun, len, []⟩ ∧ { s.sansReply t with fw := s.fw } = s))) ∧
    (∀ (q : Fin 10) (k : Nat) (c : Cmd), s.Runs q k 0x0A02 c →
      (s.fw.session = none → ∃ t, exec (.fwData q k) s = .next t ∧ s.RepliedOnly t q k stNotReady []) ∧
      (∀ (x : FwSession) (data all : List Byte) (first : Nat), s.fw.session = some x → data = bytesOf (c.payload.drop 1) →
        all = x.data ++ data → first = s.firmwareFirst * 65536 + x.data.length →
        (x.queue ≠ s.sessionQueue c ⟨q, k⟩ → ∃ t, exec (.fwData q k) s = .next t ∧ s.RepliedOnly t q k stNotReady []) ∧
        (x.queue = s.sessionQueue c ⟨q, k⟩ →
          ((wAt c.payload 0).toNat ≠ x.data.length → ∃ t, exec (.fwData q k) s = .next t ∧ s.RepliedOnly t q k stBadParam []) ∧
          ((wAt c.payload 0).toNat = x.data.length → x.len < all.length →
            ∃ t, exec (.fwData q k) s = .next t ∧ s.RepliedOnly t q k stBadLength []) ∧
          ((wAt c.payload 0).toNat = x.data.length → all.length ≤ x.len →
            ∃ t, exec (.fwData q k) s = .next t ∧ s.Replied t q k stOK [mkW all.length] ∧ t.slotImage x.slot = all ∧
              t.fw.session = some { x with data := all } ∧ t.fw.active = s.fw.active ∧
              (s.drmOn = false → t.ext = s.ext) ∧
              (s.drmOn = true → (∀ i : Nat, i < data.length → t.byteAt false (first + i) = data.getD i 0) ∧
                ∀ a : Nat, a < first ∨ first + data.length ≤ a → KMap.find? t.ext a = KMap.find? s.ext a) ∧
              { s.sansReply t with fw := s.fw, ext := s.ext } = s)))) ∧
    (∀ (q : Fin 10) (k : Nat) (c : Cmd), s.Runs q k 0x0A03 c →
      (s.fw.session = none → ∃ t, exec (.fwCommit q k) s = .next t ∧ s.RepliedOnly t q k stNotReady []) ∧
      (∀ x : FwSession, s.fw.session = some x →
        (x.queue ≠ s.sessionQueue c ⟨q, k⟩ ∨ x.data.length < x.len →
          ∃ t, exec (.fwCommit q k) s = .next t ∧ s.RepliedOnly t q k stNotReady []) ∧
        (x.queue = s.sessionQueue c ⟨q, k⟩ → x.len ≤ x.data.length →
          (imageReason x.data ≠ 0 → ∃ t, exec (.fwCommit q k) s = .next t ∧ s.Replied t q k stAuthFail [] ∧
            t.fw = { s.fw with session := none } ∧ { s.sansReply t with fw := s.fw } = s) ∧
          (imageReason x.data = 0 → ∃ t, exec (.fwCommit q k) s = .next t ∧ s.Replied t q k stOK [imageVersion x.data] ∧
            t.fw = { s.fw with active := x.slot, session := none } ∧ { s.sansReply t with fw := s.fw } = s)))) ∧
    (∀ (rows : List BistRow) (rA rB : Bool) (link : Option (Nat × Nat)) (table : Word),
      (s.mayRelease = false ∨ s.mgt.rst = false ∧ s.rd .SYS_BOOT ≠ 0 → exec (.boot rows rA rB link table) s = .next s) ∧
      (s.mayRelease = true → s.mgt.rst = true →
        ∃ t, exec (.boot rows rA rB link table) s = .next t ∧ t.mgt.rst = false ∧ t.mgt.safeReq = false ∧ t.mgt.rstCmds = [] ∧
          t.onchip = [] ∧ t.mem.bistDone = true ∧
          (∀ b : List Byte, s.mgt.rstCmds = [b] → (s.q 8).inflight = [] → (∀ e ∈ s.mgt.window, e.seq ≠ (mkCmd 0 b 0 65536).hdr.seq) →
            t.mgt.replies = s.mgt.replies ++ [replyPacket (mkCmd 0 b 0 65536) ⟨stOK, stOK, s.islandAddr, []⟩]))) ∧
    (∀ (rA rB : Bool) (link : Option (Nat × Nat)) (table : Word) (a ra rb : Nat), s.mayRelease = true → s.mgt.rst = true →
      a = s.fw.active % 2 → ra = (if (if a = 0 then rA else rB) then 4 else imageReason (s.slotImage a)) →
      rb = (if (if a = 0 then rB else rA) then 4 else imageReason (s.slotImage (1 - a))) →
      ((s.bset 0).fenced = true ∨ (s.bset 1).fenced = true →
        ∃ t, exec (.boot [] rA rB link table) s = .next t ∧ t.rd .SYS_BOOT = 0x10 ∧ t.fwReady = s.fwReady ∧ t.mgt.mainRun = s.mgt.mainRun) ∧
      ((s.bset 0).fenced = false → (s.bset 1).fenced = false →
        ∃ t, exec (.boot [] rA rB link table) s = .next t ∧ t.fwReady = true ∧ t.mgt.mainRun = true ∧ t.mgt.unresp = false ∧
          (ra = 0 → t.rd .SYS_BOOT = mkW (a + 32) ∧ t.rd .SYS_FWVER = imageVersion (s.slotImage a)) ∧
          (ra ≠ 0 → rb = 0 → t.rd .SYS_BOOT = mkW (1 - a + 4 + 32 + ra * (if a = 0 then 256 else 4096)) ∧
            t.rd .SYS_FWVER = imageVersion (s.slotImage (1 - a))) ∧
          (ra = 0 ∨ rb = 0 → t.rd .MEM_PWR_PERMIT = 0xFC ∧ t.rd .HRM_TBL_CRC = table ∧
            t.rb .HRM_STATUS 0 0 0 = decide (table = sineCrc) ∧ t.rb .HRM_STATUS 0 0 1 = decide (table ≠ sineCrc)) ∧
          (ra ≠ 0 → rb ≠ 0 → t.recovery = true ∧ t.rd .SYS_BOOT = mkW (8 + (if a = 0 then ra + 16 * rb else rb + 16 * ra) * 256)))) ∧
    (s.mgt.rst = true ∨ s.fwReady = false → exec .watchdogExpiry s = .next s) ∧
    (∀ soon : Prop, s.mgt.rst = false → s.fwReady = true →
      (soon ↔ ∃ t0 : Nat, s.err.lastRestart = some t0 ∧ s.now < t0 + 10 * grainsPerSec) →
      (¬ soon → imageReason (s.slotImage s.slotRun) = 0 →
        ((List.range 10).flatMap s.begunOf = [] →
          ∃ t, exec .watchdogExpiry s = .next t ∧ t.rd .ERR_CNT_WDOG = satInc (s.rd .ERR_CNT_WDOG) ∧ t.err.lastRestart = some s.now ∧
            t.rd .MGT_CRASH_SEQ = mkW ((s.rd .MGT_CRASH_SEQ).toNat + 1) ∧
            fld (t.rd .MGT_CRASH_i ((s.rd .MGT_CRASH_SEQ).toNat % 4 * 16 + 1)) 7 0 = 1 ∧
            { t with regs := s.regs, err := s.err } = s) ∧
        (∀ (q : Fin 9) (k : Nat) (c : Cmd), (List.range 10).flatMap s.begunOf = [⟨q.val, k⟩] → (s.q q).find k = some c → c.phase = .begun →
          (s.q q).resetting = false → (∀ b ∈ s.chn.bcasts, b.cmd ≠ ⟨q.val, k⟩) →
          (∀ i, (∀ j, (s.seg i).job = some j → ¬(j.q = q ∧ j.k = k)) ∧ ∀ j ∈ (s.seg i).waiting, ¬(j.q = q ∧ j.k = k)) →
          ∃ t, exec .watchdogExpiry s = .next t ∧ t.replyOf q k = some ⟨stTimeout, stTimeout, s.ownAddr, []⟩ ∧
            (∃ p ∈ (t.q q).skipClasses, p.1 = c.hdr.cls) ∧ KMap.agreeBut s.queues t.queues [q.val] ∧ t.sent = s.sent ∧ t.fwReady = true)) ∧
      (soon ∨ imageReason (s.slotImage s.slotRun) ≠ 0 →
        ∃ t, exec .watchdogExpiry s = .next t ∧ t.fwReady = false ∧ t.err.wdogHalt = true ∧ t.err.safe = true ∧
          ((∀ g : Fin 8, s.grpRunning g = false) → bit t.err.present 4 = true ∧ t.rd .ERR_CNT_WDOG = satInc (s.rd .ERR_CNT_WDOG))))
end

