-- ==== Sys2Proof/Laws/KMap.lean ====
section
/-!
SUPPORT. The laws of the sparse maps: reading back what was written, leaving every other key alone, and
keeping the strict order and the canonical form.
-/
namespace Sys2Proof.Machine

variable {α : Type}

@[simp] theorem KMap.find?_insert_same (m : KMap α) (k : Nat) (v : α) :
    KMap.find? (KMap.insert m k v) k = some v := by
  induction m with
  | nil => simp [KMap.insert, KMap.find?]
  | cons p t ih =>
    obtain ⟨a, b⟩ := p
    simp only [KMap.insert]
    split
    · simp [KMap.find?]
    · split
      · simp [KMap.find?]
      · rename_i h1 h2
        simp [KMap.find?, ih]
        omega

theorem KMap.find?_insert_ne (m : KMap α) {k k' : Nat} (v : α) (h : k' ≠ k) :
    KMap.find? (KMap.insert m k v) k' = KMap.find? m k' := by
  induction m with
  | nil => simp [KMap.insert, KMap.find?, h.symm]
  | cons p t ih =>
    obtain ⟨a, b⟩ := p
    simp only [KMap.insert]
    split
    · simp [KMap.find?, h.symm]
    · split
      · rename_i h1 h2
        subst h2
        simp [KMap.find?, h.symm]
      · simp [KMap.find?, ih]

@[simp] theorem KMap.find?_erase_same (m : KMap α) (k : Nat) :
    KMap.find? (KMap.erase m k) k = none := by
  induction m with
  | nil => rfl
  | cons p t ih =>
    obtain ⟨a, b⟩ := p
    simp only [KMap.erase]
    split
    · exact ih
    · rename_i h
      simp [KMap.find?, h, ih]

theorem KMap.find?_erase_ne (m : KMap α) {k k' : Nat} (h : k' ≠ k) :
    KMap.find? (KMap.erase m k) k' = KMap.find? m k' := by
  induction m with
  | nil => rfl
  | cons p t ih =>
    obtain ⟨a, b⟩ := p
    simp only [KMap.erase]
    split
    · rename_i h1
      subst h1
      simp [KMap.find?, ih, h.symm]
    · simp [KMap.find?, ih]

@[simp] theorem KMap.getD_insert_same (m : KMap α) (k : Nat) (v d : α) :
    KMap.getD (KMap.insert m k v) k d = v := by
  simp [KMap.getD]

theorem KMap.getD_insert_ne (m : KMap α) {k k' : Nat} (v d : α) (h : k' ≠ k) :
    KMap.getD (KMap.insert m k v) k' d = KMap.getD m k' d := by
  simp [KMap.getD, KMap.find?_insert_ne m v h]

@[simp] theorem KMap.getD_put_same [DecidableEq α] (m : KMap α) (k : Nat) (v d : α) :
    KMap.getD (KMap.put m k v d) k d = v := by
  unfold KMap.put
  split <;> simp_all [KMap.getD]

theorem KMap.getD_put_ne [DecidableEq α] (m : KMap α) {k k' : Nat} (v d d' : α) (h : k' ≠ k) :
    KMap.getD (KMap.put m k v d) k' d' = KMap.getD m k' d' := by
  unfold KMap.put
  split <;> simp [KMap.getD, KMap.find?_erase_ne _ h, KMap.find?_insert_ne _ _ h]

theorem KMap.above_insert (m : KMap α) {a k : Nat} (v : α) (h : a < k) (hm : KMap.above a m = true) :
    KMap.above a (KMap.insert m k v) = true := by
  induction m with
  | nil => simp [KMap.insert, KMap.above, h]
  | cons p t ih =>
    obtain ⟨b, c⟩ := p
    simp only [KMap.above, List.all_cons, Bool.and_eq_true, decide_eq_true_eq] at hm ih
    simp only [KMap.insert]
    split
    · simp [KMap.above, h, hm.1]
      simpa using hm.2
    · split
      · simp [KMap.above, h]
        simpa using hm.2
      · simp only [KMap.above, List.all_cons, Bool.and_eq_true, decide_eq_true_eq]
        exact ⟨hm.1, ih hm.2⟩

theorem KMap.above_mono (m : KMap α) {a b : Nat} (h : a < b) (hm : KMap.above b m = true) :
    KMap.above a m = true := by
  simp only [KMap.above, List.all_eq_true, decide_eq_true_eq] at *
  intro p hp
  exact Nat.lt_trans h (hm p hp)

theorem KMap.wf_insert (m : KMap α) (k : Nat) (v : α) (hm : KMap.wf m = true) :
    KMap.wf (KMap.insert m k v) = true := by
  induction m with
  | nil => simp [KMap.insert, KMap.wf, KMap.above]
  | cons p t ih =>
    obtain ⟨a, b⟩ := p
    simp only [KMap.wf, Bool.and_eq_true] at hm
    simp only [KMap.insert]
    split
    · rename_i h
      simp only [KMap.wf, Bool.and_eq_true]
      refine ⟨?_, hm.1, hm.2⟩
      simp only [KMap.above, List.all_cons, Bool.and_eq_true, decide_eq_true_eq]
      exact ⟨h, KMap.above_mono t h hm.1⟩
    · split
      · rename_i h1 h2
        subst h2
        simp only [KMap.wf, Bool.and_eq_true]
        exact hm
      · rename_i h1 h2
        simp only [KMap.wf, Bool.and_eq_true]
        exact ⟨KMap.above_insert t v (by omega) hm.1, ih hm.2⟩

theorem KMap.mem_erase {m : KMap α} {k : Nat} {p : Nat × α} (h : p ∈ KMap.erase m k) : p ∈ m := by
  induction m with
  | nil => simpa [KMap.erase] using h
  | cons q t ih =>
    obtain ⟨a, b⟩ := q
    simp only [KMap.erase] at h
    split at h
    · exact List.mem_cons_of_mem _ (ih h)
    · rcases List.mem_cons.mp h with h | h
      · exact h ▸ List.mem_cons_self ..
      · exact List.mem_cons_of_mem _ (ih h)

theorem KMap.mem_insert {m : KMap α} {k : Nat} {v : α} {p : Nat × α}
    (h : p ∈ KMap.insert m k v) : p = (k, v) ∨ p ∈ m := by
  induction m with
  | nil => simpa [KMap.insert] using h
  | cons q t ih =>
    obtain ⟨a, b⟩ := q
    simp only [KMap.insert] at h
    split at h
    · simpa using h
    · split at h
      · rcases List.mem_cons.mp h with h | h
        · exact .inl h
        · exact .inr (List.mem_cons_of_mem _ h)
      · rcases List.mem_cons.mp h with h | h
        · exact .inr (h ▸ List.mem_cons_self ..)
        · exact (ih h).imp id (List.mem_cons_of_mem _)

theorem KMap.wf_erase (m : KMap α) (k : Nat) (hm : KMap.wf m = true) :
    KMap.wf (KMap.erase m k) = true := by
  induction m with
  | nil => rfl
  | cons p t ih =>
    obtain ⟨a, b⟩ := p
    simp only [KMap.wf, Bool.and_eq_true] at hm
    simp only [KMap.erase]
    split
    · exact ih hm.2
    · simp only [KMap.wf, Bool.and_eq_true]
      refine ⟨?_, ih hm.2⟩
      have h := hm.1
      simp only [KMap.above, List.all_eq_true] at *
      exact fun p hp => h p (KMap.mem_erase hp)

/-- Writing keeps the canonical form. -/
theorem KMap.canon_put [DecidableEq α] (d : Nat → α) (m : KMap α) (k : Nat) (v : α)
    (hm : KMap.canon d m = true) : KMap.canon d (KMap.put m k v (d k)) = true := by
  simp only [KMap.canon, Bool.and_eq_true, List.all_eq_true, decide_eq_true_eq] at *
  unfold KMap.put
  split
  · exact ⟨KMap.wf_erase m k hm.1, fun p hp => hm.2 p (KMap.mem_erase hp)⟩
  · refine ⟨KMap.wf_insert m k v hm.1, fun p hp => ?_⟩
    rcases KMap.mem_insert hp with rfl | h
    · assumption
    · exact hm.2 p h

end Sys2Proof.Machine
end

