-- ==== Sys2Proof/Laws/KeepBase.lean ====
section
/-!
SUPPORT. What an operation keeps whatever it does: the queue of waiting commands, and the canonical form of State. One lemma for
each way of putting operations together.
-/
namespace Sys2Proof.Machine

/-- `t` has the waiting commands of `s`, and is in canonical form where `s` is. -/
def Kept (s t : State) : Prop := t.pending = s.pending ∧ (s.Canonical → t.Canonical)

theorem Kept.rfl {s : State} : Kept s s := ⟨Eq.refl _, id⟩

theorem Kept.trans {a b c : State} (h : Kept a b) (k : Kept b c) : Kept a c :=
  ⟨k.1.trans h.1, fun x => k.2 (h.2 x)⟩

theorem Kept.ite {s0 a b : State} {c : Prop} [Decidable c] (ha : Kept s0 a) (hb : Kept s0 b) :
    Kept s0 (if c then a else b) := by split <;> assumption

theorem Kept.foldl {α : Type} {s0 s : State} {l : List α} {f : State → α → State}
    (hf : ∀ (x : State) (a : α), Kept s0 x → Kept s0 (f x a)) (h : Kept s0 s) : Kept s0 (l.foldl f s) := by
  induction l generalizing s with
  | nil => exact h
  | cons a t ih => exact ih (hf s a h)

/-- The keys of a map of instances after one instance changes. -/
theorem Kept.fsts {α β : Type} {m : KMap α} {f : Nat × α → Nat × β} (hf : ∀ p, (f p).1 = p.1) (h : KMap.wf m = true) :
    KMap.wf (m.map f) = true := by
  induction m with
  | nil => exact h
  | cons p t ih =>
    obtain ⟨a, b⟩ := p
    simp only [KMap.wf, Bool.and_eq_true] at h
    have e : f (a, b) = (a, (f (a, b)).2) := Prod.ext (hf _) (Eq.refl _)
    rw [List.map_cons, e]
    simp only [KMap.wf, Bool.and_eq_true]
    refine ⟨?_, ih h.2⟩
    simp only [KMap.above, List.all_eq_true, decide_eq_true_eq, List.mem_map] at *
    rintro q ⟨p, hp, rfl⟩
    rw [hf]
    exact h.1 p hp

theorem KMap.wf_filter {α : Type} {m : KMap α} (p : Nat × α → Bool) (h : KMap.wf m = true) : KMap.wf (m.filter p) = true := by
  induction m with
  | nil => exact h
  | cons q t ih =>
    simp only [KMap.wf, Bool.and_eq_true] at h
    rw [List.filter_cons]
    split
    · simp only [KMap.wf, Bool.and_eq_true]
      refine ⟨?_, ih h.2⟩
      simp only [KMap.above, List.all_eq_true, decide_eq_true_eq] at *
      exact fun x hx => h.1 x (List.mem_filter.mp hx).1
    · exact ih h.2

theorem KMap.canon_filter {α : Type} [DecidableEq α] {d : Nat → α} {m : KMap α} (p : Nat × α → Bool)
    (h : KMap.canon d m = true) : KMap.canon d (m.filter p) = true := by
  simp only [KMap.canon, Bool.and_eq_true, List.all_eq_true] at *
  exact ⟨KMap.wf_filter p h.1, fun x hx => h.2 x (List.mem_filter.mp hx).1⟩

theorem KMap.wf_put {α : Type} [DecidableEq α] (m : KMap α) (k : Nat) (v d : α) (h : KMap.wf m = true) :
    KMap.wf (KMap.put m k v d) = true := by
  unfold KMap.put
  split
  · exact KMap.wf_erase m k h
  · exact KMap.wf_insert m k v h

/-- A change of fields that are no part of the claim. -/
theorem Kept.upd (s0 t : State) (x_msixPend) (x_tb) (x_ev) (x_err) (x_fwReady) (x_mem) (x_drm) (x_ptp) (x_chn) (x_mgt) (x_fw) (x_link) (x_pci) (x_slackFrom) (x_enWait) (x_drawn) (x_sent) :
    Kept s0 (State.mk t.pending t.regs t.msix x_msixPend t.queues x_tb t.plls t.segs t.groups t.tables t.partials t.chans t.wins t.dacs t.pins t.pairs t.markers t.bins x_ev x_err t.onchip t.ext x_fwReady t.bsets x_mem x_drm t.adcs t.netPorts t.streams t.subs x_ptp x_chn t.ports x_mgt x_fw x_link x_pci x_slackFrom x_enWait t.latches x_drawn x_sent) = Kept s0 t := Eq.refl _

theorem Kept.map {s0 s t : State} (h : Kept s0 s) (hp : t.pending = s.pending) (hc : s.Canonical → t.Canonical) :
    Kept s0 t := ⟨hp.trans h.1, fun c => hc (h.2 c)⟩

/-- The operation's answer, where it has one, is kept. -/
def KeptO (s0 : State) (o : Option State) : Prop := ∀ t, o = some t → Kept s0 t

theorem KeptO.getD {s0 d : State} {o : Option State} (h : KeptO s0 o) (hd : Kept s0 d) : Kept s0 (o.getD d) := by
  cases o with
  | none => exact hd
  | some t => exact h t (Eq.refl _)

theorem Kept.cut {s0 g : State} (x : State) (h : Kept s0 x) (k : Kept s0 x → Kept s0 g) : Kept s0 g := k h


theorem Kept.mk {s0 t : State} {regs msix queues plls segs groups tables partials chans wins dacs pins pairs markers bins onchip ext bsets adcs netPorts streams subs ports latches} {x_msixPend} {x_tb} {x_ev} {x_err} {x_fwReady} {x_mem} {x_drm} {x_ptp} {x_chn} {x_mgt} {x_fw} {x_link} {x_pci} {x_slackFrom} {x_enWait} {x_drawn} {x_sent}
    (hk : Kept s0 t)
    (hw : t.Canonical → (State.mk t.pending regs msix x_msixPend queues x_tb plls segs groups tables partials chans wins dacs pins pairs markers bins x_ev x_err onchip ext x_fwReady bsets x_mem x_drm adcs netPorts streams subs x_ptp x_chn ports x_mgt x_fw x_link x_pci x_slackFrom x_enWait latches x_drawn x_sent).Canonical) :
    Kept s0 (State.mk t.pending regs msix x_msixPend queues x_tb plls segs groups tables partials chans wins dacs pins pairs markers bins x_ev x_err onchip ext x_fwReady bsets x_mem x_drm adcs netPorts streams subs x_ptp x_chn ports x_mgt x_fw x_link x_pci x_slackFrom x_enWait latches x_drawn x_sent) :=
  hk.map (Eq.refl _) hw

/-- Memory's canonical form in its two parts. -/
theorem Memory.wf_iff {s : State} : Memory.wf s = true ↔ KMap.canon (fun _ => 0) s.onchip = true ∧ KMap.wf s.ext = true := by
  simp only [Memory.wf, Bool.and_eq_true]

end Sys2Proof.Machine
end

