-- ==== Sys2Proof/Laws/KeepOps.lean ====
section
/-! SUPPORT. The operations of Machine/Ops.lean keep the waiting commands and the canonical form. -/
set_option linter.unusedVariables false
namespace Sys2Proof.Machine

theorem State.wr_kept {s0 s : State} (r : RegId) (i j : Nat) (v : Word) (h : Kept s0 s) : Kept s0 (s.wr r i j v) :=
  h.map (Eq.refl _) fun ⟨h0, h1, h2, h3, h4, h5, h6, h7, h8, h9, h10, h11, h12, h13, h14, h15, h16, h17, h18, h19, h20, h21, h22⟩ =>
    ⟨h0, KMap.wf_put _ _ _ _ h1, h2, h3, h4, h5, h6, h7, h8, h9, h10, h11, h12, h13, h14, h15, h16, h17, h18, h19, h20, h21, h22⟩

theorem State.wrb_kept {s0 s : State} (r : RegId) (i : Nat) (j : Nat) (b : Nat) (v : Bool) (hk : Kept s0 s) :
    Kept s0 (State.wrb s r i j b v) := by
  unfold State.wrb
  apply State.wr_kept
  assumption

theorem State.bump_kept {s0 s : State} (r : RegId) (i : Nat) (j : Nat) (hk : Kept s0 s) :
    Kept s0 (State.bump s r i j) := by
  unfold State.bump
  apply State.wr_kept
  assumption

theorem State.wr64_kept {s0 s : State} (lo : RegId) (hi : RegId) (i : Nat) (v : W64) (hk : Kept s0 s) :
    Kept s0 (State.wr64 s lo hi i v) := by
  unfold State.wr64
  apply State.wr_kept
  apply State.wr_kept
  assumption

theorem State.setRunning_kept {s0 s : State} (b : Nat) (v : Bool) (hk : Kept s0 s) :
    Kept s0 (State.setRunning s b v) := by
  unfold State.setRunning
  apply State.wrb_kept
  assumption

theorem State.setQ_kept {s0 s : State} (i : Nat) (x : Queue) (h : Kept s0 s) : Kept s0 (s.setQ i x) :=
  h.map (Eq.refl _) fun ⟨h0, h1, h2, h3, h4, h5, h6, h7, h8, h9, h10, h11, h12, h13, h14, h15, h16, h17, h18, h19, h20, h21, h22⟩ =>
    ⟨h0, h1, h2, KMap.wf_insert _ _ _ h3, h4, h5, h6, h7, h8, h9, h10, h11, h12, h13, h14, h15, h16, h17, h18, h19, h20, h21, h22⟩

theorem State.modQ_kept {s0 s : State} (i : Nat) (x : Queue → Queue) (h : Kept s0 s) : Kept s0 (s.modQ i x) :=
  State.setQ_kept _ _ h

theorem State.setPll_kept {s0 s : State} (i : Nat) (x : Pll) (h : Kept s0 s) : Kept s0 (s.setPll i x) :=
  h.map (Eq.refl _) fun ⟨h0, h1, h2, h3, h4, h5, h6, h7, h8, h9, h10, h11, h12, h13, h14, h15, h16, h17, h18, h19, h20, h21, h22⟩ =>
    ⟨h0, h1, h2, h3, KMap.wf_insert _ _ _ h4, h5, h6, h7, h8, h9, h10, h11, h12, h13, h14, h15, h16, h17, h18, h19, h20, h21, h22⟩

theorem State.modPll_kept {s0 s : State} (i : Nat) (x : Pll → Pll) (h : Kept s0 s) : Kept s0 (s.modPll i x) :=
  State.setPll_kept _ _ h

theorem State.setSeg_kept {s0 s : State} (i : Nat) (x : Segment) (h : Kept s0 s) : Kept s0 (s.setSeg i x) :=
  h.map (Eq.refl _) fun ⟨h0, h1, h2, h3, h4, h5, h6, h7, h8, h9, h10, h11, h12, h13, h14, h15, h16, h17, h18, h19, h20, h21, h22⟩ =>
    ⟨h0, h1, h2, h3, h4, KMap.wf_insert _ _ _ h5, h6, h7, h8, h9, h10, h11, h12, h13, h14, h15, h16, h17, h18, h19, h20, h21, h22⟩

theorem State.modSeg_kept {s0 s : State} (i : Nat) (x : Segment → Segment) (h : Kept s0 s) : Kept s0 (s.modSeg i x) :=
  State.setSeg_kept _ _ h

theorem State.setGrp_kept {s0 s : State} (i : Nat) (x : Group) (h : Kept s0 s) : Kept s0 (s.setGrp i x) :=
  h.map (Eq.refl _) fun ⟨h0, h1, h2, h3, h4, h5, h6, h7, h8, h9, h10, h11, h12, h13, h14, h15, h16, h17, h18, h19, h20, h21, h22⟩ =>
    ⟨h0, h1, h2, h3, h4, h5, KMap.wf_insert _ _ _ h6, h7, h8, h9, h10, h11, h12, h13, h14, h15, h16, h17, h18, h19, h20, h21, h22⟩

theorem State.modGrp_kept {s0 s : State} (i : Nat) (x : Group → Group) (h : Kept s0 s) : Kept s0 (s.modGrp i x) :=
  State.setGrp_kept _ _ h

theorem State.setPrt_kept {s0 s : State} (i : Nat) (x : Partial) (h : Kept s0 s) : Kept s0 (s.setPrt i x) :=
  h.map (Eq.refl _) fun ⟨h0, h1, h2, h3, h4, h5, h6, h7, h8, h9, h10, h11, h12, h13, h14, h15, h16, h17, h18, h19, h20, h21, h22⟩ =>
    ⟨h0, h1, h2, h3, h4, h5, h6, h7, KMap.wf_insert _ _ _ h8, h9, h10, h11, h12, h13, h14, h15, h16, h17, h18, h19, h20, h21, h22⟩

theorem State.modPrt_kept {s0 s : State} (i : Nat) (x : Partial → Partial) (h : Kept s0 s) : Kept s0 (s.modPrt i x) :=
  State.setPrt_kept _ _ h

theorem State.setChan_kept {s0 s : State} (i : Nat) (x : Channel) (h : Kept s0 s) : Kept s0 (s.setChan i x) :=
  h.map (Eq.refl _) fun ⟨h0, h1, h2, h3, h4, h5, h6, h7, h8, h9, h10, h11, h12, h13, h14, h15, h16, h17, h18, h19, h20, h21, h22⟩ =>
    ⟨h0, h1, h2, h3, h4, h5, h6, h7, h8, KMap.wf_insert _ _ _ h9, h10, h11, h12, h13, h14, h15, h16, h17, h18, h19, h20, h21, h22⟩

theorem State.modChan_kept {s0 s : State} (i : Nat) (x : Channel → Channel) (h : Kept s0 s) : Kept s0 (s.modChan i x) :=
  State.setChan_kept _ _ h

theorem State.setWin_kept {s0 s : State} (i : Nat) (x : CheckWin) (h : Kept s0 s) : Kept s0 (s.setWin i x) :=
  h.map (Eq.refl _) fun ⟨h0, h1, h2, h3, h4, h5, h6, h7, h8, h9, h10, h11, h12, h13, h14, h15, h16, h17, h18, h19, h20, h21, h22⟩ =>
    ⟨h0, h1, h2, h3, h4, h5, h6, h7, h8, h9, KMap.wf_insert _ _ _ h10, h11, h12, h13, h14, h15, h16, h17, h18, h19, h20, h21, h22⟩

theorem State.modWin_kept {s0 s : State} (i : Nat) (x : CheckWin → CheckWin) (h : Kept s0 s) : Kept s0 (s.modWin i x) :=
  State.setWin_kept _ _ h

theorem State.setDac_kept {s0 s : State} (i : Nat) (x : Dac) (h : Kept s0 s) : Kept s0 (s.setDac i x) :=
  h.map (Eq.refl _) fun ⟨h0, h1, h2, h3, h4, h5, h6, h7, h8, h9, h10, h11, h12, h13, h14, h15, h16, h17, h18, h19, h20, h21, h22⟩ =>
    ⟨h0, h1, h2, h3, h4, h5, h6, h7, h8, h9, h10, KMap.wf_insert _ _ _ h11, h12, h13, h14, h15, h16, h17, h18, h19, h20, h21, h22⟩

theorem State.modDac_kept {s0 s : State} (i : Nat) (x : Dac → Dac) (h : Kept s0 s) : Kept s0 (s.modDac i x) :=
  State.setDac_kept _ _ h

theorem State.setPin_kept {s0 s : State} (i : Nat) (x : Pin) (h : Kept s0 s) : Kept s0 (s.setPin i x) :=
  h.map (Eq.refl _) fun ⟨h0, h1, h2, h3, h4, h5, h6, h7, h8, h9, h10, h11, h12, h13, h14, h15, h16, h17, h18, h19, h20, h21, h22⟩ =>
    ⟨h0, h1, h2, h3, h4, h5, h6, h7, h8, h9, h10, h11, KMap.wf_insert _ _ _ h12, h13, h14, h15, h16, h17, h18, h19, h20, h21, h22⟩

theorem State.modPin_kept {s0 s : State} (i : Nat) (x : Pin → Pin) (h : Kept s0 s) : Kept s0 (s.modPin i x) :=
  State.setPin_kept _ _ h

theorem State.setPair_kept {s0 s : State} (i : Nat) (x : Pair) (h : Kept s0 s) : Kept s0 (s.setPair i x) :=
  h.map (Eq.refl _) fun ⟨h0, h1, h2, h3, h4, h5, h6, h7, h8, h9, h10, h11, h12, h13, h14, h15, h16, h17, h18, h19, h20, h21, h22⟩ =>
    ⟨h0, h1, h2, h3, h4, h5, h6, h7, h8, h9, h10, h11, h12, KMap.wf_insert _ _ _ h13, h14, h15, h16, h17, h18, h19, h20, h21, h22⟩

theorem State.modPair_kept {s0 s : State} (i : Nat) (x : Pair → Pair) (h : Kept s0 s) : Kept s0 (s.modPair i x) :=
  State.setPair_kept _ _ h

theorem State.setMrk_kept {s0 s : State} (i : Nat) (x : Marker) (h : Kept s0 s) : Kept s0 (s.setMrk i x) :=
  h.map (Eq.refl _) fun ⟨h0, h1, h2, h3, h4, h5, h6, h7, h8, h9, h10, h11, h12, h13, h14, h15, h16, h17, h18, h19, h20, h21, h22⟩ =>
    ⟨h0, h1, h2, h3, h4, h5, h6, h7, h8, h9, h10, h11, h12, h13, KMap.wf_insert _ _ _ h14, h15, h16, h17, h18, h19, h20, h21, h22⟩

theorem State.modMrk_kept {s0 s : State} (i : Nat) (x : Marker → Marker) (h : Kept s0 s) : Kept s0 (s.modMrk i x) :=
  State.setMrk_kept _ _ h

theorem State.setBin_kept {s0 s : State} (i : Nat) (x : BinIn) (h : Kept s0 s) : Kept s0 (s.setBin i x) :=
  h.map (Eq.refl _) fun ⟨h0, h1, h2, h3, h4, h5, h6, h7, h8, h9, h10, h11, h12, h13, h14, h15, h16, h17, h18, h19, h20, h21, h22⟩ =>
    ⟨h0, h1, h2, h3, h4, h5, h6, h7, h8, h9, h10, h11, h12, h13, h14, KMap.wf_insert _ _ _ h15, h16, h17, h18, h19, h20, h21, h22⟩

theorem State.modBin_kept {s0 s : State} (i : Nat) (x : BinIn → BinIn) (h : Kept s0 s) : Kept s0 (s.modBin i x) :=
  State.setBin_kept _ _ h

theorem State.setBset_kept {s0 s : State} (i : Nat) (x : BankSet) (h : Kept s0 s) : Kept s0 (s.setBset i x) :=
  h.map (Eq.refl _) fun ⟨h0, h1, h2, h3, h4, h5, h6, h7, h8, h9, h10, h11, h12, h13, h14, h15, h16, h17, h18, h19, h20, h21, h22⟩ =>
    ⟨h0, h1, h2, h3, h4, h5, h6, h7, h8, h9, h10, h11, h12, h13, h14, h15, KMap.wf_insert _ _ _ h16, h17, h18, h19, h20, h21, h22⟩

theorem State.modBset_kept {s0 s : State} (i : Nat) (x : BankSet → BankSet) (h : Kept s0 s) : Kept s0 (s.modBset i x) :=
  State.setBset_kept _ _ h

theorem State.setAdc_kept {s0 s : State} (i : Nat) (x : Adc) (h : Kept s0 s) : Kept s0 (s.setAdc i x) :=
  h.map (Eq.refl _) fun ⟨h0, h1, h2, h3, h4, h5, h6, h7, h8, h9, h10, h11, h12, h13, h14, h15, h16, h17, h18, h19, h20, h21, h22⟩ =>
    ⟨h0, h1, h2, h3, h4, h5, h6, h7, h8, h9, h10, h11, h12, h13, h14, h15, h16, KMap.wf_insert _ _ _ h17, h18, h19, h20, h21, h22⟩

theorem State.modAdc_kept {s0 s : State} (i : Nat) (x : Adc → Adc) (h : Kept s0 s) : Kept s0 (s.modAdc i x) :=
  State.setAdc_kept _ _ h

theorem State.setNetp_kept {s0 s : State} (i : Nat) (x : NetPort) (h : Kept s0 s) : Kept s0 (s.setNetp i x) :=
  h.map (Eq.refl _) fun ⟨h0, h1, h2, h3, h4, h5, h6, h7, h8, h9, h10, h11, h12, h13, h14, h15, h16, h17, h18, h19, h20, h21, h22⟩ =>
    ⟨h0, h1, h2, h3, h4, h5, h6, h7, h8, h9, h10, h11, h12, h13, h14, h15, h16, h17, KMap.wf_insert _ _ _ h18, h19, h20, h21, h22⟩

theorem State.modNetp_kept {s0 s : State} (i : Nat) (x : NetPort → NetPort) (h : Kept s0 s) : Kept s0 (s.modNetp i x) :=
  State.setNetp_kept _ _ h

theorem State.setSv_kept {s0 s : State} (i : Nat) (x : SvStream) (h : Kept s0 s) : Kept s0 (s.setSv i x) :=
  h.map (Eq.refl _) fun ⟨h0, h1, h2, h3, h4, h5, h6, h7, h8, h9, h10, h11, h12, h13, h14, h15, h16, h17, h18, h19, h20, h21, h22⟩ =>
    ⟨h0, h1, h2, h3, h4, h5, h6, h7, h8, h9, h10, h11, h12, h13, h14, h15, h16, h17, h18, KMap.wf_insert _ _ _ h19, h20, h21, h22⟩

theorem State.modSv_kept {s0 s : State} (i : Nat) (x : SvStream → SvStream) (h : Kept s0 s) : Kept s0 (s.modSv i x) :=
  State.setSv_kept _ _ h

theorem State.setGs_kept {s0 s : State} (i : Nat) (x : GooseSub) (h : Kept s0 s) : Kept s0 (s.setGs i x) :=
  h.map (Eq.refl _) fun ⟨h0, h1, h2, h3, h4, h5, h6, h7, h8, h9, h10, h11, h12, h13, h14, h15, h16, h17, h18, h19, h20, h21, h22⟩ =>
    ⟨h0, h1, h2, h3, h4, h5, h6, h7, h8, h9, h10, h11, h12, h13, h14, h15, h16, h17, h18, h19, KMap.wf_insert _ _ _ h20, h21, h22⟩

theorem State.modGs_kept {s0 s : State} (i : Nat) (x : GooseSub → GooseSub) (h : Kept s0 s) : Kept s0 (s.modGs i x) :=
  State.setGs_kept _ _ h

theorem State.setPort_kept {s0 s : State} (i : Nat) (x : ChnPort) (h : Kept s0 s) : Kept s0 (s.setPort i x) :=
  h.map (Eq.refl _) fun ⟨h0, h1, h2, h3, h4, h5, h6, h7, h8, h9, h10, h11, h12, h13, h14, h15, h16, h17, h18, h19, h20, h21, h22⟩ =>
    ⟨h0, h1, h2, h3, h4, h5, h6, h7, h8, h9, h10, h11, h12, h13, h14, h15, h16, h17, h18, h19, h20, KMap.wf_insert _ _ _ h21, h22⟩

theorem State.modPort_kept {s0 s : State} (i : Nat) (x : ChnPort → ChnPort) (h : Kept s0 s) : Kept s0 (s.modPort i x) :=
  State.setPort_kept _ _ h

theorem State.setEntry_kept {s0 s : State} (g e : Nat) (ws : List Word) (h : Kept s0 s) :
    Kept s0 (s.setEntry g e ws) :=
  h.map (Eq.refl _) fun ⟨h0, h1, h2, h3, h4, h5, h6, h7, h8, h9, h10, h11, h12, h13, h14, h15, h16, h17, h18, h19, h20, h21, h22⟩ =>
    ⟨h0, h1, h2, h3, h4, h5, h6, KMap.wf_put _ _ _ _ h7, h8, h9, h10, h11, h12, h13, h14, h15, h16, h17, h18, h19, h20, h21, h22⟩

theorem State.put_kept {s0 s : State} (x : Sent) (hk : Kept s0 s) :
    Kept s0 (State.put s x) := by
  unfold State.put
  simp only [Kept.upd]
  assumption

theorem State.draw_kept {s0 s : State} (h : Kept s0 s) : Kept s0 s.draw.2 := h

theorem State.irq_kept {s0 s : State} (v : Nat) (h : Kept s0 s) : Kept s0 (State.irq s v) := by
  unfold State.irq
  repeat' split
  all_goals first | exact h | exact State.put_kept _ h

theorem State.irqIf_kept {s0 s : State} (r : RegId) (i : Nat) (en : Nat) (hk : Kept s0 s) :
    Kept s0 (State.irqIf s r i en) := by
  unfold State.irqIf
  apply Kept.ite
  · apply State.irq_kept
    assumption
  · assumption

theorem State.logEvent_kept {s0 s : State} (r : EvRec) (hk : Kept s0 s) :
    Kept s0 (State.logEvent s r) := by
  unfold State.logEvent
  lift_lets -underBinder
  intro x0
  try clear_value x0
  intro x1
  try clear_value x1
  intro x2
  refine Kept.cut x2 ?_ (fun _ => ?_)
  · unfold x2
    clear x2
    simp only [Kept.upd]
    assumption
  clear_value x2
  apply Kept.ite
  · apply State.irqIf_kept
    apply Kept.ite
    · apply State.bump_kept
      assumption
    · assumption
  · apply Kept.ite
    · apply State.bump_kept
      assumption
    · assumption

theorem State.flushLog_kept {s0 s : State} (hk : Kept s0 s) :
    Kept s0 (State.flushLog s) := by
  unfold State.flushLog
  apply Kept.ite
  · lift_lets -underBinder
    intro x0
    try clear_value x0
    intro x1
    try clear_value x1
    apply Kept.foldl
    · intro x2
      intro x3
      intro x4
      apply State.logEvent_kept
      assumption
    · simp only [Kept.upd]
      assumption
  · assumption

theorem State.reach_kept {s0 s : State} (t : Nat) (hk : Kept s0 s) :
    Kept s0 (State.reach s t) := by
  unfold State.reach
  apply Kept.ite
  · apply State.flushLog_kept
    simp only [Kept.upd]
    assumption
  · assumption

theorem State.logErrAt_kept {s0 s : State} (time : Nat) (cls : Nat) (blk : Nat) (inst : Nat) (code : Nat) (status : Nat) (d0 : Nat) (d1 : Nat) (hk : Kept s0 s) :
    Kept s0 (State.logErrAt s time cls blk inst code status d0 d1) := by
  unfold State.logErrAt
  apply Kept.ite
  · lift_lets -underBinder
    intro x0
    try clear_value x0
    intro x1
    try clear_value x1
    intro x2
    try clear_value x2
    intro x3
    refine Kept.cut x3 ?_ (fun _ => ?_)
    · unfold x3
      clear x3
      simp only [Kept.upd]
      assumption
    clear_value x3
    apply Kept.ite
    · apply State.irqIf_kept
      apply Kept.ite
      · apply State.bump_kept
        assumption
      · assumption
    · apply Kept.ite
      · apply State.bump_kept
        assumption
      · assumption
  · apply State.bump_kept
    assumption

theorem State.logErr_kept {s0 s : State} (cls : Nat) (blk : Nat) (inst : Nat) (code : Nat) (status : Nat) (d0 : Nat) (d1 : Nat) (hk : Kept s0 s) :
    Kept s0 (State.logErr s cls blk inst code status d0 d1) := by
  unfold State.logErr
  apply State.logErrAt_kept
  assumption

theorem State.transient_kept {s0 s : State} (blk : Nat) (inst : Nat) (code : Nat) (status : Nat) (d0 : Nat) (d1 : Nat) (hk : Kept s0 s) :
    Kept s0 (State.transient s blk inst code status d0 d1) := by
  unfold State.transient
  apply State.logErr_kept
  apply State.bump_kept
  assumption

theorem State.lasting_kept {s0 s : State} (blk : Nat) (inst : Nat) (code : Nat) (status : Nat) (d0 : Nat) (d1 : Nat) (hk : Kept s0 s) :
    Kept s0 (State.lasting s blk inst code status d0 d1) := by
  unfold State.lasting
  apply State.logErr_kept
  apply State.bump_kept
  assumption

theorem State.ignored_kept {s0 s : State} (ref : Option RegRef) (off cause : Nat) (val : Word) (status : Nat) (h : Kept s0 s) :
    Kept s0 (State.ignored s ref off cause val status) := by
  refine State.logErr_kept _ _ _ _ _ _ _ (State.wr_kept _ _ _ _ ?_)
  repeat' first
    | with_reducible first | exact h | apply State.bump_kept
    | split

theorem State.decide1_kept {s0 s : State} (c : CmdRef) (status : Nat) (result : List Word) (dev : Nat) (hk : Kept s0 s) :
    Kept s0 (State.decide1 s c status result dev) := by
  unfold State.decide1
  lift_lets -underBinder
  intro x0
  try clear_value x0
  split
  · assumption
  · apply Kept.ite
    · assumption
    · lift_lets -underBinder
      intro x1
      try clear_value x1
      intro x2
      try clear_value x2
      intro x3
      try clear_value x3
      intro x4
      try clear_value x4
      intro x5
      try clear_value x5
      intro x6
      try clear_value x6
      apply State.setQ_kept
      assumption

theorem State.bcastTry_kept {s0 s : State} (num : Nat) (hk : Kept s0 s) :
    Kept s0 (State.bcastTry s num) := by
  unfold State.bcastTry
  split
  · apply Kept.ite
    · lift_lets -underBinder
      intro x0
      try clear_value x0
      apply State.decide1_kept
      assumption
    · assumption
  · assumption

theorem State.finish_kept {s0 s : State} (c : CmdRef) (status : Nat) (result : List Word) (hk : Kept s0 s) :
    Kept s0 (State.finish s c status result) := by
  unfold State.finish
  split
  · lift_lets -underBinder
    intro x0
    try clear_value x0
    intro x1
    try clear_value x1
    intro x2
    try clear_value x2
    intro x3
    try clear_value x3
    intro x4
    refine Kept.cut x4 ?_ (fun _ => ?_)
    · unfold x4
      clear x4
      simp only [Kept.upd]
      assumption
    clear_value x4
    apply Kept.ite
    · assumption
    · apply State.bcastTry_kept
      assumption
  · apply State.decide1_kept
    assumption

theorem State.finishOpt_kept {s0 s : State} (c : Option CmdRef) (status : Nat) (result : List Word) (hk : Kept s0 s) :
    Kept s0 (State.finishOpt s c status result) := by
  unfold State.finishOpt
  split
  · apply State.finish_kept
    assumption
  · assumption

theorem State.begun_kept {s0 s : State} (c : CmdRef) (hk : Kept s0 s) :
    Kept s0 (State.begun s c) := by
  unfold State.begun
  lift_lets -underBinder
  intro x0
  refine Kept.cut x0 ?_ (fun _ => ?_)
  · unfold x0
    clear x0
    apply State.modQ_kept
    assumption
  clear_value x0
  split
  · simp only [Kept.upd]
    assumption
  · assumption

end Sys2Proof.Machine
end

