-- ==== Sys2Proof/Laws/KeepPatLevel.lean ====
section
/-! SUPPORT. The operations of Machine/PatLevel.lean keep the waiting commands and the canonical form. -/
set_option linter.unusedVariables false
namespace Sys2Proof.Machine

theorem State.settlePair_kept {s0 s : State} (t : Nat) (k : Nat) (hk : Kept s0 s) :
    Kept s0 (State.settlePair s t k) := by
  unfold State.settlePair
  apply Kept.ite
  · lift_lets -underBinder
    intro x0
    try clear_value x0
    apply Kept.ite
    · apply State.setPair_kept
      assumption
    · apply State.setPair_kept
      assumption
  · assumption

theorem State.settlePairs_kept {s0 s : State} (t : Nat) (hk : Kept s0 s) :
    Kept s0 (State.settlePairs s t) := by
  unfold State.settlePairs
  apply Kept.foldl
  · intro x0
    intro x1
    intro x2
    apply State.settlePair_kept
    assumption
  · assumption

theorem State.startPin_kept {s0 s : State} (n : Nat) (hk : Kept s0 s) :
    Kept s0 (State.startPin s n) := by
  unfold State.startPin
  apply Kept.ite
  · assumption
  · apply Kept.ite
    · assumption
    · lift_lets -underBinder
      intro x0
      try clear_value x0
      apply State.modPin_kept
      assumption

theorem State.stopPin_kept {s0 s : State} (n : Nat) (hk : Kept s0 s) :
    Kept s0 (State.stopPin s n) := by
  unfold State.stopPin
  apply State.modPin_kept
  assumption

theorem State.lanesStop_kept {s0 s : State} (g : Nat) (hk : Kept s0 s) :
    Kept s0 (State.lanesStop s g) := by
  unfold State.lanesStop
  apply Kept.foldl
  · intro x0
    intro x1
    intro x2
    apply Kept.ite
    · apply State.modPin_kept
      assumption
    · assumption
  · assumption

theorem State.lanesStart_kept {s0 s : State} (g : Nat) (hk : Kept s0 s) :
    Kept s0 (State.lanesStart s g) := by
  unfold State.lanesStart
  apply State.lanesStop_kept
  assumption

theorem State.mkLow_kept {s0 s : State} (m : Nat) (hk : Kept s0 s) :
    Kept s0 (State.mkLow s m) := by
  unfold State.mkLow
  apply Kept.ite
  · apply State.setMrk_kept
    assumption
  · assumption

theorem State.markersLow_kept {s0 s : State} (g : Nat) (hk : Kept s0 s) :
    Kept s0 (State.markersLow s g) := by
  unfold State.markersLow
  apply Kept.foldl
  · intro x0
    intro x1
    intro x2
    apply Kept.ite
    · apply State.mkLow_kept
      assumption
    · assumption
  · assumption

theorem State.mkPulse_kept {s0 s : State} (m : Nat) (t0 : Nat) (hk : Kept s0 s) :
    Kept s0 (State.mkPulse s m t0) := by
  unfold State.mkPulse
  lift_lets -underBinder
  intro x0
  try clear_value x0
  apply State.setMrk_kept
  assumption

theorem State.markEntry_kept {s0 s : State} (g : Nat) (mark : Nat) (t0 : Nat) (hk : Kept s0 s) :
    Kept s0 (State.markEntry s g mark t0) := by
  unfold State.markEntry
  apply Kept.foldl
  · intro x0
    intro x1
    intro x2
    apply Kept.ite
    · apply State.mkPulse_kept
      assumption
    · assumption
  · assumption

end Sys2Proof.Machine
end

