-- ==== Sys2Proof/Laws/KeepDrmBase.lean ====
section
/-! SUPPORT. The operations of Machine/DrmBase.lean keep the waiting commands and the canonical form. -/
set_option linter.unusedVariables false
namespace Sys2Proof.Machine

theorem State.mapMake_kept {s0 s : State} (hk : Kept s0 s) :
    Kept s0 (State.mapMake s) := by
  unfold State.mapMake
  apply Kept.ite
  · assumption
  · assumption

theorem State.drmRun_kept {s0 s : State} (hk : Kept s0 s) :
    Kept s0 (State.drmRun s) := by
  unfold State.drmRun
  lift_lets
  intro x0
  refine Kept.cut x0 ?_ (fun _ => ?_)
  · unfold x0
    clear x0
    apply State.mapMake_kept
    apply State.setRunning_kept
    assumption
  clear_value x0
  assumption

theorem State.drmStart_kept {s0 s : State} (hk : Kept s0 s) :
    Kept s0 (State.drmStart s) := by
  unfold State.drmStart
  apply Kept.ite
  · assumption
  · apply Kept.ite
    · apply State.drmRun_kept
      assumption
    · assumption

theorem State.drmStop_kept {s0 s : State} (hk : Kept s0 s) :
    Kept s0 (State.drmStop s) := by
  unfold State.drmStop
  lift_lets
  intro x0
  refine Kept.cut x0 ?_ (fun _ => ?_)
  · unfold x0
    clear x0
    apply Kept.ite
    · apply State.bump_kept
      assumption
    · assumption
  clear_value x0
  simp only [Kept.upd]
  apply State.setRunning_kept
  assumption

theorem State.drmSettle_kept {s0 s : State} (hk : Kept s0 s) :
    Kept s0 (State.drmSettle s) := by
  unfold State.drmSettle
  lift_lets
  intro x0
  try clear_value x0
  intro x1
  refine Kept.cut x1 ?_ (fun _ => ?_)
  · unfold x1
    clear x1
    assumption
  clear_value x1
  apply Kept.ite
  · apply State.drmStart_kept
    assumption
  · apply State.drmStop_kept
    assumption

theorem State.drmEnable_kept {s0 s : State} (hk : Kept s0 s) :
    Kept s0 (State.drmEnable s) := by
  unfold State.drmEnable
  apply Kept.ite
  · assumption
  · apply State.drmSettle_kept
    assumption

end Sys2Proof.Machine
end

