-- ==== Sys2Proof/Laws/KeepClock.lean ====
section
/-! SUPPORT. The operations of Machine/Clock.lean keep the waiting commands and the canonical form. -/
set_option linter.unusedVariables false
namespace Sys2Proof.Machine

theorem State.slackRestart_kept {s0 s : State} (hk : Kept s0 s) :
    Kept s0 (State.slackRestart s) := by
  unfold State.slackRestart
  apply State.wr_kept
  simp only [Kept.upd]
  assumption

theorem State.pllStart_kept {s0 s : State} (x : Nat) (hk : Kept s0 s) :
    Kept s0 (State.pllStart s x) := by
  unfold State.pllStart
  lift_lets -underBinder
  intro x0
  try clear_value x0
  split
  · apply Kept.ite
    · apply State.modPll_kept
      apply State.setRunning_kept
      assumption
    · assumption
  · assumption

theorem State.pllStop_kept {s0 s : State} (x : Nat) (hk : Kept s0 s) :
    Kept s0 (State.pllStop s x) := by
  unfold State.pllStop
  apply State.modPll_kept
  apply State.setRunning_kept
  assumption

theorem State.pllAStop_kept {s0 s : State} (hk : Kept s0 s) :
    Kept s0 (State.pllAStop s) := by
  unfold State.pllAStop
  lift_lets -underBinder
  intro x0
  refine Kept.cut x0 ?_ (fun _ => ?_)
  · unfold x0
    clear x0
    apply State.setRunning_kept
    assumption
  clear_value x0
  apply State.modPll_kept
  apply State.modPll_kept
  simp only [Kept.upd]
  assumption

theorem State.enTake_kept {s0 s : State} (dacChange : State → Bool → State) (b : Nat) (hdacChange : ∀ (x0 : State) (x1 : Bool), Kept s0 x0 → Kept s0 (dacChange x0 x1)) (hk : Kept s0 s) :
    Kept s0 (State.enTake s dacChange b) := by
  unfold State.enTake
  lift_lets -underBinder
  intro x0
  try clear_value x0
  apply Kept.ite
  · assumption
  · apply Kept.ite
    · apply hdacChange
      assumption
    · apply State.setRunning_kept
      assumption

theorem State.enAsk_kept {s0 s : State} (dacChange : State → Bool → State) (b : Nat) (hdacChange : ∀ (x0 : State) (x1 : Bool), Kept s0 x0 → Kept s0 (dacChange x0 x1)) (hk : Kept s0 s) :
    Kept s0 (State.enAsk s dacChange b) := by
  unfold State.enAsk
  apply Kept.ite
  · lift_lets -underBinder
    intro x0
    try clear_value x0
    simp only [Kept.upd]
    assumption
  · apply State.enTake_kept
    · with_reducible assumption
    · assumption

theorem State.settleEnables_kept {s0 s : State} (dacChange : State → Bool → State) (hdacChange : ∀ (x0 : State) (x1 : Bool), Kept s0 x0 → Kept s0 (dacChange x0 x1)) (hk : Kept s0 s) :
    Kept s0 (State.settleEnables s dacChange) := by
  unfold State.settleEnables
  lift_lets -underBinder
  intro x0
  refine Kept.cut x0 ?_ (fun _ => ?_)
  · unfold x0
    clear x0
    apply Kept.foldl
    · intro x1
      intro x2
      intro x3
      apply Kept.ite
      · apply State.slackRestart_kept
        apply State.pllStop_kept
        assumption
      · assumption
    · assumption
  clear_value x0
  apply Kept.ite
  · assumption
  · apply Kept.ite
    · apply State.drmSettle_kept
      apply Kept.foldl
      · intro x4
        intro x5
        intro x6
        apply State.enTake_kept
        · with_reducible assumption
        · assumption
      · simp only [Kept.upd]
        apply Kept.ite
        · apply State.pllAStop_kept
          assumption
        · assumption
    · apply Kept.foldl
      · intro x7
        intro x8
        intro x9
        apply State.enTake_kept
        · with_reducible assumption
        · assumption
      · simp only [Kept.upd]
        apply Kept.ite
        · apply State.pllAStop_kept
          assumption
        · assumption

end Sys2Proof.Machine
end

