-- ==== Sys2Proof/Laws/KeepPartials.lean ====
section
/-! SUPPORT. The operations of Machine/Partials.lean keep the waiting commands and the canonical form. -/
set_option linter.unusedVariables false
namespace Sys2Proof.Machine

theorem State.prtAdvance_kept {s0 s : State} (c : Nat) (a : W64) (turn : W64) (hk : Kept s0 s) :
    Kept s0 (State.prtAdvance s c a turn) := by
  unfold State.prtAdvance
  apply Kept.foldl
  · intro x0
    intro x1
    intro x2
    lift_lets -underBinder
    intro x3
    try clear_value x3
    intro x4
    refine Kept.cut x4 ?_ (fun _ => ?_)
    · unfold x4
      clear x4
      apply Kept.ite
      · assumption
      · apply State.setPrt_kept
        assumption
    clear_value x4
    apply Kept.ite
    · apply State.bump_kept
      assumption
    · assumption
  · assumption

theorem State.prtStart_kept {s0 s : State} (c : Nat) (hk : Kept s0 s) :
    Kept s0 (State.prtStart s c) := by
  unfold State.prtStart
  apply Kept.foldl
  · intro x0
    intro x1
    intro x2
    lift_lets -underBinder
    intro x3
    try clear_value x3
    intro x4
    try clear_value x4
    apply Kept.ite
    · assumption
    · apply State.setPrt_kept
      assumption
  · assumption

end Sys2Proof.Machine
end

