-- ==== Sys2Proof/Laws/KeepChainBase.lean ====
section
/-! SUPPORT. The operations of Machine/ChainBase.lean keep the waiting commands and the canonical form. -/
set_option linter.unusedVariables false
namespace Sys2Proof.Machine

theorem State.sendFlit_kept {s0 s : State} (p : Nat) (ty : Nat) (vcf : Nat) (seq : Nat) (body : List Byte) (hk : Kept s0 s) :
    Kept s0 (State.sendFlit s p ty vcf seq body) := by
  unfold State.sendFlit
  lift_lets
  intro x0
  try clear_value x0
  apply State.put_kept
  apply State.setPort_kept
  assumption

theorem State.sendCtl_kept {s0 s : State} (p : Nat) (ty : Nat) (body : List Byte) (hk : Kept s0 s) :
    Kept s0 (State.sendCtl s p ty body) := by
  unfold State.sendCtl
  apply State.sendFlit_kept
  assumption

theorem State.sendData_kept {s0 s : State} (p vc : Nat) (body : List Byte) (hk : Kept s0 s) :
    KeptO s0 (s.sendData p vc body) := by
  intro t h
  unfold State.sendData at h
  dsimp only at h
  split at h
  · split at h
    · cases h
      exact State.sendFlit_kept _ _ _ _ _ (State.setPort_kept _ _ hk)
    · cases h
  · cases h

theorem State.pump_kept {s0 s : State} (p n : Nat) (hk : Kept s0 s) : Kept s0 (s.pump p n) := by
  induction n generalizing s with
  | zero => exact hk
  | succ n ih =>
    have key : ∀ (vc : Nat) (b : List Byte) (f : ChnPort → ChnPort) (t : State),
        (s.sendData p vc b).map (fun (s' : State) => s'.modPort p f) = some t → Kept s0 t := by
      intro vc b f t h
      obtain ⟨u, hu, rfl⟩ := Option.map_eq_some_iff.mp h
      exact State.modPort_kept _ _ (State.sendData_kept p vc b hk u hu)
    unfold State.pump
    dsimp only
    split
    all_goals first
      | exact hk
      | (rename_i h; exact ih (by split at h <;> first | exact key _ _ _ _ h | cases h))
      | (rename_i h _; exact ih (by split at h <;> first | exact key _ _ _ _ h | cases h))
      | (rename_i h _ _; exact ih (by split at h <;> first | exact key _ _ _ _ h | cases h))

theorem State.sendBodies_kept {s0 s : State} (p : Nat) (vc : Nat) (bodies : List (List Byte)) (hk : Kept s0 s) :
    Kept s0 (State.sendBodies s p vc bodies) := by
  unfold State.sendBodies
  apply Kept.ite
  · lift_lets
    intro x0
    refine Kept.cut x0 ?_ (fun _ => ?_)
    · unfold x0
      clear x0
      apply State.modPort_kept
      assumption
    clear_value x0
    apply State.pump_kept
    assumption
  · assumption

theorem State.sendMsg_kept {s0 s : State} (p : Nat) (vc : Nat) (h : MsgHdr) (content : List Byte) (hk : Kept s0 s) :
    Kept s0 (State.sendMsg s p vc h content) := by
  unfold State.sendMsg
  apply State.sendBodies_kept
  assumption

theorem State.nextNum_kept {s0 s : State} (hk : Kept s0 s) : Kept s0 s.nextNum.2 := hk

theorem State.sendLink_kept {s0 s : State} (p : Nat) (vc : Nat) (mtype : Nat) (xact : Nat) (body : List Byte) (hk : Kept s0 s) :
    Kept s0 (State.sendLink s p vc mtype xact body) := by
  unfold State.sendLink
  lift_lets
  intro x0
  refine Kept.cut x0.2 ?_ (fun _ => ?_)
  · unfold x0
    clear x0
    apply State.nextNum_kept
    assumption
  clear_value x0
  apply State.sendMsg_kept
  with_reducible assumption

theorem State.sendInternal_kept {s0 s : State} (dest : Nat) (vc : Nat) (mtype : Nat) (xact : Nat) (body : List Byte) (hk : Kept s0 s) :
    Kept s0 (State.sendInternal s dest vc mtype xact body) := by
  unfold State.sendInternal
  split
  · lift_lets
    intro x0
    refine Kept.cut x0.2 ?_ (fun _ => ?_)
    · unfold x0
      clear x0
      apply State.nextNum_kept
      assumption
    clear_value x0
    apply State.sendMsg_kept
    with_reducible assumption
  · assumption

theorem State.sendPacket_kept {s0 s : State} (p : Nat) (vc : Nat) (dest : Nat) (num : Nat) (bcast : Bool) (packet : List Byte) (hk : Kept s0 s) :
    Kept s0 (State.sendPacket s p vc dest num bcast packet) := by
  unfold State.sendPacket
  apply State.sendMsg_kept
  assumption

theorem State.flood_kept {s0 s : State} (from_ : Nat) (body : List Byte) (hk : Kept s0 s) :
    Kept s0 (State.flood s from_ body) := by
  unfold State.flood
  apply Kept.foldl
  · intro x0
    intro x1
    intro x2
    apply Kept.ite
    · apply State.sendBodies_kept
      assumption
    · assumption
  · assumption

theorem State.sendChainEvent_kept {s0 s : State} (num : Nat) (time : Nat) (hk : Kept s0 s) :
    Kept s0 (State.sendChainEvent s num time) := by
  unfold State.sendChainEvent
  apply Kept.ite
  · assumption
  · apply Kept.ite
    · lift_lets
      intro x0
      refine Kept.cut x0 ?_ (fun _ => ?_)
      · unfold x0
        clear x0
        apply State.flood_kept
        assumption
      clear_value x0
      simp only [Kept.upd]
      assumption
    · apply State.bump_kept
      assumption

theorem State.takeTurnRecord_kept {s0 s : State} (r : TurnRec) (hk : Kept s0 s) :
    Kept s0 (State.takeTurnRecord s r) := by
  unfold State.takeTurnRecord
  apply Kept.foldl
  · intro x0
    intro x1
    intro x2
    apply Kept.ite
    · apply State.modGrp_kept
      assumption
    · assumption
  · assumption

theorem State.sendTurnRecord_kept {s0 s : State} (r : TurnRec) (hk : Kept s0 s) :
    Kept s0 (State.sendTurnRecord s r) := by
  unfold State.sendTurnRecord
  apply Kept.ite
  · assumption
  · apply Kept.ite
    · apply State.takeTurnRecord_kept
      apply State.flood_kept
      assumption
    · apply State.bump_kept
      assumption

end Sys2Proof.Machine
end

