-- ==== Sys2Proof/Laws/KeepSvBase.lean ====
section
/-! SUPPORT. The operations of Machine/SvBase.lean keep the waiting commands and the canonical form. -/
set_option linter.unusedVariables false
namespace Sys2Proof.Machine

theorem State.svGather_kept {s0 s : State} (st : Nat) (hk : Kept s0 s) :
    Kept s0 (State.svGather s st) := by
  unfold State.svGather
  lift_lets -underBinder
  intro x0
  try clear_value x0
  intro x1
  try clear_value x1
  apply State.setSv_kept
  assumption

theorem State.svTo_kept {s0 s : State} (st : Nat) (t : Nat) (n : Nat) (hk : Kept s0 s) :
    Kept s0 (State.svTo s st t n) := by
  induction n generalizing s st t with
  | zero => exact hk
  | succ n ih =>
  unfold State.svTo
  lift_lets -underBinder
  intro x0
  try clear_value x0
  apply Kept.ite
  · apply ih
    apply State.svGather_kept
    assumption
  · assumption

theorem State.svCatchUp_kept {s0 s : State} (t : Nat) (hk : Kept s0 s) :
    Kept s0 (State.svCatchUp s t) := by
  unfold State.svCatchUp
  apply Kept.foldl
  · intro x0
    intro x1
    intro x2
    lift_lets -underBinder
    intro x3
    try clear_value x3
    apply Kept.ite
    · apply State.svTo_kept
      assumption
    · assumption
  · assumption

end Sys2Proof.Machine
end

