-- ==== Sys2Proof/Laws/KeepEvent.lean ====
section
/-! SUPPORT. The operations of Machine/Event.lean keep the waiting commands and the canonical form. -/
set_option linter.unusedVariables false
namespace Sys2Proof.Machine

theorem State.trigGroup_kept {s0 s : State} (g : Nat) (src : Nat) (time : Nat) (earliest : Nat) (level : Option Bool) (ev : Nat) (hk : Kept s0 s) :
    Kept s0 (State.trigGroup s g src time earliest level ev) := by
  unfold State.trigGroup
  lift_lets -underBinder
  intro x0
  try clear_value x0
  intro x1
  refine Kept.cut x1 ?_ (fun _ => ?_)
  · unfold x1
    clear x1
    apply State.modGrp_kept
    assumption
  clear_value x1
  apply Kept.ite
  · assumption
  · simp only [Kept.upd]
    assumption

theorem State.overrideLane_kept {s0 s : State} (n : Nat) (src : Nat) (level : Option Bool) (hk : Kept s0 s) :
    Kept s0 (State.overrideLane s n src level) := by
  unfold State.overrideLane
  apply Kept.ite
  · lift_lets -underBinder
    intro x0
    try clear_value x0
    intro x1
    try clear_value x1
    apply State.modPin_kept
    assumption
  · assumption

theorem State.overrides_kept {s0 s : State} (src : Nat) (level : Option Bool) (hk : Kept s0 s) :
    Kept s0 (State.overrides s src level) := by
  unfold State.overrides
  apply Kept.foldl
  · intro x0
    intro x1
    intro x2
    apply State.overrideLane_kept
    assumption
  · assumption

theorem State.deliver_kept {s0 s : State} (src : Nat) (time : Nat) (earliest : Nat) (level : Option Bool) (detail : Word) (flags : Nat) (hk : Kept s0 s) :
    Kept s0 (State.deliver s src time earliest level detail flags) := by
  unfold State.deliver
  lift_lets -underBinder
  intro x0
  try clear_value x0
  intro x1
  try clear_value x1
  intro x2
  try clear_value x2
  intro x3
  refine Kept.cut x3 ?_ (fun _ => ?_)
  · unfold x3
    clear x3
    simp only [Kept.upd]
    assumption
  clear_value x3
  apply State.flushLog_kept
  apply State.settlePairs_kept
  apply State.overrides_kept
  apply Kept.foldl
  · intro x4
    intro x5
    intro x6
    apply State.trigGroup_kept
    assumption
  · assumption

theorem State.event_kept {s0 s : State} (src : Nat) (time : Nat) (level : Option Bool) (detail : Word) (flags : Nat) (hk : Kept s0 s) :
    Kept s0 (State.event s src time level detail flags) := by
  unfold State.event
  apply Kept.ite
  · lift_lets -underBinder
    intro x0
    refine Kept.cut x0 ?_ (fun _ => ?_)
    · unfold x0
      clear x0
      apply State.deliver_kept
      apply State.bump_kept
      assumption
    clear_value x0
    apply Kept.foldl
    · intro x1
      intro x2
      intro x3
      apply Kept.ite
      · apply State.sendChainEvent_kept
        assumption
      · assumption
    · assumption
  · assumption

theorem State.resolveEv_kept {s0 s : State} (ev : Option Nat) (g : Nat) (acted : Bool) (coinc : Bool) (t : Nat) (hk : Kept s0 s) :
    Kept s0 (State.resolveEv s ev g acted coinc t) := by
  unfold State.resolveEv
  split
  · assumption
  · simp only [Kept.upd]
    assumption

end Sys2Proof.Machine
end

