-- ==== Sys2Proof/Laws/KeepOut.lean ====
section
/-! SUPPORT. The operations of Machine/Out.lean keep the waiting commands and the canonical form. -/
set_option linter.unusedVariables false
namespace Sys2Proof.Machine

theorem State.cwEnd_kept {s0 s : State} (c : Nat) (new : CwSt) (hk : Kept s0 s) :
    Kept s0 (State.cwEnd s c new) := by
  unfold State.cwEnd
  split
  · apply State.irqIf_kept
    apply State.bump_kept
    assumption
  · apply State.irqIf_kept
    apply State.bump_kept
    assumption
  · apply State.irqIf_kept
    assumption
  · assumption

theorem State.cwSample_kept {s0 s : State} (c : Nat) (k : Nat) (code : Int) (t : Nat) (under : Bool) (hk : Kept s0 s) :
    Kept s0 (State.cwSample s c k code t under) := by
  unfold State.cwSample
  lift_lets -underBinder
  intro x0
  try clear_value x0
  intro x1
  try clear_value x1
  apply Kept.ite
  · assumption
  · apply State.cwEnd_kept
    apply State.setWin_kept
    assumption

theorem State.cwStop_kept {s0 s : State} (c : Nat) (k : Nat) (hk : Kept s0 s) :
    Kept s0 (State.cwStop s c k) := by
  unfold State.cwStop
  lift_lets -underBinder
  intro x0
  try clear_value x0
  apply Kept.ite
  · apply State.cwEnd_kept
    apply State.setWin_kept
    assumption
  · assumption

theorem State.dacRamp_kept {s0 s : State} (d : Nat) (g : Nat) (hk : Kept s0 s) :
    Kept s0 (State.dacRamp s d g) := by
  unfold State.dacRamp
  lift_lets -underBinder
  intro x0
  try clear_value x0
  apply Kept.ite
  · apply State.setDac_kept
    assumption
  · apply State.setDac_kept
    assumption

theorem State.dacMid_kept {s0 s : State} (d : Nat) (hk : Kept s0 s) :
    Kept s0 (State.dacMid s d) := by
  unfold State.dacMid
  lift_lets -underBinder
  intro x0
  try clear_value x0
  apply State.setDac_kept
  assumption

theorem State.dacGain_kept {s0 s : State} (d : Nat) (hk : Kept s0 s) :
    Kept s0 (State.dacGain s d) := by
  unfold State.dacGain
  lift_lets -underBinder
  intro x0
  try clear_value x0
  split
  · apply Kept.ite
    · apply State.setDac_kept
      assumption
    · apply State.setDac_kept
      assumption
  · apply State.setDac_kept
    assumption
  · apply Kept.ite
    · apply State.setDac_kept
      assumption
    · assumption

theorem State.rampEdges_kept {s0 s : State} (g : Nat) (hk : Kept s0 s) :
    Kept s0 (State.rampEdges s g) := by
  unfold State.rampEdges
  apply Kept.foldl
  · intro x0
    intro x1
    intro x2
    split
    · apply Kept.ite
      · apply State.setDac_kept
        assumption
      · assumption
    · assumption
  · assumption

theorem State.rampsMid_kept {s0 s : State} (g : Nat) (hk : Kept s0 s) :
    Kept s0 (State.rampsMid s g) := by
  unfold State.rampsMid
  apply Kept.foldl
  · intro x0
    intro x1
    intro x2
    split
    · apply Kept.ite
      · apply State.dacMid_kept
        assumption
      · assumption
    · assumption
  · assumption

theorem State.dacEnter_kept {s0 s : State} (d : Nat) (e : Int × Nat) (due : Nat) (hk : Kept s0 s) :
    Kept s0 (State.dacEnter s d e due) := by
  unfold State.dacEnter
  apply Kept.ite
  · apply State.bump_kept
    assumption
  · apply State.modDac_kept
    assumption

theorem State.dacEdge_kept {s0 s : State} (d : Nat) (n : Nat) (hk : Kept s0 s) :
    Kept s0 (State.dacEdge s d n) := by
  unfold State.dacEdge
  lift_lets -underBinder
  intro x0
  try clear_value x0
  split
  · apply State.setDac_kept
    assumption
  · apply State.bump_kept
    apply State.setDac_kept
    assumption

theorem State.chanRun_kept {s0 s : State} (c : Nat) (hk : Kept s0 s) :
    Kept s0 (State.chanRun s c) := by
  unfold State.chanRun
  apply State.modChan_kept
  assumption

theorem State.chanBegin_kept {s0 s : State} (c : Nat) (hk : Kept s0 s) :
    Kept s0 (State.chanBegin s c) := by
  unfold State.chanBegin
  apply Kept.foldl
  · intro x0
    intro x1
    intro x2
    apply Kept.ite
    · apply State.dacGain_kept
      assumption
    · assumption
  · apply State.prtStart_kept
    assumption

theorem State.chanStart_kept {s0 s : State} (c : Nat) (hk : Kept s0 s) :
    Kept s0 (State.chanStart s c) := by
  unfold State.chanStart
  apply State.chanBegin_kept
  apply State.chanRun_kept
  assumption

theorem State.chanStop_kept {s0 s : State} (c : Nat) (g : Nat) (ramp : Bool) (hk : Kept s0 s) :
    Kept s0 (State.chanStop s c g ramp) := by
  unfold State.chanStop
  lift_lets -underBinder
  intro x0
  refine Kept.cut x0 ?_ (fun _ => ?_)
  · unfold x0
    clear x0
    apply Kept.foldl
    · intro x1
      intro x2
      intro x3
      apply State.cwStop_kept
      assumption
    · assumption
  clear_value x0
  apply State.modChan_kept
  apply Kept.foldl
  · intro x4
    intro x5
    intro x6
    apply Kept.ite
    · apply Kept.ite
      · apply State.dacRamp_kept
        assumption
      · apply State.dacMid_kept
        assumption
    · assumption
  · assumption

theorem State.chansTake_kept {s0 s : State} (g : Nat) (start : State → Nat → State) (hstart : ∀ (x0 : State) (x1 : Nat), Kept s0 x0 → Kept s0 (start x0 x1)) (hk : Kept s0 s) :
    Kept s0 (State.chansTake s g start) := by
  unfold State.chansTake
  apply Kept.foldl
  · intro x0
    intro x1
    intro x2
    apply Kept.ite
    · apply Kept.ite
      · apply State.modChan_kept
        assumption
      · apply hstart
        assumption
    · assumption
  · assumption

theorem State.chanMarks_kept {s0 s : State} (g : Nat) (hk : Kept s0 s) :
    Kept s0 (State.chanMarks s g) := by
  unfold State.chanMarks
  apply State.chansTake_kept
  · intro x0
    intro x1
    intro x2
    apply State.chanStart_kept
    assumption
  · apply Kept.foldl
    · intro x3
      intro x4
      intro x5
      apply Kept.ite
      · assumption
      · apply State.chanStop_kept
        assumption
    · assumption

theorem State.chansArm_kept {s0 s : State} (g : Nat) (hk : Kept s0 s) :
    Kept s0 (State.chansArm s g) := by
  unfold State.chansArm
  apply State.chansTake_kept
  · intro x0
    intro x1
    intro x2
    apply State.chanRun_kept
    assumption
  · assumption

theorem State.dacMarks_kept {s0 s : State} (g : Nat) (hk : Kept s0 s) :
    Kept s0 (State.dacMarks s g) := by
  unfold State.dacMarks
  apply Kept.foldl
  · intro x0
    intro x1
    intro x2
    lift_lets -underBinder
    intro x3
    try clear_value x3
    apply Kept.ite
    · split
      · assumption
      · apply State.dacGain_kept
        assumption
    · assumption
  · assumption

theorem State.chanPresent_kept {s0 s : State} (g : Nat) (c : Nat) (t : Nat) (under : Bool) (hk : Kept s0 s) :
    Kept s0 (State.chanPresent s g c t under) := by
  unfold State.chanPresent
  lift_lets -underBinder
  intro x0
  try clear_value x0
  intro x1
  try clear_value x1
  intro x2
  refine Kept.cut x2 ?_ (fun _ => ?_)
  · unfold x2
    clear x2
    apply State.modChan_kept
    assumption
  clear_value x2
  apply State.prtAdvance_kept
  apply Kept.foldl
  · intro x3
    intro x4
    intro x5
    apply State.cwSample_kept
    assumption
  · apply Kept.ite
    · apply State.bump_kept
      assumption
    · assumption

theorem State.chanRepeat_kept {s0 s : State} (g : Nat) (c : Nat) (t : Nat) (hk : Kept s0 s) :
    Kept s0 (State.chanRepeat s g c t) := by
  unfold State.chanRepeat
  lift_lets -underBinder
  intro x0
  try clear_value x0
  intro x1
  refine Kept.cut x1 ?_ (fun _ => ?_)
  · unfold x1
    clear x1
    apply State.modChan_kept
    assumption
  clear_value x1
  apply State.prtAdvance_kept
  apply Kept.foldl
  · intro x2
    intro x3
    intro x4
    apply State.cwSample_kept
    assumption
  · assumption

theorem State.frameEnter_kept {s0 s : State} (g : Nat) (due : Nat) (f : Frame) (hk : Kept s0 s) :
    Kept s0 (State.frameEnter s g due f) := by
  unfold State.frameEnter
  apply Kept.foldl
  · intro x0
    intro x1
    intro x2
    split
    · apply State.dacEnter_kept
      assumption
    · assumption
  · assumption

theorem State.dacEdges_kept {s0 s : State} (g : Nat) (hk : Kept s0 s) :
    Kept s0 (State.dacEdges s g) := by
  unfold State.dacEdges
  apply Kept.foldl
  · intro x0
    intro x1
    intro x2
    apply State.dacEdge_kept
    assumption
  · assumption

end Sys2Proof.Machine
end

