-- ==== Sys2Proof/Laws/KeepAngle.lean ====
section
/-! SUPPORT. The operations of Machine/Angle.lean keep the waiting commands and the canonical form. -/
set_option linter.unusedVariables false
namespace Sys2Proof.Machine

theorem State.folBoundary_kept {s0 s : State} (g : Nat) (hk : Kept s0 s) :
    Kept s0 (State.folBoundary s g) := by
  unfold State.folBoundary
  lift_lets -underBinder
  intro x0
  try clear_value x0
  intro x1
  try clear_value x1
  intro x2
  try clear_value x2
  intro x3
  try clear_value x3
  intro x4
  try clear_value x4
  intro x5
  try clear_value x5
  intro x6
  try clear_value x6
  intro x7
  try clear_value x7
  split
  · apply State.setGrp_kept
    assumption
  · lift_lets -underBinder
    intro x8
    try clear_value x8
    apply State.setGrp_kept
    assumption
  · apply State.setGrp_kept
    assumption
  · apply Kept.ite
    · lift_lets -underBinder
      intro x9
      intro x10
      try clear_value x10
      intro x11
      try clear_value x11
      intro x12
      try clear_value x12
      apply State.setGrp_kept
      assumption
    · lift_lets -underBinder
      intro x13
      try clear_value x13
      apply Kept.ite
      · apply State.bump_kept
        apply State.setGrp_kept
        assumption
      · apply State.setGrp_kept
        assumption

theorem State.folRecord_kept {s0 s : State} (g : Nat) (hk : Kept s0 s) :
    Kept s0 (State.folRecord s g) := by
  unfold State.folRecord
  lift_lets -underBinder
  intro x0
  try clear_value x0
  intro x1
  try clear_value x1
  intro x2
  try clear_value x2
  split
  · apply State.bump_kept
    apply State.setGrp_kept
    assumption
  · lift_lets -underBinder
    intro x3
    try clear_value x3
    intro x4
    try clear_value x4
    intro x5
    refine Kept.cut x5 ?_ (fun _ => ?_)
    · unfold x5
      clear x5
      apply State.setGrp_kept
      assumption
    clear_value x5
    apply Kept.ite
    · assumption
    · apply State.logErr_kept
      apply State.bump_kept
      assumption

theorem State.advance_kept {s0 s : State} (g : Nat) (hk : Kept s0 s) :
    Kept s0 (State.advance s g) := by
  unfold State.advance
  lift_lets -underBinder
  intro x0
  try clear_value x0
  intro x1
  try clear_value x1
  intro x2
  try clear_value x2
  intro x3
  try clear_value x3
  intro x4
  try clear_value x4
  intro x5
  try clear_value x5
  intro x6
  try clear_value x6
  intro x7
  try clear_value x7
  intro x8
  try clear_value x8
  intro x9
  try clear_value x9
  intro x10
  refine Kept.cut x10 ?_ (fun _ => ?_)
  · unfold x10
    clear x10
    apply State.setGrp_kept
    assumption
  clear_value x10
  apply Kept.ite
  · apply State.setGrp_kept
    assumption
  · apply Kept.ite
    · apply State.bump_kept
      assumption
    · assumption

end Sys2Proof.Machine
end

