-- ==== Sys2Proof/Laws/KeepStaging.lean ====
section
/-! SUPPORT. The operations of Machine/Staging.lean keep the waiting commands and the canonical form. -/
set_option linter.unusedVariables false
namespace Sys2Proof.Machine

theorem State.applyRoute_kept {s0 s : State} (d : Nat) (val : Word) (hk : Kept s0 s) :
    Kept s0 (State.applyRoute s d val) := by
  unfold State.applyRoute
  lift_lets -underBinder
  intro x0
  try clear_value x0
  intro x1
  refine Kept.cut x1 ?_ (fun _ => ?_)
  · unfold x1
    clear x1
    apply State.wr_kept
    assumption
  clear_value x1
  split
  · apply State.dacRamp_kept
    assumption
  · apply State.setDac_kept
    assumption
  · apply State.dacGain_kept
    assumption
  · apply Kept.ite
    · assumption
    · apply State.modDac_kept
      apply State.dacRamp_kept
      assumption

theorem State.applyStaged_kept {s0 s : State} (off : Nat) (val : Word) (hk : Kept s0 s) :
    Kept s0 (State.applyStaged s off val) := by
  unfold State.applyStaged
  split
  · assumption
  · lift_lets -underBinder
    intro x0
    try clear_value x0
    intro x1
    try clear_value x1
    split
    · apply State.applyRoute_kept
      assumption
    · lift_lets -underBinder
      intro x2
      refine Kept.cut x2 ?_ (fun _ => ?_)
      · unfold x2
        clear x2
        apply State.wr_kept
        assumption
      clear_value x2
      apply Kept.ite
      · assumption
      · apply State.modDac_kept
        assumption
    · lift_lets -underBinder
      intro x3
      try clear_value x3
      intro x4
      refine Kept.cut x4 ?_ (fun _ => ?_)
      · unfold x4
        clear x4
        apply State.wr_kept
        assumption
      clear_value x4
      apply Kept.ite
      · apply State.modPrt_kept
        assumption
      · assumption
    · lift_lets -underBinder
      intro x5
      refine Kept.cut x5 ?_ (fun _ => ?_)
      · unfold x5
        clear x5
        apply State.wr_kept
        assumption
      clear_value x5
      apply Kept.ite
      · apply State.modGrp_kept
        assumption
      · assumption
    · lift_lets -underBinder
      intro x6
      refine Kept.cut x6 ?_ (fun _ => ?_)
      · unfold x6
        clear x6
        apply State.wr_kept
        assumption
      clear_value x6
      apply Kept.ite
      · apply State.modGrp_kept
        assumption
      · assumption
    · lift_lets -underBinder
      intro x7
      refine Kept.cut x7 ?_ (fun _ => ?_)
      · unfold x7
        clear x7
        apply State.wr_kept
        assumption
      clear_value x7
      apply Kept.ite
      · apply State.modGrp_kept
        assumption
      · assumption
    · lift_lets -underBinder
      intro x8
      refine Kept.cut x8 ?_ (fun _ => ?_)
      · unfold x8
        clear x8
        apply State.wr_kept
        assumption
      clear_value x8
      apply Kept.ite
      · apply State.modGrp_kept
        assumption
      · assumption
    · apply State.wr_kept
      assumption

theorem State.takeStep_kept {s0 s : State} (g : Nat) (ws : List (Nat × Word)) (hk : Kept s0 s) :
    Kept s0 (State.takeStep s g ws) := by
  unfold State.takeStep
  apply Kept.ite
  · assumption
  · apply State.modGrp_kept
    assumption

theorem State.zeroStep_kept {s0 s : State} (g : Nat) (hk : Kept s0 s) :
    Kept s0 (State.zeroStep s g) := by
  unfold State.zeroStep
  apply Kept.ite
  · assumption
  · apply State.wr64_kept
    assumption

theorem State.confineAt_kept {s0 s : State} (off : Nat) (hk : Kept s0 s) :
    Kept s0 (State.confineAt s off) := by
  unfold State.confineAt
  split
  · apply State.wr64_kept
    assumption
  · apply State.wr64_kept
    assumption
  · apply State.wr64_kept
    assumption
  · apply State.wr64_kept
    assumption
  · assumption

theorem State.applyWrites_kept {s0 s : State} (ws : List (Nat × Word)) (hk : Kept s0 s) :
    Kept s0 (State.applyWrites s ws) := by
  unfold State.applyWrites
  apply Kept.foldl
  · intro x0
    intro x1
    intro x2
    apply State.confineAt_kept
    assumption
  · apply Kept.foldl
    · intro x3
      intro x4
      intro x5
      apply State.applyStaged_kept
      assumption
    · assumption

theorem State.applySet_kept {s0 s : State} (g : Nat) (x : StageSet) (t : Nat) (status : Nat) (hk : Kept s0 s) :
    Kept s0 (State.applySet s g x t status) := by
  unfold State.applySet
  lift_lets -underBinder
  intro x0
  refine Kept.cut x0 ?_ (fun _ => ?_)
  · unfold x0
    clear x0
    apply State.applyWrites_kept
    assumption
  clear_value x0
  split
  · apply State.finishOpt_kept
    apply State.logErr_kept
    apply State.bump_kept
    assumption
  · lift_lets -underBinder
    intro x1
    refine Kept.cut x1 ?_ (fun _ => ?_)
    · unfold x1
      clear x1
      apply Kept.foldl
      · intro x2
        intro x3
        intro x4
        apply State.setEntry_kept
        assumption
      · apply State.takeStep_kept
        assumption
    clear_value x1
    apply Kept.ite
    · apply State.modGrp_kept
      assumption
    · apply State.finishOpt_kept
      apply State.modGrp_kept
      assumption

theorem State.missed_kept {s0 s : State} (g : Nat) (n : Nat) (marks : Nat) (hk : Kept s0 s) :
    Kept s0 (State.missed s g n marks) := by
  unfold State.missed
  apply State.irqIf_kept
  apply State.bump_kept
  apply State.modGrp_kept
  assumption

theorem State.release_kept {s0 s : State} (g : Nat) (cmd : Option CmdRef) (res : Option (List Word)) (hk : Kept s0 s) :
    Kept s0 (State.release s g cmd res) := by
  unfold State.release
  lift_lets -underBinder
  intro x0
  try clear_value x0
  intro x1
  try clear_value x1
  intro x2
  try clear_value x2
  apply Kept.ite
  · apply State.setGrp_kept
    assumption
  · apply State.setGrp_kept
    assumption

theorem State.releaseWaiting_kept {s0 s : State} (g : Nat) (hk : Kept s0 s) :
    Kept s0 (State.releaseWaiting s g) := by
  unfold State.releaseWaiting
  lift_lets -underBinder
  intro x0
  try clear_value x0
  split
  · assumption
  · apply State.release_kept
    apply State.setGrp_kept
    assumption

theorem State.stageAdd_kept {s0 s : State} (g : Nat) (ws : List (Nat × Word)) (es : List (Nat × List Word)) (cmd : Option CmdRef) (res : Option (List Word)) (hk : Kept s0 s) :
    Kept s0 (State.stageAdd s g ws es cmd res) := by
  unfold State.stageAdd
  lift_lets -underBinder
  intro x0
  refine Kept.cut x0 ?_ (fun _ => ?_)
  · unfold x0
    clear x0
    apply State.modGrp_kept
    assumption
  clear_value x0
  apply Kept.ite
  · assumption
  · apply State.release_kept
    assumption

theorem State.commitSets_kept {s0 s : State} (g : Nat) (t : Nat) (cp : Bool) (mk : Bool) (n : Nat) (hk : Kept s0 s) :
    Kept s0 (State.commitSets s g t cp mk n) := by
  induction n generalizing s g t cp mk with
  | zero => exact hk
  | succ n ih =>
  unfold State.commitSets
  split
  · assumption
  · split
    · lift_lets -underBinder
      intro x0
      refine Kept.cut x0 ?_ (fun _ => ?_)
      · unfold x0
        clear x0
        apply Kept.ite
        · assumption
        · apply State.irqIf_kept
          apply State.bump_kept
          assumption
      clear_value x0
      apply ih
      apply State.releaseWaiting_kept
      apply State.applySet_kept
      apply State.modGrp_kept
      assumption
    · apply State.irqIf_kept
      apply State.bump_kept
      apply State.modGrp_kept
      assumption
    · apply State.modGrp_kept
      assumption
    · assumption

theorem State.commitAll_kept {s0 s : State} (g : Nat) (t : Nat) (hk : Kept s0 s) :
    Kept s0 (State.commitAll s g t) := by
  unfold State.commitAll
  lift_lets -underBinder
  intro x0
  try clear_value x0
  intro x1
  refine Kept.cut x1 ?_ (fun _ => ?_)
  · unfold x1
    clear x1
    apply State.setGrp_kept
    assumption
  clear_value x1
  apply State.modGrp_kept
  apply State.zeroStep_kept
  apply Kept.foldl
  · intro x2
    intro x3
    intro x4
    apply Kept.ite
    · assumption
    · apply State.finishOpt_kept
      assumption
  · apply Kept.ite
    · apply Kept.foldl
      · intro x5
        intro x6
        intro x7
        apply State.applySet_kept
        assumption
      · assumption
    · apply State.applySet_kept
      apply Kept.foldl
      · intro x8
        intro x9
        intro x10
        apply State.applySet_kept
        assumption
      · assumption

end Sys2Proof.Machine
end

