-- ==== Sys2Proof/Laws/KeepSeq.lean ====
section
/-! SUPPORT. The operations of Machine/Seq.lean keep the waiting commands and the canonical form. -/
set_option linter.unusedVariables false
namespace Sys2Proof.Machine

theorem State.pruneHeld_kept {s0 s : State} (g : Nat) (hk : Kept s0 s) :
    Kept s0 (State.pruneHeld s g) := by
  unfold State.pruneHeld
  apply State.modGrp_kept
  assumption

theorem State.underrun_kept {s0 s : State} (g : Nat) (cause : Nat) (due : Option Nat) (hk : Kept s0 s) :
    Kept s0 (State.underrun s g cause due) := by
  unfold State.underrun
  lift_lets -underBinder
  intro x0
  try clear_value x0
  intro x1
  try clear_value x1
  intro x2
  try clear_value x2
  intro x3
  refine Kept.cut x3 ?_ (fun _ => ?_)
  · unfold x3
    clear x3
    apply State.bump_kept
    apply State.bump_kept
    apply State.setGrp_kept
    assumption
  clear_value x3
  apply Kept.ite
  · apply Kept.ite
    · apply State.bump_kept
      apply State.bump_kept
      apply State.setGrp_kept
      assumption
    · assumption
  · apply Kept.ite
    · apply Kept.ite
      · apply State.lasting_kept
        assumption
      · apply State.logErr_kept
        assumption
    · assumption

theorem State.dropTrig_kept {s0 s : State} (g : Nat) (y : Trig) (hk : Kept s0 s) :
    Kept s0 (State.dropTrig s g y) := by
  unfold State.dropTrig
  apply Kept.ite
  · apply State.bump_kept
    apply State.finishOpt_kept
    assumption
  · apply State.resolveEv_kept
    assumption

theorem State.recordSwitch_kept {s0 s : State} (g : Nat) (e : Nat) (old : Nat) (idx : Nat) (cause : Nat) (t : Nat) (hk : Kept s0 s) :
    Kept s0 (State.recordSwitch s g e old idx cause t) := by
  unfold State.recordSwitch
  lift_lets -underBinder
  intro x0
  refine Kept.cut x0 ?_ (fun _ => ?_)
  · unfold x0
    clear x0
    apply State.modGrp_kept
    assumption
  clear_value x0
  apply State.irqIf_kept
  apply State.bump_kept
  assumption

theorem State.entryStart_kept {s0 s : State} (g : Nat) (e : Nat) (t : Nat) (idx : Nat) (cause : Nat) (plays : Nat) (hk : Kept s0 s) :
    Kept s0 (State.entryStart s g e t idx cause plays) := by
  unfold State.entryStart
  lift_lets -underBinder
  intro x0
  try clear_value x0
  intro x1
  try clear_value x1
  intro x2
  try clear_value x2
  intro x3
  try clear_value x3
  intro x4
  refine Kept.cut x4 ?_ (fun _ => ?_)
  · unfold x4
    clear x4
    apply Kept.foldl
    · intro x5
      intro x6
      intro x7
      apply State.resolveEv_kept
      assumption
    · assumption
  clear_value x4
  apply State.recordSwitch_kept
  apply State.markEntry_kept
  apply State.setGrp_kept
  assumption

theorem State.tryStart_kept {s0 s : State} (g : Nat) (e : Nat) (t : Nat) (idx : Nat) (cause : Nat) (plays : Nat) (hk : Kept s0 s) :
    Kept s0 (State.tryStart s g e t idx cause plays) := by
  unfold State.tryStart
  apply Kept.ite
  · apply State.entryStart_kept
    assumption
  · apply State.underrun_kept
    assumption

theorem State.outputsStop_kept {s0 s : State} (g : Nat) (ramp : Bool) (hk : Kept s0 s) :
    Kept s0 (State.outputsStop s g ramp) := by
  unfold State.outputsStop
  lift_lets -underBinder
  intro x0
  refine Kept.cut x0 ?_ (fun _ => ?_)
  · unfold x0
    clear x0
    apply Kept.foldl
    · intro x1
      intro x2
      intro x3
      apply State.chanStop_kept
      assumption
    · assumption
  clear_value x0
  apply State.settlePairs_kept
  apply State.markersLow_kept
  apply State.lanesStop_kept
  apply State.modGrp_kept
  apply Kept.ite
  · assumption
  · apply State.rampsMid_kept
    assumption

theorem State.dacBlock_kept {s0 s : State} (on : Bool) (hk : Kept s0 s) :
    Kept s0 (State.dacBlock s on) := by
  unfold State.dacBlock
  apply Kept.ite
  · apply Kept.ite
    · assumption
    · apply State.setRunning_kept
      assumption
  · lift_lets -underBinder
    intro x0
    refine Kept.cut x0 ?_ (fun _ => ?_)
    · unfold x0
      clear x0
      apply Kept.foldl
      · intro x1
        intro x2
        intro x3
        apply State.dacMid_kept
        assumption
      · assumption
    clear_value x0
    apply State.wrb_kept
    apply State.setRunning_kept
    assumption

theorem State.exclSettle_kept {s0 s : State} (hk : Kept s0 s) :
    Kept s0 (State.exclSettle s) := by
  unfold State.exclSettle
  apply Kept.ite
  · simp only [Kept.upd]
    assumption
  · assumption

theorem State.stopOne_kept {s0 s : State} (g : Nat) (t : Nat) (ramp : Bool) (hk : Kept s0 s) :
    Kept s0 (State.stopOne s g t ramp) := by
  unfold State.stopOne
  lift_lets -underBinder
  intro x0
  try clear_value x0
  intro x1
  refine Kept.cut x1 ?_ (fun _ => ?_)
  · unfold x1
    clear x1
    apply State.commitAll_kept
    assumption
  clear_value x1
  apply State.exclSettle_kept
  apply State.slackRestart_kept
  apply State.settleEnables_kept
  · intro x2
    intro x3
    intro x4
    apply State.dacBlock_kept
    assumption
  · apply State.flushLog_kept
    apply State.outputsStop_kept
    apply State.modGrp_kept
    apply State.finishOpt_kept
    apply State.finishOpt_kept
    apply Kept.foldl
    · intro x5
      intro x6
      intro x7
      apply State.finishOpt_kept
      assumption
    · apply Kept.foldl
      · intro x8
        intro x9
        intro x10
        apply State.dropTrig_kept
        assumption
      · assumption

theorem State.stopGroup_kept {s0 s : State} (g : Nat) (t : Nat) (ramp : Bool) (hk : Kept s0 s) :
    Kept s0 (State.stopGroup s g t ramp) := by
  unfold State.stopGroup
  lift_lets -underBinder
  intro x0
  refine Kept.cut x0 ?_ (fun _ => ?_)
  · unfold x0
    clear x0
    apply State.stopOne_kept
    assumption
  clear_value x0
  apply Kept.foldl
  · intro x1
    intro x2
    intro x3
    apply Kept.ite
    · apply State.stopOne_kept
      assumption
    · assumption
  · assumption

theorem State.delaySwitches_kept {s0 s : State} (g : Nat) (t : Nat) (hk : Kept s0 s) :
    Kept s0 (State.delaySwitches s g t) := by
  unfold State.delaySwitches
  apply Kept.ite
  · lift_lets -underBinder
    intro x0
    try clear_value x0
    intro x1
    intro x2
    refine Kept.cut x2 ?_ (fun _ => ?_)
    · unfold x2
      clear x2
      apply State.setGrp_kept
      assumption
    clear_value x2
    apply Kept.foldl
    · intro x3
      intro x4
      intro x5
      apply State.bump_kept
      assumption
    · assumption
  · assumption

theorem State.switch_kept {s0 s : State} (g : Nat) (t : Nat) (delayed : Option Bool) (hk : Kept s0 s) :
    Kept s0 (State.switch s g t delayed) := by
  unfold State.switch
  apply Kept.ite
  · assumption
  · lift_lets -underBinder
    intro x0
    try clear_value x0
    split
    · assumption
    · lift_lets -underBinder
      intro x1
      try clear_value x1
      intro x2
      try clear_value x2
      intro x3
      refine Kept.cut x3 ?_ (fun _ => ?_)
      · unfold x3
        clear x3
        apply State.setGrp_kept
        assumption
      clear_value x3
      apply Kept.ite
      · apply State.finishOpt_kept
        apply Kept.ite
        · apply State.resolveEv_kept
          apply State.tryStart_kept
          apply Kept.foldl
          · intro x4
            intro x5
            intro x6
            apply Kept.ite
            · apply State.bump_kept
              apply State.finishOpt_kept
              assumption
            · apply State.bump_kept
              apply State.resolveEv_kept
              assumption
          · assumption
        · apply State.resolveEv_kept
          apply State.tryStart_kept
          apply Kept.foldl
          · intro x7
            intro x8
            intro x9
            apply Kept.ite
            · apply State.bump_kept
              apply State.finishOpt_kept
              assumption
            · apply State.bump_kept
              apply State.resolveEv_kept
              assumption
          · assumption
      · apply Kept.ite
        · apply State.bump_kept
          apply State.finishOpt_kept
          apply Kept.ite
          · apply State.resolveEv_kept
            apply State.tryStart_kept
            apply Kept.foldl
            · intro x10
              intro x11
              intro x12
              apply Kept.ite
              · apply State.bump_kept
                apply State.finishOpt_kept
                assumption
              · apply State.bump_kept
                apply State.resolveEv_kept
                assumption
            · assumption
          · apply State.resolveEv_kept
            apply State.tryStart_kept
            apply Kept.foldl
            · intro x13
              intro x14
              intro x15
              apply Kept.ite
              · apply State.bump_kept
                apply State.finishOpt_kept
                assumption
              · apply State.bump_kept
                apply State.resolveEv_kept
                assumption
            · assumption
        · apply Kept.ite
          · apply State.resolveEv_kept
            apply State.tryStart_kept
            apply Kept.foldl
            · intro x16
              intro x17
              intro x18
              apply Kept.ite
              · apply State.bump_kept
                apply State.finishOpt_kept
                assumption
              · apply State.bump_kept
                apply State.resolveEv_kept
                assumption
            · assumption
          · apply State.resolveEv_kept
            apply State.tryStart_kept
            apply Kept.foldl
            · intro x19
              intro x20
              intro x21
              apply Kept.ite
              · apply State.bump_kept
                apply State.finishOpt_kept
                assumption
              · apply State.bump_kept
                apply State.resolveEv_kept
                assumption
            · assumption

theorem State.durationEnd_kept {s0 s : State} (g : Nat) (t : Nat) (hk : Kept s0 s) :
    Kept s0 (State.durationEnd s g t) := by
  unfold State.durationEnd
  lift_lets -underBinder
  intro x0
  try clear_value x0
  intro x1
  try clear_value x1
  apply Kept.ite
  · apply Kept.ite
    · apply State.tryStart_kept
      assumption
    · apply Kept.ite
      · assumption
      · apply Kept.ite
        · apply State.tryStart_kept
          assumption
        · apply State.underrun_kept
          assumption
  · assumption

theorem State.loseJumps_kept {s0 s : State} (g : Nat) (t : Nat) (hk : Kept s0 s) :
    Kept s0 (State.loseJumps s g t) := by
  unfold State.loseJumps
  lift_lets -underBinder
  intro x0
  try clear_value x0
  intro x1
  try clear_value x1
  intro x2
  refine Kept.cut x2 ?_ (fun _ => ?_)
  · unfold x2
    clear x2
    apply State.setGrp_kept
    assumption
  clear_value x2
  apply Kept.foldl
  · intro x3
    intro x4
    intro x5
    apply Kept.ite
    · apply State.resolveEv_kept
      assumption
    · apply State.dropTrig_kept
      assumption
  · assumption

theorem State.stopPoint_kept {s0 s : State} (g : Nat) (t : Nat) (hk : Kept s0 s) :
    Kept s0 (State.stopPoint s g t) := by
  unfold State.stopPoint
  apply Kept.ite
  · apply State.stopGroup_kept
    apply State.loseJumps_kept
    assumption
  · assumption

theorem State.markUnderrun_kept {s0 s : State} (g : Nat) (t : Nat) (hk : Kept s0 s) :
    Kept s0 (State.markUnderrun s g t) := by
  unfold State.markUnderrun
  lift_lets -underBinder
  intro x0
  try clear_value x0
  split
  · apply Kept.ite
    · apply State.loseJumps_kept
      apply State.setGrp_kept
      assumption
    · assumption
  · assumption

theorem State.sampleMissed_kept {s0 s : State} (g : Nat) (cause : Nat) (t : Nat) (hk : Kept s0 s) :
    Kept s0 (State.sampleMissed s g cause t) := by
  unfold State.sampleMissed
  apply Kept.ite
  · assumption
  · apply State.underrun_kept
    assumption

theorem State.fallback_kept {s0 s : State} (g : Nat) (t : Nat) (hk : Kept s0 s) :
    Kept s0 (State.fallback s g t) := by
  unfold State.fallback
  lift_lets -underBinder
  intro x0
  try clear_value x0
  split
  · split
    · apply Kept.ite
      · lift_lets -underBinder
        intro x1
        try clear_value x1
        intro x2
        refine Kept.cut x2 ?_ (fun _ => ?_)
        · unfold x2
          clear x2
          apply State.setGrp_kept
          assumption
        clear_value x2
        apply State.settlePairs_kept
        apply State.markersLow_kept
        apply Kept.ite
        · apply State.logErr_kept
          apply State.recordSwitch_kept
          assumption
        · apply State.irqIf_kept
          apply State.logErr_kept
          apply State.recordSwitch_kept
          assumption
      · assumption
    · assumption
  · assumption

theorem State.resumption_kept {s0 s : State} (g : Nat) (t : Nat) (hk : Kept s0 s) :
    Kept s0 (State.resumption s g t) := by
  unfold State.resumption
  lift_lets -underBinder
  intro x0
  try clear_value x0
  intro x1
  try clear_value x1
  intro x2
  refine Kept.cut x2 ?_ (fun _ => ?_)
  · unfold x2
    clear x2
    apply State.setGrp_kept
    assumption
  clear_value x2
  apply Kept.ite
  · apply State.logErr_kept
    apply State.entryStart_kept
    assumption
  · assumption

theorem State.contentChanged_kept {s0 s : State} (g : Nat) (t : Nat) (old : List Word) (hk : Kept s0 s) :
    Kept s0 (State.contentChanged s g t old) := by
  unfold State.contentChanged
  lift_lets -underBinder
  intro x0
  try clear_value x0
  intro x1
  try clear_value x1
  intro x2
  refine Kept.cut x2 ?_ (fun _ => ?_)
  · unfold x2
    clear x2
    apply State.setGrp_kept
    assumption
  clear_value x2
  apply Kept.ite
  · assumption
  · apply Kept.ite
    · apply State.underrun_kept
      assumption
    · apply Kept.ite
      · apply State.underrun_kept
        assumption
      · assumption

theorem State.commitAt_kept {s0 s : State} (g : Nat) (t : Nat) (cp : Bool) (mk : Bool) (hk : Kept s0 s) :
    Kept s0 (State.commitAt s g t cp mk) := by
  unfold State.commitAt
  lift_lets -underBinder
  intro x0
  try clear_value x0
  apply Kept.ite
  · assumption
  · apply State.pruneHeld_kept
    apply State.contentChanged_kept
    apply State.zeroStep_kept
    apply State.commitSets_kept
    assumption

theorem State.commitPoint_kept {s0 s : State} (g : Nat) (t : Nat) (hk : Kept s0 s) :
    Kept s0 (State.commitPoint s g t) := by
  unfold State.commitPoint
  lift_lets -underBinder
  intro x0
  try clear_value x0
  apply Kept.ite
  · apply State.commitAt_kept
    apply State.setGrp_kept
    assumption
  · assumption

theorem State.foreseeStep_kept {s0 s : State} (g : Nat) (t : Nat) (hk : Kept s0 s) :
    Kept s0 (State.foreseeStep s g t) := by
  unfold State.foreseeStep
  apply State.modGrp_kept
  assumption

theorem State.turnMark_kept {s0 s : State} (g : Nat) (t : Nat) (hk : Kept s0 s) :
    Kept s0 (State.turnMark s g t) := by
  unfold State.turnMark
  lift_lets -underBinder
  intro x0
  try clear_value x0
  intro x1
  try clear_value x1
  apply Kept.ite
  · apply State.dacMarks_kept
    apply State.chanMarks_kept
    apply State.setGrp_kept
    assumption
  · assumption

theorem State.boundaryWork_kept {s0 s : State} (g : Nat) (hk : Kept s0 s) :
    Kept s0 (State.boundaryWork s g) := by
  unfold State.boundaryWork
  apply Kept.ite
  · apply Kept.ite
    · apply State.folRecord_kept
      assumption
    · apply Kept.ite
      · apply State.folBoundary_kept
        assumption
      · assumption
  · assumption

theorem State.decideSample_kept {s0 s : State} (g : Nat) (t : Nat) (hk : Kept s0 s) :
    Kept s0 (State.decideSample s g t) := by
  unfold State.decideSample
  lift_lets -underBinder
  intro x0
  refine Kept.cut x0 ?_ (fun _ => ?_)
  · unfold x0
    clear x0
    apply State.stopPoint_kept
    apply State.foreseeStep_kept
    assumption
  clear_value x0
  apply Kept.ite
  · apply State.turnMark_kept
    apply State.boundaryWork_kept
    apply State.markUnderrun_kept
    apply State.commitPoint_kept
    apply State.markUnderrun_kept
    apply State.durationEnd_kept
    apply State.switch_kept
    apply State.delaySwitches_kept
    apply State.resumption_kept
    apply State.fallback_kept
    apply State.markUnderrun_kept
    assumption
  · assumption

theorem State.counted_kept {s0 s : State} (g : Nat) (t : Nat) (hk : Kept s0 s) :
    Kept s0 (State.counted s g t) := by
  unfold State.counted
  lift_lets -underBinder
  intro x0
  try clear_value x0
  apply State.modGrp_kept
  assumption

theorem State.ahead_kept {s0 s : State} (g : Nat) (t : Nat) (hk : Kept s0 s) :
    Kept s0 (State.ahead s g t) := by
  unfold State.ahead
  lift_lets -underBinder
  intro x0
  refine Kept.cut x0 ?_ (fun _ => ?_)
  · unfold x0
    clear x0
    apply State.decideSample_kept
    assumption
  clear_value x0
  apply Kept.ite
  · apply State.counted_kept
    apply State.advance_kept
    assumption
  · assumption

theorem State.leaderRecords_kept {s0 s : State} (g : Nat) (hk : Kept s0 s) :
    Kept s0 (State.leaderRecords s g) := by
  unfold State.leaderRecords
  lift_lets -underBinder
  intro x0
  try clear_value x0
  intro x1
  try clear_value x1
  apply Kept.ite
  · assumption
  · apply Kept.ite
    · apply Kept.foldl
      · intro x2
        intro x3
        intro x4
        apply State.sendTurnRecord_kept
        assumption
      · assumption
    · apply Kept.foldl
      · intro x5
        intro x6
        intro x7
        apply State.sendTurnRecord_kept
        assumption
      · assumption

theorem State.judge_kept {s0 s : State} (g : Nat) (hk : Kept s0 s) :
    Kept s0 (State.judge s g) := by
  unfold State.judge
  lift_lets -underBinder
  intro x0
  try clear_value x0
  apply Kept.ite
  · split
    · apply State.missed_kept
      assumption
    · assumption
  · assumption

theorem State.releaseSet_kept {s0 s : State} (g : Nat) (cmd : Option CmdRef) (res : Option (List Word)) (hk : Kept s0 s) :
    Kept s0 (State.releaseSet s g cmd res) := by
  unfold State.releaseSet
  apply State.judge_kept
  apply State.release_kept
  assumption

theorem State.addition_kept {s0 s : State} (g : Nat) (ws : List (Nat × Word)) (es : List (Nat × List Word)) (cmd : Option CmdRef) (res : Option (List Word)) (hk : Kept s0 s) :
    Kept s0 (State.addition s g ws es cmd res) := by
  unfold State.addition
  lift_lets -underBinder
  intro x0
  refine Kept.cut x0 ?_ (fun _ => ?_)
  · unfold x0
    clear x0
    apply State.stageAdd_kept
    assumption
  clear_value x0
  apply Kept.ite
  · assumption
  · apply State.judge_kept
    assumption

theorem State.edge_kept {s0 s : State} (g : Nat) (t : Nat) (hk : Kept s0 s) :
    Kept s0 (State.edge s g t) := by
  unfold State.edge
  apply State.flushLog_kept
  apply State.settlePairs_kept
  apply State.counted_kept
  apply State.rampEdges_kept
  apply State.dacEdges_kept
  assumption

theorem State.lateArrive_kept {s0 s : State} (g : Nat) (hk : Kept s0 s) :
    Kept s0 (State.lateArrive s g) := by
  unfold State.lateArrive
  lift_lets -underBinder
  intro x0
  try clear_value x0
  apply Kept.foldl
  · intro x1
    intro x2
    intro x3
    apply State.frameEnter_kept
    assumption
  · apply State.setGrp_kept
    assumption

theorem State.frameShow_kept {s0 s : State} (g : Nat) (t : Nat) (hk : Kept s0 s) :
    Kept s0 (State.frameShow s g t) := by
  unfold State.frameShow
  lift_lets -underBinder
  intro x0
  refine Kept.cut x0 ?_ (fun _ => ?_)
  · unfold x0
    clear x0
    apply Kept.foldl
    · intro x1
      intro x2
      intro x3
      apply State.chanPresent_kept
      assumption
    · assumption
  clear_value x0
  apply State.edge_kept
  apply State.modGrp_kept
  apply State.frameEnter_kept
  assumption

theorem State.frameMiss_kept {s0 s : State} (g : Nat) (t : Nat) (hk : Kept s0 s) :
    Kept s0 (State.frameMiss s g t) := by
  unfold State.frameMiss
  apply State.edge_kept
  apply State.modGrp_kept
  apply Kept.foldl
  · intro x0
    intro x1
    intro x2
    apply State.chanRepeat_kept
    assumption
  · assumption

theorem State.present_kept {s0 s : State} (g : Nat) (t : Nat) (absent : Bool) (stale : Bool) (known : Bool) (hk : Kept s0 s) :
    Kept s0 (State.present s g t absent stale known) := by
  unfold State.present
  lift_lets -underBinder
  intro x0
  refine Kept.cut x0 ?_ (fun _ => ?_)
  · unfold x0
    clear x0
    apply Kept.ite
    · assumption
    · apply State.markUnderrun_kept
      apply State.underrun_kept
      assumption
  clear_value x0
  apply Kept.ite
  · apply State.frameMiss_kept
    apply State.modGrp_kept
    apply Kept.ite
    · apply State.lateArrive_kept
      assumption
    · assumption
  · apply State.frameShow_kept
    apply Kept.ite
    · apply State.lateArrive_kept
      assumption
    · assumption

theorem State.sineCheck_kept {s0 s : State} (sine : Bool) (hk : Kept s0 s) :
    Kept s0 (State.sineCheck s sine) := by
  unfold State.sineCheck
  lift_lets -underBinder
  intro x0
  refine Kept.cut x0 ?_ (fun _ => ?_)
  · unfold x0
    clear x0
    apply Kept.ite
    · assumption
    · apply State.wrb_kept
      assumption
  clear_value x0
  apply Kept.ite
  · apply State.bump_kept
    assumption
  · assumption

theorem State.rampTick_kept {s0 s : State} (g : Nat) (hk : Kept s0 s) :
    Kept s0 (State.rampTick s g) := by
  unfold State.rampTick
  apply State.modGrp_kept
  apply State.rampEdges_kept
  assumption

theorem State.groupSample_kept {s0 s : State} (g : Nat) (t : Nat) (absent : Bool) (stale : Bool) (sine : Bool) (hk : Kept s0 s) :
    Kept s0 (State.groupSample s g t absent stale sine) := by
  unfold State.groupSample
  lift_lets -underBinder
  intro x0
  try clear_value x0
  intro x1
  refine Kept.cut x1 ?_ (fun _ => ?_)
  · unfold x1
    clear x1
    apply State.reach_kept
    apply State.svCatchUp_kept
    assumption
  clear_value x1
  apply Kept.ite
  · apply Kept.ite
    · apply State.leaderRecords_kept
      apply State.present_kept
      apply State.sineCheck_kept
      apply State.advance_kept
      apply State.decideSample_kept
      apply Kept.ite
      · apply State.sampleMissed_kept
        assumption
      · assumption
    · apply State.rampTick_kept
      apply State.decideSample_kept
      apply Kept.ite
      · apply State.sampleMissed_kept
        assumption
      · assumption
  · apply Kept.ite
    · apply State.rampTick_kept
      apply State.reach_kept
      apply State.svCatchUp_kept
      assumption
    · assumption

theorem State.firstSample_kept {s0 s : State} (g : Nat) (t : Nat) (absent : Bool) (sine : Bool) (hk : Kept s0 s) :
    Kept s0 (State.firstSample s g t absent sine) := by
  unfold State.firstSample
  lift_lets -underBinder
  intro x0
  try clear_value x0
  intro x1
  refine Kept.cut x1 ?_ (fun _ => ?_)
  · unfold x1
    clear x1
    apply State.reach_kept
    apply State.svCatchUp_kept
    assumption
  clear_value x1
  apply Kept.ite
  · apply State.slackRestart_kept
    apply State.finishOpt_kept
    apply State.leaderRecords_kept
    apply State.present_kept
    apply State.sineCheck_kept
    apply State.markUnderrun_kept
    apply Kept.foldl
    · intro x2
      intro x3
      intro x4
      apply State.chanBegin_kept
      assumption
    · apply Kept.ite
      · apply State.bump_kept
        apply State.setGrp_kept
        apply State.commitAt_kept
        apply State.tryStart_kept
        apply State.setGrp_kept
        assumption
      · apply State.setGrp_kept
        apply State.commitAt_kept
        apply State.tryStart_kept
        apply State.setGrp_kept
        assumption
  · assumption

theorem State.discardFrame_kept {s0 s : State} (g : Nat) (t : Nat) (hk : Kept s0 s) :
    Kept s0 (State.discardFrame s g t) := by
  unfold State.discardFrame
  lift_lets -underBinder
  intro x0
  try clear_value x0
  intro x1
  refine Kept.cut x1 ?_ (fun _ => ?_)
  · unfold x1
    clear x1
    apply State.decideSample_kept
    apply State.sampleMissed_kept
    apply State.reach_kept
    apply State.svCatchUp_kept
    assumption
  clear_value x1
  apply Kept.ite
  · apply Kept.ite
    · apply State.leaderRecords_kept
      apply State.frameMiss_kept
      apply State.advance_kept
      assumption
    · apply State.rampTick_kept
      assumption
  · assumption

end Sys2Proof.Machine
end

