-- ==== Sys2Proof/Laws/KeepMemBase.lean ====
section
/-! SUPPORT. The operations of Machine/MemBase.lean keep the waiting commands and the canonical form. -/
set_option linter.unusedVariables false
namespace Sys2Proof.Machine

theorem State.allocDrop_kept {s0 s : State} (owner : Nat) (hk : Kept s0 s) :
    Kept s0 (State.allocDrop s owner) := by
  unfold State.allocDrop
  simp only [Kept.upd]
  assumption

theorem State.allocPut_kept {s0 s : State} (a : Alloc) (hk : Kept s0 s) : KeptO s0 (s.allocPut a) := by
  intro t h
  obtain ⟨k, _, rfl⟩ := Option.map_eq_some_iff.mp h
  exact hk

theorem State.writeExt_kept {s0 s : State} (addr : Nat) (b : Byte) (hk : Kept s0 s) : Kept s0 (s.writeExt addr b) := by
  unfold State.writeExt
  split
  · exact hk
  · refine hk.map (Eq.refl _) fun c => ⟨?_, c.2⟩
    have h := c.1
    simp only [Memory.wf, Bool.and_eq_true] at *
    exact ⟨h.1, KMap.wf_insert _ _ _ h.2⟩

theorem State.writeChip_kept {s0 s : State} (addr : Nat) (b : Byte) (hk : Kept s0 s) :
    Kept s0 (s.writeChip addr b) := by
  refine hk.map (Eq.refl _) fun c => ⟨?_, c.2⟩
  have h := c.1
  simp only [Memory.wf, Bool.and_eq_true] at *
  exact ⟨KMap.canon_put (fun _ => 0) _ _ _ h.1, h.2⟩

theorem State.writeB_kept {s0 s : State} (chip : Bool) (addr : Nat) (b : Byte) (hk : Kept s0 s) :
    Kept s0 (State.writeB s chip addr b) := by
  unfold State.writeB
  apply Kept.ite
  · apply State.writeChip_kept
    assumption
  · apply State.writeExt_kept
    assumption

theorem State.writeBytes_kept {s0 s : State} (chip : Bool) (addr : Nat) (l : List Byte) (hk : Kept s0 s) :
    Kept s0 (s.writeBytes chip addr l) := by
  induction l generalizing s addr with
  | nil => exact hk
  | cons b t ih => exact ih _ (State.writeB_kept _ _ _ hk)

theorem State.clearSet_kept {s0 s : State} (n : Nat) (hk : Kept s0 s) : Kept s0 (s.clearSet n) := by
  refine hk.map (Eq.refl _) fun c => ⟨?_, c.2⟩
  have h := c.1
  simp only [Memory.wf, Bool.and_eq_true] at *
  exact ⟨KMap.canon_filter _ h.1, h.2⟩

theorem State.errLoad_kept {s0 s : State} (addr : Nat) (finder : Nat) (ue : Bool) (hk : Kept s0 s) :
    Kept s0 (State.errLoad s addr finder ue) := by
  unfold State.errLoad
  apply State.wr_kept
  apply State.wr_kept
  assumption

theorem State.memCe_kept {s0 s : State} (addr : Nat) (finder : Nat) (hk : Kept s0 s) :
    Kept s0 (State.memCe s addr finder) := by
  unfold State.memCe
  apply State.errLoad_kept
  apply State.bump_kept
  assumption

theorem State.memUe_kept {s0 s : State} (addr : Nat) (finder : Nat) (hk : Kept s0 s) :
    Kept s0 (State.memUe s addr finder) := by
  unfold State.memUe
  lift_lets -underBinder
  intro x0
  try clear_value x0
  intro x1
  refine Kept.cut x1 ?_ (fun _ => ?_)
  · unfold x1
    clear x1
    apply State.errLoad_kept
    apply State.bump_kept
    assumption
  clear_value x1
  apply State.irqIf_kept
  apply State.lasting_kept
  assumption

theorem State.fenceGroup_kept {s0 s : State} (g : Nat) (stage : Nat) (hk : Kept s0 s) :
    Kept s0 (State.fenceGroup s g stage) := by
  unfold State.fenceGroup
  lift_lets -underBinder
  intro x0
  try clear_value x0
  intro x1
  refine Kept.cut x1 ?_ (fun _ => ?_)
  · unfold x1
    clear x1
    simp only [Kept.upd]
    assumption
  clear_value x1
  apply Kept.ite
  · apply State.stopGroup_kept
    apply State.svCatchUp_kept
    apply State.lasting_kept
    assumption
  · apply State.lasting_kept
    assumption

theorem State.dropHeld_kept {s0 s : State} (g : Nat) (i : Nat) (hk : Kept s0 s) :
    Kept s0 (State.dropHeld s g i) := by
  unfold State.dropHeld
  apply State.modGrp_kept
  assumption

theorem State.fenceSeg_kept {s0 s : State} (i : Nat) (hk : Kept s0 s) :
    Kept s0 (State.fenceSeg s i) := by
  unfold State.fenceSeg
  lift_lets -underBinder
  intro x0
  refine Kept.cut x0 ?_ (fun _ => ?_)
  · unfold x0
    clear x0
    apply State.modSeg_kept
    assumption
  clear_value x0
  apply Kept.foldl
  · intro x1
    intro x2
    intro x3
    lift_lets -underBinder
    intro x4
    refine Kept.cut x4 ?_ (fun _ => ?_)
    · unfold x4
      clear x4
      apply State.dropHeld_kept
      assumption
    clear_value x4
    apply Kept.ite
    · apply State.underrun_kept
      assumption
    · assumption
  · assumption

end Sys2Proof.Machine
end

