-- ==== Sys2Proof/Laws/KeepRun.lean ====
section
/-! SUPPORT. The operations of Machine/Run.lean keep the waiting commands and the canonical form. -/
set_option linter.unusedVariables false
namespace Sys2Proof.Machine

theorem State.runHere_kept {s0 s : State} (c : Cmd) (r : CmdRef) (body : State → Cmd → CmdRef → State) (hbody : ∀ (x0 : State) (x1 : Cmd) (x2 : CmdRef), Kept s0 x0 → Kept s0 (body x0 x1 x2)) (hk : Kept s0 s) :
    Kept s0 (State.runHere s c r body) := by
  unfold State.runHere
  lift_lets -underBinder
  intro x0
  try clear_value x0
  apply Kept.ite
  · apply State.finish_kept
    assumption
  · apply Kept.ite
    · apply State.finish_kept
      assumption
    · apply hbody
      apply State.begun_kept
      assumption

theorem State.forwardCmd_kept {s0 s : State} (c : Cmd) (r : CmdRef) (hk : Kept s0 s) :
    Kept s0 (State.forwardCmd s c r) := by
  unfold State.forwardCmd
  split
  · apply Kept.ite
    · lift_lets -underBinder
      intro x0
      refine Kept.cut x0.2 ?_ (fun _ => ?_)
      · unfold x0
        clear x0
        apply State.nextNum_kept
        assumption
      clear_value x0
      apply State.sendPacket_kept
      apply State.begun_kept
      with_reducible assumption
    · apply State.finish_kept
      assumption
  · apply State.finish_kept
    assumption

theorem State.bcastOpen_kept {s0 s : State} (num : Nat) (r : CmdRef) (hk : Kept s0 s) :
    Kept s0 (State.bcastOpen s num r) := by
  unfold State.bcastOpen
  lift_lets -underBinder
  intro x0
  refine Kept.cut x0 ?_ (fun _ => ?_)
  · unfold x0
    clear x0
    apply State.wr_kept
    assumption
  clear_value x0
  simp only [Kept.upd]
  assumption

theorem State.runBroadcast_kept {s0 s : State} (c : Cmd) (r : CmdRef) (body : State → Cmd → CmdRef → State) (hbody : ∀ (x0 : State) (x1 : Cmd) (x2 : CmdRef), Kept s0 x0 → Kept s0 (body x0 x1 x2)) (hk : Kept s0 s) :
    Kept s0 (State.runBroadcast s c r body) := by
  unfold State.runBroadcast
  apply Kept.ite
  · apply State.finish_kept
    assumption
  · apply Kept.ite
    · lift_lets -underBinder
      intro x0
      try clear_value x0
      intro x1
      refine Kept.cut x1.2 ?_ (fun _ => ?_)
      · unfold x1
        clear x1
        apply State.nextNum_kept
        assumption
      clear_value x1
      apply State.runHere_kept
      · with_reducible assumption
      · apply State.bcastOpen_kept
        apply Kept.ite
        · apply Kept.foldl
          · intro x2
            intro x3
            intro x4
            apply State.sendMsg_kept
            apply State.sendBodies_kept
            assumption
          · split
            · split
              · with_reducible assumption
              · with_reducible assumption
            · with_reducible assumption
        · split
          · split
            · with_reducible assumption
            · with_reducible assumption
          · with_reducible assumption
    · apply Kept.ite
      · split
        · split
          · apply Kept.ite
            · lift_lets -underBinder
              intro x5
              try clear_value x5
              intro x6
              refine Kept.cut x6 ?_ (fun _ => ?_)
              · unfold x6
                clear x6
                simp only [Kept.upd]
                assumption
              clear_value x6
              apply State.runHere_kept
              · with_reducible assumption
              · apply State.bcastOpen_kept
                assumption
            · assumption
          · assumption
        · assumption
      · lift_lets -underBinder
        intro x7
        refine Kept.cut x7.2 ?_ (fun _ => ?_)
        · unfold x7
          clear x7
          apply State.nextNum_kept
          assumption
        clear_value x7
        apply Kept.ite
        · apply State.sendPacket_kept
          apply State.begun_kept
          with_reducible assumption
        · apply State.finish_kept
          assumption

theorem State.run_kept {s0 s : State} (q : Nat) (k : Nat) (op : Nat) (body : State → Cmd → CmdRef → State) (hbody : ∀ (x0 : State) (x1 : Cmd) (x2 : CmdRef), Kept s0 x0 → Kept s0 (body x0 x1 x2)) (hk : Kept s0 s) :
    Kept s0 (State.run s q k op body) := by
  unfold State.run
  lift_lets -underBinder
  intro x0
  try clear_value x0
  split
  · assumption
  · apply Kept.ite
    · apply Kept.ite
      · apply State.finish_kept
        assumption
      · apply Kept.ite
        · apply State.runBroadcast_kept
          · with_reducible assumption
          · assumption
        · apply Kept.ite
          · apply State.runHere_kept
            · with_reducible assumption
            · assumption
          · apply State.forwardCmd_kept
            assumption
    · assumption

end Sys2Proof.Machine
end

