-- ==== Sys2Proof/Laws/KeepSegments.lean ====
section
/-! SUPPORT. The operations of Machine/Segments.lean keep the waiting commands and the canonical form. -/
set_option linter.unusedVariables false
namespace Sys2Proof.Machine

theorem State.segDefine_kept {s0 s : State} (q : Nat) (k : Nat) (hk : Kept s0 s) :
    Kept s0 (State.segDefine s q k) := by
  unfold State.segDefine
  apply State.run_kept
  · intro x0
    intro x1
    intro x2
    intro x3
    lift_lets -underBinder
    intro x4
    try clear_value x4
    intro x5
    try clear_value x5
    intro x6
    try clear_value x6
    apply Kept.ite
    · apply State.finish_kept
      assumption
    · apply Kept.ite
      · apply State.finish_kept
        assumption
      · apply Kept.ite
        · apply State.finish_kept
          assumption
        · apply Kept.ite
          · apply State.finish_kept
            assumption
          · apply Kept.ite
            · apply State.finish_kept
              assumption
            · apply State.finish_kept
              apply State.setSeg_kept
              assumption
  · assumption

theorem State.loadStart_kept {s0 s : State} (i : Nat) (j : SegJob) (hk : Kept s0 s) :
    Kept s0 (State.loadStart s i j) := by
  unfold State.loadStart
  lift_lets -underBinder
  intro x0
  try clear_value x0
  intro x1
  try clear_value x1
  apply Kept.ite
  · apply State.finish_kept
    assumption
  · apply Kept.ite
    · apply State.finish_kept
      assumption
    · apply Kept.ite
      · apply State.finish_kept
        assumption
      · apply Kept.ite
        · apply State.finish_kept
          assumption
        · apply State.modQ_kept
          apply State.setSeg_kept
          assumption

theorem State.loadNext_kept {s0 s : State} (i : Nat) (n : Nat) (hk : Kept s0 s) :
    Kept s0 (State.loadNext s i n) := by
  induction n generalizing s i with
  | zero => exact hk
  | succ n ih =>
  unfold State.loadNext
  lift_lets -underBinder
  intro x0
  try clear_value x0
  split
  · apply ih
    apply State.loadStart_kept
    apply State.setSeg_kept
    assumption
  · assumption

theorem State.loadEnd_kept {s0 s : State} (i : Nat) (st : SegSt) (status : Nat) (result : List Word) (hk : Kept s0 s) :
    Kept s0 (State.loadEnd s i st status result) := by
  unfold State.loadEnd
  lift_lets -underBinder
  intro x0
  try clear_value x0
  split
  · assumption
  · lift_lets -underBinder
    intro x1
    refine Kept.cut x1 ?_ (fun _ => ?_)
    · unfold x1
      clear x1
      apply State.finish_kept
      apply State.setSeg_kept
      assumption
    clear_value x1
    apply State.loadNext_kept
    assumption

theorem State.loadStop_kept {s0 s : State} (i : Nat) (status : Nat) (hk : Kept s0 s) :
    Kept s0 (State.loadStop s i status) := by
  unfold State.loadStop
  split
  · assumption
  · apply State.loadEnd_kept
    assumption

theorem State.abortLoads_kept {s0 s : State} (i : Nat) (hk : Kept s0 s) :
    Kept s0 (State.abortLoads s i) := by
  unfold State.abortLoads
  lift_lets -underBinder
  intro x0
  try clear_value x0
  intro x1
  refine Kept.cut x1 ?_ (fun _ => ?_)
  · unfold x1
    clear x1
    apply Kept.foldl
    · intro x2
      intro x3
      intro x4
      apply State.finish_kept
      assumption
    · apply State.setSeg_kept
      assumption
  clear_value x1
  apply State.loadStop_kept
  assumption

theorem State.loadVerify_kept {s0 s : State} (i : Nat) (j : SegJob) (hk : Kept s0 s) :
    Kept s0 (State.loadVerify s i j) := by
  unfold State.loadVerify
  lift_lets -underBinder
  intro x0
  try clear_value x0
  intro x1
  try clear_value x1
  intro x2
  try clear_value x2
  apply Kept.ite
  · apply Kept.ite
    · apply State.loadEnd_kept
      apply State.transient_kept
      assumption
    · apply State.loadEnd_kept
      assumption
  · apply Kept.ite
    · apply State.loadEnd_kept
      apply State.fenceSeg_kept
      apply State.lasting_kept
      assumption
    · apply State.modSeg_kept
      assumption

theorem State.loadData_kept {s0 s : State} (i : Nat) (data : List Byte) (hk : Kept s0 s) :
    Kept s0 (State.loadData s i data) := by
  unfold State.loadData
  lift_lets -underBinder
  intro x0
  try clear_value x0
  split
  · assumption
  · lift_lets -underBinder
    intro x1
    try clear_value x1
    intro x2
    try clear_value x2
    intro x3
    refine Kept.cut x3 ?_ (fun _ => ?_)
    · unfold x3
      clear x3
      apply State.writeBytes_kept
      assumption
    clear_value x3
    apply Kept.ite
    · apply State.modSeg_kept
      assumption
    · apply Kept.ite
      · apply State.loadVerify_kept
        apply State.modSeg_kept
        assumption
      · apply State.loadEnd_kept
        apply State.modSeg_kept
        assumption

theorem State.segLoad_kept {s0 s : State} (q : Nat) (k : Nat) (data : List Byte) (hk : Kept s0 s) :
    Kept s0 (State.segLoad s q k data) := by
  unfold State.segLoad
  lift_lets -underBinder
  intro x0
  refine Kept.cut x0 ?_ (fun _ => ?_)
  · unfold x0
    clear x0
    apply State.run_kept
    · intro x1
      intro x2
      intro x3
      intro x4
      lift_lets -underBinder
      intro x5
      try clear_value x5
      intro x6
      try clear_value x6
      intro x7
      try clear_value x7
      intro x8
      try clear_value x8
      intro x9
      try clear_value x9
      intro x10
      refine Kept.cut x10 ?_ (fun _ => ?_)
      · unfold x10
        clear x10
        apply Kept.ite
        · apply State.abortLoads_kept
          assumption
        · assumption
      clear_value x10
      apply Kept.ite
      · apply State.finish_kept
        assumption
      · apply Kept.ite
        · apply State.finish_kept
          assumption
        · apply Kept.ite
          · apply State.modSeg_kept
            assumption
          · apply State.loadStart_kept
            assumption
    · assumption
  clear_value x0
  split
  · assumption
  · lift_lets -underBinder
    intro x11
    try clear_value x11
    split
    · apply Kept.ite
      · apply State.loadData_kept
        assumption
      · assumption
    · assumption

theorem State.verifyOutcome_kept {s0 s : State} (r : CmdRef) (i : Nat) (glitch : Bool) (ue : Option Nat) (hk : Kept s0 s) :
    Kept s0 (State.verifyOutcome s r i glitch ue) := by
  unfold State.verifyOutcome
  lift_lets -underBinder
  intro x0
  try clear_value x0
  intro x1
  try clear_value x1
  intro x2
  try clear_value x2
  intro x3
  try clear_value x3
  intro x4
  refine Kept.cut x4 ?_ (fun _ => ?_)
  · unfold x4
    clear x4
    apply State.fenceSeg_kept
    apply State.memUe_kept
    assumption
  clear_value x4
  apply Kept.ite
  · apply State.finish_kept
    assumption
  · apply Kept.ite
    · apply State.finish_kept
      assumption
    · apply Kept.ite
      · apply Kept.ite
        · apply State.finish_kept
          apply State.transient_kept
          apply State.modSeg_kept
          assumption
        · apply State.finish_kept
          apply State.modSeg_kept
          assumption
      · apply State.finish_kept
        apply State.fenceSeg_kept
        apply State.lasting_kept
        assumption

theorem State.verifyDrop_kept {s0 s : State} (r : CmdRef) (i : Nat) (hk : Kept s0 s) :
    Kept s0 (State.verifyDrop s r i) := by
  unfold State.verifyDrop
  lift_lets -underBinder
  intro x0
  try clear_value x0
  apply Kept.ite
  · apply State.loadNext_kept
    apply State.setSeg_kept
    assumption
  · assumption

theorem State.segVerify_kept {s0 s : State} (q : Nat) (k : Nat) (glitch : Bool) (ue : Option Nat) (hk : Kept s0 s) :
    Kept s0 (State.segVerify s q k glitch ue) := by
  unfold State.segVerify
  split
  · assumption
  · lift_lets -underBinder
    intro x0
    try clear_value x0
    apply Kept.ite
    · apply State.verifyDrop_kept
      apply State.verifyOutcome_kept
      assumption
    · apply State.run_kept
      · intro x1
        intro x2
        intro x3
        intro x4
        apply Kept.ite
        · apply State.finish_kept
          assumption
        · apply Kept.ite
          · apply State.finish_kept
            assumption
          · apply Kept.ite
            · apply State.finish_kept
              assumption
            · apply Kept.ite
              · apply State.finish_kept
                assumption
              · apply Kept.ite
                · apply State.finish_kept
                  assumption
                · apply State.modSeg_kept
                  assumption
      · assumption

theorem State.segFree_kept {s0 s : State} (q : Nat) (k : Nat) (hk : Kept s0 s) :
    Kept s0 (State.segFree s q k) := by
  unfold State.segFree
  apply State.run_kept
  · intro x0
    intro x1
    intro x2
    intro x3
    lift_lets -underBinder
    intro x4
    try clear_value x4
    intro x5
    try clear_value x5
    apply Kept.ite
    · apply State.finish_kept
      assumption
    · apply Kept.ite
      · apply State.finish_kept
        assumption
      · apply Kept.ite
        · apply State.finish_kept
          assumption
        · apply State.finish_kept
          apply State.setSeg_kept
          assumption
  · assumption

theorem State.fill_kept {s0 s : State} (chip : Bool) (addr : Nat) (pat : Word) (n : Nat) (hk : Kept s0 s) :
    Kept s0 (State.fill s chip addr pat n) := by
  induction n generalizing s chip addr pat with
  | zero => exact hk
  | succ n ih =>
  unfold State.fill
  apply ih
  apply State.writeBytes_kept
  assumption

theorem State.memFill_kept {s0 s : State} (q : Nat) (k : Nat) (hk : Kept s0 s) :
    Kept s0 (State.memFill s q k) := by
  unfold State.memFill
  apply State.run_kept
  · intro x0
    intro x1
    intro x2
    intro x3
    lift_lets -underBinder
    intro x4
    try clear_value x4
    intro x5
    try clear_value x5
    intro x6
    try clear_value x6
    intro x7
    try clear_value x7
    split
    · apply State.finish_kept
      assumption
    · lift_lets -underBinder
      intro x8
      try clear_value x8
      intro x9
      refine Kept.cut x9 ?_ (fun _ => ?_)
      · unfold x9
        clear x9
        apply State.fill_kept
        assumption
      clear_value x9
      apply Kept.ite
      · apply State.finish_kept
        assumption
      · apply State.finish_kept
        apply Kept.foldl
        · intro x10
          intro x11
          intro x12
          apply Kept.ite
          · apply State.modSeg_kept
            assumption
          · assumption
        · assumption
  · assumption

theorem State.readRetried_kept {s0 s : State} (addr : Nat) (hk : Kept s0 s) :
    Kept s0 (State.readRetried s addr) := by
  unfold State.readRetried
  apply State.transient_kept
  apply State.bump_kept
  assumption

theorem State.memRead_kept {s0 s : State} (q : Nat) (k : Nat) (bad : List Nat) (ces : List Nat) (retry : Option Nat) (hk : Kept s0 s) :
    Kept s0 (State.memRead s q k bad ces retry) := by
  unfold State.memRead
  apply State.run_kept
  · intro x0
    intro x1
    intro x2
    intro x3
    lift_lets -underBinder
    intro x4
    try clear_value x4
    intro x5
    try clear_value x5
    intro x6
    try clear_value x6
    intro x7
    try clear_value x7
    split
    · apply State.finish_kept
      assumption
    · apply Kept.ite
      · apply State.finish_kept
        assumption
      · lift_lets -underBinder
        intro x8
        try clear_value x8
        intro x9
        refine Kept.cut x9 ?_ (fun _ => ?_)
        · unfold x9
          clear x9
          apply Kept.ite
          · apply Kept.foldl
            · intro x10
              intro x11
              intro x12
              apply State.memCe_kept
              assumption
            · assumption
          · assumption
        clear_value x9
        split
        · apply State.finish_kept
          split
          · apply State.readRetried_kept
            apply State.put_kept
            assumption
          · apply Kept.foldl
            · intro x13
              intro x14
              intro x15
              apply State.memUe_kept
              assumption
            · apply State.put_kept
              assumption
        · apply State.finish_kept
          split
          · apply State.readRetried_kept
            apply State.put_kept
            assumption
          · apply Kept.foldl
            · intro x16
              intro x17
              intro x18
              apply State.memUe_kept
              assumption
            · apply State.put_kept
              assumption
  · assumption

end Sys2Proof.Machine
end

