-- ==== Sys2Proof/Laws/KeepPlaku.lean ====
section
/-! SUPPORT. The operations of Machine/Plaku.lean keep the waiting commands and the canonical form. -/
set_option linter.unusedVariables false
namespace Sys2Proof.Machine

theorem State.enterDone_kept {s0 s : State} (q : Nat) (c : Cmd) (status : Nat) (hk : Kept s0 s) :
    Kept s0 (State.enterDone s q c status) := by
  unfold State.enterDone
  apply State.decide1_kept
  apply State.modQ_kept
  assumption

theorem State.acceptRest_kept {s0 s : State} (q : Nat) (c : Cmd) (hk : Kept s0 s) :
    Kept s0 (State.acceptRest s q c) := by
  unfold State.acceptRest
  lift_lets -underBinder
  intro x0
  try clear_value x0
  intro x1
  try clear_value x1
  intro x2
  try clear_value x2
  intro x3
  refine Kept.cut x3 ?_ (fun _ => ?_)
  · unfold x3
    clear x3
    apply State.setQ_kept
    assumption
  clear_value x3
  split
  · assumption
  · apply State.decide1_kept
    assumption

theorem State.answerDup_kept {s0 s : State} (q : Nat) (c : Cmd) (r : Reply) (hk : Kept s0 s) :
    Kept s0 (State.answerDup s q c r) := by
  unfold State.answerDup
  apply State.modQ_kept
  assumption

theorem State.acceptFrom5_kept {s0 s : State} (q : Nat) (c : Cmd) (hk : Kept s0 s) :
    Kept s0 (State.acceptFrom5 s q c) := by
  unfold State.acceptFrom5
  lift_lets -underBinder
  intro x0
  try clear_value x0
  split
  · apply State.answerDup_kept
    assumption
  · apply Kept.ite
    · apply State.setQ_kept
      assumption
    · apply State.acceptRest_kept
      assumption

theorem State.accept_kept {s0 s : State} (q : Nat) (b : List Byte) (len : Nat) (replyAddr : Nat) (replyLen : Nat) (hk : Kept s0 s) :
    Kept s0 (State.accept s q b len replyAddr replyLen) := by
  unfold State.accept
  lift_lets -underBinder
  intro x0
  try clear_value x0
  intro x1
  try clear_value x1
  intro x2
  try clear_value x2
  intro x3
  try clear_value x3
  intro x4
  try clear_value x4
  intro x5
  refine Kept.cut x5 ?_ (fun _ => ?_)
  · unfold x5
    clear x5
    apply State.setQ_kept
    assumption
  clear_value x5
  split
  · lift_lets -underBinder
    intro x6
    refine Kept.cut x6 ?_ (fun _ => ?_)
    · unfold x6
      clear x6
      apply State.modQ_kept
      assumption
    clear_value x6
    apply Kept.ite
    · apply State.modQ_kept
      assumption
    · assumption
  · apply State.acceptFrom5_kept
    apply State.modQ_kept
    assumption

theorem State.ignored2_kept {s0 s : State} (q : Nat) (off : Nat) (cause : Nat) (val : Word) (hk : Kept s0 s) :
    Kept s0 (State.ignored2 s q off cause val) := by
  unfold State.ignored2
  apply State.logErr_kept
  apply State.modQ_kept
  assumption

theorem State.sqTail_kept {s0 s : State} (q : Nat) (v : Word) (hk : Kept s0 s) :
    Kept s0 (State.sqTail s q v) := by
  unfold State.sqTail
  apply Kept.ite
  · apply State.ignored2_kept
    assumption
  · apply State.modQ_kept
    assumption

theorem State.cqMessage_kept {s0 s : State} (q : Nat) (hk : Kept s0 s) :
    Kept s0 (State.cqMessage s q) := by
  unfold State.cqMessage
  lift_lets -underBinder
  intro x0
  try clear_value x0
  apply Kept.ite
  · apply State.irq_kept
    apply State.setQ_kept
    assumption
  · assumption

theorem State.cqHead_kept {s0 s : State} (q : Nat) (v : Word) (hk : Kept s0 s) :
    Kept s0 (State.cqHead s q v) := by
  unfold State.cqHead
  apply Kept.ite
  · apply State.ignored2_kept
    assumption
  · apply State.cqMessage_kept
    apply State.modQ_kept
    assumption

theorem State.packetFetch_kept {s0 s : State} (q : Nat) (entry : List Byte) (packet : List Byte) (hk : Kept s0 s) :
    Kept s0 (State.packetFetch s q entry packet) := by
  unfold State.packetFetch
  apply Kept.ite
  · lift_lets -underBinder
    intro x0
    try clear_value x0
    intro x1
    refine Kept.cut x1 ?_ (fun _ => ?_)
    · unfold x1
      clear x1
      apply State.put_kept
      apply State.put_kept
      assumption
    clear_value x1
    apply State.accept_kept
    apply State.modQ_kept
    assumption
  · assumption

theorem State.duplicateReply_kept {s0 s : State} (q : Nat) (k : Nat) (hk : Kept s0 s) :
    Kept s0 (State.duplicateReply s q k) := by
  unfold State.duplicateReply
  split
  · apply Kept.ite
    · apply State.acceptFrom5_kept
      assumption
    · assumption
  · assumption

theorem State.postHost_kept {s0 s : State} (q : Nat) (hk : Kept s0 s) :
    Kept s0 (State.postHost s q) := by
  unfold State.postHost
  lift_lets -underBinder
  intro x0
  try clear_value x0
  split
  · assumption
  · apply Kept.ite
    · assumption
    · lift_lets -underBinder
      intro x1
      refine Kept.cut x1 ?_ (fun _ => ?_)
      · unfold x1
        clear x1
        apply Kept.ite
        · apply State.put_kept
          assumption
        · assumption
      clear_value x1
      apply State.cqMessage_kept
      apply State.setQ_kept
      apply State.put_kept
      assumption

theorem State.releaseHeld_kept {s0 s : State} (hk : Kept s0 s) :
    Kept s0 (State.releaseHeld s) := by
  unfold State.releaseHeld
  lift_lets -underBinder
  intro x0
  intro x1
  try clear_value x1
  simp only [Kept.upd]
  assumption

theorem State.postMgt_kept {s0 s : State} (hk : Kept s0 s) :
    Kept s0 (State.postMgt s) := by
  unfold State.postMgt
  lift_lets -underBinder
  intro x0
  try clear_value x0
  split
  · assumption
  · apply State.releaseHeld_kept
    lift_lets -underBinder
    intro x1
    refine Kept.cut x1 ?_ (fun _ => ?_)
    · unfold x1
      clear x1
      apply State.setQ_kept
      assumption
    clear_value x1
    simp only [Kept.upd]
    assumption

theorem State.postChain_kept {s0 s : State} (hk : Kept s0 s) :
    Kept s0 (State.postChain s) := by
  unfold State.postChain
  lift_lets -underBinder
  intro x0
  try clear_value x0
  split
  · assumption
  · lift_lets -underBinder
    intro x1
    try clear_value x1
    intro x2
    refine Kept.cut x2 ?_ (fun _ => ?_)
    · unfold x2
      clear x2
      apply State.setQ_kept
      assumption
    clear_value x2
    split
    · lift_lets -underBinder
      intro x3
      try clear_value x3
      intro x4
      refine Kept.cut x4 ?_ (fun _ => ?_)
      · unfold x4
        clear x4
        simp only [Kept.upd]
        assumption
      clear_value x4
      apply Kept.ite
      · apply State.sendMsg_kept
        assumption
      · apply State.sendLink_kept
        assumption
    · apply State.sendMsg_kept
      simp only [Kept.upd]
      assumption
    · simp only [Kept.upd]
      assumption

theorem State.completionPost_kept {s0 s : State} (q : Nat) (hk : Kept s0 s) :
    Kept s0 (State.completionPost s q) := by
  unfold State.completionPost
  apply Kept.ite
  · assumption
  · apply Kept.ite
    · lift_lets -underBinder
      intro x0
      try clear_value x0
      intro x1
      refine Kept.cut x1 ?_ (fun _ => ?_)
      · unfold x1
        clear x1
        apply State.postHost_kept
        assumption
      clear_value x1
      split
      · apply Kept.ite
        · assumption
        · simp only [Kept.upd]
          assumption
      · assumption
    · apply Kept.ite
      · apply State.postMgt_kept
        assumption
      · apply State.postChain_kept
        assumption

theorem State.withdraw_kept {s0 s : State} (c : CmdRef) (hk : Kept s0 s) :
    Kept s0 (State.withdraw s c) := by
  unfold State.withdraw
  lift_lets -underBinder
  intro x0
  refine Kept.cut x0 ?_ (fun _ => ?_)
  · unfold x0
    clear x0
    apply Kept.foldl
    · intro x1
      intro x2
      intro x3
      lift_lets -underBinder
      intro x4
      try clear_value x4
      intro x5
      try clear_value x5
      apply Kept.ite
      · assumption
      · apply State.setGrp_kept
        assumption
    · assumption
  clear_value x0
  simp only [Kept.upd]
  refine Kept.mk ?_ (fun ⟨h0, h1, h2, h3, h4, h5, h6, h7, h8, h9, h10, h11, h12, h13, h14, h15, h16, h17, h18, h19, h20, h21, h22⟩ => ⟨h0, h1, h2, h3, h4, h5, h6, h7, h8, h9, h10, h11, h12, h13, h14, h15, h16, (by first | exact h17 | exact Kept.fsts (fun _ => Eq.refl _) h17), h18, h19, h20, h21, h22⟩)
  assumption

theorem State.stopLoads_kept {s0 s : State} (c : CmdRef) (status : Nat) (hk : Kept s0 s) :
    Kept s0 (State.stopLoads s c status) := by
  unfold State.stopLoads
  apply Kept.foldl
  · intro x0
    intro x1
    intro x2
    lift_lets -underBinder
    intro x3
    try clear_value x3
    intro x4
    refine Kept.cut x4 ?_ (fun _ => ?_)
    · unfold x4
      clear x4
      apply Kept.ite
      · apply State.setSeg_kept
        assumption
      · assumption
    clear_value x4
    split
    · apply Kept.ite
      · apply State.loadStop_kept
        apply State.verifyDrop_kept
        assumption
      · apply State.verifyDrop_kept
        assumption
    · apply State.verifyDrop_kept
      assumption
  · assumption

theorem State.queueReset_kept {s0 s : State} (q : Nat) (hk : Kept s0 s) :
    Kept s0 (State.queueReset s q) := by
  unfold State.queueReset
  lift_lets -underBinder
  intro x0
  try clear_value x0
  intro x1
  refine Kept.cut x1 ?_ (fun _ => ?_)
  · unfold x1
    clear x1
    apply State.setQ_kept
    assumption
  clear_value x1
  apply Kept.foldl
  · intro x2
    intro x3
    intro x4
    lift_lets -underBinder
    intro x5
    try clear_value x5
    intro x6
    refine Kept.cut x6 ?_ (fun _ => ?_)
    · unfold x6
      clear x6
      apply State.stopLoads_kept
      assumption
    clear_value x6
    apply Kept.ite
    · apply State.modQ_kept
      apply State.withdraw_kept
      assumption
    · apply Kept.ite
      · apply State.modQ_kept
        assumption
      · assumption
  · assumption

theorem State.queueResetDone_kept {s0 s : State} (q : Nat) (hk : Kept s0 s) :
    Kept s0 (State.queueResetDone s q) := by
  unfold State.queueResetDone
  lift_lets -underBinder
  intro x0
  try clear_value x0
  apply Kept.ite
  · apply State.setQ_kept
    assumption
  · assumption

theorem State.flr_kept {s0 s : State} (hk : Kept s0 s) :
    Kept s0 (State.flr s) := by
  unfold State.flr
  lift_lets -underBinder
  intro x0
  refine Kept.cut x0 ?_ (fun _ => ?_)
  · unfold x0
    clear x0
    apply Kept.foldl
    · intro x1
      intro x2
      intro x3
      lift_lets -underBinder
      intro x4
      refine Kept.cut x4 ?_ (fun _ => ?_)
      · unfold x4
        clear x4
        apply State.queueReset_kept
        assumption
      clear_value x4
      apply State.setQ_kept
      assumption
    · assumption
  clear_value x0
  apply State.bump_kept
  refine Kept.mk ?_ (fun ⟨h0, h1, h2, h3, h4, h5, h6, h7, h8, h9, h10, h11, h12, h13, h14, h15, h16, h17, h18, h19, h20, h21, h22⟩ => ⟨h0, h1, (by first | exact h2 | exact Eq.refl _), h3, h4, h5, h6, h7, h8, h9, h10, h11, h12, h13, h14, h15, h16, h17, h18, h19, h20, h21, h22⟩)
  apply Kept.ite
  · apply State.slackRestart_kept
    assumption
  · assumption

theorem State.writeQCtl_kept {s0 s : State} (q : Nat) (v : Word) (hk : Kept s0 s) :
    Kept s0 (State.writeQCtl s q v) := by
  unfold State.writeQCtl
  lift_lets -underBinder
  intro x0
  try clear_value x0
  intro x1
  try clear_value x1
  intro x2
  refine Kept.cut x2 ?_ (fun _ => ?_)
  · unfold x2
    clear x2
    apply Kept.ite
    · apply State.ignored2_kept
      assumption
    · assumption
  clear_value x2
  apply Kept.ite
  · apply Kept.ite
    · apply State.queueReset_kept
      apply State.modQ_kept
      apply Kept.ite
      · apply State.modQ_kept
        apply Kept.ite
        · assumption
        · apply State.modQ_kept
          assumption
      · apply Kept.ite
        · assumption
        · apply State.modQ_kept
          assumption
    · apply State.modQ_kept
      apply Kept.ite
      · apply State.modQ_kept
        apply Kept.ite
        · assumption
        · apply State.modQ_kept
          assumption
      · apply Kept.ite
        · assumption
        · apply State.modQ_kept
          assumption
  · apply State.slackRestart_kept
    apply Kept.ite
    · apply State.queueReset_kept
      apply State.modQ_kept
      apply Kept.ite
      · apply State.modQ_kept
        apply Kept.ite
        · assumption
        · apply State.modQ_kept
          assumption
      · apply Kept.ite
        · assumption
        · apply State.modQ_kept
          assumption
    · apply State.modQ_kept
      apply Kept.ite
      · apply State.modQ_kept
        apply Kept.ite
        · assumption
        · apply State.modQ_kept
          assumption
      · apply Kept.ite
        · assumption
        · apply State.modQ_kept
          assumption

theorem State.bcastMissing_kept {s0 s : State} (b : Bcast) (hk : Kept s0 s) :
    Kept s0 (State.bcastMissing s b) := by
  unfold State.bcastMissing
  lift_lets -underBinder
  intro x0
  try clear_value x0
  intro x1
  intro x2
  try clear_value x2
  simp only [Kept.upd]
  assumption

theorem State.timeoutReply_kept {s0 s : State} (r : CmdRef) (hk : Kept s0 s) :
    Kept s0 (State.timeoutReply s r) := by
  unfold State.timeoutReply
  split
  · apply Kept.ite
    · apply State.bcastTry_kept
      apply State.bcastMissing_kept
      assumption
    · apply State.finish_kept
      apply State.bcastMissing_kept
      assumption
  · apply State.finish_kept
    assumption

theorem State.timedOut_kept {s0 s : State} (q : Nat) (k : Nat) (c : Cmd) (hk : Kept s0 s) :
    Kept s0 (State.timedOut s q k c) := by
  unfold State.timedOut
  lift_lets -underBinder
  intro x0
  try clear_value x0
  intro x1
  refine Kept.cut x1 ?_ (fun _ => ?_)
  · unfold x1
    clear x1
    apply State.stopLoads_kept
    apply State.withdraw_kept
    assumption
  clear_value x1
  apply State.timeoutReply_kept
  apply Kept.ite
  · assumption
  · apply State.logErr_kept
    assumption

theorem State.reachWait_kept {s0 s : State} (c : Cmd) (wait : Nat) (hk : Kept s0 s) :
    Kept s0 (State.reachWait s c wait) := by
  unfold State.reachWait
  split
  · apply State.reach_kept
    assumption
  · assumption

theorem State.commandTimeout_kept {s0 s : State} (q : Nat) (k : Nat) (hk : Kept s0 s) :
    Kept s0 (State.commandTimeout s q k) := by
  unfold State.commandTimeout
  split
  · assumption
  · apply Kept.ite
    · apply State.timedOut_kept
      apply State.reachWait_kept
      assumption
    · assumption

end Sys2Proof.Machine
end

