-- ==== Sys2Proof/Laws/KeepFlags.lean ====
section
/-! SUPPORT. The operations of Machine/Flags.lean keep the waiting commands and the canonical form. -/
set_option linter.unusedVariables false
namespace Sys2Proof.Machine

theorem State.crash_kept {s0 s : State} (cause : Nat) (hk : Kept s0 s) :
    Kept s0 (State.crash s cause) := by
  unfold State.crash
  lift_lets -underBinder
  intro x0
  try clear_value x0
  intro x1
  try clear_value x1
  intro x2
  refine Kept.cut x2 ?_ (fun _ => ?_)
  · unfold x2
    clear x2
    apply Kept.foldl
    · intro x3
      intro x4
      intro x5
      apply State.wr_kept
      assumption
    · assumption
  clear_value x2
  apply State.wr_kept
  assumption

theorem State.safeEntry_kept {s0 s : State} (cause : Nat) (hk : Kept s0 s) :
    Kept s0 (State.safeEntry s cause) := by
  unfold State.safeEntry
  lift_lets -underBinder
  intro x0
  try clear_value x0
  intro x1
  try clear_value x1
  intro x2
  refine Kept.cut x2 ?_ (fun _ => ?_)
  · unfold x2
    clear x2
    simp only [Kept.upd]
    assumption
  clear_value x2
  apply State.irqIf_kept
  apply State.crash_kept
  apply State.logErr_kept
  apply State.bump_kept
  apply State.settlePairs_kept
  apply Kept.foldl
  · intro x3
    intro x4
    intro x5
    apply State.mkLow_kept
    assumption
  · apply Kept.foldl
    · intro x6
      intro x7
      intro x8
      apply State.dacMid_kept
      assumption
    · apply Kept.foldl
      · intro x9
        intro x10
        intro x11
        apply Kept.ite
        · apply State.stopGroup_kept
          assumption
        · assumption
      · apply State.svCatchUp_kept
        assumption

theorem State.safeCauseRaise_kept {s0 s : State} (cause : Nat) (hk : Kept s0 s) :
    Kept s0 (State.safeCauseRaise s cause) := by
  unfold State.safeCauseRaise
  apply Kept.ite
  · lift_lets -underBinder
    intro x0
    try clear_value x0
    intro x1
    try clear_value x1
    simp only [Kept.upd]
    assumption
  · apply State.safeEntry_kept
    assumption

theorem State.safeLeave_kept {s0 s : State} (hk : Kept s0 s) :
    Kept s0 (State.safeLeave s) := by
  unfold State.safeLeave
  apply Kept.ite
  · lift_lets -underBinder
    intro x0
    try clear_value x0
    intro x1
    try clear_value x1
    intro x2
    refine Kept.cut x2 ?_ (fun _ => ?_)
    · unfold x2
      clear x2
      simp only [Kept.upd]
      assumption
    clear_value x2
    apply State.settlePairs_kept
    assumption
  · assumption

theorem State.safeCauseGone_kept {s0 s : State} (cause : Nat) (hk : Kept s0 s) :
    Kept s0 (State.safeCauseGone s cause) := by
  unfold State.safeCauseGone
  simp only [Kept.upd]
  assumption

theorem State.safeClr_kept {s0 s : State} (q8 : Bool) (hk : Kept s0 s) :
    Kept s0 (State.safeClr s q8) := by
  unfold State.safeClr
  apply State.safeLeave_kept
  simp only [Kept.upd]
  assumption

end Sys2Proof.Machine
end

