-- ==== Sys2Proof/Laws/KeepAdc.lean ====
section
/-! SUPPORT. The operations of Machine/Adc.lean keep the waiting commands and the canonical form. -/
set_option linter.unusedVariables false
namespace Sys2Proof.Machine

theorem State.adcStart_kept {s0 s : State} (u : Nat) (hk : Kept s0 s) :
    Kept s0 (State.adcStart s u) := by
  unfold State.adcStart
  lift_lets -underBinder
  intro x0
  try clear_value x0
  apply Kept.ite
  · apply State.wr_kept
    apply State.setAdc_kept
    assumption
  · assumption

theorem State.adcStop_kept {s0 s : State} (u : Nat) (hk : Kept s0 s) :
    Kept s0 (State.adcStop s u) := by
  unfold State.adcStop
  lift_lets -underBinder
  intro x0
  try clear_value x0
  intro x1
  try clear_value x1
  apply State.setAdc_kept
  assumption

theorem State.adcRefReady_kept {s0 s : State} (u : Nat) (hk : Kept s0 s) :
    Kept s0 (State.adcRefReady s u) := by
  unfold State.adcRefReady
  lift_lets -underBinder
  intro x0
  try clear_value x0
  intro x1
  refine Kept.cut x1 ?_ (fun _ => ?_)
  · unfold x1
    clear x1
    apply State.reach_kept
    assumption
  clear_value x1
  apply Kept.ite
  · apply State.adcStart_kept
    apply State.setAdc_kept
    assumption
  · assumption

theorem State.adcCtl_kept {s0 s : State} (u : Nat) (v : Word) (hk : Kept s0 s) :
    Kept s0 (State.adcCtl s u v) := by
  unfold State.adcCtl
  lift_lets -underBinder
  intro x0
  try clear_value x0
  intro x1
  try clear_value x1
  intro x2
  refine Kept.cut x2 ?_ (fun _ => ?_)
  · unfold x2
    clear x2
    apply State.wr_kept
    assumption
  clear_value x2
  apply Kept.ite
  · apply Kept.ite
    · apply State.adcStart_kept
      apply Kept.ite
      · assumption
      · apply Kept.ite
        · apply State.modAdc_kept
          assumption
        · apply State.adcStop_kept
          apply State.modAdc_kept
          assumption
    · apply State.adcStop_kept
      apply Kept.ite
      · assumption
      · apply Kept.ite
        · apply State.modAdc_kept
          assumption
        · apply State.adcStop_kept
          apply State.modAdc_kept
          assumption
  · apply State.slackRestart_kept
    apply Kept.ite
    · apply State.adcStart_kept
      apply Kept.ite
      · assumption
      · apply Kept.ite
        · apply State.modAdc_kept
          assumption
        · apply State.adcStop_kept
          apply State.modAdc_kept
          assumption
    · apply State.adcStop_kept
      apply Kept.ite
      · assumption
      · apply Kept.ite
        · apply State.modAdc_kept
          assumption
        · apply State.adcStop_kept
          apply State.modAdc_kept
          assumption

theorem State.winPut_kept {s0 s : State} (u : Nat) (e : Nat) (w : WinSet) (hk : Kept s0 s) :
    Kept s0 (State.winPut s u e w) := by
  unfold State.winPut
  apply State.wr_kept
  apply State.wr_kept
  apply State.wr_kept
  assumption

theorem State.winApply_kept {s0 s : State} (u : Nat) (hk : Kept s0 s) :
    Kept s0 (State.winApply s u) := by
  unfold State.winApply
  lift_lets -underBinder
  intro x0
  refine Kept.cut x0 ?_ (fun _ => ?_)
  · unfold x0
    clear x0
    apply Kept.foldl
    · intro x1
      intro x2
      intro x3
      apply State.winPut_kept
      assumption
    · assumption
  clear_value x0
  apply State.modAdc_kept
  assumption

theorem State.adcApply_kept {s0 s : State} (u : Nat) (hk : Kept s0 s) :
    Kept s0 (State.adcApply s u) := by
  unfold State.adcApply
  apply Kept.ite
  · apply State.bump_kept
    assumption
  · apply Kept.ite
    · apply State.modAdc_kept
      assumption
    · apply State.winApply_kept
      assumption

theorem State.window_kept {s0 s : State} (u : Nat) (e : Nat) (code : Int) (t : Nat) (hk : Kept s0 s) :
    Kept s0 (State.window s u e code t) := by
  unfold State.window
  lift_lets -underBinder
  intro x0
  try clear_value x0
  intro x1
  try clear_value x1
  intro x2
  intro x3
  try clear_value x3
  intro x4
  try clear_value x4
  intro x5
  try clear_value x5
  intro x6
  try clear_value x6
  apply Kept.ite
  · apply Kept.ite
    · unfold x2
      apply State.wr_kept
      assumption
    · apply Kept.ite
      · apply State.event_kept
        apply State.bump_kept
        unfold x2
        apply State.wr_kept
        assumption
      · apply Kept.ite
        · unfold x2
          apply State.wr_kept
          assumption
        · assumption
  · unfold x2
    apply State.wr_kept
    assumption

theorem State.trigger_kept {s0 s : State} (u : Nat) (t : Nat) (hk : Kept s0 s) :
    Kept s0 (State.trigger s u t) := by
  unfold State.trigger
  lift_lets -underBinder
  intro x0
  try clear_value x0
  intro x1
  refine Kept.cut x1 ?_ (fun _ => ?_)
  · unfold x1
    clear x1
    apply Kept.ite
    · assumption
    · apply State.bump_kept
      assumption
  clear_value x1
  apply Kept.ite
  · apply State.bump_kept
    assumption
  · apply Kept.ite
    · assumption
    · apply Kept.ite
      · apply State.bump_kept
        assumption
      · apply State.modAdc_kept
        apply Kept.ite
        · apply State.winApply_kept
          assumption
        · assumption

theorem State.writeTrigger_kept {s0 s : State} (u : Nat) (hk : Kept s0 s) :
    Kept s0 (State.writeTrigger s u) := by
  unfold State.writeTrigger
  apply State.trigger_kept
  assumption

theorem State.trigAll_kept {s0 s : State} (v : Word) (hk : Kept s0 s) :
    Kept s0 (State.trigAll s v) := by
  unfold State.trigAll
  apply Kept.foldl
  · intro x0
    intro x1
    intro x2
    apply Kept.ite
    · apply State.writeTrigger_kept
      assumption
    · assumption
  · assumption

theorem State.adcTrigger_kept {s0 s : State} (u : Nat) (t : Nat) (hk : Kept s0 s) :
    Kept s0 (State.adcTrigger s u t) := by
  unfold State.adcTrigger
  apply Kept.ite
  · lift_lets -underBinder
    intro x0
    refine Kept.cut x0 ?_ (fun _ => ?_)
    · unfold x0
      clear x0
      apply State.modAdc_kept
      apply State.reach_kept
      assumption
    clear_value x0
    apply State.trigger_kept
    assumption
  · assumption

theorem State.setOw_kept {s0 s : State} (u : Nat) (i : Nat) (x : OwIn) (hk : Kept s0 s) :
    Kept s0 (State.setOw s u i x) := by
  unfold State.setOw
  apply State.modAdc_kept
  assumption

theorem State.followResult_kept {s0 s : State} (u : Nat) (e : Nat) (hold : Nat) (code : Int) (hk : Kept s0 s) :
    Kept s0 (State.followResult s u e hold code) := by
  unfold State.followResult
  apply Kept.foldl
  · intro x0
    intro x1
    intro x2
    lift_lets -underBinder
    intro x3
    try clear_value x3
    intro x4
    try clear_value x4
    intro x5
    try clear_value x5
    apply Kept.ite
    · split
      · lift_lets -underBinder
        intro x6
        try clear_value x6
        intro x7
        try clear_value x7
        apply State.setGrp_kept
        assumption
      · assumption
    · assumption
  · assumption

theorem State.capture_kept {s0 s : State} (u : Nat) (e : Nat) (urgent : Bool) (detect : Bool) (res : Word) (hold : Nat) (hk : Kept s0 s) :
    Kept s0 (State.capture s u e urgent detect res hold) := by
  unfold State.capture
  split
  · apply Kept.ite
    · lift_lets -underBinder
      intro x0
      try clear_value x0
      intro x1
      try clear_value x1
      intro x2
      try clear_value x2
      intro x3
      try clear_value x3
      intro x4
      try clear_value x4
      intro x5
      refine Kept.cut x5 ?_ (fun _ => ?_)
      · unfold x5
        clear x5
        apply State.wr_kept
        apply State.writeBytes_kept
        assumption
      clear_value x5
      apply Kept.ite
      · apply Kept.ite
        · apply State.bump_kept
          apply State.wr_kept
          assumption
        · assumption
      · apply State.bump_kept
        assumption
    · assumption
  · assumption

theorem State.capSize_kept {s0 s : State} (size : Nat) (hk : Kept s0 s) : KeptO s0 (s.capSize size) := by
  intro t h
  have k : Kept s0 ((s.allocDrop 4).wr .ADC_CAP_CTL 0 0 (mkW size)) := State.wr_kept _ _ _ _ (State.allocDrop_kept _ hk)
  unfold State.capSize at h
  dsimp only at h
  split at h
  · cases h
  · split at h
    · cases h
      exact k
    · split at h
      · exact State.allocPut_kept _ k t h
      · cases h

theorem State.detectSlot_kept {s0 s : State} (u : Nat) (t : Nat) (hk : Kept s0 s) :
    Kept s0 (State.detectSlot s u t) := by
  unfold State.detectSlot
  lift_lets -underBinder
  intro x0
  try clear_value x0
  intro x1
  try clear_value x1
  intro x2
  try clear_value x2
  intro x3
  try clear_value x3
  apply State.setAdc_kept
  assumption

theorem State.detectionTimer_kept {s0 s : State} (u : Nat) (hk : Kept s0 s) :
    Kept s0 (State.detectionTimer s u) := by
  unfold State.detectionTimer
  lift_lets -underBinder
  intro x0
  try clear_value x0
  apply Kept.ite
  · apply Kept.ite
    · apply State.detectSlot_kept
      assumption
    · apply State.setAdc_kept
      assumption
  · assumption

theorem State.setBrk_kept {s0 s : State} (u : Nat) (i : Nat) (after : Nat) (hk : Kept s0 s) :
    Kept s0 (State.setBrk s u i after) := by
  unfold State.setBrk
  apply Kept.foldl
  · intro x0
    intro x1
    intro x2
    split
    · apply Kept.ite
      · apply State.wrb_kept
        assumption
      · assumption
    · assumption
  · assumption

theorem State.detected_kept {s0 s : State} (u : Nat) (i : Nat) (code : Int) (hold : Nat) (latch : Nat) (hk : Kept s0 s) :
    Kept s0 (State.detected s u i code hold latch) := by
  unfold State.detected
  lift_lets -underBinder
  intro x0
  try clear_value x0
  intro x1
  try clear_value x1
  intro x2
  try clear_value x2
  intro x3
  try clear_value x3
  apply Kept.ite
  · split
    · apply State.bump_kept
      apply State.setOw_kept
      apply State.setBrk_kept
      assumption
    · lift_lets -underBinder
      intro x4
      refine Kept.cut x4 ?_ (fun _ => ?_)
      · unfold x4
        clear x4
        apply State.lasting_kept
        apply State.bump_kept
        apply State.setOw_kept
        assumption
      clear_value x4
      apply State.event_kept
      apply State.irqIf_kept
      assumption
    · apply State.setOw_kept
      assumption
  · split
    · apply State.setOw_kept
      assumption
    · apply State.transient_kept
      apply State.setOw_kept
      assumption
    · apply Kept.ite
      · apply State.setOw_kept
        assumption
      · apply State.setOw_kept
        assumption

theorem State.latchSlot_kept {s0 s : State} (u : Nat) (y : Slot) (raw : Int) (hk : Kept s0 s) :
    Kept s0 (State.latchSlot s u y raw) := by
  unfold State.latchSlot
  lift_lets -underBinder
  intro x0
  try clear_value x0
  split
  · lift_lets -underBinder
    intro x1
    try clear_value x1
    intro x2
    refine Kept.cut x2 ?_ (fun _ => ?_)
    · unfold x2
      clear x2
      apply State.wr_kept
      apply State.wr_kept
      assumption
    clear_value x2
    apply State.window_kept
    apply State.capture_kept
    apply State.followResult_kept
    apply State.modAdc_kept
    assumption
  · lift_lets -underBinder
    intro x3
    try clear_value x3
    apply State.finish_kept
    apply State.capture_kept
    assumption
  · lift_lets -underBinder
    intro x4
    try clear_value x4
    apply State.capture_kept
    apply State.detected_kept
    assumption

theorem State.conversionResult_kept {s0 s : State} (u : Nat) (raw : Int) (hk : Kept s0 s) :
    Kept s0 (State.conversionResult s u raw) := by
  unfold State.conversionResult
  split
  · lift_lets -underBinder
    intro x0
    refine Kept.cut x0 ?_ (fun _ => ?_)
    · unfold x0
      clear x0
      apply State.modAdc_kept
      apply State.reach_kept
      assumption
    clear_value x0
    apply Kept.ite
    · apply Kept.ite
      · apply State.setAdc_kept
        apply State.latchSlot_kept
        assumption
      · apply Kept.ite
        · apply State.detectSlot_kept
          apply State.latchSlot_kept
          assumption
        · apply State.latchSlot_kept
          assumption
    · apply State.latchSlot_kept
      assumption
  · assumption

theorem State.urgentGeneral_kept {s0 s : State} (u : Nat) (sel : Nat) (c : CmdRef) (first : Bool) (hk : Kept s0 s) :
    Kept s0 (State.urgentGeneral s u sel c first) := by
  unfold State.urgentGeneral
  lift_lets -underBinder
  intro x0
  try clear_value x0
  intro x1
  try clear_value x1
  intro x2
  intro x3
  try clear_value x3
  intro x4
  try clear_value x4
  intro x5
  try clear_value x5
  intro x6
  try clear_value x6
  intro x7
  try clear_value x7
  intro x8
  refine Kept.cut x8 ?_ (fun _ => ?_)
  · unfold x8
    clear x8
    apply State.setAdc_kept
    assumption
  clear_value x8
  apply Kept.ite
  · apply State.bump_kept
    assumption
  · assumption

theorem State.urgentGuard_kept {s0 s : State} (u : Nat) (sel : Nat) (c : CmdRef) (hk : Kept s0 s) :
    Kept s0 (State.urgentGuard s u sel c) := by
  unfold State.urgentGuard
  lift_lets -underBinder
  intro x0
  try clear_value x0
  intro x1
  try clear_value x1
  apply Kept.ite
  · apply State.finish_kept
    apply State.bump_kept
    assumption
  · apply State.setAdc_kept
    assumption

theorem State.adcRestep_kept {s0 s : State} (old : Nat) (new : Nat) (hk : Kept s0 s) :
    Kept s0 (State.adcRestep s old new) := by
  unfold State.adcRestep
  apply Kept.foldl
  · intro x0
    intro x1
    intro x2
    lift_lets -underBinder
    intro x3
    try clear_value x3
    split
    · apply Kept.ite
      · apply State.setAdc_kept
        assumption
      · assumption
    · lift_lets -underBinder
      intro x4
      try clear_value x4
      intro x5
      try clear_value x5
      intro x6
      apply State.setAdc_kept
      assumption
  · assumption

theorem State.adcSeqSet_kept {s0 s : State} (q : Nat) (k : Nat) (hk : Kept s0 s) :
    Kept s0 (State.adcSeqSet s q k) := by
  unfold State.adcSeqSet
  apply State.run_kept
  · intro x0
    intro x1
    intro x2
    intro x3
    lift_lets -underBinder
    intro x4
    try clear_value x4
    intro x5
    try clear_value x5
    intro x6
    try clear_value x6
    intro x7
    refine Kept.cut x7 ?_ (fun _ => ?_)
    · unfold x7
      clear x7
      apply Kept.foldl
      · intro x8
        intro x9
        intro x10
        lift_lets -underBinder
        intro x11
        try clear_value x11
        apply State.modAdc_kept
        apply State.winPut_kept
        apply State.wr_kept
        assumption
      · apply State.wr_kept
        assumption
    clear_value x7
    apply Kept.ite
    · apply State.finish_kept
      assumption
    · apply Kept.ite
      · apply State.finish_kept
        assumption
      · apply State.finish_kept
        apply State.wr_kept
        assumption
  · assumption

theorem State.adcRead_kept {s0 s : State} (q : Nat) (k : Nat) (hk : Kept s0 s) :
    Kept s0 (State.adcRead s q k) := by
  unfold State.adcRead
  apply State.run_kept
  · intro x0
    intro x1
    intro x2
    intro x3
    lift_lets -underBinder
    intro x4
    try clear_value x4
    intro x5
    try clear_value x5
    intro x6
    try clear_value x6
    intro x7
    try clear_value x7
    intro x8
    try clear_value x8
    intro x9
    try clear_value x9
    intro x10
    refine Kept.cut x10.2 ?_ (fun _ => ?_)
    · unfold x10
      clear x10
      apply State.draw_kept
      assumption
    clear_value x10
    apply Kept.ite
    · apply State.finish_kept
      assumption
    · apply Kept.ite
      · apply Kept.ite
        · apply State.finish_kept
          assumption
        · apply State.finish_kept
          assumption
      · apply Kept.ite
        · apply State.finish_kept
          assumption
        · apply Kept.ite
          · apply State.finish_kept
            assumption
          · apply Kept.ite
            · apply State.finish_kept
              assumption
            · apply Kept.ite
              · apply State.urgentGuard_kept
                assumption
              · apply Kept.ite
                · apply State.finish_kept
                  assumption
                · apply State.urgentGeneral_kept
                  with_reducible assumption
  · assumption

theorem State.calEnd_kept {s0 s : State} (f : CalFinding) (hk : Kept s0 s) :
    Kept s0 (State.calEnd s f) := by
  unfold State.calEnd
  lift_lets -underBinder
  intro x0
  try clear_value x0
  intro x1
  try clear_value x1
  intro x2
  try clear_value x2
  intro x3
  try clear_value x3
  intro x4
  try clear_value x4
  intro x5
  refine Kept.cut x5 ?_ (fun _ => ?_)
  · unfold x5
    clear x5
    apply State.modAdc_kept
    assumption
  clear_value x5
  apply Kept.ite
  · apply Kept.ite
    · apply State.transient_kept
      apply State.bump_kept
      apply State.modAdc_kept
      apply State.wr_kept
      apply State.wr_kept
      assumption
    · apply State.modAdc_kept
      apply State.wr_kept
      apply State.wr_kept
      assumption
  · apply State.lasting_kept
    apply State.adcStop_kept
    apply State.modAdc_kept
    assumption

theorem State.selfcalBegin_kept {s0 s : State} (q : Nat) (k : Nat) (hk : Kept s0 s) :
    Kept s0 (State.selfcalBegin s q k) := by
  unfold State.selfcalBegin
  apply State.run_kept
  · intro x0
    intro x1
    intro x2
    intro x3
    lift_lets -underBinder
    intro x4
    try clear_value x4
    intro x5
    try clear_value x5
    apply Kept.ite
    · apply State.finish_kept
      assumption
    · apply Kept.ite
      · apply State.finish_kept
        assumption
      · apply Kept.ite
        · apply State.finish_kept
          assumption
        · apply Kept.ite
          · apply State.finish_kept
            assumption
          · apply Kept.foldl
            · intro x6
              intro x7
              intro x8
              apply State.modAdc_kept
              assumption
            · assumption
  · assumption

theorem State.adcSelfcal_kept {s0 s : State} (q : Nat) (k : Nat) (found : List CalFinding) (hk : Kept s0 s) :
    Kept s0 (State.adcSelfcal s q k found) := by
  unfold State.adcSelfcal
  lift_lets -underBinder
  intro x0
  try clear_value x0
  intro x1
  try clear_value x1
  intro x2
  refine Kept.cut x2 ?_ (fun _ => ?_)
  · unfold x2
    clear x2
    apply Kept.foldl
    · intro x3
      intro x4
      intro x5
      apply State.calEnd_kept
      assumption
    · assumption
  clear_value x2
  apply Kept.ite
  · apply State.selfcalBegin_kept
    assumption
  · apply Kept.ite
    · apply State.finish_kept
      assumption
    · assumption

theorem State.adcFenceClr_kept {s0 s : State} (u : Nat) (hk : Kept s0 s) :
    Kept s0 (State.adcFenceClr s u) := by
  unfold State.adcFenceClr
  apply Kept.ite
  · apply State.adcStart_kept
    apply State.modAdc_kept
    assumption
  · assumption

end Sys2Proof.Machine
end

