-- ==== Sys2Proof/Laws/KeepTime.lean ====
section
/-! SUPPORT. The operations of Machine/Time.lean keep the waiting commands and the canonical form. -/
set_option linter.unusedVariables false
namespace Sys2Proof.Machine

theorem State.tmFire_kept {s0 s : State} (k : Nat) (t : Nat) (flags : Nat) (hk : Kept s0 s) :
    Kept s0 (State.tmFire s k t flags) := by
  unfold State.tmFire
  apply State.event_kept
  simp only [Kept.upd]
  assumption

theorem State.tmJudge_kept {s0 s : State} (k : Nat) (hk : Kept s0 s) :
    Kept s0 (State.tmJudge s k) := by
  unfold State.tmJudge
  apply Kept.ite
  · apply State.bump_kept
    simp only [Kept.upd]
    assumption
  · assumption

theorem State.tmDisarm_kept {s0 s : State} (k : Nat) (hk : Kept s0 s) :
    Kept s0 (State.tmDisarm s k) := by
  unfold State.tmDisarm
  simp only [Kept.upd]
  assumption

theorem State.stepTo_kept {s0 s : State} (t : Nat) (hk : Kept s0 s) :
    Kept s0 (State.stepTo s t) := by
  unfold State.stepTo
  lift_lets -underBinder
  intro x0
  try clear_value x0
  intro x1
  try clear_value x1
  intro x2
  refine Kept.cut x2 ?_ (fun _ => ?_)
  · unfold x2
    clear x2
    simp only [Kept.upd]
    refine Kept.mk ?_ (fun ⟨h0, h1, h2, h3, h4, h5, h6, h7, h8, h9, h10, h11, h12, h13, h14, h15, h16, h17, h18, h19, h20, h21, h22⟩ => ⟨h0, h1, h2, h3, (by first | exact h4 | exact Kept.fsts (fun _ => Eq.refl _) h4), h5, h6, h7, h8, h9, h10, h11, h12, h13, h14, h15, h16, h17, h18, (by first | exact h19 | exact Kept.fsts (fun _ => Eq.refl _) h19), h20, h21, h22⟩)
    assumption
  clear_value x2
  apply Kept.ite
  · apply Kept.foldl
    · intro x3
      intro x4
      intro x5
      apply Kept.ite
      · apply State.tmFire_kept
        assumption
      · assumption
    · apply State.adcRestep_kept
      assumption
  · apply State.adcRestep_kept
    assumption

theorem State.loadTime_kept {s0 s : State} (t : Nat) (hk : Kept s0 s) :
    Kept s0 (State.loadTime s t) := by
  unfold State.loadTime
  lift_lets -underBinder
  intro x0
  refine Kept.cut x0 ?_ (fun _ => ?_)
  · unfold x0
    clear x0
    apply State.stepTo_kept
    assumption
  clear_value x0
  apply State.bump_kept
  simp only [Kept.upd]
  assumption

theorem State.timeSetAt_kept {s0 s : State} (r : CmdRef) (t : Nat) (atPps : Bool) (hk : Kept s0 s) :
    Kept s0 (State.timeSetAt s r t atPps) := by
  unfold State.timeSetAt
  split
  · apply State.finish_kept
    assumption
  · apply Kept.ite
    · simp only [Kept.upd]
      assumption
    · apply State.finish_kept
      apply State.loadTime_kept
      assumption

theorem State.timeSet_kept {s0 s : State} (q : Nat) (k : Nat) (hk : Kept s0 s) :
    Kept s0 (State.timeSet s q k) := by
  unfold State.timeSet
  apply State.run_kept
  · intro x0
    intro x1
    intro x2
    intro x3
    lift_lets -underBinder
    intro x4
    try clear_value x4
    intro x5
    try clear_value x5
    apply Kept.ite
    · apply State.finish_kept
      assumption
    · apply State.timeSetAt_kept
      assumption
  · assumption

theorem State.timeSetCalendar_kept {s0 s : State} (q : Nat) (k : Nat) (hk : Kept s0 s) :
    Kept s0 (State.timeSetCalendar s q k) := by
  unfold State.timeSetCalendar
  apply State.run_kept
  · intro x0
    intro x1
    intro x2
    intro x3
    lift_lets -underBinder
    intro x4
    try clear_value x4
    intro x5
    try clear_value x5
    apply Kept.ite
    · apply State.finish_kept
      assumption
    · apply Kept.ite
      · apply State.finish_kept
        assumption
      · split
        · apply State.finish_kept
          assumption
        · apply State.timeSetAt_kept
          assumption
  · assumption

theorem State.timeGet_kept {s0 s : State} (q : Nat) (k : Nat) (hk : Kept s0 s) :
    Kept s0 (State.timeGet s q k) := by
  unfold State.timeGet
  apply State.run_kept
  · intro x0
    intro x1
    intro x2
    intro x3
    lift_lets -underBinder
    intro x4
    try clear_value x4
    intro x5
    try clear_value x5
    intro x6
    try clear_value x6
    intro x7
    try clear_value x7
    apply Kept.ite
    · apply State.finish_kept
      assumption
    · apply State.finish_kept
      assumption
  · assumption

theorem State.correct_kept {s0 s : State} (d : Int) (hk : Kept s0 s) :
    Kept s0 (State.correct s d) := by
  unfold State.correct
  apply Kept.ite
  · assumption
  · lift_lets -underBinder
    intro x0
    refine Kept.cut x0.2 ?_ (fun _ => ?_)
    · unfold x0
      clear x0
      apply State.draw_kept
      assumption
    clear_value x0
    simp only [Kept.upd]
    with_reducible assumption

theorem State.ptpUnlock_kept {s0 s : State} (hk : Kept s0 s) :
    Kept s0 (State.ptpUnlock s) := by
  unfold State.ptpUnlock
  apply Kept.ite
  · apply State.bump_kept
    simp only [Kept.upd]
    assumption
  · assumption

theorem State.referenceLoss_kept {s0 s : State} (hk : Kept s0 s) :
    Kept s0 (State.referenceLoss s) := by
  unfold State.referenceLoss
  apply Kept.ite
  · lift_lets -underBinder
    intro x0
    try clear_value x0
    intro x1
    refine Kept.cut x1 ?_ (fun _ => ?_)
    · unfold x1
      clear x1
      simp only [Kept.upd]
      assumption
    clear_value x1
    apply Kept.ite
    · apply State.ptpUnlock_kept
      apply State.logErr_kept
      apply State.bump_kept
      assumption
    · apply State.logErr_kept
      apply State.bump_kept
      assumption
  · assumption

theorem State.holdoverEnd_kept {s0 s : State} (hk : Kept s0 s) :
    Kept s0 (State.holdoverEnd s) := by
  unfold State.holdoverEnd
  apply Kept.ite
  · simp only [Kept.upd]
    assumption
  · assumption

theorem State.timeStep_kept {s0 s : State} (hk : Kept s0 s) :
    Kept s0 (State.timeStep s) := by
  unfold State.timeStep
  split
  · apply Kept.ite
    · lift_lets -underBinder
      intro x0
      try clear_value x0
      intro x1
      refine Kept.cut x1 ?_ (fun _ => ?_)
      · unfold x1
        clear x1
        apply State.reach_kept
        assumption
      clear_value x1
      apply State.bump_kept
      simp only [Kept.upd]
      apply State.stepTo_kept
      assumption
    · assumption
  · assumption

theorem State.tbStart_kept {s0 s : State} (hk : Kept s0 s) :
    Kept s0 (State.tbStart s) := by
  unfold State.tbStart
  apply Kept.ite
  · lift_lets -underBinder
    intro x0
    refine Kept.cut x0 ?_ (fun _ => ?_)
    · unfold x0
      clear x0
      apply State.setRunning_kept
      assumption
    clear_value x0
    simp only [Kept.upd]
    assumption
  · assumption

theorem State.tbStop_kept {s0 s : State} (hk : Kept s0 s) :
    Kept s0 (State.tbStop s) := by
  unfold State.tbStop
  lift_lets -underBinder
  intro x0
  refine Kept.cut x0 ?_ (fun _ => ?_)
  · unfold x0
    clear x0
    apply State.setRunning_kept
    assumption
  clear_value x0
  simp only [Kept.upd]
  assumption

theorem State.ppsOutEdge_kept {s0 s : State} (rise : Bool) (hk : Kept s0 s) :
    Kept s0 (State.ppsOutEdge s rise) := by
  unfold State.ppsOutEdge
  apply Kept.ite
  · apply Kept.ite
    · lift_lets -underBinder
      intro x0
      refine Kept.cut x0 ?_ (fun _ => ?_)
      · unfold x0
        clear x0
        apply State.reach_kept
        assumption
      clear_value x0
      simp only [Kept.upd]
      assumption
    · assumption
  · apply Kept.ite
    · lift_lets -underBinder
      intro x1
      try clear_value x1
      intro x2
      refine Kept.cut x2 ?_ (fun _ => ?_)
      · unfold x2
        clear x2
        apply State.reach_kept
        assumption
      clear_value x2
      simp only [Kept.upd]
      assumption
    · assumption

theorem State.ppsLoad_kept {s0 s : State} (w : PpsWait) (hk : Kept s0 s) :
    Kept s0 (State.ppsLoad s w) := by
  unfold State.ppsLoad
  apply Kept.ite
  · apply State.finish_kept
    assumption
  · apply State.finish_kept
    apply State.loadTime_kept
    assumption

theorem State.ppsInEdge_kept {s0 s : State} (rise : Bool) (t : Nat) (hk : Kept s0 s) :
    Kept s0 (State.ppsInEdge s rise t) := by
  unfold State.ppsInEdge
  apply Kept.ite
  · lift_lets -underBinder
    intro x0
    refine Kept.cut x0 ?_ (fun _ => ?_)
    · unfold x0
      clear x0
      apply State.reach_kept
      assumption
    clear_value x0
    apply Kept.foldl
    · intro x1
      intro x2
      intro x3
      apply State.ppsLoad_kept
      assumption
    · simp only [Kept.upd]
      apply Kept.ite
      · apply State.correct_kept
        apply Kept.ite
        · simp only [Kept.upd]
          assumption
        · assumption
      · apply Kept.ite
        · simp only [Kept.upd]
          assumption
        · assumption
  · assumption

theorem State.ppsSeenTimeout_kept {s0 s : State} (hk : Kept s0 s) :
    Kept s0 (State.ppsSeenTimeout s) := by
  unfold State.ppsSeenTimeout
  simp only [Kept.upd]
  assumption

theorem State.ppsWaitTimeout_kept {s0 s : State} (q : Nat) (k : Nat) (hk : Kept s0 s) :
    Kept s0 (State.ppsWaitTimeout s q k) := by
  unfold State.ppsWaitTimeout
  split
  · apply Kept.ite
    · apply State.timedOut_kept
      apply State.reachWait_kept
      assumption
    · assumption
  · assumption

theorem State.pllALock_kept {s0 s : State} (hk : Kept s0 s) :
    Kept s0 (State.pllALock s) := by
  unfold State.pllALock
  apply Kept.ite
  · apply State.safeCauseGone_kept
    simp only [Kept.upd]
    assumption
  · assumption

theorem State.pllALockLoss_kept {s0 s : State} (hk : Kept s0 s) :
    Kept s0 (State.pllALockLoss s) := by
  unfold State.pllALockLoss
  apply Kept.ite
  · lift_lets -underBinder
    intro x0
    try clear_value x0
    intro x1
    refine Kept.cut x1 ?_ (fun _ => ?_)
    · unfold x1
      clear x1
      simp only [Kept.upd]
      assumption
    clear_value x1
    apply State.safeCauseRaise_kept
    apply State.crash_kept
    apply Kept.foldl
    · intro x2
      intro x3
      intro x4
      apply State.finish_kept
      assumption
    · apply State.logErr_kept
      apply State.bump_kept
      assumption
  · assumption

theorem State.pllAEnable_kept {s0 s : State} (on : Bool) (hk : Kept s0 s) :
    Kept s0 (State.pllAEnable s on) := by
  unfold State.pllAEnable
  apply Kept.ite
  · lift_lets -underBinder
    intro x0
    refine Kept.cut x0 ?_ (fun _ => ?_)
    · unfold x0
      clear x0
      apply State.setRunning_kept
      assumption
    clear_value x0
    simp only [Kept.upd]
    assumption
  · apply Kept.ite
    · simp only [Kept.upd]
      assumption
    · apply State.pllAStop_kept
      assumption

theorem State.pllEnable_kept {s0 s : State} (x : Nat) (on : Bool) (hk : Kept s0 s) :
    Kept s0 (State.pllEnable s x on) := by
  unfold State.pllEnable
  apply Kept.ite
  · apply State.pllStart_kept
    apply State.modPll_kept
    assumption
  · apply Kept.ite
    · apply State.modPll_kept
      assumption
    · apply State.pllStop_kept
      assumption

theorem State.pllLock_kept {s0 s : State} (x : Nat) (count : Nat) (hk : Kept s0 s) :
    Kept s0 (State.pllLock s x count) := by
  unfold State.pllLock
  apply Kept.ite
  · lift_lets -underBinder
    intro x0
    try clear_value x0
    apply State.modPll_kept
    assumption
  · assumption

theorem State.lockStop_kept {s0 s : State} (g : Nat) (hk : Kept s0 s) :
    Kept s0 (State.lockStop s g) := by
  unfold State.lockStop
  lift_lets -underBinder
  intro x0
  try clear_value x0
  apply Kept.ite
  · apply State.setGrp_kept
    assumption
  · apply Kept.ite
    · apply State.stopGroup_kept
      assumption
    · apply State.rampsMid_kept
      assumption

theorem State.lockLost_kept {s0 s : State} (x : Nat) (count : Nat) (hk : Kept s0 s) :
    Kept s0 (State.lockLost s x count) := by
  unfold State.lockLost
  lift_lets -underBinder
  intro x0
  refine Kept.cut x0 ?_ (fun _ => ?_)
  · unfold x0
    clear x0
    apply State.modPll_kept
    assumption
  clear_value x0
  split
  · apply State.modPll_kept
    apply Kept.foldl
    · intro x1
      intro x2
      intro x3
      apply Kept.ite
      · apply State.lockStop_kept
        assumption
      · assumption
    · apply State.logErr_kept
      apply State.bump_kept
      assumption
  · apply Kept.foldl
    · intro x4
      intro x5
      intro x6
      apply Kept.ite
      · apply State.lockStop_kept
        assumption
      · assumption
    · apply State.logErr_kept
      apply State.bump_kept
      assumption

theorem State.pllLockLoss_kept {s0 s : State} (x : Nat) (count : Nat) (hk : Kept s0 s) :
    Kept s0 (State.pllLockLoss s x count) := by
  unfold State.pllLockLoss
  lift_lets -underBinder
  intro x0
  try clear_value x0
  apply Kept.ite
  · apply Kept.ite
    · apply State.setPll_kept
      assumption
    · apply Kept.ite
      · apply State.setPll_kept
        assumption
      · apply State.lockLost_kept
        assumption
  · assumption

theorem State.applyRefused_kept {s0 s : State} (x : Nat) (hk : Kept s0 s) :
    Kept s0 (State.applyRefused s x) := by
  unfold State.applyRefused
  apply State.logErr_kept
  apply State.bump_kept
  assumption

theorem State.pllApply_kept {s0 s : State} (x : Nat) (hk : Kept s0 s) :
    Kept s0 (State.pllApply s x) := by
  unfold State.pllApply
  apply Kept.ite
  · apply State.modPll_kept
    assumption
  · apply State.applyRefused_kept
    assumption

theorem State.applyEdge_kept {s0 s : State} (x : Nat) (hk : Kept s0 s) :
    Kept s0 (State.applyEdge s x) := by
  unfold State.applyEdge
  split
  · apply Kept.ite
    · lift_lets -underBinder
      intro x0
      try clear_value x0
      intro x1
      refine Kept.cut x1 ?_ (fun _ => ?_)
      · unfold x1
        clear x1
        apply State.modPll_kept
        apply State.reach_kept
        assumption
      clear_value x1
      apply Kept.ite
      · apply State.pllStart_kept
        apply State.modPll_kept
        apply State.wr_kept
        apply State.wr_kept
        apply State.wr_kept
        apply State.wr_kept
        assumption
      · apply State.applyRefused_kept
        assumption
    · assumption
  · assumption

theorem State.ckSet_kept {s0 s : State} (n : Nat) (on : Bool) (hk : Kept s0 s) :
    Kept s0 (State.ckSet s n on) := by
  unfold State.ckSet
  lift_lets -underBinder
  intro x0
  refine Kept.cut x0 ?_ (fun _ => ?_)
  · unfold x0
    clear x0
    apply State.wrb_kept
    assumption
  clear_value x0
  apply State.wrb_kept
  apply State.wrb_kept
  assumption

end Sys2Proof.Machine
end

