-- ==== Sys2Proof/Laws/KeepIo.lean ====
section
/-! SUPPORT. The operations of Machine/Io.lean keep the waiting commands and the canonical form. -/
set_option linter.unusedVariables false
namespace Sys2Proof.Machine

theorem State.binChange_kept {s0 s : State} (n : Nat) (t : Nat) (hk : Kept s0 s) :
    Kept s0 (State.binChange s n t) := by
  unfold State.binChange
  lift_lets -underBinder
  intro x0
  try clear_value x0
  intro x1
  refine Kept.cut x1 ?_ (fun _ => ?_)
  · unfold x1
    clear x1
    apply State.setBin_kept
    apply State.reach_kept
    assumption
  clear_value x1
  apply Kept.ite
  · apply State.event_kept
    apply State.bump_kept
    assumption
  · assumption

theorem State.binBounce_kept {s0 s : State} (n : Nat) (hk : Kept s0 s) :
    Kept s0 (State.binBounce s n) := by
  unfold State.binBounce
  lift_lets -underBinder
  intro x0
  try clear_value x0
  apply Kept.ite
  · apply State.bump_kept
    apply State.setBin_kept
    assumption
  · assumption

theorem State.binStable_kept {s0 s : State} (n : Nat) (level : Bool) (hk : Kept s0 s) :
    Kept s0 (State.binStable s n level) := by
  unfold State.binStable
  lift_lets -underBinder
  intro x0
  try clear_value x0
  apply Kept.ite
  · apply State.setBin_kept
    assumption
  · assumption

theorem State.binBegin_kept {s0 s : State} (n : Nat) (hk : Kept s0 s) :
    Kept s0 (State.binBegin s n) := by
  unfold State.binBegin
  apply State.modBin_kept
  assumption

theorem State.binEnd_kept {s0 s : State} (n : Nat) (hk : Kept s0 s) :
    Kept s0 (State.binEnd s n) := by
  unfold State.binEnd
  apply State.modBin_kept
  assumption

theorem State.tmArm_kept {s0 s : State} (k : Nat) (on : Bool) (hk : Kept s0 s) :
    Kept s0 (State.tmArm s k on) := by
  unfold State.tmArm
  lift_lets -underBinder
  intro x0
  try clear_value x0
  intro x1
  refine Kept.cut x1 ?_ (fun _ => ?_)
  · unfold x1
    clear x1
    apply State.wrb_kept
    assumption
  clear_value x1
  apply Kept.ite
  · apply State.tmJudge_kept
    assumption
  · apply Kept.ite
    · apply State.tmDisarm_kept
      assumption
    · assumption

theorem State.timeMatch_kept {s0 s : State} (k : Nat) (hk : Kept s0 s) :
    Kept s0 (State.timeMatch s k) := by
  unfold State.timeMatch
  apply Kept.ite
  · lift_lets -underBinder
    intro x0
    refine Kept.cut x0 ?_ (fun _ => ?_)
    · unfold x0
      clear x0
      apply State.reach_kept
      assumption
    clear_value x0
    apply Kept.ite
    · apply State.tmFire_kept
      assumption
    · assumption
  · assumption

theorem State.softEvents_kept {s0 s : State} (v : Word) (hk : Kept s0 s) :
    Kept s0 (State.softEvents s v) := by
  unfold State.softEvents
  apply Kept.foldl
  · intro x0
    intro x1
    intro x2
    apply Kept.ite
    · apply State.event_kept
      assumption
    · assumption
  · assumption

theorem State.evtEnable_kept {s0 s : State} (on : Bool) (hk : Kept s0 s) :
    Kept s0 (State.evtEnable s on) := by
  unfold State.evtEnable
  lift_lets -underBinder
  intro x0
  try clear_value x0
  intro x1
  refine Kept.cut x1 ?_ (fun _ => ?_)
  · unfold x1
    clear x1
    apply State.setRunning_kept
    assumption
  clear_value x1
  apply Kept.ite
  · apply Kept.foldl
    · intro x2
      intro x3
      intro x4
      apply State.tmJudge_kept
      assumption
    · assumption
  · apply Kept.ite
    · assumption
    · simp only [Kept.upd]
      assumption

theorem State.chainEventExec_kept {s0 s : State} (hk : Kept s0 s) :
    Kept s0 (State.chainEventExec s) := by
  unfold State.chainEventExec
  split
  · lift_lets -underBinder
    intro x0
    refine Kept.cut x0 ?_ (fun _ => ?_)
    · unfold x0
      clear x0
      apply State.reach_kept
      assumption
    clear_value x0
    apply Kept.ite
    · apply State.deliver_kept
      simp only [Kept.upd]
      assumption
    · simp only [Kept.upd]
      assumption
  · assumption

theorem State.logRead_kept {s0 s : State} (q : Nat) (k : Nat) (hk : Kept s0 s) :
    Kept s0 (State.logRead s q k) := by
  unfold State.logRead
  apply State.run_kept
  · intro x0
    intro x1
    intro x2
    intro x3
    lift_lets -underBinder
    intro x4
    try clear_value x4
    intro x5
    try clear_value x5
    intro x6
    try clear_value x6
    intro x7
    try clear_value x7
    intro x8
    try clear_value x8
    intro x9
    try clear_value x9
    intro x10
    try clear_value x10
    intro x11
    try clear_value x11
    intro x12
    try clear_value x12
    intro x13
    try clear_value x13
    intro x14
    refine Kept.cut x14 ?_ (fun _ => ?_)
    · unfold x14
      clear x14
      apply Kept.ite
      · assumption
      · apply State.put_kept
        assumption
    clear_value x14
    apply Kept.ite
    · apply State.finish_kept
      assumption
    · apply Kept.ite
      · apply State.finish_kept
        assumption
      · apply State.finish_kept
        apply Kept.ite
        · simp only [Kept.upd]
          assumption
        · assumption
  · assumption

theorem State.cwDisarm_kept {s0 s : State} (i : Nat) (hk : Kept s0 s) :
    Kept s0 (State.cwDisarm s i) := by
  unfold State.cwDisarm
  lift_lets -underBinder
  intro x0
  try clear_value x0
  intro x1
  try clear_value x1
  apply State.cwEnd_kept
  apply State.setWin_kept
  assumption

theorem State.checkWindowSet_kept {s0 s : State} (q : Nat) (k : Nat) (hk : Kept s0 s) :
    Kept s0 (State.checkWindowSet s q k) := by
  unfold State.checkWindowSet
  apply State.run_kept
  · intro x0
    intro x1
    intro x2
    intro x3
    lift_lets -underBinder
    intro x4
    try clear_value x4
    intro x5
    try clear_value x5
    intro x6
    try clear_value x6
    intro x7
    try clear_value x7
    intro x8
    try clear_value x8
    intro x9
    refine Kept.cut x9 ?_ (fun _ => ?_)
    · unfold x9
      clear x9
      apply State.cwDisarm_kept
      assumption
    clear_value x9
    apply Kept.ite
    · apply State.finish_kept
      assumption
    · apply Kept.ite
      · apply State.finish_kept
        assumption
      · apply Kept.ite
        · apply State.finish_kept
          assumption
        · apply Kept.ite
          · apply State.finish_kept
            assumption
          · apply State.finish_kept
            apply State.setWin_kept
            assumption
  · assumption

theorem State.cwClose_kept {s0 s : State} (i : Nat) (t : Nat) (hk : Kept s0 s) :
    Kept s0 (State.cwClose s i t) := by
  unfold State.cwClose
  lift_lets -underBinder
  intro x0
  try clear_value x0
  intro x1
  try clear_value x1
  apply Kept.ite
  · assumption
  · apply State.cwEnd_kept
    apply State.setWin_kept
    assumption

theorem State.rampEnd_kept {s0 s : State} (d : Nat) (hk : Kept s0 s) :
    Kept s0 (State.rampEnd s d) := by
  unfold State.rampEnd
  split
  · apply State.modDac_kept
    assumption
  · assumption

theorem State.dacRefReady_kept {s0 s : State} (hk : Kept s0 s) :
    Kept s0 (State.dacRefReady s) := by
  unfold State.dacRefReady
  apply Kept.ite
  · apply Kept.foldl
    · intro x0
      intro x1
      intro x2
      apply Kept.ite
      · apply State.modDac_kept
        assumption
      · assumption
    · apply State.wrb_kept
      assumption
  · assumption

theorem State.rangeHoldEnd_kept {s0 s : State} (d : Nat) (hk : Kept s0 s) :
    Kept s0 (State.rangeHoldEnd s d) := by
  unfold State.rangeHoldEnd
  apply Kept.ite
  · apply State.modDac_kept
    assumption
  · assumption

theorem State.dacTrip_kept {s0 s : State} (d : Nat) (hk : Kept s0 s) :
    Kept s0 (State.dacTrip s d) := by
  unfold State.dacTrip
  split
  · lift_lets -underBinder
    intro x0
    refine Kept.cut x0 ?_ (fun _ => ?_)
    · unfold x0
      clear x0
      apply State.modDac_kept
      assumption
    clear_value x0
    apply State.logErr_kept
    apply State.bump_kept
    assumption
  · lift_lets -underBinder
    intro x1
    refine Kept.cut x1 ?_ (fun _ => ?_)
    · unfold x1
      clear x1
      apply State.modDac_kept
      assumption
    clear_value x1
    apply State.irqIf_kept
    apply State.lasting_kept
    apply State.bump_kept
    assumption
  · assumption

theorem State.dacSense_kept {s0 s : State} (d : Nat) (overs : Bool) (hk : Kept s0 s) :
    Kept s0 (State.dacSense s d overs) := by
  unfold State.dacSense
  lift_lets -underBinder
  intro x0
  try clear_value x0
  apply Kept.ite
  · apply Kept.ite
    · apply Kept.ite
      · assumption
      · apply State.setDac_kept
        assumption
    · apply Kept.ite
      · apply State.setDac_kept
        assumption
      · apply State.dacTrip_kept
        assumption
  · assumption

theorem State.monitorSlot_kept {s0 s : State} (u15 : Bool) (f : Nat) (legP : Nat) (legN : Nat) (hk : Kept s0 s) :
    Kept s0 (State.monitorSlot s u15 f legP legN) := by
  unfold State.monitorSlot
  lift_lets -underBinder
  intro x0
  try clear_value x0
  intro x1
  try clear_value x1
  apply Kept.ite
  · apply State.dacSense_kept
    assumption
  · assumption

theorem State.dacRetry_kept {s0 s : State} (d : Nat) (hk : Kept s0 s) :
    Kept s0 (State.dacRetry s d) := by
  unfold State.dacRetry
  lift_lets -underBinder
  intro x0
  try clear_value x0
  apply Kept.ite
  · apply State.setDac_kept
    apply State.reach_kept
    assumption
  · assumption

theorem State.dacRetryPassed_kept {s0 s : State} (d : Nat) (hk : Kept s0 s) :
    Kept s0 (State.dacRetryPassed s d) := by
  unfold State.dacRetryPassed
  lift_lets -underBinder
  intro x0
  try clear_value x0
  apply Kept.ite
  · apply State.transient_kept
    apply State.setDac_kept
    assumption
  · assumption

theorem State.dacUnfence_kept {s0 s : State} (d : Nat) (hk : Kept s0 s) :
    Kept s0 (State.dacUnfence s d) := by
  unfold State.dacUnfence
  lift_lets -underBinder
  intro x0
  try clear_value x0
  apply Kept.ite
  · apply State.setDac_kept
    assumption
  · assumption

theorem State.dacFenceClr_kept {s0 s : State} (v : Word) (hk : Kept s0 s) :
    Kept s0 (State.dacFenceClr s v) := by
  unfold State.dacFenceClr
  apply Kept.foldl
  · intro x0
    intro x1
    intro x2
    apply Kept.ite
    · apply State.dacUnfence_kept
      assumption
    · assumption
  · assumption

theorem State.laneStep_kept {s0 s : State} (g : Nat) (seg : Nat) (k : Nat) (n : Nat) (hk : Kept s0 s) :
    Kept s0 (State.laneStep s g seg k n) := by
  unfold State.laneStep
  apply Kept.ite
  · apply State.modPin_kept
    assumption
  · assumption

theorem State.patternStep_kept {s0 s : State} (g : Nat) (absent : Bool) (hk : Kept s0 s) :
    Kept s0 (State.patternStep s g absent) := by
  unfold State.patternStep
  split
  · lift_lets -underBinder
    intro x0
    try clear_value x0
    intro x1
    try clear_value x1
    intro x2
    refine Kept.cut x2 ?_ (fun _ => ?_)
    · unfold x2
      clear x2
      apply State.modGrp_kept
      apply State.reach_kept
      assumption
    clear_value x2
    apply Kept.ite
    · apply Kept.ite
      · apply State.underrun_kept
        assumption
      · apply State.settlePairs_kept
        apply Kept.foldl
        · intro x3
          intro x4
          intro x5
          apply State.laneStep_kept
          assumption
        · assumption
    · assumption
  · assumption

theorem State.pairMake_kept {s0 s : State} (k : Nat) (hk : Kept s0 s) :
    Kept s0 (State.pairMake s k) := by
  unfold State.pairMake
  lift_lets -underBinder
  intro x0
  try clear_value x0
  split
  · lift_lets -underBinder
    intro x1
    try clear_value x1
    apply State.setPair_kept
    apply State.reach_kept
    assumption
  · assumption

theorem State.markerEnd_kept {s0 s : State} (m : Nat) (hk : Kept s0 s) :
    Kept s0 (State.markerEnd s m) := by
  unfold State.markerEnd
  lift_lets -underBinder
  intro x0
  try clear_value x0
  apply Kept.ite
  · apply State.mkLow_kept
    apply State.reach_kept
    assumption
  · assumption

theorem State.pinMismatch_kept {s0 s : State} (n : Nat) (t : Nat) (hk : Kept s0 s) :
    Kept s0 (State.pinMismatch s n t) := by
  unfold State.pinMismatch
  lift_lets -underBinder
  intro x0
  try clear_value x0
  intro x1
  refine Kept.cut x1 ?_ (fun _ => ?_)
  · unfold x1
    clear x1
    apply State.event_kept
    apply State.bump_kept
    apply State.reach_kept
    assumption
  clear_value x1
  apply Kept.ite
  · apply State.settlePairs_kept
    split
    · apply State.logErr_kept
      apply State.modPin_kept
      assumption
    · lift_lets -underBinder
      intro x2
      refine Kept.cut x2 ?_ (fun _ => ?_)
      · unfold x2
        clear x2
        apply State.bump_kept
        apply State.modPin_kept
        assumption
      clear_value x2
      apply State.irqIf_kept
      apply State.lasting_kept
      assumption
  · assumption

theorem State.pinRetry_kept {s0 s : State} (n : Nat) (hk : Kept s0 s) :
    Kept s0 (State.pinRetry s n) := by
  unfold State.pinRetry
  lift_lets -underBinder
  intro x0
  try clear_value x0
  intro x1
  refine Kept.cut x1 ?_ (fun _ => ?_)
  · unfold x1
    clear x1
    apply State.setPin_kept
    apply State.reach_kept
    assumption
  clear_value x1
  apply Kept.ite
  · apply State.settlePairs_kept
    assumption
  · assumption

theorem State.pinRetryPassed_kept {s0 s : State} (n : Nat) (hk : Kept s0 s) :
    Kept s0 (State.pinRetryPassed s n) := by
  unfold State.pinRetryPassed
  lift_lets -underBinder
  intro x0
  try clear_value x0
  intro x1
  refine Kept.cut x1 ?_ (fun _ => ?_)
  · unfold x1
    clear x1
    apply State.transient_kept
    apply State.setPin_kept
    assumption
  clear_value x1
  apply Kept.ite
  · apply State.settlePairs_kept
    assumption
  · assumption

theorem State.patFenceClr_kept {s0 s : State} (lo : Nat) (v : Word) (hk : Kept s0 s) :
    Kept s0 (State.patFenceClr s lo v) := by
  unfold State.patFenceClr
  lift_lets -underBinder
  intro x0
  refine Kept.cut x0 ?_ (fun _ => ?_)
  · unfold x0
    clear x0
    apply Kept.foldl
    · intro x1
      intro x2
      intro x3
      apply Kept.ite
      · apply State.modPin_kept
        assumption
      · assumption
    · assumption
  clear_value x0
  apply State.settlePairs_kept
  assumption

theorem State.patOvrClr_kept {s0 s : State} (lo : Nat) (v : Word) (hk : Kept s0 s) :
    Kept s0 (State.patOvrClr s lo v) := by
  unfold State.patOvrClr
  lift_lets -underBinder
  intro x0
  refine Kept.cut x0 ?_ (fun _ => ?_)
  · unfold x0
    clear x0
    apply Kept.foldl
    · intro x1
      intro x2
      intro x3
      lift_lets -underBinder
      intro x4
      try clear_value x4
      apply Kept.ite
      · apply State.setPin_kept
        assumption
      · assumption
    · assumption
  clear_value x0
  apply State.settlePairs_kept
  assumption

theorem State.pinEnable_kept {s0 s : State} (n : Nat) (on : Bool) (hk : Kept s0 s) :
    Kept s0 (State.pinEnable s n on) := by
  unfold State.pinEnable
  lift_lets -underBinder
  intro x0
  refine Kept.cut x0 ?_ (fun _ => ?_)
  · unfold x0
    clear x0
    apply State.wrb_kept
    assumption
  clear_value x0
  apply State.settlePairs_kept
  apply Kept.ite
  · apply State.startPin_kept
    assumption
  · apply State.stopPin_kept
    assumption

theorem State.markerEnable_kept {s0 s : State} (m : Nat) (on : Bool) (hk : Kept s0 s) :
    Kept s0 (State.markerEnable s m on) := by
  unfold State.markerEnable
  lift_lets -underBinder
  intro x0
  refine Kept.cut x0 ?_ (fun _ => ?_)
  · unfold x0
    clear x0
    apply State.wrb_kept
    assumption
  clear_value x0
  apply Kept.ite
  · assumption
  · apply State.mkLow_kept
    assumption

theorem State.patEnable_kept {s0 s : State} (on : Bool) (hk : Kept s0 s) :
    Kept s0 (State.patEnable s on) := by
  unfold State.patEnable
  apply Kept.ite
  · apply Kept.ite
    · assumption
    · lift_lets -underBinder
      intro x0
      refine Kept.cut x0 ?_ (fun _ => ?_)
      · unfold x0
        clear x0
        apply Kept.foldl
        · intro x1
          intro x2
          intro x3
          apply Kept.ite
          · apply State.startPin_kept
            assumption
          · assumption
        · apply State.setRunning_kept
          assumption
      clear_value x0
      apply State.settlePairs_kept
      assumption
  · lift_lets -underBinder
    intro x4
    refine Kept.cut x4 ?_ (fun _ => ?_)
    · unfold x4
      clear x4
      apply Kept.foldl
      · intro x5
        intro x6
        intro x7
        apply State.mkLow_kept
        assumption
      · assumption
    clear_value x4
    apply State.settlePairs_kept
    apply Kept.foldl
    · intro x8
      intro x9
      intro x10
      apply Kept.ite
      · apply State.stopPin_kept
        assumption
      · assumption
    · apply State.setRunning_kept
      assumption

theorem State.binEnable_kept {s0 s : State} (on : Bool) (hk : Kept s0 s) :
    Kept s0 (State.binEnable s on) := by
  unfold State.binEnable
  lift_lets -underBinder
  intro x0
  try clear_value x0
  intro x1
  refine Kept.cut x1 ?_ (fun _ => ?_)
  · unfold x1
    clear x1
    apply State.setRunning_kept
    assumption
  clear_value x1
  apply Kept.ite
  · assumption
  · apply Kept.foldl
    · intro x2
      intro x3
      intro x4
      apply Kept.ite
      · apply Kept.ite
        · apply State.binBegin_kept
          assumption
        · apply State.binEnd_kept
          assumption
      · assumption
    · assumption

end Sys2Proof.Machine
end

