-- ==== Sys2Proof/Laws/KeepGroups.lean ====
section
/-! SUPPORT. The operations of Machine/Groups.lean keep the waiting commands and the canonical form. -/
set_option linter.unusedVariables false
namespace Sys2Proof.Machine

theorem State.tableWrite_kept {s0 s : State} (q : Nat) (k : Nat) (hk : Kept s0 s) :
    Kept s0 (State.tableWrite s q k) := by
  unfold State.tableWrite
  apply State.run_kept
  · intro x0
    intro x1
    intro x2
    intro x3
    lift_lets -underBinder
    intro x4
    try clear_value x4
    intro x5
    try clear_value x5
    intro x6
    try clear_value x6
    intro x7
    try clear_value x7
    intro x8
    try clear_value x8
    intro x9
    try clear_value x9
    apply Kept.ite
    · apply State.finish_kept
      assumption
    · apply Kept.ite
      · apply State.finish_kept
        apply Kept.foldl
        · intro x10
          intro x11
          intro x12
          apply State.setEntry_kept
          assumption
        · assumption
      · apply Kept.ite
        · apply State.finish_kept
          assumption
        · apply Kept.ite
          · apply State.finish_kept
            assumption
          · apply Kept.ite
            · apply State.finish_kept
              apply State.addition_kept
              assumption
            · apply State.addition_kept
              assumption
  · assumption

theorem State.armed_kept {s0 s : State} (g : Nat) (hk : Kept s0 s) :
    Kept s0 (State.armed s g) := by
  unfold State.armed
  lift_lets -underBinder
  intro x0
  try clear_value x0
  intro x1
  refine Kept.cut x1 ?_ (fun _ => ?_)
  · unfold x1
    clear x1
    apply Kept.ite
    · assumption
    · apply State.chansArm_kept
      assumption
  clear_value x1
  apply Kept.ite
  · apply State.finishOpt_kept
    apply State.setGrp_kept
    assumption
  · apply State.finishOpt_kept
    apply State.modGrp_kept
    assumption

theorem State.groupArm_kept {s0 s : State} (q : Nat) (k : Nat) (hk : Kept s0 s) :
    Kept s0 (State.groupArm s q k) := by
  unfold State.groupArm
  apply State.run_kept
  · intro x0
    intro x1
    intro x2
    intro x3
    lift_lets -underBinder
    intro x4
    try clear_value x4
    intro x5
    try clear_value x5
    intro x6
    try clear_value x6
    apply Kept.ite
    · apply State.finish_kept
      assumption
    · split
      · apply State.finish_kept
        assumption
      · lift_lets -underBinder
        intro x7
        refine Kept.cut x7 ?_ (fun _ => ?_)
        · unfold x7
          clear x7
          apply State.modGrp_kept
          assumption
        clear_value x7
        apply Kept.ite
        · apply State.armed_kept
          assumption
        · assumption
  · assumption

theorem State.groupStart_kept {s0 s : State} (q : Nat) (k : Nat) (hk : Kept s0 s) :
    Kept s0 (State.groupStart s q k) := by
  unfold State.groupStart
  apply State.run_kept
  · intro x0
    intro x1
    intro x2
    intro x3
    lift_lets -underBinder
    intro x4
    try clear_value x4
    intro x5
    try clear_value x5
    intro x6
    try clear_value x6
    intro x7
    try clear_value x7
    intro x8
    try clear_value x8
    intro x9
    try clear_value x9
    apply Kept.ite
    · apply State.finish_kept
      assumption
    · apply Kept.ite
      · apply State.finish_kept
        assumption
      · apply Kept.ite
        · apply State.finish_kept
          assumption
        · split
          · apply State.finish_kept
            assumption
          · apply State.finish_kept
            assumption
          · apply Kept.ite
            · apply State.finish_kept
              assumption
            · apply State.lanesStart_kept
              apply State.modGrp_kept
              assumption
  · assumption

theorem State.groupStop_kept {s0 s : State} (q : Nat) (k : Nat) (hk : Kept s0 s) :
    Kept s0 (State.groupStop s q k) := by
  unfold State.groupStop
  apply State.run_kept
  · intro x0
    intro x1
    intro x2
    intro x3
    lift_lets -underBinder
    intro x4
    try clear_value x4
    intro x5
    try clear_value x5
    intro x6
    try clear_value x6
    intro x7
    try clear_value x7
    intro x8
    refine Kept.cut x8 ?_ (fun _ => ?_)
    · unfold x8
      clear x8
      apply Kept.ite
      · apply State.stopGroup_kept
        assumption
      · assumption
    clear_value x8
    apply Kept.ite
    · apply State.finish_kept
      assumption
    · apply Kept.ite
      · apply State.setGrp_kept
        assumption
      · apply State.finish_kept
        apply State.draw_kept
        assumption
  · assumption

theorem State.groupEnable_kept {s0 s : State} (g : Nat) (on : Bool) (hk : Kept s0 s) :
    Kept s0 (State.groupEnable s g on) := by
  unfold State.groupEnable
  apply Kept.ite
  · assumption
  · lift_lets -underBinder
    intro x0
    refine Kept.cut x0 ?_ (fun _ => ?_)
    · unfold x0
      clear x0
      apply State.slackRestart_kept
      apply State.wrb_kept
      assumption
    clear_value x0
    apply Kept.ite
    · apply Kept.ite
      · apply State.setGrp_kept
        assumption
      · assumption
    · apply Kept.ite
      · apply State.setGrp_kept
        assumption
      · apply Kept.ite
        · apply State.stopGroup_kept
          assumption
        · apply State.finishOpt_kept
          apply State.setGrp_kept
          assumption

theorem State.applyIlim_kept {s0 s : State} (w : Nat × Word) (hk : Kept s0 s) :
    Kept s0 (State.applyIlim s w) := by
  unfold State.applyIlim
  apply Kept.ite
  · split
    · apply State.wr_kept
      assumption
    · assumption
  · assumption

theorem State.dropStep_kept {s0 s : State} (off : Nat) (hk : Kept s0 s) :
    Kept s0 (State.dropStep s off) := by
  unfold State.dropStep
  split
  · apply State.wr64_kept
    assumption
  · apply State.wr64_kept
    assumption
  · assumption

theorem State.applyOne_kept {s0 s : State} (w : Nat × Word) (hk : Kept s0 s) :
    Kept s0 (State.applyOne s w) := by
  unfold State.applyOne
  apply State.dropStep_kept
  apply State.applyStaged_kept
  assumption

theorem State.applyNow_kept {s0 s : State} (ws : List (Nat × Word)) (hk : Kept s0 s) :
    Kept s0 (State.applyNow s ws) := by
  unfold State.applyNow
  apply Kept.foldl
  · intro x0
    intro x1
    intro x2
    apply State.confineAt_kept
    assumption
  · apply Kept.foldl
    · intro x3
      intro x4
      intro x5
      apply State.applyOne_kept
      assumption
    · assumption

theorem State.stage_kept {s0 s : State} (q : Nat) (k : Nat) (hk : Kept s0 s) :
    Kept s0 (State.stage s q k) := by
  unfold State.stage
  apply State.run_kept
  · intro x0
    intro x1
    intro x2
    intro x3
    lift_lets -underBinder
    intro x4
    try clear_value x4
    intro x5
    try clear_value x5
    intro x6
    try clear_value x6
    intro x7
    try clear_value x7
    apply Kept.ite
    · apply State.finish_kept
      assumption
    · split
      · apply State.finish_kept
        apply State.bump_kept
        assumption
      · split
        · apply State.finish_kept
          apply State.ignored_kept
          assumption
        · apply Kept.ite
          · split
            · apply State.finish_kept
              apply State.ignored_kept
              assumption
            · lift_lets -underBinder
              intro x8
              refine Kept.cut x8.2 ?_ (fun _ => ?_)
              · unfold x8
                clear x8
                apply State.draw_kept
                assumption
              clear_value x8
              apply Kept.ite
              · apply State.finish_kept
                apply State.applyNow_kept
                apply Kept.foldl
                · intro x9
                  intro x10
                  intro x11
                  apply State.applyIlim_kept
                  assumption
                · with_reducible assumption
              · apply State.finish_kept
                apply State.applyNow_kept
                apply Kept.foldl
                · intro x12
                  intro x13
                  intro x14
                  apply State.applyIlim_kept
                  assumption
                · assumption
          · apply Kept.ite
            · apply State.finish_kept
              assumption
            · apply Kept.ite
              · apply State.finish_kept
                assumption
              · lift_lets -underBinder
                intro x15
                refine Kept.cut x15 ?_ (fun _ => ?_)
                · unfold x15
                  clear x15
                  apply Kept.foldl
                  · intro x16
                    intro x17
                    intro x18
                    apply State.applyIlim_kept
                    assumption
                  · assumption
                clear_value x15
                apply Kept.ite
                · apply State.releaseSet_kept
                  apply State.modGrp_kept
                  assumption
                · apply Kept.ite
                  · apply State.finish_kept
                    apply State.addition_kept
                    assumption
                  · apply State.addition_kept
                    assumption
  · assumption

theorem State.commit_kept {s0 s : State} (q : Nat) (k : Nat) (hk : Kept s0 s) :
    Kept s0 (State.commit s q k) := by
  unfold State.commit
  apply State.run_kept
  · intro x0
    intro x1
    intro x2
    intro x3
    lift_lets -underBinder
    intro x4
    try clear_value x4
    intro x5
    try clear_value x5
    apply Kept.ite
    · apply State.finish_kept
      assumption
    · apply Kept.ite
      · apply State.finish_kept
        assumption
      · apply State.releaseSet_kept
        assumption
  · assumption

theorem State.stageCtl_kept {s0 s : State} (g : Nat) (v : Word) (hk : Kept s0 s) :
    Kept s0 (State.stageCtl s g v) := by
  unfold State.stageCtl
  lift_lets -underBinder
  intro x0
  refine Kept.cut x0 ?_ (fun _ => ?_)
  · unfold x0
    clear x0
    apply Kept.ite
    · apply State.modGrp_kept
      assumption
    · assumption
  clear_value x0
  apply Kept.ite
  · apply State.releaseSet_kept
    apply State.wrb_kept
    assumption
  · apply State.wrb_kept
    assumption

theorem State.forceJump_kept {s0 s : State} (q : Nat) (k : Nat) (hk : Kept s0 s) :
    Kept s0 (State.forceJump s q k) := by
  unfold State.forceJump
  apply State.run_kept
  · intro x0
    intro x1
    intro x2
    intro x3
    lift_lets -underBinder
    intro x4
    try clear_value x4
    intro x5
    try clear_value x5
    intro x6
    try clear_value x6
    apply Kept.ite
    · apply State.finish_kept
      assumption
    · apply Kept.ite
      · apply State.finish_kept
        apply State.bump_kept
        assumption
      · apply State.setGrp_kept
        assumption
  · assumption

theorem State.targetHeld_kept {s0 s : State} (g : Nat) (e : Nat) (t : Nat) (hk : Kept s0 s) :
    Kept s0 (State.targetHeld s g e t) := by
  unfold State.targetHeld
  lift_lets -underBinder
  intro x0
  refine Kept.cut x0 ?_ (fun _ => ?_)
  · unfold x0
    clear x0
    apply State.reach_kept
    assumption
  clear_value x0
  apply Kept.ite
  · apply State.setGrp_kept
    assumption
  · apply Kept.ite
    · apply State.armed_kept
      apply State.modGrp_kept
      apply State.setGrp_kept
      assumption
    · apply State.modGrp_kept
      apply State.setGrp_kept
      assumption

theorem State.atSample_kept {s0 s : State} (g : Nat) (t : Nat) (f : State → State) (hf : ∀ (x0 : State), Kept s0 x0 → Kept s0 (f x0)) (hk : Kept s0 s) :
    Kept s0 (State.atSample s g t f) := by
  unfold State.atSample
  lift_lets -underBinder
  intro x0
  try clear_value x0
  apply Kept.ite
  · apply hf
    apply State.foreseeStep_kept
    apply State.reach_kept
    apply State.svCatchUp_kept
    assumption
  · assumption

theorem State.underrunAt_kept {s0 s : State} (g : Nat) (cause : Nat) (t : Nat) (hk : Kept s0 s) :
    Kept s0 (State.underrunAt s g cause t) := by
  unfold State.underrunAt
  apply Kept.ite
  · apply State.underrun_kept
    apply State.reach_kept
    assumption
  · assumption

theorem State.gfenceClr_kept {s0 s : State} (m : Nat) (hk : Kept s0 s) :
    Kept s0 (State.gfenceClr s m) := by
  unfold State.gfenceClr
  simp only [Kept.upd]
  assumption

end Sys2Proof.Machine
end

