-- ==== Sys2Proof/Laws/KeepNet.lean ====
section
/-! SUPPORT. The operations of Machine/Net.lean keep the waiting commands and the canonical form. -/
set_option linter.unusedVariables false
namespace Sys2Proof.Machine

theorem State.ptpPortState_kept {s0 s : State} (hk : Kept s0 s) :
    Kept s0 (State.ptpPortState s) := by
  unfold State.ptpPortState
  simp only [Kept.upd]
  assumption

theorem State.ethLinkUp_kept {s0 s : State} (p : Nat) (hk : Kept s0 s) :
    Kept s0 (State.ethLinkUp s p) := by
  unfold State.ethLinkUp
  lift_lets -underBinder
  intro x0
  try clear_value x0
  intro x1
  refine Kept.cut x1 ?_ (fun _ => ?_)
  · unfold x1
    clear x1
    apply State.setNetp_kept
    assumption
  clear_value x1
  apply Kept.ite
  · apply Kept.ite
    · apply State.ptpPortState_kept
      assumption
    · assumption
  · assumption

theorem State.ethLinkDown_kept {s0 s : State} (p : Nat) (hk : Kept s0 s) :
    Kept s0 (State.ethLinkDown s p) := by
  unfold State.ethLinkDown
  lift_lets -underBinder
  intro x0
  try clear_value x0
  intro x1
  refine Kept.cut x1 ?_ (fun _ => ?_)
  · unfold x1
    clear x1
    apply State.irqIf_kept
    apply State.bump_kept
    apply State.setNetp_kept
    assumption
  clear_value x1
  apply Kept.ite
  · apply Kept.ite
    · apply State.ptpPortState_kept
      assumption
    · assumption
  · assumption

theorem State.netPortEn_kept {s0 s : State} (p : Nat) (on : Bool) (hk : Kept s0 s) :
    Kept s0 (State.netPortEn s p on) := by
  unfold State.netPortEn
  apply Kept.ite
  · apply State.modNetp_kept
    assumption
  · apply State.modNetp_kept
    apply State.ethLinkDown_kept
    assumption

theorem State.frameDiscard_kept {s0 s : State} (p : Nat) (err : Bool) (hk : Kept s0 s) :
    Kept s0 (State.frameDiscard s p err) := by
  unfold State.frameDiscard
  apply Kept.ite
  · lift_lets -underBinder
    intro x0
    refine Kept.cut x0 ?_ (fun _ => ?_)
    · unfold x0
      clear x0
      apply State.bump_kept
      assumption
    clear_value x0
    apply Kept.ite
    · apply State.bump_kept
      assumption
    · apply State.bump_kept
      assumption
  · assumption

theorem State.svConfig_kept {s0 s : State} (q : Nat) (k : Nat) (hk : Kept s0 s) :
    Kept s0 (State.svConfig s q k) := by
  unfold State.svConfig
  apply State.run_kept
  · intro x0
    intro x1
    intro x2
    intro x3
    lift_lets -underBinder
    intro x4
    try clear_value x4
    intro x5
    try clear_value x5
    intro x6
    try clear_value x6
    intro x7
    try clear_value x7
    intro x8
    refine Kept.cut x8 ?_ (fun _ => ?_)
    · unfold x8
      clear x8
      apply Kept.ite
      · assumption
      · apply State.slackRestart_kept
        assumption
    clear_value x8
    apply Kept.ite
    · apply State.finish_kept
      assumption
    · apply Kept.ite
      · apply State.finish_kept
        assumption
      · apply Kept.ite
        · apply State.finish_kept
          assumption
        · apply State.finish_kept
          apply State.setSv_kept
          assumption
  · assumption

theorem State.svStreamStart_kept {s0 s : State} (st : Nat) (hk : Kept s0 s) :
    Kept s0 (State.svStreamStart s st) := by
  unfold State.svStreamStart
  lift_lets -underBinder
  intro x0
  try clear_value x0
  intro x1
  try clear_value x1
  apply Kept.ite
  · apply State.setSv_kept
    apply State.reach_kept
    assumption
  · assumption

theorem State.svUnderruns_kept {s0 s : State} (st : Nat) (missing : List (Nat × Nat)) (hk : Kept s0 s) :
    Kept s0 (State.svUnderruns s st missing) := by
  unfold State.svUnderruns
  lift_lets -underBinder
  intro x0
  try clear_value x0
  apply Kept.ite
  · assumption
  · apply Kept.foldl
    · intro x1
      intro x2
      intro x3
      apply Kept.ite
      · apply State.underrun_kept
        assumption
      · assumption
    · apply State.bump_kept
      assumption

theorem State.netSettle_kept {s0 s : State} (hk : Kept s0 s) :
    Kept s0 (State.netSettle s) := by
  unfold State.netSettle
  apply Kept.ite
  · apply State.setRunning_kept
    assumption
  · assumption

theorem State.svAfter_kept {s0 s : State} (st : Nat) (hk : Kept s0 s) :
    Kept s0 (State.svAfter s st) := by
  unfold State.svAfter
  lift_lets -underBinder
  intro x0
  try clear_value x0
  intro x1
  refine Kept.cut x1 ?_ (fun _ => ?_)
  · unfold x1
    clear x1
    split
    · apply State.setSv_kept
      assumption
    · apply Kept.ite
      · assumption
      · apply State.setSv_kept
        assumption
  clear_value x1
  apply State.netSettle_kept
  assumption

theorem State.svFrame_kept {s0 s : State} (st : Nat) (missing : List (Nat × Nat)) (hk : Kept s0 s) :
    Kept s0 (State.svFrame s st missing) := by
  unfold State.svFrame
  lift_lets -underBinder
  intro x0
  try clear_value x0
  intro x1
  try clear_value x1
  intro x2
  try clear_value x2
  intro x3
  try clear_value x3
  intro x4
  refine Kept.cut x4 ?_ (fun _ => ?_)
  · unfold x4
    clear x4
    apply State.reach_kept
    apply State.svTo_kept
    assumption
  clear_value x4
  apply Kept.ite
  · apply Kept.ite
    · apply State.svAfter_kept
      apply Kept.ite
      · apply State.wr_kept
        apply State.bump_kept
        apply State.bump_kept
        apply State.put_kept
        apply State.svUnderruns_kept
        apply State.setSv_kept
        assumption
      · apply State.bump_kept
        apply State.svUnderruns_kept
        apply State.setSv_kept
        assumption
    · assumption
  · assumption

theorem State.gooseSub_kept {s0 s : State} (q : Nat) (k : Nat) (hk : Kept s0 s) :
    Kept s0 (State.gooseSub s q k) := by
  unfold State.gooseSub
  apply State.run_kept
  · intro x0
    intro x1
    intro x2
    intro x3
    lift_lets -underBinder
    intro x4
    try clear_value x4
    intro x5
    try clear_value x5
    intro x6
    try clear_value x6
    intro x7
    try clear_value x7
    intro x8
    try clear_value x8
    intro x9
    try clear_value x9
    intro x10
    refine Kept.cut x10 ?_ (fun _ => ?_)
    · unfold x10
      clear x10
      apply Kept.ite
      · assumption
      · apply State.slackRestart_kept
        assumption
    clear_value x10
    apply Kept.ite
    · apply State.finish_kept
      assumption
    · apply Kept.ite
      · apply State.finish_kept
        assumption
      · apply State.finish_kept
        apply State.setGs_kept
        assumption
  · assumption

theorem State.gooseAccept_kept {s0 s : State} (d : Nat) (t : Nat) (f : GooseFrame) (bs : List Bool) (events : Bool) (hk : Kept s0 s) :
    Kept s0 (State.gooseAccept s d t f bs events) := by
  unfold State.gooseAccept
  lift_lets -underBinder
  intro x0
  try clear_value x0
  intro x1
  try clear_value x1
  intro x2
  refine Kept.cut x2 ?_ (fun _ => ?_)
  · unfold x2
    clear x2
    apply State.bump_kept
    apply State.setGs_kept
    assumption
  clear_value x2
  apply Kept.ite
  · apply Kept.foldl
    · intro x3
      intro x4
      intro x5
      lift_lets -underBinder
      intro x6
      try clear_value x6
      apply Kept.ite
      · apply State.event_kept
        assumption
      · assumption
    · assumption
  · assumption

theorem State.gooseJudge_kept {s0 s : State} (d : Nat) (t : Nat) (f : GooseFrame) (bs : List Bool) (hk : Kept s0 s) :
    Kept s0 (State.gooseJudge s d t f bs) := by
  unfold State.gooseJudge
  lift_lets -underBinder
  intro x0
  try clear_value x0
  intro x1
  try clear_value x1
  intro x2
  try clear_value x2
  intro x3
  refine Kept.cut x3 ?_ (fun _ => ?_)
  · unfold x3
    clear x3
    apply State.bump_kept
    assumption
  clear_value x3
  apply Kept.ite
  · apply State.gooseAccept_kept
    assumption
  · apply Kept.ite
    · apply State.gooseAccept_kept
      assumption
    · apply Kept.ite
      · apply State.gooseAccept_kept
        assumption
      · apply Kept.ite
        · apply Kept.ite
          · apply Kept.ite
            · apply State.bump_kept
              apply State.setGs_kept
              assumption
            · apply State.setGs_kept
              assumption
          · assumption
        · apply Kept.ite
          · apply State.gooseAccept_kept
            apply Kept.ite
            · apply State.bump_kept
              assumption
            · assumption
          · assumption

theorem State.gooseMatched_kept {s0 s : State} (d : Nat) (t : Nat) (f : GooseFrame) (hk : Kept s0 s) :
    Kept s0 (State.gooseMatched s d t f) := by
  unfold State.gooseMatched
  lift_lets -underBinder
  intro x0
  try clear_value x0
  intro x1
  try clear_value x1
  intro x2
  refine Kept.cut x2 ?_ (fun _ => ?_)
  · unfold x2
    clear x2
    apply Kept.ite
    · apply State.setGs_kept
      assumption
    · assumption
  clear_value x2
  split
  · apply Kept.ite
    · apply State.bump_kept
      assumption
    · apply State.gooseJudge_kept
      assumption
  · apply State.bump_kept
    assumption

theorem State.gooseFrame_kept {s0 s : State} (f : GooseFrame) (t : Nat) (hk : Kept s0 s) :
    Kept s0 (State.gooseFrame s f t) := by
  unfold State.gooseFrame
  lift_lets -underBinder
  intro x0
  try clear_value x0
  intro x1
  refine Kept.cut x1 ?_ (fun _ => ?_)
  · unfold x1
    clear x1
    apply State.bump_kept
    apply State.reach_kept
    assumption
  clear_value x1
  apply Kept.ite
  · apply Kept.ite
    · apply State.bump_kept
      assumption
    · apply Kept.foldl
      · intro x2
        intro x3
        intro x4
        apply State.gooseMatched_kept
        assumption
      · assumption
  · assumption

theorem State.gooseExpire_kept {s0 s : State} (d : Nat) (hk : Kept s0 s) :
    Kept s0 (State.gooseExpire s d) := by
  unfold State.gooseExpire
  lift_lets -underBinder
  intro x0
  try clear_value x0
  intro x1
  refine Kept.cut x1 ?_ (fun _ => ?_)
  · unfold x1
    clear x1
    apply State.bump_kept
    apply State.setGs_kept
    apply State.reach_kept
    assumption
  clear_value x1
  apply Kept.ite
  · apply State.event_kept
    assumption
  · assumption

theorem State.ptpStart_kept {s0 s : State} (hk : Kept s0 s) :
    Kept s0 (State.ptpStart s) := by
  unfold State.ptpStart
  apply Kept.ite
  · apply State.ptpPortState_kept
    simp only [Kept.upd]
    assumption
  · assumption

theorem State.ptpStop_kept {s0 s : State} (hk : Kept s0 s) :
    Kept s0 (State.ptpStop s) := by
  unfold State.ptpStop
  apply Kept.ite
  · simp only [Kept.upd]
    assumption
  · assumption

theorem State.ptpConfig_kept {s0 s : State} (q : Nat) (k : Nat) (hk : Kept s0 s) :
    Kept s0 (State.ptpConfig s q k) := by
  unfold State.ptpConfig
  apply State.run_kept
  · intro x0
    intro x1
    intro x2
    intro x3
    lift_lets -underBinder
    intro x4
    try clear_value x4
    intro x5
    try clear_value x5
    intro x6
    try clear_value x6
    apply Kept.ite
    · apply State.finish_kept
      assumption
    · apply Kept.ite
      · apply State.finish_kept
        assumption
      · apply Kept.ite
        · apply State.finish_kept
          assumption
        · apply Kept.ite
          · apply State.finish_kept
            assumption
          · apply Kept.ite
            · apply State.finish_kept
              assumption
            · apply State.finish_kept
              apply State.ptpStart_kept
              simp only [Kept.upd]
              assumption
  · assumption

theorem State.ptpSend_kept {s0 s : State} (kind : Nat) (seq : Nat) (hk : Kept s0 s) :
    Kept s0 (State.ptpSend s kind seq) := by
  unfold State.ptpSend
  apply State.bump_kept
  apply State.put_kept
  assumption

theorem State.ptpSendAnnounce_kept {s0 s : State} (seq : Nat) (hk : Kept s0 s) :
    Kept s0 (State.ptpSendAnnounce s seq) := by
  unfold State.ptpSendAnnounce
  apply State.bump_kept
  apply State.put_kept
  assumption

theorem State.ptpSync_kept {s0 s : State} (off : Int) (hk : Kept s0 s) :
    Kept s0 (State.ptpSync s off) := by
  unfold State.ptpSync
  apply Kept.ite
  · lift_lets -underBinder
    intro x0
    refine Kept.cut x0 ?_ (fun _ => ?_)
    · unfold x0
      clear x0
      apply State.bump_kept
      assumption
    clear_value x0
    apply Kept.ite
    · apply Kept.ite
      · apply State.correct_kept
        apply Kept.ite
        · simp only [Kept.upd]
          apply Kept.ite
          · simp only [Kept.upd]
            apply State.wr_kept
            apply State.bump_kept
            simp only [Kept.upd]
            assumption
          · apply Kept.ite
            · apply State.ptpUnlock_kept
              apply State.wr_kept
              apply State.bump_kept
              simp only [Kept.upd]
              assumption
            · apply State.wr_kept
              apply State.bump_kept
              simp only [Kept.upd]
              assumption
        · apply Kept.ite
          · simp only [Kept.upd]
            apply State.wr_kept
            apply State.bump_kept
            simp only [Kept.upd]
            assumption
          · apply Kept.ite
            · apply State.ptpUnlock_kept
              apply State.wr_kept
              apply State.bump_kept
              simp only [Kept.upd]
              assumption
            · apply State.wr_kept
              apply State.bump_kept
              simp only [Kept.upd]
              assumption
      · apply Kept.ite
        · simp only [Kept.upd]
          apply State.wr_kept
          apply State.bump_kept
          simp only [Kept.upd]
          assumption
        · apply Kept.ite
          · apply State.ptpUnlock_kept
            apply State.wr_kept
            apply State.bump_kept
            simp only [Kept.upd]
            assumption
          · apply State.wr_kept
            apply State.bump_kept
            simp only [Kept.upd]
            assumption
    · assumption
  · assumption

theorem State.ptpAnnounce_kept {s0 s : State} (a : Announce) (hk : Kept s0 s) :
    Kept s0 (State.ptpAnnounce s a) := by
  unfold State.ptpAnnounce
  apply Kept.ite
  · lift_lets -underBinder
    intro x0
    refine Kept.cut x0 ?_ (fun _ => ?_)
    · unfold x0
      clear x0
      apply State.bump_kept
      assumption
    clear_value x0
    apply Kept.ite
    · apply State.bump_kept
      simp only [Kept.upd]
      assumption
    · apply Kept.ite
      · apply Kept.ite
        · apply State.wr_kept
          apply State.wr_kept
          apply State.wr_kept
          simp only [Kept.upd]
          assumption
        · apply State.wr_kept
          apply State.wr_kept
          simp only [Kept.upd]
          assumption
      · assumption
  · assumption

theorem State.ptpPdelay_kept {s0 s : State} (resp : Option Nat) (hk : Kept s0 s) :
    Kept s0 (State.ptpPdelay s resp) := by
  unfold State.ptpPdelay
  apply Kept.ite
  · lift_lets -underBinder
    intro x0
    refine Kept.cut x0 ?_ (fun _ => ?_)
    · unfold x0
      clear x0
      apply State.bump_kept
      assumption
    clear_value x0
    split
    · apply State.wr_kept
      simp only [Kept.upd]
      assumption
    · lift_lets -underBinder
      intro x1
      refine Kept.cut x1 ?_ (fun _ => ?_)
      · unfold x1
        clear x1
        apply State.ptpSend_kept
        assumption
      clear_value x1
      apply Kept.ite
      · assumption
      · apply State.ptpSend_kept
        assumption
  · assumption

theorem State.ptpInterval_kept {s0 s : State} (hk : Kept s0 s) :
    Kept s0 (State.ptpInterval s) := by
  unfold State.ptpInterval
  apply Kept.ite
  · lift_lets -underBinder
    intro x0
    try clear_value x0
    intro x1
    refine Kept.cut x1 ?_ (fun _ => ?_)
    · unfold x1
      clear x1
      apply Kept.ite
      · apply State.bump_kept
        assumption
      · assumption
    clear_value x1
    apply Kept.ite
    · simp only [Kept.upd]
      apply State.ptpSendAnnounce_kept
      apply Kept.ite
      · apply State.ptpSend_kept
        apply State.ptpSend_kept
        assumption
      · apply State.ptpSend_kept
        apply State.ptpSend_kept
        apply State.ptpSend_kept
        assumption
    · simp only [Kept.upd]
      apply State.ptpSend_kept
      assumption
  · assumption

theorem State.announceTimeout_kept {s0 s : State} (hk : Kept s0 s) :
    Kept s0 (State.announceTimeout s) := by
  unfold State.announceTimeout
  apply Kept.ite
  · simp only [Kept.upd]
    assumption
  · assumption

theorem State.netStart_kept {s0 s : State} (hk : Kept s0 s) :
    Kept s0 (State.netStart s) := by
  unfold State.netStart
  apply State.ptpStart_kept
  apply State.setRunning_kept
  assumption

theorem State.netStop_kept {s0 s : State} (hk : Kept s0 s) :
    Kept s0 (State.netStop s) := by
  unfold State.netStop
  lift_lets -underBinder
  intro x0
  refine Kept.cut x0 ?_ (fun _ => ?_)
  · unfold x0
    clear x0
    simp only [Kept.upd]
    refine Kept.mk ?_ (fun ⟨h0, h1, h2, h3, h4, h5, h6, h7, h8, h9, h10, h11, h12, h13, h14, h15, h16, h17, h18, h19, h20, h21, h22⟩ => ⟨h0, h1, h2, h3, h4, h5, h6, h7, h8, h9, h10, h11, h12, h13, h14, h15, h16, h17, h18, (by first | exact h19 | exact Kept.fsts (fun _ => Eq.refl _) h19), (by first | exact h20 | exact Kept.fsts (fun _ => Eq.refl _) h20), h21, h22⟩)
    assumption
  clear_value x0
  apply State.netSettle_kept
  apply State.ptpStop_kept
  simp only [Kept.upd]
  refine Kept.mk ?_ (fun ⟨h0, h1, h2, h3, h4, h5, h6, h7, h8, h9, h10, h11, h12, h13, h14, h15, h16, h17, h18, h19, h20, h21, h22⟩ => ⟨h0, h1, h2, h3, h4, h5, h6, h7, h8, h9, h10, h11, h12, h13, h14, h15, h16, h17, h18, (by first | exact h19 | exact Kept.fsts (fun _ => Eq.refl _) h19), (by first | exact h20 | exact Kept.fsts (fun _ => Eq.refl _) h20), h21, h22⟩)
  assumption

end Sys2Proof.Machine
end

