-- ==== Sys2Proof/Laws/KeepLink.lean ====
section
/-! SUPPORT. The operations of Machine/Link.lean keep the waiting commands and the canonical form. -/
set_option linter.unusedVariables false
namespace Sys2Proof.Machine

theorem State.nakOnce_kept {s0 s : State} (p : Nat) (hk : Kept s0 s) :
    Kept s0 (State.nakOnce s p) := by
  unfold State.nakOnce
  lift_lets -underBinder
  intro x0
  try clear_value x0
  apply Kept.ite
  · apply State.sendCtl_kept
    apply State.setPort_kept
    assumption
  · assumption

theorem State.ackCredit_kept {s0 s : State} (p : Nat) (f : List Byte) (hk : Kept s0 s) :
    Kept s0 (State.ackCredit s p f) := by
  unfold State.ackCredit
  lift_lets -underBinder
  intro x0
  try clear_value x0
  intro x1
  try clear_value x1
  intro x2
  try clear_value x2
  intro x3
  try clear_value x3
  intro x4
  try clear_value x4
  intro x5
  try clear_value x5
  intro x6
  refine Kept.cut x6 ?_ (fun _ => ?_)
  · unfold x6
    clear x6
    apply State.setPort_kept
    assumption
  clear_value x6
  apply Kept.ite
  · apply State.pump_kept
    apply Kept.ite
    · apply State.transient_kept
      assumption
    · assumption
  · apply Kept.ite
    · apply State.transient_kept
      assumption
    · assumption

theorem State.rx_kept {s0 s : State} (p : Nat) (ty : Nat) (f : List Byte) (body : State → State) (hbody : ∀ (x0 : State), Kept s0 x0 → Kept s0 (body x0)) (hk : Kept s0 s) :
    Kept s0 (State.rx s p ty f body) := by
  unfold State.rx
  apply Kept.ite
  · assumption
  · apply Kept.ite
    · apply State.nakOnce_kept
      apply State.bump_kept
      assumption
    · apply Kept.ite
      · apply State.bump_kept
        assumption
      · apply Kept.ite
        · assumption
        · apply hbody
          apply State.ackCredit_kept
          assumption

theorem State.portIrq_kept {s0 s : State} (p : Nat) (hk : Kept s0 s) :
    Kept s0 (State.portIrq s p) := by
  unfold State.portIrq
  apply Kept.ite
  · apply State.irq_kept
    assumption
  · assumption

theorem State.signalPresent_kept {s0 s : State} (p : Nat) (hk : Kept s0 s) :
    Kept s0 (State.signalPresent s p) := by
  unfold State.signalPresent
  apply Kept.ite
  · apply State.modPort_kept
    assumption
  · assumption

theorem State.sendInit_kept {s0 s : State} (p : Nat) (hk : Kept s0 s) :
    Kept s0 (State.sendInit s p) := by
  unfold State.sendInit
  apply State.sendCtl_kept
  assumption

theorem State.flitLock_kept {s0 s : State} (p : Nat) (hk : Kept s0 s) :
    Kept s0 (State.flitLock s p) := by
  unfold State.flitLock
  lift_lets -underBinder
  intro x0
  try clear_value x0
  apply Kept.ite
  · apply State.sendInit_kept
    apply State.setPort_kept
    assumption
  · apply Kept.ite
    · apply State.sendInit_kept
      assumption
    · assumption

theorem State.dropRoutes_kept {s0 s : State} (p : Nat) (hk : Kept s0 s) :
    Kept s0 (State.dropRoutes s p) := by
  unfold State.dropRoutes
  simp only [Kept.upd]
  assumption

theorem State.dropForwarded_kept {s0 s : State} (p : Nat) (hk : Kept s0 s) :
    Kept s0 (State.dropForwarded s p) := by
  unfold State.dropForwarded
  apply Kept.foldl
  · intro x0
    intro x1
    intro x2
    apply Kept.foldl
    · intro x3
      intro x4
      intro x5
      apply Kept.ite
      · apply State.decide1_kept
        assumption
      · assumption
    · assumption
  · assumption

theorem State.loseAddress_kept {s0 s : State} (hk : Kept s0 s) :
    Kept s0 (State.loseAddress s) := by
  unfold State.loseAddress
  apply Kept.ite
  · lift_lets -underBinder
    intro x0
    refine Kept.cut x0 ?_ (fun _ => ?_)
    · unfold x0
      clear x0
      apply State.wr_kept
      assumption
    clear_value x0
    apply Kept.foldl
    · intro x1
      intro x2
      intro x3
      apply State.sendInit_kept
      assumption
    · simp only [Kept.upd]
      assumption
  · simp only [Kept.upd]
    assumption

theorem State.linkDown_kept {s0 s : State} (p : Nat) (hk : Kept s0 s) :
    Kept s0 (State.linkDown s p) := by
  unfold State.linkDown
  lift_lets -underBinder
  intro x0
  try clear_value x0
  intro x1
  try clear_value x1
  intro x2
  refine Kept.cut x2 ?_ (fun _ => ?_)
  · unfold x2
    clear x2
    apply Kept.ite
    · apply State.dropForwarded_kept
      apply State.portIrq_kept
      apply State.bump_kept
      assumption
    · assumption
  clear_value x2
  apply Kept.ite
  · assumption
  · apply Kept.ite
    · apply State.setPort_kept
      assumption
    · apply Kept.ite
      · simp only [Kept.upd]
        apply State.loseAddress_kept
        apply State.setPort_kept
        assumption
      · apply Kept.ite
        · apply State.bump_kept
          apply State.dropRoutes_kept
          apply State.setPort_kept
          assumption
        · apply Kept.ite
          · apply Kept.foldl
            · intro x3
              intro x4
              intro x5
              apply State.sendInternal_kept
              assumption
            · apply State.dropRoutes_kept
              apply State.setPort_kept
              assumption
          · apply State.dropRoutes_kept
            apply State.setPort_kept
            assumption

theorem State.retrain_kept {s0 s : State} (p : Nat) (lasting : Bool) (hk : Kept s0 s) :
    Kept s0 (State.retrain s p lasting) := by
  unfold State.retrain
  lift_lets -underBinder
  intro x0
  refine Kept.cut x0 ?_ (fun _ => ?_)
  · unfold x0
    clear x0
    apply State.bump_kept
    apply State.modPort_kept
    assumption
  clear_value x0
  apply Kept.ite
  · apply State.lasting_kept
    assumption
  · apply State.logErr_kept
    assumption

theorem State.blockLoss_kept {s0 s : State} (p : Nat) (hk : Kept s0 s) :
    Kept s0 (State.blockLoss s p) := by
  unfold State.blockLoss
  lift_lets -underBinder
  intro x0
  try clear_value x0
  apply Kept.ite
  · apply State.retrain_kept
    assumption
  · apply Kept.ite
    · apply State.setPort_kept
      assumption
    · assumption

theorem State.retrainTimeout_kept {s0 s : State} (p : Nat) (hk : Kept s0 s) :
    Kept s0 (State.retrainTimeout s p) := by
  unfold State.retrainTimeout
  apply Kept.ite
  · apply State.lasting_kept
    apply State.linkDown_kept
    assumption
  · assumption

theorem State.resend_kept {s0 s : State} (p : Nat) (hk : Kept s0 s) :
    Kept s0 (State.resend s p) := by
  unfold State.resend
  apply Kept.foldl
  · intro x0
    intro x1
    intro x2
    apply State.sendFlit_kept
    assumption
  · assumption

theorem State.replay_kept {s0 s : State} (p : Nat) (hk : Kept s0 s) :
    Kept s0 (State.replay s p) := by
  unfold State.replay
  lift_lets -underBinder
  intro x0
  try clear_value x0
  apply Kept.ite
  · assumption
  · apply Kept.ite
    · apply State.retrain_kept
      assumption
    · apply State.resend_kept
      apply State.bump_kept
      apply State.setPort_kept
      assumption

theorem State.replayTimeout_kept {s0 s : State} (p : Nat) (hk : Kept s0 s) :
    Kept s0 (State.replayTimeout s p) := by
  unfold State.replayTimeout
  apply State.replay_kept
  assumption

theorem State.nak_kept {s0 s : State} (p : Nat) (f : List Byte) (hk : Kept s0 s) :
    Kept s0 (State.nak s p f) := by
  unfold State.nak
  apply State.rx_kept
  · intro x0
    intro x1
    apply State.replay_kept
    assumption
  · assumption

theorem State.nullFlit_kept {s0 s : State} (p : Nat) (f : List Byte) (hk : Kept s0 s) :
    Kept s0 (State.nullFlit s p f) := by
  unfold State.nullFlit
  apply State.rx_kept
  · intro x0
    intro x1
    assumption
  · assumption

theorem State.sendJoin_kept {s0 s : State} (p : Nat) (inst : Nat) (hk : Kept s0 s) :
    Kept s0 (State.sendJoin s p inst) := by
  unfold State.sendJoin
  apply State.sendInternal_kept
  assumption

theorem State.setRoute_kept {s0 s : State} (a : Nat) (v : Nat) (hk : Kept s0 s) :
    Kept s0 (State.setRoute s a v) := by
  unfold State.setRoute
  simp only [Kept.upd]
  assumption

theorem State.grantChild_kept {s0 s : State} (p : Nat) (a : Nat) (hk : Kept s0 s) :
    Kept s0 (State.grantChild s p a) := by
  unfold State.grantChild
  lift_lets -underBinder
  intro x0
  refine Kept.cut x0 ?_ (fun _ => ?_)
  · unfold x0
    clear x0
    apply State.modPort_kept
    apply State.setRoute_kept
    assumption
  clear_value x0
  apply State.sendLink_kept
  assumption

theorem State.joinAtRoot_kept {s0 s : State} (parent : Nat) (port : Nat) (hk : Kept s0 s) :
    Kept s0 (State.joinAtRoot s parent port) := by
  unfold State.joinAtRoot
  lift_lets -underBinder
  intro x0
  refine Kept.cut x0 ?_ (fun _ => ?_)
  · unfold x0
    clear x0
    apply State.bump_kept
    assumption
  clear_value x0
  apply Kept.ite
  · split
    · apply Kept.ite
      · apply State.grantChild_kept
        assumption
      · split
        · apply State.sendInternal_kept
          apply State.setRoute_kept
          assumption
        · assumption
    · assumption
  · assumption

theorem State.reportJoin_kept {s0 s : State} (p : Nat) (inst : Nat) (hk : Kept s0 s) :
    Kept s0 (State.reportJoin s p inst) := by
  unfold State.reportJoin
  apply Kept.ite
  · apply State.joinAtRoot_kept
    assumption
  · apply State.sendJoin_kept
    assumption

theorem State.initFlit_kept {s0 s : State} (p : Nat) (f : List Byte) (hk : Kept s0 s) :
    Kept s0 (State.initFlit s p f) := by
  unfold State.initFlit
  apply State.rx_kept
  · intro x0
    intro x1
    lift_lets -underBinder
    intro x2
    try clear_value x2
    intro x3
    try clear_value x3
    intro x4
    try clear_value x4
    intro x5
    refine Kept.cut x5 ?_ (fun _ => ?_)
    · unfold x5
      clear x5
      apply State.resend_kept
      apply State.setPort_kept
      assumption
    clear_value x5
    apply Kept.ite
    · apply Kept.ite
      · apply State.setPort_kept
        assumption
      · assumption
    · apply Kept.ite
      · apply Kept.ite
        · apply State.pump_kept
          assumption
        · apply State.linkDown_kept
          assumption
      · apply Kept.ite
        · apply Kept.ite
          · apply State.loseAddress_kept
            apply State.setPort_kept
            assumption
          · apply State.setPort_kept
            assumption
        · apply Kept.ite
          · apply State.reportJoin_kept
            apply State.setPort_kept
            assumption
          · apply State.setPort_kept
            assumption
  · assumption

theorem State.deliverMsg_kept {s0 s : State} (m : Msg) (hk : Kept s0 s) :
    Kept s0 (State.deliverMsg s m) := by
  unfold State.deliverMsg
  apply Kept.ite
  · apply State.bump_kept
    assumption
  · apply Kept.ite
    · assumption
    · simp only [Kept.upd]
      assumption

theorem State.fragment_kept {s0 s : State} (p : Nat) (vc : Nat) (body : List Byte) (hk : Kept s0 s) :
    Kept s0 (State.fragment s p vc body) := by
  unfold State.fragment
  lift_lets -underBinder
  intro x0
  try clear_value x0
  intro x1
  try clear_value x1
  intro x2
  try clear_value x2
  intro x3
  try clear_value x3
  intro x4
  try clear_value x4
  intro x5
  split
  · assumption
  · apply Kept.ite
    · apply State.deliverMsg_kept
      unfold x5
      apply State.setPort_kept
      assumption
    · unfold x5
      apply State.setPort_kept
      assumption

theorem State.eventRecord_kept {s0 s : State} (p : Nat) (body : List Byte) (hk : Kept s0 s) :
    Kept s0 (State.eventRecord s p body) := by
  unfold State.eventRecord
  lift_lets -underBinder
  intro x0
  refine Kept.cut x0 ?_ (fun _ => ?_)
  · unfold x0
    clear x0
    apply State.flood_kept
    assumption
  clear_value x0
  apply Kept.ite
  · apply Kept.ite
    · apply State.deliver_kept
      apply State.bump_kept
      assumption
    · apply State.bump_kept
      assumption
  · simp only [Kept.upd]
    assumption

theorem State.record_kept {s0 s : State} (p : Nat) (body : List Byte) (hk : Kept s0 s) :
    Kept s0 (State.record s p body) := by
  unfold State.record
  split
  · apply State.eventRecord_kept
    assumption
  · simp only [Kept.upd]
    assumption
  · simp only [Kept.upd]
    assumption
  · assumption

theorem State.dataFlit_kept {s0 s : State} (p : Nat) (f : List Byte) (hk : Kept s0 s) :
    Kept s0 (State.dataFlit s p f) := by
  unfold State.dataFlit
  apply State.rx_kept
  · intro x0
    intro x1
    lift_lets -underBinder
    intro x2
    try clear_value x2
    intro x3
    try clear_value x3
    intro x4
    try clear_value x4
    intro x5
    refine Kept.cut x5 ?_ (fun _ => ?_)
    · unfold x5
      clear x5
      apply State.setPort_kept
      assumption
    clear_value x5
    apply Kept.ite
    · assumption
    · apply Kept.ite
      · apply State.nakOnce_kept
        assumption
      · split
        · apply State.record_kept
          assumption
        · assumption
        · apply State.fragment_kept
          assumption
  · assumption

theorem State.sendDlyReq_kept {s0 s : State} (t : Nat) (hk : Kept s0 s) :
    Kept s0 (State.sendDlyReq s t) := by
  unfold State.sendDlyReq
  apply Kept.ite
  · apply State.sendCtl_kept
    assumption
  · assumption

theorem State.delayTimer_kept {s0 s : State} (t : Nat) (hk : Kept s0 s) :
    Kept s0 (State.delayTimer s t) := by
  unfold State.delayTimer
  apply Kept.ite
  · apply State.sendDlyReq_kept
    apply State.reach_kept
    assumption
  · assumption

theorem State.dlyReq_kept {s0 s : State} (p : Nat) (f : List Byte) (t2 : Nat) (t3 : Nat) (hk : Kept s0 s) :
    Kept s0 (State.dlyReq s p f t2 t3) := by
  unfold State.dlyReq
  apply State.rx_kept
  · intro x0
    intro x1
    apply Kept.ite
    · apply State.sendCtl_kept
      apply State.reach_kept
      assumption
    · assumption
  · assumption

theorem State.measure_kept {s0 s : State} (t1 : Nat) (t2 : Nat) (t3 : Nat) (t4 : Nat) (hk : Kept s0 s) :
    Kept s0 (State.measure s t1 t2 t3 t4) := by
  unfold State.measure
  lift_lets -underBinder
  intro x0
  try clear_value x0
  intro x1
  try clear_value x1
  intro x2
  try clear_value x2
  intro x3
  try clear_value x3
  intro x4
  try clear_value x4
  intro x5
  try clear_value x5
  intro x6
  try clear_value x6
  intro x7
  try clear_value x7
  intro x8
  try clear_value x8
  intro x9
  refine Kept.cut x9 ?_ (fun _ => ?_)
  · unfold x9
    clear x9
    apply Kept.ite
    · apply State.bump_kept
      assumption
    · apply State.setPort_kept
      assumption
  clear_value x9
  simp only [Kept.upd]
  assumption

theorem State.dlyRsp_kept {s0 s : State} (p : Nat) (f : List Byte) (t4 : Nat) (hk : Kept s0 s) :
    Kept s0 (State.dlyRsp s p f t4) := by
  unfold State.dlyRsp
  apply State.rx_kept
  · intro x0
    intro x1
    apply Kept.ite
    · lift_lets -underBinder
      intro x2
      intro x3
      refine Kept.cut x3 ?_ (fun _ => ?_)
      · unfold x3
        clear x3
        apply State.measure_kept
        apply State.reach_kept
        assumption
      clear_value x3
      apply Kept.ite
      · apply State.sendDlyReq_kept
        simp only [Kept.upd]
        assumption
      · simp only [Kept.upd]
        assumption
    · assumption
  · assumption

theorem State.timeTimer_kept {s0 s : State} (t : Nat) (hk : Kept s0 s) :
    Kept s0 (State.timeTimer s t) := by
  unfold State.timeTimer
  apply Kept.ite
  · lift_lets -underBinder
    intro x0
    refine Kept.cut x0 ?_ (fun _ => ?_)
    · unfold x0
      clear x0
      apply State.reach_kept
      assumption
    clear_value x0
    apply Kept.foldl
    · intro x1
      intro x2
      intro x3
      apply State.sendCtl_kept
      assumption
    · assumption
  · assumption

theorem State.reading_kept {s0 s : State} (inside : Bool) (hk : Kept s0 s) :
    Kept s0 (State.reading s inside) := by
  unfold State.reading
  simp only [Kept.upd]
  assumption

theorem State.timeFlit_kept {s0 s : State} (p : Nat) (f : List Byte) (t : Nat) (hk : Kept s0 s) :
    Kept s0 (State.timeFlit s p f t) := by
  unfold State.timeFlit
  apply State.rx_kept
  · intro x0
    intro x1
    apply Kept.ite
    · lift_lets -underBinder
      intro x2
      try clear_value x2
      intro x3
      try clear_value x3
      intro x4
      refine Kept.cut x4 ?_ (fun _ => ?_)
      · unfold x4
        clear x4
        apply State.reach_kept
        assumption
      clear_value x4
      apply State.reading_kept
      simp only [Kept.upd]
      apply State.wr_kept
      apply Kept.ite
      · simp only [Kept.upd]
        apply State.draw_kept
        apply Kept.ite
        · simp only [Kept.upd]
          apply Kept.ite
          · simp only [Kept.upd]
            assumption
          · apply Kept.ite
            · apply State.loadTime_kept
              assumption
            · assumption
        · assumption
      · apply Kept.ite
        · simp only [Kept.upd]
          apply Kept.ite
          · simp only [Kept.upd]
            assumption
          · apply Kept.ite
            · apply State.loadTime_kept
              assumption
            · assumption
        · assumption
    · assumption
  · assumption

theorem State.timeSilence_kept {s0 s : State} (hk : Kept s0 s) :
    Kept s0 (State.timeSilence s) := by
  unfold State.timeSilence
  apply Kept.ite
  · apply State.reading_kept
    assumption
  · assumption

theorem State.excludeGroup_kept {s0 s : State} (g : Nat) (hk : Kept s0 s) :
    Kept s0 (State.excludeGroup s g) := by
  unfold State.excludeGroup
  lift_lets -underBinder
  intro x0
  try clear_value x0
  intro x1
  try clear_value x1
  apply Kept.ite
  · apply Kept.foldl
    · intro x2
      intro x3
      intro x4
      apply Kept.ite
      · apply State.bump_kept
        apply State.finishOpt_kept
        assumption
      · apply State.resolveEv_kept
        assumption
    · apply State.setGrp_kept
      assumption
  · assumption

theorem State.selfExclusion_kept {s0 s : State} (hk : Kept s0 s) :
    Kept s0 (State.selfExclusion s) := by
  unfold State.selfExclusion
  split
  · apply Kept.ite
    · lift_lets -underBinder
      intro x0
      refine Kept.cut x0 ?_ (fun _ => ?_)
      · unfold x0
        clear x0
        apply State.reach_kept
        assumption
      clear_value x0
      apply State.exclSettle_kept
      apply State.irqIf_kept
      apply State.logErr_kept
      apply State.bump_kept
      apply State.sendInternal_kept
      simp only [Kept.upd]
      apply Kept.foldl
      · intro x1
        intro x2
        intro x3
        apply State.excludeGroup_kept
        assumption
      · assumption
    · assumption
  · assumption

theorem State.takeRecord_kept {s0 s : State} (p kind : Nat) (hk : Kept s0 s) {b : List Byte} {t : State}
    (h : s.takeRecord p kind = some (b, t)) : Kept s0 t := by
  obtain ⟨m, _, e⟩ := Option.map_eq_some_iff.mp h
  cases e
  exact hk

theorem State.turnRecord_kept {s0 s : State} (p : Nat) (hk : Kept s0 s) :
    Kept s0 (State.turnRecord s p) := by
  unfold State.turnRecord
  split
  · lift_lets -underBinder
    intro x0
    apply State.takeTurnRecord_kept
    apply State.flood_kept
    refine State.takeRecord_kept _ _ ?_ (by assumption)
    assumption
  · assumption

theorem State.bcastMarker_kept {s0 s : State} (p : Nat) (hk : Kept s0 s) :
    Kept s0 (State.bcastMarker s p) := by
  unfold State.bcastMarker
  split
  · lift_lets -underBinder
    intro x0
    refine Kept.cut x0 ?_ (fun _ => ?_)
    · unfold x0
      clear x0
      apply State.flood_kept
      refine State.takeRecord_kept _ _ ?_ (by assumption)
      assumption
    clear_value x0
    simp only [Kept.upd]
    assumption
  · assumption

end Sys2Proof.Machine
end

