-- ==== Sys2Proof/Laws/KeepChain.lean ====
section
/-! SUPPORT. The operations of Machine/Chain.lean keep the waiting commands and the canonical form. -/
set_option linter.unusedVariables false
namespace Sys2Proof.Machine

theorem State.takeMsg_kept {s0 s : State} (p : Nat) (f : Msg → Bool) (hk : Kept s0 s) {m : Msg} {t : State}
    (h : s.takeMsg p f = some (m, t)) : Kept s0 t := by
  obtain ⟨m, _, e⟩ := Option.map_eq_some_iff.mp h
  cases e
  exact hk

theorem State.fromChain_kept {s0 s : State} (m : Msg) (hk : Kept s0 s) :
    Kept s0 (State.fromChain s m) := by
  unfold State.fromChain
  lift_lets -underBinder
  intro x0
  try clear_value x0
  intro x1
  try clear_value x1
  intro x2
  try clear_value x2
  intro x3
  refine Kept.cut x3 ?_ (fun _ => ?_)
  · unfold x3
    clear x3
    apply State.setQ_kept
    assumption
  clear_value x3
  simp only [Kept.upd]
  assumption

theorem State.unreachableReply_kept {s0 s : State} (m : Msg) (hk : Kept s0 s) :
    Kept s0 (State.unreachableReply s m) := by
  unfold State.unreachableReply
  lift_lets -underBinder
  intro x0
  try clear_value x0
  apply State.sendMsg_kept
  assumption

theorem State.takeReply_kept {s0 s : State} (m : Msg) (hk : Kept s0 s) :
    Kept s0 (State.takeReply s m) := by
  unfold State.takeReply
  lift_lets -underBinder
  intro x0
  try clear_value x0
  intro x1
  try clear_value x1
  intro x2
  try clear_value x2
  intro x3
  try clear_value x3
  intro x4
  try clear_value x4
  split
  · apply Kept.ite
    · apply State.decide1_kept
      assumption
    · assumption
  · assumption

theorem State.plakuMessage_kept {s0 s : State} (p : Nat) (hk : Kept s0 s) :
    Kept s0 (State.plakuMessage s p) := by
  unfold State.plakuMessage
  split
  · lift_lets -underBinder
    intro x0
    try clear_value x0
    apply Kept.ite
    · apply Kept.ite
      · apply State.fromChain_kept
        apply Kept.foldl
        · intro x1
          intro x2
          intro x3
          apply State.sendMsg_kept
          assumption
        · refine State.takeMsg_kept _ _ ?_ (by assumption)
          assumption
      · apply Kept.ite
        · apply State.fromChain_kept
          refine State.takeMsg_kept _ _ ?_ (by assumption)
          assumption
        · apply State.sendMsg_kept
          refine State.takeMsg_kept _ _ ?_ (by assumption)
          assumption
    · apply Kept.ite
      · apply Kept.ite
        · apply State.takeReply_kept
          refine State.takeMsg_kept _ _ ?_ (by assumption)
          assumption
        · apply State.fromChain_kept
          refine State.takeMsg_kept _ _ ?_ (by assumption)
          assumption
      · split
        · apply Kept.ite
          · apply State.sendMsg_kept
            refine State.takeMsg_kept _ _ ?_ (by assumption)
            assumption
          · apply Kept.ite
            · apply State.unreachableReply_kept
              refine State.takeMsg_kept _ _ ?_ (by assumption)
              assumption
            · refine State.takeMsg_kept _ _ ?_ (by assumption)
              assumption
        · apply Kept.ite
          · apply State.unreachableReply_kept
            refine State.takeMsg_kept _ _ ?_ (by assumption)
            assumption
          · refine State.takeMsg_kept _ _ ?_ (by assumption)
            assumption
  · assumption

theorem State.internal_kept {s0 s : State} (p : Nat) (mtype : Nat) (own : State → Msg → State) (pass : State → Msg → Nat → State) (hown : ∀ (x0 : State) (x1 : Msg), Kept s0 x0 → Kept s0 (own x0 x1)) (hpass : ∀ (x0 : State) (x1 : Msg) (x2 : Nat), Kept s0 x0 → Kept s0 (pass x0 x1 x2)) (hk : Kept s0 s) :
    Kept s0 (State.internal s p mtype own pass) := by
  unfold State.internal
  split
  · apply Kept.ite
    · apply hown
      refine State.takeMsg_kept _ _ ?_ (by assumption)
      assumption
    · split
      · apply State.sendMsg_kept
        apply hpass
        refine State.takeMsg_kept _ _ ?_ (by assumption)
        assumption
      · refine State.takeMsg_kept _ _ ?_ (by assumption)
        assumption
  · assumption

theorem State.setEnum_kept {s0 s : State} (x : Option Xact) (hk : Kept s0 s) :
    Kept s0 (State.setEnum s x) := by
  unfold State.setEnum
  simp only [Kept.upd]
  assumption

theorem State.takeAddress_kept {s0 s : State} (a : Nat) (depth : Nat) (hk : Kept s0 s) :
    Kept s0 (State.takeAddress s a depth) := by
  unfold State.takeAddress
  lift_lets -underBinder
  intro x0
  refine Kept.cut x0 ?_ (fun _ => ?_)
  · unfold x0
    clear x0
    apply State.wr_kept
    assumption
  clear_value x0
  simp only [Kept.upd]
  assumption

theorem State.announce_kept {s0 s : State} (granted : List Nat) (hk : Kept s0 s) :
    Kept s0 (State.announce s granted) := by
  unfold State.announce
  apply Kept.foldl
  · intro x0
    intro x1
    intro x2
    lift_lets -underBinder
    intro x3
    refine Kept.cut x3 ?_ (fun _ => ?_)
    · unfold x3
      clear x3
      apply State.sendInit_kept
      assumption
    clear_value x3
    split
    · apply Kept.ite
      · apply State.reportJoin_kept
        assumption
      · assumption
    · assumption
  · assumption

theorem State.routeAll_kept {s0 s : State} (as : List Nat) (p : Nat) (hk : Kept s0 s) :
    Kept s0 (State.routeAll s as p) := by
  unfold State.routeAll
  apply Kept.foldl
  · intro x0
    intro x1
    intro x2
    apply State.setRoute_kept
    assumption
  · assumption

theorem State.passDown_kept {s0 s : State} (p : Nat) (mode : Nat) (gen : Nat) (as : List Nat) (hk : Kept s0 s) :
    Kept s0 (State.passDown s p mode gen as) := by
  unfold State.passDown
  lift_lets -underBinder
  intro x0
  refine Kept.cut x0 ?_ (fun _ => ?_)
  · unfold x0
    clear x0
    apply State.routeAll_kept
    assumption
  clear_value x0
  apply State.sendLink_kept
  split
  · apply State.modPort_kept
    assumption
  · assumption

theorem State.enumFinish_kept {s0 s : State} (x : Xact) (hk : Kept s0 s) :
    Kept s0 (State.enumFinish s x) := by
  unfold State.enumFinish
  lift_lets -underBinder
  intro x0
  intro x1
  try clear_value x1
  intro x2
  refine Kept.cut x2 ?_ (fun _ => ?_)
  · unfold x2
    clear x2
    apply State.setEnum_kept
    assumption
  clear_value x2
  split
  · apply State.finish_kept
    assumption
  · apply State.sendLink_kept
    assumption

theorem State.enumGrant_kept {s0 s : State} (x : Xact) (depth : Nat) (as : List Nat) (hk : Kept s0 s) :
    Kept s0 (State.enumGrant s x depth as) := by
  unfold State.enumGrant
  lift_lets -underBinder
  intro x0
  try clear_value x0
  intro x1
  refine Kept.cut x1 ?_ (fun _ => ?_)
  · unfold x1
    clear x1
    apply State.wr_kept
    assumption
  clear_value x1
  apply Kept.ite
  · apply State.enumFinish_kept
    apply Kept.ite
    · apply State.announce_kept
      apply Kept.foldl
      · intro x2
        intro x3
        intro x4
        apply State.passDown_kept
        assumption
      · apply State.wr_kept
        split
        · apply Kept.ite
          · apply State.takeAddress_kept
            apply Kept.ite
            · simp only [Kept.upd]
              assumption
            · assumption
          · apply Kept.ite
            · simp only [Kept.upd]
              assumption
            · assumption
        · apply Kept.ite
          · simp only [Kept.upd]
            assumption
          · assumption
    · apply Kept.foldl
      · intro x5
        intro x6
        intro x7
        apply State.passDown_kept
        assumption
      · apply State.wr_kept
        split
        · apply Kept.ite
          · apply State.takeAddress_kept
            apply Kept.ite
            · simp only [Kept.upd]
              assumption
            · assumption
          · apply Kept.ite
            · simp only [Kept.upd]
              assumption
            · assumption
        · apply Kept.ite
          · simp only [Kept.upd]
            assumption
          · assumption
  · apply State.setEnum_kept
    apply Kept.ite
    · apply State.announce_kept
      apply Kept.foldl
      · intro x8
        intro x9
        intro x10
        apply State.passDown_kept
        assumption
      · apply State.wr_kept
        split
        · apply Kept.ite
          · apply State.takeAddress_kept
            apply Kept.ite
            · simp only [Kept.upd]
              assumption
            · assumption
          · apply Kept.ite
            · simp only [Kept.upd]
              assumption
            · assumption
        · apply Kept.ite
          · simp only [Kept.upd]
            assumption
          · assumption
    · apply Kept.foldl
      · intro x11
        intro x12
        intro x13
        apply State.passDown_kept
        assumption
      · apply State.wr_kept
        split
        · apply Kept.ite
          · apply State.takeAddress_kept
            apply Kept.ite
            · simp only [Kept.upd]
              assumption
            · assumption
          · apply Kept.ite
            · simp only [Kept.upd]
              assumption
            · assumption
        · apply Kept.ite
          · simp only [Kept.upd]
            assumption
          · assumption

theorem State.enumCounted_kept {s0 s : State} (x : Xact) (hk : Kept s0 s) :
    Kept s0 (State.enumCounted s x) := by
  unfold State.enumCounted
  split
  · apply State.enumGrant_kept
    assumption
  · lift_lets -underBinder
    intro x0
    try clear_value x0
    intro x1
    try clear_value x1
    apply State.sendLink_kept
    apply State.setEnum_kept
    assumption

theorem State.enumBegin_kept {s0 s : State} (mode : Nat) (gen : Nat) (depth : Nat) (cmd : Option CmdRef) (hk : Kept s0 s) :
    Kept s0 (State.enumBegin s mode gen depth cmd) := by
  unfold State.enumBegin
  lift_lets -underBinder
  intro x0
  try clear_value x0
  intro x1
  refine Kept.cut x1 ?_ (fun _ => ?_)
  · unfold x1
    clear x1
    apply State.setEnum_kept
    assumption
  clear_value x1
  apply Kept.ite
  · apply State.enumCounted_kept
    apply Kept.foldl
    · intro x2
      intro x3
      intro x4
      apply State.sendLink_kept
      assumption
    · assumption
  · apply Kept.foldl
    · intro x5
      intro x6
      intro x7
      apply State.sendLink_kept
      assumption
    · assumption

theorem State.enumAnswer_kept {s0 s : State} (p : Nat) (phase : Nat) (ns : List Nat) (hk : Kept s0 s) :
    Kept s0 (State.enumAnswer s p phase ns) := by
  unfold State.enumAnswer
  split
  · apply Kept.ite
    · lift_lets -underBinder
      intro x0
      try clear_value x0
      intro x1
      refine Kept.cut x1 ?_ (fun _ => ?_)
      · unfold x1
        clear x1
        apply State.setEnum_kept
        assumption
      clear_value x1
      apply Kept.ite
      · apply Kept.ite
        · apply State.enumCounted_kept
          assumption
        · apply State.enumFinish_kept
          assumption
      · assumption
    · assumption
  · assumption

theorem State.chainEnum_kept {s0 s : State} (q : Nat) (k : Nat) (remote : Bool) (hk : Kept s0 s) :
    Kept s0 (State.chainEnum s q k remote) := by
  unfold State.chainEnum
  apply State.run_kept
  · intro x0
    intro x1
    intro x2
    intro x3
    lift_lets -underBinder
    intro x4
    try clear_value x4
    apply Kept.ite
    · apply State.finish_kept
      assumption
    · apply Kept.ite
      · apply State.finish_kept
        assumption
      · apply State.enumBegin_kept
        assumption
  · assumption

theorem State.enumQuery_kept {s0 s : State} (p : Nat) (hk : Kept s0 s) :
    Kept s0 (State.enumQuery s p) := by
  unfold State.enumQuery
  apply State.internal_kept
  · intro x0
    intro x1
    intro x2
    apply State.enumBegin_kept
    assumption
  · intro x3
    intro x4
    intro x5
    intro x6
    assumption
  · assumption

theorem State.enumCount_kept {s0 s : State} (p : Nat) (hk : Kept s0 s) :
    Kept s0 (State.enumCount s p) := by
  unfold State.enumCount
  apply State.internal_kept
  · intro x0
    intro x1
    intro x2
    apply Kept.ite
    · apply State.enumAnswer_kept
      assumption
    · assumption
  · intro x3
    intro x4
    intro x5
    intro x6
    assumption
  · assumption

theorem State.enumAssign_kept {s0 s : State} (p : Nat) (hk : Kept s0 s) :
    Kept s0 (State.enumAssign s p) := by
  unfold State.enumAssign
  apply State.internal_kept
  · intro x0
    intro x1
    intro x2
    lift_lets -underBinder
    intro x3
    try clear_value x3
    intro x4
    try clear_value x4
    intro x5
    try clear_value x5
    split
    · apply Kept.ite
      · apply State.enumGrant_kept
        assumption
      · assumption
    · split
      · apply Kept.ite
        · assumption
        · apply State.announce_kept
          apply State.wr_kept
          apply State.takeAddress_kept
          assumption
      · assumption
  · intro x6
    intro x7
    intro x8
    intro x9
    assumption
  · assumption

theorem State.enumDone_kept {s0 s : State} (p : Nat) (hk : Kept s0 s) :
    Kept s0 (State.enumDone s p) := by
  unfold State.enumDone
  apply State.internal_kept
  · intro x0
    intro x1
    intro x2
    apply Kept.ite
    · apply State.enumAnswer_kept
      assumption
    · assumption
  · intro x3
    intro x4
    intro x5
    intro x6
    assumption
  · assumption

theorem State.joinMessage_kept {s0 s : State} (p : Nat) (hk : Kept s0 s) :
    Kept s0 (State.joinMessage s p) := by
  unfold State.joinMessage
  apply State.internal_kept
  · intro x0
    intro x1
    intro x2
    apply State.joinAtRoot_kept
    assumption
  · intro x3
    intro x4
    intro x5
    intro x6
    assumption
  · assumption

theorem State.joinAssign_kept {s0 s : State} (p : Nat) (hk : Kept s0 s) :
    Kept s0 (State.joinAssign s p) := by
  unfold State.joinAssign
  apply State.internal_kept
  · intro x0
    intro x1
    intro x2
    apply State.grantChild_kept
    assumption
  · intro x3
    intro x4
    intro x5
    intro x6
    apply State.setRoute_kept
    assumption
  · assumption

theorem State.freeRoutes_kept {s0 s : State} (as : List Nat) (hk : Kept s0 s) :
    Kept s0 (State.freeRoutes s as) := by
  unfold State.freeRoutes
  simp only [Kept.upd]
  assumption

theorem State.leave_kept {s0 s : State} (p : Nat) (hk : Kept s0 s) :
    Kept s0 (State.leave s p) := by
  unfold State.leave
  apply State.internal_kept
  · intro x0
    intro x1
    intro x2
    apply State.bump_kept
    apply State.freeRoutes_kept
    assumption
  · intro x3
    intro x4
    intro x5
    intro x6
    apply State.freeRoutes_kept
    assumption
  · assumption

theorem State.exclude_kept {s0 s : State} (p : Nat) (hk : Kept s0 s) :
    Kept s0 (State.exclude s p) := by
  unfold State.exclude
  apply State.internal_kept
  · intro x0
    intro x1
    intro x2
    apply State.irqIf_kept
    apply State.bump_kept
    assumption
  · intro x3
    intro x4
    intro x5
    intro x6
    assumption
  · assumption

theorem State.censusStore_kept {s0 s : State} (gen : Nat) (passed : Bool) (hk : Kept s0 s) :
    Kept s0 (State.censusStore s gen passed) := by
  unfold State.censusStore
  lift_lets -underBinder
  intro x0
  refine Kept.cut x0 ?_ (fun _ => ?_)
  · unfold x0
    clear x0
    apply State.wr64_kept
    apply State.wr_kept
    assumption
  clear_value x0
  simp only [Kept.upd]
  assumption

theorem State.censusEnd_kept {s0 s : State} (x : Census) (hk : Kept s0 s) :
    Kept s0 (State.censusEnd s x) := by
  unfold State.censusEnd
  lift_lets -underBinder
  intro x0
  try clear_value x0
  intro x1
  try clear_value x1
  intro x2
  refine Kept.cut x2 ?_ (fun _ => ?_)
  · unfold x2
    clear x2
    simp only [Kept.upd]
    assumption
  clear_value x2
  apply State.finish_kept
  apply Kept.foldl
  · intro x3
    intro x4
    intro x5
    apply Kept.ite
    · apply State.censusStore_kept
      assumption
    · apply State.sendInternal_kept
      assumption
  · apply Kept.ite
    · assumption
    · apply State.put_kept
      assumption

theorem State.censusTry_kept {s0 s : State} (hk : Kept s0 s) :
    Kept s0 (State.censusTry s) := by
  unfold State.censusTry
  split
  · apply Kept.ite
    · apply State.censusEnd_kept
      assumption
    · assumption
  · assumption

theorem State.censusCmd_kept {s0 s : State} (q : Nat) (k : Nat) (table : List Byte) (hk : Kept s0 s) :
    Kept s0 (State.censusCmd s q k table) := by
  unfold State.censusCmd
  apply State.run_kept
  · intro x0
    intro x1
    intro x2
    intro x3
    lift_lets -underBinder
    intro x4
    try clear_value x4
    intro x5
    try clear_value x5
    intro x6
    try clear_value x6
    intro x7
    try clear_value x7
    intro x8
    try clear_value x8
    intro x9
    try clear_value x9
    intro x10
    try clear_value x10
    intro x11
    try clear_value x11
    intro x12
    refine Kept.cut x12 ?_ (fun _ => ?_)
    · unfold x12
      clear x12
      simp only [Kept.upd]
      assumption
    clear_value x12
    apply Kept.ite
    · apply State.finish_kept
      assumption
    · apply Kept.ite
      · apply State.finish_kept
        assumption
      · apply State.censusTry_kept
        apply Kept.foldl
        · intro x13
          intro x14
          intro x15
          apply Kept.ite
          · assumption
          · apply State.sendInternal_kept
            assumption
        · assumption
  · assumption

theorem State.censusQuery_kept {s0 s : State} (p : Nat) (hk : Kept s0 s) :
    Kept s0 (State.censusQuery s p) := by
  unfold State.censusQuery
  apply State.internal_kept
  · intro x0
    intro x1
    intro x2
    apply State.sendInternal_kept
    assumption
  · intro x3
    intro x4
    intro x5
    intro x6
    assumption
  · assumption

theorem State.censusReport_kept {s0 s : State} (p : Nat) (hk : Kept s0 s) :
    Kept s0 (State.censusReport s p) := by
  unfold State.censusReport
  apply State.internal_kept
  · intro x0
    intro x1
    intro x2
    split
    · apply Kept.ite
      · apply State.censusTry_kept
        simp only [Kept.upd]
        assumption
      · assumption
    · assumption
  · intro x3
    intro x4
    intro x5
    intro x6
    assumption
  · assumption

theorem State.censusResult_kept {s0 s : State} (p : Nat) (hk : Kept s0 s) :
    Kept s0 (State.censusResult s p) := by
  unfold State.censusResult
  apply State.internal_kept
  · intro x0
    intro x1
    intro x2
    apply State.censusStore_kept
    assumption
  · intro x3
    intro x4
    intro x5
    intro x6
    assumption
  · assumption

theorem State.bcastAnswer_kept {s0 s : State} (num : Nat) (p : Nat) (ns : List Nat) (hk : Kept s0 s) :
    Kept s0 (State.bcastAnswer s num p ns) := by
  unfold State.bcastAnswer
  lift_lets -underBinder
  intro x0
  intro x1
  try clear_value x1
  apply State.bcastTry_kept
  simp only [Kept.upd]
  assumption

theorem State.bcastReplyMsg_kept {s0 s : State} (p : Nat) (hk : Kept s0 s) :
    Kept s0 (State.bcastReplyMsg s p) := by
  unfold State.bcastReplyMsg
  apply State.internal_kept
  · intro x0
    intro x1
    intro x2
    apply State.bcastAnswer_kept
    assumption
  · intro x3
    intro x4
    intro x5
    intro x6
    assumption
  · assumption

theorem State.alignTry_kept {s0 s : State} (hk : Kept s0 s) :
    Kept s0 (State.alignTry s) := by
  unfold State.alignTry
  split
  · apply Kept.ite
    · lift_lets -underBinder
      intro x0
      try clear_value x0
      intro x1
      intro x2
      try clear_value x2
      intro x3
      refine Kept.cut x3 ?_ (fun _ => ?_)
      · unfold x3
        clear x3
        simp only [Kept.upd]
        assumption
      clear_value x3
      split
      · apply State.finish_kept
        assumption
      · apply State.sendLink_kept
        assumption
    · assumption
  · assumption

theorem State.alignBegin_kept {s0 s : State} (gen : Nat) (all : Bool) (cmd : Option CmdRef) (hk : Kept s0 s) :
    Kept s0 (State.alignBegin s gen all cmd) := by
  unfold State.alignBegin
  lift_lets -underBinder
  intro x0
  try clear_value x0
  intro x1
  try clear_value x1
  intro x2
  refine Kept.cut x2 ?_ (fun _ => ?_)
  · unfold x2
    clear x2
    simp only [Kept.upd]
    assumption
  clear_value x2
  apply State.alignTry_kept
  apply State.sendDlyReq_kept
  apply Kept.foldl
  · intro x3
    intro x4
    intro x5
    apply State.sendLink_kept
    assumption
  · assumption

theorem State.alignAnswer_kept {s0 s : State} (p : Nat) (ns : List Nat) (hk : Kept s0 s) :
    Kept s0 (State.alignAnswer s p ns) := by
  unfold State.alignAnswer
  split
  · apply Kept.ite
    · apply State.alignTry_kept
      simp only [Kept.upd]
      assumption
    · assumption
  · assumption

theorem State.chainAlign_kept {s0 s : State} (q : Nat) (k : Nat) (hk : Kept s0 s) :
    Kept s0 (State.chainAlign s q k) := by
  unfold State.chainAlign
  apply State.run_kept
  · intro x0
    intro x1
    intro x2
    intro x3
    lift_lets -underBinder
    intro x4
    try clear_value x4
    apply Kept.ite
    · apply State.finish_kept
      assumption
    · apply Kept.ite
      · apply State.finish_kept
        assumption
      · apply State.alignBegin_kept
        assumption
  · assumption

theorem State.alignQuery_kept {s0 s : State} (p : Nat) (hk : Kept s0 s) :
    Kept s0 (State.alignQuery s p) := by
  unfold State.alignQuery
  apply State.internal_kept
  · intro x0
    intro x1
    intro x2
    apply State.alignBegin_kept
    assumption
  · intro x3
    intro x4
    intro x5
    intro x6
    assumption
  · assumption

theorem State.alignReport_kept {s0 s : State} (p : Nat) (hk : Kept s0 s) :
    Kept s0 (State.alignReport s p) := by
  unfold State.alignReport
  apply State.internal_kept
  · intro x0
    intro x1
    intro x2
    apply State.alignAnswer_kept
    assumption
  · intro x3
    intro x4
    intro x5
    intro x6
    assumption
  · assumption

theorem State.dlyRspAlign_kept {s0 s : State} (p : Nat) (f : List Byte) (t4 : Nat) (hk : Kept s0 s) :
    Kept s0 (State.dlyRspAlign s p f t4) := by
  unfold State.dlyRspAlign
  lift_lets -underBinder
  intro x0
  refine Kept.cut x0 ?_ (fun _ => ?_)
  · unfold x0
    clear x0
    apply State.dlyRsp_kept
    assumption
  clear_value x0
  apply Kept.ite
  · apply State.alignTry_kept
    assumption
  · assumption

theorem State.exchangeTimeout_kept {s0 s : State} (e : Exchange) (p : Nat) (hk : Kept s0 s) :
    Kept s0 (State.exchangeTimeout s e p) := by
  unfold State.exchangeTimeout
  split
  · split
    · apply State.enumAnswer_kept
      assumption
    · assumption
  · apply State.alignAnswer_kept
    assumption
  · split
    · apply State.censusEnd_kept
      assumption
    · assumption
  · lift_lets -underBinder
    intro x0
    try clear_value x0
    apply State.bcastAnswer_kept
    assumption

theorem State.chainBroadcast_kept {s0 s : State} (q : Nat) (k : Nat) (hk : Kept s0 s) :
    Kept s0 (State.chainBroadcast s q k) := by
  unfold State.chainBroadcast
  apply State.run_kept
  · intro x0
    intro x1
    intro x2
    intro x3
    lift_lets -underBinder
    intro x4
    try clear_value x4
    intro x5
    try clear_value x5
    intro x6
    try clear_value x6
    intro x7
    try clear_value x7
    intro x8
    try clear_value x8
    intro x9
    try clear_value x9
    intro x10
    try clear_value x10
    apply Kept.ite
    · apply State.finish_kept
      assumption
    · apply Kept.ite
      · apply Kept.ite
        · apply State.finish_kept
          assumption
        · simp only [Kept.upd]
          assumption
      · apply State.finish_kept
        apply State.sendChainEvent_kept
        assumption
  · assumption

theorem State.chainBroadcastTime_kept {s0 s : State} (hk : Kept s0 s) :
    Kept s0 (State.chainBroadcastTime s) := by
  unfold State.chainBroadcastTime
  split
  · apply Kept.ite
    · lift_lets -underBinder
      intro x0
      refine Kept.cut x0 ?_ (fun _ => ?_)
      · unfold x0
        clear x0
        apply State.reach_kept
        assumption
      clear_value x0
      apply State.finish_kept
      apply State.sendChainEvent_kept
      simp only [Kept.upd]
      assumption
    · assumption
  · assumption

theorem State.chnPortEn_kept {s0 s : State} (p : Nat) (on : Bool) (hk : Kept s0 s) :
    Kept s0 (State.chnPortEn s p on) := by
  unfold State.chnPortEn
  apply Kept.ite
  · assumption
  · apply State.linkDown_kept
    assumption

theorem State.chnStart_kept {s0 s : State} (hk : Kept s0 s) :
    Kept s0 (State.chnStart s) := by
  unfold State.chnStart
  apply Kept.ite
  · assumption
  · apply State.setRunning_kept
    assumption

theorem State.chnStop_kept {s0 s : State} (hk : Kept s0 s) :
    Kept s0 (State.chnStop s) := by
  unfold State.chnStop
  apply State.setRunning_kept
  apply State.linkDown_kept
  apply State.linkDown_kept
  apply State.linkDown_kept
  assumption

end Sys2Proof.Machine
end

