-- ==== Sys2Proof/Laws/KeepFw.lean ====
section
/-! SUPPORT. The operations of Machine/Fw.lean keep the waiting commands and the canonical form. -/
set_option linter.unusedVariables false
namespace Sys2Proof.Machine

theorem State.fwBegin_kept {s0 s : State} (q : Nat) (k : Nat) (hk : Kept s0 s) :
    Kept s0 (State.fwBegin s q k) := by
  unfold State.fwBegin
  apply State.run_kept
  · intro x0
    intro x1
    intro x2
    intro x3
    lift_lets -underBinder
    intro x4
    try clear_value x4
    intro x5
    try clear_value x5
    intro x6
    try clear_value x6
    intro x7
    try clear_value x7
    apply Kept.ite
    · apply State.finish_kept
      assumption
    · apply Kept.ite
      · apply State.finish_kept
        assumption
      · apply State.finish_kept
        simp only [Kept.upd]
        assumption
  · assumption

theorem State.fwData_kept {s0 s : State} (q : Nat) (k : Nat) (hk : Kept s0 s) :
    Kept s0 (State.fwData s q k) := by
  unfold State.fwData
  apply State.run_kept
  · intro x0
    intro x1
    intro x2
    intro x3
    split
    · apply State.finish_kept
      assumption
    · lift_lets -underBinder
      intro x4
      try clear_value x4
      intro x5
      try clear_value x5
      intro x6
      refine Kept.cut x6 ?_ (fun _ => ?_)
      · unfold x6
        clear x6
        apply Kept.ite
        · apply State.writeBytes_kept
          assumption
        · assumption
      clear_value x6
      apply Kept.ite
      · apply State.finish_kept
        assumption
      · apply Kept.ite
        · apply State.finish_kept
          assumption
        · apply Kept.ite
          · apply State.finish_kept
            assumption
          · apply State.finish_kept
            simp only [Kept.upd]
            assumption
  · assumption

theorem State.fwCommit_kept {s0 s : State} (q : Nat) (k : Nat) (hk : Kept s0 s) :
    Kept s0 (State.fwCommit s q k) := by
  unfold State.fwCommit
  apply State.run_kept
  · intro x0
    intro x1
    intro x2
    intro x3
    split
    · apply State.finish_kept
      assumption
    · apply Kept.ite
      · apply State.finish_kept
        assumption
      · apply Kept.ite
        · apply State.finish_kept
          simp only [Kept.upd]
          assumption
        · apply State.finish_kept
          simp only [Kept.upd]
          assumption
  · assumption

theorem State.timeoutBegun_kept {s0 s : State} (hk : Kept s0 s) :
    Kept s0 (State.timeoutBegun s) := by
  unfold State.timeoutBegun
  apply Kept.foldl
  · intro x0
    intro x1
    intro x2
    apply State.finish_kept
    apply State.stopLoads_kept
    apply State.withdraw_kept
    assumption
  · assumption

theorem State.wdogHalt_kept {s0 s : State} (hk : Kept s0 s) :
    Kept s0 (State.wdogHalt s) := by
  unfold State.wdogHalt
  lift_lets -underBinder
  intro x0
  refine Kept.cut x0 ?_ (fun _ => ?_)
  · unfold x0
    clear x0
    apply State.lasting_kept
    assumption
  clear_value x0
  apply State.safeCauseRaise_kept
  simp only [Kept.upd]
  assumption

theorem State.watchdog_kept {s0 s : State} (hk : Kept s0 s) :
    Kept s0 (State.watchdog s) := by
  unfold State.watchdog
  apply Kept.ite
  · assumption
  · lift_lets -underBinder
    intro x0
    refine Kept.cut x0 ?_ (fun _ => ?_)
    · unfold x0
      clear x0
      apply State.bump_kept
      assumption
    clear_value x0
    apply Kept.ite
    · apply State.wdogHalt_kept
      assumption
    · apply Kept.ite
      · apply State.wdogHalt_kept
        apply State.crash_kept
        assumption
      · simp only [Kept.upd]
        apply State.timeoutBegun_kept
        apply State.transient_kept
        apply State.crash_kept
        assumption

end Sys2Proof.Machine
end

