-- ==== Sys2Proof/Laws/KeepMem.lean ====
section
/-! SUPPORT. The operations of Machine/Mem.lean keep the waiting commands and the canonical form. -/
set_option linter.unusedVariables false
namespace Sys2Proof.Machine

theorem State.memSettle_kept {s0 s : State} (hk : Kept s0 s) :
    Kept s0 (State.memSettle s) := by
  unfold State.memSettle
  apply Kept.ite
  · lift_lets -underBinder
    intro x0
    refine Kept.cut x0 ?_ (fun _ => ?_)
    · unfold x0
      clear x0
      apply State.setRunning_kept
      assumption
    clear_value x0
    simp only [Kept.upd]
    assumption
  · assumption

theorem State.memEnable_kept {s0 s : State} (on : Bool) (hk : Kept s0 s) :
    Kept s0 (State.memEnable s on) := by
  unfold State.memEnable
  apply Kept.ite
  · lift_lets -underBinder
    intro x0
    refine Kept.cut x0 ?_ (fun _ => ?_)
    · unfold x0
      clear x0
      apply State.setRunning_kept
      assumption
    clear_value x0
    simp only [Kept.upd]
    assumption
  · apply State.memSettle_kept
    simp only [Kept.upd]
    assumption

theorem State.castle_kept {s0 s : State} (v : Word) (hk : Kept s0 s) :
    Kept s0 (State.castle s v) := by
  unfold State.castle
  lift_lets -underBinder
  intro x0
  try clear_value x0
  intro x1
  try clear_value x1
  split
  · apply State.bump_kept
    apply State.wr_kept
    assumption
  · lift_lets -underBinder
    intro x2
    refine Kept.cut x2 ?_ (fun _ => ?_)
    · unfold x2
      clear x2
      apply State.wr_kept
      assumption
    clear_value x2
    simp only [Kept.upd]
    assumption

theorem State.castlingDone_kept {s0 s : State} (hk : Kept s0 s) :
    Kept s0 (State.castlingDone s) := by
  unfold State.castlingDone
  split
  · assumption
  · lift_lets -underBinder
    intro x0
    refine Kept.cut x0 ?_ (fun _ => ?_)
    · unfold x0
      clear x0
      apply Kept.ite
      · apply State.clearSet_kept
        assumption
      · assumption
    clear_value x0
    apply State.memSettle_kept
    simp only [Kept.upd]
    apply State.wr_kept
    apply State.modBset_kept
    assumption

theorem State.setOwner_kept {s0 s : State} (n : Nat) (own : Nat) (hk : Kept s0 s) :
    Kept s0 (State.setOwner s n own) := by
  unfold State.setOwner
  apply Kept.ite
  · assumption
  · apply State.modBset_kept
    assumption

theorem State.setPower_kept {s0 s : State} (n : Nat) (v : Nat) (hk : Kept s0 s) :
    Kept s0 (State.setPower s n v) := by
  unfold State.setPower
  apply Kept.ite
  · apply State.bump_kept
    assumption
  · lift_lets -underBinder
    intro x0
    refine Kept.cut x0 ?_ (fun _ => ?_)
    · unfold x0
      clear x0
      apply State.wr_kept
      assumption
    clear_value x0
    apply Kept.ite
    · assumption
    · apply State.modBset_kept
      assumption

theorem State.powerDone_kept {s0 s : State} (n : Nat) (hk : Kept s0 s) :
    Kept s0 (State.powerDone s n) := by
  unfold State.powerDone
  lift_lets -underBinder
  intro x0
  try clear_value x0
  split
  · assumption
  · lift_lets -underBinder
    intro x1
    refine Kept.cut x1 ?_ (fun _ => ?_)
    · unfold x1
      clear x1
      apply Kept.ite
      · apply State.clearSet_kept
        assumption
      · assumption
    clear_value x1
    apply State.memSettle_kept
    apply State.setBset_kept
    assumption

theorem State.zeroWord_kept {s0 s : State} (addr : Nat) (hk : Kept s0 s) :
    Kept s0 (State.zeroWord s addr) := by
  unfold State.zeroWord
  apply State.writeBytes_kept
  assumption

theorem State.repair_kept {s0 s : State} (n : Nat) (bank : Nat) (addr : Nat) (hk : Kept s0 s) :
    Kept s0 (State.repair s n bank addr) := by
  unfold State.repair
  lift_lets -underBinder
  intro x0
  try clear_value x0
  intro x1
  try clear_value x1
  intro x2
  try clear_value x2
  apply Kept.ite
  · apply State.logErr_kept
    apply State.bump_kept
    apply State.setBset_kept
    assumption
  · apply State.lasting_kept
    apply State.setBset_kept
    assumption

theorem State.ueAct_kept {s0 s : State} (addr : Nat) (hk : Kept s0 s) :
    Kept s0 (State.ueAct s addr) := by
  unfold State.ueAct
  lift_lets -underBinder
  intro x0
  try clear_value x0
  intro x1
  try clear_value x1
  split
  · apply Kept.ite
    · apply State.watchdog_kept
      assumption
    · apply Kept.ite
      · assumption
      · apply State.zeroWord_kept
        assumption
  · apply Kept.foldl
    · intro x2
      intro x3
      intro x4
      apply State.fenceSeg_kept
      assumption
    · assumption
  · assumption

theorem State.scrubUe_kept {s0 s : State} (addr : Nat) (hk : Kept s0 s) :
    Kept s0 (State.scrubUe s addr) := by
  unfold State.scrubUe
  apply State.ueAct_kept
  apply State.zeroWord_kept
  apply State.repair_kept
  apply State.memUe_kept
  assumption

theorem State.scrub_kept {s0 s : State} (ces : List Nat) (ues : List Nat) (hk : Kept s0 s) :
    Kept s0 (State.scrub s ces ues) := by
  unfold State.scrub
  apply Kept.ite
  · lift_lets -underBinder
    intro x0
    try clear_value x0
    intro x1
    try clear_value x1
    intro x2
    refine Kept.cut x2 ?_ (fun _ => ?_)
    · unfold x2
      clear x2
      apply Kept.foldl
      · intro x3
        intro x4
        intro x5
        apply State.memCe_kept
        assumption
      · assumption
    clear_value x2
    apply Kept.foldl
    · intro x6
      intro x7
      intro x8
      apply State.scrubUe_kept
      assumption
    · apply Kept.foldl
      · intro x9
        intro x10
        intro x11
        apply Kept.ite
        · lift_lets -underBinder
          intro x12
          try clear_value x12
          intro x13
          refine Kept.cut x13 ?_ (fun _ => ?_)
          · unfold x13
            clear x13
            apply Kept.foldl
            · intro x14
              intro x15
              intro x16
              apply State.repair_kept
              assumption
            · assumption
          clear_value x13
          apply State.modBset_kept
          assumption
        · assumption
      · assumption
  · assumption

theorem State.rowFail_kept {s0 s : State} (f : RowFail) (hk : Kept s0 s) :
    Kept s0 (State.rowFail s f) := by
  unfold State.rowFail
  lift_lets -underBinder
  intro x0
  try clear_value x0
  intro x1
  refine Kept.cut x1 ?_ (fun _ => ?_)
  · unfold x1
    clear x1
    apply State.errLoad_kept
    assumption
  clear_value x1
  apply Kept.ite
  · apply State.repair_kept
    assumption
  · apply State.transient_kept
    assumption

theorem State.memTestEnd_kept {s0 s : State} (r : CmdRef) (p : List Word) (fails : List RowFail) (hk : Kept s0 s) :
    Kept s0 (State.memTestEnd s r p fails) := by
  unfold State.memTestEnd
  lift_lets -underBinder
  intro x0
  try clear_value x0
  intro x1
  try clear_value x1
  intro x2
  try clear_value x2
  intro x3
  try clear_value x3
  intro x4
  try clear_value x4
  intro x5
  try clear_value x5
  intro x6
  try clear_value x6
  intro x7
  refine Kept.cut x7 ?_ (fun _ => ?_)
  · unfold x7
    clear x7
    apply Kept.ite
    · assumption
    · refine Kept.mk ?_ (fun ⟨h0, h1, h2, h3, h4, h5, h6, h7, h8, h9, h10, h11, h12, h13, h14, h15, h16, h17, h18, h19, h20, h21, h22⟩ => ⟨(by first | exact h0 | exact Memory.wf_iff.mpr ⟨KMap.canon_filter _ (Memory.wf_iff.mp h0).1, (Memory.wf_iff.mp h0).2⟩), h1, h2, h3, h4, h5, h6, h7, h8, h9, h10, h11, h12, h13, h14, h15, h16, h17, h18, h19, h20, h21, h22⟩)
      assumption
  clear_value x7
  apply State.memSettle_kept
  apply State.finish_kept
  apply Kept.foldl
  · intro x8
    intro x9
    intro x10
    apply State.rowFail_kept
    assumption
  · assumption

theorem State.memTest_kept {s0 s : State} (q : Nat) (k : Nat) (fails : List RowFail) (hk : Kept s0 s) :
    Kept s0 (State.memTest s q k fails) := by
  unfold State.memTest
  split
  · assumption
  · apply Kept.ite
    · assumption
    · apply Kept.ite
      · apply State.memTestEnd_kept
        assumption
      · apply State.run_kept
        · intro x0
          intro x1
          intro x2
          intro x3
          split
          · apply State.finish_kept
            assumption
          · assumption
        · assumption

end Sys2Proof.Machine
end

