-- ==== Sys2Proof/Laws/KeepDrm.lean ====
section
/-! SUPPORT. The operations of Machine/Drm.lean keep the waiting commands and the canonical form. -/
set_option linter.unusedVariables false
namespace Sys2Proof.Machine

theorem State.trainFailure_kept {s0 s : State} (f : TrainFail) (hk : Kept s0 s) :
    Kept s0 (State.trainFailure s f) := by
  unfold State.trainFailure
  lift_lets -underBinder
  intro x0
  try clear_value x0
  intro x1
  refine Kept.cut x1 ?_ (fun _ => ?_)
  · unfold x1
    clear x1
    apply State.lasting_kept
    assumption
  clear_value x1
  apply Kept.ite
  · simp only [Kept.upd]
    assumption
  · apply State.transient_kept
    apply State.bump_kept
    assumption

theorem State.trainingDone_kept {s0 s : State} (fails : List TrainFail) (hk : Kept s0 s) :
    Kept s0 (State.trainingDone s fails) := by
  unfold State.trainingDone
  apply Kept.ite
  · lift_lets -underBinder
    intro x0
    refine Kept.cut x0 ?_ (fun _ => ?_)
    · unfold x0
      clear x0
      apply Kept.foldl
      · intro x1
        intro x2
        intro x3
        apply State.trainFailure_kept
        assumption
      · assumption
    clear_value x0
    apply Kept.ite
    · simp only [Kept.upd]
      assumption
    · apply State.drmRun_kept
      simp only [Kept.upd]
      assumption
  · apply Kept.ite
    · lift_lets -underBinder
      intro x4
      try clear_value x4
      intro x5
      refine Kept.cut x5 ?_ (fun _ => ?_)
      · unfold x5
        clear x5
        apply Kept.foldl
        · intro x6
          intro x7
          intro x8
          apply State.trainFailure_kept
          assumption
        · assumption
      clear_value x5
      simp only [Kept.upd]
      assumption
    · assumption

theorem State.drmFenceClr_kept {s0 s : State} (mask : Nat) (hk : Kept s0 s) :
    Kept s0 (State.drmFenceClr s mask) := by
  unfold State.drmFenceClr
  lift_lets -underBinder
  intro x0
  try clear_value x0
  intro x1
  try clear_value x1
  simp only [Kept.upd]
  assumption

theorem State.readTimeout_kept {s0 s : State} (addr : Nat) (again : Bool) (hk : Kept s0 s) :
    Kept s0 (State.readTimeout s addr again) := by
  unfold State.readTimeout
  lift_lets -underBinder
  intro x0
  try clear_value x0
  intro x1
  refine Kept.cut x1 ?_ (fun _ => ?_)
  · unfold x1
    clear x1
    apply State.lasting_kept
    apply State.bump_kept
    assumption
  clear_value x1
  apply Kept.ite
  · assumption
  · apply Kept.ite
    · apply State.irqIf_kept
      simp only [Kept.upd]
      assumption
    · apply State.readRetried_kept
      assumption

theorem State.refresh_kept {s0 s : State} (chan : Nat) (hk : Kept s0 s) :
    Kept s0 (State.refresh s chan) := by
  unfold State.refresh
  apply Kept.ite
  · simp only [Kept.upd]
    assumption
  · assumption

theorem State.windowEnd_kept {s0 s : State} (hk : Kept s0 s) :
    Kept s0 (State.windowEnd s) := by
  unfold State.windowEnd
  simp only [Kept.upd]
  assumption

theorem State.mr4Read_kept {s0 s : State} (c0 : Nat) (c1 : Nat) (c2 : Nat) (c3 : Nat) (hk : Kept s0 s) :
    Kept s0 (State.mr4Read s c0 c1 c2 c3) := by
  unfold State.mr4Read
  apply Kept.ite
  · lift_lets -underBinder
    intro x0
    try clear_value x0
    intro x1
    refine Kept.cut x1 ?_ (fun _ => ?_)
    · unfold x1
      clear x1
      simp only [Kept.upd]
      assumption
    clear_value x1
    apply Kept.ite
    · apply State.logErr_kept
      apply State.bump_kept
      assumption
    · assumption
  · assumption

theorem State.neighbourRefresh_kept {s0 s : State} (addr : Nat) (acts : Nat) (hk : Kept s0 s) :
    Kept s0 (State.neighbourRefresh s addr acts) := by
  unfold State.neighbourRefresh
  apply Kept.ite
  · lift_lets -underBinder
    intro x0
    try clear_value x0
    intro x1
    try clear_value x1
    intro x2
    try clear_value x2
    intro x3
    try clear_value x3
    intro x4
    try clear_value x4
    intro x5
    intro x6
    try clear_value x6
    intro x7
    try clear_value x7
    intro x8
    try clear_value x8
    intro x9
    try clear_value x9
    intro x10
    refine Kept.cut x10 ?_ (fun _ => ?_)
    · unfold x10
      clear x10
      simp only [Kept.upd]
      assumption
    clear_value x10
    apply Kept.ite
    · apply State.bump_kept
      apply Kept.ite
      · apply State.bump_kept
        assumption
      · assumption
    · apply Kept.ite
      · apply State.bump_kept
        assumption
      · assumption
  · assumption

theorem State.setSlack_kept {s0 s : State} (n : Nat) (hk : Kept s0 s) :
    Kept s0 (State.setSlack s n) := by
  unfold State.setSlack
  simp only [Kept.upd]
  assumption

theorem State.maintenance_kept {s0 s : State} (slack : Nat) (waited : Nat) (current : Bool) (hk : Kept s0 s) :
    Kept s0 (State.maintenance s slack waited current) := by
  unfold State.maintenance
  apply Kept.ite
  · lift_lets -underBinder
    intro x0
    refine Kept.cut x0 ?_ (fun _ => ?_)
    · unfold x0
      clear x0
      apply State.setSlack_kept
      assumption
    clear_value x0
    apply Kept.ite
    · apply Kept.ite
      · simp only [Kept.upd]
        assumption
      · assumption
    · apply Kept.ite
      · apply State.bump_kept
        simp only [Kept.upd]
        assumption
      · assumption
  · assumption

theorem State.selfRefEntry_kept {s0 s : State} (slack : Nat) (hk : Kept s0 s) :
    Kept s0 (State.selfRefEntry s slack) := by
  unfold State.selfRefEntry
  lift_lets -underBinder
  intro x0
  refine Kept.cut x0 ?_ (fun _ => ?_)
  · unfold x0
    clear x0
    apply State.setSlack_kept
    assumption
  clear_value x0
  apply Kept.ite
  · apply State.bump_kept
    simp only [Kept.upd]
    assumption
  · assumption

theorem State.selfRefExit_kept {s0 s : State} (slack : Nat) (hk : Kept s0 s) :
    Kept s0 (State.selfRefExit s slack) := by
  unfold State.selfRefExit
  lift_lets -underBinder
  intro x0
  refine Kept.cut x0 ?_ (fun _ => ?_)
  · unfold x0
    clear x0
    apply State.setSlack_kept
    assumption
  clear_value x0
  apply Kept.ite
  · simp only [Kept.upd]
    assumption
  · assumption

theorem State.powerDownEntry_kept {s0 s : State} (c : Nat) (hk : Kept s0 s) :
    Kept s0 (State.powerDownEntry s c) := by
  unfold State.powerDownEntry
  apply Kept.ite
  · simp only [Kept.upd]
    assumption
  · assumption

theorem State.fchg_kept {s0 s : State} (slack : Nat) (hk : Kept s0 s) :
    Kept s0 (State.fchg s slack) := by
  unfold State.fchg
  lift_lets -underBinder
  intro x0
  refine Kept.cut x0 ?_ (fun _ => ?_)
  · unfold x0
    clear x0
    apply State.setSlack_kept
    assumption
  clear_value x0
  split
  · apply State.bump_kept
    apply State.wr_kept
    assumption
  · lift_lets -underBinder
    intro x1
    refine Kept.cut x1 ?_ (fun _ => ?_)
    · unfold x1
      clear x1
      apply State.wr_kept
      assumption
    clear_value x1
    simp only [Kept.upd]
    assumption

theorem State.fchgDone_kept {s0 s : State} (hk : Kept s0 s) :
    Kept s0 (State.fchgDone s) := by
  unfold State.fchgDone
  apply Kept.ite
  · lift_lets -underBinder
    intro x0
    try clear_value x0
    intro x1
    try clear_value x1
    intro x2
    refine Kept.cut x2 ?_ (fun _ => ?_)
    · unfold x2
      clear x2
      simp only [Kept.upd]
      assumption
    clear_value x2
    apply State.bump_kept
    apply State.wr_kept
    apply Kept.ite
    · assumption
    · apply State.bump_kept
      assumption
  · assumption

theorem State.geometry_kept {s0 s : State} (inst : Nat) (v : Word) (hk : Kept s0 s) :
    Kept s0 (State.geometry s inst v) := by
  unfold State.geometry
  lift_lets -underBinder
  intro x0
  try clear_value x0
  intro x1
  try clear_value x1
  intro x2
  refine Kept.cut x2 ?_ (fun _ => ?_)
  · unfold x2
    clear x2
    apply State.logErr_kept
    apply State.wr_kept
    assumption
  clear_value x2
  apply Kept.ite
  · assumption
  · simp only [Kept.upd]
    refine Kept.mk ?_ (fun ⟨h0, h1, h2, h3, h4, h5, h6, h7, h8, h9, h10, h11, h12, h13, h14, h15, h16, h17, h18, h19, h20, h21, h22⟩ => ⟨(by first | exact h0 | exact Memory.wf_iff.mpr ⟨(Memory.wf_iff.mp h0).1, Eq.refl _⟩), h1, h2, h3, h4, (by first | exact h5 | exact Kept.fsts (fun _ => by split <;> exact Eq.refl _) h5), h6, h7, h8, h9, h10, h11, h12, h13, h14, h15, h16, h17, h18, h19, h20, h21, h22⟩)
    assumption

theorem State.granuleFail_kept {s0 s : State} (f : GranuleFail) (hk : Kept s0 s) :
    Kept s0 (State.granuleFail s f) := by
  unfold State.granuleFail
  lift_lets -underBinder
  intro x0
  try clear_value x0
  intro x1
  refine Kept.cut x1 ?_ (fun _ => ?_)
  · unfold x1
    clear x1
    apply State.lasting_kept
    assumption
  clear_value x1
  apply Kept.ite
  · apply Kept.ite
    · assumption
    · apply KeptO.getD
      · apply State.allocPut_kept
        assumption
      · apply State.bump_kept
        assumption
  · apply State.transient_kept
    assumption

theorem State.extTestEnd_kept {s0 s : State} (r : CmdRef) (p : List Word) (fails : List GranuleFail) (hk : Kept s0 s) :
    Kept s0 (State.extTestEnd s r p fails) := by
  unfold State.extTestEnd
  lift_lets -underBinder
  intro x0
  try clear_value x0
  intro x1
  try clear_value x1
  intro x2
  try clear_value x2
  intro x3
  try clear_value x3
  intro x4
  refine Kept.cut x4 ?_ (fun _ => ?_)
  · unfold x4
    clear x4
    apply State.fill_kept
    assumption
  clear_value x4
  apply State.finish_kept
  apply Kept.foldl
  · intro x5
    intro x6
    intro x7
    apply State.granuleFail_kept
    assumption
  · assumption

theorem State.memTestExt_kept {s0 s : State} (q : Nat) (k : Nat) (fails : List GranuleFail) (hk : Kept s0 s) :
    Kept s0 (State.memTestExt s q k fails) := by
  unfold State.memTestExt
  split
  · assumption
  · apply Kept.ite
    · assumption
    · apply Kept.ite
      · apply State.extTestEnd_kept
        assumption
      · apply State.run_kept
        · intro x0
          intro x1
          intro x2
          intro x3
          split
          · apply State.finish_kept
            assumption
          · assumption
        · assumption

end Sys2Proof.Machine
end

