-- ==== Sys2Proof/Laws/KeepMgmt.lean ====
section
/-! SUPPORT. The operations of Machine/Mgmt.lean keep the waiting commands and the canonical form. -/
set_option linter.unusedVariables false
namespace Sys2Proof.Machine

theorem State.assertReset_kept {s0 s : State} (hk : Kept s0 s) : Kept s0 (State.assertReset s) := by
  unfold State.assertReset
  refine Kept.ite hk (hk.map (Eq.refl _) fun c => ?_)
  refine ⟨Eq.refl _, KMap.wf_filter _ c.2.1, ?_⟩
  and_intros <;> exact Eq.refl _

theorem State.onMain_kept {s0 s : State} (f : State → State) (hf : ∀ (x0 : State), Kept s0 x0 → Kept s0 (f x0)) (hk : Kept s0 s) :
    Kept s0 (State.onMain s f) := by
  unfold State.onMain
  apply Kept.ite
  · assumption
  · apply hf
    assumption

theorem State.safeRequest_kept {s0 s : State} (hk : Kept s0 s) :
    Kept s0 (State.safeRequest s) := by
  unfold State.safeRequest
  lift_lets -underBinder
  intro x0
  try clear_value x0
  intro x1
  refine Kept.cut x1 ?_ (fun _ => ?_)
  · unfold x1
    clear x1
    simp only [Kept.upd]
    assumption
  clear_value x1
  apply Kept.ite
  · assumption
  · apply State.safeCauseRaise_kept
    assumption

theorem State.resetMainNow_kept {s0 s : State} (hk : Kept s0 s) :
    Kept s0 (State.resetMainNow s) := by
  unfold State.resetMainNow
  apply State.crash_kept
  apply State.assertReset_kept
  apply State.irqIf_kept
  apply State.safeRequest_kept
  assumption

theorem State.silenceAct_kept {s0 s : State} (act : Nat) (hk : Kept s0 s) :
    Kept s0 (State.silenceAct s act) := by
  unfold State.silenceAct
  split
  · apply State.irqIf_kept
    apply State.safeRequest_kept
    assumption
  · apply Kept.ite
    · apply State.resetMainNow_kept
      assumption
    · assumption
  · apply State.irqIf_kept
    assumption

theorem State.heartbeat_kept {s0 s : State} (hk : Kept s0 s) :
    Kept s0 (State.heartbeat s) := by
  unfold State.heartbeat
  apply Kept.ite
  · simp only [Kept.upd]
    assumption
  · assumption

theorem State.mainUnresp_kept {s0 s : State} (hk : Kept s0 s) :
    Kept s0 (State.mainUnresp s) := by
  unfold State.mainUnresp
  apply Kept.ite
  · lift_lets -underBinder
    intro x0
    try clear_value x0
    intro x1
    refine Kept.cut x1 ?_ (fun _ => ?_)
    · unfold x1
      clear x1
      simp only [Kept.upd]
      assumption
    clear_value x1
    apply State.silenceAct_kept
    apply State.crash_kept
    apply State.bump_kept
    assumption
  · assumption

theorem State.lineSilence_kept {s0 s : State} (hk : Kept s0 s) :
    Kept s0 (State.lineSilence s) := by
  unfold State.lineSilence
  apply Kept.ite
  · assumption
  · apply State.silenceAct_kept
    assumption

theorem State.lineQuiet_kept {s0 s : State} (hk : Kept s0 s) :
    Kept s0 (State.lineQuiet s) := by
  unfold State.lineQuiet
  simp only [Kept.upd]
  assumption

theorem State.mgtCtl_kept {s0 s : State} (v : Word) (hk : Kept s0 s) :
    Kept s0 (State.mgtCtl s v) := by
  unfold State.mgtCtl
  lift_lets -underBinder
  intro x0
  try clear_value x0
  intro x1
  try clear_value x1
  intro x2
  refine Kept.cut x2 ?_ (fun _ => ?_)
  · unfold x2
    clear x2
    apply State.wr_kept
    assumption
  clear_value x2
  apply Kept.ite
  · simp only [Kept.upd]
    apply State.assertReset_kept
    apply State.safeRequest_kept
    apply Kept.ite
    · apply State.assertReset_kept
      assumption
    · assumption
  · apply Kept.ite
    · simp only [Kept.upd]
      apply Kept.ite
      · apply State.assertReset_kept
        assumption
      · assumption
    · apply Kept.ite
      · apply State.assertReset_kept
        assumption
      · assumption

theorem State.pwrReq_kept {s0 s : State} (on : Bool) (hk : Kept s0 s) :
    Kept s0 (State.pwrReq s on) := by
  unfold State.pwrReq
  apply Kept.ite
  · assumption
  · apply State.mgtCtl_kept
    assumption

theorem State.islandOn_kept {s0 s : State} (hk : Kept s0 s) :
    Kept s0 (State.islandOn s) := by
  unfold State.islandOn
  lift_lets -underBinder
  intro x0
  refine Kept.cut x0 ?_ (fun _ => ?_)
  · unfold x0
    clear x0
    apply State.assertReset_kept
    assumption
  clear_value x0
  refine Kept.mk ?_ (fun ⟨h0, h1, h2, h3, h4, h5, h6, h7, h8, h9, h10, h11, h12, h13, h14, h15, h16, h17, h18, h19, h20, h21, h22⟩ => ⟨h0, (by first | exact h1 | exact KMap.wf_filter _ h1), h2, h3, h4, h5, h6, h7, h8, h9, h10, h11, h12, h13, h14, h15, h16, h17, h18, h19, h20, h21, h22⟩)
  assumption

theorem State.islandOff_kept {s0 s : State} (hk : Kept s0 s) :
    Kept s0 (State.islandOff s) := by
  unfold State.islandOff
  simp only [Kept.upd]
  assumption

theorem State.mainPwrUp_kept {s0 s : State} (hk : Kept s0 s) :
    Kept s0 (State.mainPwrUp s) := by
  unfold State.mainPwrUp
  apply Kept.ite
  · assumption
  · simp only [Kept.upd]
    assumption

theorem State.mainPwrLoss_kept {s0 s : State} (hk : Kept s0 s) :
    Kept s0 (State.mainPwrLoss s) := by
  unfold State.mainPwrLoss
  apply Kept.ite
  · lift_lets -underBinder
    intro x0
    refine Kept.cut x0 ?_ (fun _ => ?_)
    · unfold x0
      clear x0
      apply State.assertReset_kept
      apply State.safeRequest_kept
      assumption
    clear_value x0
    apply State.crash_kept
    simp only [Kept.upd]
    assumption
  · assumption

theorem State.rstN_kept {s0 s : State} (low : Bool) (hk : Kept s0 s) :
    Kept s0 (State.rstN s low) := by
  unfold State.rstN
  lift_lets -underBinder
  intro x0
  try clear_value x0
  intro x1
  refine Kept.cut x1 ?_ (fun _ => ?_)
  · unfold x1
    clear x1
    simp only [Kept.upd]
    assumption
  clear_value x1
  apply Kept.ite
  · apply State.assertReset_kept
    assumption
  · assumption

theorem State.brownOut_kept {s0 s : State} (n : Nat) (hk : Kept s0 s) :
    Kept s0 (State.brownOut s n) := by
  unfold State.brownOut
  apply Kept.ite
  · assumption
  · apply State.safeCauseRaise_kept
    apply State.bump_kept
    apply State.wrb_kept
    assumption

theorem State.brownOutClear_kept {s0 s : State} (hk : Kept s0 s) :
    Kept s0 (State.brownOutClear s) := by
  unfold State.brownOutClear
  apply State.safeCauseGone_kept
  apply State.wr_kept
  assumption

theorem State.hostLink_kept {s0 s : State} (up : Bool) (speed : Nat) (width : Nat) (hk : Kept s0 s) :
    Kept s0 (State.hostLink s up speed width) := by
  unfold State.hostLink
  apply Kept.ite
  · lift_lets -underBinder
    intro x0
    refine Kept.cut x0 ?_ (fun _ => ?_)
    · unfold x0
      clear x0
      simp only [Kept.upd]
      assumption
    clear_value x0
    apply Kept.ite
    · apply State.bump_kept
      assumption
    · assumption
  · simp only [Kept.upd]
    assumption

theorem State.bistRow_kept {s0 s : State} (x : BistRow) (hk : Kept s0 s) :
    Kept s0 (State.bistRow s x) := by
  unfold State.bistRow
  lift_lets -underBinder
  intro x0
  try clear_value x0
  apply Kept.ite
  · apply State.modBset_kept
    assumption
  · apply State.repair_kept
    assumption

theorem State.bist_kept {s0 s : State} (rows : List BistRow) (hk : Kept s0 s) :
    Kept s0 (State.bist s rows) := by
  unfold State.bist
  lift_lets -underBinder
  intro x0
  refine Kept.cut x0 ?_ (fun _ => ?_)
  · unfold x0
    clear x0
    apply Kept.foldl
    · intro x1
      intro x2
      intro x3
      apply State.bistRow_kept
      assumption
    · refine Kept.mk ?_ (fun ⟨h0, h1, h2, h3, h4, h5, h6, h7, h8, h9, h10, h11, h12, h13, h14, h15, h16, h17, h18, h19, h20, h21, h22⟩ => ⟨(by first | exact h0 | exact Memory.wf_iff.mpr ⟨Eq.refl _, (Memory.wf_iff.mp h0).2⟩), h1, h2, h3, h4, h5, h6, h7, h8, h9, h10, h11, h12, h13, h14, h15, h16, h17, h18, h19, h20, h21, h22⟩)
      assumption
  clear_value x0
  simp only [Kept.upd]
  assumption

theorem State.tableCheck_kept {s0 s : State} (crc : Word) (hk : Kept s0 s) :
    Kept s0 (State.tableCheck s crc) := by
  unfold State.tableCheck
  apply State.wrb_kept
  apply State.wrb_kept
  apply State.wr_kept
  assumption

theorem State.firmwareUp_kept {s0 s : State} (slot : Nat) (reasonA : Nat) (reasonB : Nat) (fallback : Bool) (version : Word) (table : Word) (hk : Kept s0 s) :
    Kept s0 (State.firmwareUp s slot reasonA reasonB fallback version table) := by
  unfold State.firmwareUp
  lift_lets -underBinder
  intro x0
  refine Kept.cut x0 ?_ (fun _ => ?_)
  · unfold x0
    clear x0
    apply State.wr_kept
    assumption
  clear_value x0
  apply State.heartbeat_kept
  apply State.wr_kept
  apply State.wr_kept
  apply State.tableCheck_kept
  apply Kept.foldl
  · intro x1
    intro x2
    intro x3
    apply State.wr_kept
    apply State.wr_kept
    assumption
  · simp only [Kept.upd]
    assumption

theorem State.recoveryUp_kept {s0 s : State} (reasonA : Nat) (reasonB : Nat) (hk : Kept s0 s) :
    Kept s0 (State.recoveryUp s reasonA reasonB) := by
  unfold State.recoveryUp
  apply State.heartbeat_kept
  lift_lets -underBinder
  intro x0
  refine Kept.cut x0 ?_ (fun _ => ?_)
  · unfold x0
    clear x0
    apply State.wr_kept
    assumption
  clear_value x0
  simp only [Kept.upd]
  assumption

theorem State.bootImage_kept {s0 s : State} (readErr : Nat → Bool) (table : Word) (hk : Kept s0 s) :
    Kept s0 (State.bootImage s readErr table) := by
  unfold State.bootImage
  lift_lets -underBinder
  intro x0
  try clear_value x0
  intro x1
  intro x2
  try clear_value x2
  intro x3
  try clear_value x3
  intro x4
  apply Kept.ite
  · apply State.firmwareUp_kept
    assumption
  · apply Kept.ite
    · apply State.firmwareUp_kept
      assumption
    · apply State.recoveryUp_kept
      assumption

theorem State.bootNow_kept {s0 s : State} (rows : List BistRow) (readErrA : Bool) (readErrB : Bool) (link : Option (Nat × Nat)) (table : Word) (hk : Kept s0 s) :
    Kept s0 (State.bootNow s rows readErrA readErrB link table) := by
  unfold State.bootNow
  lift_lets -underBinder
  intro x0
  try clear_value x0
  intro x1
  refine Kept.cut x1 ?_ (fun _ => ?_)
  · unfold x1
    clear x1
    simp only [Kept.upd]
    assumption
  clear_value x1
  apply Kept.ite
  · apply State.wr_kept
    apply State.bist_kept
    assumption
  · apply State.bootImage_kept
    split
    · apply State.hostLink_kept
      apply State.bist_kept
      assumption
    · apply State.bist_kept
      assumption

theorem State.handshake_kept {s0 s : State} (stage : Nat) (tag : Nat) (grp : Option Nat) (again : Bool) (hk : Kept s0 s) :
    Kept s0 (State.handshake s stage tag grp again) := by
  unfold State.handshake
  lift_lets -underBinder
  intro x0
  refine Kept.cut x0 ?_ (fun _ => ?_)
  · unfold x0
    clear x0
    apply State.bump_kept
    assumption
  clear_value x0
  apply Kept.ite
  · apply State.transient_kept
    assumption
  · split
    · apply State.fenceGroup_kept
      apply State.logErr_kept
      apply State.bump_kept
      assumption
    · apply State.safeCauseRaise_kept
      apply State.lasting_kept
      apply State.bump_kept
      assumption

end Sys2Proof.Machine
end

