-- ==== Sys2Proof/Laws/KeepViews.lean ====
section
/-! SUPPORT. The operations of Machine/Views.lean keep the waiting commands and the canonical form. -/
set_option linter.unusedVariables false
namespace Sys2Proof.Machine

theorem latched_wf {s : State} (master : Nat) (l : List RegRef) (m : KMap Word) (h : KMap.wf m = true) :
    KMap.wf (l.foldl (fun (l : KMap Word) (p : RegRef) =>
      KMap.insert l (latchKey master (p.1.off p.2.1 p.2.2)) (s.view p.1 p.2.1 p.2.2)) m) = true := by
  induction l generalizing m with
  | nil => exact h
  | cons p t ih => exact ih _ (KMap.wf_insert _ _ _ h)

theorem State.readReg_kept {s0 s : State} (master off : Nat) (hk : Kept s0 s) : Kept s0 (s.readReg master off).2 := by
  unfold State.readReg
  split
  · exact hk
  · exact Kept.mk hk (fun ⟨h0, h1, h2, h3, h4, h5, h6, h7, h8, h9, h10, h11, h12, h13, h14, h15, h16, h17, h18, h19, h20, h21, h22⟩ =>
    ⟨h0, h1, h2, h3, h4, h5, h6, h7, h8, h9, h10, h11, h12, h13, h14, h15, h16, h17, h18, h19, h20, h21, latched_wf _ _ _ h22⟩)

theorem State.readRegs_kept {s0 s : State} (master off n : Nat) (hk : Kept s0 s) : Kept s0 (s.readRegs master off n).2 := by
  induction n generalizing s off with
  | zero => exact hk
  | succ n ih => exact ih _ (State.readReg_kept _ _ hk)

end Sys2Proof.Machine
end

