-- ==== Sys2Proof/Laws/KeepRegs.lean ====
section
/-! SUPPORT. The operations of Machine/Regs.lean keep the waiting commands and the canonical form. -/
set_option linter.unusedVariables false
namespace Sys2Proof.Machine

theorem State.cntReset_kept {s0 s : State} (v : Word) (hk : Kept s0 s) :
    Kept s0 (State.cntReset s v) := by
  unfold State.cntReset
  lift_lets -underBinder
  intro x0
  refine Kept.cut x0 ?_ (fun _ => ?_)
  · unfold x0
    clear x0
    refine Kept.mk ?_ (fun ⟨h0, h1, h2, h3, h4, h5, h6, h7, h8, h9, h10, h11, h12, h13, h14, h15, h16, h17, h18, h19, h20, h21, h22⟩ => ⟨h0, (by first | exact h1 | exact KMap.wf_filter _ h1), h2, (by first | exact h3 | exact Kept.fsts (fun _ => Eq.refl _) h3), h4, h5, h6, h7, h8, h9, h10, h11, h12, h13, h14, h15, h16, h17, h18, h19, h20, h21, h22⟩)
    assumption
  clear_value x0
  apply Kept.ite
  · simp only [Kept.upd]
    refine Kept.mk ?_ (fun ⟨h0, h1, h2, h3, h4, h5, h6, h7, h8, h9, h10, h11, h12, h13, h14, h15, h16, h17, h18, h19, h20, h21, h22⟩ => ⟨h0, (by first | exact h1 | exact KMap.wf_filter _ h1), h2, (by first | exact h3 | exact Kept.fsts (fun _ => Eq.refl _) h3), h4, h5, h6, h7, h8, h9, h10, h11, h12, h13, h14, h15, h16, h17, h18, h19, h20, h21, h22⟩)
    assumption
  · assumption

theorem State.blockSet_kept {s0 s : State} (b : Nat) (on : Bool) (hk : Kept s0 s) :
    Kept s0 (State.blockSet s b on) := by
  unfold State.blockSet
  split
  · apply Kept.ite
    · apply State.tbStart_kept
      assumption
    · apply State.tbStop_kept
      assumption
  · apply State.pllAEnable_kept
    assumption
  · apply State.pllEnable_kept
    assumption
  · apply State.pllEnable_kept
    assumption
  · apply State.enAsk_kept
    · intro x0
      intro x1
      intro x2
      apply State.dacBlock_kept
      assumption
    · assumption
  · apply State.enAsk_kept
    · intro x3
      intro x4
      intro x5
      apply State.dacBlock_kept
      assumption
    · assumption
  · apply State.enAsk_kept
    · intro x6
      intro x7
      intro x8
      apply State.dacBlock_kept
      assumption
    · assumption
  · apply State.patEnable_kept
    assumption
  · apply State.binEnable_kept
    assumption
  · apply State.evtEnable_kept
    assumption
  · apply Kept.ite
    · apply State.netStart_kept
      assumption
    · apply State.netStop_kept
      assumption
  · apply Kept.ite
    · apply State.chnStart_kept
      assumption
    · apply State.chnStop_kept
      assumption
  · apply State.memEnable_kept
    assumption
  · apply State.drmEnable_kept
    assumption

theorem State.sysEn_kept {s0 s : State} (v : Word) (hk : Kept s0 s) :
    Kept s0 (State.sysEn s v) := by
  unfold State.sysEn
  lift_lets -underBinder
  intro x0
  try clear_value x0
  intro x1
  refine Kept.cut x1 ?_ (fun _ => ?_)
  · unfold x1
    clear x1
    apply State.wr_kept
    assumption
  clear_value x1
  apply Kept.ite
  · apply Kept.foldl
    · intro x2
      intro x3
      intro x4
      apply Kept.ite
      · apply State.blockSet_kept
        assumption
      · assumption
    · assumption
  · apply State.slackRestart_kept
    apply Kept.foldl
    · intro x5
      intro x6
      intro x7
      apply Kept.ite
      · apply State.blockSet_kept
        assumption
      · assumption
    · assumption

theorem State.enChanged_kept {s0 s : State} (old : Word) (new : Word) (b : Nat) (hk : Kept s0 s) :
    Kept s0 (State.enChanged s old new b) := by
  unfold State.enChanged
  apply Kept.ite
  · assumption
  · apply State.slackRestart_kept
    assumption

theorem State.laneCtl_kept {s0 s : State} (n : Nat) (v : Word) (hk : Kept s0 s) :
    Kept s0 (State.laneCtl s n v) := by
  unfold State.laneCtl
  lift_lets -underBinder
  intro x0
  try clear_value x0
  intro x1
  try clear_value x1
  intro x2
  refine Kept.cut x2 ?_ (fun _ => ?_)
  · unfold x2
    clear x2
    apply Kept.ite
    · assumption
    · apply State.modPin_kept
      assumption
  clear_value x2
  apply State.enChanged_kept
  apply State.settlePairs_kept
  apply Kept.ite
  · apply Kept.ite
    · apply Kept.ite
      · apply State.setPair_kept
        apply State.wr_kept
        assumption
      · apply State.wr_kept
        assumption
    · apply State.pinEnable_kept
      apply Kept.ite
      · apply State.setPair_kept
        apply State.wr_kept
        assumption
      · apply State.wr_kept
        assumption
  · apply Kept.ite
    · apply State.pinEnable_kept
      apply Kept.ite
      · apply State.setPair_kept
        apply State.wr_kept
        assumption
      · apply State.wr_kept
        assumption
    · apply Kept.ite
      · apply State.setPair_kept
        apply State.wr_kept
        assumption
      · apply State.wr_kept
        assumption

theorem State.chanCtl_kept {s0 s : State} (c : Nat) (v : Word) (hk : Kept s0 s) :
    Kept s0 (State.chanCtl s c v) := by
  unfold State.chanCtl
  lift_lets -underBinder
  intro x0
  try clear_value x0
  intro x1
  refine Kept.cut x1 ?_ (fun _ => ?_)
  · unfold x1
    clear x1
    apply State.wr_kept
    assumption
  clear_value x1
  apply State.enChanged_kept
  apply Kept.ite
  · assumption
  · apply State.modChan_kept
    assumption

theorem State.binCfg_kept {s0 s : State} (n : Nat) (v : Word) (hk : Kept s0 s) :
    Kept s0 (State.binCfg s n v) := by
  unfold State.binCfg
  lift_lets -underBinder
  intro x0
  try clear_value x0
  intro x1
  refine Kept.cut x1 ?_ (fun _ => ?_)
  · unfold x1
    clear x1
    apply State.wr_kept
    assumption
  clear_value x1
  apply State.enChanged_kept
  apply Kept.ite
  · apply Kept.ite
    · apply State.binBegin_kept
      assumption
    · apply State.binEnd_kept
      assumption
  · assumption

theorem State.ckCtl_kept {s0 s : State} (n : Nat) (v : Word) (hk : Kept s0 s) :
    Kept s0 (State.ckCtl s n v) := by
  unfold State.ckCtl
  lift_lets -underBinder
  intro x0
  try clear_value x0
  intro x1
  refine Kept.cut x1 ?_ (fun _ => ?_)
  · unfold x1
    clear x1
    apply State.wr_kept
    assumption
  clear_value x1
  apply State.enChanged_kept
  apply Kept.ite
  · apply State.ckSet_kept
    assumption
  · assumption

theorem State.consume_kept {s0 s : State} (hk : Kept s0 s) :
    Kept s0 (State.consume s) := by
  unfold State.consume
  lift_lets -underBinder
  intro x0
  try clear_value x0
  intro x1
  try clear_value x1
  intro x2
  try clear_value x2
  apply Kept.ite
  · simp only [Kept.upd]
    assumption
  · assumption

theorem State.errCmd_kept {s0 s : State} (q8 : Bool) (v : Word) (hk : Kept s0 s) :
    Kept s0 (State.errCmd s q8 v) := by
  unfold State.errCmd
  lift_lets -underBinder
  intro x0
  refine Kept.cut x0 ?_ (fun _ => ?_)
  · unfold x0
    clear x0
    apply Kept.ite
    · apply State.safeClr_kept
      assumption
    · assumption
  clear_value x0
  apply State.gfenceClr_kept
  apply Kept.ite
  · apply State.consume_kept
    assumption
  · assumption

theorem State.adcCmd_kept {s0 s : State} (u : Nat) (v : Word) (hk : Kept s0 s) :
    Kept s0 (State.adcCmd s u v) := by
  unfold State.adcCmd
  lift_lets -underBinder
  intro x0
  refine Kept.cut x0 ?_ (fun _ => ?_)
  · unfold x0
    clear x0
    apply Kept.ite
    · apply State.adcApply_kept
      assumption
    · assumption
  clear_value x0
  apply Kept.ite
  · apply State.writeTrigger_kept
    apply Kept.ite
    · apply State.adcFenceClr_kept
      assumption
    · assumption
  · apply Kept.ite
    · apply State.adcFenceClr_kept
      assumption
    · assumption

theorem State.drmCmd_kept {s0 s : State} (v : Word) (hk : Kept s0 s) :
    Kept s0 (State.drmCmd s v) := by
  unfold State.drmCmd
  lift_lets -underBinder
  intro x0
  refine Kept.cut x0 ?_ (fun _ => ?_)
  · unfold x0
    clear x0
    apply Kept.ite
    · apply State.fchg_kept
      assumption
    · assumption
  clear_value x0
  apply Kept.ite
  · apply State.drmFenceClr_kept
    assumption
  · assumption

theorem State.timingSet_kept {s0 s : State} (r : RegId) (t : Nat) (v : Word) (hk : Kept s0 s) :
    Kept s0 (State.timingSet s r t v) := by
  unfold State.timingSet
  apply Kept.ite
  · assumption
  · lift_lets -underBinder
    intro x0
    refine Kept.cut x0 ?_ (fun _ => ?_)
    · unfold x0
      clear x0
      apply State.wr_kept
      assumption
    clear_value x0
    simp only [Kept.upd]
    assumption

theorem State.writeNow_kept {s0 s : State} (q8 : Bool) (w : Writer) (ref : RegRef) (val : Word) (hk : Kept s0 s) :
    Kept s0 (State.writeNow s q8 w ref val) := by
  unfold State.writeNow
  split
  lift_lets -underBinder
  intro x0
  try clear_value x0
  intro x1
  try clear_value x1
  split
  · apply State.sysEn_kept
    assumption
  · apply State.wr_kept
    assumption
  · apply State.cntReset_kept
    assumption
  · apply State.modPll_kept
    assumption
  · apply State.modPll_kept
    assumption
  · apply State.modPll_kept
    assumption
  · apply State.modPll_kept
    assumption
  · apply Kept.ite
    · apply State.pllApply_kept
      assumption
    · assumption
  · apply State.pllStart_kept
    apply State.wr_kept
    assumption
  · apply State.pllStart_kept
    apply State.wr_kept
    assumption
  · apply State.ckCtl_kept
    assumption
  · apply State.groupEnable_kept
    apply State.wr_kept
    assumption
  · lift_lets -underBinder
    intro x2
    refine Kept.cut x2 ?_ (fun _ => ?_)
    · unfold x2
      clear x2
      apply Kept.ite
      · apply State.modGrp_kept
        assumption
      · assumption
    clear_value x2
    apply Kept.ite
    · apply State.releaseSet_kept
      apply State.wrb_kept
      assumption
    · apply State.wrb_kept
      assumption
  · apply State.softEvents_kept
    assumption
  · apply State.tmArm_kept
    assumption
  · apply State.chanCtl_kept
    assumption
  · apply State.dacFenceClr_kept
    assumption
  · apply State.patFenceClr_kept
    assumption
  · apply State.patFenceClr_kept
    assumption
  · apply State.patOvrClr_kept
    assumption
  · apply State.patOvrClr_kept
    assumption
  · apply State.laneCtl_kept
    assumption
  · apply State.enChanged_kept
    apply State.markerEnable_kept
    apply State.wr_kept
    assumption
  · apply State.binCfg_kept
    assumption
  · apply State.trigAll_kept
    assumption
  · apply KeptO.getD
    · apply State.capSize_kept
      assumption
    · assumption
  · apply State.adcCtl_kept
    assumption
  · apply State.adcCmd_kept
    assumption
  · apply State.modAdc_kept
    assumption
  · apply State.modAdc_kept
    assumption
  · apply State.modAdc_kept
    assumption
  · lift_lets -underBinder
    intro x3
    refine Kept.cut x3 ?_ (fun _ => ?_)
    · unfold x3
      clear x3
      apply State.wr_kept
      assumption
    clear_value x3
    apply Kept.ite
    · assumption
    · apply State.slackRestart_kept
      apply State.netPortEn_kept
      assumption
  · lift_lets -underBinder
    intro x4
    refine Kept.cut x4 ?_ (fun _ => ?_)
    · unfold x4
      clear x4
      apply State.wr_kept
      assumption
    clear_value x4
    apply Kept.ite
    · assumption
    · apply State.slackRestart_kept
      apply State.chnPortEn_kept
      assumption
  · apply State.castle_kept
    assumption
  · apply State.wr_kept
    assumption
  · apply State.setOwner_kept
    assumption
  · apply State.setPower_kept
    assumption
  · apply State.drmCmd_kept
    assumption
  · apply State.timingSet_kept
    assumption
  · apply State.timingSet_kept
    assumption
  · apply State.timingSet_kept
    assumption
  · apply State.timingSet_kept
    assumption
  · apply State.mgtCtl_kept
    assumption
  · apply State.errCmd_kept
    assumption
  · split
    · apply State.geometry_kept
      assumption
    · apply Kept.ite
      · apply State.applyOne_kept
        assumption
      · apply Kept.ite
        · apply State.wr_kept
          assumption
        · assumption

theorem State.writeCfg_kept {s0 s : State} (ref : RegRef) (val : Word) (hk : Kept s0 s) :
    Kept s0 (State.writeCfg s ref val) := by
  unfold State.writeCfg
  split
  · apply State.wr_kept
    assumption
  · assumption

theorem State.stageDirect_kept {s0 s : State} (g : Nat) (off : Nat) (val : Word) (hk : Kept s0 s) :
    Kept s0 (State.stageDirect s g off val) := by
  unfold State.stageDirect
  lift_lets -underBinder
  intro x0
  try clear_value x0
  apply Kept.ite
  · apply State.addition_kept
    assumption
  · apply State.bump_kept
    assumption

theorem State.directTaken_kept {s0 s : State} (ref : RegRef) (off : Nat) (val : Word) (hk : Kept s0 s) :
    Kept s0 (State.directTaken s ref off val) := by
  unfold State.directTaken
  lift_lets -underBinder
  intro x0
  refine Kept.cut x0 ?_ (fun _ => ?_)
  · unfold x0
    clear x0
    apply State.writeCfg_kept
    assumption
  clear_value x0
  split
  · apply State.stageDirect_kept
    assumption
  · apply Kept.ite
    · apply State.bump_kept
      assumption
    · apply State.confineAt_kept
      apply State.writeNow_kept
      assumption

theorem State.directWrite_kept {s0 s : State} (off : Nat) (val : Word) (be : Nat) (hk : Kept s0 s) :
    Kept s0 (State.directWrite s off val be) := by
  unfold State.directWrite
  lift_lets -underBinder
  intro x0
  try clear_value x0
  intro x1
  try clear_value x1
  apply Kept.ite
  · apply State.ignored_kept
    assumption
  · split
    · lift_lets -underBinder
      intro x2
      refine Kept.cut x2 ?_ (fun _ => ?_)
      · unfold x2
        clear x2
        apply Kept.ite
        · apply State.bump_kept
          assumption
        · assumption
      clear_value x2
      apply State.ignored_kept
      split
      · apply State.writeNow_kept
        apply Kept.ite
        · apply State.draw_kept
          assumption
        · assumption
      · apply Kept.ite
        · apply State.draw_kept
          assumption
        · assumption
    · apply State.ignored_kept
      assumption
    · apply State.directTaken_kept
      assumption
    · assumption

theorem State.directBit_kept {s0 s : State} (r : RegId) (i : Nat) (b : Nat) (on : Bool) (hk : Kept s0 s) :
    Kept s0 (State.directBit s r i b on) := by
  unfold State.directBit
  apply State.directWrite_kept
  assumption

theorem State.queueBase_kept {s0 s : State} (q : Nat) (reg : Nat) (val : Word) (hk : Kept s0 s) :
    Kept s0 (State.queueBase s q reg val) := by
  unfold State.queueBase
  apply Kept.ite
  · apply State.ignored2_kept
    assumption
  · lift_lets -underBinder
    intro x0
    intro x1
    apply State.modQ_kept
    assumption

theorem State.msixWrite_kept {s0 s : State} (off : Nat) (val : Word) (hk : Kept s0 s) :
    Kept s0 (State.msixWrite s off val) := by
  unfold State.msixWrite
  lift_lets -underBinder
  intro x0
  try clear_value x0
  intro x1
  try clear_value x1
  intro x2
  refine Kept.cut x2 ?_ (fun _ => ?_)
  · unfold x2
    clear x2
    refine Kept.mk ?_ (fun ⟨h0, h1, h2, h3, h4, h5, h6, h7, h8, h9, h10, h11, h12, h13, h14, h15, h16, h17, h18, h19, h20, h21, h22⟩ => ⟨h0, h1, (by first | exact h2 | exact KMap.wf_put _ _ _ _ h2), h3, h4, h5, h6, h7, h8, h9, h10, h11, h12, h13, h14, h15, h16, h17, h18, h19, h20, h21, h22⟩)
    assumption
  clear_value x2
  apply Kept.ite
  · apply State.put_kept
    simp only [Kept.upd]
    assumption
  · assumption

theorem State.bar2Write_kept {s0 s : State} (off : Nat) (val : Word) (be : Nat) (hk : Kept s0 s) :
    Kept s0 (State.bar2Write s off val be) := by
  unfold State.bar2Write
  lift_lets -underBinder
  intro x0
  try clear_value x0
  intro x1
  try clear_value x1
  intro x2
  try clear_value x2
  apply Kept.ite
  · apply Kept.ite
    · apply State.ignored2_kept
      assumption
    · split
      · apply State.sqTail_kept
        assumption
      · apply State.cqHead_kept
        assumption
      · apply State.queueBase_kept
        assumption
      · apply State.queueBase_kept
        assumption
      · apply State.queueBase_kept
        assumption
      · apply State.queueBase_kept
        assumption
      · apply State.writeQCtl_kept
        assumption
      · apply State.ignored2_kept
        assumption
  · apply Kept.ite
    · apply State.msixWrite_kept
      assumption
    · assumption

theorem State.msixFlush_kept {s0 s : State} (hk : Kept s0 s) :
    Kept s0 (State.msixFlush s) := by
  unfold State.msixFlush
  apply Kept.ite
  · lift_lets -underBinder
    intro x0
    try clear_value x0
    apply Kept.foldl
    · intro x1
      intro x2
      intro x3
      apply State.put_kept
      assumption
    · simp only [Kept.upd]
      assumption
  · assumption

theorem State.cfgWrite_kept {s0 s : State} (off : Nat) (val : Word) (hk : Kept s0 s) :
    Kept s0 (State.cfgWrite s off val) := by
  unfold State.cfgWrite
  lift_lets -underBinder
  intro x0
  try clear_value x0
  intro x1
  try clear_value x1
  apply Kept.ite
  · apply Kept.ite
    · simp only [Kept.upd]
      assumption
    · assumption
  · apply Kept.ite
    · simp only [Kept.upd]
      assumption
    · apply Kept.ite
      · apply State.msixFlush_kept
        simp only [Kept.upd]
        assumption
      · assumption

theorem State.write32_kept {s0 s : State} (sp : Space) (off : Nat) (val : Word) (be : Nat) (hk : Kept s0 s) :
    Kept s0 (State.write32 s sp off val be) := by
  unfold State.write32
  split
  · apply State.directWrite_kept
    assumption
  · apply State.bar2Write_kept
    assumption
  · apply Kept.ite
    · apply State.cfgWrite_kept
      assumption
    · assumption

theorem State.registerWrite_kept {s0 s : State} (sp : Space) (off : Nat) (val : Word) (be : Nat) (hi : Option Word) (hk : Kept s0 s) :
    Kept s0 (State.registerWrite s sp off val be hi) := by
  unfold State.registerWrite
  lift_lets -underBinder
  intro x0
  refine Kept.cut x0 ?_ (fun _ => ?_)
  · unfold x0
    clear x0
    apply State.write32_kept
    assumption
  clear_value x0
  split
  · apply State.write32_kept
    assumption
  · assumption

theorem State.latchRead_kept {s0 s : State} (sp : Space) (off : Nat) (wide : Bool) (hk : Kept s0 s) :
    Kept s0 (State.latchRead s sp off wide) := by
  unfold State.latchRead
  lift_lets -underBinder
  intro x0
  try clear_value x0
  split
  · lift_lets -underBinder
    intro x1
    refine Kept.cut x1.2 ?_ (fun _ => ?_)
    · unfold x1
      clear x1
      apply State.readRegs_kept
      assumption
    clear_value x1
    apply State.put_kept
    with_reducible assumption
  · apply State.put_kept
    assumption
  · apply State.put_kept
    assumption

theorem State.writePairs_kept {s0 s : State} (q8 : Bool) (w : Writer) (l : List (Nat × Word)) (hk : Kept s0 s) :
    Kept s0 (s.writePairs q8 w l).1 := by
  induction l generalizing s with
  | nil => exact hk
  | cons p t ih =>
    unfold State.writePairs
    dsimp only
    split
    · exact ih hk
    · split
      · exact ih (State.writeCfg_kept _ _ hk)
      · exact ih (State.writeNow_kept _ _ _ _ (State.writeCfg_kept _ _ hk))

theorem State.applyPairs_kept {s0 s : State} (q8 : Bool) (r : CmdRef) (ps : List (Nat × Word)) (result : List Word) (bad : List Word) (hk : Kept s0 s) :
    Kept s0 (State.applyPairs s q8 r ps result bad) := by
  unfold State.applyPairs
  lift_lets -underBinder
  intro x0
  refine Kept.cut x0.1 ?_ (fun _ => ?_)
  · unfold x0
    clear x0
    apply State.writePairs_kept
    assumption
  clear_value x0
  apply Kept.ite
  · apply State.finish_kept
    assumption
  · apply Kept.ite
    · apply Kept.foldl
      · intro x1
        intro x2
        intro x3
        apply State.addition_kept
        assumption
      · apply Kept.foldl
        · intro x4
          intro x5
          intro x6
          apply State.confineAt_kept
          assumption
        · with_reducible assumption
    · apply State.finish_kept
      apply Kept.foldl
      · intro x7
        intro x8
        intro x9
        apply State.addition_kept
        assumption
      · apply Kept.foldl
        · intro x10
          intro x11
          intro x12
          apply State.confineAt_kept
          assumption
        · with_reducible assumption

theorem State.refuse_kept {s0 s : State} (q8 : Bool) (off : Nat) (cause : Nat) (val : Word) (hk : Kept s0 s) :
    Kept s0 (State.refuse s q8 off cause val) := by
  unfold State.refuse
  lift_lets -underBinder
  intro x0
  try clear_value x0
  intro x1
  refine Kept.cut x1 ?_ (fun _ => ?_)
  · unfold x1
    clear x1
    apply Kept.ite
    · apply State.bump_kept
      assumption
    · assumption
  clear_value x1
  apply State.ignored_kept
  split
  · apply Kept.ite
    · apply State.draw_kept
      assumption
    · assumption
  · assumption

theorem State.regReadBody_kept {s0 s : State} (c : Cmd) (r : CmdRef) (hk : Kept s0 s) :
    Kept s0 (State.regReadBody s c r) := by
  unfold State.regReadBody
  lift_lets -underBinder
  intro x0
  try clear_value x0
  intro x1
  try clear_value x1
  intro x2
  refine Kept.cut x2.2 ?_ (fun _ => ?_)
  · unfold x2
    clear x2
    apply State.readRegs_kept
    assumption
  clear_value x2
  apply Kept.ite
  · apply State.finish_kept
    assumption
  · apply State.finish_kept
    with_reducible assumption

theorem State.regWriteBody_kept {s0 s : State} (c : Cmd) (r : CmdRef) (hk : Kept s0 s) :
    Kept s0 (State.regWriteBody s c r) := by
  unfold State.regWriteBody
  lift_lets -underBinder
  intro x0
  try clear_value x0
  intro x1
  try clear_value x1
  apply Kept.ite
  · apply State.finish_kept
    assumption
  · split
    · apply State.finish_kept
      apply State.refuse_kept
      assumption
    · apply State.applyPairs_kept
      assumption

theorem State.regMaskedBody_kept {s0 s : State} (c : Cmd) (r : CmdRef) (hk : Kept s0 s) :
    Kept s0 (State.regMaskedBody s c r) := by
  unfold State.regMaskedBody
  lift_lets -underBinder
  intro x0
  try clear_value x0
  intro x1
  try clear_value x1
  intro x2
  try clear_value x2
  intro x3
  try clear_value x3
  apply Kept.ite
  · apply State.finish_kept
    assumption
  · split
    · apply State.finish_kept
      apply State.refuse_kept
      assumption
    · lift_lets -underBinder
      intro x4
      refine Kept.cut x4.1 ?_ (fun _ => ?_)
      · unfold x4
        clear x4
        apply State.writePairs_kept
        assumption
      clear_value x4
      apply State.applyPairs_kept
      assumption

theorem State.regRead_kept {s0 s : State} (q : Nat) (k : Nat) (hk : Kept s0 s) :
    Kept s0 (State.regRead s q k) := by
  unfold State.regRead
  apply State.run_kept
  · intro x0
    intro x1
    intro x2
    intro x3
    apply State.regReadBody_kept
    assumption
  · assumption

theorem State.regWrite_kept {s0 s : State} (q : Nat) (k : Nat) (hk : Kept s0 s) :
    Kept s0 (State.regWrite s q k) := by
  unfold State.regWrite
  apply State.run_kept
  · intro x0
    intro x1
    intro x2
    intro x3
    apply State.regWriteBody_kept
    assumption
  · assumption

theorem State.regWriteMasked_kept {s0 s : State} (q : Nat) (k : Nat) (hk : Kept s0 s) :
    Kept s0 (State.regWriteMasked s q k) := by
  unfold State.regWriteMasked
  apply State.run_kept
  · intro x0
    intro x1
    intro x2
    intro x3
    apply State.regMaskedBody_kept
    assumption
  · assumption

theorem State.echo_kept {s0 s : State} (q : Nat) (k : Nat) (hk : Kept s0 s) :
    Kept s0 (State.echo s q k) := by
  unfold State.echo
  apply State.run_kept
  · intro x0
    intro x1
    intro x2
    intro x3
    apply State.finish_kept
    assumption
  · assumption

theorem State.identify_kept {s0 s : State} (q : Nat) (k : Nat) (hk : Kept s0 s) :
    Kept s0 (State.identify s q k) := by
  unfold State.identify
  apply State.run_kept
  · intro x0
    intro x1
    intro x2
    intro x3
    apply State.finish_kept
    assumption
  · assumption

theorem State.safeStateCmd_kept {s0 s : State} (q : Nat) (k : Nat) (hk : Kept s0 s) :
    Kept s0 (State.safeStateCmd s q k) := by
  unfold State.safeStateCmd
  apply State.run_kept
  · intro x0
    intro x1
    intro x2
    intro x3
    apply State.finish_kept
    apply State.safeCauseRaise_kept
    assumption
  · assumption

theorem State.resetMainCmd_kept {s0 s : State} (q : Nat) (k : Nat) (hk : Kept s0 s) :
    Kept s0 (State.resetMainCmd s q k) := by
  unfold State.resetMainCmd
  apply State.run_kept
  · intro x0
    intro x1
    intro x2
    intro x3
    apply State.finish_kept
    assumption
  · assumption

theorem State.slackReport_kept {s0 s : State} (v : Nat) (hk : Kept s0 s) :
    Kept s0 (State.slackReport s v) := by
  unfold State.slackReport
  lift_lets -underBinder
  intro x0
  try clear_value x0
  intro x1
  try clear_value x1
  intro x2
  try clear_value x2
  intro x3
  refine Kept.cut x3 ?_ (fun _ => ?_)
  · unfold x3
    clear x3
    apply State.wr_kept
    assumption
  clear_value x3
  apply Kept.ite
  · apply State.logErr_kept
    apply State.bump_kept
    apply State.wr_kept
    assumption
  · apply State.wr_kept
    assumption

theorem State.slackWindow_kept {s0 s : State} (ratio : Nat) (hk : Kept s0 s) :
    Kept s0 (State.slackWindow s ratio) := by
  unfold State.slackWindow
  lift_lets -underBinder
  intro x0
  try clear_value x0
  intro x1
  refine Kept.cut x1 ?_ (fun _ => ?_)
  · unfold x1
    clear x1
    apply State.reach_kept
    assumption
  clear_value x1
  apply State.slackReport_kept
  simp only [Kept.upd]
  assumption

end Sys2Proof.Machine
end

