-- ==== Sys2Proof/Laws/KeepIsland.lean ====
section
/-! SUPPORT. The operations of Machine/Island.lean keep the waiting commands and the canonical form. -/
set_option linter.unusedVariables false
namespace Sys2Proof.Machine

theorem State.replySlot_kept {s0 s : State} (hk : Kept s0 s) :
    Kept s0 (State.replySlot s) := by
  unfold State.replySlot
  split
  · apply State.put_kept
    simp only [Kept.upd]
    assumption
  · apply State.put_kept
    assumption

theorem State.frameError_kept {s0 s : State} (f : List Byte) (hk : Kept s0 s) :
    Kept s0 (State.frameError s f) := by
  unfold State.frameError
  apply Kept.ite
  · assumption
  · apply State.bump_kept
    assumption

theorem State.frameReceived_kept {s0 s : State} (hk : Kept s0 s) :
    Kept s0 (State.frameReceived s) := by
  unfold State.frameReceived
  lift_lets -underBinder
  intro x0
  refine Kept.cut x0 ?_ (fun _ => ?_)
  · unfold x0
    clear x0
    apply State.bump_kept
    assumption
  clear_value x0
  simp only [Kept.upd]
  assumption

theorem State.pollFrame_kept {s0 s : State} (f : List Byte) (hk : Kept s0 s) :
    Kept s0 (State.pollFrame s f) := by
  unfold State.pollFrame
  split
  · apply Kept.ite
    · assumption
    · apply State.replySlot_kept
      apply State.frameReceived_kept
      assumption
  · assumption

theorem State.islandReply_kept {s0 s : State} (c : Cmd) (r : Reply) (hk : Kept s0 s) :
    Kept s0 (State.islandReply s c r) := by
  unfold State.islandReply
  apply Kept.ite
  · simp only [Kept.upd]
    assumption
  · simp only [Kept.upd]
    assumption

theorem State.islandDone_kept {s0 s : State} (c : Cmd) (status : Nat) (result : List Word) (hk : Kept s0 s) :
    Kept s0 (State.islandDone s c status result) := by
  unfold State.islandDone
  lift_lets -underBinder
  intro x0
  try clear_value x0
  intro x1
  try clear_value x1
  intro x2
  refine Kept.cut x2 ?_ (fun _ => ?_)
  · unfold x2
    clear x2
    apply Kept.ite
    · simp only [Kept.upd]
      assumption
    · assumption
  clear_value x2
  apply State.islandReply_kept
  assumption

theorem State.islandRepeat_kept {s0 s : State} (c : Cmd) (e : MgtEntry) (hk : Kept s0 s) :
    Kept s0 (State.islandRepeat s c e) := by
  unfold State.islandRepeat
  apply State.islandReply_kept
  assumption

theorem State.islandRefuse_kept {s0 s : State} (off : Nat) (cause : Nat) (val : Word) (hk : Kept s0 s) :
    Kept s0 (State.islandRefuse s off cause val) := by
  unfold State.islandRefuse
  apply Kept.ite
  · apply State.bump_kept
    assumption
  · apply State.refuse_kept
    assumption

theorem State.islandRegs_kept {s0 s : State} (c : Cmd) (hk : Kept s0 s) : Kept s0 (s.islandRegs c).2.2 := by
  unfold State.islandRegs
  dsimp only
  split
  · exact hk
  · split
    · split
      · exact hk
      · exact State.readRegs_kept _ _ _ hk
    · split
      · split
        · exact State.islandRefuse_kept _ _ _ hk
        · exact State.writePairs_kept _ _ _ hk
      · split
        · exact State.islandRefuse_kept _ _ _ hk
        · exact State.writePairs_kept _ _ _ hk

theorem State.preempt_kept {s0 s : State} (c : CmdRef) (hk : Kept s0 s) :
    Kept s0 (State.preempt s c) := by
  unfold State.preempt
  lift_lets -underBinder
  intro x0
  try clear_value x0
  split
  · apply Kept.ite
    · apply State.bump_kept
      apply State.finish_kept
      assumption
    · assumption
  · assumption

theorem State.islandSafe_kept {s0 s : State} (c : Cmd) (claims : List CmdRef) (hk : Kept s0 s) :
    Kept s0 (State.islandSafe s c claims) := by
  unfold State.islandSafe
  apply Kept.ite
  · apply State.islandDone_kept
    assumption
  · lift_lets -underBinder
    intro x0
    refine Kept.cut x0 ?_ (fun _ => ?_)
    · unfold x0
      clear x0
      apply Kept.foldl
      · intro x1
        intro x2
        intro x3
        apply State.preempt_kept
        assumption
      · assumption
    clear_value x0
    apply State.islandDone_kept
    apply State.irqIf_kept
    apply State.safeRequest_kept
    assumption

theorem State.islandReset_kept {s0 s : State} (c : Cmd) (packet : List Byte) (hk : Kept s0 s) :
    Kept s0 (State.islandReset s c packet) := by
  unfold State.islandReset
  apply Kept.ite
  · apply State.islandDone_kept
    assumption
  · lift_lets -underBinder
    intro x0
    refine Kept.cut x0 ?_ (fun _ => ?_)
    · unfold x0
      clear x0
      apply State.resetMainNow_kept
      assumption
    clear_value x0
    simp only [Kept.upd]
    assumption

theorem State.islandRun_kept {s0 s : State} (c : Cmd) (packet : List Byte) (claims : List CmdRef) (hk : Kept s0 s) :
    Kept s0 (State.islandRun s c packet claims) := by
  unfold State.islandRun
  apply Kept.ite
  · apply State.islandDone_kept
    assumption
  · apply Kept.ite
    · apply State.islandDone_kept
      assumption
    · apply Kept.ite
      · apply State.islandDone_kept
        assumption
      · split
        · apply State.islandDone_kept
          assumption
        · apply State.islandDone_kept
          assumption
        · apply State.islandReset_kept
          assumption
        · apply State.islandSafe_kept
          assumption
        · lift_lets -underBinder
          intro x0
          refine Kept.cut x0.2.2 ?_ (fun _ => ?_)
          · unfold x0
            clear x0
            apply State.islandRegs_kept
            assumption
          clear_value x0
          apply State.islandDone_kept
          with_reducible assumption

theorem State.islandExec_kept {s0 s : State} (c : Cmd) (packet : List Byte) (claims : List CmdRef) (hk : Kept s0 s) :
    Kept s0 (State.islandExec s c packet claims) := by
  unfold State.islandExec
  split
  · apply State.islandRepeat_kept
    assumption
  · apply Kept.ite
    · simp only [Kept.upd]
      assumption
    · apply State.islandRun_kept
      assumption

theorem State.mgtPacket_kept {s0 s : State} (packet : List Byte) (claims : List CmdRef) (hk : Kept s0 s) :
    Kept s0 (State.mgtPacket s packet claims) := by
  unfold State.mgtPacket
  lift_lets -underBinder
  intro x0
  try clear_value x0
  intro x1
  try clear_value x1
  apply Kept.ite
  · apply State.islandDone_kept
    assumption
  · apply Kept.ite
    · apply State.islandExec_kept
      assumption
    · apply Kept.ite
      · apply State.accept_kept
        assumption
      · apply State.islandReply_kept
        assumption

theorem State.commandFrame_kept {s0 s : State} (f : List Byte) (claims : List CmdRef) (hk : Kept s0 s) :
    Kept s0 (State.commandFrame s f claims) := by
  unfold State.commandFrame
  split
  · apply Kept.ite
    · assumption
    · apply State.replySlot_kept
      apply State.mgtPacket_kept
      apply State.frameReceived_kept
      assumption
  · assumption

theorem State.islandOr_kept {s0 s : State} (q : Nat) (packet : List Byte) (op : Nat) (claims : List CmdRef) (main : State → State) (hmain : ∀ (x0 : State), Kept s0 x0 → Kept s0 (main x0)) (hk : Kept s0 s) :
    Kept s0 (State.islandOr s q packet op claims main) := by
  unfold State.islandOr
  apply Kept.ite
  · apply Kept.ite
    · assumption
    · apply State.mgtPacket_kept
      assumption
  · apply State.onMain_kept
    · with_reducible assumption
    · assumption

theorem State.safeState_kept {s0 s : State} (q : Nat) (k : Nat) (packet : List Byte) (claims : List CmdRef) (hk : Kept s0 s) :
    Kept s0 (State.safeState s q k packet claims) := by
  unfold State.safeState
  apply State.islandOr_kept
  · intro x0
    intro x1
    apply State.safeStateCmd_kept
    assumption
  · assumption

theorem State.resetMain_kept {s0 s : State} (q : Nat) (k : Nat) (packet : List Byte) (hk : Kept s0 s) :
    Kept s0 (State.resetMain s q k packet) := by
  unfold State.resetMain
  apply State.islandOr_kept
  · intro x0
    intro x1
    apply State.resetMainCmd_kept
    assumption
  · assumption

theorem State.resetAnswer_kept {s0 s : State} (packet : List Byte) (hk : Kept s0 s) :
    Kept s0 (State.resetAnswer s packet) := by
  unfold State.resetAnswer
  lift_lets -underBinder
  intro x0
  try clear_value x0
  split
  · apply State.islandRepeat_kept
    assumption
  · apply State.islandDone_kept
    assumption

theorem State.boot_kept {s0 s : State} (rows : List BistRow) (readErrA : Bool) (readErrB : Bool) (link : Option (Nat × Nat)) (table : Word) (hk : Kept s0 s) :
    Kept s0 (State.boot s rows readErrA readErrB link table) := by
  unfold State.boot
  apply Kept.ite
  · lift_lets -underBinder
    intro x0
    try clear_value x0
    intro x1
    refine Kept.cut x1 ?_ (fun _ => ?_)
    · unfold x1
      clear x1
      apply Kept.foldl
      · intro x2
        intro x3
        intro x4
        apply State.resetAnswer_kept
        assumption
      · simp only [Kept.upd]
        assumption
    clear_value x1
    apply State.bootNow_kept
    assumption
  · assumption

theorem State.flitCheckFail_kept {s0 s : State} (g : Nat) (t : Nat) (again : Bool) (hk : Kept s0 s) :
    Kept s0 (State.flitCheckFail s g t again) := by
  unfold State.flitCheckFail
  lift_lets -underBinder
  intro x0
  try clear_value x0
  apply Kept.ite
  · apply State.discardFrame_kept
    apply State.lasting_kept
    assumption
  · apply State.transient_kept
    assumption

end Sys2Proof.Machine
end

