-- ==== Sys2Proof/Laws/KeepOperands.lean ====
section
/-! SUPPORT. The operations of Machine/Operands.lean keep the waiting commands and the canonical form. -/
set_option linter.unusedVariables false
namespace Sys2Proof.Machine

theorem State.enable_kept {s0 s : State} (x : EnTarget) (on : Bool) (hk : Kept s0 s) :
    Kept s0 (State.enable s x on) := by
  unfold State.enable
  lift_lets -underBinder
  intro x0
  try clear_value x0
  apply State.directBit_kept
  assumption

theorem State.readBad_kept {s0 s : State} (b : BadWord) (hk : Kept s0 s) :
    Kept s0 (State.readBad s b) := by
  unfold State.readBad
  apply Kept.ite
  · apply State.memUe_kept
    assumption
  · apply State.memCe_kept
    assumption

theorem State.sineUe_kept {s0 s : State} (sine : Option BadWord) (hk : Kept s0 s) :
    Kept s0 (State.sineUe s sine) := by
  unfold State.sineUe
  split
  · apply Kept.ite
    · apply State.readBad_kept
      assumption
    · assumption
  · assumption

theorem State.sampleEdge_kept {s0 s : State} (g : Nat) (t : Nat) (absent : Bool) (stale : Bool) (sine : Option BadWord) (hk : Kept s0 s) :
    Kept s0 (State.sampleEdge s g t absent stale sine) := by
  unfold State.sampleEdge
  apply State.groupSample_kept
  apply State.sineUe_kept
  assumption

theorem State.sampleZero_kept {s0 s : State} (g : Nat) (t : Nat) (absent : Bool) (sine : Option BadWord) (hk : Kept s0 s) :
    Kept s0 (State.sampleZero s g t absent sine) := by
  unfold State.sampleZero
  apply Kept.ite
  · apply State.firstSample_kept
    apply State.sineUe_kept
    assumption
  · assumption

theorem State.targetHeldUe_kept {s0 s : State} (g : Nat) (e : Nat) (t : Nat) (bad : Option BadWord) (hk : Kept s0 s) :
    Kept s0 (State.targetHeldUe s g e t bad) := by
  unfold State.targetHeldUe
  split
  · lift_lets -underBinder
    intro x0
    try clear_value x0
    apply Kept.ite
    · apply State.targetHeld_kept
      assumption
    · apply State.targetHeld_kept
      apply Kept.foldl
      · intro x1
        intro x2
        intro x3
        apply Kept.ite
        · apply State.fenceSeg_kept
          assumption
        · assumption
      · apply State.readBad_kept
        assumption
  · apply State.targetHeld_kept
    assumption

theorem State.underrunUe_kept {s0 s : State} (g : Nat) (cause : Nat) (t : Nat) (ue : Option Nat) (hk : Kept s0 s) :
    Kept s0 (State.underrunUe s g cause t ue) := by
  unfold State.underrunUe
  split
  · apply Kept.ite
    · apply State.underrunAt_kept
      apply State.memUe_kept
      assumption
    · apply State.underrunAt_kept
      assumption
  · apply State.underrunAt_kept
    assumption

theorem State.eventFlit_kept {s0 s : State} (p : Nat) (f : List Byte) (hk : Kept s0 s) :
    Kept s0 (State.eventFlit s p f) := by
  unfold State.eventFlit
  apply Kept.ite
  · apply State.dataFlit_kept
    assumption
  · assumption

theorem State.foreignTimeout_kept {s0 s : State} (hk : Kept s0 s) :
    Kept s0 (State.foreignTimeout s) := by
  unfold State.foreignTimeout
  apply Kept.ite
  · lift_lets -underBinder
    intro x0
    refine Kept.cut x0 ?_ (fun _ => ?_)
    · unfold x0
      clear x0
      apply State.reach_kept
      assumption
    clear_value x0
    simp only [Kept.upd]
    assumption
  · assumption

theorem State.timeoutCmd_kept {s0 s : State} (q : Nat) (k : Nat) (hk : Kept s0 s) :
    Kept s0 (State.timeoutCmd s q k) := by
  unfold State.timeoutCmd
  apply State.memSettle_kept
  apply State.commandTimeout_kept
  assumption

theorem State.fchgWrite_kept {s0 s : State} (slack : Nat) (hk : Kept s0 s) :
    Kept s0 (State.fchgWrite s slack) := by
  unfold State.fchgWrite
  apply State.directWrite_kept
  apply State.setSlack_kept
  assumption

theorem State.geometryWrite_kept {s0 s : State} (inst : Nat) (v : Word) (hk : Kept s0 s) :
    Kept s0 (State.geometryWrite s inst v) := by
  unfold State.geometryWrite
  apply State.directWrite_kept
  assumption

theorem State.writeHalf_kept {s0 s : State} (lo : RegId) (hi : RegId) (high : Bool) (v : Word) (hk : Kept s0 s) :
    Kept s0 (State.writeHalf s lo hi high v) := by
  unfold State.writeHalf
  apply State.directWrite_kept
  assumption

theorem State.idle_kept {s0 s : State} (hk : Kept s0 s) :
    Kept s0 (State.idle s) := by
  unfold State.idle
  apply State.reach_kept
  assumption

end Sys2Proof.Machine
end

