-- ==== Sys2Proof/Laws/State.lean ====
section
/-!
SUPPORT. What each update of State does to each field, and what reading an instance, a register, a table entry or a byte gives
after it was written.
-/
namespace Sys2Proof.Machine

/-! ### `wr` -/

section wr
variable (s : State) (r : RegId) (i j : Nat) (v : Word)

@[simp] theorem State.wr_pending : (s.wr r i j v).pending = s.pending := rfl
@[simp] theorem State.wr_regs : (s.wr r i j v).regs = KMap.put s.regs (r.off i j) v (r.resetAt i j) := rfl
@[simp] theorem State.wr_msix : (s.wr r i j v).msix = s.msix := rfl
@[simp] theorem State.wr_msixPend : (s.wr r i j v).msixPend = s.msixPend := rfl
@[simp] theorem State.wr_queues : (s.wr r i j v).queues = s.queues := rfl
@[simp] theorem State.wr_tb : (s.wr r i j v).tb = s.tb := rfl
@[simp] theorem State.wr_plls : (s.wr r i j v).plls = s.plls := rfl
@[simp] theorem State.wr_segs : (s.wr r i j v).segs = s.segs := rfl
@[simp] theorem State.wr_groups : (s.wr r i j v).groups = s.groups := rfl
@[simp] theorem State.wr_tables : (s.wr r i j v).tables = s.tables := rfl
@[simp] theorem State.wr_partials : (s.wr r i j v).partials = s.partials := rfl
@[simp] theorem State.wr_chans : (s.wr r i j v).chans = s.chans := rfl
@[simp] theorem State.wr_wins : (s.wr r i j v).wins = s.wins := rfl
@[simp] theorem State.wr_dacs : (s.wr r i j v).dacs = s.dacs := rfl
@[simp] theorem State.wr_pins : (s.wr r i j v).pins = s.pins := rfl
@[simp] theorem State.wr_pairs : (s.wr r i j v).pairs = s.pairs := rfl
@[simp] theorem State.wr_markers : (s.wr r i j v).markers = s.markers := rfl
@[simp] theorem State.wr_bins : (s.wr r i j v).bins = s.bins := rfl
@[simp] theorem State.wr_ev : (s.wr r i j v).ev = s.ev := rfl
@[simp] theorem State.wr_err : (s.wr r i j v).err = s.err := rfl
@[simp] theorem State.wr_onchip : (s.wr r i j v).onchip = s.onchip := rfl
@[simp] theorem State.wr_ext : (s.wr r i j v).ext = s.ext := rfl
@[simp] theorem State.wr_fwReady : (s.wr r i j v).fwReady = s.fwReady := rfl
@[simp] theorem State.wr_bsets : (s.wr r i j v).bsets = s.bsets := rfl
@[simp] theorem State.wr_mem : (s.wr r i j v).mem = s.mem := rfl
@[simp] theorem State.wr_drm : (s.wr r i j v).drm = s.drm := rfl
@[simp] theorem State.wr_adcs : (s.wr r i j v).adcs = s.adcs := rfl
@[simp] theorem State.wr_netPorts : (s.wr r i j v).netPorts = s.netPorts := rfl
@[simp] theorem State.wr_streams : (s.wr r i j v).streams = s.streams := rfl
@[simp] theorem State.wr_subs : (s.wr r i j v).subs = s.subs := rfl
@[simp] theorem State.wr_ptp : (s.wr r i j v).ptp = s.ptp := rfl
@[simp] theorem State.wr_chn : (s.wr r i j v).chn = s.chn := rfl
@[simp] theorem State.wr_ports : (s.wr r i j v).ports = s.ports := rfl
@[simp] theorem State.wr_mgt : (s.wr r i j v).mgt = s.mgt := rfl
@[simp] theorem State.wr_fw : (s.wr r i j v).fw = s.fw := rfl
@[simp] theorem State.wr_link : (s.wr r i j v).link = s.link := rfl
@[simp] theorem State.wr_latches : (s.wr r i j v).latches = s.latches := rfl
@[simp] theorem State.wr_drawn : (s.wr r i j v).drawn = s.drawn := rfl
@[simp] theorem State.wr_pci : (s.wr r i j v).pci = s.pci := rfl
@[simp] theorem State.wr_slackFrom : (s.wr r i j v).slackFrom = s.slackFrom := rfl
@[simp] theorem State.wr_enWait : (s.wr r i j v).enWait = s.enWait := rfl
@[simp] theorem State.wr_sent : (s.wr r i j v).sent = s.sent := rfl

end wr

/-! ### `setQ` -/

section setQ
variable (s : State) (i : Nat) (x : Queue)

@[simp] theorem State.setQ_pending : (s.setQ i x).pending = s.pending := rfl
@[simp] theorem State.setQ_regs : (s.setQ i x).regs = s.regs := rfl
@[simp] theorem State.setQ_msix : (s.setQ i x).msix = s.msix := rfl
@[simp] theorem State.setQ_msixPend : (s.setQ i x).msixPend = s.msixPend := rfl
@[simp] theorem State.setQ_queues : (s.setQ i x).queues = KMap.insert s.queues i x := rfl
@[simp] theorem State.setQ_tb : (s.setQ i x).tb = s.tb := rfl
@[simp] theorem State.setQ_plls : (s.setQ i x).plls = s.plls := rfl
@[simp] theorem State.setQ_segs : (s.setQ i x).segs = s.segs := rfl
@[simp] theorem State.setQ_groups : (s.setQ i x).groups = s.groups := rfl
@[simp] theorem State.setQ_tables : (s.setQ i x).tables = s.tables := rfl
@[simp] theorem State.setQ_partials : (s.setQ i x).partials = s.partials := rfl
@[simp] theorem State.setQ_chans : (s.setQ i x).chans = s.chans := rfl
@[simp] theorem State.setQ_wins : (s.setQ i x).wins = s.wins := rfl
@[simp] theorem State.setQ_dacs : (s.setQ i x).dacs = s.dacs := rfl
@[simp] theorem State.setQ_pins : (s.setQ i x).pins = s.pins := rfl
@[simp] theorem State.setQ_pairs : (s.setQ i x).pairs = s.pairs := rfl
@[simp] theorem State.setQ_markers : (s.setQ i x).markers = s.markers := rfl
@[simp] theorem State.setQ_bins : (s.setQ i x).bins = s.bins := rfl
@[simp] theorem State.setQ_ev : (s.setQ i x).ev = s.ev := rfl
@[simp] theorem State.setQ_err : (s.setQ i x).err = s.err := rfl
@[simp] theorem State.setQ_onchip : (s.setQ i x).onchip = s.onchip := rfl
@[simp] theorem State.setQ_ext : (s.setQ i x).ext = s.ext := rfl
@[simp] theorem State.setQ_fwReady : (s.setQ i x).fwReady = s.fwReady := rfl
@[simp] theorem State.setQ_bsets : (s.setQ i x).bsets = s.bsets := rfl
@[simp] theorem State.setQ_mem : (s.setQ i x).mem = s.mem := rfl
@[simp] theorem State.setQ_drm : (s.setQ i x).drm = s.drm := rfl
@[simp] theorem State.setQ_adcs : (s.setQ i x).adcs = s.adcs := rfl
@[simp] theorem State.setQ_netPorts : (s.setQ i x).netPorts = s.netPorts := rfl
@[simp] theorem State.setQ_streams : (s.setQ i x).streams = s.streams := rfl
@[simp] theorem State.setQ_subs : (s.setQ i x).subs = s.subs := rfl
@[simp] theorem State.setQ_ptp : (s.setQ i x).ptp = s.ptp := rfl
@[simp] theorem State.setQ_chn : (s.setQ i x).chn = s.chn := rfl
@[simp] theorem State.setQ_ports : (s.setQ i x).ports = s.ports := rfl
@[simp] theorem State.setQ_mgt : (s.setQ i x).mgt = s.mgt := rfl
@[simp] theorem State.setQ_fw : (s.setQ i x).fw = s.fw := rfl
@[simp] theorem State.setQ_link : (s.setQ i x).link = s.link := rfl
@[simp] theorem State.setQ_latches : (s.setQ i x).latches = s.latches := rfl
@[simp] theorem State.setQ_drawn : (s.setQ i x).drawn = s.drawn := rfl
@[simp] theorem State.setQ_pci : (s.setQ i x).pci = s.pci := rfl
@[simp] theorem State.setQ_slackFrom : (s.setQ i x).slackFrom = s.slackFrom := rfl
@[simp] theorem State.setQ_enWait : (s.setQ i x).enWait = s.enWait := rfl
@[simp] theorem State.setQ_sent : (s.setQ i x).sent = s.sent := rfl

end setQ

/-! ### `setPll` -/

section setPll
variable (s : State) (i : Nat) (x : Pll)

@[simp] theorem State.setPll_pending : (s.setPll i x).pending = s.pending := rfl
@[simp] theorem State.setPll_regs : (s.setPll i x).regs = s.regs := rfl
@[simp] theorem State.setPll_msix : (s.setPll i x).msix = s.msix := rfl
@[simp] theorem State.setPll_msixPend : (s.setPll i x).msixPend = s.msixPend := rfl
@[simp] theorem State.setPll_queues : (s.setPll i x).queues = s.queues := rfl
@[simp] theorem State.setPll_tb : (s.setPll i x).tb = s.tb := rfl
@[simp] theorem State.setPll_plls : (s.setPll i x).plls = KMap.insert s.plls i x := rfl
@[simp] theorem State.setPll_segs : (s.setPll i x).segs = s.segs := rfl
@[simp] theorem State.setPll_groups : (s.setPll i x).groups = s.groups := rfl
@[simp] theorem State.setPll_tables : (s.setPll i x).tables = s.tables := rfl
@[simp] theorem State.setPll_partials : (s.setPll i x).partials = s.partials := rfl
@[simp] theorem State.setPll_chans : (s.setPll i x).chans = s.chans := rfl
@[simp] theorem State.setPll_wins : (s.setPll i x).wins = s.wins := rfl
@[simp] theorem State.setPll_dacs : (s.setPll i x).dacs = s.dacs := rfl
@[simp] theorem State.setPll_pins : (s.setPll i x).pins = s.pins := rfl
@[simp] theorem State.setPll_pairs : (s.setPll i x).pairs = s.pairs := rfl
@[simp] theorem State.setPll_markers : (s.setPll i x).markers = s.markers := rfl
@[simp] theorem State.setPll_bins : (s.setPll i x).bins = s.bins := rfl
@[simp] theorem State.setPll_ev : (s.setPll i x).ev = s.ev := rfl
@[simp] theorem State.setPll_err : (s.setPll i x).err = s.err := rfl
@[simp] theorem State.setPll_onchip : (s.setPll i x).onchip = s.onchip := rfl
@[simp] theorem State.setPll_ext : (s.setPll i x).ext = s.ext := rfl
@[simp] theorem State.setPll_fwReady : (s.setPll i x).fwReady = s.fwReady := rfl
@[simp] theorem State.setPll_bsets : (s.setPll i x).bsets = s.bsets := rfl
@[simp] theorem State.setPll_mem : (s.setPll i x).mem = s.mem := rfl
@[simp] theorem State.setPll_drm : (s.setPll i x).drm = s.drm := rfl
@[simp] theorem State.setPll_adcs : (s.setPll i x).adcs = s.adcs := rfl
@[simp] theorem State.setPll_netPorts : (s.setPll i x).netPorts = s.netPorts := rfl
@[simp] theorem State.setPll_streams : (s.setPll i x).streams = s.streams := rfl
@[simp] theorem State.setPll_subs : (s.setPll i x).subs = s.subs := rfl
@[simp] theorem State.setPll_ptp : (s.setPll i x).ptp = s.ptp := rfl
@[simp] theorem State.setPll_chn : (s.setPll i x).chn = s.chn := rfl
@[simp] theorem State.setPll_ports : (s.setPll i x).ports = s.ports := rfl
@[simp] theorem State.setPll_mgt : (s.setPll i x).mgt = s.mgt := rfl
@[simp] theorem State.setPll_fw : (s.setPll i x).fw = s.fw := rfl
@[simp] theorem State.setPll_link : (s.setPll i x).link = s.link := rfl
@[simp] theorem State.setPll_latches : (s.setPll i x).latches = s.latches := rfl
@[simp] theorem State.setPll_drawn : (s.setPll i x).drawn = s.drawn := rfl
@[simp] theorem State.setPll_pci : (s.setPll i x).pci = s.pci := rfl
@[simp] theorem State.setPll_slackFrom : (s.setPll i x).slackFrom = s.slackFrom := rfl
@[simp] theorem State.setPll_enWait : (s.setPll i x).enWait = s.enWait := rfl
@[simp] theorem State.setPll_sent : (s.setPll i x).sent = s.sent := rfl

end setPll

/-! ### `setSeg` -/

section setSeg
variable (s : State) (i : Nat) (x : Segment)

@[simp] theorem State.setSeg_pending : (s.setSeg i x).pending = s.pending := rfl
@[simp] theorem State.setSeg_regs : (s.setSeg i x).regs = s.regs := rfl
@[simp] theorem State.setSeg_msix : (s.setSeg i x).msix = s.msix := rfl
@[simp] theorem State.setSeg_msixPend : (s.setSeg i x).msixPend = s.msixPend := rfl
@[simp] theorem State.setSeg_queues : (s.setSeg i x).queues = s.queues := rfl
@[simp] theorem State.setSeg_tb : (s.setSeg i x).tb = s.tb := rfl
@[simp] theorem State.setSeg_plls : (s.setSeg i x).plls = s.plls := rfl
@[simp] theorem State.setSeg_segs : (s.setSeg i x).segs = KMap.insert s.segs i x := rfl
@[simp] theorem State.setSeg_groups : (s.setSeg i x).groups = s.groups := rfl
@[simp] theorem State.setSeg_tables : (s.setSeg i x).tables = s.tables := rfl
@[simp] theorem State.setSeg_partials : (s.setSeg i x).partials = s.partials := rfl
@[simp] theorem State.setSeg_chans : (s.setSeg i x).chans = s.chans := rfl
@[simp] theorem State.setSeg_wins : (s.setSeg i x).wins = s.wins := rfl
@[simp] theorem State.setSeg_dacs : (s.setSeg i x).dacs = s.dacs := rfl
@[simp] theorem State.setSeg_pins : (s.setSeg i x).pins = s.pins := rfl
@[simp] theorem State.setSeg_pairs : (s.setSeg i x).pairs = s.pairs := rfl
@[simp] theorem State.setSeg_markers : (s.setSeg i x).markers = s.markers := rfl
@[simp] theorem State.setSeg_bins : (s.setSeg i x).bins = s.bins := rfl
@[simp] theorem State.setSeg_ev : (s.setSeg i x).ev = s.ev := rfl
@[simp] theorem State.setSeg_err : (s.setSeg i x).err = s.err := rfl
@[simp] theorem State.setSeg_onchip : (s.setSeg i x).onchip = s.onchip := rfl
@[simp] theorem State.setSeg_ext : (s.setSeg i x).ext = s.ext := rfl
@[simp] theorem State.setSeg_fwReady : (s.setSeg i x).fwReady = s.fwReady := rfl
@[simp] theorem State.setSeg_bsets : (s.setSeg i x).bsets = s.bsets := rfl
@[simp] theorem State.setSeg_mem : (s.setSeg i x).mem = s.mem := rfl
@[simp] theorem State.setSeg_drm : (s.setSeg i x).drm = s.drm := rfl
@[simp] theorem State.setSeg_adcs : (s.setSeg i x).adcs = s.adcs := rfl
@[simp] theorem State.setSeg_netPorts : (s.setSeg i x).netPorts = s.netPorts := rfl
@[simp] theorem State.setSeg_streams : (s.setSeg i x).streams = s.streams := rfl
@[simp] theorem State.setSeg_subs : (s.setSeg i x).subs = s.subs := rfl
@[simp] theorem State.setSeg_ptp : (s.setSeg i x).ptp = s.ptp := rfl
@[simp] theorem State.setSeg_chn : (s.setSeg i x).chn = s.chn := rfl
@[simp] theorem State.setSeg_ports : (s.setSeg i x).ports = s.ports := rfl
@[simp] theorem State.setSeg_mgt : (s.setSeg i x).mgt = s.mgt := rfl
@[simp] theorem State.setSeg_fw : (s.setSeg i x).fw = s.fw := rfl
@[simp] theorem State.setSeg_link : (s.setSeg i x).link = s.link := rfl
@[simp] theorem State.setSeg_latches : (s.setSeg i x).latches = s.latches := rfl
@[simp] theorem State.setSeg_drawn : (s.setSeg i x).drawn = s.drawn := rfl
@[simp] theorem State.setSeg_pci : (s.setSeg i x).pci = s.pci := rfl
@[simp] theorem State.setSeg_slackFrom : (s.setSeg i x).slackFrom = s.slackFrom := rfl
@[simp] theorem State.setSeg_enWait : (s.setSeg i x).enWait = s.enWait := rfl
@[simp] theorem State.setSeg_sent : (s.setSeg i x).sent = s.sent := rfl

end setSeg

/-! ### `setGrp` -/

section setGrp
variable (s : State) (i : Nat) (x : Group)

@[simp] theorem State.setGrp_pending : (s.setGrp i x).pending = s.pending := rfl
@[simp] theorem State.setGrp_regs : (s.setGrp i x).regs = s.regs := rfl
@[simp] theorem State.setGrp_msix : (s.setGrp i x).msix = s.msix := rfl
@[simp] theorem State.setGrp_msixPend : (s.setGrp i x).msixPend = s.msixPend := rfl
@[simp] theorem State.setGrp_queues : (s.setGrp i x).queues = s.queues := rfl
@[simp] theorem State.setGrp_tb : (s.setGrp i x).tb = s.tb := rfl
@[simp] theorem State.setGrp_plls : (s.setGrp i x).plls = s.plls := rfl
@[simp] theorem State.setGrp_segs : (s.setGrp i x).segs = s.segs := rfl
@[simp] theorem State.setGrp_groups : (s.setGrp i x).groups = KMap.insert s.groups i x := rfl
@[simp] theorem State.setGrp_tables : (s.setGrp i x).tables = s.tables := rfl
@[simp] theorem State.setGrp_partials : (s.setGrp i x).partials = s.partials := rfl
@[simp] theorem State.setGrp_chans : (s.setGrp i x).chans = s.chans := rfl
@[simp] theorem State.setGrp_wins : (s.setGrp i x).wins = s.wins := rfl
@[simp] theorem State.setGrp_dacs : (s.setGrp i x).dacs = s.dacs := rfl
@[simp] theorem State.setGrp_pins : (s.setGrp i x).pins = s.pins := rfl
@[simp] theorem State.setGrp_pairs : (s.setGrp i x).pairs = s.pairs := rfl
@[simp] theorem State.setGrp_markers : (s.setGrp i x).markers = s.markers := rfl
@[simp] theorem State.setGrp_bins : (s.setGrp i x).bins = s.bins := rfl
@[simp] theorem State.setGrp_ev : (s.setGrp i x).ev = s.ev := rfl
@[simp] theorem State.setGrp_err : (s.setGrp i x).err = s.err := rfl
@[simp] theorem State.setGrp_onchip : (s.setGrp i x).onchip = s.onchip := rfl
@[simp] theorem State.setGrp_ext : (s.setGrp i x).ext = s.ext := rfl
@[simp] theorem State.setGrp_fwReady : (s.setGrp i x).fwReady = s.fwReady := rfl
@[simp] theorem State.setGrp_bsets : (s.setGrp i x).bsets = s.bsets := rfl
@[simp] theorem State.setGrp_mem : (s.setGrp i x).mem = s.mem := rfl
@[simp] theorem State.setGrp_drm : (s.setGrp i x).drm = s.drm := rfl
@[simp] theorem State.setGrp_adcs : (s.setGrp i x).adcs = s.adcs := rfl
@[simp] theorem State.setGrp_netPorts : (s.setGrp i x).netPorts = s.netPorts := rfl
@[simp] theorem State.setGrp_streams : (s.setGrp i x).streams = s.streams := rfl
@[simp] theorem State.setGrp_subs : (s.setGrp i x).subs = s.subs := rfl
@[simp] theorem State.setGrp_ptp : (s.setGrp i x).ptp = s.ptp := rfl
@[simp] theorem State.setGrp_chn : (s.setGrp i x).chn = s.chn := rfl
@[simp] theorem State.setGrp_ports : (s.setGrp i x).ports = s.ports := rfl
@[simp] theorem State.setGrp_mgt : (s.setGrp i x).mgt = s.mgt := rfl
@[simp] theorem State.setGrp_fw : (s.setGrp i x).fw = s.fw := rfl
@[simp] theorem State.setGrp_link : (s.setGrp i x).link = s.link := rfl
@[simp] theorem State.setGrp_latches : (s.setGrp i x).latches = s.latches := rfl
@[simp] theorem State.setGrp_drawn : (s.setGrp i x).drawn = s.drawn := rfl
@[simp] theorem State.setGrp_pci : (s.setGrp i x).pci = s.pci := rfl
@[simp] theorem State.setGrp_slackFrom : (s.setGrp i x).slackFrom = s.slackFrom := rfl
@[simp] theorem State.setGrp_enWait : (s.setGrp i x).enWait = s.enWait := rfl
@[simp] theorem State.setGrp_sent : (s.setGrp i x).sent = s.sent := rfl

end setGrp

/-! ### `setPrt` -/

section setPrt
variable (s : State) (i : Nat) (x : Partial)

@[simp] theorem State.setPrt_pending : (s.setPrt i x).pending = s.pending := rfl
@[simp] theorem State.setPrt_regs : (s.setPrt i x).regs = s.regs := rfl
@[simp] theorem State.setPrt_msix : (s.setPrt i x).msix = s.msix := rfl
@[simp] theorem State.setPrt_msixPend : (s.setPrt i x).msixPend = s.msixPend := rfl
@[simp] theorem State.setPrt_queues : (s.setPrt i x).queues = s.queues := rfl
@[simp] theorem State.setPrt_tb : (s.setPrt i x).tb = s.tb := rfl
@[simp] theorem State.setPrt_plls : (s.setPrt i x).plls = s.plls := rfl
@[simp] theorem State.setPrt_segs : (s.setPrt i x).segs = s.segs := rfl
@[simp] theorem State.setPrt_groups : (s.setPrt i x).groups = s.groups := rfl
@[simp] theorem State.setPrt_tables : (s.setPrt i x).tables = s.tables := rfl
@[simp] theorem State.setPrt_partials : (s.setPrt i x).partials = KMap.insert s.partials i x := rfl
@[simp] theorem State.setPrt_chans : (s.setPrt i x).chans = s.chans := rfl
@[simp] theorem State.setPrt_wins : (s.setPrt i x).wins = s.wins := rfl
@[simp] theorem State.setPrt_dacs : (s.setPrt i x).dacs = s.dacs := rfl
@[simp] theorem State.setPrt_pins : (s.setPrt i x).pins = s.pins := rfl
@[simp] theorem State.setPrt_pairs : (s.setPrt i x).pairs = s.pairs := rfl
@[simp] theorem State.setPrt_markers : (s.setPrt i x).markers = s.markers := rfl
@[simp] theorem State.setPrt_bins : (s.setPrt i x).bins = s.bins := rfl
@[simp] theorem State.setPrt_ev : (s.setPrt i x).ev = s.ev := rfl
@[simp] theorem State.setPrt_err : (s.setPrt i x).err = s.err := rfl
@[simp] theorem State.setPrt_onchip : (s.setPrt i x).onchip = s.onchip := rfl
@[simp] theorem State.setPrt_ext : (s.setPrt i x).ext = s.ext := rfl
@[simp] theorem State.setPrt_fwReady : (s.setPrt i x).fwReady = s.fwReady := rfl
@[simp] theorem State.setPrt_bsets : (s.setPrt i x).bsets = s.bsets := rfl
@[simp] theorem State.setPrt_mem : (s.setPrt i x).mem = s.mem := rfl
@[simp] theorem State.setPrt_drm : (s.setPrt i x).drm = s.drm := rfl
@[simp] theorem State.setPrt_adcs : (s.setPrt i x).adcs = s.adcs := rfl
@[simp] theorem State.setPrt_netPorts : (s.setPrt i x).netPorts = s.netPorts := rfl
@[simp] theorem State.setPrt_streams : (s.setPrt i x).streams = s.streams := rfl
@[simp] theorem State.setPrt_subs : (s.setPrt i x).subs = s.subs := rfl
@[simp] theorem State.setPrt_ptp : (s.setPrt i x).ptp = s.ptp := rfl
@[simp] theorem State.setPrt_chn : (s.setPrt i x).chn = s.chn := rfl
@[simp] theorem State.setPrt_ports : (s.setPrt i x).ports = s.ports := rfl
@[simp] theorem State.setPrt_mgt : (s.setPrt i x).mgt = s.mgt := rfl
@[simp] theorem State.setPrt_fw : (s.setPrt i x).fw = s.fw := rfl
@[simp] theorem State.setPrt_link : (s.setPrt i x).link = s.link := rfl
@[simp] theorem State.setPrt_latches : (s.setPrt i x).latches = s.latches := rfl
@[simp] theorem State.setPrt_drawn : (s.setPrt i x).drawn = s.drawn := rfl
@[simp] theorem State.setPrt_pci : (s.setPrt i x).pci = s.pci := rfl
@[simp] theorem State.setPrt_slackFrom : (s.setPrt i x).slackFrom = s.slackFrom := rfl
@[simp] theorem State.setPrt_enWait : (s.setPrt i x).enWait = s.enWait := rfl
@[simp] theorem State.setPrt_sent : (s.setPrt i x).sent = s.sent := rfl

end setPrt

/-! ### `setChan` -/

section setChan
variable (s : State) (i : Nat) (x : Channel)

@[simp] theorem State.setChan_pending : (s.setChan i x).pending = s.pending := rfl
@[simp] theorem State.setChan_regs : (s.setChan i x).regs = s.regs := rfl
@[simp] theorem State.setChan_msix : (s.setChan i x).msix = s.msix := rfl
@[simp] theorem State.setChan_msixPend : (s.setChan i x).msixPend = s.msixPend := rfl
@[simp] theorem State.setChan_queues : (s.setChan i x).queues = s.queues := rfl
@[simp] theorem State.setChan_tb : (s.setChan i x).tb = s.tb := rfl
@[simp] theorem State.setChan_plls : (s.setChan i x).plls = s.plls := rfl
@[simp] theorem State.setChan_segs : (s.setChan i x).segs = s.segs := rfl
@[simp] theorem State.setChan_groups : (s.setChan i x).groups = s.groups := rfl
@[simp] theorem State.setChan_tables : (s.setChan i x).tables = s.tables := rfl
@[simp] theorem State.setChan_partials : (s.setChan i x).partials = s.partials := rfl
@[simp] theorem State.setChan_chans : (s.setChan i x).chans = KMap.insert s.chans i x := rfl
@[simp] theorem State.setChan_wins : (s.setChan i x).wins = s.wins := rfl
@[simp] theorem State.setChan_dacs : (s.setChan i x).dacs = s.dacs := rfl
@[simp] theorem State.setChan_pins : (s.setChan i x).pins = s.pins := rfl
@[simp] theorem State.setChan_pairs : (s.setChan i x).pairs = s.pairs := rfl
@[simp] theorem State.setChan_markers : (s.setChan i x).markers = s.markers := rfl
@[simp] theorem State.setChan_bins : (s.setChan i x).bins = s.bins := rfl
@[simp] theorem State.setChan_ev : (s.setChan i x).ev = s.ev := rfl
@[simp] theorem State.setChan_err : (s.setChan i x).err = s.err := rfl
@[simp] theorem State.setChan_onchip : (s.setChan i x).onchip = s.onchip := rfl
@[simp] theorem State.setChan_ext : (s.setChan i x).ext = s.ext := rfl
@[simp] theorem State.setChan_fwReady : (s.setChan i x).fwReady = s.fwReady := rfl
@[simp] theorem State.setChan_bsets : (s.setChan i x).bsets = s.bsets := rfl
@[simp] theorem State.setChan_mem : (s.setChan i x).mem = s.mem := rfl
@[simp] theorem State.setChan_drm : (s.setChan i x).drm = s.drm := rfl
@[simp] theorem State.setChan_adcs : (s.setChan i x).adcs = s.adcs := rfl
@[simp] theorem State.setChan_netPorts : (s.setChan i x).netPorts = s.netPorts := rfl
@[simp] theorem State.setChan_streams : (s.setChan i x).streams = s.streams := rfl
@[simp] theorem State.setChan_subs : (s.setChan i x).subs = s.subs := rfl
@[simp] theorem State.setChan_ptp : (s.setChan i x).ptp = s.ptp := rfl
@[simp] theorem State.setChan_chn : (s.setChan i x).chn = s.chn := rfl
@[simp] theorem State.setChan_ports : (s.setChan i x).ports = s.ports := rfl
@[simp] theorem State.setChan_mgt : (s.setChan i x).mgt = s.mgt := rfl
@[simp] theorem State.setChan_fw : (s.setChan i x).fw = s.fw := rfl
@[simp] theorem State.setChan_link : (s.setChan i x).link = s.link := rfl
@[simp] theorem State.setChan_latches : (s.setChan i x).latches = s.latches := rfl
@[simp] theorem State.setChan_drawn : (s.setChan i x).drawn = s.drawn := rfl
@[simp] theorem State.setChan_pci : (s.setChan i x).pci = s.pci := rfl
@[simp] theorem State.setChan_slackFrom : (s.setChan i x).slackFrom = s.slackFrom := rfl
@[simp] theorem State.setChan_enWait : (s.setChan i x).enWait = s.enWait := rfl
@[simp] theorem State.setChan_sent : (s.setChan i x).sent = s.sent := rfl

end setChan

/-! ### `setWin` -/

section setWin
variable (s : State) (i : Nat) (x : CheckWin)

@[simp] theorem State.setWin_pending : (s.setWin i x).pending = s.pending := rfl
@[simp] theorem State.setWin_regs : (s.setWin i x).regs = s.regs := rfl
@[simp] theorem State.setWin_msix : (s.setWin i x).msix = s.msix := rfl
@[simp] theorem State.setWin_msixPend : (s.setWin i x).msixPend = s.msixPend := rfl
@[simp] theorem State.setWin_queues : (s.setWin i x).queues = s.queues := rfl
@[simp] theorem State.setWin_tb : (s.setWin i x).tb = s.tb := rfl
@[simp] theorem State.setWin_plls : (s.setWin i x).plls = s.plls := rfl
@[simp] theorem State.setWin_segs : (s.setWin i x).segs = s.segs := rfl
@[simp] theorem State.setWin_groups : (s.setWin i x).groups = s.groups := rfl
@[simp] theorem State.setWin_tables : (s.setWin i x).tables = s.tables := rfl
@[simp] theorem State.setWin_partials : (s.setWin i x).partials = s.partials := rfl
@[simp] theorem State.setWin_chans : (s.setWin i x).chans = s.chans := rfl
@[simp] theorem State.setWin_wins : (s.setWin i x).wins = KMap.insert s.wins i x := rfl
@[simp] theorem State.setWin_dacs : (s.setWin i x).dacs = s.dacs := rfl
@[simp] theorem State.setWin_pins : (s.setWin i x).pins = s.pins := rfl
@[simp] theorem State.setWin_pairs : (s.setWin i x).pairs = s.pairs := rfl
@[simp] theorem State.setWin_markers : (s.setWin i x).markers = s.markers := rfl
@[simp] theorem State.setWin_bins : (s.setWin i x).bins = s.bins := rfl
@[simp] theorem State.setWin_ev : (s.setWin i x).ev = s.ev := rfl
@[simp] theorem State.setWin_err : (s.setWin i x).err = s.err := rfl
@[simp] theorem State.setWin_onchip : (s.setWin i x).onchip = s.onchip := rfl
@[simp] theorem State.setWin_ext : (s.setWin i x).ext = s.ext := rfl
@[simp] theorem State.setWin_fwReady : (s.setWin i x).fwReady = s.fwReady := rfl
@[simp] theorem State.setWin_bsets : (s.setWin i x).bsets = s.bsets := rfl
@[simp] theorem State.setWin_mem : (s.setWin i x).mem = s.mem := rfl
@[simp] theorem State.setWin_drm : (s.setWin i x).drm = s.drm := rfl
@[simp] theorem State.setWin_adcs : (s.setWin i x).adcs = s.adcs := rfl
@[simp] theorem State.setWin_netPorts : (s.setWin i x).netPorts = s.netPorts := rfl
@[simp] theorem State.setWin_streams : (s.setWin i x).streams = s.streams := rfl
@[simp] theorem State.setWin_subs : (s.setWin i x).subs = s.subs := rfl
@[simp] theorem State.setWin_ptp : (s.setWin i x).ptp = s.ptp := rfl
@[simp] theorem State.setWin_chn : (s.setWin i x).chn = s.chn := rfl
@[simp] theorem State.setWin_ports : (s.setWin i x).ports = s.ports := rfl
@[simp] theorem State.setWin_mgt : (s.setWin i x).mgt = s.mgt := rfl
@[simp] theorem State.setWin_fw : (s.setWin i x).fw = s.fw := rfl
@[simp] theorem State.setWin_link : (s.setWin i x).link = s.link := rfl
@[simp] theorem State.setWin_latches : (s.setWin i x).latches = s.latches := rfl
@[simp] theorem State.setWin_drawn : (s.setWin i x).drawn = s.drawn := rfl
@[simp] theorem State.setWin_pci : (s.setWin i x).pci = s.pci := rfl
@[simp] theorem State.setWin_slackFrom : (s.setWin i x).slackFrom = s.slackFrom := rfl
@[simp] theorem State.setWin_enWait : (s.setWin i x).enWait = s.enWait := rfl
@[simp] theorem State.setWin_sent : (s.setWin i x).sent = s.sent := rfl

end setWin

/-! ### `setDac` -/

section setDac
variable (s : State) (i : Nat) (x : Dac)

@[simp] theorem State.setDac_pending : (s.setDac i x).pending = s.pending := rfl
@[simp] theorem State.setDac_regs : (s.setDac i x).regs = s.regs := rfl
@[simp] theorem State.setDac_msix : (s.setDac i x).msix = s.msix := rfl
@[simp] theorem State.setDac_msixPend : (s.setDac i x).msixPend = s.msixPend := rfl
@[simp] theorem State.setDac_queues : (s.setDac i x).queues = s.queues := rfl
@[simp] theorem State.setDac_tb : (s.setDac i x).tb = s.tb := rfl
@[simp] theorem State.setDac_plls : (s.setDac i x).plls = s.plls := rfl
@[simp] theorem State.setDac_segs : (s.setDac i x).segs = s.segs := rfl
@[simp] theorem State.setDac_groups : (s.setDac i x).groups = s.groups := rfl
@[simp] theorem State.setDac_tables : (s.setDac i x).tables = s.tables := rfl
@[simp] theorem State.setDac_partials : (s.setDac i x).partials = s.partials := rfl
@[simp] theorem State.setDac_chans : (s.setDac i x).chans = s.chans := rfl
@[simp] theorem State.setDac_wins : (s.setDac i x).wins = s.wins := rfl
@[simp] theorem State.setDac_dacs : (s.setDac i x).dacs = KMap.insert s.dacs i x := rfl
@[simp] theorem State.setDac_pins : (s.setDac i x).pins = s.pins := rfl
@[simp] theorem State.setDac_pairs : (s.setDac i x).pairs = s.pairs := rfl
@[simp] theorem State.setDac_markers : (s.setDac i x).markers = s.markers := rfl
@[simp] theorem State.setDac_bins : (s.setDac i x).bins = s.bins := rfl
@[simp] theorem State.setDac_ev : (s.setDac i x).ev = s.ev := rfl
@[simp] theorem State.setDac_err : (s.setDac i x).err = s.err := rfl
@[simp] theorem State.setDac_onchip : (s.setDac i x).onchip = s.onchip := rfl
@[simp] theorem State.setDac_ext : (s.setDac i x).ext = s.ext := rfl
@[simp] theorem State.setDac_fwReady : (s.setDac i x).fwReady = s.fwReady := rfl
@[simp] theorem State.setDac_bsets : (s.setDac i x).bsets = s.bsets := rfl
@[simp] theorem State.setDac_mem : (s.setDac i x).mem = s.mem := rfl
@[simp] theorem State.setDac_drm : (s.setDac i x).drm = s.drm := rfl
@[simp] theorem State.setDac_adcs : (s.setDac i x).adcs = s.adcs := rfl
@[simp] theorem State.setDac_netPorts : (s.setDac i x).netPorts = s.netPorts := rfl
@[simp] theorem State.setDac_streams : (s.setDac i x).streams = s.streams := rfl
@[simp] theorem State.setDac_subs : (s.setDac i x).subs = s.subs := rfl
@[simp] theorem State.setDac_ptp : (s.setDac i x).ptp = s.ptp := rfl
@[simp] theorem State.setDac_chn : (s.setDac i x).chn = s.chn := rfl
@[simp] theorem State.setDac_ports : (s.setDac i x).ports = s.ports := rfl
@[simp] theorem State.setDac_mgt : (s.setDac i x).mgt = s.mgt := rfl
@[simp] theorem State.setDac_fw : (s.setDac i x).fw = s.fw := rfl
@[simp] theorem State.setDac_link : (s.setDac i x).link = s.link := rfl
@[simp] theorem State.setDac_latches : (s.setDac i x).latches = s.latches := rfl
@[simp] theorem State.setDac_drawn : (s.setDac i x).drawn = s.drawn := rfl
@[simp] theorem State.setDac_pci : (s.setDac i x).pci = s.pci := rfl
@[simp] theorem State.setDac_slackFrom : (s.setDac i x).slackFrom = s.slackFrom := rfl
@[simp] theorem State.setDac_enWait : (s.setDac i x).enWait = s.enWait := rfl
@[simp] theorem State.setDac_sent : (s.setDac i x).sent = s.sent := rfl

end setDac

/-! ### `setPin` -/

section setPin
variable (s : State) (i : Nat) (x : Pin)

@[simp] theorem State.setPin_pending : (s.setPin i x).pending = s.pending := rfl
@[simp] theorem State.setPin_regs : (s.setPin i x).regs = s.regs := rfl
@[simp] theorem State.setPin_msix : (s.setPin i x).msix = s.msix := rfl
@[simp] theorem State.setPin_msixPend : (s.setPin i x).msixPend = s.msixPend := rfl
@[simp] theorem State.setPin_queues : (s.setPin i x).queues = s.queues := rfl
@[simp] theorem State.setPin_tb : (s.setPin i x).tb = s.tb := rfl
@[simp] theorem State.setPin_plls : (s.setPin i x).plls = s.plls := rfl
@[simp] theorem State.setPin_segs : (s.setPin i x).segs = s.segs := rfl
@[simp] theorem State.setPin_groups : (s.setPin i x).groups = s.groups := rfl
@[simp] theorem State.setPin_tables : (s.setPin i x).tables = s.tables := rfl
@[simp] theorem State.setPin_partials : (s.setPin i x).partials = s.partials := rfl
@[simp] theorem State.setPin_chans : (s.setPin i x).chans = s.chans := rfl
@[simp] theorem State.setPin_wins : (s.setPin i x).wins = s.wins := rfl
@[simp] theorem State.setPin_dacs : (s.setPin i x).dacs = s.dacs := rfl
@[simp] theorem State.setPin_pins : (s.setPin i x).pins = KMap.insert s.pins i x := rfl
@[simp] theorem State.setPin_pairs : (s.setPin i x).pairs = s.pairs := rfl
@[simp] theorem State.setPin_markers : (s.setPin i x).markers = s.markers := rfl
@[simp] theorem State.setPin_bins : (s.setPin i x).bins = s.bins := rfl
@[simp] theorem State.setPin_ev : (s.setPin i x).ev = s.ev := rfl
@[simp] theorem State.setPin_err : (s.setPin i x).err = s.err := rfl
@[simp] theorem State.setPin_onchip : (s.setPin i x).onchip = s.onchip := rfl
@[simp] theorem State.setPin_ext : (s.setPin i x).ext = s.ext := rfl
@[simp] theorem State.setPin_fwReady : (s.setPin i x).fwReady = s.fwReady := rfl
@[simp] theorem State.setPin_bsets : (s.setPin i x).bsets = s.bsets := rfl
@[simp] theorem State.setPin_mem : (s.setPin i x).mem = s.mem := rfl
@[simp] theorem State.setPin_drm : (s.setPin i x).drm = s.drm := rfl
@[simp] theorem State.setPin_adcs : (s.setPin i x).adcs = s.adcs := rfl
@[simp] theorem State.setPin_netPorts : (s.setPin i x).netPorts = s.netPorts := rfl
@[simp] theorem State.setPin_streams : (s.setPin i x).streams = s.streams := rfl
@[simp] theorem State.setPin_subs : (s.setPin i x).subs = s.subs := rfl
@[simp] theorem State.setPin_ptp : (s.setPin i x).ptp = s.ptp := rfl
@[simp] theorem State.setPin_chn : (s.setPin i x).chn = s.chn := rfl
@[simp] theorem State.setPin_ports : (s.setPin i x).ports = s.ports := rfl
@[simp] theorem State.setPin_mgt : (s.setPin i x).mgt = s.mgt := rfl
@[simp] theorem State.setPin_fw : (s.setPin i x).fw = s.fw := rfl
@[simp] theorem State.setPin_link : (s.setPin i x).link = s.link := rfl
@[simp] theorem State.setPin_latches : (s.setPin i x).latches = s.latches := rfl
@[simp] theorem State.setPin_drawn : (s.setPin i x).drawn = s.drawn := rfl
@[simp] theorem State.setPin_pci : (s.setPin i x).pci = s.pci := rfl
@[simp] theorem State.setPin_slackFrom : (s.setPin i x).slackFrom = s.slackFrom := rfl
@[simp] theorem State.setPin_enWait : (s.setPin i x).enWait = s.enWait := rfl
@[simp] theorem State.setPin_sent : (s.setPin i x).sent = s.sent := rfl

end setPin

/-! ### `setPair` -/

section setPair
variable (s : State) (i : Nat) (x : Pair)

@[simp] theorem State.setPair_pending : (s.setPair i x).pending = s.pending := rfl
@[simp] theorem State.setPair_regs : (s.setPair i x).regs = s.regs := rfl
@[simp] theorem State.setPair_msix : (s.setPair i x).msix = s.msix := rfl
@[simp] theorem State.setPair_msixPend : (s.setPair i x).msixPend = s.msixPend := rfl
@[simp] theorem State.setPair_queues : (s.setPair i x).queues = s.queues := rfl
@[simp] theorem State.setPair_tb : (s.setPair i x).tb = s.tb := rfl
@[simp] theorem State.setPair_plls : (s.setPair i x).plls = s.plls := rfl
@[simp] theorem State.setPair_segs : (s.setPair i x).segs = s.segs := rfl
@[simp] theorem State.setPair_groups : (s.setPair i x).groups = s.groups := rfl
@[simp] theorem State.setPair_tables : (s.setPair i x).tables = s.tables := rfl
@[simp] theorem State.setPair_partials : (s.setPair i x).partials = s.partials := rfl
@[simp] theorem State.setPair_chans : (s.setPair i x).chans = s.chans := rfl
@[simp] theorem State.setPair_wins : (s.setPair i x).wins = s.wins := rfl
@[simp] theorem State.setPair_dacs : (s.setPair i x).dacs = s.dacs := rfl
@[simp] theorem State.setPair_pins : (s.setPair i x).pins = s.pins := rfl
@[simp] theorem State.setPair_pairs : (s.setPair i x).pairs = KMap.insert s.pairs i x := rfl
@[simp] theorem State.setPair_markers : (s.setPair i x).markers = s.markers := rfl
@[simp] theorem State.setPair_bins : (s.setPair i x).bins = s.bins := rfl
@[simp] theorem State.setPair_ev : (s.setPair i x).ev = s.ev := rfl
@[simp] theorem State.setPair_err : (s.setPair i x).err = s.err := rfl
@[simp] theorem State.setPair_onchip : (s.setPair i x).onchip = s.onchip := rfl
@[simp] theorem State.setPair_ext : (s.setPair i x).ext = s.ext := rfl
@[simp] theorem State.setPair_fwReady : (s.setPair i x).fwReady = s.fwReady := rfl
@[simp] theorem State.setPair_bsets : (s.setPair i x).bsets = s.bsets := rfl
@[simp] theorem State.setPair_mem : (s.setPair i x).mem = s.mem := rfl
@[simp] theorem State.setPair_drm : (s.setPair i x).drm = s.drm := rfl
@[simp] theorem State.setPair_adcs : (s.setPair i x).adcs = s.adcs := rfl
@[simp] theorem State.setPair_netPorts : (s.setPair i x).netPorts = s.netPorts := rfl
@[simp] theorem State.setPair_streams : (s.setPair i x).streams = s.streams := rfl
@[simp] theorem State.setPair_subs : (s.setPair i x).subs = s.subs := rfl
@[simp] theorem State.setPair_ptp : (s.setPair i x).ptp = s.ptp := rfl
@[simp] theorem State.setPair_chn : (s.setPair i x).chn = s.chn := rfl
@[simp] theorem State.setPair_ports : (s.setPair i x).ports = s.ports := rfl
@[simp] theorem State.setPair_mgt : (s.setPair i x).mgt = s.mgt := rfl
@[simp] theorem State.setPair_fw : (s.setPair i x).fw = s.fw := rfl
@[simp] theorem State.setPair_link : (s.setPair i x).link = s.link := rfl
@[simp] theorem State.setPair_latches : (s.setPair i x).latches = s.latches := rfl
@[simp] theorem State.setPair_drawn : (s.setPair i x).drawn = s.drawn := rfl
@[simp] theorem State.setPair_pci : (s.setPair i x).pci = s.pci := rfl
@[simp] theorem State.setPair_slackFrom : (s.setPair i x).slackFrom = s.slackFrom := rfl
@[simp] theorem State.setPair_enWait : (s.setPair i x).enWait = s.enWait := rfl
@[simp] theorem State.setPair_sent : (s.setPair i x).sent = s.sent := rfl

end setPair

/-! ### `setMrk` -/

section setMrk
variable (s : State) (i : Nat) (x : Marker)

@[simp] theorem State.setMrk_pending : (s.setMrk i x).pending = s.pending := rfl
@[simp] theorem State.setMrk_regs : (s.setMrk i x).regs = s.regs := rfl
@[simp] theorem State.setMrk_msix : (s.setMrk i x).msix = s.msix := rfl
@[simp] theorem State.setMrk_msixPend : (s.setMrk i x).msixPend = s.msixPend := rfl
@[simp] theorem State.setMrk_queues : (s.setMrk i x).queues = s.queues := rfl
@[simp] theorem State.setMrk_tb : (s.setMrk i x).tb = s.tb := rfl
@[simp] theorem State.setMrk_plls : (s.setMrk i x).plls = s.plls := rfl
@[simp] theorem State.setMrk_segs : (s.setMrk i x).segs = s.segs := rfl
@[simp] theorem State.setMrk_groups : (s.setMrk i x).groups = s.groups := rfl
@[simp] theorem State.setMrk_tables : (s.setMrk i x).tables = s.tables := rfl
@[simp] theorem State.setMrk_partials : (s.setMrk i x).partials = s.partials := rfl
@[simp] theorem State.setMrk_chans : (s.setMrk i x).chans = s.chans := rfl
@[simp] theorem State.setMrk_wins : (s.setMrk i x).wins = s.wins := rfl
@[simp] theorem State.setMrk_dacs : (s.setMrk i x).dacs = s.dacs := rfl
@[simp] theorem State.setMrk_pins : (s.setMrk i x).pins = s.pins := rfl
@[simp] theorem State.setMrk_pairs : (s.setMrk i x).pairs = s.pairs := rfl
@[simp] theorem State.setMrk_markers : (s.setMrk i x).markers = KMap.insert s.markers i x := rfl
@[simp] theorem State.setMrk_bins : (s.setMrk i x).bins = s.bins := rfl
@[simp] theorem State.setMrk_ev : (s.setMrk i x).ev = s.ev := rfl
@[simp] theorem State.setMrk_err : (s.setMrk i x).err = s.err := rfl
@[simp] theorem State.setMrk_onchip : (s.setMrk i x).onchip = s.onchip := rfl
@[simp] theorem State.setMrk_ext : (s.setMrk i x).ext = s.ext := rfl
@[simp] theorem State.setMrk_fwReady : (s.setMrk i x).fwReady = s.fwReady := rfl
@[simp] theorem State.setMrk_bsets : (s.setMrk i x).bsets = s.bsets := rfl
@[simp] theorem State.setMrk_mem : (s.setMrk i x).mem = s.mem := rfl
@[simp] theorem State.setMrk_drm : (s.setMrk i x).drm = s.drm := rfl
@[simp] theorem State.setMrk_adcs : (s.setMrk i x).adcs = s.adcs := rfl
@[simp] theorem State.setMrk_netPorts : (s.setMrk i x).netPorts = s.netPorts := rfl
@[simp] theorem State.setMrk_streams : (s.setMrk i x).streams = s.streams := rfl
@[simp] theorem State.setMrk_subs : (s.setMrk i x).subs = s.subs := rfl
@[simp] theorem State.setMrk_ptp : (s.setMrk i x).ptp = s.ptp := rfl
@[simp] theorem State.setMrk_chn : (s.setMrk i x).chn = s.chn := rfl
@[simp] theorem State.setMrk_ports : (s.setMrk i x).ports = s.ports := rfl
@[simp] theorem State.setMrk_mgt : (s.setMrk i x).mgt = s.mgt := rfl
@[simp] theorem State.setMrk_fw : (s.setMrk i x).fw = s.fw := rfl
@[simp] theorem State.setMrk_link : (s.setMrk i x).link = s.link := rfl
@[simp] theorem State.setMrk_latches : (s.setMrk i x).latches = s.latches := rfl
@[simp] theorem State.setMrk_drawn : (s.setMrk i x).drawn = s.drawn := rfl
@[simp] theorem State.setMrk_pci : (s.setMrk i x).pci = s.pci := rfl
@[simp] theorem State.setMrk_slackFrom : (s.setMrk i x).slackFrom = s.slackFrom := rfl
@[simp] theorem State.setMrk_enWait : (s.setMrk i x).enWait = s.enWait := rfl
@[simp] theorem State.setMrk_sent : (s.setMrk i x).sent = s.sent := rfl

end setMrk

/-! ### `setBin` -/

section setBin
variable (s : State) (i : Nat) (x : BinIn)

@[simp] theorem State.setBin_pending : (s.setBin i x).pending = s.pending := rfl
@[simp] theorem State.setBin_regs : (s.setBin i x).regs = s.regs := rfl
@[simp] theorem State.setBin_msix : (s.setBin i x).msix = s.msix := rfl
@[simp] theorem State.setBin_msixPend : (s.setBin i x).msixPend = s.msixPend := rfl
@[simp] theorem State.setBin_queues : (s.setBin i x).queues = s.queues := rfl
@[simp] theorem State.setBin_tb : (s.setBin i x).tb = s.tb := rfl
@[simp] theorem State.setBin_plls : (s.setBin i x).plls = s.plls := rfl
@[simp] theorem State.setBin_segs : (s.setBin i x).segs = s.segs := rfl
@[simp] theorem State.setBin_groups : (s.setBin i x).groups = s.groups := rfl
@[simp] theorem State.setBin_tables : (s.setBin i x).tables = s.tables := rfl
@[simp] theorem State.setBin_partials : (s.setBin i x).partials = s.partials := rfl
@[simp] theorem State.setBin_chans : (s.setBin i x).chans = s.chans := rfl
@[simp] theorem State.setBin_wins : (s.setBin i x).wins = s.wins := rfl
@[simp] theorem State.setBin_dacs : (s.setBin i x).dacs = s.dacs := rfl
@[simp] theorem State.setBin_pins : (s.setBin i x).pins = s.pins := rfl
@[simp] theorem State.setBin_pairs : (s.setBin i x).pairs = s.pairs := rfl
@[simp] theorem State.setBin_markers : (s.setBin i x).markers = s.markers := rfl
@[simp] theorem State.setBin_bins : (s.setBin i x).bins = KMap.insert s.bins i x := rfl
@[simp] theorem State.setBin_ev : (s.setBin i x).ev = s.ev := rfl
@[simp] theorem State.setBin_err : (s.setBin i x).err = s.err := rfl
@[simp] theorem State.setBin_onchip : (s.setBin i x).onchip = s.onchip := rfl
@[simp] theorem State.setBin_ext : (s.setBin i x).ext = s.ext := rfl
@[simp] theorem State.setBin_fwReady : (s.setBin i x).fwReady = s.fwReady := rfl
@[simp] theorem State.setBin_bsets : (s.setBin i x).bsets = s.bsets := rfl
@[simp] theorem State.setBin_mem : (s.setBin i x).mem = s.mem := rfl
@[simp] theorem State.setBin_drm : (s.setBin i x).drm = s.drm := rfl
@[simp] theorem State.setBin_adcs : (s.setBin i x).adcs = s.adcs := rfl
@[simp] theorem State.setBin_netPorts : (s.setBin i x).netPorts = s.netPorts := rfl
@[simp] theorem State.setBin_streams : (s.setBin i x).streams = s.streams := rfl
@[simp] theorem State.setBin_subs : (s.setBin i x).subs = s.subs := rfl
@[simp] theorem State.setBin_ptp : (s.setBin i x).ptp = s.ptp := rfl
@[simp] theorem State.setBin_chn : (s.setBin i x).chn = s.chn := rfl
@[simp] theorem State.setBin_ports : (s.setBin i x).ports = s.ports := rfl
@[simp] theorem State.setBin_mgt : (s.setBin i x).mgt = s.mgt := rfl
@[simp] theorem State.setBin_fw : (s.setBin i x).fw = s.fw := rfl
@[simp] theorem State.setBin_link : (s.setBin i x).link = s.link := rfl
@[simp] theorem State.setBin_latches : (s.setBin i x).latches = s.latches := rfl
@[simp] theorem State.setBin_drawn : (s.setBin i x).drawn = s.drawn := rfl
@[simp] theorem State.setBin_pci : (s.setBin i x).pci = s.pci := rfl
@[simp] theorem State.setBin_slackFrom : (s.setBin i x).slackFrom = s.slackFrom := rfl
@[simp] theorem State.setBin_enWait : (s.setBin i x).enWait = s.enWait := rfl
@[simp] theorem State.setBin_sent : (s.setBin i x).sent = s.sent := rfl

end setBin

/-! ### `setBset` -/

section setBset
variable (s : State) (i : Nat) (x : BankSet)

@[simp] theorem State.setBset_pending : (s.setBset i x).pending = s.pending := rfl
@[simp] theorem State.setBset_regs : (s.setBset i x).regs = s.regs := rfl
@[simp] theorem State.setBset_msix : (s.setBset i x).msix = s.msix := rfl
@[simp] theorem State.setBset_msixPend : (s.setBset i x).msixPend = s.msixPend := rfl
@[simp] theorem State.setBset_queues : (s.setBset i x).queues = s.queues := rfl
@[simp] theorem State.setBset_tb : (s.setBset i x).tb = s.tb := rfl
@[simp] theorem State.setBset_plls : (s.setBset i x).plls = s.plls := rfl
@[simp] theorem State.setBset_segs : (s.setBset i x).segs = s.segs := rfl
@[simp] theorem State.setBset_groups : (s.setBset i x).groups = s.groups := rfl
@[simp] theorem State.setBset_tables : (s.setBset i x).tables = s.tables := rfl
@[simp] theorem State.setBset_partials : (s.setBset i x).partials = s.partials := rfl
@[simp] theorem State.setBset_chans : (s.setBset i x).chans = s.chans := rfl
@[simp] theorem State.setBset_wins : (s.setBset i x).wins = s.wins := rfl
@[simp] theorem State.setBset_dacs : (s.setBset i x).dacs = s.dacs := rfl
@[simp] theorem State.setBset_pins : (s.setBset i x).pins = s.pins := rfl
@[simp] theorem State.setBset_pairs : (s.setBset i x).pairs = s.pairs := rfl
@[simp] theorem State.setBset_markers : (s.setBset i x).markers = s.markers := rfl
@[simp] theorem State.setBset_bins : (s.setBset i x).bins = s.bins := rfl
@[simp] theorem State.setBset_ev : (s.setBset i x).ev = s.ev := rfl
@[simp] theorem State.setBset_err : (s.setBset i x).err = s.err := rfl
@[simp] theorem State.setBset_onchip : (s.setBset i x).onchip = s.onchip := rfl
@[simp] theorem State.setBset_ext : (s.setBset i x).ext = s.ext := rfl
@[simp] theorem State.setBset_fwReady : (s.setBset i x).fwReady = s.fwReady := rfl
@[simp] theorem State.setBset_bsets : (s.setBset i x).bsets = KMap.insert s.bsets i x := rfl
@[simp] theorem State.setBset_mem : (s.setBset i x).mem = s.mem := rfl
@[simp] theorem State.setBset_drm : (s.setBset i x).drm = s.drm := rfl
@[simp] theorem State.setBset_adcs : (s.setBset i x).adcs = s.adcs := rfl
@[simp] theorem State.setBset_netPorts : (s.setBset i x).netPorts = s.netPorts := rfl
@[simp] theorem State.setBset_streams : (s.setBset i x).streams = s.streams := rfl
@[simp] theorem State.setBset_subs : (s.setBset i x).subs = s.subs := rfl
@[simp] theorem State.setBset_ptp : (s.setBset i x).ptp = s.ptp := rfl
@[simp] theorem State.setBset_chn : (s.setBset i x).chn = s.chn := rfl
@[simp] theorem State.setBset_ports : (s.setBset i x).ports = s.ports := rfl
@[simp] theorem State.setBset_mgt : (s.setBset i x).mgt = s.mgt := rfl
@[simp] theorem State.setBset_fw : (s.setBset i x).fw = s.fw := rfl
@[simp] theorem State.setBset_link : (s.setBset i x).link = s.link := rfl
@[simp] theorem State.setBset_latches : (s.setBset i x).latches = s.latches := rfl
@[simp] theorem State.setBset_drawn : (s.setBset i x).drawn = s.drawn := rfl
@[simp] theorem State.setBset_pci : (s.setBset i x).pci = s.pci := rfl
@[simp] theorem State.setBset_slackFrom : (s.setBset i x).slackFrom = s.slackFrom := rfl
@[simp] theorem State.setBset_enWait : (s.setBset i x).enWait = s.enWait := rfl
@[simp] theorem State.setBset_sent : (s.setBset i x).sent = s.sent := rfl

end setBset

/-! ### `setAdc` -/

section setAdc
variable (s : State) (i : Nat) (x : Adc)

@[simp] theorem State.setAdc_pending : (s.setAdc i x).pending = s.pending := rfl
@[simp] theorem State.setAdc_regs : (s.setAdc i x).regs = s.regs := rfl
@[simp] theorem State.setAdc_msix : (s.setAdc i x).msix = s.msix := rfl
@[simp] theorem State.setAdc_msixPend : (s.setAdc i x).msixPend = s.msixPend := rfl
@[simp] theorem State.setAdc_queues : (s.setAdc i x).queues = s.queues := rfl
@[simp] theorem State.setAdc_tb : (s.setAdc i x).tb = s.tb := rfl
@[simp] theorem State.setAdc_plls : (s.setAdc i x).plls = s.plls := rfl
@[simp] theorem State.setAdc_segs : (s.setAdc i x).segs = s.segs := rfl
@[simp] theorem State.setAdc_groups : (s.setAdc i x).groups = s.groups := rfl
@[simp] theorem State.setAdc_tables : (s.setAdc i x).tables = s.tables := rfl
@[simp] theorem State.setAdc_partials : (s.setAdc i x).partials = s.partials := rfl
@[simp] theorem State.setAdc_chans : (s.setAdc i x).chans = s.chans := rfl
@[simp] theorem State.setAdc_wins : (s.setAdc i x).wins = s.wins := rfl
@[simp] theorem State.setAdc_dacs : (s.setAdc i x).dacs = s.dacs := rfl
@[simp] theorem State.setAdc_pins : (s.setAdc i x).pins = s.pins := rfl
@[simp] theorem State.setAdc_pairs : (s.setAdc i x).pairs = s.pairs := rfl
@[simp] theorem State.setAdc_markers : (s.setAdc i x).markers = s.markers := rfl
@[simp] theorem State.setAdc_bins : (s.setAdc i x).bins = s.bins := rfl
@[simp] theorem State.setAdc_ev : (s.setAdc i x).ev = s.ev := rfl
@[simp] theorem State.setAdc_err : (s.setAdc i x).err = s.err := rfl
@[simp] theorem State.setAdc_onchip : (s.setAdc i x).onchip = s.onchip := rfl
@[simp] theorem State.setAdc_ext : (s.setAdc i x).ext = s.ext := rfl
@[simp] theorem State.setAdc_fwReady : (s.setAdc i x).fwReady = s.fwReady := rfl
@[simp] theorem State.setAdc_bsets : (s.setAdc i x).bsets = s.bsets := rfl
@[simp] theorem State.setAdc_mem : (s.setAdc i x).mem = s.mem := rfl
@[simp] theorem State.setAdc_drm : (s.setAdc i x).drm = s.drm := rfl
@[simp] theorem State.setAdc_adcs : (s.setAdc i x).adcs = KMap.insert s.adcs i x := rfl
@[simp] theorem State.setAdc_netPorts : (s.setAdc i x).netPorts = s.netPorts := rfl
@[simp] theorem State.setAdc_streams : (s.setAdc i x).streams = s.streams := rfl
@[simp] theorem State.setAdc_subs : (s.setAdc i x).subs = s.subs := rfl
@[simp] theorem State.setAdc_ptp : (s.setAdc i x).ptp = s.ptp := rfl
@[simp] theorem State.setAdc_chn : (s.setAdc i x).chn = s.chn := rfl
@[simp] theorem State.setAdc_ports : (s.setAdc i x).ports = s.ports := rfl
@[simp] theorem State.setAdc_mgt : (s.setAdc i x).mgt = s.mgt := rfl
@[simp] theorem State.setAdc_fw : (s.setAdc i x).fw = s.fw := rfl
@[simp] theorem State.setAdc_link : (s.setAdc i x).link = s.link := rfl
@[simp] theorem State.setAdc_latches : (s.setAdc i x).latches = s.latches := rfl
@[simp] theorem State.setAdc_drawn : (s.setAdc i x).drawn = s.drawn := rfl
@[simp] theorem State.setAdc_pci : (s.setAdc i x).pci = s.pci := rfl
@[simp] theorem State.setAdc_slackFrom : (s.setAdc i x).slackFrom = s.slackFrom := rfl
@[simp] theorem State.setAdc_enWait : (s.setAdc i x).enWait = s.enWait := rfl
@[simp] theorem State.setAdc_sent : (s.setAdc i x).sent = s.sent := rfl

end setAdc

/-! ### `setNetp` -/

section setNetp
variable (s : State) (i : Nat) (x : NetPort)

@[simp] theorem State.setNetp_pending : (s.setNetp i x).pending = s.pending := rfl
@[simp] theorem State.setNetp_regs : (s.setNetp i x).regs = s.regs := rfl
@[simp] theorem State.setNetp_msix : (s.setNetp i x).msix = s.msix := rfl
@[simp] theorem State.setNetp_msixPend : (s.setNetp i x).msixPend = s.msixPend := rfl
@[simp] theorem State.setNetp_queues : (s.setNetp i x).queues = s.queues := rfl
@[simp] theorem State.setNetp_tb : (s.setNetp i x).tb = s.tb := rfl
@[simp] theorem State.setNetp_plls : (s.setNetp i x).plls = s.plls := rfl
@[simp] theorem State.setNetp_segs : (s.setNetp i x).segs = s.segs := rfl
@[simp] theorem State.setNetp_groups : (s.setNetp i x).groups = s.groups := rfl
@[simp] theorem State.setNetp_tables : (s.setNetp i x).tables = s.tables := rfl
@[simp] theorem State.setNetp_partials : (s.setNetp i x).partials = s.partials := rfl
@[simp] theorem State.setNetp_chans : (s.setNetp i x).chans = s.chans := rfl
@[simp] theorem State.setNetp_wins : (s.setNetp i x).wins = s.wins := rfl
@[simp] theorem State.setNetp_dacs : (s.setNetp i x).dacs = s.dacs := rfl
@[simp] theorem State.setNetp_pins : (s.setNetp i x).pins = s.pins := rfl
@[simp] theorem State.setNetp_pairs : (s.setNetp i x).pairs = s.pairs := rfl
@[simp] theorem State.setNetp_markers : (s.setNetp i x).markers = s.markers := rfl
@[simp] theorem State.setNetp_bins : (s.setNetp i x).bins = s.bins := rfl
@[simp] theorem State.setNetp_ev : (s.setNetp i x).ev = s.ev := rfl
@[simp] theorem State.setNetp_err : (s.setNetp i x).err = s.err := rfl
@[simp] theorem State.setNetp_onchip : (s.setNetp i x).onchip = s.onchip := rfl
@[simp] theorem State.setNetp_ext : (s.setNetp i x).ext = s.ext := rfl
@[simp] theorem State.setNetp_fwReady : (s.setNetp i x).fwReady = s.fwReady := rfl
@[simp] theorem State.setNetp_bsets : (s.setNetp i x).bsets = s.bsets := rfl
@[simp] theorem State.setNetp_mem : (s.setNetp i x).mem = s.mem := rfl
@[simp] theorem State.setNetp_drm : (s.setNetp i x).drm = s.drm := rfl
@[simp] theorem State.setNetp_adcs : (s.setNetp i x).adcs = s.adcs := rfl
@[simp] theorem State.setNetp_netPorts : (s.setNetp i x).netPorts = KMap.insert s.netPorts i x := rfl
@[simp] theorem State.setNetp_streams : (s.setNetp i x).streams = s.streams := rfl
@[simp] theorem State.setNetp_subs : (s.setNetp i x).subs = s.subs := rfl
@[simp] theorem State.setNetp_ptp : (s.setNetp i x).ptp = s.ptp := rfl
@[simp] theorem State.setNetp_chn : (s.setNetp i x).chn = s.chn := rfl
@[simp] theorem State.setNetp_ports : (s.setNetp i x).ports = s.ports := rfl
@[simp] theorem State.setNetp_mgt : (s.setNetp i x).mgt = s.mgt := rfl
@[simp] theorem State.setNetp_fw : (s.setNetp i x).fw = s.fw := rfl
@[simp] theorem State.setNetp_link : (s.setNetp i x).link = s.link := rfl
@[simp] theorem State.setNetp_latches : (s.setNetp i x).latches = s.latches := rfl
@[simp] theorem State.setNetp_drawn : (s.setNetp i x).drawn = s.drawn := rfl
@[simp] theorem State.setNetp_pci : (s.setNetp i x).pci = s.pci := rfl
@[simp] theorem State.setNetp_slackFrom : (s.setNetp i x).slackFrom = s.slackFrom := rfl
@[simp] theorem State.setNetp_enWait : (s.setNetp i x).enWait = s.enWait := rfl
@[simp] theorem State.setNetp_sent : (s.setNetp i x).sent = s.sent := rfl

end setNetp

/-! ### `setSv` -/

section setSv
variable (s : State) (i : Nat) (x : SvStream)

@[simp] theorem State.setSv_pending : (s.setSv i x).pending = s.pending := rfl
@[simp] theorem State.setSv_regs : (s.setSv i x).regs = s.regs := rfl
@[simp] theorem State.setSv_msix : (s.setSv i x).msix = s.msix := rfl
@[simp] theorem State.setSv_msixPend : (s.setSv i x).msixPend = s.msixPend := rfl
@[simp] theorem State.setSv_queues : (s.setSv i x).queues = s.queues := rfl
@[simp] theorem State.setSv_tb : (s.setSv i x).tb = s.tb := rfl
@[simp] theorem State.setSv_plls : (s.setSv i x).plls = s.plls := rfl
@[simp] theorem State.setSv_segs : (s.setSv i x).segs = s.segs := rfl
@[simp] theorem State.setSv_groups : (s.setSv i x).groups = s.groups := rfl
@[simp] theorem State.setSv_tables : (s.setSv i x).tables = s.tables := rfl
@[simp] theorem State.setSv_partials : (s.setSv i x).partials = s.partials := rfl
@[simp] theorem State.setSv_chans : (s.setSv i x).chans = s.chans := rfl
@[simp] theorem State.setSv_wins : (s.setSv i x).wins = s.wins := rfl
@[simp] theorem State.setSv_dacs : (s.setSv i x).dacs = s.dacs := rfl
@[simp] theorem State.setSv_pins : (s.setSv i x).pins = s.pins := rfl
@[simp] theorem State.setSv_pairs : (s.setSv i x).pairs = s.pairs := rfl
@[simp] theorem State.setSv_markers : (s.setSv i x).markers = s.markers := rfl
@[simp] theorem State.setSv_bins : (s.setSv i x).bins = s.bins := rfl
@[simp] theorem State.setSv_ev : (s.setSv i x).ev = s.ev := rfl
@[simp] theorem State.setSv_err : (s.setSv i x).err = s.err := rfl
@[simp] theorem State.setSv_onchip : (s.setSv i x).onchip = s.onchip := rfl
@[simp] theorem State.setSv_ext : (s.setSv i x).ext = s.ext := rfl
@[simp] theorem State.setSv_fwReady : (s.setSv i x).fwReady = s.fwReady := rfl
@[simp] theorem State.setSv_bsets : (s.setSv i x).bsets = s.bsets := rfl
@[simp] theorem State.setSv_mem : (s.setSv i x).mem = s.mem := rfl
@[simp] theorem State.setSv_drm : (s.setSv i x).drm = s.drm := rfl
@[simp] theorem State.setSv_adcs : (s.setSv i x).adcs = s.adcs := rfl
@[simp] theorem State.setSv_netPorts : (s.setSv i x).netPorts = s.netPorts := rfl
@[simp] theorem State.setSv_streams : (s.setSv i x).streams = KMap.insert s.streams i x := rfl
@[simp] theorem State.setSv_subs : (s.setSv i x).subs = s.subs := rfl
@[simp] theorem State.setSv_ptp : (s.setSv i x).ptp = s.ptp := rfl
@[simp] theorem State.setSv_chn : (s.setSv i x).chn = s.chn := rfl
@[simp] theorem State.setSv_ports : (s.setSv i x).ports = s.ports := rfl
@[simp] theorem State.setSv_mgt : (s.setSv i x).mgt = s.mgt := rfl
@[simp] theorem State.setSv_fw : (s.setSv i x).fw = s.fw := rfl
@[simp] theorem State.setSv_link : (s.setSv i x).link = s.link := rfl
@[simp] theorem State.setSv_latches : (s.setSv i x).latches = s.latches := rfl
@[simp] theorem State.setSv_drawn : (s.setSv i x).drawn = s.drawn := rfl
@[simp] theorem State.setSv_pci : (s.setSv i x).pci = s.pci := rfl
@[simp] theorem State.setSv_slackFrom : (s.setSv i x).slackFrom = s.slackFrom := rfl
@[simp] theorem State.setSv_enWait : (s.setSv i x).enWait = s.enWait := rfl
@[simp] theorem State.setSv_sent : (s.setSv i x).sent = s.sent := rfl

end setSv

/-! ### `setGs` -/

section setGs
variable (s : State) (i : Nat) (x : GooseSub)

@[simp] theorem State.setGs_pending : (s.setGs i x).pending = s.pending := rfl
@[simp] theorem State.setGs_regs : (s.setGs i x).regs = s.regs := rfl
@[simp] theorem State.setGs_msix : (s.setGs i x).msix = s.msix := rfl
@[simp] theorem State.setGs_msixPend : (s.setGs i x).msixPend = s.msixPend := rfl
@[simp] theorem State.setGs_queues : (s.setGs i x).queues = s.queues := rfl
@[simp] theorem State.setGs_tb : (s.setGs i x).tb = s.tb := rfl
@[simp] theorem State.setGs_plls : (s.setGs i x).plls = s.plls := rfl
@[simp] theorem State.setGs_segs : (s.setGs i x).segs = s.segs := rfl
@[simp] theorem State.setGs_groups : (s.setGs i x).groups = s.groups := rfl
@[simp] theorem State.setGs_tables : (s.setGs i x).tables = s.tables := rfl
@[simp] theorem State.setGs_partials : (s.setGs i x).partials = s.partials := rfl
@[simp] theorem State.setGs_chans : (s.setGs i x).chans = s.chans := rfl
@[simp] theorem State.setGs_wins : (s.setGs i x).wins = s.wins := rfl
@[simp] theorem State.setGs_dacs : (s.setGs i x).dacs = s.dacs := rfl
@[simp] theorem State.setGs_pins : (s.setGs i x).pins = s.pins := rfl
@[simp] theorem State.setGs_pairs : (s.setGs i x).pairs = s.pairs := rfl
@[simp] theorem State.setGs_markers : (s.setGs i x).markers = s.markers := rfl
@[simp] theorem State.setGs_bins : (s.setGs i x).bins = s.bins := rfl
@[simp] theorem State.setGs_ev : (s.setGs i x).ev = s.ev := rfl
@[simp] theorem State.setGs_err : (s.setGs i x).err = s.err := rfl
@[simp] theorem State.setGs_onchip : (s.setGs i x).onchip = s.onchip := rfl
@[simp] theorem State.setGs_ext : (s.setGs i x).ext = s.ext := rfl
@[simp] theorem State.setGs_fwReady : (s.setGs i x).fwReady = s.fwReady := rfl
@[simp] theorem State.setGs_bsets : (s.setGs i x).bsets = s.bsets := rfl
@[simp] theorem State.setGs_mem : (s.setGs i x).mem = s.mem := rfl
@[simp] theorem State.setGs_drm : (s.setGs i x).drm = s.drm := rfl
@[simp] theorem State.setGs_adcs : (s.setGs i x).adcs = s.adcs := rfl
@[simp] theorem State.setGs_netPorts : (s.setGs i x).netPorts = s.netPorts := rfl
@[simp] theorem State.setGs_streams : (s.setGs i x).streams = s.streams := rfl
@[simp] theorem State.setGs_subs : (s.setGs i x).subs = KMap.insert s.subs i x := rfl
@[simp] theorem State.setGs_ptp : (s.setGs i x).ptp = s.ptp := rfl
@[simp] theorem State.setGs_chn : (s.setGs i x).chn = s.chn := rfl
@[simp] theorem State.setGs_ports : (s.setGs i x).ports = s.ports := rfl
@[simp] theorem State.setGs_mgt : (s.setGs i x).mgt = s.mgt := rfl
@[simp] theorem State.setGs_fw : (s.setGs i x).fw = s.fw := rfl
@[simp] theorem State.setGs_link : (s.setGs i x).link = s.link := rfl
@[simp] theorem State.setGs_latches : (s.setGs i x).latches = s.latches := rfl
@[simp] theorem State.setGs_drawn : (s.setGs i x).drawn = s.drawn := rfl
@[simp] theorem State.setGs_pci : (s.setGs i x).pci = s.pci := rfl
@[simp] theorem State.setGs_slackFrom : (s.setGs i x).slackFrom = s.slackFrom := rfl
@[simp] theorem State.setGs_enWait : (s.setGs i x).enWait = s.enWait := rfl
@[simp] theorem State.setGs_sent : (s.setGs i x).sent = s.sent := rfl

end setGs

/-! ### `setPort` -/

section setPort
variable (s : State) (i : Nat) (x : ChnPort)

@[simp] theorem State.setPort_pending : (s.setPort i x).pending = s.pending := rfl
@[simp] theorem State.setPort_regs : (s.setPort i x).regs = s.regs := rfl
@[simp] theorem State.setPort_msix : (s.setPort i x).msix = s.msix := rfl
@[simp] theorem State.setPort_msixPend : (s.setPort i x).msixPend = s.msixPend := rfl
@[simp] theorem State.setPort_queues : (s.setPort i x).queues = s.queues := rfl
@[simp] theorem State.setPort_tb : (s.setPort i x).tb = s.tb := rfl
@[simp] theorem State.setPort_plls : (s.setPort i x).plls = s.plls := rfl
@[simp] theorem State.setPort_segs : (s.setPort i x).segs = s.segs := rfl
@[simp] theorem State.setPort_groups : (s.setPort i x).groups = s.groups := rfl
@[simp] theorem State.setPort_tables : (s.setPort i x).tables = s.tables := rfl
@[simp] theorem State.setPort_partials : (s.setPort i x).partials = s.partials := rfl
@[simp] theorem State.setPort_chans : (s.setPort i x).chans = s.chans := rfl
@[simp] theorem State.setPort_wins : (s.setPort i x).wins = s.wins := rfl
@[simp] theorem State.setPort_dacs : (s.setPort i x).dacs = s.dacs := rfl
@[simp] theorem State.setPort_pins : (s.setPort i x).pins = s.pins := rfl
@[simp] theorem State.setPort_pairs : (s.setPort i x).pairs = s.pairs := rfl
@[simp] theorem State.setPort_markers : (s.setPort i x).markers = s.markers := rfl
@[simp] theorem State.setPort_bins : (s.setPort i x).bins = s.bins := rfl
@[simp] theorem State.setPort_ev : (s.setPort i x).ev = s.ev := rfl
@[simp] theorem State.setPort_err : (s.setPort i x).err = s.err := rfl
@[simp] theorem State.setPort_onchip : (s.setPort i x).onchip = s.onchip := rfl
@[simp] theorem State.setPort_ext : (s.setPort i x).ext = s.ext := rfl
@[simp] theorem State.setPort_fwReady : (s.setPort i x).fwReady = s.fwReady := rfl
@[simp] theorem State.setPort_bsets : (s.setPort i x).bsets = s.bsets := rfl
@[simp] theorem State.setPort_mem : (s.setPort i x).mem = s.mem := rfl
@[simp] theorem State.setPort_drm : (s.setPort i x).drm = s.drm := rfl
@[simp] theorem State.setPort_adcs : (s.setPort i x).adcs = s.adcs := rfl
@[simp] theorem State.setPort_netPorts : (s.setPort i x).netPorts = s.netPorts := rfl
@[simp] theorem State.setPort_streams : (s.setPort i x).streams = s.streams := rfl
@[simp] theorem State.setPort_subs : (s.setPort i x).subs = s.subs := rfl
@[simp] theorem State.setPort_ptp : (s.setPort i x).ptp = s.ptp := rfl
@[simp] theorem State.setPort_chn : (s.setPort i x).chn = s.chn := rfl
@[simp] theorem State.setPort_ports : (s.setPort i x).ports = KMap.insert s.ports i x := rfl
@[simp] theorem State.setPort_mgt : (s.setPort i x).mgt = s.mgt := rfl
@[simp] theorem State.setPort_fw : (s.setPort i x).fw = s.fw := rfl
@[simp] theorem State.setPort_link : (s.setPort i x).link = s.link := rfl
@[simp] theorem State.setPort_latches : (s.setPort i x).latches = s.latches := rfl
@[simp] theorem State.setPort_drawn : (s.setPort i x).drawn = s.drawn := rfl
@[simp] theorem State.setPort_pci : (s.setPort i x).pci = s.pci := rfl
@[simp] theorem State.setPort_slackFrom : (s.setPort i x).slackFrom = s.slackFrom := rfl
@[simp] theorem State.setPort_enWait : (s.setPort i x).enWait = s.enWait := rfl
@[simp] theorem State.setPort_sent : (s.setPort i x).sent = s.sent := rfl

end setPort

/-! ### `setEntry` -/

section setEntry
variable (s : State) (g e : Nat) (ws : List Word)

@[simp] theorem State.setEntry_pending : (s.setEntry g e ws).pending = s.pending := rfl
@[simp] theorem State.setEntry_regs : (s.setEntry g e ws).regs = s.regs := rfl
@[simp] theorem State.setEntry_msix : (s.setEntry g e ws).msix = s.msix := rfl
@[simp] theorem State.setEntry_msixPend : (s.setEntry g e ws).msixPend = s.msixPend := rfl
@[simp] theorem State.setEntry_queues : (s.setEntry g e ws).queues = s.queues := rfl
@[simp] theorem State.setEntry_tb : (s.setEntry g e ws).tb = s.tb := rfl
@[simp] theorem State.setEntry_plls : (s.setEntry g e ws).plls = s.plls := rfl
@[simp] theorem State.setEntry_segs : (s.setEntry g e ws).segs = s.segs := rfl
@[simp] theorem State.setEntry_groups : (s.setEntry g e ws).groups = s.groups := rfl
@[simp] theorem State.setEntry_tables : (s.setEntry g e ws).tables = KMap.put s.tables (g * 1024 + e) ws resetEntry := rfl
@[simp] theorem State.setEntry_partials : (s.setEntry g e ws).partials = s.partials := rfl
@[simp] theorem State.setEntry_chans : (s.setEntry g e ws).chans = s.chans := rfl
@[simp] theorem State.setEntry_wins : (s.setEntry g e ws).wins = s.wins := rfl
@[simp] theorem State.setEntry_dacs : (s.setEntry g e ws).dacs = s.dacs := rfl
@[simp] theorem State.setEntry_pins : (s.setEntry g e ws).pins = s.pins := rfl
@[simp] theorem State.setEntry_pairs : (s.setEntry g e ws).pairs = s.pairs := rfl
@[simp] theorem State.setEntry_markers : (s.setEntry g e ws).markers = s.markers := rfl
@[simp] theorem State.setEntry_bins : (s.setEntry g e ws).bins = s.bins := rfl
@[simp] theorem State.setEntry_ev : (s.setEntry g e ws).ev = s.ev := rfl
@[simp] theorem State.setEntry_err : (s.setEntry g e ws).err = s.err := rfl
@[simp] theorem State.setEntry_onchip : (s.setEntry g e ws).onchip = s.onchip := rfl
@[simp] theorem State.setEntry_ext : (s.setEntry g e ws).ext = s.ext := rfl
@[simp] theorem State.setEntry_fwReady : (s.setEntry g e ws).fwReady = s.fwReady := rfl
@[simp] theorem State.setEntry_bsets : (s.setEntry g e ws).bsets = s.bsets := rfl
@[simp] theorem State.setEntry_mem : (s.setEntry g e ws).mem = s.mem := rfl
@[simp] theorem State.setEntry_drm : (s.setEntry g e ws).drm = s.drm := rfl
@[simp] theorem State.setEntry_adcs : (s.setEntry g e ws).adcs = s.adcs := rfl
@[simp] theorem State.setEntry_netPorts : (s.setEntry g e ws).netPorts = s.netPorts := rfl
@[simp] theorem State.setEntry_streams : (s.setEntry g e ws).streams = s.streams := rfl
@[simp] theorem State.setEntry_subs : (s.setEntry g e ws).subs = s.subs := rfl
@[simp] theorem State.setEntry_ptp : (s.setEntry g e ws).ptp = s.ptp := rfl
@[simp] theorem State.setEntry_chn : (s.setEntry g e ws).chn = s.chn := rfl
@[simp] theorem State.setEntry_ports : (s.setEntry g e ws).ports = s.ports := rfl
@[simp] theorem State.setEntry_mgt : (s.setEntry g e ws).mgt = s.mgt := rfl
@[simp] theorem State.setEntry_fw : (s.setEntry g e ws).fw = s.fw := rfl
@[simp] theorem State.setEntry_link : (s.setEntry g e ws).link = s.link := rfl
@[simp] theorem State.setEntry_latches : (s.setEntry g e ws).latches = s.latches := rfl
@[simp] theorem State.setEntry_drawn : (s.setEntry g e ws).drawn = s.drawn := rfl
@[simp] theorem State.setEntry_pci : (s.setEntry g e ws).pci = s.pci := rfl
@[simp] theorem State.setEntry_slackFrom : (s.setEntry g e ws).slackFrom = s.slackFrom := rfl
@[simp] theorem State.setEntry_enWait : (s.setEntry g e ws).enWait = s.enWait := rfl
@[simp] theorem State.setEntry_sent : (s.setEntry g e ws).sent = s.sent := rfl

end setEntry

/-! ### `put` -/

section put
variable (s : State) (x : Sent)

@[simp] theorem State.put_pending : (s.put x).pending = s.pending := rfl
@[simp] theorem State.put_regs : (s.put x).regs = s.regs := rfl
@[simp] theorem State.put_msix : (s.put x).msix = s.msix := rfl
@[simp] theorem State.put_msixPend : (s.put x).msixPend = s.msixPend := rfl
@[simp] theorem State.put_queues : (s.put x).queues = s.queues := rfl
@[simp] theorem State.put_tb : (s.put x).tb = s.tb := rfl
@[simp] theorem State.put_plls : (s.put x).plls = s.plls := rfl
@[simp] theorem State.put_segs : (s.put x).segs = s.segs := rfl
@[simp] theorem State.put_groups : (s.put x).groups = s.groups := rfl
@[simp] theorem State.put_tables : (s.put x).tables = s.tables := rfl
@[simp] theorem State.put_partials : (s.put x).partials = s.partials := rfl
@[simp] theorem State.put_chans : (s.put x).chans = s.chans := rfl
@[simp] theorem State.put_wins : (s.put x).wins = s.wins := rfl
@[simp] theorem State.put_dacs : (s.put x).dacs = s.dacs := rfl
@[simp] theorem State.put_pins : (s.put x).pins = s.pins := rfl
@[simp] theorem State.put_pairs : (s.put x).pairs = s.pairs := rfl
@[simp] theorem State.put_markers : (s.put x).markers = s.markers := rfl
@[simp] theorem State.put_bins : (s.put x).bins = s.bins := rfl
@[simp] theorem State.put_ev : (s.put x).ev = s.ev := rfl
@[simp] theorem State.put_err : (s.put x).err = s.err := rfl
@[simp] theorem State.put_onchip : (s.put x).onchip = s.onchip := rfl
@[simp] theorem State.put_ext : (s.put x).ext = s.ext := rfl
@[simp] theorem State.put_fwReady : (s.put x).fwReady = s.fwReady := rfl
@[simp] theorem State.put_bsets : (s.put x).bsets = s.bsets := rfl
@[simp] theorem State.put_mem : (s.put x).mem = s.mem := rfl
@[simp] theorem State.put_drm : (s.put x).drm = s.drm := rfl
@[simp] theorem State.put_adcs : (s.put x).adcs = s.adcs := rfl
@[simp] theorem State.put_netPorts : (s.put x).netPorts = s.netPorts := rfl
@[simp] theorem State.put_streams : (s.put x).streams = s.streams := rfl
@[simp] theorem State.put_subs : (s.put x).subs = s.subs := rfl
@[simp] theorem State.put_ptp : (s.put x).ptp = s.ptp := rfl
@[simp] theorem State.put_chn : (s.put x).chn = s.chn := rfl
@[simp] theorem State.put_ports : (s.put x).ports = s.ports := rfl
@[simp] theorem State.put_mgt : (s.put x).mgt = s.mgt := rfl
@[simp] theorem State.put_fw : (s.put x).fw = s.fw := rfl
@[simp] theorem State.put_link : (s.put x).link = s.link := rfl
@[simp] theorem State.put_latches : (s.put x).latches = s.latches := rfl
@[simp] theorem State.put_drawn : (s.put x).drawn = s.drawn := rfl
@[simp] theorem State.put_pci : (s.put x).pci = s.pci := rfl
@[simp] theorem State.put_slackFrom : (s.put x).slackFrom = s.slackFrom := rfl
@[simp] theorem State.put_enWait : (s.put x).enWait = s.enWait := rfl
@[simp] theorem State.put_sent : (s.put x).sent = x :: s.sent := rfl

end put

/-! ### `writeChip` -/

section writeChip
variable (s : State) (a : Nat) (b : Byte)

@[simp] theorem State.writeChip_pending : (s.writeChip a b).pending = s.pending := rfl
@[simp] theorem State.writeChip_regs : (s.writeChip a b).regs = s.regs := rfl
@[simp] theorem State.writeChip_msix : (s.writeChip a b).msix = s.msix := rfl
@[simp] theorem State.writeChip_msixPend : (s.writeChip a b).msixPend = s.msixPend := rfl
@[simp] theorem State.writeChip_queues : (s.writeChip a b).queues = s.queues := rfl
@[simp] theorem State.writeChip_tb : (s.writeChip a b).tb = s.tb := rfl
@[simp] theorem State.writeChip_plls : (s.writeChip a b).plls = s.plls := rfl
@[simp] theorem State.writeChip_segs : (s.writeChip a b).segs = s.segs := rfl
@[simp] theorem State.writeChip_groups : (s.writeChip a b).groups = s.groups := rfl
@[simp] theorem State.writeChip_tables : (s.writeChip a b).tables = s.tables := rfl
@[simp] theorem State.writeChip_partials : (s.writeChip a b).partials = s.partials := rfl
@[simp] theorem State.writeChip_chans : (s.writeChip a b).chans = s.chans := rfl
@[simp] theorem State.writeChip_wins : (s.writeChip a b).wins = s.wins := rfl
@[simp] theorem State.writeChip_dacs : (s.writeChip a b).dacs = s.dacs := rfl
@[simp] theorem State.writeChip_pins : (s.writeChip a b).pins = s.pins := rfl
@[simp] theorem State.writeChip_pairs : (s.writeChip a b).pairs = s.pairs := rfl
@[simp] theorem State.writeChip_markers : (s.writeChip a b).markers = s.markers := rfl
@[simp] theorem State.writeChip_bins : (s.writeChip a b).bins = s.bins := rfl
@[simp] theorem State.writeChip_ev : (s.writeChip a b).ev = s.ev := rfl
@[simp] theorem State.writeChip_err : (s.writeChip a b).err = s.err := rfl
@[simp] theorem State.writeChip_onchip : (s.writeChip a b).onchip = KMap.put s.onchip a b 0 := rfl
@[simp] theorem State.writeChip_ext : (s.writeChip a b).ext = s.ext := rfl
@[simp] theorem State.writeChip_fwReady : (s.writeChip a b).fwReady = s.fwReady := rfl
@[simp] theorem State.writeChip_bsets : (s.writeChip a b).bsets = s.bsets := rfl
@[simp] theorem State.writeChip_mem : (s.writeChip a b).mem = s.mem := rfl
@[simp] theorem State.writeChip_drm : (s.writeChip a b).drm = s.drm := rfl
@[simp] theorem State.writeChip_adcs : (s.writeChip a b).adcs = s.adcs := rfl
@[simp] theorem State.writeChip_netPorts : (s.writeChip a b).netPorts = s.netPorts := rfl
@[simp] theorem State.writeChip_streams : (s.writeChip a b).streams = s.streams := rfl
@[simp] theorem State.writeChip_subs : (s.writeChip a b).subs = s.subs := rfl
@[simp] theorem State.writeChip_ptp : (s.writeChip a b).ptp = s.ptp := rfl
@[simp] theorem State.writeChip_chn : (s.writeChip a b).chn = s.chn := rfl
@[simp] theorem State.writeChip_ports : (s.writeChip a b).ports = s.ports := rfl
@[simp] theorem State.writeChip_mgt : (s.writeChip a b).mgt = s.mgt := rfl
@[simp] theorem State.writeChip_fw : (s.writeChip a b).fw = s.fw := rfl
@[simp] theorem State.writeChip_link : (s.writeChip a b).link = s.link := rfl
@[simp] theorem State.writeChip_latches : (s.writeChip a b).latches = s.latches := rfl
@[simp] theorem State.writeChip_drawn : (s.writeChip a b).drawn = s.drawn := rfl
@[simp] theorem State.writeChip_pci : (s.writeChip a b).pci = s.pci := rfl
@[simp] theorem State.writeChip_slackFrom : (s.writeChip a b).slackFrom = s.slackFrom := rfl
@[simp] theorem State.writeChip_enWait : (s.writeChip a b).enWait = s.enWait := rfl
@[simp] theorem State.writeChip_sent : (s.writeChip a b).sent = s.sent := rfl

end writeChip

/-! ### Reading back -/

@[simp] theorem State.q_setQ_same (s : State) (i : Nat) (x : Queue) : (s.setQ i x).q i = x :=
  KMap.getD_insert_same _ _ _ _

theorem State.q_setQ_ne (s : State) {i j : Nat} (x : Queue) (h : j ≠ i) : (s.setQ i x).q j = s.q j :=
  KMap.getD_insert_ne _ _ _ h

@[simp] theorem State.q_wr (s : State) (r : RegId) (i j n : Nat) (v : Word) : (s.wr r i j v).q n = s.q n := rfl

@[simp] theorem State.rd_setQ (s : State) (r : RegId) (i j n : Nat) (x : Queue) : (s.setQ n x).rd r i j = s.rd r i j := rfl

@[simp] theorem State.pll_setPll_same (s : State) (i : Nat) (x : Pll) : (s.setPll i x).pll i = x :=
  KMap.getD_insert_same _ _ _ _

theorem State.pll_setPll_ne (s : State) {i j : Nat} (x : Pll) (h : j ≠ i) : (s.setPll i x).pll j = s.pll j :=
  KMap.getD_insert_ne _ _ _ h

@[simp] theorem State.pll_wr (s : State) (r : RegId) (i j n : Nat) (v : Word) : (s.wr r i j v).pll n = s.pll n := rfl

@[simp] theorem State.rd_setPll (s : State) (r : RegId) (i j n : Nat) (x : Pll) : (s.setPll n x).rd r i j = s.rd r i j := rfl

@[simp] theorem State.seg_setSeg_same (s : State) (i : Nat) (x : Segment) : (s.setSeg i x).seg i = x :=
  KMap.getD_insert_same _ _ _ _

theorem State.seg_setSeg_ne (s : State) {i j : Nat} (x : Segment) (h : j ≠ i) : (s.setSeg i x).seg j = s.seg j :=
  KMap.getD_insert_ne _ _ _ h

@[simp] theorem State.seg_wr (s : State) (r : RegId) (i j n : Nat) (v : Word) : (s.wr r i j v).seg n = s.seg n := rfl

@[simp] theorem State.rd_setSeg (s : State) (r : RegId) (i j n : Nat) (x : Segment) : (s.setSeg n x).rd r i j = s.rd r i j := rfl

@[simp] theorem State.grp_setGrp_same (s : State) (i : Nat) (x : Group) : (s.setGrp i x).grp i = x :=
  KMap.getD_insert_same _ _ _ _

theorem State.grp_setGrp_ne (s : State) {i j : Nat} (x : Group) (h : j ≠ i) : (s.setGrp i x).grp j = s.grp j :=
  KMap.getD_insert_ne _ _ _ h

@[simp] theorem State.grp_wr (s : State) (r : RegId) (i j n : Nat) (v : Word) : (s.wr r i j v).grp n = s.grp n := rfl

@[simp] theorem State.rd_setGrp (s : State) (r : RegId) (i j n : Nat) (x : Group) : (s.setGrp n x).rd r i j = s.rd r i j := rfl

@[simp] theorem State.prt_setPrt_same (s : State) (i : Nat) (x : Partial) : (s.setPrt i x).prt i = x :=
  KMap.getD_insert_same _ _ _ _

theorem State.prt_setPrt_ne (s : State) {i j : Nat} (x : Partial) (h : j ≠ i) : (s.setPrt i x).prt j = s.prt j :=
  KMap.getD_insert_ne _ _ _ h

@[simp] theorem State.prt_wr (s : State) (r : RegId) (i j n : Nat) (v : Word) : (s.wr r i j v).prt n = s.prt n := rfl

@[simp] theorem State.rd_setPrt (s : State) (r : RegId) (i j n : Nat) (x : Partial) : (s.setPrt n x).rd r i j = s.rd r i j := rfl

@[simp] theorem State.chan_setChan_same (s : State) (i : Nat) (x : Channel) : (s.setChan i x).chan i = x :=
  KMap.getD_insert_same _ _ _ _

theorem State.chan_setChan_ne (s : State) {i j : Nat} (x : Channel) (h : j ≠ i) : (s.setChan i x).chan j = s.chan j :=
  KMap.getD_insert_ne _ _ _ h

@[simp] theorem State.chan_wr (s : State) (r : RegId) (i j n : Nat) (v : Word) : (s.wr r i j v).chan n = s.chan n := rfl

@[simp] theorem State.rd_setChan (s : State) (r : RegId) (i j n : Nat) (x : Channel) : (s.setChan n x).rd r i j = s.rd r i j := rfl

@[simp] theorem State.win_setWin_same (s : State) (i : Nat) (x : CheckWin) : (s.setWin i x).win i = x :=
  KMap.getD_insert_same _ _ _ _

theorem State.win_setWin_ne (s : State) {i j : Nat} (x : CheckWin) (h : j ≠ i) : (s.setWin i x).win j = s.win j :=
  KMap.getD_insert_ne _ _ _ h

@[simp] theorem State.win_wr (s : State) (r : RegId) (i j n : Nat) (v : Word) : (s.wr r i j v).win n = s.win n := rfl

@[simp] theorem State.rd_setWin (s : State) (r : RegId) (i j n : Nat) (x : CheckWin) : (s.setWin n x).rd r i j = s.rd r i j := rfl

@[simp] theorem State.dac_setDac_same (s : State) (i : Nat) (x : Dac) : (s.setDac i x).dac i = x :=
  KMap.getD_insert_same _ _ _ _

theorem State.dac_setDac_ne (s : State) {i j : Nat} (x : Dac) (h : j ≠ i) : (s.setDac i x).dac j = s.dac j :=
  KMap.getD_insert_ne _ _ _ h

@[simp] theorem State.dac_wr (s : State) (r : RegId) (i j n : Nat) (v : Word) : (s.wr r i j v).dac n = s.dac n := rfl

@[simp] theorem State.rd_setDac (s : State) (r : RegId) (i j n : Nat) (x : Dac) : (s.setDac n x).rd r i j = s.rd r i j := rfl

@[simp] theorem State.pin_setPin_same (s : State) (i : Nat) (x : Pin) : (s.setPin i x).pin i = x :=
  KMap.getD_insert_same _ _ _ _

theorem State.pin_setPin_ne (s : State) {i j : Nat} (x : Pin) (h : j ≠ i) : (s.setPin i x).pin j = s.pin j :=
  KMap.getD_insert_ne _ _ _ h

@[simp] theorem State.pin_wr (s : State) (r : RegId) (i j n : Nat) (v : Word) : (s.wr r i j v).pin n = s.pin n := rfl

@[simp] theorem State.rd_setPin (s : State) (r : RegId) (i j n : Nat) (x : Pin) : (s.setPin n x).rd r i j = s.rd r i j := rfl

@[simp] theorem State.pair_setPair_same (s : State) (i : Nat) (x : Pair) : (s.setPair i x).pair i = x :=
  KMap.getD_insert_same _ _ _ _

theorem State.pair_setPair_ne (s : State) {i j : Nat} (x : Pair) (h : j ≠ i) : (s.setPair i x).pair j = s.pair j :=
  KMap.getD_insert_ne _ _ _ h

@[simp] theorem State.pair_wr (s : State) (r : RegId) (i j n : Nat) (v : Word) : (s.wr r i j v).pair n = s.pair n := rfl

@[simp] theorem State.rd_setPair (s : State) (r : RegId) (i j n : Nat) (x : Pair) : (s.setPair n x).rd r i j = s.rd r i j := rfl

@[simp] theorem State.mrk_setMrk_same (s : State) (i : Nat) (x : Marker) : (s.setMrk i x).mrk i = x :=
  KMap.getD_insert_same _ _ _ _

theorem State.mrk_setMrk_ne (s : State) {i j : Nat} (x : Marker) (h : j ≠ i) : (s.setMrk i x).mrk j = s.mrk j :=
  KMap.getD_insert_ne _ _ _ h

@[simp] theorem State.mrk_wr (s : State) (r : RegId) (i j n : Nat) (v : Word) : (s.wr r i j v).mrk n = s.mrk n := rfl

@[simp] theorem State.rd_setMrk (s : State) (r : RegId) (i j n : Nat) (x : Marker) : (s.setMrk n x).rd r i j = s.rd r i j := rfl

@[simp] theorem State.bin_setBin_same (s : State) (i : Nat) (x : BinIn) : (s.setBin i x).bin i = x :=
  KMap.getD_insert_same _ _ _ _

theorem State.bin_setBin_ne (s : State) {i j : Nat} (x : BinIn) (h : j ≠ i) : (s.setBin i x).bin j = s.bin j :=
  KMap.getD_insert_ne _ _ _ h

@[simp] theorem State.bin_wr (s : State) (r : RegId) (i j n : Nat) (v : Word) : (s.wr r i j v).bin n = s.bin n := rfl

@[simp] theorem State.rd_setBin (s : State) (r : RegId) (i j n : Nat) (x : BinIn) : (s.setBin n x).rd r i j = s.rd r i j := rfl

@[simp] theorem State.bset_setBset_same (s : State) (i : Nat) (x : BankSet) : (s.setBset i x).bset i = x :=
  KMap.getD_insert_same _ _ _ _

theorem State.bset_setBset_ne (s : State) {i j : Nat} (x : BankSet) (h : j ≠ i) : (s.setBset i x).bset j = s.bset j :=
  KMap.getD_insert_ne _ _ _ h

@[simp] theorem State.bset_wr (s : State) (r : RegId) (i j n : Nat) (v : Word) : (s.wr r i j v).bset n = s.bset n := rfl

@[simp] theorem State.rd_setBset (s : State) (r : RegId) (i j n : Nat) (x : BankSet) : (s.setBset n x).rd r i j = s.rd r i j := rfl

@[simp] theorem State.adc_setAdc_same (s : State) (i : Nat) (x : Adc) : (s.setAdc i x).adc i = x :=
  KMap.getD_insert_same _ _ _ _

theorem State.adc_setAdc_ne (s : State) {i j : Nat} (x : Adc) (h : j ≠ i) : (s.setAdc i x).adc j = s.adc j :=
  KMap.getD_insert_ne _ _ _ h

@[simp] theorem State.adc_wr (s : State) (r : RegId) (i j n : Nat) (v : Word) : (s.wr r i j v).adc n = s.adc n := rfl

@[simp] theorem State.rd_setAdc (s : State) (r : RegId) (i j n : Nat) (x : Adc) : (s.setAdc n x).rd r i j = s.rd r i j := rfl

@[simp] theorem State.netp_setNetp_same (s : State) (i : Nat) (x : NetPort) : (s.setNetp i x).netp i = x :=
  KMap.getD_insert_same _ _ _ _

theorem State.netp_setNetp_ne (s : State) {i j : Nat} (x : NetPort) (h : j ≠ i) : (s.setNetp i x).netp j = s.netp j :=
  KMap.getD_insert_ne _ _ _ h

@[simp] theorem State.netp_wr (s : State) (r : RegId) (i j n : Nat) (v : Word) : (s.wr r i j v).netp n = s.netp n := rfl

@[simp] theorem State.rd_setNetp (s : State) (r : RegId) (i j n : Nat) (x : NetPort) : (s.setNetp n x).rd r i j = s.rd r i j := rfl

@[simp] theorem State.sv_setSv_same (s : State) (i : Nat) (x : SvStream) : (s.setSv i x).sv i = x :=
  KMap.getD_insert_same _ _ _ _

theorem State.sv_setSv_ne (s : State) {i j : Nat} (x : SvStream) (h : j ≠ i) : (s.setSv i x).sv j = s.sv j :=
  KMap.getD_insert_ne _ _ _ h

@[simp] theorem State.sv_wr (s : State) (r : RegId) (i j n : Nat) (v : Word) : (s.wr r i j v).sv n = s.sv n := rfl

@[simp] theorem State.rd_setSv (s : State) (r : RegId) (i j n : Nat) (x : SvStream) : (s.setSv n x).rd r i j = s.rd r i j := rfl

@[simp] theorem State.gs_setGs_same (s : State) (i : Nat) (x : GooseSub) : (s.setGs i x).gs i = x :=
  KMap.getD_insert_same _ _ _ _

theorem State.gs_setGs_ne (s : State) {i j : Nat} (x : GooseSub) (h : j ≠ i) : (s.setGs i x).gs j = s.gs j :=
  KMap.getD_insert_ne _ _ _ h

@[simp] theorem State.gs_wr (s : State) (r : RegId) (i j n : Nat) (v : Word) : (s.wr r i j v).gs n = s.gs n := rfl

@[simp] theorem State.rd_setGs (s : State) (r : RegId) (i j n : Nat) (x : GooseSub) : (s.setGs n x).rd r i j = s.rd r i j := rfl

@[simp] theorem State.port_setPort_same (s : State) (i : Nat) (x : ChnPort) : (s.setPort i x).port i = x :=
  KMap.getD_insert_same _ _ _ _

theorem State.port_setPort_ne (s : State) {i j : Nat} (x : ChnPort) (h : j ≠ i) : (s.setPort i x).port j = s.port j :=
  KMap.getD_insert_ne _ _ _ h

@[simp] theorem State.port_wr (s : State) (r : RegId) (i j n : Nat) (v : Word) : (s.wr r i j v).port n = s.port n := rfl

@[simp] theorem State.rd_setPort (s : State) (r : RegId) (i j n : Nat) (x : ChnPort) : (s.setPort n x).rd r i j = s.rd r i j := rfl

@[simp] theorem State.rd_wr_same (s : State) (r : RegId) (i j : Nat) (v : Word) : (s.wr r i j v).rd r i j = v :=
  KMap.getD_put_same _ _ _ _

theorem State.rd_wr_ne (s : State) {r r' : RegId} {i j i' j' : Nat} (v : Word) (h : r'.off i' j' ≠ r.off i j) :
    (s.wr r i j v).rd r' i' j' = s.rd r' i' j' :=
  KMap.getD_put_ne _ _ _ _ h

@[simp] theorem State.entry_setEntry_same (s : State) (g e : Nat) (ws : List Word) : (s.setEntry g e ws).entry g e = ws :=
  KMap.getD_put_same _ _ _ _

theorem State.entry_setEntry_ne (s : State) {g e g' e' : Nat} (ws : List Word) (h : g' * 1024 + e' ≠ g * 1024 + e) :
    (s.setEntry g e ws).entry g' e' = s.entry g' e' :=
  KMap.getD_put_ne _ _ _ _ h

@[simp] theorem State.rd_put (s : State) (r : RegId) (i j : Nat) (x : Sent) : (s.put x).rd r i j = s.rd r i j := rfl

/-! ### Bytes of memory -/

theorem State.byteAt_writeChip_same (s : State) (a : Nat) (b : Byte) : (s.writeChip a b).byteAt true a = b :=
  KMap.getD_put_same _ _ _ _

theorem State.byteAt_writeChip_ne (s : State) {a a' : Nat} (b : Byte) (h : a' ≠ a) :
    (s.writeChip a b).byteAt true a' = s.byteAt true a' :=
  KMap.getD_put_ne _ _ _ _ h

theorem State.byteAt_writeChip_ext (s : State) (a a' : Nat) (b : Byte) :
    (s.writeChip a b).byteAt false a' = s.byteAt false a' := rfl

theorem State.byteAt_writeExt_same (s : State) (a : Nat) (b : Byte) (h : s.drm.fenced.contains (s.drmChannel a) = false) :
    (s.writeExt a b).byteAt false a = b := by
  simp only [State.writeExt, h, Bool.false_eq_true, if_false]
  exact KMap.getD_insert_same _ _ _ _

theorem State.byteAt_writeExt_ne (s : State) {a a' : Nat} (b : Byte) (h : a' ≠ a) :
    (s.writeExt a b).byteAt false a' = s.byteAt false a' := by
  unfold State.writeExt
  split
  · rfl
  · exact KMap.getD_insert_ne _ _ _ h

theorem State.byteAt_writeExt_chip (s : State) (a a' : Nat) (b : Byte) :
    (s.writeExt a b).byteAt true a' = s.byteAt true a' := by
  unfold State.writeExt
  split <;> rfl

/-- Bytes outside a written range read as before, in both memories. -/
theorem State.byteAt_writeBytes_out (s : State) (chip m : Bool) (a a' : Nat) (bs : List Byte)
    (h : m ≠ chip ∨ a' < a ∨ a + bs.length ≤ a') : (s.writeBytes chip a bs).byteAt m a' = s.byteAt m a' := by
  induction bs generalizing s a with
  | nil => rfl
  | cons b t ih =>
    simp only [List.length_cons] at h
    have hb : m ≠ chip ∨ a' ≠ a := h.imp_right (by omega)
    rw [State.writeBytes, ih _ _ (h.imp_right (by omega))]
    cases chip <;> cases m <;> simp only [State.writeB, if_true, Bool.false_eq_true, if_false]
    · exact State.byteAt_writeExt_ne s b (by simpa using hb)
    · exact State.byteAt_writeExt_chip s a a' b
    · exact State.byteAt_writeChip_ext s a a' b
    · exact State.byteAt_writeChip_ne s b (by simpa using hb)

/-- Bytes written to on-chip memory read back. -/
theorem State.byteAt_writeBytes_chip (s : State) (a i : Nat) (bs : List Byte) (h : i < bs.length) :
    (s.writeBytes true a bs).byteAt true (a + i) = bs.getD i 0 := by
  induction bs generalizing s a i with
  | nil => simp at h
  | cons b t ih =>
    rw [State.writeBytes]
    cases i with
    | zero =>
      rw [State.byteAt_writeBytes_out _ _ _ _ _ _ (.inr (by omega))]
      exact State.byteAt_writeChip_same s a b
    | succ n =>
      have := ih (s.writeB true a b) (a + 1) n (by simpa using h)
      rw [show a + (n + 1) = a + 1 + n by omega, this]
      rfl

end Sys2Proof.Machine
end

