-- ==== Sys2Proof/Laws/Reply.lean ====
section
/-!
SUPPORT. The shared operations of the commands in flight, each with what it does said once: a command that is due runs its own
body, and deciding its reply answers it and leaves every other command as it was.
-/
namespace Sys2Proof.Machine

/-- A command that is due, for this device and no broadcast, begins and then does what its body says. -/
theorem State.run_of_runs {s : State} {q k op : Nat} {c : Cmd} (h : s.Runs q k op c)
    (body : State → Cmd → CmdRef → State) : s.run q k op body = body (s.begun ⟨q, k⟩) c ⟨q, k⟩ := by
  obtain ⟨_, hfw, hfind, hop, hel, hskip, hflag, hdest, hrec, hexc, _⟩ := h
  subst hop
  have h1 : ¬(((s.recovery = true ∧ ¬c.hdr.opcode / 256 = 1) ∧ ¬c.hdr.opcode / 256 = 2) ∧ ¬c.hdr.opcode / 256 = 10) := by
    rcases hrec with h | h | h | h <;> simp [h]
  have h2 : ¬((s.chn.excluded = true ∧ c.hdr.opcode / 256 = 4) ∧ ¬c.hdr.opcode = 0x0404) := by
    rcases hexc with h | h | h <;> simp [h]
  simp [State.run, hfind, hfw, hel, hskip, hflag, hdest, State.runHere, h1, h2]

/-- A command that is not in flight at its place does nothing. -/
theorem State.run_absent {s : State} {q k op : Nat} (h : (s.q q).find k = none) (body : State → Cmd → CmdRef → State) :
    s.run q k op body = s := by
  simp [State.run, h]

/-- The reply of a command that no broadcast stands behind is decided on its queue alone. -/
theorem State.finish_own {s : State} {r : CmdRef} (h : ∀ b ∈ s.chn.bcasts, b.cmd ≠ r) (status : Nat) (result : List Word) :
    s.finish r status result = s.decide1 r status result (s.rf .SYS_ADDR 0 0 13 0) := by
  have hn : (s.chn.bcasts.find? fun b => decide (b.cmd = r)) = none := by
    simp only [List.find?_eq_none, decide_eq_true_eq]
    exact h
  simp only [State.finish, hn]

/-- The command found at a place after a change that leaves places alone. -/
theorem Queue.find_upd_same {x : Queue} {k : Nat} {c : Cmd} {h : Cmd → Cmd} (hk : ∀ y, (h y).k = y.k)
    (hf : x.find k = some c) : (x.upd k h).find k = some (h c) := by
  simp only [Queue.find, Queue.upd] at *
  revert hf
  induction x.inflight with
  | nil => simp
  | cons a t ih =>
    intro hf
    rw [List.map_cons, List.find?_cons]
    rw [List.find?_cons] at hf
    by_cases e : a.k = k
    · simp only [e, decide_true, Option.some.injEq] at hf
      subst hf
      simp only [e, if_true, hk, decide_true]
    · simp only [e, decide_false] at hf
      simpa [e] using ih hf

/-- Every other place keeps its command. -/
theorem Queue.find_upd_ne {x : Queue} {j k : Nat} {h : Cmd → Cmd} (hk : ∀ y, (h y).k = y.k) (hj : j ≠ k) :
    (x.upd k h).find j = x.find j := by
  simp only [Queue.find, Queue.upd]
  induction x.inflight with
  | nil => rfl
  | cons a t ih =>
    rw [List.map_cons, List.find?_cons, List.find?_cons, ih]
    by_cases e : a.k = k
    · simp [e, hk, Ne.symm hj]
    · simp [e]

@[simp] theorem Queue.startSkip_inflight (x : Queue) (cls k : Nat) : (x.startSkip cls k).inflight = x.inflight := by
  unfold Queue.startSkip
  split <;> rfl

/-- Deciding the reply of a command in flight on a queue that is not in reset answers it (R37, R42, R43). -/
theorem State.decide1_replied {s : State} {q k : Nat} {c : Cmd} (hf : (s.q q).find k = some c) (hp : c.phase ≠ .done)
    (hr : (s.q q).resetting = false) (status : Nat) (result : List Word) :
    s.Replied (s.decide1 ⟨q, k⟩ status result s.ownAddr) q k status result := by
  have hkeep : ∀ (h : Cmd → Cmd) (_ : ∀ y, (h y).k = y.k) (x : Queue), x.inflight = ((s.q q).upd k h).inflight →
      x.find k = some (h c) ∧ ∀ j, j ≠ k → x.find j = (s.q q).find j := by
    intro h hk x e
    have e' : ∀ j, x.find j = ((s.q q).upd k h).find j := fun j => by simp only [Queue.find, e]
    exact ⟨(e' k).trans (Queue.find_upd_same hk hf), fun j hj => (e' j).trans (Queue.find_upd_ne hk hj)⟩
  obtain ⟨x, hx, hi, hrest⟩ : ∃ x, s.decide1 ⟨q, k⟩ status result s.ownAddr = s.setQ q x ∧
      x.inflight = ((s.q q).upd k fun y =>
        { y with phase := .done, reply := some ⟨status, status, s.ownAddr, result⟩ }).inflight ∧
      (startsSkip status = false → status ≠ stSkipped →
        { x with inflight := (s.q q).inflight, window := (s.q q).window } = s.q q) := by
    simp only [State.decide1, hf, hp, hr, if_false, Bool.false_eq_true]
    refine ⟨_, rfl, ?_, fun h1 h2 => ?_⟩
    · simp only [apply_ite Queue.inflight, Queue.startSkip_inflight, ite_self]
    · have h3 : status ≠ stTimeout := by
        rintro rfl
        simp [startsSkip] at h1
      simp only [h1, h2, h3, Bool.false_eq_true, if_false]
      split
      · rfl
      · split <;> rfl
  obtain ⟨h1, h2⟩ := hkeep (fun y => { y with phase := .done, reply := some ⟨status, status, s.ownAddr, result⟩ })
    (fun _ => rfl) x hi
  rw [hx]
  refine ⟨?_, ?_, ?_, ?_⟩
  · simp [State.replyOf, h1]
  · intro j hj
    exact KMap.find?_insert_ne _ _ (by simpa using hj)
  · simpa using h2
  · simpa using hrest

/-- The queue of a command that has just begun. -/
theorem State.begun_q {s : State} {q k : Nat} :
    (s.begun ⟨q, k⟩).q q = (s.q q).upd k fun y => { y with phase := .begun, timer := some s.now } := by
  unfold State.begun
  split <;> exact State.q_setQ_same _ _ _

/-- Beginning a command changes its queue and the note of the command that began last. -/
theorem State.begun_eq {s : State} {q k : Nat} {c : Cmd} (h : (s.q q).find k = some c) :
    s.begun ⟨q, k⟩ = { s with
      queues := KMap.insert s.queues q ((s.q q).upd k fun y => { y with phase := .begun, timer := some s.now })
      err := { s.err with lastOp := c.hdr.opcode, lastTag := c.hdr.tag + c.hdr.queue * 4096 } } := by
  simp only [State.begun, h]
  rfl

/-- A command that is due and whose body only answers is answered, and nothing else happens. -/
theorem State.finish_begun {s : State} {q k op : Nat} {c : Cmd} (h : s.Runs q k op c) (status : Nat) (result : List Word) :
    s.RepliedOnly ((s.begun ⟨q, k⟩).finish ⟨q, k⟩ status result) q k status result := by
  obtain ⟨_, _, hfind, _, hel, _, _, _, _, _, hb⟩ := h
  have hres : (s.q q).resetting = false := by
    simp only [State.eligible, Bool.and_eq_true, Bool.not_eq_true'] at hel
    exact hel.1.2
  have hq := State.begun_q (s := s) (q := q) (k := k)
  have hbc : (s.begun ⟨q, k⟩).chn = s.chn := by rw [State.begun_eq hfind]
  have how : (s.begun ⟨q, k⟩).rf .SYS_ADDR 0 0 13 0 = s.ownAddr := by rw [State.begun_eq hfind]; rfl
  have how' : (s.begun ⟨q, k⟩).ownAddr = s.ownAddr := how
  have hf' : ((s.begun ⟨q, k⟩).q q).find k = some { c with phase := .begun, timer := some s.now } := by
    rw [hq]
    exact Queue.find_upd_same (fun _ => rfl) hfind
  rw [State.finish_own (by rw [hbc]; exact hb), how]
  obtain ⟨r1, r2, r3, r4⟩ := State.decide1_replied hf' (by simp) (by rw [hq]; exact hres) status result
  rw [how'] at r1 r2 r3 r4
  refine ⟨⟨r1, fun j hj => ?_, fun j hj => ?_, fun h1 h2 => ?_⟩, ?_⟩
  · rw [r2 j hj, State.begun_eq hfind]
    exact KMap.find?_insert_ne _ _ (by simpa using hj)
  · rw [r3 j hj, hq]
    exact Queue.find_upd_ne (fun _ => rfl) hj
  · have e := r4 h1 h2
    rw [hq] at e
    have e' := congrArg (fun x : Queue => { x with inflight := (s.q q).inflight }) e
    exact e'
  · obtain ⟨x, hx⟩ : ∃ x, (s.begun ⟨q, k⟩).decide1 ⟨q, k⟩ status result s.ownAddr = (s.begun ⟨q, k⟩).setQ q x := by
      simp only [State.decide1, hf', reduceCtorEq, if_false]
      exact ⟨_, rfl⟩
    rw [hx, State.begun_eq hfind]
    rfl

end Sys2Proof.Machine
end

