-- ==== Sys2Proof/Tests/Slice0.lean ====
section
/-! SUPPORT. Tests of the model on small states: a state for the hypotheses of every statement, ill-formed commands that the
check refuses, and worked examples of the manual. -/
set_option Elab.async false
set_option linter.unusedVariables false
open Sys2Proof Sys2Proof.Machine
namespace Sys2Proof.Tests

/-- A packet of the manual's layout. -/
def pk (op q seq : Nat) (pl : List Word) (flags : Nat := 0) (dest : Nat := 0) : List Byte :=
  let b := leBytes 2 op ++ leBytes 1 flags ++ [1] ++ leBytes 2 (q * 4096 + seq % 4096) ++ leBytes 2 pl.length ++ leBytes 4 seq ++
    leBytes 2 dest ++ [0, 0] ++ bytesOf pl
  b ++ leBytes 4 (crc32c b).toNat
/-- A command in flight. -/
def cmd (op : Nat) (pl : List Word) (k : Nat := 0) (dest : Nat := 0) (cls : Nat := 0) : Cmd :=
  { k := k, hdr := { opcode := op, version := 1, len := pl.length, seq := k, dest := dest, cls := cls, tag := k }, hraw := []
    payload := pl, replyAddr := 0, replyLen := 0, phase := .ready, holdsTag := true, reply := none }
/-- The device with firmware running, every block's running bit set, PLL A locked. -/
def up : State :=
  { (State.reset.wr .SYS_EN_STATUS 0 0 0xFFFFFFFF).wr .SYS_EN 0 0 0xFFFFFFFF with
    fwReady := true, mgt := { mainPwr := true, mainRun := true }
    tb := { now := 1000 * 204800000000 + 256000, lock := true, timeValid := true } }
/-- A band table whose entry 0 holds the reset target of a synthesiser, which is locked. -/
def banded (s : State) (x : Nat) : State :=
  ((s.wr .PLLx_BAND_RANGE_k x 0 0xEE48E678).wr .PLLx_BAND_TRIM_k x 0 0x80000000).setPll x { lock := true }
/-- With a command at place 0 of queue `q`. -/
def on (s : State) (q : Nat) (c : Cmd) : State := s.setQ q { s.q q with inflight := (s.q q).inflight ++ [c], nextK := c.k + 1 }
/-- A command that has begun. -/
def begun (c : Cmd) : Cmd := { c with phase := .begun }
/-- A host queue that fetches. -/
def hostQ : Queue := { sizeLog2 := 4, en := true, enabled := true, tail := 3 }
/-- Values for what a state does not hold. -/
def anyCmd : Cmd := cmd 0 []
def anyState : State := State.reset
def anyMsg : Msg := ⟨0, 0, false, false, 0, 0, 0, []⟩
def anyXact : Xact := ⟨0, 0, none, 0, [], [], [], 0⟩
def anyCmdRef : CmdRef := ⟨0, 0⟩
def anyCensus : Census := ⟨0, ⟨0, 0⟩, 0, [], []⟩
def anyBcast : Bcast := ⟨0, ⟨0, 0⟩, [], none, []⟩
def anyFwSession : FwSession := ⟨0, 0, 0, []⟩
def anyMgtEntry : MgtEntry := ⟨0, ⟨0, 0, 0, []⟩⟩
def anyWinEntry : WinEntry := ⟨0, 0, ⟨0, 0, 0, []⟩⟩
def anyReply : Reply := ⟨0, 0, 0, []⟩
/-- The state of an outcome. -/
def nxt : Host.Outcome State Fault Refusal → State
  | .next t => t
  | _ => State.reset

/-- The command at `k` of queue `q` has begun and waits. -/
def waitsB (s : State) (q k : Nat) : Bool :=
  match (s.q q).find k with
  | some c => c.phase = .begun && !(s.q q).resetting && s.chn.bcasts.all fun b => b.cmd ≠ ⟨q, k⟩
  | none => false

theorem waits_of {s : State} {q k : Nat} (h : waitsB s q k = true) : s.Waits q k := by
  unfold waitsB at h
  split at h
  · simp only [Bool.and_eq_true, decide_eq_true_eq, Bool.not_eq_true', List.all_eq_true] at h
    exact ⟨_, ‹_›, h.1.1, h.1.2, h.2⟩
  · cases h

theorem no_job {s : State} {q k : Nat} (h : s.segs = []) :
    ∀ i : Nat, (∀ j : SegJob, (s.seg i).job = some j → ¬(j.q = q ∧ j.k = k)) ∧
      (∀ j : SegJob, j ∈ (s.seg i).waiting → ¬(j.q = q ∧ j.k = k)) ∧ ¬(q, k) ∈ (s.seg i).verifies := by
  intro i
  simp [State.seg, h, KMap.getD, KMap.find?]

theorem grp_other {s : State} {g h : Nat} (hk : s.groups.map Prod.fst = [g]) (hh : h ≠ g) : s.grp h = {} := by
  unfold State.grp KMap.getD
  rcases hs : s.groups with _ | ⟨p, _ | ⟨p', l⟩⟩ <;> simp_all [KMap.find?]
  rw [if_neg (Ne.symm hh)]
  rfl

theorem other_group {s : State} {g : Nat} (hk : s.groups.map Prod.fst = [g]) {c : Option CmdRef} : ∀ h : Nat, h ≠ g →
    (∀ y : StageSet, y ∈ (s.grp h).released → y.cmd ≠ c) ∧
      ∀ y : Option CmdRef × Option (List Word), y ∈ (s.grp h).relWait → y.fst ≠ c := by
  intro h hh
  simp [grp_other hk hh]

theorem no_follower {s : State} {g : Nat} (hk : s.groups.map Prod.fst = [g]) (hb : s.bindMode g ≠ 1) :
    ∀ h : Nat, (s.grp h).st.isRunning = true → s.bindMode h ≠ 1 := by
  intro h hr
  by_cases hh : h = g
  · exact hh ▸ hb
  · rw [grp_other hk hh] at hr
    cases hr

theorem plain_scratch : PlainReg .SYS_SCRATCH 0 0 :=
  ⟨fun _ _ _ _ => rfl, fun _ => rfl, by decide +kernel, by decide +kernel, by decide +kernel⟩

theorem plain_ctl : PlainReg .TB_CTL 0 0 :=
  ⟨fun _ _ _ _ => rfl, fun _ => rfl, by decide +kernel, by decide +kernel, by decide +kernel⟩

namespace Start

def p1 : List Byte := pk 0x0101 2 7 [1, 2, 3]
def p2 : List Byte := pk 0x0103 8 7 []
def ringOf (len : Nat) : List Byte := leBytes 8 0x4000 ++ leBytes 4 len ++ leBytes 4 64 ++ leBytes 8 0x8000 ++ leBytes 8 0
def q2 : State := up.setQ 2 hostQ
def cd : Cmd := { cmd 0x101 [1] 0 with phase := .done, reply := some ⟨0,0,0,[7,8,9]⟩, hdr := { (cmd 0x101 [1]).hdr with flags := 4 } }
def qd : State := up.setQ 2 { hostQ with inflight := [cd], intEn := true }
def dup5 : Cmd := { cmd 0x101 [] 5 with phase := .dupWait, holdsTag := false }
def q8d : State := { up.setQ 8 { inflight := [cd, cmd 0x101 [] 4] } with mgt := { up.mgt with held := [(2, [1]), (7, [2])] } }
def bg : Cmd := { begun (cmd 0x304 []) with timer := some up.tb.now }
def ws : Cmd := begun { cmd 0x402 [3] 0 with timer := none }

/-- States that meet the hypotheses of `StepRunsFront`, clause by clause. -/
theorem witness_StepRunsFront :
    (∃ (c : Instr) (rest : List Instr) (s : State), s.pending = c :: rest) :=
  ⟨Instr.lineActiveTimeout, [], { up with pending := [.lineActiveTimeout] }, by decide +kernel⟩

/-- States that meet the hypotheses of `StepKeepsCanonical`, clause by clause. -/
theorem witness_StepKeepsCanonical :
    (∃ (s t : State), s.Canonical ∧ step s = Host.Outcome.next t) :=
  ⟨up, { up with tb := { up.tb with now := up.tb.now / 256 * 256 + 256 } }, by unfold State.Canonical; decide +kernel, rfl⟩

/-- States that meet the hypotheses of `StepTakesFront`, clause by clause. -/
theorem witness_StepTakesFront :
    (∃ (s t : State), step s = Host.Outcome.next t) :=
  ⟨{ up with pending := [.lineActiveTimeout, .trig 3] }, nxt (step { up with pending := [.lineActiveTimeout, .trig 3] }), rfl⟩

/-- States that meet the hypotheses of `IdleCountsOneTick`, clause by clause. -/
theorem witness_IdleCountsOneTick :
    (∃ (s : State), s.pending = [] ∧ s.counting = true) ∧
    (∃ (s : State), s.pending = [] ∧ s.counting = true ∧ s.ev.open_ = []) ∧
    (∃ (s : State), s.pending = [] ∧ s.counting = false) :=
  ⟨⟨up, by decide +kernel⟩,
   ⟨up, by decide +kernel⟩,
   ⟨State.reset, by decide +kernel⟩⟩

/-- States that meet the hypotheses of `MainResetHolds`, clause by clause. -/
theorem witness_MainResetHolds :
    (∃ (c : Instr) (s : State), s.mgt.rst = true ∧ ofMainSide c = true) :=
  ⟨Instr.trig 3, { up with mgt := { rst := true } }, by decide +kernel⟩

/-- States that meet the hypotheses of `PacketRoundTrip`, clause by clause. -/
theorem witness_PacketRoundTrip :
    (∃ (q : Nat) (b : List Byte), checks1to4 q b.length b = none) ∧
    (∃ (b : List Byte), 20 ≤ b.length ∧ b.length ≤ 4096) :=
  ⟨⟨2, p1, by decide +kernel⟩,
   ⟨p1, by decide +kernel⟩⟩

/-- States that meet the hypotheses of `TableAfterReset`, clause by clause. -/
theorem witness_TableAfterReset :
    (∃ (s : State), s.mgt.rst = false) ∧
    (∃ (s : State) (b : List Byte), s.IslandTakes b 259 ∧ s.mgt.mainPwr = true ∧ s.mgt.rst = false) ∧
    (∃ (j : Nat), j < 4) :=
  ⟨⟨up, by decide +kernel⟩,
   ⟨up, p2, by unfold State.IslandTakes; decide +kernel⟩,
   ⟨0, by decide +kernel⟩⟩

/-- States that meet the hypotheses of `PacketFetched`, clause by clause. -/
theorem witness_PacketFetched :
    (∃ (q : Fin 8) (s : State), s.mgt.rst = false ∧ s.mayFetch ↑q = false) ∧
    (∃ (q : Fin 8) (s : State) (j : Nat), s.mgt.rst = false ∧ s.mayFetch ↑q = true ∧ ((s.q ↑q).inflight.all fun (d : Cmd) => decide (d.k <
      (s.q ↑q).nextK)) = true ∧ j ≠ (s.q ↑q).nextK) ∧
    (∃ (q : Fin 8) (entry packet : List Byte) (s : State) (st : Nat), s.mgt.rst = false ∧ s.mayFetch ↑q = true ∧ ((s.q ↑q).inflight.all
      fun (d : Cmd) => decide (d.k < (s.q ↑q).nextK)) = true ∧ checks1to4 (↑q) (ringEntry entry).len (padTo (ringEntry entry).len
      (List.take (ringEntry entry).len packet)) = some st) ∧
    (∃ (q : Fin 8) (entry packet : List Byte) (s : State) (w : WinEntry), s.mgt.rst = false ∧ s.mayFetch ↑q = true ∧ ((s.q
      ↑q).inflight.all fun (d : Cmd) => decide (d.k < (s.q ↑q).nextK)) = true ∧ checks1to4 (↑q) (ringEntry entry).len (padTo (ringEntry
      entry).len (List.take (ringEntry entry).len packet)) = none ∧ List.find? (fun (w : WinEntry) => decide (w.seq = (mkCmd (s.q
      ↑q).nextK (padTo (ringEntry entry).len (List.take (ringEntry entry).len packet)) (ringEntry entry).replyAddr (ringEntry
      entry).replyLen).hdr.seq)) (s.q ↑q).window = some w) ∧
    (∃ (q : Fin 8) (entry packet : List Byte) (s : State), s.mgt.rst = false ∧ s.mayFetch ↑q = true ∧ ((s.q ↑q).inflight.all fun (d : Cmd)
      => decide (d.k < (s.q ↑q).nextK)) = true ∧ checks1to4 (↑q) (ringEntry entry).len (padTo (ringEntry entry).len (List.take (ringEntry
      entry).len packet)) = none ∧ List.find? (fun (w : WinEntry) => decide (w.seq = (mkCmd (s.q ↑q).nextK (padTo (ringEntry entry).len
      (List.take (ringEntry entry).len packet)) (ringEntry entry).replyAddr (ringEntry entry).replyLen).hdr.seq)) (s.q ↑q).window = none ∧
      (s.q ↑q).original (mkCmd (s.q ↑q).nextK (padTo (ringEntry entry).len (List.take (ringEntry entry).len packet)) (ringEntry
      entry).replyAddr (ringEntry entry).replyLen) = true) ∧
    (∃ (q : Fin 8) (entry packet : List Byte) (s : State), s.mgt.rst = false ∧ s.mayFetch ↑q = true ∧ ((s.q ↑q).inflight.all fun (d : Cmd)
      => decide (d.k < (s.q ↑q).nextK)) = true ∧ checks1to4 (↑q) (ringEntry entry).len (padTo (ringEntry entry).len (List.take (ringEntry
      entry).len packet)) = none ∧ List.find? (fun (w : WinEntry) => decide (w.seq = (mkCmd (s.q ↑q).nextK (padTo (ringEntry entry).len
      (List.take (ringEntry entry).len packet)) (ringEntry entry).replyAddr (ringEntry entry).replyLen).hdr.seq)) (s.q ↑q).window = none ∧
      (s.q ↑q).original (mkCmd (s.q ↑q).nextK (padTo (ringEntry entry).len (List.take (ringEntry entry).len packet)) (ringEntry
      entry).replyAddr (ringEntry entry).replyLen) = false ∧
      ({ s.q ↑q with inflight := (s.q ↑q).inflight ++ [mkCmd (s.q ↑q).nextK (padTo (ringEntry entry).len (List.take (ringEntry entry).len packet)) (ringEntry entry).replyAddr (ringEntry entry).replyLen] }).checks6to9
      (mkCmd (s.q ↑q).nextK (padTo (ringEntry entry).len (List.take (ringEntry entry).len packet)) (ringEntry entry).replyAddr (ringEntry
      entry).replyLen) = (none, true)) ∧
    (∃ (q : Fin 8) (entry packet : List Byte) (s : State) (st : Nat) (h : Bool), s.mgt.rst = false ∧ s.mayFetch ↑q = true ∧ ((s.q
      ↑q).inflight.all fun (d : Cmd) => decide (d.k < (s.q ↑q).nextK)) = true ∧ checks1to4 (↑q) (ringEntry entry).len (padTo (ringEntry
      entry).len (List.take (ringEntry entry).len packet)) = none ∧ List.find? (fun (w : WinEntry) => decide (w.seq = (mkCmd (s.q
      ↑q).nextK (padTo (ringEntry entry).len (List.take (ringEntry entry).len packet)) (ringEntry entry).replyAddr (ringEntry
      entry).replyLen).hdr.seq)) (s.q ↑q).window = none ∧ (s.q ↑q).original (mkCmd (s.q ↑q).nextK (padTo (ringEntry entry).len (List.take
      (ringEntry entry).len packet)) (ringEntry entry).replyAddr (ringEntry entry).replyLen) = false ∧
      ({ s.q ↑q with inflight := (s.q ↑q).inflight ++ [mkCmd (s.q ↑q).nextK (padTo (ringEntry entry).len (List.take (ringEntry entry).len packet)) (ringEntry entry).replyAddr (ringEntry entry).replyLen] }).checks6to9
      (mkCmd (s.q ↑q).nextK (padTo (ringEntry entry).len (List.take (ringEntry entry).len packet)) (ringEntry entry).replyAddr (ringEntry
      entry).replyLen) = (some st, h)) :=
  ⟨⟨2, up, by decide +kernel⟩,
   ⟨2, on q2 2 (cmd 0x101 [] 7), 0, by decide +kernel⟩,
   ⟨2, ringOf 32, p1.set 18 7, q2, (checks1to4 (2) (ringEntry (ringOf 32)).len (padTo (ringEntry (ringOf 32)).len (List.take (ringEntry
      (ringOf 32)).len (p1.set 18 7)))).getD 0, by decide +kernel⟩,
   ⟨2, ringOf 32, p1, q2.modQ 2 fun x => { x with window := [⟨1, 7, ⟨0, 0, 0, [9]⟩⟩] }, (List.find? (fun (w : WinEntry) => decide (w.seq
      = (mkCmd ((q2.modQ 2 fun x => { x with window := [⟨1, 7, ⟨0, 0, 0, [9]⟩⟩] }).q 2).nextK (padTo (ringEntry (ringOf 32)).len
      (List.take (ringEntry (ringOf 32)).len p1)) (ringEntry (ringOf 32)).replyAddr (ringEntry (ringOf 32)).replyLen).hdr.seq)) ((q2.modQ
      2 fun x => { x with window := [⟨1, 7, ⟨0, 0, 0, [9]⟩⟩] }).q 2).window).getD anyWinEntry, by decide +kernel⟩,
   ⟨2, ringOf 32, p1, on q2 2 (cmd 0x101 [] 7), by decide +kernel⟩,
   ⟨2, ringOf 32, p1, q2, by decide +kernel⟩,
   ⟨2, ringOf 32, p1, on q2 2 { cmd 0x101 [] 3 with hdr := { (cmd 0x101 []).hdr with tag := (mkCmd 5 p1 0 0).hdr.tag, seq := 3 } },
      (({ (on q2 2 { cmd 0x101 [] 3 with hdr := { (cmd 0x101 []).hdr with tag := (mkCmd 5 p1 0 0).hdr.tag, seq := 3 } }).q 2 with inflight := ((on q2 2 { cmd 0x101 [] 3 with hdr := { (cmd 0x101 []).hdr with tag := (mkCmd 5 p1 0 0).hdr.tag, seq := 3 } }).q 2).inflight ++ [mkCmd ((on q2 2 { cmd 0x101 [] 3 with hdr := { (cmd 0x101 []).hdr with tag := (mkCmd 5 p1 0 0).hdr.tag, seq := 3 } }).q 2).nextK (padTo (ringEntry (ringOf 32)).len (List.take (ringEntry (ringOf 32)).len p1)) (ringEntry (ringOf 32)).replyAddr (ringEntry (ringOf 32)).replyLen] }).checks6to9
      (mkCmd ((on q2 2 { cmd 0x101 [] 3 with hdr := { (cmd 0x101 []).hdr with tag := (mkCmd 5 p1 0 0).hdr.tag, seq := 3 } }).q 2).nextK
      (padTo (ringEntry (ringOf 32)).len (List.take (ringEntry (ringOf 32)).len p1)) (ringEntry (ringOf 32)).replyAddr (ringEntry (ringOf
      32)).replyLen)).fst.getD 0,
      (({ (on q2 2 { cmd 0x101 [] 3 with hdr := { (cmd 0x101 []).hdr with tag := (mkCmd 5 p1 0 0).hdr.tag, seq := 3 } }).q 2 with inflight := ((on q2 2 { cmd 0x101 [] 3 with hdr := { (cmd 0x101 []).hdr with tag := (mkCmd 5 p1 0 0).hdr.tag, seq := 3 } }).q 2).inflight ++ [mkCmd ((on q2 2 { cmd 0x101 [] 3 with hdr := { (cmd 0x101 []).hdr with tag := (mkCmd 5 p1 0 0).hdr.tag, seq := 3 } }).q 2).nextK (padTo (ringEntry (ringOf 32)).len (List.take (ringEntry (ringOf 32)).len p1)) (ringEntry (ringOf 32)).replyAddr (ringEntry (ringOf 32)).replyLen] }).checks6to9
      (mkCmd ((on q2 2 { cmd 0x101 [] 3 with hdr := { (cmd 0x101 []).hdr with tag := (mkCmd 5 p1 0 0).hdr.tag, seq := 3 } }).q 2).nextK
      (padTo (ringEntry (ringOf 32)).len (List.take (ringEntry (ringOf 32)).len p1)) (ringEntry (ringOf 32)).replyAddr (ringEntry (ringOf
      32)).replyLen)).snd, by decide +kernel⟩⟩

/-- States that meet the hypotheses of `CompletionPosted`, clause by clause. -/
theorem witness_CompletionPosted :
    (∃ (q : Fin 10) (k : Nat) (s : State) (c : Cmd) (e : WinEntry) (j : Nat), s.mgt.rst = false ∧ s.fwReady = true ∧ (s.q ↑q).find k =
      some c ∧ c.phase = Phase.dupWait ∧ List.find? (fun (e : WinEntry) => decide (e.seq = c.hdr.seq)) (s.q ↑q).window = some e ∧ j ≠ k) ∧
    (∃ (q : Fin 10) (k : Nat) (s : State) (c : Cmd) (j : Nat), s.mgt.rst = false ∧ s.fwReady = true ∧ (s.q ↑q).find k = some c ∧ c.phase =
      Phase.dupWait ∧ List.find? (fun (e : WinEntry) => decide (e.seq = c.hdr.seq)) (s.q ↑q).window = none ∧ (s.q ↑q).original c = false ∧
      (s.q ↑q).checks6to9 c = (none, true) ∧ j ≠ k) ∧
    (∃ (q : Fin 8) (s : State), s.mgt.rst = false ∧ s.fwReady = true ∧ ((s.q ↑q).headDone = none ∨ (s.q ↑q).resetting = true ∨ (s.q
      ↑q).enabled = false ∨ (s.q ↑q).cqFull = true)) ∧
    (∃ (q : Fin 8) (s : State) (c : Cmd) (r : Reply) (l : List Cmd), s.mgt.rst = false ∧ s.fwReady = true ∧ (s.q ↑q).inflight = c :: l ∧
      (∀ (d : Cmd), d ∈ l → d.k ≠ c.k) ∧ c.phase = Phase.done ∧ c.reply = some r ∧ (s.q ↑q).resetting = false ∧ (s.q ↑q).enabled = true ∧
      (s.q ↑q).cqFull = false ∧ ((s.q ↑q).intEn && !(s.q ↑q).msgSent) = false) ∧
    (∃ (s : State) (c : Cmd) (r : Reply) (l : List Cmd), s.mgt.rst = false ∧ s.fwReady = true ∧ (s.q 8).inflight = c :: l ∧ c.phase =
      Phase.done ∧ c.reply = some r) ∧
    (∃ (s : State) (c : Cmd), s.mgt.rst = false ∧ s.fwReady = true ∧ List.find? (fun (c : Cmd) => decide (c.phase = Phase.done)) (s.q
      9).inflight = some c) :=
  ⟨⟨2, 5, on up 2 dup5 |>.modQ 2 fun x => { x with window := [⟨1, 5, ⟨0,0,0,[7]⟩⟩] }, dup5, (List.find? (fun (e : WinEntry) => decide
      (e.seq = dup5.hdr.seq)) ((on up 2 dup5 |>.modQ 2 fun x => { x with window := [⟨1, 5, ⟨0,0,0,[7]⟩⟩] }).q 2).window).getD anyWinEntry,
      0, by decide +kernel⟩,
   ⟨2, 5, on (up.setQ 2 { hostQ with tail := 3 }) 2 dup5, dup5, 0, by decide +kernel⟩,
   ⟨2, on up 2 dup5 |>.modQ 2 fun x => { x with window := [⟨1, 5, ⟨0,0,0,[7]⟩⟩] }, by decide +kernel⟩,
   ⟨2, (qd.modQ 2 fun x => { x with cqTail := 15, cqHead := 3, intEn := false }), cd, ⟨0,0,0,[7,8,9]⟩, [], by decide +kernel⟩,
   ⟨q8d, cd, ⟨0,0,0,[7,8,9]⟩, [cmd 0x101 [] 4], by decide +kernel⟩,
   ⟨up.setQ 9 { inflight := [cd] }, cd, by decide +kernel⟩⟩

/-- States that meet the hypotheses of `QueueControl`, clause by clause. -/
theorem witness_QueueControl :
    (∃ (q : Fin 8) (v : Word) (s : State), s.mgt.rst = false ∧ ringIndex v < (s.q ↑q).size) ∧
    (∃ (q : Fin 8) (v : Word) (s : State), s.mgt.rst = false ∧ ringIndex v < (s.q ↑q).size ∧ ((s.q ↑q).intEn = false ∨ (s.q ↑q).owed =
      false)) ∧
    (∃ (q : Fin 8) (v : Word) (s : State), s.mgt.rst = false ∧ ringIndex v < (s.q ↑q).size ∧ (s.q ↑q).intEn = true ∧ (s.q ↑q).owed = true
      ∧ s.pci.msixEn = true ∧ s.pci.msixMask = false ∧ s.msixMasked (s.q ↑q).vec = false) ∧
    (∃ (q : Fin 8) (v : Word) (s : State), s.mgt.rst = false ∧ (s.q ↑q).size ≤ ringIndex v) ∧
    (∃ (s : State), s.mgt.rst = false) ∧
    (∃ (q : Fin 8) (v : Word) (s : State), s.mgt.rst = false ∧ (s.q ↑q).enabled = false ∧ (s.q ↑q).resetting = false ∧ bit v 0 = true ∧ 4
      ≤ fld v 7 4 ∧ fld v 7 4 ≤ 12 ∧ BitVec.toNat (s.q ↑q).sqBase % 4096 = 0 ∧ BitVec.toNat (s.q ↑q).cqBase % 4096 = 0) ∧
    (∃ (q : Fin 8) (v : Word) (s : State), s.mgt.rst = false ∧ (s.q ↑q).enabled = false ∧ (s.q ↑q).resetting = false ∧ bit v 0 = true ∧ 4
      ≤ fld v 7 4 ∧ fld v 7 4 ≤ 12 ∧ (BitVec.toNat (s.q ↑q).sqBase % 4096 ≠ 0 ∨ BitVec.toNat (s.q ↑q).cqBase % 4096 ≠ 0)) ∧
    (∃ (q : Fin 8) (v : Word) (s : State), s.mgt.rst = false ∧ bit v 0 = false ∧ (s.q ↑q).resetting = false ∧ (s.q ↑q).enabled = true ∧ v
      &&& qCtlCfg = (s.q ↑q).ctl &&& qCtlCfg) ∧
    (∃ (q : Fin 8) (v : Word) (s : State), s.mgt.rst = false ∧ bit v 1 = false ∧ bit v 0 = true ∧ (s.q ↑q).resetting = false ∧ (s.q
      ↑q).enabled = true ∧ v &&& qCtlCfg = (s.q ↑q).ctl &&& qCtlCfg ∧ (s.q ↑q).en = true) ∧
    (∃ (q : Fin 8) (s : State), s.mgt.rst = false ∧ ∀ (c : Cmd), c ∈ (s.q ↑q).inflight → c.phase ≠ Phase.begun) ∧
    (∃ (q : Fin 8) (s : State), s.mgt.rst = false ∧ (s.q ↑q).resetting = true ∧ (s.q ↑q).inflight = []) :=
  ⟨⟨2, 0x0000000F, q2, by decide +kernel⟩,
   ⟨2, 0x0000000F, q2, by decide +kernel⟩,
   ⟨2, 0x0000000F,
      { q2.modQ 2 fun x => { x with intEn := true, owed := true } with msix := (List.range 8).map fun v => (0x8000 + 16 * v + 12, 0), pci := { q2.pci with msixEn := true } },
      by decide +kernel⟩,
   ⟨2, 0x0000000F, up, by decide +kernel⟩,
   ⟨q2, by decide +kernel⟩,
   ⟨2, 0x1F49, up, by decide +kernel⟩,
   ⟨2, 0x1F49, up.setQ 2 { sqBase := 64 }, by decide +kernel⟩,
   ⟨2, 0x40, q2, by decide +kernel⟩,
   ⟨2, 0x41, q2, by decide +kernel⟩,
   ⟨2, q2, by decide +kernel⟩,
   ⟨2, q2.modQ 2 fun x => { x with resetting := true }, by decide +kernel⟩⟩

/-- States that meet the hypotheses of `HostLinkAndReset`, clause by clause. -/
theorem witness_HostLinkAndReset :
    (∃ (s : State), s.mgt.rst = false ∧ ∀ (q : Fin 8) (c : Cmd), c ∈ (s.q ↑q).inflight → c.phase ≠ Phase.begun) ∧
    (∃ (s : State), s.mgt.rst = false) :=
  ⟨⟨on q2 2 (cmd 0x101 []), by decide +kernel⟩,
   ⟨on q2 2 (cmd 0x101 []), by decide +kernel⟩⟩

/-- States that meet the hypotheses of `TimeoutStopsACommand`, clause by clause. -/
theorem witness_TimeoutStopsACommand :
    (∃ (q : Fin 9) (k : Nat) (s : State) (c : Cmd), s.mgt.rst = false ∧ s.fwReady = true ∧ (s.q ↑q).find k = some c ∧ s.timerRuns (↑q) c =
      false ∧ s.mem.stopPending = false) ∧
    (∃ (q : Fin 9) (k : Nat) (s : State) (c : Cmd) (j : Nat), s.mgt.rst = false ∧ s.fwReady = true ∧ (s.q ↑q).find k = some c ∧
      s.timerRuns (↑q) c = true ∧ (s.q ↑q).resetting = false ∧ (∀ (b : Bcast), b ∈ s.chn.bcasts → b.cmd ≠ { q := ↑q, k := k }) ∧ (∀ (i :
      Nat), (∀ (j : SegJob), (s.seg i).job = some j → ¬(j.q = ↑q ∧ j.k = k)) ∧ (∀ (j : SegJob), j ∈ (s.seg i).waiting → ¬(j.q = ↑q ∧ j.k =
      k)) ∧ ¬(↑q, k) ∈ (s.seg i).verifies) ∧ j ≠ k) ∧
    (∃ (q : Fin 9) (k : Nat) (s : State) (c : Cmd), s.mgt.rst = false ∧ s.fwReady = true ∧ (s.q ↑q).find k = some c ∧ s.timerRuns (↑q) c =
      true ∧ (s.q ↑q).resetting = false ∧ (∀ (b : Bcast), b ∈ s.chn.bcasts → b.cmd ≠ { q := ↑q, k := k }) ∧ (∀ (i : Nat), (∀ (j : SegJob),
      (s.seg i).job = some j → ¬(j.q = ↑q ∧ j.k = k)) ∧ (∀ (j : SegJob), j ∈ (s.seg i).waiting → ¬(j.q = ↑q ∧ j.k = k)) ∧ ¬(↑q, k) ∈
      (s.seg i).verifies) ∧ c.timer = none) ∧
    (∃ (q : Fin 9) (k : Nat) (s : State) (c : Cmd) (a : Nat), s.mgt.rst = false ∧ s.fwReady = true ∧ (s.q ↑q).find k = some c ∧
      s.timerRuns (↑q) c = true ∧ (s.q ↑q).resetting = false ∧ (∀ (b : Bcast), b ∈ s.chn.bcasts → b.cmd ≠ { q := ↑q, k := k }) ∧ (∀ (i :
      Nat), (∀ (j : SegJob), (s.seg i).job = some j → ¬(j.q = ↑q ∧ j.k = k)) ∧ (∀ (j : SegJob), j ∈ (s.seg i).waiting → ¬(j.q = ↑q ∧ j.k =
      k)) ∧ ¬(↑q, k) ∈ (s.seg i).verifies) ∧ c.timer = some a) :=
  ⟨⟨2, 0, (on up 2 ws).modGrp 3 fun x => { x with startCmd := some ⟨2, 0⟩ }, ((((on up 2 ws).modGrp 3 fun x =>
      { x with startCmd := some ⟨2, 0⟩ }).q 2).find 0).getD anyCmd, by decide +kernel⟩,
   ⟨2, 0, on up 2 (cmd 0x304 [0]), (((on up 2 (cmd 0x304 [0])).q 2).find 0).getD anyCmd, 1,
      by and_intros <;> first | decide +kernel | exact no_job (by decide +kernel)⟩,
   ⟨2, 0, on up 2 (cmd 0x304 [0]), (((on up 2 (cmd 0x304 [0])).q 2).find 0).getD anyCmd,
      by and_intros <;> first | decide +kernel | exact no_job (by decide +kernel)⟩,
   ⟨2, 0, on up 2 bg, (((on up 2 bg).q 2).find 0).getD anyCmd, ((((on up 2 bg).q 2).find 0).getD anyCmd).timer.getD 0,
      by and_intros <;> first | decide +kernel | exact no_job (by decide +kernel)⟩⟩

end Start

namespace Registers

def ce : Cmd := cmd 0x101 [1, 2]
def ci : Cmd := cmd 0x102 []
def cr : Cmd := cmd 0x201 [0x40, 3]
def cr0 : Cmd := cmd 0x201 [0x40, 65]
def ctm : Cmd := cmd 0x201 [mkW (RegId.off .TB_NOW_LO 0 0), 3]
def scr : Nat := RegId.off .SYS_SCRATCH 0 0
def cw : Cmd := cmd 0x202 [mkW scr, 7]
def cwb : Cmd := cmd 0x202 [2, 7]
def cm : Cmd := cmd 0x203 [mkW scr, 6, 7]
def ct : Cmd := cmd 0x202 [mkW (RegId.off .TB_CTL 0 0), 1]
def cmt : Cmd := cmd 0x203 [mkW (RegId.off .TB_CTL 0 0), 0xFFFFFFFF, 1]
def cmb : Cmd := cmd 0x203 [2, 6, 7]
def runG : State := up.setGrp 3 { st := .running, n := 5, times := [up.now - 1000] }
def holdG : State := runG.wr .Gn_STAGE_CTL 3 0 1
def fq : Nat := RegId.off .Gn_FREQ_LO 3 0
def en0 : State := (up.wr .SYS_EN 0 0 0).wr .SYS_EN_STATUS 0 0 0

/-- States that meet the hypotheses of `RegisterReads`, clause by clause. -/
theorem witness_RegisterReads :
    (∃ (q : Fin 10) (k : Nat) (c : Cmd) (s : State), s.Runs (↑q) k 257 c) ∧
    (∃ (q : Fin 10) (k : Nat) (c : Cmd) (s : State), s.Runs (↑q) k 258 c) ∧
    (∃ (off : Nat) (s : State) (r : RegId) (i j : Nat), s.mgt.rst = false ∧ RegId.at? (off % 2 ^ 20 / 4 * 4) = some (r, i, j)) ∧
    (∃ (s : State), s.mgt.rst = false) ∧
    (∃ (q : Fin 10) (k : Nat) (c : Cmd) (s : State), s.Runs (↑q) k 513 c ∧ regOffset (BitVec.toNat (wAt c.payload 0)) = true ∧ 1 ≤
      BitVec.toNat (wAt c.payload 1) ∧ BitVec.toNat (wAt c.payload 1) ≤ 64 ∧ BitVec.toNat (wAt c.payload 0) + 4 * BitVec.toNat (wAt
      c.payload 1) ≤ 2 ^ 20) ∧
    (∃ (q : Fin 10) (k : Nat) (c : Cmd) (s : State), s.Runs (↑q) k 513 c ∧ (regOffset (BitVec.toNat (wAt c.payload 0)) = false ∨
      BitVec.toNat (wAt c.payload 1) = 0 ∨ 64 < BitVec.toNat (wAt c.payload 1) ∨ 2 ^ 20 < BitVec.toNat (wAt c.payload 0) + 4 *
      BitVec.toNat (wAt c.payload 1))) :=
  ⟨⟨3, 0, (((on up 3 ce).q 3).find 0).getD anyCmd, on up 3 ce, by unfold State.Runs; decide +kernel⟩,
   ⟨3, 0, (((on up 3 ci).q 3).find 0).getD anyCmd, on up 3 ci, by unfold State.Runs; decide +kernel⟩,
   ⟨RegId.off .TB_NOW_LO 0 0, on up 3 ce, RegId.TB_NOW_LO, 0, 0, by decide +kernel⟩,
   ⟨on up 3 ce, by decide +kernel⟩,
   ⟨3, 0, (((on up 3 cr).q 3).find 0).getD anyCmd, on up 3 cr, by unfold State.Runs; decide +kernel⟩,
   ⟨3, 0, (((on up 3 cr0).q 3).find 0).getD anyCmd, on up 3 cr0, by unfold State.Runs; decide +kernel⟩⟩

/-- States that meet the hypotheses of `TimeReadIsWhole`, clause by clause. -/
theorem witness_TimeReadIsWhole :
    (∃ (s u : State), s.mgt.rst = false ∧ s.latches.find? (latchKey 0 (RegId.TB_NOW_LO.off 0 0)) = none ∧ u.mgt.rst = false) ∧
    (∃ (q : Fin 10) (k : Nat) (c : Cmd) (s : State), s.Runs (↑q) k 513 c ∧ c.payload = [mkW (RegId.TB_NOW_LO.off 0 0), 3] ∧
      s.latches.find? (latchKey (1 + c.hdr.queue) (RegId.TB_NOW_LO.off 0 0)) = none) :=
  ⟨⟨up, anyState, by decide +kernel⟩,
   ⟨3, 0, (((on up 3 ctm).q 3).find 0).getD anyCmd, on up 3 ctm, by unfold State.Runs; decide +kernel⟩⟩

/-- States that meet the hypotheses of `RegisterWriteCommands`, clause by clause. -/
theorem witness_RegisterWriteCommands :
    (∃ (q : Fin 10) (k : Nat) (c : Cmd) (s : State) (l : List (RegId × Nat × Nat × Word)), s.Runs (↑q) k 514 c ∧ s.setsLeft (some
      { q := ↑q, k := k }) = false ∧ (∀ (x : RegId × Nat × Nat × Word), x ∈ l → PlainReg x.fst x.snd.fst x.snd.snd.fst ∧ x.fst ≠
      RegId.SYS_ADDR) ∧ c.payload = List.flatMap (fun (x : RegId × Nat × Nat × Word) => [mkW (x.fst.off x.snd.fst x.snd.snd.fst),
      x.snd.snd.snd]) l ∧ s.firstRefused c.viaQ8 0 (pairsFrom 0 c.payload) = none) ∧
    (∃ (q : Fin 10) (k : Nat) (c : Cmd) (s : State) (i cause : Nat) (p : Nat × Word), s.Runs (↑q) k 514 c ∧ ((pairsFrom 0 c.payload).all
      fun (p : Nat × Word) => regOffset p.fst) = true ∧ s.firstRefused c.viaQ8 0 (pairsFrom 0 c.payload) = some (i, p, cause)) ∧
    (∃ (q : Fin 10) (k : Nat) (c : Cmd) (s : State), s.Runs (↑q) k 514 c ∧ ((pairsFrom 0 c.payload).all fun (p : Nat × Word) => regOffset
      p.fst) = false) ∧
    (∃ (q : Fin 10) (k : Nat) (c : Cmd) (s : State) (r : RegId) (i j : Nat) (m v : Word), s.Runs (↑q) k 515 c ∧ PlainReg r i j ∧ c.payload
      = [mkW (r.off i j), m, v] ∧ s.writeCause c.viaQ8 (r.off i j) (blend m (s.rd r i j) v) = none ∧ r ≠ RegId.SYS_ADDR ∧ s.setsLeft (some
      { q := ↑q, k := k }) = false) ∧
    (∃ (q : Fin 10) (k : Nat) (c : Cmd) (s : State) (r : RegId) (i j : Nat) (m v : Word) (cause : Nat), s.Runs (↑q) k 515 c ∧ PlainReg r i
      j ∧ c.payload = [mkW (r.off i j), m, v] ∧ s.writeCause c.viaQ8 (r.off i j) (blend m (s.rd r i j) v) = some cause) ∧
    (∃ (q : Fin 10) (k : Nat) (c : Cmd) (s : State), s.Runs (↑q) k 515 c ∧ regOffset (BitVec.toNat (wAt c.payload 0)) = false) :=
  ⟨⟨3, 0, (((on up 3 cw).q 3).find 0).getD anyCmd, on up 3 cw, [(RegId.SYS_SCRATCH, 0, 0, 7)], by unfold State.Runs; decide +kernel,
      by decide +kernel, by simp [plain_scratch], by decide +kernel⟩,
   ⟨3, 0, (((on up 3 ct).q 3).find 0).getD anyCmd, on up 3 ct, 0, 1, (((on up 3 ct).firstRefused ((((on up 3 ct).q 3).find 0).getD
      anyCmd).viaQ8 0 (pairsFrom 0 ((((on up 3 ct).q 3).find 0).getD anyCmd).payload)).getD (0, (0, 0#32), 0)).snd.fst,
      by unfold State.Runs; decide +kernel⟩,
   ⟨3, 0, (((on up 3 cwb).q 3).find 0).getD anyCmd, on up 3 cwb, by unfold State.Runs; decide +kernel⟩,
   ⟨3, 0, (((on up 3 cm).q 3).find 0).getD anyCmd, on up 3 cm, RegId.SYS_SCRATCH, 0, 0, 6, 7, by unfold State.Runs; decide +kernel,
      plain_scratch, by decide +kernel⟩,
   ⟨3, 0, (((on up 3 cmt).q 3).find 0).getD anyCmd, on up 3 cmt, RegId.TB_CTL, 0, 0, 0xFFFFFFFF, 1, 1,
      by unfold State.Runs; decide +kernel, plain_ctl, by decide +kernel⟩,
   ⟨3, 0, (((on up 3 cmb).q 3).find 0).getD anyCmd, on up 3 cmb, by unfold State.Runs; decide +kernel⟩⟩

/-- States that meet the hypotheses of `DirectWrites`, clause by clause. -/
theorem witness_DirectWrites :
    (∃ (r : RegId) (i j : Nat) (v : Word) (s : State), PlainReg r i j ∧ s.mgt.rst = false ∧ s.writeCause false (r.off i j) v = none) ∧
    (∃ (off : Nat) (be : Fin 16) (s : State), s.mgt.rst = false ∧ off < 2 ^ 20 ∧ (↑be ≠ 15 ∨ off % 4 ≠ 0 ∨ RegId.at? (off / 4 * 4) =
      none)) ∧
    (∃ (q : Fin 8) (s : State), s.mgt.rst = false ∧ (s.q ↑q).enabled = false) ∧
    (∃ (q : Fin 8) (s : State), s.mgt.rst = false ∧ (s.q ↑q).enabled = true) ∧
    (∃ (w : Fin 256) (s : State), s.mgt.rst = false ∧ ↑w % 4 ≠ 3) ∧
    (∃ (s : State), s.mgt.rst = false) :=
  ⟨⟨RegId.SYS_SCRATCH, 0, 0, 99, up, plain_scratch, by decide +kernel⟩,
   ⟨0x44, 3, up, by decide +kernel⟩,
   ⟨2, up, by decide +kernel⟩,
   ⟨2, up.setQ 2 hostQ, by decide +kernel⟩,
   ⟨2, up, by decide +kernel⟩,
   ⟨up, by decide +kernel⟩⟩

/-- States that meet the hypotheses of `StagedWrites`, clause by clause. -/
theorem witness_StagedWrites :
    (∃ (s : State), s.mgt.rst = false) ∧
    (∃ (g : Fin 8) (v : Word) (s : State) (off : Nat) (ref : RegRef), s.mgt.rst = false ∧ RegId.at? off = some ref ∧ regOffset off = true
      ∧ ref.fst ≠ RegId.DAC_CFG_d ∧ s.writeCause false off v = none ∧ s.stageGroup ref v = some ↑g ∧ (s.grp ↑g).openSet.fits 1 0 = true ∧
      s.hold ↑g = true) ∧
    (∃ (g : Fin 8) (v : Word) (s : State) (off : Nat) (ref : RegRef), s.mgt.rst = false ∧ RegId.at? off = some ref ∧ regOffset off = true
      ∧ ref.fst ≠ RegId.DAC_CFG_d ∧ s.writeCause false off v = none ∧ s.stageGroup ref v = some ↑g ∧ (s.grp ↑g).openSet.fits 1 0 = true ∧
      s.hold ↑g = false ∧ (s.grp ↑g).released.length < 4 ∧ (s.grp ↑g).st.plays = false) ∧
    (∃ (g : Fin 8) (v : Word) (s : State) (off : Nat) (ref : RegRef), s.mgt.rst = false ∧ RegId.at? off = some ref ∧ regOffset off = true
      ∧ ref.fst ≠ RegId.DAC_CFG_d ∧ s.writeCause false off v = none ∧ s.stageGroup ref v = some ↑g ∧ ((s.grp ↑g).openSet.fits 1 0 = false
      ∨ s.hold ↑g = false ∧ 4 ≤ (s.grp ↑g).released.length)) ∧
    (∃ (g : Fin 8) (s : State), s.mgt.rst = false ∧ s.grpRunning ↑g = false) ∧
    (∃ (g : Fin 8) (s : State), s.mgt.rst = false ∧ (s.grp ↑g).openSet = { }) ∧
    (∃ (g : Fin 8) (s : State), s.mgt.rst = false ∧ s.hold ↑g = true ∧ (s.grp ↑g).openSet.isEmpty = false ∧ (s.grp ↑g).released.length < 4
      ∧ bit (s.rd RegId.Gn_STAGE_CTL ↑g) 1 = false) :=
  ⟨⟨holdG, by decide +kernel⟩,
   ⟨3, 77, holdG, fq, (RegId.Gn_FREQ_LO, 3, 0), by decide +kernel⟩,
   ⟨3, 77, runG.modGrp 3 fun x => { x with st := .armed }, fq, (RegId.Gn_FREQ_LO, 3, 0), by decide +kernel⟩,
   ⟨3, 77, runG.modGrp 3 fun x => { x with openSet := { writes := List.replicate 256 (fq, 5) } }, fq, (RegId.Gn_FREQ_LO, 3, 0),
      by decide +kernel⟩,
   ⟨3, up, by decide +kernel⟩,
   ⟨3, holdG, by decide +kernel⟩,
   ⟨3, holdG.modGrp 3 fun x => { x with openSet := { writes := [(fq, 5)] } }, by decide +kernel⟩⟩

/-- States that meet the hypotheses of `Enables`, clause by clause. -/
theorem witness_Enables :
    (∃ (s : State), s.mgt.rst = false) ∧
    (∃ (s : State), s.mgt.rst = false ∧ (∀ (b : Fin 14), s.rb RegId.SYS_EN 0 0 ↑b = s.running ↑b) ∧ s.anyRunning = false) ∧
    (∃ (s : State), s.mgt.rst = false ∧ (∀ (b : Fin 14), s.rb RegId.SYS_EN 0 0 ↑b = s.running ↑b) ∧ s.anyRunning = true ∧ s.running 5 =
      true) ∧
    (∃ (s : State), s.mgt.rst = false ∧ (s.pll 0).stopPending = false ∧ (s.pll 1).stopPending = false ∧ s.anyRunning = true) ∧
    (∃ (s : State), s.mgt.rst = false ∧ (s.pll 0).stopPending = false ∧ (s.pll 1).stopPending = false ∧ s.anyRunning = false ∧
      s.tb.stopPending = false ∧ s.drm.stopPending = false ∧ (∀ (b : Nat), b ∈ s.enWait → b = 4 ∨ b = 5) ∧ 5 ∈ s.enWait) ∧
    (∃ (s : State), s.mgt.rst = false ∧ (s.pll 0).stopPending = false ∧ (s.pll 1).stopPending = false ∧ s.anyRunning = false ∧
      s.tb.stopPending = false ∧ s.drm.stopPending = false ∧ (∀ (b : Nat), b ∈ s.enWait → b = 4 ∨ b = 5) ∧ 4 ∈ s.enWait) ∧
    (∃ (s : State) (g : Fin 8), s.mgt.rst = false ∧ (s.grp ↑g).st = GState.disabled ∧ s.rb RegId.Gn_CTL (↑g) 0 0 = false) ∧
    (∃ (s : State) (g : Fin 8), s.mgt.rst = false ∧ (s.grp ↑g).st = GState.stopped ∧ s.rb RegId.Gn_CTL (↑g) 0 0 = true ∧ (s.grp ↑g).armCmd
      = none) ∧
    (∃ (s : State) (g : Fin 8), s.mgt.rst = false ∧ (s.grp ↑g).st.plays = true ∧ s.rb RegId.Gn_CTL (↑g) 0 0 = true) :=
  ⟨⟨en0, by decide +kernel⟩,
   ⟨en0, by decide +kernel⟩,
   ⟨runG, by decide +kernel⟩,
   ⟨runG, by decide +kernel⟩,
   ⟨{ en0.wr .SYS_EN 0 0 0x30 with enWait := [4, 5] }, by decide +kernel⟩,
   ⟨{ en0.wr .SYS_EN 0 0 0x30 with enWait := [4, 5] }, by decide +kernel⟩,
   ⟨en0, 3, by decide +kernel⟩,
   ⟨(up.wr .Gn_CTL 3 0 1).setGrp 3 { st := .stopped }, 3, by decide +kernel⟩,
   ⟨(runG.wr .Gn_CTL 3 0 1), 3, by decide +kernel⟩⟩

/-- States that meet the hypotheses of `LocksAndCounters`, clause by clause. -/
theorem witness_LocksAndCounters :
    (∃ (v : Word) (s : State), s.mgt.rst = false ∧ bit v 20 = true) ∧
    (∃ (v : Word) (s : State), s.mgt.rst = false ∧ bit v 17 = true) ∧
    (∃ (v : Word) (s : State), s.mgt.rst = false ∧ bit v 9 = true) ∧
    (∃ (v : Word) (s : State) (o : Nat), s.mgt.rst = false ∧ cntNamed v o = false) ∧
    (∃ (v : Word) (s : State) (o : Nat), s.mgt.rst = false ∧ cntNamed v o = true) ∧
    (∃ (v : Word) (s : State), s.mgt.rst = false ∧ bit v 16 = true) ∧
    (∃ (s : State), s.mgt.rst = false) :=
  ⟨⟨0xFFFFFFFF, (up.wr .SYS_CNT_IGNORED 0 0 5).setQ 3 { hostQ with cntCrc := 5}, by decide +kernel⟩,
   ⟨0xFFFFFFFF, (up.wr .SYS_CNT_IGNORED 0 0 5).setQ 3 { hostQ with cntCrc := 5}, by decide +kernel⟩,
   ⟨0xFFFFFFFF, (up.wr .SYS_CNT_IGNORED 0 0 5).setQ 3 { hostQ with cntCrc := 5}, by decide +kernel⟩,
   ⟨0xFFFFFFFF, (up.wr .SYS_CNT_IGNORED 0 0 5).setQ 3 { hostQ with cntCrc := 5}, 0, by decide +kernel⟩,
   ⟨0xFFFFFFFF, (up.wr .SYS_CNT_IGNORED 0 0 5).setQ 3 { hostQ with cntCrc := 5}, RegId.off .SYS_CNT_IGNORED 0 0, by decide +kernel⟩,
   ⟨0xFFFFFFFF, (up.wr .SYS_CNT_IGNORED 0 0 5).setQ 3 { hostQ with cntCrc := 5}, by decide +kernel⟩,
   ⟨(up.wr .SYS_CNT_IGNORED 0 0 5).setQ 3 { hostQ with cntCrc := 5}, by decide +kernel⟩⟩

end Registers

namespace Memory

def own2 : State := up.setBset 2 { own := some 1 }
def d5 (crc : Word) : List Word := [0x11, 32, 0x300000, 0, 1, crc, 1000, 0]
def cdef : Cmd := cmd 0x301 (5 :: d5 0)
def cdef0 : Cmd := cmd 0x301 (0 :: d5 0)
def seg5 (st : SegSt) (crc : Word := 0) : State := own2.setSeg 5 { st := st, desc := d5 crc }
def cfree : Cmd := cmd 0x304 [5]
def cver : Cmd := cmd 0x303 [5, 1]
def cver0 : Cmd := cmd 0x303 [5, 0]
def zcrc : Word := crc32c (List.replicate 64 0)
def job5 : SegJob := ⟨4, 9, true, 0, 64, false, 0, false, 0⟩
def play5 (s : State) : State := s.setGrp 3 { st := .running, n := 5, times := [s.now - 1000], held := [⟨0, 5, 1, none⟩] }
def cload : Cmd := cmd 0x302 [5, 0, 64, 0, 0, 0]
def jb (v : Bool) : SegJob := ⟨3, 0, true, 0, 64, v, 0, false, 0⟩
def ld : State := (on (seg5 .loading 3) 3 (begun cload)).modSeg 5 fun x => { x with job := some (jb false) }
def ef : State := { own2 with ext := [(128, 5), (200, 6)], onchip := [(0x300000, 9)] }
def dE : List Word := [0x01, 32, 64, 0, 1, 0, 1000, 0]
def cfill : Cmd := cmd 0x305 [0, 64, 0, 128, 0x11223344]
def cfillc : Cmd := cmd 0x305 [1, 0x300000, 0, 64, 0x11223300]
def crd : Cmd := cmd 0x306 [1, 0x300000, 0, 64, 0x1000, 1]
def crdx : Cmd := cmd 0x306 [0, 64, 0, 64, 0x1000, 1]
def cfbad : Cmd := cmd 0x305 [1, 0x300000, 0, 0, 0x11223300]
def crbad : Cmd := cmd 0x306 [1, 0x300000, 0, 0, 0x1000, 1]
def efT : State := { ef with drm := { trained := true } }
def memOff : State := (up.wr .SYS_EN_STATUS 0 0 0).wr .SYS_EN 0 0 0
def cmt : Cmd := cmd 0x801 [0x040101, 0, 8192]
def cmt0 : Cmd := cmd 0x801 [0x040001, 0, 8192]
def tr : State := { (up.wr .SYS_EN_STATUS 0 0 0) with drm := { training := true } }
def drm2 : State := { up with drm := { trained := true, setTrained := [0, 1], maintLate := true } }
def stopD : State := { ((up.wr .SYS_EN_STATUS 0 0 0).wr .SYS_EN 0 0 0) with ext := [(4,5)], onchip := [(4,5)], segs := [(6, { st := .valid, desc := dE })] }
def cxt : Cmd := cmd 0x801 [0, 65536, 0, 65536]
def cxe : Cmd := cmd 0x801 [0, 65536, 0, 0]
def ext2 : State := { up with ext := [(65535, 5), (65536, 6), (131072, 7)], drm := { trained := true } }

/-- States that meet the hypotheses of `SegmentCommands`, clause by clause. -/
theorem witness_SegmentCommands :
    (∃ (q : Fin 10) (k : Nat) (c : Cmd) (s : State), s.Runs (↑q) k 769 c ∧ (fld (wAt c.payload 0) 13 0 = 0 ∨ BitVec.toNat (wAt c.payload
      0) ≠ fld (wAt c.payload 0) 13 0 ∨ descOk (List.take 8 (List.drop 1 c.payload)) = false)) ∧
    (∃ (q : Fin 10) (k : Nat) (c : Cmd) (s : State), s.Runs (↑q) k 769 c ∧ fld (wAt c.payload 0) 13 0 ≠ 0 ∧ BitVec.toNat (wAt c.payload 0)
      = fld (wAt c.payload 0) 13 0 ∧ descOk (List.take 8 (List.drop 1 c.payload)) = true ∧ (dLoc (List.take 8 (List.drop 1 c.payload)) =
      true ∨ s.drmOn = true) ∧ s.placeOk (fld (wAt c.payload 0) 13 0) (List.take 8 (List.drop 1 c.payload)) = true ∧ s.active (fld (wAt
      c.payload 0) 13 0) = true) ∧
    (∃ (q : Fin 10) (k : Nat) (c : Cmd) (s : State), s.Runs (↑q) k 769 c ∧ fld (wAt c.payload 0) 13 0 ≠ 0 ∧ BitVec.toNat (wAt c.payload 0)
      = fld (wAt c.payload 0) 13 0 ∧ descOk (List.take 8 (List.drop 1 c.payload)) = true ∧ (dLoc (List.take 8 (List.drop 1 c.payload)) =
      true ∨ s.drmOn = true) ∧ s.placeOk (fld (wAt c.payload 0) 13 0) (List.take 8 (List.drop 1 c.payload)) = true ∧ s.active (fld (wAt
      c.payload 0) 13 0) = false ∧ s.segBusy (fld (wAt c.payload 0) 13 0) = true) ∧
    (∃ (q : Fin 10) (k : Nat) (c : Cmd) (s : State), s.Runs (↑q) k 769 c ∧ fld (wAt c.payload 0) 13 0 ≠ 0 ∧ BitVec.toNat (wAt c.payload 0)
      = fld (wAt c.payload 0) 13 0 ∧ descOk (List.take 8 (List.drop 1 c.payload)) = true ∧ (dLoc (List.take 8 (List.drop 1 c.payload)) =
      true ∨ s.drmOn = true) ∧ s.placeOk (fld (wAt c.payload 0) 13 0) (List.take 8 (List.drop 1 c.payload)) = true ∧ s.active (fld (wAt
      c.payload 0) 13 0) = false ∧ s.segBusy (fld (wAt c.payload 0) 13 0) = false) ∧
    (∃ (q : Fin 10) (k : Nat) (c : Cmd) (s : State), s.Runs (↑q) k 772 c ∧ fld (wAt c.payload 0) 13 0 ≠ 0 ∧ BitVec.toNat (wAt c.payload 0)
      = fld (wAt c.payload 0) 13 0 ∧ s.active (fld (wAt c.payload 0) 13 0) = true) ∧
    (∃ (q : Fin 10) (k : Nat) (c : Cmd) (s : State), s.Runs (↑q) k 772 c ∧ fld (wAt c.payload 0) 13 0 ≠ 0 ∧ BitVec.toNat (wAt c.payload 0)
      = fld (wAt c.payload 0) 13 0 ∧ s.active (fld (wAt c.payload 0) 13 0) = false ∧ s.segBusy (fld (wAt c.payload 0) 13 0) = true) ∧
    (∃ (q : Fin 10) (k : Nat) (c : Cmd) (s : State), s.Runs (↑q) k 772 c ∧ fld (wAt c.payload 0) 13 0 ≠ 0 ∧ BitVec.toNat (wAt c.payload 0)
      = fld (wAt c.payload 0) 13 0 ∧ s.active (fld (wAt c.payload 0) 13 0) = false ∧ s.segBusy (fld (wAt c.payload 0) 13 0) = false) ∧
    (∃ (q : Fin 10) (k : Nat) (c : Cmd) (s : State), s.Runs (↑q) k 771 c ∧ BitVec.toNat (wAt c.payload 0) = fld (wAt c.payload 0) 13 0 ∧
      wAt c.payload 1 = 1) ∧
    (∃ (q : Fin 10) (k : Nat) (c : Cmd) (s : State), s.Runs (↑q) k 771 c ∧ BitVec.toNat (wAt c.payload 0) = fld (wAt c.payload 0) 13 0 ∧
      wAt c.payload 1 = 0 ∧ fld (wAt c.payload 0) 13 0 ≠ 0 ∧ s.segSt (fld (wAt c.payload 0) 13 0) ≠ SegSt.free ∧ s.loadPending (fld (wAt
      c.payload 0) 13 0) = false ∧ (dLoc (s.segDesc (fld (wAt c.payload 0) 13 0)) = true ∨ s.drmOn = true)) ∧
    (∃ (q : Fin 10) (k : Nat) (c : Cmd) (s : State), s.mgt.rst = false ∧ (s.q ↑q).find k = some c ∧ c.hdr.opcode = 771 ∧ s.here (↑q) c =
      true ∧ s.Waits (↑q) k ∧ fld (wAt c.payload 0) 13 0 ≠ 0 ∧ s.segSt (fld (wAt c.payload 0) 13 0) ≠ SegSt.fenced ∧ (s.seg (fld (wAt
      c.payload 0) 13 0)).waiting = [] ∧ s.segCrc (fld (wAt c.payload 0) 13 0) = dCrc (s.segDesc (fld (wAt c.payload 0) 13 0))) ∧
    (∃ (q : Fin 10) (k : Nat) (c : Cmd) (s : State), s.mgt.rst = false ∧ (s.q ↑q).find k = some c ∧ c.hdr.opcode = 771 ∧ s.here (↑q) c =
      true ∧ s.Waits (↑q) k ∧ fld (wAt c.payload 0) 13 0 ≠ 0 ∧ s.segSt (fld (wAt c.payload 0) 13 0) ≠ SegSt.fenced ∧ (s.seg (fld (wAt
      c.payload 0) 13 0)).waiting = [] ∧ s.segCrc (fld (wAt c.payload 0) 13 0) ≠ dCrc (s.segDesc (fld (wAt c.payload 0) 13 0)) ∧ ∀ (g :
      Fin 8), s.playedBy (↑g) (fld (wAt c.payload 0) 13 0) = false) :=
  ⟨⟨3, 0, (((on own2 3 cdef0).q 3).find 0).getD anyCmd, on own2 3 cdef0, by unfold State.Runs; decide +kernel⟩,
   ⟨3, 0, (((on (play5 (seg5 .valid)) 3 cdef).q 3).find 0).getD anyCmd, on (play5 (seg5 .valid)) 3 cdef,
      by unfold State.Runs; decide +kernel⟩,
   ⟨3, 0, (((on ((seg5 .valid).modSeg 5 fun x => { x with job := some job5 }) 3 cdef).q 3).find 0).getD anyCmd, on ((seg5 .valid).modSeg
      5 fun x => { x with job := some job5 }) 3 cdef, by unfold State.Runs; decide +kernel⟩,
   ⟨3, 0, (((on own2 3 cdef).q 3).find 0).getD anyCmd, on own2 3 cdef, by unfold State.Runs; decide +kernel⟩,
   ⟨3, 0, (((on (play5 (seg5 .valid)) 3 cfree).q 3).find 0).getD anyCmd, on (play5 (seg5 .valid)) 3 cfree,
      by unfold State.Runs; decide +kernel⟩,
   ⟨3, 0, (((on ((seg5 .valid).modSeg 5 fun x => { x with job := some job5 }) 3 cfree).q 3).find 0).getD anyCmd, on ((seg5 .valid).modSeg
      5 fun x => { x with job := some job5 }) 3 cfree, by unfold State.Runs; decide +kernel⟩,
   ⟨3, 0, (((on (seg5 .valid) 3 cfree).q 3).find 0).getD anyCmd, on (seg5 .valid) 3 cfree, by unfold State.Runs; decide +kernel⟩,
   ⟨3, 0, (((on (seg5 .valid) 3 cver).q 3).find 0).getD anyCmd, on (seg5 .valid) 3 cver, by unfold State.Runs; decide +kernel⟩,
   ⟨3, 0, (((on (seg5 .valid) 3 cver0).q 3).find 0).getD anyCmd, on (seg5 .valid) 3 cver0, by unfold State.Runs; decide +kernel⟩,
   ⟨3, 0, (((on (seg5 .defined zcrc) 3 (begun cver0)).q 3).find 0).getD anyCmd, on (seg5 .defined zcrc) 3 (begun cver0),
      by and_intros <;> first | decide +kernel | exact waits_of (by decide +kernel)⟩,
   ⟨3, 0, (((on (seg5 .valid 3) 3 (begun cver0)).q 3).find 0).getD anyCmd, on (seg5 .valid 3) 3 (begun cver0),
      by and_intros <;> first | decide +kernel | exact waits_of (by decide +kernel)⟩⟩

/-- States that meet the hypotheses of `SegmentLoad`, clause by clause. -/
theorem witness_SegmentLoad :
    (∃ (q : Fin 10) (k i : Nat) (c : Cmd) (s : State), s.Runs (↑q) k 770 c ∧ c.hdr.flags / 2 % 2 = 0 ∧ wAt c.payload 0 = mkW i ∧ i < 2 ^
      14 ∧ i ≠ 0 ∧ BitVec.toNat (wAt c.payload 1) % 64 = 0 ∧ BitVec.toNat (wAt c.payload 2) % 64 = 0 ∧ 0 < BitVec.toNat (wAt c.payload 2)
      ∧ BitVec.toNat (wAt c.payload 5) ≤ 1 ∧ (s.seg i).st ≠ SegSt.free ∧ BitVec.toNat (wAt c.payload 1) + BitVec.toNat (wAt c.payload 2) ≤
      dSize (s.seg i).desc * 64 ∧ (s.seg i).job = none ∧ (s.seg i).verifies = [] ∧ (dLoc (s.seg i).desc = true ∨ s.drmOn = true) ∧
      s.active i = false) ∧
    (∃ (q : Fin 10) (k i : Nat) (c : Cmd) (s : State), s.Runs (↑q) k 770 c ∧ c.hdr.flags / 2 % 2 = 0 ∧ wAt c.payload 0 = mkW i ∧ i < 2 ^
      14 ∧ i ≠ 0 ∧ BitVec.toNat (wAt c.payload 1) % 64 = 0 ∧ BitVec.toNat (wAt c.payload 2) % 64 = 0 ∧ 0 < BitVec.toNat (wAt c.payload 2)
      ∧ BitVec.toNat (wAt c.payload 5) ≤ 1 ∧ (s.seg i).st ≠ SegSt.free ∧ BitVec.toNat (wAt c.payload 1) + BitVec.toNat (wAt c.payload 2) ≤
      dSize (s.seg i).desc * 64 ∧ (∀ (j : SegJob), (s.seg i).job = some j → ¬(j.q = ↑q ∧ j.k = k)) ∧ ((s.seg i).job ≠ none ∨ (s.seg
      i).verifies ≠ [])) ∧
    (∃ (q : Fin 10) (i : Nat) (c : Cmd) (s : State) (j : SegJob) (data : List Byte) (n : Nat), s.mgt.rst = false ∧ (s.q ↑q).find j.k =
      some c ∧ s.Waits (↑q) j.k ∧ wAt c.payload 0 = mkW i ∧ i < 2 ^ 14 ∧ i ≠ 0 ∧ (s.seg i).job = some j ∧ j.q = ↑q ∧ (s.seg i).waiting =
      [] ∧ j.done < j.len ∧ j.len % 64 = 0 ∧ j.done % 64 = 0 ∧ data.length = j.len - j.done ∧ (dLoc (s.seg i).desc = true ∨ s.drm.fenced =
      []) ∧ n < data.length) ∧
    (∃ (q : Fin 10) (i : Nat) (c : Cmd) (s : State) (j : SegJob) (data : List Byte) (chip : Bool) (a : Nat), s.mgt.rst = false ∧ (s.q
      ↑q).find j.k = some c ∧ s.Waits (↑q) j.k ∧ wAt c.payload 0 = mkW i ∧ i < 2 ^ 14 ∧ i ≠ 0 ∧ (s.seg i).job = some j ∧ j.q = ↑q ∧ (s.seg
      i).waiting = [] ∧ j.done < j.len ∧ j.len % 64 = 0 ∧ j.done % 64 = 0 ∧ data.length = j.len - j.done ∧ (dLoc (s.seg i).desc = true ∨
      s.drm.fenced = []) ∧ (chip ≠ dLoc (s.seg i).desc ∨ a < dAddr (s.seg i).desc + j.offset + j.done ∨ dAddr (s.seg i).desc + j.offset +
      j.done + data.length ≤ a)) ∧
    (∃ (q : Fin 10) (i : Nat) (c : Cmd) (s : State) (j : SegJob) (data : List Byte), s.mgt.rst = false ∧ (s.q ↑q).find j.k = some c ∧
      s.Waits (↑q) j.k ∧ wAt c.payload 0 = mkW i ∧ i < 2 ^ 14 ∧ i ≠ 0 ∧ (s.seg i).job = some j ∧ j.q = ↑q ∧ (s.seg i).waiting = [] ∧
      j.done < j.len ∧ j.len % 64 = 0 ∧ j.done % 64 = 0 ∧ data.length = j.len - j.done ∧ (dLoc (s.seg i).desc = true ∨ s.drm.fenced = [])
      ∧ j.verify = false) :=
  ⟨⟨3, 0, 5, (((on (seg5 .valid 3) 3 cload).q 3).find 0).getD anyCmd, on (seg5 .valid 3) 3 cload, by unfold State.Runs; decide +kernel⟩,
   ⟨3, 0, 5, (((on ((seg5 .valid).modSeg 5 fun x => { x with job := some job5 }) 3 cload).q 3).find 0).getD anyCmd, on ((seg5
      .valid).modSeg 5 fun x => { x with job := some job5 }) 3 cload, by unfold State.Runs; decide +kernel⟩,
   ⟨3, 5, ((ld.q 3).find (jb false).k).getD anyCmd, ld, jb false, List.replicate 64 7, 0, by decide +kernel, by decide +kernel, waits_of
      (by decide +kernel), by decide +kernel⟩,
   ⟨3, 5, ((ld.q 3).find (jb false).k).getD anyCmd, ld, jb false, List.replicate 64 7, true, 0, by decide +kernel, by decide +kernel,
      waits_of (by decide +kernel), by decide +kernel⟩,
   ⟨3, 5, ((ld.q 3).find (jb false).k).getD anyCmd, ld, jb false, List.replicate 64 7, by decide +kernel, by decide +kernel, waits_of
      (by decide +kernel), by decide +kernel⟩⟩

/-- States that meet the hypotheses of `FillAndRead`, clause by clause. -/
theorem witness_FillAndRead :
    (∃ (q : Fin 10) (k : Nat) (c : Cmd) (s : State) (st : Nat), s.rangeCheck (wAt c.payload 0) (BitVec.toNat (join64 (wAt c.payload 1)
      (wAt c.payload 2))) (BitVec.toNat (wAt c.payload 3)) = some st ∧ s.Runs (↑q) k 773 c) ∧
    (∃ (q : Fin 10) (k : Nat) (c : Cmd) (s : State) (st : Nat), s.rangeCheck (wAt c.payload 0) (BitVec.toNat (join64 (wAt c.payload 1)
      (wAt c.payload 2))) (BitVec.toNat (wAt c.payload 3)) = some st ∧ s.Runs (↑q) k 774 c) ∧
    (∃ (q : Fin 10) (k : Nat) (c : Cmd) (s : State), s.rangeCheck (wAt c.payload 0) (BitVec.toNat (join64 (wAt c.payload 1) (wAt c.payload
      2))) (BitVec.toNat (wAt c.payload 3)) = none ∧ s.Runs (↑q) k 773 c ∧ (s.segsOver (bit (wAt c.payload 0) 0) (BitVec.toNat (join64
      (wAt c.payload 1) (wAt c.payload 2))) (BitVec.toNat (wAt c.payload 3))).any s.active = true) ∧
    (∃ (q : Fin 10) (k : Nat) (c : Cmd) (s : State) (n : Nat), s.rangeCheck (wAt c.payload 0) (BitVec.toNat (join64 (wAt c.payload 1) (wAt
      c.payload 2))) (BitVec.toNat (wAt c.payload 3)) = none ∧ s.Runs (↑q) k 773 c ∧ (s.segsOver (bit (wAt c.payload 0) 0) (BitVec.toNat
      (join64 (wAt c.payload 1) (wAt c.payload 2))) (BitVec.toNat (wAt c.payload 3))).any s.active = false ∧ (bit (wAt c.payload 0) 0 =
      true ∨ s.drm.fenced = []) ∧ n < BitVec.toNat (wAt c.payload 3)) ∧
    (∃ (q : Fin 10) (k : Nat) (c : Cmd) (s : State) (ch : Bool) (a : Nat), s.rangeCheck (wAt c.payload 0) (BitVec.toNat (join64 (wAt
      c.payload 1) (wAt c.payload 2))) (BitVec.toNat (wAt c.payload 3)) = none ∧ s.Runs (↑q) k 773 c ∧ (s.segsOver (bit (wAt c.payload 0)
      0) (BitVec.toNat (join64 (wAt c.payload 1) (wAt c.payload 2))) (BitVec.toNat (wAt c.payload 3))).any s.active = false ∧ (bit (wAt
      c.payload 0) 0 = true ∨ s.drm.fenced = []) ∧ (ch ≠ bit (wAt c.payload 0) 0 ∨ a < BitVec.toNat (join64 (wAt c.payload 1) (wAt
      c.payload 2)) ∨ BitVec.toNat (join64 (wAt c.payload 1) (wAt c.payload 2)) + BitVec.toNat (wAt c.payload 3) ≤ a)) ∧
    (∃ (q : Fin 10) (k : Nat) (c : Cmd) (s : State) (i : Nat), s.rangeCheck (wAt c.payload 0) (BitVec.toNat (join64 (wAt c.payload 1) (wAt
      c.payload 2))) (BitVec.toNat (wAt c.payload 3)) = none ∧ s.Runs (↑q) k 773 c ∧ (s.segsOver (bit (wAt c.payload 0) 0) (BitVec.toNat
      (join64 (wAt c.payload 1) (wAt c.payload 2))) (BitVec.toNat (wAt c.payload 3))).any s.active = false ∧ (bit (wAt c.payload 0) 0 =
      true ∨ s.drm.fenced = []) ∧ i ∈ s.segsOver (bit (wAt c.payload 0) 0) (BitVec.toNat (join64 (wAt c.payload 1) (wAt c.payload 2)))
      (BitVec.toNat (wAt c.payload 3)) ∧ i ≠ 0 ∧ ((s.seg i).st = SegSt.valid ∨ (s.seg i).st = SegSt.fenced)) ∧
    (∃ (q : Fin 10) (k : Nat) (c : Cmd) (s : State), s.rangeCheck (wAt c.payload 0) (BitVec.toNat (join64 (wAt c.payload 1) (wAt c.payload
      2))) (BitVec.toNat (wAt c.payload 3)) = none ∧ s.Runs (↑q) k 774 c ∧ bit (wAt c.payload 0) 0 = true) ∧
    (∃ (q : Fin 10) (k : Nat) (c : Cmd) (s : State), s.rangeCheck (wAt c.payload 0) (BitVec.toNat (join64 (wAt c.payload 1) (wAt c.payload
      2))) (BitVec.toNat (wAt c.payload 3)) = none ∧ s.Runs (↑q) k 774 c ∧ bit (wAt c.payload 0) 0 = false ∧ s.chanFenced (BitVec.toNat
      (join64 (wAt c.payload 1) (wAt c.payload 2))) (BitVec.toNat (wAt c.payload 3)) = true) ∧
    (∃ (q : Fin 10) (k : Nat) (c : Cmd) (s : State), s.rangeCheck (wAt c.payload 0) (BitVec.toNat (join64 (wAt c.payload 1) (wAt c.payload
      2))) (BitVec.toNat (wAt c.payload 3)) = none ∧ s.Runs (↑q) k 774 c ∧ bit (wAt c.payload 0) 0 = false ∧ s.chanFenced (BitVec.toNat
      (join64 (wAt c.payload 1) (wAt c.payload 2))) (BitVec.toNat (wAt c.payload 3)) = false) :=
  ⟨⟨3, 0, (((on ef 3 cfbad).q 3).find 0).getD anyCmd, on ef 3 cfbad, ((on ef 3 cfbad).rangeCheck (wAt ((((on ef 3 cfbad).q 3).find
      0).getD anyCmd).payload 0) (BitVec.toNat (join64 (wAt ((((on ef 3 cfbad).q 3).find 0).getD anyCmd).payload 1) (wAt ((((on ef 3
      cfbad).q 3).find 0).getD anyCmd).payload 2))) (BitVec.toNat (wAt ((((on ef 3 cfbad).q 3).find 0).getD anyCmd).payload 3))).getD 0,
      by unfold State.Runs; decide +kernel⟩,
   ⟨3, 0, (((on ef 3 crbad).q 3).find 0).getD anyCmd, on ef 3 crbad, ((on ef 3 crbad).rangeCheck (wAt ((((on ef 3 crbad).q 3).find
      0).getD anyCmd).payload 0) (BitVec.toNat (join64 (wAt ((((on ef 3 crbad).q 3).find 0).getD anyCmd).payload 1) (wAt ((((on ef 3
      crbad).q 3).find 0).getD anyCmd).payload 2))) (BitVec.toNat (wAt ((((on ef 3 crbad).q 3).find 0).getD anyCmd).payload 3))).getD 0,
      by unfold State.Runs; decide +kernel⟩,
   ⟨3, 0, (((on (play5 (seg5 .valid)) 3 cfillc).q 3).find 0).getD anyCmd, on (play5 (seg5 .valid)) 3 cfillc,
      by unfold State.Runs; decide +kernel⟩,
   ⟨3, 0, (((on (efT.setSeg 6 { st := .valid, desc := dE}) 3 cfill).q 3).find 0).getD anyCmd, on (efT.setSeg 6
      { st := .valid, desc := dE}) 3 cfill, 0, by unfold State.Runs; decide +kernel⟩,
   ⟨3, 0, (((on (efT.setSeg 6 { st := .valid, desc := dE}) 3 cfill).q 3).find 0).getD anyCmd, on (efT.setSeg 6
      { st := .valid, desc := dE}) 3 cfill, true, 0, by unfold State.Runs; decide +kernel⟩,
   ⟨3, 0, (((on (efT.setSeg 6 { st := .valid, desc := dE}) 3 cfill).q 3).find 0).getD anyCmd, on (efT.setSeg 6
      { st := .valid, desc := dE}) 3 cfill, 6, by unfold State.Runs; decide +kernel⟩,
   ⟨3, 0, (((on ef 3 crd).q 3).find 0).getD anyCmd, on ef 3 crd, by unfold State.Runs; decide +kernel⟩,
   ⟨3, 0, (((on { efT with drm := { efT.drm with fenced := [0, 1, 2, 3] } } 3 crdx).q 3).find 0).getD anyCmd, on
      { efT with drm := { efT.drm with fenced := [0, 1, 2, 3] } } 3 crdx, by unfold State.Runs; decide +kernel⟩,
   ⟨3, 0, (((on efT 3 crdx).q 3).find 0).getD anyCmd, on efT 3 crdx, by unfold State.Runs; decide +kernel⟩⟩

/-- States that meet the hypotheses of `OwnersAndPower`, clause by clause. -/
theorem witness_OwnersAndPower :
    (∃ (v : Word) (s : State) (st : Nat), s.mgt.rst = false ∧ s.mem.castle = none ∧ s.castleRefused (fld v 2 0) (fld v 9 8) = some st) ∧
    (∃ (v : Word) (s : State), s.mgt.rst = false ∧ s.mem.castle = none ∧ s.castleRefused (fld v 2 0) (fld v 9 8) = none) ∧
    (∃ (s : State) (n own : Nat) (clear : Bool), s.mgt.rst = false ∧ s.mem.castle = some { set := n, owner := own, clear := clear } ∧
      s.mem.stopPending = false) ∧
    (∃ (n : Fin 8) (v : Word) (s : State), s.mgt.rst = false ∧ 2 ≤ ↑n ∧ fld v 1 0 ≠ 3 ∧ s.memOn = false ∧ s.rb RegId.SYS_LOCK 0 0 5 =
      false) ∧
    (∃ (n : Fin 8) (v : Word) (s : State), s.mgt.rst = false ∧ s.pwrRefused (↑n) (fld v 1 0) = true) ∧
    (∃ (n : Fin 8) (v : Word) (s : State), s.mgt.rst = false ∧ s.pwrRefused (↑n) (fld v 1 0) = false ∧ (s.bset ↑n).pwr ≠ fld v 1 0) ∧
    (∃ (n : Fin 8) (s : State) (p : Nat), s.mgt.rst = false ∧ (s.bset ↑n).trans = some p ∧ s.mem.stopPending = false) :=
  ⟨⟨0x103, up, (up.castleRefused (fld 0x103 2 0) (fld 0x103 9 8)).getD 0, by decide +kernel⟩,
   ⟨0x103, up.setBset 3 { own := some 0 }, by decide +kernel⟩,
   ⟨{ ef with mem := { castle := some ⟨2, 2, true⟩ } }, 2, 2, true, by decide +kernel⟩,
   ⟨2, 0x10102, memOff, by decide +kernel⟩,
   ⟨2, 0x103, up, by decide +kernel⟩,
   ⟨3, 0x10102, (up.setBset 3 { own := some 0 }).wr .MEM_PWR_PERMIT 0 0 0xFC, by decide +kernel⟩,
   ⟨2, (ef.setBset 2 { own := some 0, trans := some 2 }), 2, by decide +kernel⟩⟩

/-- States that meet the hypotheses of `ScrubAndTest`, clause by clause. -/
theorem witness_ScrubAndTest :
    (∃ (s : State), s.mgt.rst = false ∧ s.memOn = true ∧ s.rb RegId.MEM_CTL 0 0 0 = true) ∧
    (∃ (s : State) (a : Nat), s.mgt.rst = false ∧ s.memOn = true ∧ s.rb RegId.MEM_CTL 0 0 0 = true ∧ s.setOn (a / setBytes) = true ∧
      (s.bset (a / setBytes)).suspect.contains (bankRow a) = false) ∧
    (∃ (q : Fin 10) (k : Nat) (c : Cmd) (s : State), s.Runs (↑q) k 2049 c ∧ bit (wAt c.payload 0) 0 = true ∧ s.memTestCheck c.payload =
      none) ∧
    (∃ (q : Fin 10) (k : Nat) (c : Cmd) (s : State), s.mgt.rst = false ∧ (s.q ↑q).find k = some c ∧ c.hdr.opcode = 2049 ∧ bit (wAt
      c.payload 0) 0 = true ∧ bit (wAt c.payload 0) 8 = false ∧ s.here (↑q) c = true ∧ c.hdr.flags % 2 = 0 ∧ (s.q ↑q).resetting = false ∧
      (∀ (b : Bcast), b ∈ s.chn.bcasts → b.cmd ≠ { q := ↑q, k := k }) ∧ s.mem.stopPending = false ∧ BitVec.toNat (wAt c.payload 1) % 8192
      = 0 ∧ BitVec.toNat (wAt c.payload 2) % 8192 = 0 ∧ BitVec.toNat (wAt c.payload 1) + BitVec.toNat (wAt c.payload 2) ≤ setBytes) :=
  ⟨⟨(ef.setBset 2 { suspect := [(1,1)], own := some 1 }).wr .MEM_CTL 0 0 1, by decide +kernel⟩,
   ⟨(ef.setBset 2 { suspect := [(1,1)], own := some 1 }).wr .MEM_CTL 0 0 1, 0x300008, by decide +kernel⟩,
   ⟨3, 0, (((on up 3 cmt).q 3).find 0).getD anyCmd, on up 3 cmt, by unfold State.Runs; decide +kernel⟩,
   ⟨3, 0, (((on (ef.setBset 2 { own := some 0 }) 3 (begun cmt0)).q 3).find 0).getD anyCmd, on (ef.setBset 2 { own := some 0 }) 3 (begun
      cmt0), by decide +kernel⟩⟩

/-- States that meet the hypotheses of `ExternalMemoryHealth`, clause by clause. -/
theorem witness_ExternalMemoryHealth :
    (∃ (s : State), s.mgt.rst = false ∧ s.drm.training = true) ∧
    (∃ (s : State) (addr : Nat), s.mgt.rst = false ∧ s.drmOn = true ∧ s.drm.fenced.contains (s.drmChannel addr) = false) ∧
    (∃ (s : State), s.mgt.rst = false) ∧
    (∃ (s : State), s.mgt.rst = false ∧ s.drm.training = false ∧ s.drm.retrain ≠ []) :=
  ⟨⟨tr, by decide +kernel⟩,
   ⟨up, 65536, by decide +kernel⟩,
   ⟨tr, by decide +kernel⟩,
   ⟨{ up with drm := { fenced := [0, 1], retrain := [1], trained := true } }, by decide +kernel⟩⟩

/-- States that meet the hypotheses of `RefreshAndRows`, clause by clause. -/
theorem witness_RefreshAndRows :
    (∃ (s : State), s.mgt.rst = false) ∧
    (∃ (s : State), s.mgt.rst = false ∧ s.drmOn = true) ∧
    (∃ (s : State) (addr : Nat), s.mgt.rst = false ∧ s.drmOn = true ∧ s.drm.rows = [] ∧ 0 < s.drmRow addr ∧ s.drmRow addr + 1 < 2 ^
      s.rowBits) :=
  ⟨⟨{ up with drm := { powerDown := [1,2], rows := [⟨0,0,0,[]⟩] } }, by decide +kernel⟩,
   ⟨{ up with drm := { powerDown := [1,2], rows := [⟨0,0,0,[]⟩] } }, by decide +kernel⟩,
   ⟨up, 65536, by decide +kernel⟩⟩

/-- States that meet the hypotheses of `RestAndFrequency`, clause by clause. -/
theorem witness_RestAndFrequency :
    (∃ (s : State), s.mgt.rst = false ∧ s.drmOn = true) ∧
    (∃ (s : State) (slack : Nat), s.mgt.rst = false ∧ s.drmOn = true ∧ s.rb RegId.DRM_CTL 0 0 0 = true ∧ s.drm.selfref = false ∧
      s.drm.fchgBusy = false ∧ s.extTest = false ∧ s.rf RegId.DRM_SR_THR 0 0 15 0 ≤ s.slackOf slack ∧ 1500 < s.slackOf slack) ∧
    (∃ (s : State) (slack : Nat), s.mgt.rst = false ∧ s.drmOn = true ∧ (s.rb RegId.DRM_CTL 0 0 0 = false ∨ s.slackOf slack < s.rf
      RegId.DRM_SR_THR 0 0 15 0)) ∧
    (∃ (s : State) (c : Fin 4), s.mgt.rst = false ∧ s.drmOn = true ∧ s.rb RegId.DRM_CTL 0 0 1 = true ∧ s.drm.selfref = false ∧
      s.drm.powerDown.contains ↑c = false) ∧
    (∃ (s : State) (slack : Nat), s.mgt.rst = false ∧ s.drmOn = true ∧ s.drm.fenced = [] ∧ s.drm.setTrained.contains (1 - s.drm.active) =
      true ∧ s.drm.fchgBusy = false ∧ s.extTest = false ∧ 10000 ≤ s.slackOf slack) ∧
    (∃ (s : State) (slack st : Nat), s.mgt.rst = false ∧ s.drmOn = true ∧ (st = stNotReady ∧ (s.drm.fenced ≠ [] ∨
      s.drm.setTrained.contains (1 - s.drm.active) = false) ∨ st = stBusy ∧ s.drm.fenced = [] ∧ s.drm.setTrained.contains (1 -
      s.drm.active) = true ∧ (s.drm.fchgBusy = true ∨ s.extTest = true ∨ s.slackOf slack < 10000))) ∧
    (∃ (s : State), s.mgt.rst = false ∧ s.drmOn = true ∧ s.drm.fchgBusy = true) :=
  ⟨⟨up, by decide +kernel⟩,
   ⟨up, 0xFFFF, by decide +kernel⟩,
   ⟨up, 2000, by decide +kernel⟩,
   ⟨up, 2, by decide +kernel⟩,
   ⟨drm2, 0xFFFF, by decide +kernel⟩,
   ⟨up, 0xFFFF, stNotReady, by decide +kernel⟩,
   ⟨{ drm2 with drm := { drm2.drm with fchgBusy := true } }, by decide +kernel⟩⟩

/-- States that meet the hypotheses of `GeometryAndTest`, clause by clause. -/
theorem witness_GeometryAndTest :
    (∃ (inst : Fin 6) (v : Word) (s : State) (i : Nat), s.mgt.rst = false ∧ s.writeCause false ((geomReg ↑inst).off 0 0) v = none ∧ v &&&
      mkW (geomReg ↑inst).row.mask ≠ s.rd (geomReg ↑inst) ∧ (s.seg i).st = SegSt.valid ∧ dLoc (s.seg i).desc = false) ∧
    (∃ (q : Fin 10) (k : Nat) (c : Cmd) (s : State), s.Runs (↑q) k 2049 c ∧ bit (wAt c.payload 0) 0 = false ∧ s.extTestCheck c.payload =
      none) ∧
    (∃ (q : Fin 10) (k : Nat) (c : Cmd) (s : State), s.mgt.rst = false ∧ (s.q ↑q).find k = some c ∧ c.hdr.opcode = 2049 ∧ bit (wAt
      c.payload 0) 0 = false ∧ s.here (↑q) c = true ∧ c.hdr.flags % 2 = 0 ∧ (s.q ↑q).resetting = false ∧ (∀ (b : Bcast), b ∈ s.chn.bcasts
      → b.cmd ≠ { q := ↑q, k := k }) ∧ s.drm.fenced = [] ∧ BitVec.toNat (wAt c.payload 3) % 65536 = 0) :=
  ⟨⟨0, 0x11, stopD, 6, by decide +kernel⟩,
   ⟨3, 0, (((on ext2 3 cxt).q 3).find 0).getD anyCmd, on ext2 3 cxt, by unfold State.Runs; decide +kernel⟩,
   ⟨3, 0, (((on ext2 3 (begun cxe)).q 3).find 0).getD anyCmd, on ext2 3 (begun cxe), by decide +kernel⟩⟩

end Memory

namespace Segments

def css : Cmd := cmd 0x501 [0x102, 0x1071, 5, 9, 0]
def crd : Cmd := cmd 0x503 [0x00220002]
def cru : Cmd := cmd 0x503 [0x00001102]
def csc : Cmd := cmd 0x502 [5]
def csc2 : Cmd := cmd 0x502 [4]
def a2 (x : Adc) : State := (((up.setAdc 2 x).wr .ADCn_CTL 2 0 3).wr .ADCn_SEQ 2 0 2).wr .ADCn_ENTRY_e 2 0 0x1070
def a2b (x : Adc) : State := (((up.setAdc 2 x).wr .ADCn_CTL 2 0 3).wr .ADCn_SEQ 2 0 2)
def gt : Nat := up.now / 256 * 256
def atr : State := ((a2 { run := true, refReady := true }).wr .ADCn_TRIG 2 0 1).setGrp 0 { st := .running, n := 7, times := [gt] }
def hh : Nat := up.now / 4096 * 4096
def cu : Cmd := begun (cmd 0x503 [0x1102])

/-- States that meet the hypotheses of `ConverterCommands`, clause by clause. -/
theorem witness_ConverterCommands :
    (∃ (q : Fin 10) (k : Nat) (c : Cmd) (s : State), s.Runs (↑q) k 1281 c ∧ seqSetOk c.payload = true ∧ (s.adc (fld (wAt c.payload 0) 3
      0)).run = true) ∧
    (∃ (q : Fin 10) (k : Nat) (c : Cmd) (s : State) (e : Nat), s.Runs (↑q) k 1281 c ∧ seqSetOk c.payload = true ∧ (s.adc (fld (wAt
      c.payload 0) 3 0)).run = false ∧ e < fld (wAt c.payload 0) 12 8) ∧
    (∃ (q : Fin 10) (k : Nat) (c : Cmd) (s : State), s.Runs (↑q) k 1283 c ∧ extraBits (wAt c.payload 0) 33550607 = false ∧ bit (wAt
      c.payload 0) 8 = false ∧ fld (wAt c.payload 0) 24 20 ≠ 0 ∧ fld (wAt c.payload 0) 19 16 + fld (wAt c.payload 0) 24 20 ≤ 16) ∧
    (∃ (q : Fin 10) (k : Nat) (c : Cmd) (s : State), s.Runs (↑q) k 1283 c ∧ extraBits (wAt c.payload 0) 33550607 = false ∧ bit (wAt
      c.payload 0) 8 = true ∧ isGuard (fld (wAt c.payload 0) 3 0) = false ∧ fld (wAt c.payload 0) 15 12 ≤ 3 ∧ (s.adc (fld (wAt c.payload
      0) 3 0)).run = true ∧ (s.adc (fld (wAt c.payload 0) 3 0)).cal = none ∧ (s.adc (fld (wAt c.payload 0) 3 0)).slots = []) ∧
    (∃ (q : Fin 10) (k : Nat) (c : Cmd) (s : State) (u : Nat), s.Runs (↑q) k 1282 c ∧ extraBits (wAt c.payload 0) 16383 = false ∧ unitsOf
      (fld (wAt c.payload 0) 13 0) ≠ [] ∧ (∀ (u : Nat), u < 14 → (s.adc u).cal ≠ some { q := ↑q, k := k }) ∧ (∀ (u : Nat), u ∈ unitsOf
      (fld (wAt c.payload 0) 13 0) → (s.adc u).refReady = true ∧ (s.adc u).fenced = false ∧ (s.adc u).cal = none) ∧ u ∈ unitsOf (fld (wAt
      c.payload 0) 13 0)) ∧
    (∃ (q : Fin 10) (k : Nat) (c : Cmd) (s : State) (u : Nat), s.Runs (↑q) k 1282 c ∧ extraBits (wAt c.payload 0) 16383 = false ∧ unitsOf
      (fld (wAt c.payload 0) 13 0) ≠ [] ∧ (∀ (u : Nat), u < 14 → (s.adc u).cal ≠ some { q := ↑q, k := k }) ∧ (∀ (u : Nat), u ∈ unitsOf
      (fld (wAt c.payload 0) 13 0) → (s.adc u).refReady = true ∧ (s.adc u).fenced = false ∧ (s.adc u).cal = none) ∧ u < 16 ∧ ¬u ∈ unitsOf
      (fld (wAt c.payload 0) 13 0)) ∧
    (∃ (q : Fin 10) (k : Nat) (c : Cmd) (s : State) (u : Fin 14) (ofs : Int) (gain : Nat), s.mgt.rst = false ∧ (s.q ↑q).find k = some c ∧
      c.phase = Phase.begun ∧ (s.q ↑q).resetting = false ∧ (∀ (b : Bcast), b ∈ s.chn.bcasts → b.cmd ≠ { q := ↑q, k := k }) ∧ (s.adc
      ↑u).cal = some { q := ↑q, k := k } ∧ (∀ (v : Nat), v < 14 → v ≠ ↑u → (s.adc v).cal ≠ some { q := ↑q, k := k }) ∧ (s.adc ↑u).fenced =
      false ∧ calOk ofs gain = true) :=
  ⟨⟨3, 0, (((on (up.setAdc 2 { run := true }) 3 css).q 3).find 0).getD anyCmd, on (up.setAdc 2 { run := true }) 3 css,
      by unfold State.Runs; decide +kernel⟩,
   ⟨3, 0, (((on up 3 css).q 3).find 0).getD anyCmd, on up 3 css, 0, by unfold State.Runs; decide +kernel⟩,
   ⟨3, 0, (((on (up.setAdc 2 { holds := [(2, 123456789)] }) 3 crd).q 3).find 0).getD anyCmd, on (up.setAdc 2
      { holds := [(2, 123456789)] }) 3 crd, by unfold State.Runs; decide +kernel⟩,
   ⟨3, 0, (((on (up.setAdc 2 { run := true }) 3 cru).q 3).find 0).getD anyCmd, on (up.setAdc 2 { run := true }) 3 cru,
      by unfold State.Runs; decide +kernel⟩,
   ⟨3, 0, (((on ((up.setAdc 2 { refReady := true }).setAdc 0 { refReady := true, run := true }) 3 csc).q 3).find 0).getD anyCmd, on
      ((up.setAdc 2 { refReady := true }).setAdc 0 { refReady := true, run := true }) 3 csc, 2, by unfold State.Runs; decide +kernel⟩,
   ⟨3, 0, (((on ((up.setAdc 2 { refReady := true }).setAdc 0 { refReady := true, run := true }) 3 csc).q 3).find 0).getD anyCmd, on
      ((up.setAdc 2 { refReady := true }).setAdc 0 { refReady := true, run := true }) 3 csc, 5, by unfold State.Runs; decide +kernel⟩,
   ⟨3, 0, (((on (up.setAdc 2 { refReady := true, cal := some ⟨3, 0⟩ }) 3 (begun csc2)).q 3).find 0).getD anyCmd, on (up.setAdc 2
      { refReady := true, cal := some ⟨3, 0⟩ }) 3 (begun csc2), 2, 5, 4194304, by decide +kernel⟩⟩

/-- States that meet the hypotheses of `ConverterTriggers`, clause by clause. -/
theorem witness_ConverterTriggers :
    (∃ (s : State) (u : Fin 16), s.mgt.rst = false ∧ (s.adc ↑u).run = true ∧ (s.adc ↑u).cal = none ∧ s.rb RegId.ADCn_CTL (↑u) 0 0 = true ∧
      (s.adc ↑u).slots = [] ∧ (s.adc ↑u).applyPend = false) ∧
    (∃ (s : State) (u : Fin 16) (t : Nat), s.mgt.rst = false ∧ (s.adc ↑u).run = true ∧ (s.adc ↑u).cal = none ∧ s.rb RegId.ADCn_CTL (↑u) 0
      0 = true ∧ (s.adc ↑u).slots = [] ∧ (s.adc ↑u).applyPend = false ∧ s.trigHolds (↑u) t = true ∧ (s.adc ↑u).trigAt ≠ some t) ∧
    (∃ (s : State) (u : Fin 16), s.mgt.rst = false ∧ (s.adc ↑u).run = true ∧ (s.adc ↑u).cal = none ∧ s.rb RegId.ADCn_CTL (↑u) 0 0 = true ∧
      (s.adc ↑u).busy = true) ∧
    (∃ (s : State) (u : Fin 16) (t : Nat), s.mgt.rst = false ∧ s.trigHolds (↑u) t = false) ∧
    (∃ (s : State) (v : Word), s.mgt.rst = false ∧ ∀ (u : Fin 16), bit v ↑u = true → (s.adc ↑u).run = true ∧ (s.adc ↑u).cal = none ∧ s.rb
      RegId.ADCn_CTL (↑u) 0 0 = true ∧ (s.adc ↑u).slots = [] ∧ (s.adc ↑u).applyPend = false) :=
  ⟨⟨a2 { run := true, refReady := true }, 2, by decide +kernel⟩,
   ⟨atr, 2, gt, by decide +kernel⟩,
   ⟨a2 { run := true, refReady := true, slots := [⟨.entry 0, 5, 6⟩] }, 2, by decide +kernel⟩,
   ⟨a2 { run := true, refReady := true }, 2, gt, by decide +kernel⟩,
   ⟨a2 { run := true, refReady := true }, 4, by decide +kernel⟩⟩

/-- States that meet the hypotheses of `ConverterResults`, clause by clause. -/
theorem witness_ConverterResults :
    (∃ (u : Fin 16) (s : State) (e start hold : Nat), s.mgt.rst = false ∧ (s.adc ↑u).slots =
      [{ kind := SlotKind.entry e, start := start, hold := hold }] ∧ e < 16 ∧ s.allocOf 4 = none ∧ s.adcWen (↑u) e = false ∧ s.rb
      RegId.ADCn_CTL (↑u) 0 0 = true ∧ (s.adc ↑u).fenced = false ∧ (s.adc ↑u).refReady = true ∧ (s.adc ↑u).detDue = false) ∧
    (∃ (u : Fin 16) (s : State) (sel start hold k : Nat) (q : Fin 10) (c : Cmd), s.mgt.rst = false ∧ (s.adc ↑u).slots =
      [{ kind := SlotKind.urgent sel { q := ↑q, k := k }, start := start, hold := hold }] ∧ s.allocOf 4 = none ∧ (s.q ↑q).find k = some c
      ∧ c.phase = Phase.begun ∧ (s.q ↑q).resetting = false ∧ ∀ (b : Bcast), b ∈ s.chn.bcasts → b.cmd ≠ { q := ↑q, k := k }) ∧
    (∃ (u : Fin 16) (s : State), s.mgt.rst = false ∧ (s.adc ↑u).run = true ∧ s.rb RegId.ADCn_CTL (↑u) 0 0 = true ∧ (s.adc ↑u).cal = none ∧
      s.rf RegId.ADCn_OW_CTL (↑u) 0 3 0 ≠ 0 ∧ (s.adc ↑u).slots = []) ∧
    (∃ (u : Fin 16) (s : State), s.mgt.rst = false ∧ (s.adc ↑u).run = true ∧ s.rb RegId.ADCn_CTL (↑u) 0 0 = true ∧ (s.adc ↑u).cal = none ∧
      s.rf RegId.ADCn_OW_CTL (↑u) 0 3 0 ≠ 0 ∧ (s.adc ↑u).slots ≠ []) ∧
    (∃ (u : Fin 16) (s : State), s.mgt.rst = false ∧ s.rb RegId.ADCn_CTL (↑u) 0 1 = true ∧ (s.adc ↑u).refReady = false ∧ (s.adc ↑u).run =
      false ∧ (s.adc ↑u).fenced = false) ∧
    (∃ (u : Fin 16) (s : State) (e : Nat), s.mgt.rst = false ∧ (s.adc ↑u).applyPend = false ∧ s.applyBad ↑u = false ∧ (s.adc ↑u).run =
      false ∧ e < 16) ∧
    (∃ (u : Fin 16) (s : State), s.mgt.rst = false ∧ (s.adc ↑u).fenced = true ∧ s.rb RegId.ADCn_CTL (↑u) 0 0 = false) ∧
    (∃ (s : State), s.mgt.rst = false ∧ s.drmOn = true ∧ ∀ (w : Fin 16), s.rb RegId.ADCn_CTL (↑w) 0 3 = false) :=
  ⟨⟨2, a2b { run := true, refReady := true, slots := [⟨.entry 3, hh - 4096*7, hh⟩] }, 3, hh - 4096*7, hh, by decide +kernel⟩,
   ⟨2, on (a2b { run := true, refReady := true, slots := [⟨.urgent 1 ⟨3,0⟩, hh - 4096*7, hh⟩] }) 3 cu, 1, hh - 4096*7, hh, 0, 3, cu,
      by decide +kernel⟩,
   ⟨2, (a2b { run := true, refReady := true }).wr .ADCn_OW_CTL 2 0 0x70002, by decide +kernel⟩,
   ⟨2, a2b { run := true, refReady := true, slots := [⟨.entry 3, hh - 4096*7, hh⟩] }, by decide +kernel⟩,
   ⟨2, (a2b { }).wr .ADCn_OW_CTL 2 0 0x70002, by decide +kernel⟩,
   ⟨2, (a2b { }).wr .ADCn_OW_CTL 2 0 0x70002, 3, by decide +kernel⟩,
   ⟨2, up.setAdc 2 { fenced := true }, by decide +kernel⟩,
   ⟨a2b { run := true, refReady := true, slots := [⟨.entry 3, hh - 4096*7, hh⟩] }, by decide +kernel⟩⟩

end Segments

namespace Play

def ea : List Word := [0x01000000, 100, 0, 0, 0, 0, 0, 0]
def eb : List Word := [0x00000000, 0, 0, 0, 0, 0, 0, 0]
def runG (g : Group := {}) : State := up.setGrp 3 { g with st := .running, n := 5, times := [up.now - 1000] }
def ctw : Cmd := cmd 0x401 ([0x3FF0003, 1] ++ ea)
def ctwb : Cmd := cmd 0x401 ([0x3FF0003, 1] ++ eb)
def ctws : Cmd := cmd 0x401 ([0x3FF0003, 1, 0x01004005, 100, 0, 0, 0, 0, 0, 0])
def cfj : Cmd := cmd 0x407 [0x3FF0103]
def cfjb : Cmd := cmd 0x407 [0x3FF0183]
def full : StageSet := { writes := [(0, 1)] }
def stp (g : Group := {}) : State := ((((banded up 0).setGrp 3 { g with st := .stopped }).wr .Gn_CTL 3 0 1).wr .MEM_GWIN_g 3 0 0x80000302)
def carm : Cmd := cmd 0x402 [3]
def carmb : Cmd := cmd 0x402 [0x83]
def cst : Cmd := cmd 0x403 [3, 0, 0, 0]
def arm : State := stp.modGrp 3 fun x => { x with st := .armed }
def cst2 : Cmd := cmd 0x403 [0x103, 1000, 0, 0]
def csp : Cmd := cmd 0x404 [0x203]
def cspb : Cmd := cmd 0x404 [0x303]
def stpW : State := { stp.setSeg 5 { st := .valid, desc := [0x11, 32, 0x300000, 0, 1, 0, 1000, 0] } with tables := [(3 * 1024, [0x03004005, 0, 0, 0, 0, 0, 0, 0])] }
def stg (rel : Nat) (a v : Nat) : Cmd := cmd 0x405 [mkW (3 + 256 * rel), mkW a, mkW v]
def fo : Nat := RegId.off .Gn_FREQ_LO 3 0
def s0 : Cmd := stg 0 fo 77
def s1 : Cmd := stg 1 fo 77
def sb : Cmd := stg 0 (RegId.off .Gn_FREQ_LO 2 0) 77
def go : Nat := RegId.off .CHn_GAIN 4 0
def sg : Cmd := stg 0 go 0x12345
def chG : State := up.wr .CHn_CTL 4 0 0x31
def ro : Nat := RegId.off .OUT_DAC_SRC_d 4 0
def sr : Cmd := stg 0 ro 0x80000004
def rt : State := ((chG.setGrp 2 { st := .running, n := 5, times := [up.now - 1000] }).wr .CHn_CTL 6 0 0x21).wr .OUT_DAC_SRC_d 4 0 0x80000006
def cc : Cmd := cmd 0x406 [3]
def ccb : Cmd := cmd 0x406 [0xB]

/-- States that meet the hypotheses of `TablesAndJumps`, clause by clause. -/
theorem witness_TablesAndJumps :
    (∃ (q : Fin 10) (k : Nat) (c : Cmd) (s : State), s.Runs (↑q) k 1025 c ∧ (fld (wAt c.payload 0) 15 3 ≠ 0 ∨ fld (wAt c.payload 0) 31 26
      ≠ 0 ∨ fld (wAt c.payload 1) 31 7 ≠ 0 ∨ fld (wAt c.payload 1) 6 0 = 0 ∨ 1024 < fld (wAt c.payload 0) 25 16 + fld (wAt c.payload 1) 6
      0 ∨ (payloadEntries c.payload (fld (wAt c.payload 1) 6 0)).all entryValid = false)) ∧
    (∃ (q : Fin 10) (k : Nat) (c : Cmd) (s : State) (e : Nat), s.Runs (↑q) k 1025 c ∧ fld (wAt c.payload 0) 15 3 = 0 ∧ fld (wAt c.payload
      0) 31 26 = 0 ∧ fld (wAt c.payload 1) 31 7 = 0 ∧ 1 ≤ fld (wAt c.payload 1) 6 0 ∧ fld (wAt c.payload 0) 25 16 + fld (wAt c.payload 1)
      6 0 ≤ 1024 ∧ (payloadEntries c.payload (fld (wAt c.payload 1) 6 0)).all entryValid = true ∧ s.grpRunning (fld (wAt c.payload 0) 2 0)
      = false ∧ e < 1024) ∧
    (∃ (q : Fin 10) (k : Nat) (c : Cmd) (s : State), s.Runs (↑q) k 1025 c ∧ fld (wAt c.payload 0) 15 3 = 0 ∧ fld (wAt c.payload 0) 31 26 =
      0 ∧ fld (wAt c.payload 1) 31 7 = 0 ∧ 1 ≤ fld (wAt c.payload 1) 6 0 ∧ fld (wAt c.payload 0) 25 16 + fld (wAt c.payload 1) 6 0 ≤ 1024
      ∧ (payloadEntries c.payload (fld (wAt c.payload 1) 6 0)).all entryValid = true ∧ s.grpRunning (fld (wAt c.payload 0) 2 0) = true ∧
      (payloadEntries c.payload (fld (wAt c.payload 1) 6 0)).all (s.entryOk (fld (wAt c.payload 0) 2 0)) = false) ∧
    (∃ (q : Fin 10) (k : Nat) (c : Cmd) (s : State), s.Runs (↑q) k 1025 c ∧ fld (wAt c.payload 0) 15 3 = 0 ∧ fld (wAt c.payload 0) 31 26 =
      0 ∧ fld (wAt c.payload 1) 31 7 = 0 ∧ 1 ≤ fld (wAt c.payload 1) 6 0 ∧ fld (wAt c.payload 0) 25 16 + fld (wAt c.payload 1) 6 0 ≤ 1024
      ∧ (payloadEntries c.payload (fld (wAt c.payload 1) 6 0)).all entryValid = true ∧ s.grpRunning (fld (wAt c.payload 0) 2 0) = true ∧
      (payloadEntries c.payload (fld (wAt c.payload 1) 6 0)).all (s.entryOk (fld (wAt c.payload 0) 2 0)) = true ∧ (s.grp (fld (wAt
      c.payload 0) 2 0)).openSet.fits 0 (fld (wAt c.payload 1) 6 0) = false) ∧
    (∃ (q : Fin 10) (k : Nat) (c : Cmd) (s : State), s.Runs (↑q) k 1025 c ∧ fld (wAt c.payload 0) 15 3 = 0 ∧ fld (wAt c.payload 0) 31 26 =
      0 ∧ fld (wAt c.payload 1) 31 7 = 0 ∧ 1 ≤ fld (wAt c.payload 1) 6 0 ∧ fld (wAt c.payload 0) 25 16 + fld (wAt c.payload 1) 6 0 ≤ 1024
      ∧ (payloadEntries c.payload (fld (wAt c.payload 1) 6 0)).all entryValid = true ∧ s.grpRunning (fld (wAt c.payload 0) 2 0) = true ∧
      (payloadEntries c.payload (fld (wAt c.payload 1) 6 0)).all (s.entryOk (fld (wAt c.payload 0) 2 0)) = true ∧ (s.grp (fld (wAt
      c.payload 0) 2 0)).openSet.fits 0 (fld (wAt c.payload 1) 6 0) = true ∧ s.hold (fld (wAt c.payload 0) 2 0) = true) ∧
    (∃ (q : Fin 10) (k : Nat) (c : Cmd) (s : State), s.Runs (↑q) k 1025 c ∧ fld (wAt c.payload 0) 15 3 = 0 ∧ fld (wAt c.payload 0) 31 26 =
      0 ∧ fld (wAt c.payload 1) 31 7 = 0 ∧ 1 ≤ fld (wAt c.payload 1) 6 0 ∧ fld (wAt c.payload 0) 25 16 + fld (wAt c.payload 1) 6 0 ≤ 1024
      ∧ (payloadEntries c.payload (fld (wAt c.payload 1) 6 0)).all entryValid = true ∧ s.grpRunning (fld (wAt c.payload 0) 2 0) = true ∧
      (payloadEntries c.payload (fld (wAt c.payload 1) 6 0)).all (s.entryOk (fld (wAt c.payload 0) 2 0)) = true ∧ (s.grp (fld (wAt
      c.payload 0) 2 0)).openSet.fits 0 (fld (wAt c.payload 1) 6 0) = true ∧ s.hold (fld (wAt c.payload 0) 2 0) = false ∧ (s.grp (fld (wAt
      c.payload 0) 2 0)).released.length < 4) ∧
    (∃ (q : Fin 10) (k : Nat) (c : Cmd) (s : State), s.Runs (↑q) k 1025 c ∧ fld (wAt c.payload 0) 15 3 = 0 ∧ fld (wAt c.payload 0) 31 26 =
      0 ∧ fld (wAt c.payload 1) 31 7 = 0 ∧ 1 ≤ fld (wAt c.payload 1) 6 0 ∧ fld (wAt c.payload 0) 25 16 + fld (wAt c.payload 1) 6 0 ≤ 1024
      ∧ (payloadEntries c.payload (fld (wAt c.payload 1) 6 0)).all entryValid = true ∧ s.grpRunning (fld (wAt c.payload 0) 2 0) = true ∧
      (payloadEntries c.payload (fld (wAt c.payload 1) 6 0)).all (s.entryOk (fld (wAt c.payload 0) 2 0)) = true ∧ (s.grp (fld (wAt
      c.payload 0) 2 0)).openSet.fits 0 (fld (wAt c.payload 1) 6 0) = true ∧ s.hold (fld (wAt c.payload 0) 2 0) = false ∧ 4 ≤ (s.grp (fld
      (wAt c.payload 0) 2 0)).released.length) ∧
    (∃ (q : Fin 10) (k : Nat) (c : Cmd) (s : State), s.Runs (↑q) k 1031 c ∧ (fld (wAt c.payload 0) 7 3 ≠ 0 ∨ fld (wAt c.payload 0) 15 9 ≠
      0 ∨ fld (wAt c.payload 0) 31 26 ≠ 0)) ∧
    (∃ (q : Fin 10) (k : Nat) (c : Cmd) (s : State), s.Runs (↑q) k 1031 c ∧ fld (wAt c.payload 0) 7 3 = 0 ∧ fld (wAt c.payload 0) 15 9 = 0
      ∧ fld (wAt c.payload 0) 31 26 = 0 ∧ s.err.safe = false ∧ (s.grp (fld (wAt c.payload 0) 2 0)).st = GState.running ∧ (s.grp (fld (wAt
      c.payload 0) 2 0)).episode = none ∧ s.claimed (↑q) (fld (wAt c.payload 0) 2 0) = false) ∧
    (∃ (q : Fin 10) (k : Nat) (c : Cmd) (s : State), s.Runs (↑q) k 1031 c ∧ fld (wAt c.payload 0) 7 3 = 0 ∧ fld (wAt c.payload 0) 15 9 = 0
      ∧ fld (wAt c.payload 0) 31 26 = 0 ∧ (s.err.safe = true ∨ (s.grp (fld (wAt c.payload 0) 2 0)).st ≠ GState.running ∨ (s.grp (fld (wAt
      c.payload 0) 2 0)).episode ≠ none ∨ s.claimed (↑q) (fld (wAt c.payload 0) 2 0) = true)) :=
  ⟨⟨3, 0, (((on up 3 ctwb).q 3).find 0).getD anyCmd, on up 3 ctwb, by unfold State.Runs; decide +kernel⟩,
   ⟨3, 0, (((on up 3 ctw).q 3).find 0).getD anyCmd, on up 3 ctw, 0, by unfold State.Runs; decide +kernel⟩,
   ⟨3, 0, (((on runG 3 ctws).q 3).find 0).getD anyCmd, on runG 3 ctws, by unfold State.Runs; decide +kernel⟩,
   ⟨3, 0, (((on ((runG { openSet := { entries := List.replicate 64 (0, ea) } })) 3 ctw).q 3).find 0).getD anyCmd, on ((runG
      { openSet := { entries := List.replicate 64 (0, ea) } })) 3 ctw, by unfold State.Runs; decide +kernel⟩,
   ⟨3, 0, (((on (runG.wr .Gn_STAGE_CTL 3 0 1) 3 ctw).q 3).find 0).getD anyCmd, on (runG.wr .Gn_STAGE_CTL 3 0 1) 3 ctw,
      by unfold State.Runs; decide +kernel⟩,
   ⟨3, 0, (((on runG 3 ctw).q 3).find 0).getD anyCmd, on runG 3 ctw, by unfold State.Runs; decide +kernel⟩,
   ⟨3, 0, (((on (runG { released := [full, full, full, full] }) 3 ctw).q 3).find 0).getD anyCmd, on (runG
      { released := [full, full, full, full] }) 3 ctw, by unfold State.Runs; decide +kernel⟩,
   ⟨3, 0, (((on runG 3 cfjb).q 3).find 0).getD anyCmd, on runG 3 cfjb, by unfold State.Runs; decide +kernel⟩,
   ⟨3, 0, (((on runG 3 cfj).q 3).find 0).getD anyCmd, on runG 3 cfj, by unfold State.Runs; decide +kernel⟩,
   ⟨3, 0, (((on up 3 cfj).q 3).find 0).getD anyCmd, on up 3 cfj, by unfold State.Runs; decide +kernel⟩⟩

/-- States that meet the hypotheses of `ArmStartStop`, clause by clause. -/
theorem witness_ArmStartStop :
    (∃ (q : Fin 10) (k : Nat) (c : Cmd) (s : State), s.Runs (↑q) k 1026 c ∧ (fld (wAt c.payload 0) 15 3 ≠ 0 ∨ fld (wAt c.payload 0) 31 26
      ≠ 0)) ∧
    (∃ (q : Fin 10) (k : Nat) (c : Cmd) (s : State) (st : Nat), s.Runs (↑q) k 1026 c ∧ fld (wAt c.payload 0) 15 3 = 0 ∧ fld (wAt c.payload
      0) 31 26 = 0 ∧ s.armRefused (↑q) (fld (wAt c.payload 0) 2 0) (fld (wAt c.payload 0) 25 16) = some st) ∧
    (∃ (q : Fin 10) (k : Nat) (c : Cmd) (s : State), s.Runs (↑q) k 1026 c ∧ fld (wAt c.payload 0) 15 3 = 0 ∧ fld (wAt c.payload 0) 31 26 =
      0 ∧ s.armRefused (↑q) (fld (wAt c.payload 0) 2 0) (fld (wAt c.payload 0) 25 16) = none ∧ eSynth (s.entry (fld (wAt c.payload 0) 2 0)
      (fld (wAt c.payload 0) 25 16)) = true) ∧
    (∃ (q : Fin 10) (k : Nat) (c : Cmd) (s : State), s.Runs (↑q) k 1026 c ∧ fld (wAt c.payload 0) 15 3 = 0 ∧ fld (wAt c.payload 0) 31 26 =
      0 ∧ s.armRefused (↑q) (fld (wAt c.payload 0) 2 0) (fld (wAt c.payload 0) 25 16) = none ∧ eSynth (s.entry (fld (wAt c.payload 0) 2 0)
      (fld (wAt c.payload 0) 25 16)) = false) ∧
    (∃ (q : Fin 10) (k : Nat) (c : Cmd) (s : State), s.Runs (↑q) k 1027 c ∧ fld (wAt c.payload 0) 7 3 = 0 ∧ fld (wAt c.payload 0) 31 9 = 0
      ∧ fld (wAt c.payload 2) 31 16 = 0 ∧ fld (wAt c.payload 3) 31 30 = 0 ∧ fld (wAt c.payload 3) 29 0 < 800000000 ∧ (s.err.safe = true ∨
      ↑q < 8 ∧ s.rb RegId.MGT_CTL 0 0 1 = true ∨ s.claimed (↑q) (fld (wAt c.payload 0) 2 0) = true)) ∧
    (∃ (q : Fin 10) (k : Nat) (c : Cmd) (s : State), s.Runs (↑q) k 1027 c ∧ fld (wAt c.payload 0) 7 3 = 0 ∧ fld (wAt c.payload 0) 31 9 = 0
      ∧ fld (wAt c.payload 2) 31 16 = 0 ∧ fld (wAt c.payload 3) 31 30 = 0 ∧ fld (wAt c.payload 3) 29 0 < 800000000 ∧ s.err.safe = false ∧
      (8 ≤ ↑q ∨ s.rb RegId.MGT_CTL 0 0 1 = false) ∧ s.claimed (↑q) (fld (wAt c.payload 0) 2 0) = false ∧ (s.grp (fld (wAt c.payload 0) 2
      0)).st ≠ GState.armed) ∧
    (∃ (q : Fin 10) (k : Nat) (c : Cmd) (s : State), s.Runs (↑q) k 1027 c ∧ fld (wAt c.payload 0) 7 3 = 0 ∧ fld (wAt c.payload 0) 31 9 = 0
      ∧ fld (wAt c.payload 2) 31 16 = 0 ∧ fld (wAt c.payload 3) 31 30 = 0 ∧ fld (wAt c.payload 3) 29 0 < 800000000 ∧ s.err.safe = false ∧
      (8 ≤ ↑q ∨ s.rb RegId.MGT_CTL 0 0 1 = false) ∧ s.claimed (↑q) (fld (wAt c.payload 0) 2 0) = false ∧ (s.grp (fld (wAt c.payload 0) 2
      0)).st = GState.armed ∧ s.armStartRefused (↑q) (fld (wAt c.payload 0) 2 0) = none ∧ s.bindRefused (fld (wAt c.payload 0) 2 0) = none
      ∧ (if bit (wAt c.payload 0) 8 = true then mkTime (BitVec.toNat (wAt c.payload 1) + 2 ^ 32 * fld (wAt c.payload 2) 15 0) (fld (wAt
      c.payload 3) 29 0) 0 else s.now + usec 20) < s.now + usec 20) ∧
    (∃ (q : Fin 10) (k : Nat) (c : Cmd) (s : State), s.Runs (↑q) k 1027 c ∧ fld (wAt c.payload 0) 7 3 = 0 ∧ fld (wAt c.payload 0) 31 9 = 0
      ∧ fld (wAt c.payload 2) 31 16 = 0 ∧ fld (wAt c.payload 3) 31 30 = 0 ∧ fld (wAt c.payload 3) 29 0 < 800000000 ∧ s.err.safe = false ∧
      (8 ≤ ↑q ∨ s.rb RegId.MGT_CTL 0 0 1 = false) ∧ s.claimed (↑q) (fld (wAt c.payload 0) 2 0) = false ∧ (s.grp (fld (wAt c.payload 0) 2
      0)).st = GState.armed ∧ s.armStartRefused (↑q) (fld (wAt c.payload 0) 2 0) = none ∧ s.bindRefused (fld (wAt c.payload 0) 2 0) = none
      ∧ s.now + usec 20 ≤ if bit (wAt c.payload 0) 8 = true then mkTime (BitVec.toNat (wAt c.payload 1) + 2 ^ 32 * fld (wAt c.payload 2)
      15 0) (fld (wAt c.payload 3) 29 0) 0 else s.now + usec 20) ∧
    (∃ (q : Fin 10) (k : Nat) (c : Cmd) (s : State), s.Runs (↑q) k 1028 c ∧ (fld (wAt c.payload 0) 7 3 ≠ 0 ∨ fld (wAt c.payload 0) 31 10 ≠
      0 ∨ fld (wAt c.payload 0) 9 8 = 3)) ∧
    (∃ (q : Fin 10) (k : Nat) (c : Cmd) (s : State), s.Runs (↑q) k 1028 c ∧ fld (wAt c.payload 0) 7 3 = 0 ∧ fld (wAt c.payload 0) 31 10 =
      0 ∧ fld (wAt c.payload 0) 9 8 ≠ 3 ∧ (s.grp (fld (wAt c.payload 0) 2 0)).st.plays = true) ∧
    (∃ (q : Fin 10) (k : Nat) (c : Cmd) (s : State), s.Runs (↑q) k 1028 c ∧ fld (wAt c.payload 0) 7 3 = 0 ∧ fld (wAt c.payload 0) 31 10 =
      0 ∧ fld (wAt c.payload 0) 9 8 ≠ 3 ∧ (s.grp (fld (wAt c.payload 0) 2 0)).st.isRunning = false) ∧
    (∃ (q : Fin 10) (k : Nat) (c : Cmd) (s : State), s.Runs (↑q) k 1028 c ∧ fld (wAt c.payload 0) 7 3 = 0 ∧ fld (wAt c.payload 0) 31 10 =
      0 ∧ fld (wAt c.payload 0) 9 8 ≠ 3 ∧ ((s.grp (fld (wAt c.payload 0) 2 0)).st = GState.armed ∨ (s.grp (fld (wAt c.payload 0) 2 0)).st
      = GState.waiting) ∧ (s.grp (fld (wAt c.payload 0) 2 0)).released = [] ∧ (s.grp (fld (wAt c.payload 0) 2 0)).openSet.isEmpty = true ∧
      (s.grp (fld (wAt c.payload 0) 2 0)).relWait = [] ∧ (s.grp (fld (wAt c.payload 0) 2 0)).trigs = []) :=
  ⟨⟨3, 0, (((on stp 3 carmb).q 3).find 0).getD anyCmd, on stp 3 carmb, by unfold State.Runs; decide +kernel⟩,
   ⟨3, 0, (((on up 3 carm).q 3).find 0).getD anyCmd, on up 3 carm, ((on up 3 carm).armRefused (3) (fld (wAt ((((on up 3 carm).q 3).find
      0).getD anyCmd).payload 0) 2 0) (fld (wAt ((((on up 3 carm).q 3).find 0).getD anyCmd).payload 0) 25 16)).getD 0,
      by unfold State.Runs; decide +kernel⟩,
   ⟨3, 0, (((on stp 3 carm).q 3).find 0).getD anyCmd, on stp 3 carm, by unfold State.Runs; decide +kernel⟩,
   ⟨3, 0, (((on stpW 3 carm).q 3).find 0).getD anyCmd, on stpW 3 carm, by unfold State.Runs; decide +kernel⟩,
   ⟨3, 0, (((on { arm with err := { arm.err with safe := true } } 3 cst).q 3).find 0).getD anyCmd, on
      { arm with err := { arm.err with safe := true } } 3 cst, by unfold State.Runs; decide +kernel⟩,
   ⟨3, 0, (((on stp 3 cst).q 3).find 0).getD anyCmd, on stp 3 cst, by unfold State.Runs; decide +kernel⟩,
   ⟨3, 0, (((on arm 3 cst2).q 3).find 0).getD anyCmd, on arm 3 cst2, by unfold State.Runs; decide +kernel⟩,
   ⟨3, 0, (((on (arm.setPin 0 { level := some true, ovr := some true }) 3 cst).q 3).find 0).getD anyCmd, on (arm.setPin 0
      { level := some true, ovr := some true }) 3 cst, by unfold State.Runs; decide +kernel⟩,
   ⟨3, 0, (((on arm 3 cspb).q 3).find 0).getD anyCmd, on arm 3 cspb, by unfold State.Runs; decide +kernel⟩,
   ⟨3, 0, (((on runG 3 csp).q 3).find 0).getD anyCmd, on runG 3 csp, by unfold State.Runs; decide +kernel⟩,
   ⟨3, 0, (((on stp 3 csp).q 3).find 0).getD anyCmd, on stp 3 csp, by unfold State.Runs; decide +kernel⟩,
   ⟨3, 0, (((on arm 3 csp).q 3).find 0).getD anyCmd, on arm 3 csp, by unfold State.Runs; decide +kernel⟩⟩

/-- States that meet the hypotheses of `StageAndCommit`, clause by clause (part 1). -/
theorem witness_StageAndCommit_1 :
    (∃ (q : Fin 10) (k : Nat) (c : Cmd) (s : State), s.Runs (↑q) k 1029 c ∧ (fld (wAt c.payload 0) 7 3 ≠ 0 ∨ fld (wAt c.payload 0) 31 9 ≠
      0 ∨ (pairsFrom 1 c.payload).all (s.ownedBy (fld (wAt c.payload 0) 2 0)) = false)) ∧
    (∃ (q : Fin 10) (k : Nat) (c : Cmd) (s : State), s.Runs (↑q) k 1029 c ∧ fld (wAt c.payload 0) 7 3 = 0 ∧ fld (wAt c.payload 0) 31 9 = 0
      ∧ (pairsFrom 1 c.payload).all (s.ownedBy (fld (wAt c.payload 0) 2 0)) = true ∧ (pairsFrom 1 c.payload).any s.routeMoves = true) ∧
    (∃ (q : Fin 10) (k : Nat) (c : Cmd) (s : State), s.Runs (↑q) k 1029 c ∧ fld (wAt c.payload 0) 7 3 = 0 ∧ fld (wAt c.payload 0) 31 9 = 0
      ∧ (pairsFrom 1 c.payload).all (s.ownedBy (fld (wAt c.payload 0) 2 0)) = true ∧ (pairsFrom 1 c.payload).any s.routeMoves = false ∧ (∀
      (w : Nat × Word), w ∈ pairsFrom 1 c.payload → s.ilimDenied w = none) ∧ s.grpRunning (fld (wAt c.payload 0) 2 0) = false ∧ (pairsFrom
      1 c.payload).any s.gainDenied = false ∧ bit (wAt c.payload 0) 8 = false) ∧
    (∃ (q : Fin 10) (k : Nat) (c : Cmd) (s : State), s.Runs (↑q) k 1029 c ∧ fld (wAt c.payload 0) 7 3 = 0 ∧ fld (wAt c.payload 0) 31 9 = 0
      ∧ (pairsFrom 1 c.payload).all (s.ownedBy (fld (wAt c.payload 0) 2 0)) = true ∧ (pairsFrom 1 c.payload).any s.routeMoves = false ∧ (∀
      (w : Nat × Word), w ∈ pairsFrom 1 c.payload → s.ilimDenied w = none) ∧ s.grpRunning (fld (wAt c.payload 0) 2 0) = false ∧ (pairsFrom
      1 c.payload).any s.gainDenied = false ∧ bit (wAt c.payload 0) 8 = true) ∧
    (∃ (q : Fin 10) (k : Nat) (c : Cmd) (s : State) (ch : Fin 32) (v : Word), s.Runs (↑q) k 1029 c ∧ fld (wAt c.payload 0) 7 3 = 0 ∧ fld
      (wAt c.payload 0) 31 9 = 0 ∧ (pairsFrom 1 c.payload).all (s.ownedBy (fld (wAt c.payload 0) 2 0)) = true ∧ (pairsFrom 1
      c.payload).any s.routeMoves = false ∧ (∀ (w : Nat × Word), w ∈ pairsFrom 1 c.payload → s.ilimDenied w = none) ∧ s.grpRunning (fld
      (wAt c.payload 0) 2 0) = false ∧ (pairsFrom 1 c.payload).any s.gainDenied = false ∧ pairsFrom 1 c.payload = [(RegId.CHn_GAIN.off
      (↑ch) 0, v)]) ∧
    (∃ (q : Fin 10) (k : Nat) (c : Cmd) (s : State), s.Runs (↑q) k 1029 c ∧ fld (wAt c.payload 0) 7 3 = 0 ∧ fld (wAt c.payload 0) 31 9 = 0
      ∧ (pairsFrom 1 c.payload).all (s.ownedBy (fld (wAt c.payload 0) 2 0)) = true ∧ (pairsFrom 1 c.payload).any s.routeMoves = false ∧ (∀
      (w : Nat × Word), w ∈ pairsFrom 1 c.payload → s.ilimDenied w = none) ∧ s.grpRunning (fld (wAt c.payload 0) 2 0) = true ∧ (s.grp (fld
      (wAt c.payload 0) 2 0)).openSet.fits (pairsFrom 1 c.payload).length 0 = true ∧ bit (wAt c.payload 0) 8 = true ∧ s.stageNames (fld
      (wAt c.payload 0) 2 0) = true) ∧
    (∃ (q : Fin 10) (k : Nat) (c : Cmd) (s : State), s.Runs (↑q) k 1029 c ∧ fld (wAt c.payload 0) 7 3 = 0 ∧ fld (wAt c.payload 0) 31 9 = 0
      ∧ (pairsFrom 1 c.payload).all (s.ownedBy (fld (wAt c.payload 0) 2 0)) = true ∧ (pairsFrom 1 c.payload).any s.routeMoves = false ∧ (∀
      (w : Nat × Word), w ∈ pairsFrom 1 c.payload → s.ilimDenied w = none) ∧ s.grpRunning (fld (wAt c.payload 0) 2 0) = true ∧ (s.grp (fld
      (wAt c.payload 0) 2 0)).openSet.fits (pairsFrom 1 c.payload).length 0 = true ∧ bit (wAt c.payload 0) 8 = false ∧ s.hold (fld (wAt
      c.payload 0) 2 0) = true) ∧
    (∃ (q : Fin 10) (k : Nat) (c : Cmd) (s : State), s.Runs (↑q) k 1029 c ∧ fld (wAt c.payload 0) 7 3 = 0 ∧ fld (wAt c.payload 0) 31 9 = 0
      ∧ (pairsFrom 1 c.payload).all (s.ownedBy (fld (wAt c.payload 0) 2 0)) = true ∧ (pairsFrom 1 c.payload).any s.routeMoves = false ∧ (∀
      (w : Nat × Word), w ∈ pairsFrom 1 c.payload → s.ilimDenied w = none) ∧ s.grpRunning (fld (wAt c.payload 0) 2 0) = true ∧ (s.grp (fld
      (wAt c.payload 0) 2 0)).openSet.fits (pairsFrom 1 c.payload).length 0 = true ∧ (bit (wAt c.payload 0) 8 = true ∧ s.stageNames (fld
      (wAt c.payload 0) 2 0) = false ∨ bit (wAt c.payload 0) 8 = false ∧ s.hold (fld (wAt c.payload 0) 2 0) = false) ∧ (s.grp (fld (wAt
      c.payload 0) 2 0)).released.length < 4) ∧
    (∃ (q : Fin 10) (k : Nat) (c : Cmd) (s : State), s.Runs (↑q) k 1029 c ∧ fld (wAt c.payload 0) 7 3 = 0 ∧ fld (wAt c.payload 0) 31 9 = 0
      ∧ (pairsFrom 1 c.payload).all (s.ownedBy (fld (wAt c.payload 0) 2 0)) = true ∧ (pairsFrom 1 c.payload).any s.routeMoves = false ∧ (∀
      (w : Nat × Word), w ∈ pairsFrom 1 c.payload → s.ilimDenied w = none) ∧ s.grpRunning (fld (wAt c.payload 0) 2 0) = true ∧ (s.grp (fld
      (wAt c.payload 0) 2 0)).openSet.fits (pairsFrom 1 c.payload).length 0 = true ∧ (bit (wAt c.payload 0) 8 = true ∧ s.stageNames (fld
      (wAt c.payload 0) 2 0) = false ∨ bit (wAt c.payload 0) 8 = false ∧ s.hold (fld (wAt c.payload 0) 2 0) = false) ∧ 4 ≤ (s.grp (fld
      (wAt c.payload 0) 2 0)).released.length) ∧
    (∃ (q : Fin 10) (k : Nat) (c : Cmd) (s : State), s.Runs (↑q) k 1030 c ∧ fld (wAt c.payload 0) 31 3 ≠ 0) ∧
    (∃ (q : Fin 10) (k : Nat) (c : Cmd) (s : State), s.Runs (↑q) k 1030 c ∧ fld (wAt c.payload 0) 31 3 = 0 ∧ (s.grp (fld (wAt c.payload 0)
      2 0)).openSet.isEmpty = true) ∧
    (∃ (q : Fin 10) (k : Nat) (c : Cmd) (s : State), s.Runs (↑q) k 1030 c ∧ fld (wAt c.payload 0) 31 3 = 0 ∧ (s.grp (fld (wAt c.payload 0)
      2 0)).openSet.isEmpty = false ∧ (s.grp (fld (wAt c.payload 0) 2 0)).released.length < 4) :=
  ⟨⟨3, 0, (((on up 3 sb).q 3).find 0).getD anyCmd, on up 3 sb, by unfold State.Runs; decide +kernel⟩,
   ⟨3, 0, (((on rt 3 sr).q 3).find 0).getD anyCmd, on rt 3 sr, by unfold State.Runs; decide +kernel⟩,
   ⟨3, 0, (((on up 3 s0).q 3).find 0).getD anyCmd, on up 3 s0, by unfold State.Runs; decide +kernel⟩,
   ⟨3, 0, (((on up 3 s1).q 3).find 0).getD anyCmd, on up 3 s1, by unfold State.Runs; decide +kernel⟩,
   ⟨3, 0, (((on chG 3 sg).q 3).find 0).getD anyCmd, on chG 3 sg, 4, 0x12345, by unfold State.Runs; decide +kernel⟩,
   ⟨3, 0, (((on (runG { openSet := { entries := [(7, [0x01004005, 100, 0, 0, 0, 0, 0, 0])] } }) 3 s1).q 3).find 0).getD anyCmd, on (runG
      { openSet := { entries := [(7, [0x01004005, 100, 0, 0, 0, 0, 0, 0])] } }) 3 s1, by unfold State.Runs; decide +kernel⟩,
   ⟨3, 0, (((on (runG.wr .Gn_STAGE_CTL 3 0 1) 3 s0).q 3).find 0).getD anyCmd, on (runG.wr .Gn_STAGE_CTL 3 0 1) 3 s0,
      by unfold State.Runs; decide +kernel⟩,
   ⟨3, 0, (((on (runG.wr .Gn_STAGE_CTL 3 0 1) 3 s1).q 3).find 0).getD anyCmd, on (runG.wr .Gn_STAGE_CTL 3 0 1) 3 s1,
      by unfold State.Runs; decide +kernel⟩,
   ⟨3, 0, (((on (runG { released := [full, full, full, full] }) 3 s1).q 3).find 0).getD anyCmd, on (runG
      { released := [full, full, full, full] }) 3 s1, by unfold State.Runs; decide +kernel⟩,
   ⟨3, 0, (((on runG 3 ccb).q 3).find 0).getD anyCmd, on runG 3 ccb, by unfold State.Runs; decide +kernel⟩,
   ⟨3, 0, (((on runG 3 cc).q 3).find 0).getD anyCmd, on runG 3 cc, by unfold State.Runs; decide +kernel⟩,
   ⟨3, 0, (((on (runG { openSet := { writes := [(fo, 6)] } }) 3 cc).q 3).find 0).getD anyCmd, on (runG
      { openSet := { writes := [(fo, 6)] } }) 3 cc, by unfold State.Runs; decide +kernel⟩⟩

/-- States that meet the hypotheses of `StageAndCommit`, clause by clause (part 2). -/
theorem witness_StageAndCommit_2 :
    (∃ (q : Fin 10) (k : Nat) (c : Cmd) (s : State), s.Runs (↑q) k 1030 c ∧ fld (wAt c.payload 0) 31 3 = 0 ∧ (s.grp (fld (wAt c.payload 0)
      2 0)).openSet.isEmpty = false ∧ 4 ≤ (s.grp (fld (wAt c.payload 0) 2 0)).released.length) :=
  ⟨3, 0, (((on (runG { released := [full, full, full, full], openSet := { writes := [(fo, 6)] } }) 3 cc).q 3).find 0).getD anyCmd, on
    (runG { released := [full, full, full, full], openSet := { writes := [(fo, 6)] } }) 3 cc, by unfold State.Runs; decide +kernel⟩

end Play

namespace Converters

def T : Nat := up.now + 256 * 1000
def pl (x : Group := {}) : State := (banded up 0).setGrp 3 { x with st := .running, n := 100, times := [up.now] }
def e4 : List Word := [0x00000000 + 0x01000000, 90, 0, 0, 7, 0, 0, 0]
def chn (s : State) : State := (s.wr .CHn_CTL 4 0 0x31).setChan 4 { run := true }
def wt : State := on ((banded up 0).setGrp 3 { st := .waiting, startAt := T, startEntry := 4, startCmd := some ⟨2, 0⟩ }) 2 (begun (cmd 0x403 [3]))
def sA : State := chn (pl { f := 1000000, a := 7 })
def rmp : State := (banded up 0).setGrp 3 { st := .stopped, rampLeft := 5, times := [up.now] }
def sE (p : Nat) : State := (pl { entry := 4, plays := p, startN := 10 }).setEntry 3 4 e4
def sH : State := (sE 0).setEntry 3 7 [0x01010005, 90, 0, 0, 7, 0, 0, 0]
def yF : Trig := { idx := 0, target := 9, earliest := 5, seamless := false, ev := none, cmd := some ⟨2, 0⟩, delayed := false, heldAt := none }
def sF : State := on (pl { entry := 4, startN := 10, trigs := [yF] }) 2 (begun (cmd 0x407 [3]))
def sT : State := on ((banded up 0).setGrp 3 { st := .stopped, startEntry := 4, armCmd := some ⟨2, 0⟩ }) 2 (begun (cmd 0x402 [3]))
def xs : StageSet := { writes := [(RegId.off .CHn_GAIN 4 0, 77)], entries := [(5, e4)], r := up.now - 256 * 100000, cmd := some ⟨2, 0⟩ }
def sC (r : Nat) : State := on (State.setEntry (e := 0) (g := 3) (ws := [0x03000000,0,0,0,0,2,0,0]) <| (pl { f := BitVec.ofInt 64 (-1), a := 0, released := [{ xs with r := r}] })) 2 (begun (cmd 0x405 [3]))
def sM : State := (pl { f := BitVec.ofInt 64 (-1), a := 0 }).setChan 4 { run := true } |>.wr .CHn_CTL 4 0 0x30
def sS : State := on ((pl { stops := [⟨0, some ⟨2, 0⟩, false, false⟩] }).setChan 4 { run := true } |>.wr .CHn_CTL 4 0 0x31 |>.wr .Gn_CTL 3 0 1) 2 (begun (cmd 0x404 [3]))
def epis : Episode := ⟨99, some (T - 256 * 400), 4⟩
def sB : State := pl { f := BitVec.ofInt 64 (-1), a := 0, episode := some epis, entry := 6 }
def sR : State := ((pl { f := BitVec.ofInt 64 (-1), a := 0, fb := true, fbMarks := 1, due := 4, dueHeld := some 5, entry := 6 }).modGrp 3 fun x => { x with st := .fallback }).wr .Gn_FALLBACK 3 0 0x10000

/-- States that meet the hypotheses of `SamplesOfAGroup`, clause by clause. -/
theorem witness_SamplesOfAGroup :
    (∃ (g : Fin 8) (t : Nat) (s : State) (q : Fin 10) (k h : Nat), s.mgt.rst = false ∧ s.firstEdge (↑g) t = true ∧ (s.grp ↑g).released =
      [] ∧ (s.grp ↑g).startCmd = some { q := ↑q, k := k } ∧ s.Waits (↑q) k ∧ h ≠ ↑g) ∧
    (∃ (g : Fin 8) (t : Nat) (s : State), s.firstEdge (↑g) t = false) ∧
    (∃ (g : Fin 8) (t : Nat) (s u : State) (c : Nat), s.AtEdge (↑g) t u ∧ ((u.decideSample (↑g) t).grp ↑g).st.plays = true ∧
      (u.decideSample (↑g) t).bindMode ↑g ≠ 1 ∧ c ∈ (((u.decideSample (↑g) t).advance ↑g).sineCheck false).chansOf ↑g) ∧
    (∃ (g : Fin 8) (t : Nat) (s u : State) (h : Nat), s.AtEdge (↑g) t u ∧ ((u.decideSample (↑g) t).grp ↑g).st.plays = true ∧
      (u.decideSample (↑g) t).bindMode ↑g ≠ 1 ∧ h ≠ ↑g) ∧
    (∃ (g : Fin 8) (t : Nat) (s u : State) (c : Nat), s.AtEdge (↑g) t u ∧ (u.grp ↑g).fb = false ∧ (u.grp ↑g).episode = none ∧ u.stopDue
      (↑g) t = false ∧ (((u.underrun (↑g) 1 none).decideSample (↑g) t).grp ↑g).st.plays = true ∧ c ∈ ((u.underrun (↑g) 1
      none).decideSample (↑g) t).chansOf ↑g) ∧
    (∃ (s : State), s.mgt.rst = false) ∧
    (∃ (g : Fin 8) (t : Nat) (s u : State) (c : Nat), (s.lasting 23 (↑g) 19 255 ((s.grp ↑g).n % 2 ^ 32) 0).AtEdge (↑g) t u ∧ (u.grp ↑g).fb
      = false ∧ (u.grp ↑g).episode = none ∧ u.stopDue (↑g) t = false ∧ (((u.underrun (↑g) 2 none).decideSample (↑g) t).grp ↑g).st.plays =
      true ∧ c ∈ ((u.underrun (↑g) 2 none).decideSample (↑g) t).chansOf ↑g) ∧
    (∃ (g : Fin 8) (s : State), s.mgt.rst = false ∧ (s.grp ↑g).st.plays = false ∧ 0 < (s.grp ↑g).rampLeft) :=
  ⟨⟨3, T, chn wt, 2, 0, 0, by and_intros <;> first | decide +kernel | exact waits_of (by decide +kernel)⟩,
   ⟨3, T, sA, by decide +kernel⟩,
   ⟨3, T, sA, (sA.svCatchUp T).reach T, 4, by unfold State.AtEdge; decide +kernel⟩,
   ⟨3, T, sA, (sA.svCatchUp T).reach T, 0, by unfold State.AtEdge; decide +kernel⟩,
   ⟨3, T, sA, (sA.svCatchUp T).reach T, 4, by unfold State.AtEdge; decide +kernel⟩,
   ⟨chn wt, by decide +kernel⟩,
   ⟨3, T, sA, ((sA.lasting 23 (3) 19 255 ((sA.grp 3).n % 2 ^ 32) 0).svCatchUp T).reach T, 4, by unfold State.AtEdge; decide +kernel⟩,
   ⟨3, rmp, by decide +kernel⟩⟩

/-- States that meet the hypotheses of `EntriesAndSwitches`, clause by clause. -/
theorem witness_EntriesAndSwitches :
    (∃ (g : Fin 8) (t : Nat) (s u : State) (next plays : Nat), s.AtDecision (↑g) t u ∧ u.deciding ↑g = true ∧ (u.grp ↑g).startN < (u.grp
      ↑g).n ∧ u.durEnd (↑g) t = true ∧ u.entryOk (↑g) (u.entry (↑g) next) = true ∧ (0 < (u.grp ↑g).plays ∧ next = (u.grp ↑g).entry ∧ plays
      = (u.grp ↑g).plays - 1 ∨ (u.grp ↑g).plays = 0 ∧ eLast (u.entry (↑g) (u.grp ↑g).entry) = false ∧ u.regionHeld (↑g) 1 = true ∧ next =
      eNext (u.entry (↑g) (u.grp ↑g).entry) ∧ plays = eRepeat (u.entry (↑g) next))) ∧
    (∃ (g : Fin 8) (t : Nat) (s u : State), s.AtDecision (↑g) t u ∧ u.deciding ↑g = true ∧ (u.grp ↑g).startN < (u.grp ↑g).n ∧ u.durEnd
      (↑g) t = true ∧ (u.grp ↑g).plays = 0 ∧ eLast (u.entry (↑g) (u.grp ↑g).entry) = false ∧ u.regionHeld (↑g) 1 = false) ∧
    (∃ (g : Fin 8) (t : Nat) (s u : State) (delayed : Bool) (y : Trig) (q : Fin 10) (k : Nat), s.AtDecision (↑g) t u ∧ u.deciding ↑g =
      true ∧ u.claims (↑g) t (some delayed) = [y] ∧ u.entryOk (↑g) (u.entry (↑g) y.target) = true ∧ y.cmd = some { q := ↑q, k := k } ∧
      u.Waits (↑q) k) ∧
    (∃ (g : Fin 8) (t : Nat) (s : State) (p : Nat × Nat × List Word), s.mgt.rst = false ∧ (s.reach t).holdable (↑g) ((s.reach t).entry
      (↑g) p.fst) = true ∧ ((s.reach t).grp ↑g).armCmd = none ∧ p ∈ (s.reach t).wants ↑g ∧ (s.reach t).holdable (↑g) p.snd.snd = true) ∧
    (∃ (g : Fin 8) (t : Nat) (s : State) (k : Nat) (q : Fin 10) (p : Nat × Nat × List Word), s.mgt.rst = false ∧ (s.reach t).holdable (↑g)
      ((s.reach t).entry (↑g) ((s.reach t).grp ↑g).startEntry) = true ∧ ((s.reach t).grp ↑g).armCmd = some { q := ↑q, k := k } ∧
      (((s.reach t).grp ↑g).st = GState.stopped ∨ ((s.reach t).grp ↑g).st = GState.armed) ∧ (s.reach t).err.safe = false ∧ (s.reach
      t).Waits (↑q) k ∧ p ∈ (s.reach t).wants ↑g ∧ p.fst = ((s.reach t).grp ↑g).startEntry ∧ (s.reach t).holdable (↑g) p.snd.snd = true) :=
  ⟨⟨3, T, sE 2, (((sE 2).svCatchUp T).reach T).foreseeStep (3) T, 4, 1, ⟨_, by unfold State.AtEdge; decide +kernel, rfl⟩,
      by decide +kernel⟩,
   ⟨3, T, sH, ((sH.svCatchUp T).reach T).foreseeStep (3) T, ⟨_, by unfold State.AtEdge; decide +kernel, rfl⟩, by decide +kernel⟩,
   ⟨3, T, sF, ((sF.svCatchUp T).reach T).foreseeStep (3) T, false, yF, 2, 0,
      by and_intros <;> first | decide +kernel | exact ⟨_, by unfold State.AtEdge; decide +kernel, rfl⟩ | exact waits_of (by decide +kernel)⟩,
   ⟨3, T, sE 2, (4, 0, e4), by decide +kernel⟩,
   ⟨3, T, sT, 0, 2, (4, 0, [0x03000000,0,0,0,0,0,0,0]), by and_intros <;> first | decide +kernel | exact waits_of (by decide +kernel)⟩⟩

/-- States that meet the hypotheses of `CommitsAndMarks`, clause by clause. -/
theorem witness_CommitsAndMarks :
    (∃ (g : Fin 8) (t : Nat) (s u : State) (x : StageSet) (ch : Fin 32) (w : Word) (e : Nat) (ws : List Word) (q : Fin 10) (k : Nat),
      s.AtDecision (↑g) t u ∧ (u.grp ↑g).commitN ≠ some (u.grp ↑g).n ∧ u.isCommit ↑g = true ∧ (u.grp ↑g).released = [x] ∧ (u.grp
      ↑g).relWait = [] ∧ x.late = false ∧ x.r < t ∧ t ≤ x.r + grainsPerSec ∧ x.r ≤ u.back64 (↑g) t ∧ x.writes = [(RegId.CHn_GAIN.off (↑ch)
      0, w)] ∧ x.entries = [(e, ws)] ∧ e < 1024 ∧ x.cmd = some { q := ↑q, k := k } ∧ (∀ (h : Nat), h ≠ ↑g → (∀ (y : StageSet), y ∈ (u.grp
      h).released → y.cmd ≠ x.cmd) ∧ ∀ (y : Option CmdRef × Option (List Word)), y ∈ (u.grp h).relWait → y.fst ≠ x.cmd) ∧ u.Waits (↑q) k) ∧
    (∃ (g : Fin 8) (t : Nat) (s u : State) (x : StageSet), s.AtDecision (↑g) t u ∧ (u.grp ↑g).commitN ≠ some (u.grp ↑g).n ∧ u.isCommit ↑g
      = true ∧ (u.grp ↑g).released = [x] ∧ (u.grp ↑g).relWait = [] ∧ x.late = false ∧ x.r < t ∧ t ≤ x.r + grainsPerSec ∧ u.back64 (↑g) t <
      x.r ∧ x.hasRoute = false) ∧
    (∃ (g : Fin 8) (t : Nat) (s u : State) (c : Fin 32), s.AtDecision (↑g) t u ∧ u.formsMark (↑g) t = true ∧ (u.grp ↑g).markN ≠ some
      (u.grp ↑g).n ∧ (u.chan ↑c).run = true ∧ u.chGroup ↑c = ↑g ∧ u.chEn ↑c = false) ∧
    (∃ (g : Fin 8) (t : Nat) (s u : State) (y : StopReq) (k : Nat) (q : Fin 10), s.AtDecision (↑g) t u ∧ u.stopDue (↑g) t = true ∧ (u.grp
      ↑g).stops = [y] ∧ y.cmd = some { q := ↑q, k := k } ∧ (u.grp ↑g).released = [] ∧ (u.grp ↑g).openSet.isEmpty = true ∧ (u.grp
      ↑g).relWait = [] ∧ (u.grp ↑g).trigs = [] ∧ (u.grp ↑g).startCmd = none ∧ (u.grp ↑g).armCmd = none ∧ (∀ (h : Nat), (u.grp
      h).st.isRunning = true → u.bindMode h ≠ 1) ∧ u.Waits (↑q) k) ∧
    (∃ (g : Fin 8) (t : Nat) (s u : State), s.AtDecision (↑g) t u ∧ u.stopDue (↑g) t = false) ∧
    (∃ (g : Fin 8) (t : Nat) (s u : State), s.AtDecision (↑g) t u ∧ u.formsMark (↑g) t = false) ∧
    (∃ (g : Fin 8) (t : Nat) (s u : State), s.AtDecision (↑g) t u ∧ (u.grp ↑g).released = []) :=
  ⟨⟨3, T, sC (T - 256 * 200000), (((sC (T - 256 * 200000)).svCatchUp T).reach T).foreseeStep (3) T, { xs with r := T - 256 * 200000 }, 4,
      77, 5, e4, 2, 0,
      by and_intros <;> first | decide +kernel | exact ⟨_, by unfold State.AtEdge; decide +kernel, rfl⟩ | exact other_group (by decide +kernel) | exact waits_of (by decide +kernel)⟩,
   ⟨3, T, sC (T-1), (((sC (T-1)).svCatchUp T).reach T).foreseeStep (3) T, { xs with r := T - 1 }, ⟨_,
      by unfold State.AtEdge; decide +kernel, rfl⟩, by decide +kernel⟩,
   ⟨3, T, sM, ((sM.svCatchUp T).reach T).foreseeStep (3) T, 4, ⟨_, by unfold State.AtEdge; decide +kernel, rfl⟩, by decide +kernel⟩,
   ⟨3, T, sS, ((sS.svCatchUp T).reach T).foreseeStep (3) T, ⟨0, some ⟨2, 0⟩, false, false⟩, 0, 2,
      by and_intros <;> first | decide +kernel | exact ⟨_, by unfold State.AtEdge; decide +kernel, rfl⟩ | exact no_follower (g := 3) (by decide +kernel) (by decide +kernel) | exact waits_of (by decide +kernel)⟩,
   ⟨3, T, sC (T - 256 * 200000), (((sC (T - 256 * 200000)).svCatchUp T).reach T).foreseeStep (3) T, ⟨_,
      by unfold State.AtEdge; decide +kernel, rfl⟩, by decide +kernel⟩,
   ⟨3, T, pl { lastMarkT := up.now }, (((pl { lastMarkT := up.now }).svCatchUp T).reach T).foreseeStep (3) T, ⟨_,
      by unfold State.AtEdge; decide +kernel, rfl⟩, by decide +kernel⟩,
   ⟨3, T, sM, ((sM.svCatchUp T).reach T).foreseeStep (3) T, ⟨_, by unfold State.AtEdge; decide +kernel, rfl⟩, by decide +kernel⟩⟩

/-- States that meet the hypotheses of `UnderrunAndFence`, clause by clause. -/
theorem witness_UnderrunAndFence :
    (∃ (g : Fin 8) (t : Nat) (s : State) (cause : Nat), s.mgt.rst = false ∧ 1 ≤ cause ∧ cause ≤ 10 ∧ ((s.reach t).grp ↑g).st.plays = true
      ∧ ((s.reach t).grp ↑g).fb = false ∧ ((s.reach t).grp ↑g).episode = none) ∧
    (∃ (g : Fin 8) (t : Nat) (s : State) (cause : Nat), s.mgt.rst = false ∧ 1 ≤ cause ∧ cause ≤ 10 ∧ ((s.reach t).grp ↑g).st.plays = true
      ∧ ((s.reach t).grp ↑g).fb = true) ∧
    (∃ (g : Fin 8) (t : Nat) (s u : State) (ep : Episode) (f : Nat), s.AtDecision (↑g) t u ∧ (u.grp ↑g).episode = some ep ∧ ep.firstT =
      some f ∧ (u.grp ↑g).fb = false ∧ u.nextMark (↑g) t = true ∧ f + 400 * 256 ≤ t) ∧
    (∃ (g : Fin 8) (t : Nat) (s u : State) (held : Nat), s.AtDecision (↑g) t u ∧ (u.grp ↑g).st = GState.fallback ∧ u.nextMark (↑g) t =
      true ∧ u.rb RegId.Gn_FALLBACK (↑g) 0 16 = true ∧ (u.grp ↑g).lasting = false ∧ 1 ≤ (u.grp ↑g).fbMarks ∧ (u.grp ↑g).uSinceMark = false
      ∧ (u.grp ↑g).dueHeld = some held ∧ held ≤ u.back64 (↑g) t ∧ u.entryOk (↑g) (u.entry (↑g) (u.grp ↑g).due) = true) ∧
    (∃ (g : Fin 8) (s : State) (h : Fin 8), s.mgt.rst = false ∧ s.grpRunning ↑g = false ∧ h ≠ g) ∧
    (∃ (g : Fin 8) (s : State), s.mgt.rst = false ∧ s.grpRunning ↑g = true) ∧
    (∃ (s : State) (mask : Fin 256), s.mgt.rst = false ∧ ∀ (h : Fin 8), mask.val.testBit ↑h = true → bit s.err.gfenced ↑h = true) :=
  ⟨⟨3, T, pl { entry := 4 }, 3, by decide +kernel⟩,
   ⟨3, T, pl { entry := 4, fb := true }, 3, by decide +kernel⟩,
   ⟨3, T, sB, ((sB.svCatchUp T).reach T).foreseeStep (3) T, epis, T - 256 * 400, ⟨_, by unfold State.AtEdge; decide +kernel, rfl⟩,
      by decide +kernel⟩,
   ⟨3, T, sR, ((sR.svCatchUp T).reach T).foreseeStep (3) T, 5, ⟨_, by unfold State.AtEdge; decide +kernel, rfl⟩, by decide +kernel⟩,
   ⟨3, up, 0, by decide +kernel⟩,
   ⟨3, pl { entry := 4 }, by decide +kernel⟩,
   ⟨{ up with err := { gfenced := 9 } }, 1, by decide +kernel⟩⟩

end Converters

namespace Events

def T : Nat := up.now + 256 * 1000 + 77
def bn (x : BinIn) : State := (up.wr .BIN_CFG_n 4 0 0x80000000).setBin 4 x
def src14 : Nat := srcOf 1 4
def bnJ : State := (((bn { valid := true }).setGrp 3 { st := .running, n := 5, times := [up.now - 5] }).setEntry 3 0 [0x03000000, 0, 0, 0, 0, 0, 0xFFFFFFFF, 0]).wr .EVT_COND_g_i 3 31 (0x80000000 + mkW src14)
def noEvt : State := { (up.wr .SYS_EN_STATUS 0 0 0x3DFF) with regs := [] }
def noEvtB : State := (bn { valid := true }).wr .SYS_EN_STATUS 0 0 0x3DFF
def lg : State := { up with ev := { log := [List.replicate 32 3, List.replicate 32 2, List.replicate 32 1], wr := 3, rd := 1 } }
def clr : Cmd := cmd 0x802 [0xFFFFFFFF, 0x10002, 64, 1]
def clr0 : Cmd := cmd 0x802 [3, 0x10002, 64, 1]
def clrb : Cmd := cmd 0x802 [0, 0x10000, 64, 1]
def cev : ChainEv := ⟨7, up.now, 5⟩
def chE : State := { bnJ with ev := { chain := [cev] } } |>.wr .EVT_COND_g_i 3 31 (0x80000000 + mkW (srcOf 5 7))
def chN : State := { noEvtB with ev := { chain := [cev] } }
def ccw : Cmd := cmd 0x803 [0x204, 1001, 0, 5, 9, 7]
def ccwb : Cmd := cmd 0x803 [0x204, 999, 0, 5, 9, 7]
def xw : CwSet := ⟨mkTime 1001 5 0, 9, 7⟩
def ccd : Cmd := cmd 0x803 [0x10204, 0, 0, 0, 0, 0]
def dd (x : Dac) : State := up.setDac 20 x
def mo (x : Dac) : State := (dd x).setAdc 15 { refReady := true }
def dP : List Word := [0x40013 , 4, 0x300000, 0, 1, 0, 0xFFFF0000, 0]
def paG (x : Group) : State := ({ ((up.setSeg 5 { st := .valid, desc := dP }).setGrp 3 { x with st := .running, n := 4, times := [up.now] }) with onchip := [(0x300002, 0x10)] }).setPin 20 { en := true } |>.wr .PAT_LANE_n 20 0 0x31 |>.setPin 21 { en := true, ovr := some true } |>.wr .PAT_LANE_n 21 0 0x31
def pp (x : Pin) : State := (paG {}).setPin 20 { x with en := true, level := some true }

/-- States that meet the hypotheses of `EventSources`, clause by clause. -/
theorem witness_EventSources :
    (∃ (s : State) (n : Fin 32), s.mgt.rst = false ∧ s.binOn ↑n = false) ∧
    (∃ (s : State) (n : Fin 32), s.mgt.rst = false ∧ s.binOn ↑n = true ∧ (s.bin ↑n).valid = true ∧ s.evtOn = false) ∧
    (∃ (s : State) (n : Fin 32), s.mgt.rst = false ∧ s.binOn ↑n = true ∧ (s.bin ↑n).valid = true ∧ s.evtOn = true) ∧
    (∃ (s : State) (n : Fin 32), s.mgt.rst = false ∧ s.binOn ↑n = true ∧ (s.bin ↑n).valid = false) ∧
    (∃ (s : State), s.mgt.rst = false ∧ s.evtOn = true) ∧
    (∃ (s : State), s.mgt.rst = false ∧ s.evtOn = false) ∧
    (∃ (s : State) (k : Fin 8), s.mgt.rst = false ∧ s.rb RegId.EVT_TM_CTL_k (↑k) 0 0 = false ∧ s.tmArmOk ↑k = true ∧ s.evtOn = true ∧
      s.tmTime ↑k ≤ s.now) ∧
    (∃ (s : State) (k : Fin 8), s.mgt.rst = false ∧ s.rb RegId.EVT_TM_CTL_k (↑k) 0 0 = false ∧ s.tmArmOk ↑k = true ∧ (s.evtOn = false ∨
      s.now < s.tmTime ↑k)) ∧
    (∃ (s : State) (k : Fin 8), s.mgt.rst = false ∧ s.rb RegId.EVT_TM_CTL_k (↑k) 0 0 = true) ∧
    (∃ (s : State) (k : Fin 8), s.mgt.rst = false ∧ s.tmOpen ↑k = false) ∧
    (∃ (s : State) (k : Fin 8), s.mgt.rst = false ∧ s.tmOpen ↑k = true ∧ s.tmTime ↑k ≤ (s.reach (s.tmTime ↑k)).now) :=
  ⟨⟨up, 5, by decide +kernel⟩,
   ⟨noEvtB, 4, by decide +kernel⟩,
   ⟨bnJ, 4, by decide +kernel⟩,
   ⟨bn {}, 4, by decide +kernel⟩,
   ⟨up, by decide +kernel⟩,
   ⟨noEvt, by decide +kernel⟩,
   ⟨up, 2, by decide +kernel⟩,
   ⟨noEvt, 2, by decide +kernel⟩,
   ⟨up.wr .EVT_TM_CTL_k 2 0 1, 2, by decide +kernel⟩,
   ⟨up, 2, by decide +kernel⟩,
   ⟨up.wr .EVT_TM_CTL_k 2 0 1, 2, by decide +kernel⟩⟩

/-- States that meet the hypotheses of `EventLog`, clause by clause. -/
theorem witness_EventLog :
    (∃ (s : State) (q : Fin 10) (k : Nat) (c : Cmd), s.Runs (↑q) k 2050 c ∧ (fld (wAt c.payload 1) 11 0 = 0 ∨ 2048 < fld (wAt c.payload 1)
      11 0 ∨ fld (wAt c.payload 1) 15 12 ≠ 0 ∨ fld (wAt c.payload 1) 31 17 ≠ 0 ∨ BitVec.toNat (join64 (wAt c.payload 2) (wAt c.payload 3))
      % 64 ≠ 0)) ∧
    (∃ (s : State) (q : Fin 10) (k : Nat) (c : Cmd), s.Runs (↑q) k 2050 c ∧ 1 ≤ fld (wAt c.payload 1) 11 0 ∧ fld (wAt c.payload 1) 11 0 ≤
      2048 ∧ fld (wAt c.payload 1) 15 12 = 0 ∧ fld (wAt c.payload 1) 31 17 = 0 ∧ BitVec.toNat (join64 (wAt c.payload 2) (wAt c.payload 3))
      % 64 = 0 ∧ (BitVec.toNat (s.ev.wr - if wAt c.payload 0 = 4294967295 then s.ev.rd else wAt c.payload 0) = 0 ∨ 2 ^ 31 < BitVec.toNat
      (s.ev.wr - if wAt c.payload 0 = 4294967295 then s.ev.rd else wAt c.payload 0))) ∧
    (∃ (s : State) (q : Fin 10) (k : Nat) (c : Cmd), s.Runs (↑q) k 2050 c ∧ 1 ≤ fld (wAt c.payload 1) 11 0 ∧ fld (wAt c.payload 1) 11 0 ≤
      2048 ∧ fld (wAt c.payload 1) 15 12 = 0 ∧ fld (wAt c.payload 1) 31 17 = 0 ∧ BitVec.toNat (join64 (wAt c.payload 2) (wAt c.payload 3))
      % 64 = 0 ∧ 1 ≤ BitVec.toNat (s.ev.wr - if wAt c.payload 0 = 4294967295 then s.ev.rd else wAt c.payload 0) ∧ BitVec.toNat (s.ev.wr -
      if wAt c.payload 0 = 4294967295 then s.ev.rd else wAt c.payload 0) ≤ 2 ^ 31) ∧
    (∃ (s : State), s.mgt.rst = false ∧ s.ev.chain = []) ∧
    (∃ (s : State) (x : ChainEv), s.mgt.rst = false ∧ firstChainEv s.ev.chain = some x ∧ s.evtOn = false) ∧
    (∃ (s : State) (x : ChainEv), s.mgt.rst = false ∧ firstChainEv s.ev.chain = some x ∧ s.evtOn = true) :=
  ⟨⟨on lg 3 clrb, 3, 0, (((on lg 3 clrb).q 3).find 0).getD anyCmd, by unfold State.Runs; decide +kernel⟩,
   ⟨on lg 3 clr0, 3, 0, (((on lg 3 clr0).q 3).find 0).getD anyCmd, by unfold State.Runs; decide +kernel⟩,
   ⟨on lg 3 clr, 3, 0, (((on lg 3 clr).q 3).find 0).getD anyCmd, by unfold State.Runs; decide +kernel⟩,
   ⟨on lg 3 clr, by decide +kernel⟩,
   ⟨chN, cev, by decide +kernel⟩,
   ⟨chE, cev, by decide +kernel⟩⟩

/-- States that meet the hypotheses of `CheckWindows`, clause by clause. -/
theorem witness_CheckWindows :
    (∃ (q : Fin 10) (k : Nat) (c : Cmd) (s : State), s.Runs (↑q) k 2051 c ∧ (fld (wAt c.payload 0) 7 5 ≠ 0 ∨ fld (wAt c.payload 0) 15 10 ≠
      0 ∨ fld (wAt c.payload 0) 31 17 ≠ 0 ∨ bit (wAt c.payload 0) 16 = false ∧ (fld (wAt c.payload 2) 31 16 ≠ 0 ∨ fld (wAt c.payload 3) 31
      30 ≠ 0 ∨ 800000000 ≤ fld (wAt c.payload 3) 29 0 ∨ wAt c.payload 4 = 0 ∨ mkTime (BitVec.toNat (wAt c.payload 1) + 2 ^ 32 * fld (wAt
      c.payload 2) 15 0) (fld (wAt c.payload 3) 29 0) 0 < s.now + usec 20))) ∧
    (∃ (q : Fin 10) (k : Nat) (c : Cmd) (s : State), s.Runs (↑q) k 2051 c ∧ fld (wAt c.payload 0) 7 5 = 0 ∧ fld (wAt c.payload 0) 15 10 =
      0 ∧ fld (wAt c.payload 0) 31 17 = 0 ∧ bit (wAt c.payload 0) 16 = false ∧ fld (wAt c.payload 2) 31 16 = 0 ∧ fld (wAt c.payload 3) 31
      30 = 0 ∧ fld (wAt c.payload 3) 29 0 < 800000000 ∧ wAt c.payload 4 ≠ 0 ∧ s.now + usec 20 ≤ (mkTime (BitVec.toNat (wAt c.payload 1) +
      2 ^ 32 * fld (wAt c.payload 2) 15 0) (fld (wAt c.payload 3) 29 0) 0) ∧ (s.win (4 * fld (wAt c.payload 0) 4 0 + fld (wAt c.payload 0)
      9 8)).shadow ≠ none) ∧
    (∃ (q : Fin 10) (k : Nat) (c : Cmd) (s : State), s.Runs (↑q) k 2051 c ∧ fld (wAt c.payload 0) 7 5 = 0 ∧ fld (wAt c.payload 0) 15 10 =
      0 ∧ fld (wAt c.payload 0) 31 17 = 0 ∧ bit (wAt c.payload 0) 16 = false ∧ fld (wAt c.payload 2) 31 16 = 0 ∧ fld (wAt c.payload 3) 31
      30 = 0 ∧ fld (wAt c.payload 3) 29 0 < 800000000 ∧ wAt c.payload 4 ≠ 0 ∧ s.now + usec 20 ≤ (mkTime (BitVec.toNat (wAt c.payload 1) +
      2 ^ 32 * fld (wAt c.payload 2) 15 0) (fld (wAt c.payload 3) 29 0) 0) ∧ (s.win (4 * fld (wAt c.payload 0) 4 0 + fld (wAt c.payload 0)
      9 8)).shadow = none ∧ (s.win (4 * fld (wAt c.payload 0) 4 0 + fld (wAt c.payload 0) 9 8)).st = CwSt.openw) ∧
    (∃ (q : Fin 10) (k : Nat) (c : Cmd) (s : State), s.Runs (↑q) k 2051 c ∧ fld (wAt c.payload 0) 7 5 = 0 ∧ fld (wAt c.payload 0) 15 10 =
      0 ∧ fld (wAt c.payload 0) 31 17 = 0 ∧ bit (wAt c.payload 0) 16 = false ∧ fld (wAt c.payload 2) 31 16 = 0 ∧ fld (wAt c.payload 3) 31
      30 = 0 ∧ fld (wAt c.payload 3) 29 0 < 800000000 ∧ wAt c.payload 4 ≠ 0 ∧ s.now + usec 20 ≤ (mkTime (BitVec.toNat (wAt c.payload 1) +
      2 ^ 32 * fld (wAt c.payload 2) 15 0) (fld (wAt c.payload 3) 29 0) 0) ∧ (s.win (4 * fld (wAt c.payload 0) 4 0 + fld (wAt c.payload 0)
      9 8)).shadow = none ∧ (s.win (4 * fld (wAt c.payload 0) 4 0 + fld (wAt c.payload 0) 9 8)).st ≠ CwSt.openw) ∧
    (∃ (q : Fin 10) (k : Nat) (c : Cmd) (s : State), s.Runs (↑q) k 2051 c ∧ fld (wAt c.payload 0) 7 5 = 0 ∧ fld (wAt c.payload 0) 15 10 =
      0 ∧ fld (wAt c.payload 0) 31 17 = 0 ∧ bit (wAt c.payload 0) 16 = true) ∧
    (∃ (c : Fin 32) (k : Fin 4) (s : State), s.mgt.rst = false ∧ ((s.win (4 * ↑c + ↑k)).st = CwSt.openw ∨ (s.win (4 * ↑c + ↑k)).shadow =
      none)) ∧
    (∃ (c : Fin 32) (k : Fin 4) (s : State) (x : CwSet), s.mgt.rst = false ∧ (s.win (4 * ↑c + ↑k)).st ≠ CwSt.openw ∧ (s.win (4 * ↑c +
      ↑k)).shadow = some x) :=
  ⟨⟨3, 0, (((on up 3 ccwb).q 3).find 0).getD anyCmd, on up 3 ccwb, by unfold State.Runs; decide +kernel⟩,
   ⟨3, 0, (((on (up.setWin 18 { shadow := some {} }) 3 ccw).q 3).find 0).getD anyCmd, on (up.setWin 18 { shadow := some {} }) 3 ccw,
      by unfold State.Runs; decide +kernel⟩,
   ⟨3, 0, (((on (up.setWin 18 { st := .openw }) 3 ccw).q 3).find 0).getD anyCmd, on (up.setWin 18 { st := .openw }) 3 ccw,
      by unfold State.Runs; decide +kernel⟩,
   ⟨3, 0, (((on (up.setWin 18 { st := .fail, done := 7 }) 3 ccw).q 3).find 0).getD anyCmd, on (up.setWin 18 { st := .fail, done := 7 }) 3
      ccw, by unfold State.Runs; decide +kernel⟩,
   ⟨3, 0, (((on (up.setWin 18 { st := .openw, shadow := some {} }) 3 ccd).q 3).find 0).getD anyCmd, on (up.setWin 18
      { st := .openw, shadow := some {} }) 3 ccd, by unfold State.Runs; decide +kernel⟩,
   ⟨4, 0, on up 3 ccwb, by decide +kernel⟩,
   ⟨4, 2, up.setWin 18 { st := .pass, shadow := some xw }, xw, by decide +kernel⟩⟩

/-- States that meet the hypotheses of `OutputProtection`, clause by clause (part 1). -/
theorem witness_OutputProtection_1 :
    (∃ (d : Fin 32) (s : State) (c0 : Int) (k g : Nat), s.mgt.rst = false ∧ (s.dac ↑d).mode = DacMode.ramp c0 k g) ∧
    (∃ (d : Fin 32) (s : State), s.mgt.rst = false ∧ ((s.dac ↑d).mode = DacMode.mid ∨ (s.dac ↑d).mode = DacMode.live)) ∧
    (∃ (d : Fin 32) (s : State), s.mgt.rst = false ∧ (s.dac ↑d).hold ≠ none) ∧
    (∃ (d : Fin 32) (s : State), s.mgt.rst = false ∧ (s.dac ↑d).hold = none) ∧
    (∃ (s : State), s.mgt.rst = false ∧ s.running 6 = true ∧ s.rb RegId.DAC_STATUS 0 0 1 = false) ∧
    (∃ (d : Fin 32) (s : State) (u15 : Bool) (f legP legN : Nat) (beyond : Bool), s.mgt.rst = false ∧ ↑d = (if u15 = true then 16 else 0)
      + f % 16 ∧ (beyond = true ↔ s.rf RegId.DAC_CFG_d (↑d) 0 5 4 < 3 ∧ 9 * (10000 * 2 ^ s.rf RegId.DAC_CFG_d (↑d) 0 5 4) ≤ 10 * max legP
      legN) ∧ (s.counting = false ∨ (s.adc (if u15 = true then 15 else 14)).refReady = false ∨ (s.dac ↑d).prot = Prot.off ∨ (s.dac
      ↑d).prot = Prot.fenced)) ∧
    (∃ (d : Fin 32) (s : State) (u15 : Bool) (f legP legN : Nat), s.mgt.rst = false ∧ ↑d = (if u15 = true then 16 else 0) + f % 16 ∧
      (false = true ↔ s.rf RegId.DAC_CFG_d (↑d) 0 5 4 < 3 ∧ 9 * (10000 * 2 ^ s.rf RegId.DAC_CFG_d (↑d) 0 5 4) ≤ 10 * max legP legN) ∧
      s.counting = true ∧ (s.adc (if u15 = true then 15 else 14)).refReady = true ∧ ((s.dac ↑d).prot = Prot.normal ∨ (s.dac ↑d).prot =
      Prot.retry)) ∧
    (∃ (d : Fin 32) (s : State) (u15 : Bool) (f legP legN : Nat), s.mgt.rst = false ∧ ↑d = (if u15 = true then 16 else 0) + f % 16 ∧ (true
      = true ↔ s.rf RegId.DAC_CFG_d (↑d) 0 5 4 < 3 ∧ 9 * (10000 * 2 ^ s.rf RegId.DAC_CFG_d (↑d) 0 5 4) ≤ 10 * max legP legN) ∧ s.counting
      = true ∧ (s.adc (if u15 = true then 15 else 14)).refReady = true ∧ ((s.dac ↑d).prot = Prot.normal ∨ (s.dac ↑d).prot = Prot.retry) ∧
      (s.dac ↑d).overs = 0) ∧
    (∃ (d : Fin 32) (s : State) (u15 : Bool) (f legP legN : Nat), s.mgt.rst = false ∧ ↑d = (if u15 = true then 16 else 0) + f % 16 ∧ (true
      = true ↔ s.rf RegId.DAC_CFG_d (↑d) 0 5 4 < 3 ∧ 9 * (10000 * 2 ^ s.rf RegId.DAC_CFG_d (↑d) 0 5 4) ≤ 10 * max legP legN) ∧ s.counting
      = true ∧ (s.adc (if u15 = true then 15 else 14)).refReady = true ∧ ((s.dac ↑d).prot = Prot.normal ∨ (s.dac ↑d).prot = Prot.retry) ∧
      (s.dac ↑d).overs ≠ 0 ∧ (s.dac ↑d).prot = Prot.normal) ∧
    (∃ (d : Fin 32) (s : State) (u15 : Bool) (f legP legN : Nat), s.mgt.rst = false ∧ ↑d = (if u15 = true then 16 else 0) + f % 16 ∧ (true
      = true ↔ s.rf RegId.DAC_CFG_d (↑d) 0 5 4 < 3 ∧ 9 * (10000 * 2 ^ s.rf RegId.DAC_CFG_d (↑d) 0 5 4) ≤ 10 * max legP legN) ∧ s.counting
      = true ∧ (s.adc (if u15 = true then 15 else 14)).refReady = true ∧ ((s.dac ↑d).prot = Prot.normal ∨ (s.dac ↑d).prot = Prot.retry) ∧
      (s.dac ↑d).overs ≠ 0 ∧ (s.dac ↑d).prot = Prot.retry) ∧
    (∃ (d : Fin 32) (s : State), s.mgt.rst = false ∧ (s.dac ↑d).prot = Prot.off) ∧
    (∃ (d : Fin 32) (s : State), s.mgt.rst = false ∧ (s.dac ↑d).prot ≠ Prot.off) :=
  ⟨⟨20, dd { mode := .ramp 5 3 2, code := 7 }, 5, 3, 2, by decide +kernel⟩,
   ⟨20, dd { mode := .live, code := 7 }, by decide +kernel⟩,
   ⟨20, dd { hold := some 5 }, by decide +kernel⟩,
   ⟨20, dd { mode := .ramp 5 3 2, code := 7 }, by decide +kernel⟩,
   ⟨dd { mode := .ramp 5 3 2, code := 7 }, by decide +kernel⟩,
   ⟨20, dd { mode := .ramp 5 3 2, code := 7 }, true, 4, 36000, 0, true, by decide +kernel⟩,
   ⟨20, mo { overs := 1 }, true, 4, 0, 0, by decide +kernel⟩,
   ⟨20, mo {}, true, 4, 36000, 0, by decide +kernel⟩,
   ⟨20, mo { overs := 1 }, true, 4, 36000, 0, by decide +kernel⟩,
   ⟨20, mo { overs := 1, prot := .retry }, true, 4, 36000, 0, by decide +kernel⟩,
   ⟨20, dd { prot := .off, retryAt := T }, by decide +kernel⟩,
   ⟨20, dd { mode := .ramp 5 3 2, code := 7 }, by decide +kernel⟩⟩

/-- States that meet the hypotheses of `OutputProtection`, clause by clause (part 2). -/
theorem witness_OutputProtection_2 :
    (∃ (d : Fin 32) (s : State), s.mgt.rst = false ∧ (s.dac ↑d).prot = Prot.retry) ∧
    (∃ (d : Fin 32) (s : State), s.mgt.rst = false ∧ (s.dac ↑d).prot ≠ Prot.retry) ∧
    (∃ (s : State) (w : Word), s.mgt.rst = false ∧ ∀ (e : Fin 32), bit w ↑e = true → (s.dac ↑e).prot = Prot.fenced) :=
  ⟨⟨20, mo { overs := 1, prot := .retry }, by decide +kernel⟩,
   ⟨20, dd { mode := .ramp 5 3 2, code := 7 }, by decide +kernel⟩,
   ⟨dd { prot := .fenced, overs := 1, code := 8, mode := .live }, 0x100000, by decide +kernel⟩⟩

/-- States that meet the hypotheses of `PatternSteps`, clause by clause. -/
theorem witness_PatternSteps :
    (∃ (s : State) (g : Fin 8) (seg t0 k : Nat), s.mgt.rst = false ∧ (s.grp ↑g).pat = some (seg, t0, k) ∧ s.groupDrives ↑g = true ∧ k <
      dCount (s.segDesc seg) ∧ (s.grp ↑g).patLost = false ∧ s.segSt seg = SegSt.valid) ∧
    (∃ (s : State) (g : Fin 8) (seg t0 k : Nat) (absent : Bool), s.mgt.rst = false ∧ (s.grp ↑g).pat = some (seg, t0, k) ∧ s.groupDrives ↑g
      = true ∧ k < dCount (s.segDesc seg) ∧ (absent = true ∨ (s.grp ↑g).patLost = true ∨ s.segSt seg ≠ SegSt.valid) ∧ (s.grp ↑g).episode =
      none) ∧
    (∃ (s : State) (g : Fin 8), s.mgt.rst = false ∧ ((s.grp ↑g).pat = none ∨ s.groupDrives ↑g = false ∨ ∃ (seg : Nat), ∃ (t0 : Nat), ∃ (k
      : Nat), (s.grp ↑g).pat = some (seg, t0, k) ∧ dCount (s.segDesc seg) ≤ k)) ∧
    (∃ (s : State) (k : Fin 32) (t : Nat), s.mgt.rst = false ∧ (s.pair ↑k).due = some t) ∧
    (∃ (s : State) (k : Fin 32), s.mgt.rst = false ∧ (s.pair ↑k).due = none) ∧
    (∃ (s : State) (m : Fin 16), s.mgt.rst = false ∧ (s.mrk ↑m).high = true) ∧
    (∃ (s : State) (m : Fin 16), s.mgt.rst = false ∧ (s.mrk ↑m).high = false) ∧
    (∃ (s : State), s.mgt.rst = false) :=
  ⟨⟨paG { pat := some (5, up.now, 1) }, 3, 5, up.now, 1, by decide +kernel⟩,
   ⟨paG { pat := some (5, up.now, 1) }, 3, 5, up.now, 1, true, by decide +kernel⟩,
   ⟨up, 3, by decide +kernel, .inl (by decide +kernel)⟩,
   ⟨up.setPair 3 { makeA := true, due := some T }, 3, T, by decide +kernel⟩,
   ⟨paG { pat := some (5, up.now, 1) }, 1, by decide +kernel⟩,
   ⟨up.setMrk 3 { high := true, until_ := T }, 3, by decide +kernel⟩,
   ⟨paG { pat := some (5, up.now, 1) }, 3, by decide +kernel⟩,
   ⟨paG { pat := some (5, up.now, 1) }, by decide +kernel⟩⟩

/-- States that meet the hypotheses of `PinProtection`, clause by clause. -/
theorem witness_PinProtection :
    (∃ (n : Fin 64) (s : State), s.mgt.rst = false ∧ (s.pinLevel ↑n = none ∨ (s.pin ↑n).keeper ≠ none)) ∧
    (∃ (n : Fin 64) (s : State), s.mgt.rst = false ∧ (s.pinLevel ↑n).isSome = true ∧ (s.pin ↑n).keeper = none ∧ (s.pin ↑n).prot =
      Prot.normal) ∧
    (∃ (n : Fin 64) (s : State), s.mgt.rst = false ∧ (s.pinLevel ↑n).isSome = true ∧ (s.pin ↑n).keeper = none ∧ (s.pin ↑n).prot =
      Prot.retry) ∧
    (∃ (n : Fin 64) (s : State), s.mgt.rst = false ∧ (s.pin ↑n).prot = Prot.off) ∧
    (∃ (n : Fin 64) (s : State), s.mgt.rst = false ∧ (s.pin ↑n).prot ≠ Prot.off) ∧
    (∃ (n : Fin 64) (s : State), s.mgt.rst = false ∧ (s.pin ↑n).prot = Prot.retry) ∧
    (∃ (n : Fin 64) (s : State), s.mgt.rst = false ∧ (s.pin ↑n).prot ≠ Prot.retry) ∧
    (∃ (s : State) (high : Bool) (w : Word), s.mgt.rst = false ∧ ∀ (m : Fin 64), decide (32 ≤ ↑m) = high → bit w (↑m % 32) = true → (s.pin
      ↑m).prot = Prot.fenced) :=
  ⟨⟨20, up, by decide +kernel⟩,
   ⟨20, pp {}, by decide +kernel⟩,
   ⟨20, pp { prot := .retry }, by decide +kernel⟩,
   ⟨20, pp { prot := .off, retryAt := T }, by decide +kernel⟩,
   ⟨20, up, by decide +kernel⟩,
   ⟨20, pp { prot := .retry }, by decide +kernel⟩,
   ⟨20, up, by decide +kernel⟩,
   ⟨pp { prot := .fenced }, false, 0x100000, by decide +kernel⟩⟩

end Events

namespace Time

def cts : Cmd := cmd 0x901 [2000, 3, 500, 0]
def tts : Nat := mkTime (2000 + 3 * 2^32) 500 0
def on3 (c : Cmd) (s : State := up) : State := on s 3 c
def cts1 : Cmd := cmd 0x901 [2000, 3, 500, 1]
def ctsb : Cmd := cmd 0x901 [2000, 3, 500, 2]
def cal : State := (up.wr .TB_CTL 0 0 0x4000).wr .TB_UTC_OFS 0 0 0x10025
def cc1 : Cmd := cmd 0x902 [0x00000000, 0x30140A, 500, 0]
def ccb : Cmd := cmd 0x902 [0x010107E8, 0x30140A, 500, 2]
def cg : Cmd := cmd 0x903 [0]
def cg1 : Cmd := cmd 0x903 [1]
def cgb : Cmd := cmd 0x903 [2]
def pw : State := { on3 (begun cts1) with tb := { up.tb with ppsWait := [⟨3, 0, tts⟩] } }
def pwT : State := { on3 { begun cts1 with timer := some 7 } with tb := { up.tb with ppsWait := [⟨3, 0, tts⟩] } }
def nolock : State := { up with tb := { up.tb with lock := false } }
def hold : State := { up with tb := { up.tb with holdover := true } }
def ntl : State := up.wr .SYS_EN_STATUS 0 0 0xFFFFFFFE
def ap (i : Word := 0x3D) : State := (banded up 0).modPll 0 fun x => { x with applyAt := some (up.now + 4444), shInt := i }
def gw : Nat := 8188
def ul (b : Nat) : State := (banded up 0).modPll 0 fun x => { x with bads := b }

/-- States that meet the hypotheses of `SettingTime`, clause by clause. -/
theorem witness_SettingTime :
    (∃ (q : Fin 10) (k : Nat) (c : Cmd) (s : State) (command : Instr) (time st : Nat), (command = Instr.timeSet q k ∧ s.Runs (↑q) k 2305 c
      ∧ fld (wAt c.payload 1) 31 16 = 0 ∧ time = mkTime (BitVec.toNat (wAt c.payload 0) + 2 ^ 32 * fld (wAt c.payload 1) 15 0) (fld (wAt
      c.payload 2) 29 0) 0 ∨ command = Instr.timeSetCalendar q k ∧ s.Runs (↑q) k 2306 c ∧ s.rb RegId.TB_CTL 0 0 14 = true ∧ fld (wAt
      c.payload 1) 31 24 = 0 ∧ ∃ (secs : Nat), s.calendarSecs (wAt c.payload 0) (wAt c.payload 1) = some secs ∧ time = mkTime secs (fld
      (wAt c.payload 2) 29 0) 0) ∧ fld (wAt c.payload 2) 29 0 < 800000000 ∧ fld (wAt c.payload 2) 31 30 = 0 ∧ BitVec.toNat (wAt c.payload
      3) ≤ 1 ∧ s.timeSetRefused = some st) ∧
    (∃ (q : Fin 10) (k : Nat) (c : Cmd) (s : State) (command : Instr) (time : Nat), (command = Instr.timeSet q k ∧ s.Runs (↑q) k 2305 c ∧
      fld (wAt c.payload 1) 31 16 = 0 ∧ time = mkTime (BitVec.toNat (wAt c.payload 0) + 2 ^ 32 * fld (wAt c.payload 1) 15 0) (fld (wAt
      c.payload 2) 29 0) 0 ∨ command = Instr.timeSetCalendar q k ∧ s.Runs (↑q) k 2306 c ∧ s.rb RegId.TB_CTL 0 0 14 = true ∧ fld (wAt
      c.payload 1) 31 24 = 0 ∧ ∃ (secs : Nat), s.calendarSecs (wAt c.payload 0) (wAt c.payload 1) = some secs ∧ time = mkTime secs (fld
      (wAt c.payload 2) 29 0) 0) ∧ fld (wAt c.payload 2) 29 0 < 800000000 ∧ fld (wAt c.payload 2) 31 30 = 0 ∧ BitVec.toNat (wAt c.payload
      3) ≤ 1 ∧ s.timeSetRefused = none ∧ wAt c.payload 3 = 0) ∧
    (∃ (q : Fin 10) (k : Nat) (c : Cmd) (s : State) (command : Instr) (time : Nat), (command = Instr.timeSet q k ∧ s.Runs (↑q) k 2305 c ∧
      fld (wAt c.payload 1) 31 16 = 0 ∧ time = mkTime (BitVec.toNat (wAt c.payload 0) + 2 ^ 32 * fld (wAt c.payload 1) 15 0) (fld (wAt
      c.payload 2) 29 0) 0 ∨ command = Instr.timeSetCalendar q k ∧ s.Runs (↑q) k 2306 c ∧ s.rb RegId.TB_CTL 0 0 14 = true ∧ fld (wAt
      c.payload 1) 31 24 = 0 ∧ ∃ (secs : Nat), s.calendarSecs (wAt c.payload 0) (wAt c.payload 1) = some secs ∧ time = mkTime secs (fld
      (wAt c.payload 2) 29 0) 0) ∧ fld (wAt c.payload 2) 29 0 < 800000000 ∧ fld (wAt c.payload 2) 31 30 = 0 ∧ BitVec.toNat (wAt c.payload
      3) ≤ 1 ∧ s.timeSetRefused = none ∧ wAt c.payload 3 = 1) ∧
    (∃ (q : Fin 10) (k : Nat) (c : Cmd) (s : State), s.Runs (↑q) k 2306 c ∧ s.rb RegId.TB_CTL 0 0 14 = true ∧ fld (wAt c.payload 1) 31 24
      = 0 ∧ fld (wAt c.payload 2) 29 0 < 800000000 ∧ fld (wAt c.payload 2) 31 30 = 0 ∧ BitVec.toNat (wAt c.payload 3) ≤ 1 ∧ s.calendarSecs
      (wAt c.payload 0) (wAt c.payload 1) = none) ∧
    (∃ (q : Fin 10) (k : Nat) (c : Cmd) (s : State), s.Runs (↑q) k 2305 c ∧ ((800000000 ≤ fld (wAt c.payload 2) 29 0 ∨ fld (wAt c.payload
      2) 31 30 ≠ 0 ∨ 1 < BitVec.toNat (wAt c.payload 3)) ∨ fld (wAt c.payload 1) 31 16 ≠ 0)) ∧
    (∃ (q : Fin 10) (k : Nat) (c : Cmd) (s : State), s.Runs (↑q) k 2306 c ∧ ((800000000 ≤ fld (wAt c.payload 2) 29 0 ∨ fld (wAt c.payload
      2) 31 30 ≠ 0 ∨ 1 < BitVec.toNat (wAt c.payload 3)) ∨ fld (wAt c.payload 1) 31 24 ≠ 0 ∨ s.rb RegId.TB_CTL 0 0 14 = false)) ∧
    (∃ (q : Fin 10) (k : Nat) (c : Cmd) (s : State), s.Runs (↑q) k 2307 c ∧ wAt c.payload 0 = 0) ∧
    (∃ (q : Fin 10) (k : Nat) (c : Cmd) (s : State), s.Runs (↑q) k 2307 c ∧ wAt c.payload 0 = 1) ∧
    (∃ (q : Fin 10) (k : Nat) (c : Cmd) (s : State), s.Runs (↑q) k 2307 c ∧ 1 < BitVec.toNat (wAt c.payload 0)) ∧
    (∃ (q : Fin 10) (c : Cmd) (s : State) (w : PpsWait), w ∈ s.tb.ppsWait ∧ w.q = ↑q ∧ s.mgt.rst = false ∧ s.fwReady = true ∧ s.Waits (↑q)
      w.k ∧ (s.q ↑q).find w.k = some c ∧ (∀ (i : Nat), (∀ (j : SegJob), (s.seg i).job = some j → ¬(j.q = ↑q ∧ j.k = w.k)) ∧ (∀ (j :
      SegJob), j ∈ (s.seg i).waiting → ¬(j.q = ↑q ∧ j.k = w.k)) ∧ ¬(↑q, w.k) ∈ (s.seg i).verifies) ∧ c.timer = none) ∧
    (∃ (q : Fin 10) (c : Cmd) (s : State) (w : PpsWait) (a : Nat), w ∈ s.tb.ppsWait ∧ w.q = ↑q ∧ s.mgt.rst = false ∧ s.fwReady = true ∧
      s.Waits (↑q) w.k ∧ (s.q ↑q).find w.k = some c ∧ (∀ (i : Nat), (∀ (j : SegJob), (s.seg i).job = some j → ¬(j.q = ↑q ∧ j.k = w.k)) ∧
      (∀ (j : SegJob), j ∈ (s.seg i).waiting → ¬(j.q = ↑q ∧ j.k = w.k)) ∧ ¬(↑q, w.k) ∈ (s.seg i).verifies) ∧ c.timer = some a) ∧
    (∃ (q : Fin 10) (k : Nat) (s : State), ∀ (w : PpsWait), w ∈ s.tb.ppsWait → w.q ≠ ↑q ∨ w.k ≠ k) :=
  ⟨⟨3, 0, cts, on3 cts (up.wr .Gn_CTL 3 0 1), Instr.timeSet 3 0, tts, (on3 cts (up.wr .Gn_CTL 3 0 1)).timeSetRefused.getD 0,
      by unfold State.Runs; decide +kernel⟩,
   ⟨3, 0, cts, on3 cts, Instr.timeSet 3 0, tts, by unfold State.Runs; decide +kernel⟩,
   ⟨3, 0, cts1, on3 cts1, Instr.timeSet 3 0, tts, by unfold State.Runs; decide +kernel⟩,
   ⟨3, 0, cc1, on3 cc1 cal, by unfold State.Runs; decide +kernel⟩,
   ⟨3, 0, ctsb, on3 ctsb, by unfold State.Runs; decide +kernel⟩,
   ⟨3, 0, ccb, on3 ccb cal, by unfold State.Runs; decide +kernel⟩,
   ⟨3, 0, cg, on3 cg cal, by unfold State.Runs; decide +kernel⟩,
   ⟨3, 0, cg1, on3 cg1 cal, by unfold State.Runs; decide +kernel⟩,
   ⟨3, 0, cgb, on3 cgb cal, by unfold State.Runs; decide +kernel⟩,
   ⟨3, begun cts1, pw, ⟨3, 0, tts⟩,
      by and_intros <;> first | decide +kernel | exact waits_of (by decide +kernel) | exact no_job (by decide +kernel)⟩,
   ⟨3, { begun cts1 with timer := some 7 }, pwT, ⟨3, 0, tts⟩, 7,
      by and_intros <;> first | decide +kernel | exact waits_of (by decide +kernel) | exact no_job (by decide +kernel)⟩,
   ⟨3, 0, on3 cts (up.wr .Gn_CTL 3 0 1), by decide +kernel⟩⟩

/-- States that meet the hypotheses of `TimebaseEvents`, clause by clause (part 1). -/
theorem witness_TimebaseEvents_1 :
    (∃ (s : State), s.mgt.rst = false) ∧
    (∃ (s : State), s.mgt.rst = false ∧ s.running 1 = true ∧ s.tb.lock = false) ∧
    (∃ (s : State), s.mgt.rst = false ∧ (s.running 1 = false ∨ s.tb.lock = true)) ∧
    (∃ (s : State), s.mgt.rst = false ∧ s.running 1 = true ∧ s.tb.lock = true ∧ ∀ (g : Fin 8), s.grpRunning ↑g = false) ∧
    (∃ (s : State) (w : PpsWait), s.mgt.rst = false ∧ s.running 1 = true ∧ s.tb.lock = true ∧ (∀ (g : Fin 8), s.grpRunning ↑g = false) ∧
      s.tb.ppsWait = [w] ∧ s.Waits w.q w.k) ∧
    (∃ (s : State), s.mgt.rst = false ∧ (s.running 1 = false ∨ s.tb.lock = false)) ∧
    (∃ (s : State), s.mgt.rst = false ∧ s.running 0 = true ∧ s.tb.holdover = false) ∧
    (∃ (s : State), s.mgt.rst = false ∧ (s.running 0 = false ∨ s.tb.holdover = true)) ∧
    (∃ (s : State), s.mgt.rst = false ∧ s.tb.holdover = true) ∧
    (∃ (s : State), s.mgt.rst = false ∧ s.tb.holdover = false) ∧
    (∃ (s : State) (d : Int), s.mgt.rst = false ∧ s.tb.stepPending = some d ∧ s.counting = true ∧ (∀ (g : Fin 8), s.rb RegId.Gn_CTL (↑g) 0
      0 = false) ∧ s.tb.holdover = false) ∧
    (∃ (s : State), s.mgt.rst = false ∧ (s.tb.stepPending = none ∨ s.counting = false ∨ (∃ (g : Fin 8), s.rb RegId.Gn_CTL (↑g) 0 0 = true)
      ∨ s.tb.holdover = true)) :=
  ⟨⟨nolock, by decide +kernel⟩,
   ⟨nolock, by decide +kernel⟩,
   ⟨up, by decide +kernel⟩,
   ⟨up, by decide +kernel⟩,
   ⟨pw, ⟨3, 0, tts⟩, by and_intros <;> first | decide +kernel | exact waits_of (by decide +kernel)⟩,
   ⟨nolock, by decide +kernel⟩,
   ⟨nolock, by decide +kernel⟩,
   ⟨hold, by decide +kernel⟩,
   ⟨hold, by decide +kernel⟩,
   ⟨nolock, by decide +kernel⟩,
   ⟨{ up with tb := { up.tb with stepPending := some (-500) } }, -500, by decide +kernel⟩,
   ⟨nolock, by decide +kernel⟩⟩

/-- States that meet the hypotheses of `TimebaseEvents`, clause by clause (part 2). -/
theorem witness_TimebaseEvents_2 :
    (∃ (s : State), s.mgt.rst = false ∧ s.ppsOutOn = true ∧ s.tb.ppsOut = false) ∧
    (∃ (s : State), s.mgt.rst = false ∧ (s.ppsOutOn = false ∨ s.tb.ppsOut = true)) ∧
    (∃ (s : State), s.mgt.rst = false ∧ s.tb.ppsOut = true) ∧
    (∃ (s : State), s.mgt.rst = false ∧ s.tb.ppsOut = false) ∧
    (∃ (s : State) (rise : Bool), s.mgt.rst = false ∧ (s.counting = false ∨ rise = s.rb RegId.TB_CTL 0 0 9)) ∧
    (∃ (s : State) (rise : Bool), s.mgt.rst = false ∧ s.counting = true ∧ rise ≠ s.rb RegId.TB_CTL 0 0 9 ∧ s.running 0 = false ∧
      s.tb.ppsWait = []) ∧
    (∃ (s : State) (rise : Bool), s.mgt.rst = false ∧ s.counting = true ∧ rise ≠ s.rb RegId.TB_CTL 0 0 9 ∧ s.running 0 = true ∧ s.rf
      RegId.TB_CTL 0 0 2 0 ≠ 3 ∧ s.tb.ppsWait = []) ∧
    (∃ (s : State) (rise : Bool), s.mgt.rst = false ∧ s.counting = true ∧ rise ≠ s.rb RegId.TB_CTL 0 0 9 ∧ s.running 0 = true ∧ s.rf
      RegId.TB_CTL 0 0 2 0 = 3 ∧ s.tb.holdover = false ∧ s.tb.ppsWait = []) ∧
    (∃ (s : State) (rise : Bool) (w : PpsWait), s.mgt.rst = false ∧ s.counting = true ∧ rise ≠ s.rb RegId.TB_CTL 0 0 9 ∧ s.tb.ppsWait =
      [w] ∧ s.Waits w.q w.k ∧ ∀ (g : Fin 8), s.rb RegId.Gn_CTL (↑g) 0 0 = false) :=
  ⟨⟨up.wr .TB_CTL 0 0 0x100, by decide +kernel⟩,
   ⟨nolock, by decide +kernel⟩,
   ⟨{ up with tb := { up.tb with ppsOut := true } }, by decide +kernel⟩,
   ⟨nolock, by decide +kernel⟩,
   ⟨nolock, true, by decide +kernel⟩,
   ⟨ntl, true, by decide +kernel⟩,
   ⟨up, true, by decide +kernel⟩,
   ⟨up.wr .TB_CTL 0 0 3, true, by decide +kernel⟩,
   ⟨pw, true, ⟨3, 0, tts⟩, by and_intros <;> first | decide +kernel | exact waits_of (by decide +kernel)⟩⟩

/-- States that meet the hypotheses of `Synthesisers`, clause by clause (part 1). -/
theorem witness_Synthesisers_1 :
    (∃ (x : Fin 2) (s : State) (v : Word), s.mgt.rst = false ∧ bit v 0 = true ∧ (s.pll ↑x).applyAt = none ∧ s.applyOk ↑x = true) ∧
    (∃ (x : Fin 2) (s : State) (v : Word), s.mgt.rst = false ∧ bit v 0 = true ∧ (s.pll ↑x).applyAt = none ∧ s.applyOk ↑x = false) ∧
    (∃ (x : Fin 2) (s : State) (v : Word), s.mgt.rst = false ∧ bit v 0 = true ∧ (s.pll ↑x).applyAt ≠ none) ∧
    (∃ (x : Fin 2) (s : State) (from_ : Nat), s.mgt.rst = false ∧ (s.pll ↑x).applyAt = some from_ ∧ s.counting = true ∧ ((s.reach ((from_
      + 2047) / 2048 * 2048)).setPll (↑x) ({ s.pll ↑x with  })).applyOk ↑x = true ∧ s.anyOn ↑x = true) ∧
    (∃ (x : Fin 2) (s : State) (from_ : Nat), s.mgt.rst = false ∧ (s.pll ↑x).applyAt = some from_ ∧ s.counting = true ∧ ((s.reach ((from_
      + 2047) / 2048 * 2048)).setPll (↑x) ({ s.pll ↑x with  })).applyOk ↑x = false) ∧
    (∃ (x : Fin 2) (s : State), s.mgt.rst = false ∧ ((s.pll ↑x).applyAt = none ∨ s.counting = false)) ∧
    (∃ (x : Fin 2) (s : State), s.mgt.rst = false ∧ s.pllRunning ↑x = true ∧ s.tb.lock = true ∧ (s.pll ↑x).lock = false) ∧
    (∃ (x : Fin 2) (s : State), s.mgt.rst = false ∧ (s.pllRunning ↑x = false ∨ s.tb.lock = false ∨ (s.pll ↑x).lock = true)) ∧
    (∃ (x : Fin 2) (s : State), s.mgt.rst = false ∧ (s.pllRunning ↑x = false ∨ (s.pll ↑x).lock = false ∨ s.now < (s.pll ↑x).suspend)) ∧
    (∃ (x : Fin 2) (s : State) (count : Nat), s.mgt.rst = false ∧ s.pllRunning ↑x = true ∧ (s.pll ↑x).lock = true ∧ (s.pll ↑x).suspend ≤
      s.now ∧ s.goodWindow (↑x) count = true) ∧
    (∃ (x : Fin 2) (s : State) (count : Nat), s.mgt.rst = false ∧ s.pllRunning ↑x = true ∧ (s.pll ↑x).lock = true ∧ (s.pll ↑x).suspend ≤
      s.now ∧ s.goodWindow (↑x) count = false ∧ (s.pll ↑x).bads = 0) ∧
    (∃ (x : Fin 2) (s : State) (count : Nat), s.mgt.rst = false ∧ s.pllRunning ↑x = true ∧ (s.pll ↑x).lock = true ∧ (s.pll ↑x).suspend ≤
      s.now ∧ s.goodWindow (↑x) count = false ∧ (s.pll ↑x).bads ≠ 0 ∧ ∀ (g : Fin 8), s.grpRunning ↑g = true → s.grpPll ↑g = ↑x → (s.grp
      ↑g).st.plays = true) :=
  ⟨⟨0, banded up 0, 1, by decide +kernel⟩,
   ⟨0, (banded up 0).modPll 0 fun x => { x with shInt := 3 }, 1, by decide +kernel⟩,
   ⟨0, (banded up 0).modPll 0 fun x => { x with applyAt := some 3 }, 1, by decide +kernel⟩,
   ⟨0, (ap 0x3C).setGrp 3 { st := .running, n := 5, times := [up.now] }, up.now + 4444, by decide +kernel⟩,
   ⟨0, ap 3, up.now + 4444, by decide +kernel⟩,
   ⟨0, banded up 0, by decide +kernel⟩,
   ⟨0, up, by decide +kernel⟩,
   ⟨0, banded up 0, by decide +kernel⟩,
   ⟨0, up, by decide +kernel⟩,
   ⟨0, banded up 0, gw, by decide +kernel⟩,
   ⟨0, banded up 0, 0, by decide +kernel⟩,
   ⟨0, ul 1, 0, by decide +kernel⟩⟩

/-- States that meet the hypotheses of `Synthesisers`, clause by clause (part 2). -/
theorem witness_Synthesisers_2 :
    (∃ (s : State) (n : Fin 4) (on : Bool), s.mgt.rst = false ∧ s.rb RegId.CKOUT_CTLn (↑n) 0 0 ≠ on) :=
  ⟨banded up 0, 2, true, by decide +kernel⟩

end Time

namespace Network

def on3 (c : Cmd) (s : State := up) : State := on s 3 c
def svw (st : Nat := 5) (en : Nat := 1) (n : Nat := 2) (port : Nat := 1) : List Word :=
  [mkW (st + en*256 + port*4096 + 0*65536 + n * 2^20 + 2^24), 0x010CCD01, 0x40000004, 0x5001, 7, 4, 0x41424344,0,0,0,0,0,0,0,0] ++ List.replicate 8 0
def sc : Cmd := cmd 0x701 (svw)
def sc0 : Cmd := cmd 0x701 (svw 5 1 7)
def scd : Cmd := cmd 0x701 (svw 5 0)
def svS (run : Bool) (buf : List SvInst := []) : State := up.setSv 5 { cfg := svw, en := true, run := run, inst := 4000 * 1001, buf := buf }
def svh (st : Nat) : List Word := (svw st 1 1).set 0 (mkW (st + 256 + 4096 + 3 * 65536 + 2 ^ 20 + 2 ^ 24))
def heavy : State := (List.range 8).foldl (fun s i => s.setSv (6 + i) { cfg := svh (6 + i), en := true }) (up.wr .NET_Pp_CTL 1 0 2)
def sch : Cmd := cmd 0x701 (svh 5)
def gw (d en : Nat) (nb : Nat := 2) : List Word := [mkW (d + en*256 + 0xF000 + nb * 2^24), 0x010CCD01, 0x10010004, crc32c [1,2,3], 9, 0x01010000, 0,0,0]
def gc : Cmd := cmd 0x702 (gw 7 1)
def gcb : Cmd := cmd 0x702 (gw 7 1 9)
def gS (st : Nat) : State := up.setGs 7 { cfg := gw 7 1, st := st, bools := [true], stNum := 5, sqNum := 6, expires := up.now + 100 }
def pw (m : Nat := 0) (en : Nat := 1) (thr : Nat := 1000): List Word := [mkW (2 + en * 16 + m * 256), 0,0,0,0,mkW thr]
def pc : Cmd := cmd 0x703 (pw)
def pcm : Cmd := cmd 0x703 (pw 1)
def pcb : Cmd := cmd 0x703 (pw 0 1 0)
def ptS (m : Bool := false) (mas : Option W64 := some 5) (good bad : Nat := 0) (lock : Bool := false) : State :=
  ({ up with ptp := { cfg := pw (if m then 1 else 0), run := true, st := 8, master := mas, good := good, bad := bad, lock := lock } }).setNetp 2 { run := true, link := true }
def noTime : State := { up with tb := { up.tb with timeValid := false } }
def np (run link : Bool) (s : State := up) : State := s.setNetp 2 { run := run, link := link }
def svr (up1 : Bool) : State := (svS true).setNetp 1 { run := true, link := up1 }
def gf (st sq : Nat) (nds : Bool := false) : GooseFrame := { port := 3, dst := (bytesOf [0x010CCD01, 0x10010004]).take 6, appid := 0x1001, ref := [1,2,3], parses := true, sim := false, confRev := 9, ndsCom := nds, stNum := st, sqNum := sq, ttl := 3, members := [.item (.bool 1), .item .other] ++ List.replicate 0xFF (.item (.bool 3)) ++ [.struct [.bool 0]] }
def gU (st : Nat) : State := (gS st).setNetp 3 { run := true, link := true }
def gw2 : List Word := (gw 7 1).set 5 0x00020000
def gw3 : List Word := gw2.set 0 (gw2.getD 0 0 ||| 0x10000)
def gV (st : Nat) : State := (gU st).modGs 7 fun x => { x with cfg := gw2 }
def gV3 (st : Nat) : State := (gU st).modGs 7 fun x => { x with cfg := gw3 }
def gbs : List Bool := (gooseBools (gf 5 6) gw2).getD []
def svg : State := ((((svr true).setGrp 3 { st := .running, n := 5, times := [up.now - 1000] }).wr .CHn_CTL 0 0 0x31).setChan 0 { run := true, lastT := up.now - 1000 }).wr .OUT_SV_SRC_s_q 5 0 0x80000000

/-- States that meet the hypotheses of `NetworkConfiguration`, clause by clause (part 1). -/
theorem witness_NetworkConfiguration_1 :
    (∃ (q : Fin 10) (k : Nat) (c : Cmd) (s : State), s.Runs (↑q) k 1793 c ∧ svConfigOk c.payload = false) ∧
    (∃ (q : Fin 10) (k : Nat) (c : Cmd) (s : State), s.Runs (↑q) k 1793 c ∧ svConfigOk c.payload = true ∧ bit (wAt c.payload 0) 8 = true ∧
      (s.sv (fld (wAt c.payload 0) 3 0)).en = true) ∧
    (∃ (q : Fin 10) (k : Nat) (c : Cmd) (s : State), s.Runs (↑q) k 1793 c ∧ svConfigOk c.payload = true ∧ bit (wAt c.payload 0) 8 = true ∧
      (s.sv (fld (wAt c.payload 0) 3 0)).en = false ∧ s.svLoadOk (fld (wAt c.payload 0) 3 0) c.payload = false) ∧
    (∃ (q : Fin 10) (k : Nat) (c : Cmd) (s : State), s.Runs (↑q) k 1793 c ∧ svConfigOk c.payload = true ∧ (bit (wAt c.payload 0) 8 = true
      → (s.sv (fld (wAt c.payload 0) 3 0)).en = false ∧ s.svLoadOk (fld (wAt c.payload 0) 3 0) c.payload = true) ∧ (s.sv (fld (wAt
      c.payload 0) 3 0)).run = true ∧ (s.sv (fld (wAt c.payload 0) 3 0)).buf ≠ []) ∧
    (∃ (q : Fin 10) (k : Nat) (c : Cmd) (s : State), s.Runs (↑q) k 1793 c ∧ svConfigOk c.payload = true ∧ (bit (wAt c.payload 0) 8 = true
      → (s.sv (fld (wAt c.payload 0) 3 0)).en = false ∧ s.svLoadOk (fld (wAt c.payload 0) 3 0) c.payload = true) ∧ ((s.sv (fld (wAt
      c.payload 0) 3 0)).run = false ∨ (s.sv (fld (wAt c.payload 0) 3 0)).buf = [])) ∧
    (∃ (q : Fin 10) (k : Nat) (c : Cmd) (s : State), s.Runs (↑q) k 1793 c ∧ svConfigOk c.payload = true ∧ (bit (wAt c.payload 0) 8 = true
      → (s.sv (fld (wAt c.payload 0) 3 0)).en = false ∧ s.svLoadOk (fld (wAt c.payload 0) 3 0) c.payload = true) ∧ bit (wAt c.payload 0) 8
      = (s.sv (fld (wAt c.payload 0) 3 0)).en) ∧
    (∃ (q : Fin 10) (k : Nat) (c : Cmd) (s : State), s.Runs (↑q) k 1794 c ∧ gooseSubOk c.payload = false) ∧
    (∃ (q : Fin 10) (k : Nat) (c : Cmd) (s : State), s.Runs (↑q) k 1794 c ∧ gooseSubOk c.payload = true ∧ bit (wAt c.payload 0) 8 = true ∧
      (s.gs (fld (wAt c.payload 0) 5 0)).st ≠ 0) ∧
    (∃ (q : Fin 10) (k : Nat) (c : Cmd) (s : State), s.Runs (↑q) k 1794 c ∧ gooseSubOk c.payload = true ∧ (bit (wAt c.payload 0) 8 = true
      → (s.gs (fld (wAt c.payload 0) 5 0)).st = 0)) ∧
    (∃ (q : Fin 10) (k : Nat) (ok : Prop) (c : Cmd) (s : State), s.Runs (↑q) k 1795 c ∧ (ok ↔ extraBits (wAt c.payload 0) 2130776339 =
      false ∧ extraBits (wAt c.payload 1) 32767 = false ∧ extraBits (wAt c.payload 3) 67108863 = false ∧ 1 ≤ BitVec.toNat (wAt c.payload
      5) ∧ BitVec.toNat (wAt c.payload 5) ≤ 1000000 ∧ (bit (wAt c.payload 0) 8 = true → s.rf RegId.TB_CTL 0 0 2 0 ≠ 2)) ∧ ¬ok) ∧
    (∃ (q : Fin 10) (k : Nat) (ok : Prop) (c : Cmd) (s : State), s.Runs (↑q) k 1795 c ∧ (ok ↔ extraBits (wAt c.payload 0) 2130776339 =
      false ∧ extraBits (wAt c.payload 1) 32767 = false ∧ extraBits (wAt c.payload 3) 67108863 = false ∧ 1 ≤ BitVec.toNat (wAt c.payload
      5) ∧ BitVec.toNat (wAt c.payload 5) ≤ 1000000 ∧ (bit (wAt c.payload 0) 8 = true → s.rf RegId.TB_CTL 0 0 2 0 ≠ 2)) ∧ ok ∧ s.rb
      RegId.SYS_LOCK 0 0 7 = true) ∧
    (∃ (q : Fin 10) (k : Nat) (ok : Prop) (c : Cmd) (s : State), s.Runs (↑q) k 1795 c ∧ (ok ↔ extraBits (wAt c.payload 0) 2130776339 =
      false ∧ extraBits (wAt c.payload 1) 32767 = false ∧ extraBits (wAt c.payload 3) 67108863 = false ∧ 1 ≤ BitVec.toNat (wAt c.payload
      5) ∧ BitVec.toNat (wAt c.payload 5) ≤ 1000000 ∧ (bit (wAt c.payload 0) 8 = true → s.rf RegId.TB_CTL 0 0 2 0 ≠ 2)) ∧ ok ∧ s.rb
      RegId.SYS_LOCK 0 0 7 = false ∧ s.ptp.run = true) :=
  ⟨⟨3, 0, (((on3 sc0).q 3).find 0).getD anyCmd, on3 sc0, by unfold State.Runs; decide +kernel⟩,
   ⟨3, 0, (((on3 sc (svS true)).q 3).find 0).getD anyCmd, on3 sc (svS true), by unfold State.Runs; decide +kernel⟩,
   ⟨3, 0, (((on3 sch heavy).q 3).find 0).getD anyCmd, on3 sch heavy, by unfold State.Runs; decide +kernel⟩,
   ⟨3, 0, (((on3 scd (svS true [⟨1,[],0⟩])).q 3).find 0).getD anyCmd, on3 scd (svS true [⟨1,[],0⟩]),
      by unfold State.Runs; decide +kernel⟩,
   ⟨3, 0, (((on3 sc).q 3).find 0).getD anyCmd, on3 sc, by unfold State.Runs; decide +kernel⟩,
   ⟨3, 0, (((on3 scd).q 3).find 0).getD anyCmd, on3 scd, by unfold State.Runs; decide +kernel⟩,
   ⟨3, 0, (((on3 gcb).q 3).find 0).getD anyCmd, on3 gcb, by unfold State.Runs; decide +kernel⟩,
   ⟨3, 0, (((on3 gc (gS 2)).q 3).find 0).getD anyCmd, on3 gc (gS 2), by unfold State.Runs; decide +kernel⟩,
   ⟨3, 0, (((on3 gc (gS 0)).q 3).find 0).getD anyCmd, on3 gc (gS 0), by unfold State.Runs; decide +kernel⟩,
   ⟨3, 0, False, (((on3 pcb).q 3).find 0).getD anyCmd, on3 pcb, by unfold State.Runs; decide +kernel⟩,
   ⟨3, 0, True, (((on3 pc (up.wr .SYS_LOCK 0 0 0x80)).q 3).find 0).getD anyCmd, on3 pc (up.wr .SYS_LOCK 0 0 0x80),
      by unfold State.Runs; decide +kernel⟩,
   ⟨3, 0, True, (((on3 pc ptS).q 3).find 0).getD anyCmd, on3 pc ptS, by unfold State.Runs; decide +kernel⟩⟩

/-- States that meet the hypotheses of `NetworkConfiguration`, clause by clause (part 2). -/
theorem witness_NetworkConfiguration_2 :
    (∃ (q : Fin 10) (k : Nat) (ok : Prop) (c : Cmd) (s : State), s.Runs (↑q) k 1795 c ∧ (ok ↔ extraBits (wAt c.payload 0) 2130776339 =
      false ∧ extraBits (wAt c.payload 1) 32767 = false ∧ extraBits (wAt c.payload 3) 67108863 = false ∧ 1 ≤ BitVec.toNat (wAt c.payload
      5) ∧ BitVec.toNat (wAt c.payload 5) ≤ 1000000 ∧ (bit (wAt c.payload 0) 8 = true → s.rf RegId.TB_CTL 0 0 2 0 ≠ 2)) ∧ ok ∧ s.rb
      RegId.SYS_LOCK 0 0 7 = false ∧ s.ptp.run = false ∧ bit (wAt c.payload 0) 8 = true ∧ s.tb.timeValid = false) ∧
    (∃ (q : Fin 10) (k : Nat) (ok : Prop) (c : Cmd) (s : State), s.Runs (↑q) k 1795 c ∧ (ok ↔ extraBits (wAt c.payload 0) 2130776339 =
      false ∧ extraBits (wAt c.payload 1) 32767 = false ∧ extraBits (wAt c.payload 3) 67108863 = false ∧ 1 ≤ BitVec.toNat (wAt c.payload
      5) ∧ BitVec.toNat (wAt c.payload 5) ≤ 1000000 ∧ (bit (wAt c.payload 0) 8 = true → s.rf RegId.TB_CTL 0 0 2 0 ≠ 2)) ∧ ok ∧ s.rb
      RegId.SYS_LOCK 0 0 7 = false ∧ s.ptp.run = false ∧ (bit (wAt c.payload 0) 8 = true → s.tb.timeValid = true)) ∧
    (∃ (p : Fin 4) (s : State), s.mgt.rst = false ∧ (s.netp ↑p).run = true ∧ (s.netp ↑p).link = false ∧ s.ptpOn ↑p = false) ∧
    (∃ (p : Fin 4) (s : State), s.mgt.rst = false ∧ ((s.netp ↑p).run = false ∨ (s.netp ↑p).link = true)) ∧
    (∃ (p : Fin 4) (s : State), s.mgt.rst = false ∧ (s.netp ↑p).link = true ∧ s.ptpOn ↑p = false) ∧
    (∃ (p : Fin 4) (s : State), s.mgt.rst = false ∧ (s.netp ↑p).link = false) ∧
    (∃ (p : Fin 4) (s : State), s.mgt.rst = false ∧ s.netUp ↑p = false) ∧
    (∃ (p : Fin 4) (s : State), s.mgt.rst = false ∧ s.netUp ↑p = true) ∧
    (∃ (st : Fin 16) (ready : Prop) (s : State), s.mgt.rst = false ∧ (ready ↔ (s.sv ↑st).en = true ∧ (s.sv ↑st).run = false ∧ s.netOn =
      true ∧ s.netUp (svPort (s.sv ↑st).cfg) = true ∧ s.counting = true) ∧ ready) ∧
    (∃ (st : Fin 16) (ready : Prop) (s : State), s.mgt.rst = false ∧ (ready ↔ (s.sv ↑st).en = true ∧ (s.sv ↑st).run = false ∧ s.netOn =
      true ∧ s.netUp (svPort (s.sv ↑st).cfg) = true ∧ s.counting = true) ∧ ¬ready) :=
  ⟨⟨3, 0, True, (((on3 pcm noTime).q 3).find 0).getD anyCmd, on3 pcm noTime, by unfold State.Runs; decide +kernel⟩,
   ⟨3, 0, True, (((on3 pc).q 3).find 0).getD anyCmd, on3 pc, by unfold State.Runs; decide +kernel⟩,
   ⟨2, np true false, by decide +kernel⟩,
   ⟨2, on3 sc0, by decide +kernel⟩,
   ⟨2, np true true, by decide +kernel⟩,
   ⟨2, on3 sc0, by decide +kernel⟩,
   ⟨2, on3 sc0, by decide +kernel⟩,
   ⟨2, np true true, by decide +kernel⟩,
   ⟨5, True, (svS false).setNetp 1 { run := true, link := true }, by decide +kernel⟩,
   ⟨5, False, on3 sc0, by decide +kernel⟩⟩

/-- States that meet the hypotheses of `NetworkTraffic`, clause by clause (part 1). -/
theorem witness_NetworkTraffic_1 :
    (∃ (st : Fin 16) (s : State), s.mgt.rst = false ∧ (s.sv ↑st).run = false) ∧
    (∃ (st : Fin 16) (s : State), s.mgt.rst = false ∧ (s.sv ↑st).run = true ∧ (List.take (s.sv ↑st).noasdu (((s.svTo (↑st) (instTime (s.sv
      ↑st).rate ((s.sv ↑st).inst - (s.sv ↑st).buf.length + (s.sv ↑st).noasdu - 1) + 1) (s.sv ↑st).noasdu).reach (instTime (s.sv ↑st).rate
      ((s.sv ↑st).inst - (s.sv ↑st).buf.length + (s.sv ↑st).noasdu - 1))).sv ↑st).buf).length = (s.sv ↑st).noasdu ∧ s.netUp (svPort (s.sv
      ↑st).cfg) = true) ∧
    (∃ (st : Fin 16) (s : State), s.mgt.rst = false ∧ (s.sv ↑st).run = true ∧ (List.take (s.sv ↑st).noasdu (((s.svTo (↑st) (instTime (s.sv
      ↑st).rate ((s.sv ↑st).inst - (s.sv ↑st).buf.length + (s.sv ↑st).noasdu - 1) + 1) (s.sv ↑st).noasdu).reach (instTime (s.sv ↑st).rate
      ((s.sv ↑st).inst - (s.sv ↑st).buf.length + (s.sv ↑st).noasdu - 1))).sv ↑st).buf).length = (s.sv ↑st).noasdu ∧ s.netUp (svPort (s.sv
      ↑st).cfg) = false) ∧
    (∃ (st : Fin 16) (missing : List (Nat × Nat)) (s : State), s.mgt.rst = false ∧ (s.sv ↑st).run = true ∧ (List.take (s.sv ↑st).noasdu
      (((s.svTo (↑st) (instTime (s.sv ↑st).rate ((s.sv ↑st).inst - (s.sv ↑st).buf.length + (s.sv ↑st).noasdu - 1) + 1) (s.sv
      ↑st).noasdu).reach (instTime (s.sv ↑st).rate ((s.sv ↑st).inst - (s.sv ↑st).buf.length + (s.sv ↑st).noasdu - 1))).sv ↑st).buf).length
      = (s.sv ↑st).noasdu ∧ List.filter (fun (m : Nat × Nat) => decide (m.fst < (s.sv ↑st).noasdu)) missing = []) ∧
    (∃ (st : Fin 16) (missing : List (Nat × Nat)) (s : State) (i j c : Nat) (g : Fin 8), s.mgt.rst = false ∧ (s.sv ↑st).run = true ∧
      (List.take (s.sv ↑st).noasdu (((s.svTo (↑st) (instTime (s.sv ↑st).rate ((s.sv ↑st).inst - (s.sv ↑st).buf.length + (s.sv ↑st).noasdu
      - 1) + 1) (s.sv ↑st).noasdu).reach (instTime (s.sv ↑st).rate ((s.sv ↑st).inst - (s.sv ↑st).buf.length + (s.sv ↑st).noasdu - 1))).sv
      ↑st).buf).length = (s.sv ↑st).noasdu ∧ List.filter (fun (m : Nat × Nat) => decide (m.fst < (s.sv ↑st).noasdu)) missing = [(i, j)] ∧
      ((s.svTo (↑st) (instTime (s.sv ↑st).rate ((s.sv ↑st).inst - (s.sv ↑st).buf.length + (s.sv ↑st).noasdu - 1) + 1) (s.sv
      ↑st).noasdu).reach (instTime (s.sv ↑st).rate ((s.sv ↑st).inst - (s.sv ↑st).buf.length + (s.sv ↑st).noasdu - 1))).svSource (↑st) j =
      some c ∧ ↑g = ((s.svTo (↑st) (instTime (s.sv ↑st).rate ((s.sv ↑st).inst - (s.sv ↑st).buf.length + (s.sv ↑st).noasdu - 1) + 1) (s.sv
      ↑st).noasdu).reach (instTime (s.sv ↑st).rate ((s.sv ↑st).inst - (s.sv ↑st).buf.length + (s.sv ↑st).noasdu - 1))).rf RegId.CHn_CTL c
      0 6 4 ∧ (((s.svTo (↑st) (instTime (s.sv ↑st).rate ((s.sv ↑st).inst - (s.sv ↑st).buf.length + (s.sv ↑st).noasdu - 1) + 1) (s.sv
      ↑st).noasdu).reach (instTime (s.sv ↑st).rate ((s.sv ↑st).inst - (s.sv ↑st).buf.length + (s.sv ↑st).noasdu - 1))).grp ↑g).fb = false
      ∧ (((s.svTo (↑st) (instTime (s.sv ↑st).rate ((s.sv ↑st).inst - (s.sv ↑st).buf.length + (s.sv ↑st).noasdu - 1) + 1) (s.sv
      ↑st).noasdu).reach (instTime (s.sv ↑st).rate ((s.sv ↑st).inst - (s.sv ↑st).buf.length + (s.sv ↑st).noasdu - 1))).grp ↑g).episode =
      none) ∧
    (∃ (f : GooseFrame) (s : State), s.mgt.rst = false ∧ s.netUp ↑f.port = false) ∧
    (∃ (f : GooseFrame) (s : State), s.mgt.rst = false ∧ s.netUp ↑f.port = true ∧ (s.netOn = false ∨ ∀ (e : Fin 64), (s.gs ↑e).matches f =
      false)) ∧
    (∃ (d : Fin 64) (f : GooseFrame) (s : State) (wrong passes : Prop), s.mgt.rst = false ∧ s.netUp ↑f.port = true ∧ s.netOn = true ∧ (∀
      (e : Fin 64), (s.gs ↑e).matches f = decide (e = d)) ∧ (wrong ↔ bit (wAt (s.gs ↑d).cfg 0) 16 = true ∧ f.confRev ≠ BitVec.toNat (wAt
      (s.gs ↑d).cfg 4)) ∧ (passes ↔ f.parses = true ∧ (f.sim = true → bit (wAt (s.gs ↑d).cfg 0) 17 = true) ∧ ¬wrong ∧ f.ndsCom = false) ∧
      (¬passes ∨ gooseBools f (s.gs ↑d).cfg = none) ∧ f.parses = true ∧ bit (wAt (s.gs ↑d).cfg 0) 16 = true) ∧
    (∃ (d : Fin 64) (f : GooseFrame) (s : State) (wrong passes : Prop) (bs : List Bool), s.mgt.rst = false ∧ s.netUp ↑f.port = true ∧
      s.netOn = true ∧ (∀ (e : Fin 64), (s.gs ↑e).matches f = decide (e = d)) ∧ (wrong ↔ bit (wAt (s.gs ↑d).cfg 0) 16 = true ∧ f.confRev ≠
      BitVec.toNat (wAt (s.gs ↑d).cfg 4)) ∧ (passes ↔ f.parses = true ∧ (f.sim = true → bit (wAt (s.gs ↑d).cfg 0) 17 = true) ∧ ¬wrong ∧
      f.ndsCom = false) ∧ passes ∧ gooseBools f (s.gs ↑d).cfg = some bs ∧ (s.gs ↑d).st = 1) ∧
    (∃ (d : Fin 64) (f : GooseFrame) (s : State) (wrong passes : Prop) (bs : List Bool), s.mgt.rst = false ∧ s.netUp ↑f.port = true ∧
      s.netOn = true ∧ (∀ (e : Fin 64), (s.gs ↑e).matches f = decide (e = d)) ∧ (wrong ↔ bit (wAt (s.gs ↑d).cfg 0) 16 = true ∧ f.confRev ≠
      BitVec.toNat (wAt (s.gs ↑d).cfg 4)) ∧ (passes ↔ f.parses = true ∧ (f.sim = true → bit (wAt (s.gs ↑d).cfg 0) 17 = true) ∧ ¬wrong ∧
      f.ndsCom = false) ∧ passes ∧ gooseBools f (s.gs ↑d).cfg = some bs ∧ (s.gs ↑d).st = 2 ∧ f.stNum = (s.gs ↑d).stNum ∧ f.stNum < 2 ^ 32
      ∧ (s.gs ↑d).sqNum < f.sqNum ∧ f.sqNum < (s.gs ↑d).sqNum + 2 ^ 31 ∧ f.sqNum < 2 ^ 32) ∧
    (∃ (d : Fin 64) (f : GooseFrame) (s : State) (wrong passes : Prop) (bs : List Bool), s.mgt.rst = false ∧ s.netUp ↑f.port = true ∧
      s.netOn = true ∧ (∀ (e : Fin 64), (s.gs ↑e).matches f = decide (e = d)) ∧ (wrong ↔ bit (wAt (s.gs ↑d).cfg 0) 16 = true ∧ f.confRev ≠
      BitVec.toNat (wAt (s.gs ↑d).cfg 4)) ∧ (passes ↔ f.parses = true ∧ (f.sim = true → bit (wAt (s.gs ↑d).cfg 0) 17 = true) ∧ ¬wrong ∧
      f.ndsCom = false) ∧ passes ∧ gooseBools f (s.gs ↑d).cfg = some bs ∧ ((s.gs ↑d).st = 3 ∨ (s.gs ↑d).st = 2 ∧ (s.gs ↑d).stNum + 1 =
      f.stNum ∧ f.stNum < 2 ^ 32) ∧ s.evtOn = true) ∧
    (∃ (d : Fin 64) (s : State), s.mgt.rst = false ∧ (s.gs ↑d).st = 2 ∧ s.evtOn = true) :=
  ⟨⟨5, up, by decide +kernel⟩,
   ⟨5, svr true, by decide +kernel⟩,
   ⟨5, svr false, by decide +kernel⟩,
   ⟨5, [], svr true, by decide +kernel⟩,
   ⟨5, [(0, 0)], svg, 0, 0, 0, 3, by decide +kernel⟩,
   ⟨gf 5 7, svr true, by decide +kernel⟩,
   ⟨gf 5 7, gU 0, by decide +kernel⟩,
   ⟨7, gf 5 7 true, gV3 1, False, False, by decide +kernel⟩,
   ⟨7, gf 5 7, gV 1, False, True, gbs, by decide +kernel⟩,
   ⟨7, gf 5 7, gV 2, False, True, gbs, by decide +kernel⟩,
   ⟨7, gf 5 7, gV 3, False, True, gbs, by decide +kernel⟩,
   ⟨7, gV 2, by decide +kernel⟩⟩

/-- States that meet the hypotheses of `NetworkTraffic`, clause by clause (part 2). -/
theorem witness_NetworkTraffic_2 :
    (∃ (d : Fin 64) (s : State), s.mgt.rst = false ∧ (s.gs ↑d).st ≠ 2) ∧
    (∃ (s : State), s.mgt.rst = false ∧ (s.ptpTakes = false ∨ s.ptp.master? = true)) ∧
    (∃ (s : State), s.mgt.rst = false ∧ s.ptpTakes = true ∧ s.ptp.master? = false ∧ s.ptp.master.isSome = false) ∧
    (∃ (s : State) (off : Int), s.mgt.rst = false ∧ s.ptpTakes = true ∧ s.ptp.master? = false ∧ s.ptp.master.isSome = true ∧ off.natAbs ≤
      nsec (BitVec.toNat (wAt s.ptp.cfg 5))) ∧
    (∃ (s : State) (off : Int), s.mgt.rst = false ∧ s.ptpTakes = true ∧ s.ptp.master? = false ∧ s.ptp.master.isSome = true ∧ nsec
      (BitVec.toNat (wAt s.ptp.cfg 5)) < off.natAbs) ∧
    (∃ (s : State), s.mgt.rst = false ∧ s.ptpTakes = true ∧ s.ptp.master? = false ∧ s.ptp.master.isSome = true ∧ (s.rf RegId.TB_CTL 0 0 2
      0 ≠ 2 ∨ s.running 0 = false)) ∧
    (∃ (s : State), s.mgt.rst = false ∧ s.ptpTakes = true ∧ s.ptp.master? = false ∧ s.ptp.master.isSome = true ∧ s.rf RegId.TB_CTL 0 0 2 0
      = 2 ∧ s.running 0 = true) ∧
    (∃ (s : State), s.mgt.rst = false ∧ s.ptpTakes = true ∧ s.ptp.master? = false ∧ s.ptp.master.isSome = true ∧ s.rf RegId.TB_CTL 0 0 2 0
      = 2 ∧ s.running 0 = true ∧ s.tb.holdover = false) ∧
    (∃ (s : State), s.mgt.rst = false ∧ s.ptpTakes = false) ∧
    (∃ (s : State), s.mgt.rst = false ∧ s.ptpTakes = true ∧ s.ptp.master? = true) ∧
    (∃ (s : State) (a : Announce), s.mgt.rst = false ∧ s.ptpTakes = true ∧ s.ptp.master? = false ∧ a.chosen = true) ∧
    (∃ (s : State) (a : Announce), s.mgt.rst = false ∧ s.ptpTakes = true ∧ s.ptp.master? = false ∧ a.chosen = false) :=
  ⟨⟨7, svr true, by decide +kernel⟩,
   ⟨svr true, by decide +kernel⟩,
   ⟨ptS false none, by decide +kernel⟩,
   ⟨ptS, 1000, by decide +kernel⟩,
   ⟨ptS, -10000000, by decide +kernel⟩,
   ⟨ptS, by decide +kernel⟩,
   ⟨(ptS).wr .TB_CTL 0 0 2, by decide +kernel⟩,
   ⟨(ptS).wr .TB_CTL 0 0 2, by decide +kernel⟩,
   ⟨svr true, by decide +kernel⟩,
   ⟨ptS true, by decide +kernel⟩,
   ⟨ptS, ⟨7, true, 37, true⟩, by decide +kernel⟩,
   ⟨ptS, ⟨7 + 2^40, false, 37, true⟩, by decide +kernel⟩⟩

/-- States that meet the hypotheses of `NetworkTraffic`, clause by clause (part 3). -/
theorem witness_NetworkTraffic_3 :
    (∃ (s : State), s.mgt.rst = false ∧ s.ptpTakes = true ∧ s.ptp.master? = false) ∧
    (∃ (s : State), s.mgt.rst = false ∧ s.ptpTakes = true ∧ s.ptp.master? = true ∧ s.ptp.oneStep = false) ∧
    (∃ (s : State), s.mgt.rst = false ∧ s.ptpTakes = true) ∧
    (∃ (s : State), s.mgt.rst = false ∧ s.ptp.run = true ∧ s.ptp.master.isSome = true) ∧
    (∃ (s : State), s.mgt.rst = false ∧ (s.ptp.run = false ∨ s.ptp.master = none)) ∧
    (∃ (s : State), s.mgt.rst = false ∧ s.ptp.foreign = true) ∧
    (∃ (s : State), s.mgt.rst = false ∧ s.ptp.foreign = false) :=
  ⟨⟨ptS, by decide +kernel⟩,
   ⟨ptS true, by decide +kernel⟩,
   ⟨ptS, by decide +kernel⟩,
   ⟨ptS, by decide +kernel⟩,
   ⟨svr true, by decide +kernel⟩,
   ⟨{ ptS with ptp := { ptS.ptp with foreign := true, foreignAt := up.now } }, by decide +kernel⟩,
   ⟨svr true, by decide +kernel⟩⟩

end Network

namespace Links

def pt (s : State) (p : Nat) (x : ChnPort) : State := s.setPort p x
def chU : State := (up.wr .CHN_CTL 0 0 1).wr .CHN_Pp_CTL 1 0 3
def mem : State := (up.wr .CHN_CTL 0 0 2)
def m0 : State := let s := pt mem 0 { st := 4, rxNext := 4 }; { s with chn := { s.chn with enumerated := true, route := [(3, 1), (4,2)] } }
def badF : List Byte := List.replicate 64 7
def unkF : List Byte := flitBytes 77 0 0 0 0 []
def initF (port : Nat) (addr : Nat := 0) : List Byte := flitBytes tyInit 0 0 0 0 (leBytes 2 addr ++ leBytes 1 port ++ [0] ++ leBytes 4 77)
def chUe : State := { chU with chn := { chU.chn with enumerated := true, route := [(0,1)] } }
def dF (seq vcf ack cr : Nat) (body : List Byte) : List Byte := flitBytes tyData vcf seq ack cr body
def frag (w : Nat := 0xC005) (d : Nat := 0x0003) : List Byte := leBytes 2 d ++ leBytes 2 9 ++ leBytes 2 w ++ leBytes 2 5 ++ [1,2,3,4,5]
def P1 : State := pt chUe 1 { st := 3, rxNext := 4100 }
def dg : List Byte := dF 4 0 0x8002 0x1111 frag
def dgm : List Byte := dF 4 0 0x8002 0x1111 (frag 0x4005)
def dgi : List Byte := dF 4 0 0x8002 0x1111 (frag 0xC005 0x8003)
def d5 : List Byte := dF 5 0 0 0 frag
def d43 : List Byte := dF 4 2 0 0 (leBytes 1 2 ++ leBytes 1 1)
def P2 : State := pt (pt chUe 1 { st := 3, rxNext := 4100, replay := [⟨1,0,[1],0⟩, ⟨2,0,[2],1⟩, ⟨3,0,[3],0⟩], wait0 := [[9],[8]], credits := [0,0,0,0] }) 2 {st := 3}
def de : List Byte := dF 4 2 0x8002 0x1111 (eventBody 7 5 (up.now + 256000))
def de0 : List Byte := dF 4 2 0x8002 0x1111 (eventBody 7 5 (up.now - 256000000))
def P3 : State := pt chUe 1 { st := 3, rxNext := 4100, replay := [⟨1,0,[1],0⟩, ⟨2,0,[2],1⟩, ⟨3,0,[3],2⟩] }
def R4 : State := pt chUe 1 { st := 4, rxNext := 4100, partner := some (7, true, 77), replay := [⟨1,0,[1],2⟩, ⟨2,0,[2],0⟩] }
def hOf (f : List Byte) : Msg := fragHdr ((f.drop 8).take 52) 1 0
def nul : List Byte := flitBytes tyNull 0 0 0x8002 0x4321 []

/-- States that meet the hypotheses of `ChainLinks`, clause by clause (part 1). -/
theorem witness_ChainLinks_1 :
    (∃ (p : Fin 3) (s : State) (ready : Prop), s.mgt.rst = false ∧ (ready ↔ s.chnOn = true ∧ s.rb RegId.CHN_Pp_CTL (↑p) 0 0 = true ∧
      (s.port ↑p).st = 0 ∧ s.portBarred ↑p = false) ∧ ready) ∧
    (∃ (p : Fin 3) (s : State) (ready : Prop), s.mgt.rst = false ∧ (ready ↔ s.chnOn = true ∧ s.rb RegId.CHN_Pp_CTL (↑p) 0 0 = true ∧
      (s.port ↑p).st = 0 ∧ s.portBarred ↑p = false) ∧ ¬ready) ∧
    (∃ (p : Fin 3) (s : State), s.mgt.rst = false ∧ (s.port ↑p).st = 1) ∧
    (∃ (p : Fin 3) (s : State), s.mgt.rst = false ∧ (s.port ↑p).st = 4) ∧
    (∃ (p : Fin 3) (s : State), s.mgt.rst = false ∧ (s.port ↑p).st ≠ 1 ∧ (s.port ↑p).st ≠ 4) ∧
    (∃ (p : Fin 3) (s : State), s.mgt.rst = false ∧ (s.port ↑p).st = 3) ∧
    (∃ (p : Fin 3) (s : State), s.mgt.rst = false ∧ (s.port ↑p).st = 2) ∧
    (∃ (p : Fin 3) (s : State), s.mgt.rst = false ∧ (s.port ↑p).st ≠ 2 ∧ (s.port ↑p).st ≠ 3) ∧
    (∃ (s : State), s.mgt.rst = false ∧ (s.port ↑0).st = 4) ∧
    (∃ (p : Fin 3) (s : State), s.mgt.rst = false ∧ (s.port ↑p).st ≠ 4) ∧
    (∃ (p : Fin 3) (s : State) (f : List Byte) (e : Nat × Instr), s.mgt.rst = false ∧ e ∈ [(tyInit, Instr.initFlit p f), (tyData,
      Instr.data p f), (tyNak, Instr.nak p f), (tyNull, Instr.nullFlit p f)] ∧ s.portLocked ↑p = false) ∧
    (∃ (p : Fin 3) (s : State) (f : List Byte) (e : Nat × Instr), s.mgt.rst = false ∧ e ∈ [(tyInit, Instr.initFlit p f), (tyData,
      Instr.data p f), (tyNak, Instr.nak p f), (tyNull, Instr.nullFlit p f)] ∧ s.portLocked ↑p = true ∧ flitOk f = true ∧ tyKnown (leAt f
      0 1) = false) :=
  ⟨⟨1, chU, True, by decide +kernel⟩,
   ⟨1, pt chU 1 { st := 3 }, False, by decide +kernel⟩,
   ⟨1, pt chU 1 { st := 1, rxNext := 4 }, by decide +kernel⟩,
   ⟨1, pt chU 1 { st := 4, rxNext := 4 }, by decide +kernel⟩,
   ⟨1, chU, by decide +kernel⟩,
   ⟨1, pt chU 1 { st := 3 }, by decide +kernel⟩,
   ⟨1, pt chU 1 { st := 2, rxNext := 4 }, by decide +kernel⟩,
   ⟨1, chU, by decide +kernel⟩,
   ⟨m0, by decide +kernel⟩,
   ⟨1, chU, by decide +kernel⟩,
   ⟨1, chU, badF, (tyInit, Instr.initFlit 1 badF), by decide +kernel⟩,
   ⟨1, pt chU 1 { st := 3 }, unkF, (tyInit, Instr.initFlit 1 unkF), by decide +kernel⟩⟩

/-- States that meet the hypotheses of `ChainLinks`, clause by clause (part 2). -/
theorem witness_ChainLinks_2 :
    (∃ (p : Fin 3) (s : State) (f : List Byte) (e : Nat × Instr), s.mgt.rst = false ∧ e ∈ [(tyInit, Instr.initFlit p f), (tyData,
      Instr.data p f), (tyNak, Instr.nak p f), (tyNull, Instr.nullFlit p f)] ∧ s.portLocked ↑p = true ∧ flitOk f = false ∧ ((s.port ↑p).st
      ≠ 3 ∨ (s.port ↑p).nakSent = true)) ∧
    (∃ (p : Fin 3) (s : State) (f : List Byte) (e : Nat × Instr), s.mgt.rst = false ∧ e ∈ [(tyInit, Instr.initFlit p f), (tyData,
      Instr.data p f), (tyNak, Instr.nak p f), (tyNull, Instr.nullFlit p f)] ∧ s.portLocked ↑p = true ∧ flitOk f = false ∧ (s.port ↑p).st
      = 3 ∧ (s.port ↑p).nakSent = false) ∧
    (∃ (p : Fin 3) (s : State) (f : List Byte), s.mgt.rst = false ∧ flitOk f = true ∧ s.chnOn = true ∧ leAt f 0 1 = tyInit ∧ (s.port
      ↑p).st = 2 ∧ (leAt f 10 1 = 0 ↔ p ≠ 0) ∧ (p = 0 ∨ (initPartner f).snd.fst = true ∨ s.chn.enumerated = false)) ∧
    (∃ (p : Fin 3) (s : State) (f : List Byte), s.mgt.rst = false ∧ flitOk f = true ∧ s.chnOn = true ∧ leAt f 0 1 = tyInit ∧ (s.port
      ↑p).st = 2 ∧ ¬(leAt f 10 1 = 0 ↔ p ≠ 0)) ∧
    (∃ (p : Fin 3) (s : State) (f : List Byte) (z : TxFlit), s.mgt.rst = false ∧ flitOk f = true ∧ s.chnOn = true ∧ leAt f 0 1 = tyInit ∧
      (s.port ↑p).st = 4 ∧ (leAt f 10 1 = 0 ↔ p ≠ 0) ∧ Option.map (fun (y : Nat × Bool × Nat) => y.snd.snd) (s.port ↑p).partner = some
      (leAt f 12 4) ∧ (s.port ↑p).waiting = 0 ∧ z ∈ ((s.ackCredit (↑p) f).port ↑p).replay) ∧
    (∃ (p : Fin 3) (s : State) (f : List Byte), s.mgt.rst = false ∧ flitOk f = true ∧ s.chnOn = true ∧ leAt f 0 1 = tyInit ∧ (s.port
      ↑p).st = 4 ∧ (leAt f 10 1 = 0 ↔ p ≠ 0) ∧ Option.map (fun (y : Nat × Bool × Nat) => y.snd.snd) (s.port ↑p).partner ≠ some (leAt f 12
      4)) ∧
    (∃ (p : Fin 3) (s : State) (f : List Byte), s.mgt.rst = false ∧ flitOk f = true ∧ s.chnOn = true ∧ leAt f 0 1 = tyData ∧ (s.port
      ↑p).st = 3 ∧ leAt f 2 2 % 4096 ≠ (s.port ↑p).rxNext % 4096 ∧ (s.port ↑p).nakSent = true) ∧
    (∃ (p : Fin 3) (s : State) (f : List Byte), s.mgt.rst = false ∧ flitOk f = true ∧ s.chnOn = true ∧ leAt f 0 1 = tyData ∧ (s.port
      ↑p).st = 3 ∧ leAt f 2 2 % 4096 ≠ (s.port ↑p).rxNext % 4096 ∧ (s.port ↑p).nakSent = false) ∧
    (∃ (p : Fin 3) (s : State) (f : List Byte) (h : Msg), s.mgt.rst = false ∧ flitOk f = true ∧ s.chnOn = true ∧ leAt f 0 1 = tyData ∧
      (s.port ↑p).st = 3 ∧ leAt f 2 2 % 4096 = (s.port ↑p).rxNext % 4096 ∧ leAt f 1 1 % 4 ≤ 1 ∧ (leAt (List.take 52 (List.drop 8 f)) 4 2 /
      16384 % 2 = 1 ∧ h = fragHdr (List.take 52 (List.drop 8 f)) (↑p) (leAt f 1 1 % 4) ∨ leAt (List.take 52 (List.drop 8 f)) 4 2 / 16384 %
      2 = 0 ∧ ∃ (y : Msg), (if leAt f 1 1 % 4 = 0 then (s.port ↑p).asm0 else (s.port ↑p).asm1) = some y ∧ h =
      { port := y.port, vc := y.vc, internal := y.internal, bcast := y.bcast, dest := y.dest, src := y.src, num := y.num, content := y.content ++ (fragHdr (List.take 52 (List.drop 8 f)) (↑p) (leAt f 1 1 % 4)).content })
      ∧ leAt (List.take 52 (List.drop 8 f)) 4 2 / 32768 = 1 ∧ (h.internal = true → h.crcOk = true ∧ 1 ≤ h.mtype ∧ h.mtype ≤ 14)) ∧
    (∃ (p : Fin 3) (s : State) (f : List Byte) (h : Msg), s.mgt.rst = false ∧ flitOk f = true ∧ s.chnOn = true ∧ leAt f 0 1 = tyData ∧
      (s.port ↑p).st = 3 ∧ leAt f 2 2 % 4096 = (s.port ↑p).rxNext % 4096 ∧ leAt f 1 1 % 4 ≤ 1 ∧ (leAt (List.take 52 (List.drop 8 f)) 4 2 /
      16384 % 2 = 1 ∧ h = fragHdr (List.take 52 (List.drop 8 f)) (↑p) (leAt f 1 1 % 4) ∨ leAt (List.take 52 (List.drop 8 f)) 4 2 / 16384 %
      2 = 0 ∧ ∃ (y : Msg), (if leAt f 1 1 % 4 = 0 then (s.port ↑p).asm0 else (s.port ↑p).asm1) = some y ∧ h =
      { port := y.port, vc := y.vc, internal := y.internal, bcast := y.bcast, dest := y.dest, src := y.src, num := y.num, content := y.content ++ (fragHdr (List.take 52 (List.drop 8 f)) (↑p) (leAt f 1 1 % 4)).content })
      ∧ leAt (List.take 52 (List.drop 8 f)) 4 2 / 32768 = 1 ∧ h.internal = true ∧ h.crcOk = false ∧ h.port = ↑p) ∧
    (∃ (p : Fin 3) (s : State) (f : List Byte) (h : Msg), s.mgt.rst = false ∧ flitOk f = true ∧ s.chnOn = true ∧ leAt f 0 1 = tyData ∧
      (s.port ↑p).st = 3 ∧ leAt f 2 2 % 4096 = (s.port ↑p).rxNext % 4096 ∧ leAt f 1 1 % 4 ≤ 1 ∧ (leAt (List.take 52 (List.drop 8 f)) 4 2 /
      16384 % 2 = 1 ∧ h = fragHdr (List.take 52 (List.drop 8 f)) (↑p) (leAt f 1 1 % 4) ∨ leAt (List.take 52 (List.drop 8 f)) 4 2 / 16384 %
      2 = 0 ∧ ∃ (y : Msg), (if leAt f 1 1 % 4 = 0 then (s.port ↑p).asm0 else (s.port ↑p).asm1) = some y ∧ h =
      { port := y.port, vc := y.vc, internal := y.internal, bcast := y.bcast, dest := y.dest, src := y.src, num := y.num, content := y.content ++ (fragHdr (List.take 52 (List.drop 8 f)) (↑p) (leAt f 1 1 % 4)).content })
      ∧ leAt (List.take 52 (List.drop 8 f)) 4 2 / 32768 = 0) ∧
    (∃ (p : Fin 3) (s : State) (f : List Byte), s.mgt.rst = false ∧ flitOk f = true ∧ s.chnOn = true ∧ leAt f 0 1 = tyData ∧ (s.port
      ↑p).st = 3 ∧ leAt f 2 2 % 4096 = (s.port ↑p).rxNext % 4096 ∧ leAt f 1 1 % 4 = 2 ∧ leAt (List.take 52 (List.drop 8 f)) 0 1 = 1 ∧
      (s.ackCredit (↑p) f).now / 256 * 256 + 40 * 256 ≤ ofTimeField (List.take 12 (List.drop 4 (List.take 52 (List.drop 8 f)))) + usec 3) :=
  ⟨⟨1, pt chU 1 { st := 2, rxNext := 4 }, badF, (tyInit, Instr.initFlit 1 badF), by decide +kernel⟩,
   ⟨1, pt chU 1 { st := 3 }, badF, (tyInit, Instr.initFlit 1 badF), by decide +kernel⟩,
   ⟨1, pt chU 1 { st := 2, rxNext := 4 }, initF 0, by decide +kernel⟩,
   ⟨1, pt chU 1 { st := 2, rxNext := 4 }, initF 2, by decide +kernel⟩,
   ⟨1, R4, initF 0, ⟨1,0,[1],2⟩, by decide +kernel⟩,
   ⟨1, pt chU 1 { st := 4, rxNext := 4 }, initF 0, by decide +kernel⟩,
   ⟨1, pt chU 1 { st := 3, rxNext := 4, nakSent := true }, d5, by decide +kernel⟩,
   ⟨1, pt chU 1 { st := 3 }, d5, by decide +kernel⟩,
   ⟨1, pt chU 1 { st := 3, rxNext := 4, nakSent := true }, dg, hOf dg, by decide +kernel⟩,
   ⟨1, pt chU 1 { st := 3, rxNext := 4, nakSent := true }, dgi, hOf dgi, by decide +kernel⟩,
   ⟨1, pt chU 1 { st := 3, rxNext := 4, nakSent := true }, dgm, hOf dg, by decide +kernel⟩,
   ⟨1, pt chU 1 { st := 3, rxNext := 4, nakSent := true }, de, by decide +kernel⟩⟩

/-- States that meet the hypotheses of `ChainLinks`, clause by clause (part 3). -/
theorem witness_ChainLinks_3 :
    (∃ (p : Fin 3) (s : State) (f : List Byte), s.mgt.rst = false ∧ flitOk f = true ∧ s.chnOn = true ∧ leAt f 0 1 = tyData ∧ (s.port
      ↑p).st = 3 ∧ leAt f 2 2 % 4096 = (s.port ↑p).rxNext % 4096 ∧ leAt f 1 1 % 4 = 2 ∧ leAt (List.take 52 (List.drop 8 f)) 0 1 = 1 ∧
      ofTimeField (List.take 12 (List.drop 4 (List.take 52 (List.drop 8 f)))) + usec 3 < (s.ackCredit (↑p) f).now / 256 * 256 + 40 * 256) ∧
    (∃ (p : Fin 3) (s : State) (f : List Byte), s.mgt.rst = false ∧ flitOk f = true ∧ s.chnOn = true ∧ leAt f 0 1 = tyData ∧ (s.port
      ↑p).st = 3 ∧ leAt f 2 2 % 4096 = (s.port ↑p).rxNext % 4096 ∧ leAt f 1 1 % 4 = 2 ∧ (leAt (List.take 52 (List.drop 8 f)) 0 1 = 2 ∨
      leAt (List.take 52 (List.drop 8 f)) 0 1 = 3)) ∧
    (∃ (s : State) (f : List Byte), s.mgt.rst = false ∧ (leAt f 0 1 ≠ tyData ∨ leAt f 1 1 % 4 ≠ 2 ∨ leAt f 8 1 ≠ 1)) ∧
    (∃ (p : Fin 3) (s u : State) (command : Instr), s.mgt.rst = false ∧ (command = Instr.replayTimeout p ∧ u = s ∨ ∃ (f : List Byte),
      command = Instr.nak p f ∧ flitOk f = true ∧ leAt f 0 1 = tyNak ∧ s.portLocked ↑p = true ∧ u = s.ackCredit (↑p) f) ∧ ((s.port ↑p).st
      ≠ 3 ∨ (u.port ↑p).replay = [])) ∧
    (∃ (p : Fin 3) (s u : State) (command : Instr) (z : TxFlit), s.mgt.rst = false ∧ (command = Instr.replayTimeout p ∧ u = s ∨ ∃ (f :
      List Byte), command = Instr.nak p f ∧ flitOk f = true ∧ leAt f 0 1 = tyNak ∧ s.portLocked ↑p = true ∧ u = s.ackCredit (↑p) f) ∧
      (s.port ↑p).st = 3 ∧ (u.port ↑p).replay ≠ [] ∧ (∀ (z : TxFlit), z ∈ (u.port ↑p).replay → z.tries < 2) ∧ z ∈ (u.port ↑p).replay) ∧
    (∃ (p : Fin 3) (s u : State) (command : Instr), s.mgt.rst = false ∧ (command = Instr.replayTimeout p ∧ u = s ∨ ∃ (f : List Byte),
      command = Instr.nak p f ∧ flitOk f = true ∧ leAt f 0 1 = tyNak ∧ s.portLocked ↑p = true ∧ u = s.ackCredit (↑p) f) ∧ (s.port ↑p).st =
      3 ∧ ∃ (z : TxFlit), z ∈ (u.port ↑p).replay ∧ 2 ≤ z.tries) ∧
    (∃ (p : Fin 3) (s : State) (f : List Byte), s.mgt.rst = false ∧ flitOk f = true ∧ leAt f 0 1 = tyNull ∧ s.portLocked ↑p = true) ∧
    (∃ (p : Fin 3) (s : State) (f : List Byte), s.mgt.rst = false ∧ flitOk f = true ∧ leAt f 0 1 = tyNull ∧ s.portLocked ↑p = true ∧
      (s.port ↑p).waiting = 0 ∧ ∀ (z : TxFlit), z ∈ (s.port ↑p).replay → z.tries = 0) :=
  ⟨⟨1, pt chU 1 { st := 3, rxNext := 4, nakSent := true }, de0, by decide +kernel⟩,
   ⟨1, pt chU 1 { st := 3, rxNext := 4, nakSent := true }, d43, by decide +kernel⟩,
   ⟨chU, badF, by decide +kernel⟩,
   ⟨1, P1, P1, Instr.replayTimeout 1, by decide +kernel, .inl ⟨rfl, rfl⟩, by decide +kernel⟩,
   ⟨1, P2, P2, Instr.replayTimeout 1, ⟨1,0,[1],0⟩, by decide +kernel, .inl ⟨rfl, rfl⟩, by decide +kernel⟩,
   ⟨1, P3, P3, Instr.replayTimeout 1, by decide +kernel, .inl ⟨rfl, rfl⟩, by decide +kernel⟩,
   ⟨1, pt chU 1 { st := 3 }, nul, by decide +kernel⟩,
   ⟨1, pt chU 1 { st := 3 }, nul, by decide +kernel⟩⟩

end Links

namespace ChainTime

def pt (s : State) (p : Nat) (x : ChnPort) : State := s.setPort p x
def chU : State := (up.wr .CHN_CTL 0 0 1).wr .CHN_Pp_CTL 1 0 3
def mem : State := (up.wr .CHN_CTL 0 0 2)
def at1 : Nat := up.now + 999
def chUe : State := { chU with chn := { chU.chn with enumerated := true, route := [(0,1)] } }
def P2 : State := pt (pt chUe 1 { st := 3, rxNext := 4100, replay := [⟨1,0,[1],0⟩, ⟨2,0,[2],1⟩, ⟨3,0,[3],0⟩], wait0 := [[9],[8]], credits := [0,0,0,0] }) 2 {st := 3}
def M : State := pt mem 0 { st := 3 }
def drq : List Byte := flitBytes tyDlyReq 0 0 0 0x1111 (timeField at1)
def drs : List Byte := flitBytes tyDlyRsp 0 0 0 0x1111 (timeField at1 ++ timeField (at1 + 1001) ++ timeField (at1 + 2000))
def tf (fl : Nat) : List Byte := flitBytes tyTime 0 0 0 0x1111 (timeField at1 ++ leBytes 1 fl ++ [0,0,0] ++ leBytes 4 12 ++ leBytes 2 0)
def Mo : State := { M.wr .CHN_TOL 0 0 1000 with chn := { M.chn with offset := 25 } }
def M1 : State := pt ({ Mo.wr .TB_CTL 0 0 1 with tb := { Mo.tb with timeValid := false }}) 0 { st := 3, delays := [100, 50] }
def M1e : State := M1.wr .Gn_CTL 3 0 1
def M1t : State := { M1 with tb := { M1.tb with timeValid := true }, chn := { M1.chn with timed := true } }
def M1n : State := { M1 with tb := { M1.tb with lock := false } }
def Ms : State := { M with chn := { M.chn with series := 3 } }
def Mx : State := ({ M1 with chn := { M1.chn with outSince := some (up.now - 55) } }).setGrp 3 { st := .running, n := 5, times := [up.now], trigs := [] }

/-- States that meet the hypotheses of `ChainTime`, clause by clause (part 1). -/
theorem witness_ChainTime_1 :
    (∃ (s : State), s.mgt.rst = false ∧ (s.chnOn = false ∨ s.portUp 0 = false)) ∧
    (∃ (s : State), s.mgt.rst = false ∧ s.chnOn = true ∧ s.portUp 0 = true) ∧
    (∃ (s : State), s.mgt.rst = false ∧ s.chnOn = false) ∧
    (∃ (s : State) (p : Fin 3), s.mgt.rst = false ∧ s.chnOn = true ∧ p ≠ 0 ∧ s.portUp ↑p = true) ∧
    (∃ (s : State), s.mgt.rst = false ∧ s.chnOn = true ∧ s.downUp = []) ∧
    (∃ (s : State) (p : Fin 3), s.mgt.rst = false ∧ s.portLocked ↑p = false) ∧
    (∃ (s : State) (p : Fin 3) (f : List Byte), s.mgt.rst = false ∧ s.portLocked ↑p = true ∧ flitOk f = true ∧ leAt f 0 1 = tyDlyReq ∧ (p
      = 0 ∨ s.portUp ↑p = false)) ∧
    (∃ (s : State) (p : Fin 3) (f : List Byte), s.mgt.rst = false ∧ p ≠ 0 ∧ s.chnOn = true ∧ s.portUp ↑p = true ∧ flitOk f = true ∧ leAt f
      0 1 = tyDlyReq) ∧
    (∃ (s : State) (f : List Byte) (n4 : Nat) (far : Prop), s.mgt.rst = false ∧ s.chnOn = true ∧ s.portUp 0 = true ∧ flitOk f = true ∧
      leAt f 0 1 = tyDlyRsp ∧ (far ↔ (s.port 0).delays ≠ [] ∧ 256 < ((↑n4 - ↑(ofTimeField (List.take 12 (List.drop 8 f))) - (↑(ofTimeField
      (List.take 12 (List.drop 32 f))) - ↑(ofTimeField (List.take 12 (List.drop 20 f))))) / 2 + BitVec.toInt (s.rd RegId.CHN_Pp_ASYM) -
      delayMean (s.port 0).delays).natAbs) ∧ s.chn.series ≤ 1 ∧ s.chn.align = none ∧ ¬far) ∧
    (∃ (s : State) (f : List Byte) (n4 : Nat) (far : Prop), s.mgt.rst = false ∧ s.chnOn = true ∧ s.portUp 0 = true ∧ flitOk f = true ∧
      leAt f 0 1 = tyDlyRsp ∧ (far ↔ (s.port 0).delays ≠ [] ∧ 256 < ((↑n4 - ↑(ofTimeField (List.take 12 (List.drop 8 f))) - (↑(ofTimeField
      (List.take 12 (List.drop 32 f))) - ↑(ofTimeField (List.take 12 (List.drop 20 f))))) / 2 + BitVec.toInt (s.rd RegId.CHN_Pp_ASYM) -
      delayMean (s.port 0).delays).natAbs) ∧ s.chn.series ≤ 1 ∧ s.chn.align = none ∧ far) ∧
    (∃ (s : State) (f : List Byte) (n4 : Nat) (far : Prop), s.mgt.rst = false ∧ s.chnOn = true ∧ s.portUp 0 = true ∧ flitOk f = true ∧
      leAt f 0 1 = tyDlyRsp ∧ (far ↔ (s.port 0).delays ≠ [] ∧ 256 < ((↑n4 - ↑(ofTimeField (List.take 12 (List.drop 8 f))) - (↑(ofTimeField
      (List.take 12 (List.drop 32 f))) - ↑(ofTimeField (List.take 12 (List.drop 20 f))))) / 2 + BitVec.toInt (s.rd RegId.CHN_Pp_ASYM) -
      delayMean (s.port 0).delays).natAbs) ∧ 1 < s.chn.series) ∧
    (∃ (s : State) (p : Fin 3), s.mgt.rst = false ∧ s.chn.align = none ∧ s.portLocked ↑p = false) :=
  ⟨⟨P2, by decide +kernel⟩,
   ⟨M, by decide +kernel⟩,
   ⟨up.wr .SYS_EN_STATUS 0 0 3, by decide +kernel⟩,
   ⟨P2, 1, by decide +kernel⟩,
   ⟨M, by decide +kernel⟩,
   ⟨M, 1, by decide +kernel⟩,
   ⟨M, 0, drq, by decide +kernel⟩,
   ⟨P2, 1, drq, by decide +kernel⟩,
   ⟨M, drs, at1 + 2500, False, by decide +kernel⟩,
   ⟨M1, drs, at1 + 2500, True, by decide +kernel⟩,
   ⟨Ms, drs, at1 + 2500, False, by decide +kernel⟩,
   ⟨M, 1, by decide +kernel⟩⟩

/-- States that meet the hypotheses of `ChainTime`, clause by clause (part 2). -/
theorem witness_ChainTime_2 :
    (∃ (s : State) (p : Fin 3) (f : List Byte), s.mgt.rst = false ∧ s.chn.align = none ∧ s.portLocked ↑p = true ∧ (p ≠ 0 ∨ s.portUp 0 =
      false) ∧ flitOk f = true ∧ leAt f 0 1 = tyDlyRsp) ∧
    (∃ (s : State) (p : Fin 3) (f : List Byte), s.mgt.rst = false ∧ s.portLocked ↑p = true ∧ flitOk f = true ∧ leAt f 0 1 = tyTime ∧ (p ≠
      0 ∨ s.portUp 0 = false ∨ s.isRoot = true)) ∧
    (∃ (s : State) (f : List Byte) (follows first : Prop), s.mgt.rst = false ∧ s.chnOn = true ∧ s.portUp 0 = true ∧ s.isRoot = false ∧
      flitOk f = true ∧ leAt f 0 1 = tyTime ∧ (follows ↔ s.rf RegId.TB_CTL 0 0 2 0 = 1 ∧ s.running 0 = true ∧ s.tb.holdover = false) ∧
      (first ↔ leAt f 20 1 % 2 = 1 ∧ (s.chn.timed = false ∨ s.tb.timeValid = false)) ∧ ¬follows) ∧
    (∃ (s : State) (f : List Byte) (follows first : Prop), s.mgt.rst = false ∧ s.chnOn = true ∧ s.portUp 0 = true ∧ s.isRoot = false ∧
      flitOk f = true ∧ leAt f 0 1 = tyTime ∧ (follows ↔ s.rf RegId.TB_CTL 0 0 2 0 = 1 ∧ s.running 0 = true ∧ s.tb.holdover = false) ∧
      (first ↔ leAt f 20 1 % 2 = 1 ∧ (s.chn.timed = false ∨ s.tb.timeValid = false)) ∧ follows ∧ ¬first) ∧
    (∃ (s : State) (f : List Byte) (follows first : Prop), s.mgt.rst = false ∧ s.chnOn = true ∧ s.portUp 0 = true ∧ s.isRoot = false ∧
      flitOk f = true ∧ leAt f 0 1 = tyTime ∧ (follows ↔ s.rf RegId.TB_CTL 0 0 2 0 = 1 ∧ s.running 0 = true ∧ s.tb.holdover = false) ∧
      (first ↔ leAt f 20 1 % 2 = 1 ∧ (s.chn.timed = false ∨ s.tb.timeValid = false)) ∧ follows ∧ first) ∧
    (∃ (s : State) (f : List Byte) (follows first : Prop), s.mgt.rst = false ∧ s.chnOn = true ∧ s.portUp 0 = true ∧ s.isRoot = false ∧
      flitOk f = true ∧ leAt f 0 1 = tyTime ∧ (follows ↔ s.rf RegId.TB_CTL 0 0 2 0 = 1 ∧ s.running 0 = true ∧ s.tb.holdover = false) ∧
      (first ↔ leAt f 20 1 % 2 = 1 ∧ (s.chn.timed = false ∨ s.tb.timeValid = false)) ∧ follows ∧ first ∧ s.anyEnabled = true) ∧
    (∃ (s : State) (f : List Byte) (follows first : Prop), s.mgt.rst = false ∧ s.chnOn = true ∧ s.portUp 0 = true ∧ s.isRoot = false ∧
      flitOk f = true ∧ leAt f 0 1 = tyTime ∧ (follows ↔ s.rf RegId.TB_CTL 0 0 2 0 = 1 ∧ s.running 0 = true ∧ s.tb.holdover = false) ∧
      (first ↔ leAt f 20 1 % 2 = 1 ∧ (s.chn.timed = false ∨ s.tb.timeValid = false)) ∧ follows ∧ first ∧ s.anyEnabled = false ∧ s.counting
      = true) ∧
    (∃ (s : State) (f : List Byte) (follows first : Prop), s.mgt.rst = false ∧ s.chnOn = true ∧ s.portUp 0 = true ∧ s.isRoot = false ∧
      flitOk f = true ∧ leAt f 0 1 = tyTime ∧ (follows ↔ s.rf RegId.TB_CTL 0 0 2 0 = 1 ∧ s.running 0 = true ∧ s.tb.holdover = false) ∧
      (first ↔ leAt f 20 1 % 2 = 1 ∧ (s.chn.timed = false ∨ s.tb.timeValid = false)) ∧ follows ∧ first ∧ s.anyEnabled = false ∧ s.counting
      = false) ∧
    (∃ (s : State), s.mgt.rst = false ∧ (s.chnOn = false ∨ s.isRoot = true)) ∧
    (∃ (s : State), s.mgt.rst = false ∧ s.chnOn = true ∧ s.isRoot = false) ∧
    (∃ (s : State) (since : Nat), s.mgt.rst = false ∧ s.chn.outSince = some since ∧ s.chnOn = true ∧ s.isRoot = false ∧ s.chn.excluded =
      false ∧ ∃ (g : Fin 8), s.grpRunning ↑g = true ∧ (s.grp ↑g).st ≠ GState.stopping) ∧
    (∃ (s : State), s.mgt.rst = false ∧ (s.chn.outSince = none ∨ s.chnOn = false ∨ s.isRoot = true ∨ s.chn.excluded = true)) :=
  ⟨⟨P2, 1, drs, by decide +kernel⟩,
   ⟨P2, 1, tf 7, by decide +kernel⟩,
   ⟨M, tf 7, False, True, by decide +kernel⟩,
   ⟨M1t, tf 7, True, False, by decide +kernel⟩,
   ⟨M1, tf 7, True, True, by decide +kernel⟩,
   ⟨M1e, tf 7, True, True, by decide +kernel⟩,
   ⟨M1, tf 7, True, True, by decide +kernel⟩,
   ⟨M1n, tf 7, True, True, by decide +kernel⟩,
   ⟨P2, by decide +kernel⟩,
   ⟨M, by decide +kernel⟩,
   ⟨Mx, up.now - 55, by decide +kernel⟩,
   ⟨M, by decide +kernel⟩⟩

end ChainTime

namespace Messages

def on3 (c : Cmd) (s : State := up) : State := on s 3 c
def pt (s : State) (p : Nat) (x : ChnPort) : State := s.setPort p x
def chU : State := let s := ((up.wr .CHN_CTL 0 0 1).wr .CHN_Pp_CTL 1 0 3); { s with chn := { s.chn with enumerated := true, route := [(0,1)] } }
def root1 : State := pt chU 1 { st := 3, partner := some (4, true, 77) }
def root2 : State := pt root1 2 { st := 3, partner := some (9, false, 78) }
def memb : State := pt (pt (let s := (up.wr .CHN_CTL 0 0 2).wr .SYS_ADDR 0 0 5; { s with chn := { s.chn with enumerated := true, depth := 2, route := [(5,1)] } }) 0 { st := 3, partner := some (0, true, 5) }) 1 { st := 3 }
def fresh : State := pt (up.wr .CHN_CTL 0 0 2) 0 { st := 3 }
def im (p ty : Nat) (body : List Byte) (xact : Nat := 33) (bcast : Bool := true) (src : Nat := 4) (dest : Nat := 0) : Msg :=
  { port := p, vc := 0, internal := true, bcast := bcast, dest := dest, src := src, num := 12, content := internalBytes ty xact body }
def inb (s : State) (m : Msg) : State := { s with chn := { s.chn with inbox := [m] } }
def enS (s : State) (x : Xact) : State := s.setEnum (some x)
def m1 : Msg := im 0 1 (leBytes 1 1 ++ leBytes 1 3)
def xq (ph : Nat) (ports : List Nat) (c : Option CmdRef := none) (own : List Nat := [1,0]) : Xact := { gen := 33, mode := 1, cmd := c, phase := ph, ports := ports, got := [], own := own, depth := 1 }
def m2 : Msg := im 1 2 (leBytes 2 7 ++ leBytes 1 4)
def m3 : Msg := im 0 3 (leBytes 1 1 ++ leBytes 1 3 ++ leBytes 2 1 ++ leBytes 2 17)
def m30 : Msg := im 0 3 (leBytes 1 0 ++ leBytes 1 3 ++ leBytes 2 1 ++ leBytes 2 17)
def xq0 (ph : Nat) (ports : List Nat) (c : Option CmdRef := none) : Xact := { xq ph ports c with mode := 0 }
def rootAuto (s : State) : State := s.wr .CHN_CTL 0 0 5
def m4 : Msg := im 1 4 (leBytes 2 3 ++ leBytes 2 1 ++ leBytes 1 6)
def ec : Cmd := cmd 0x601 [1]
def w4 : State := enS (on3 (begun ec) root1) (xq 1 [1] (some ⟨3,0⟩))
def w2 : State := enS (on3 (begun (cmd 0x601 [0])) root1) (xq0 0 [1] (some ⟨3,0⟩))
def m5 : Msg := im 1 5 (leBytes 2 0 ++ leBytes 1 1 ++ [0] ++ leBytes 4 8) 0 false
def m5r : Msg := im 1 5 (leBytes 2 3 ++ leBytes 1 1 ++ [0] ++ leBytes 4 8) 0 false
def m6 : Msg := im 0 6 (leBytes 2 55 ++ leBytes 1 1) 0
def m7 : Msg := im 1 7 (leBytes 2 5 ++ leBytes 1 1 ++ [0] ++ leBytes 2 2 ++ [0,0] ++ leBytes 2 3 ++ leBytes 2 2 ++ leBytes 2 9 ++ leBytes 2 1) 0 false
def r7 : State := { root1 with chn := { root1.chn with route := [(0,1),(3,2),(4,2),(5,2),(9,2)] } }
def m8 : Msg := im 1 8 (List.replicate 20 0) 0 false
def m9 : Msg := im 0 9 []
def m10 : Msg := im 1 10 (List.replicate 24 1)
def cen : Census := ⟨33, ⟨3,0⟩, 0, [(0, false, 0), (3, false, 0), (4, false, 0)], []⟩
def cen1 : Census := ⟨33, ⟨3,0⟩, 0, [(4, false, 0)], []⟩
def r10 (x : Census) : State := { r7 with chn := { r7.chn with census := some x } }
def c2 : Cmd := cmd 0x602 [0, 0, 1, 0, 0]
def m11 : Msg := im 0 11 [1]
def m12 : Msg := im 1 12 (leBytes 2 3 ++ leBytes 2 1 ++ leBytes 2 4 ++ [0x21, 2] ++ leBytes 4 99)
def bb (ports : List Nat := [1]) : Bcast := { num := 33, cmd := ⟨3, 0⟩, ports := ports, own := some [1, 0, 0, 0, 0, 5], got := [] }
def bc : Cmd := { cmd 0x302 [1] with hdr := { (cmd 0x302 [1]).hdr with flags := 1 } }
def s12 (ports : List Nat := [1]) : State := let s := on3 (begun bc) root1; { s with chn := { s.chn with bcasts := [bb ports] } }
def m13 : Msg := im 0 13 [0]
def m14 : Msg := im 1 14 (leBytes 4 1000 ++ leBytes 2 4 ++ leBytes 2 1)
def ax (ports : List Nat := [1]) (c : Option CmdRef := some ⟨3,0⟩) : Xact := { xq 0 ports c with gen := 1 }
def al : Cmd := cmd 0x604 [1]
def s14 (ports : List Nat := [1]) (c : Option CmdRef := some ⟨3,0⟩) : State := let s := on3 (begun al) root1; { s with chn := { s.chn with align := some (ax ports c) } }
def recd (b : List Byte) (p : Nat := 1) : Msg := ⟨p, 2, false, false, 0, 0, leAt b 0 1, b⟩
def tb_ : List Byte := turnBody ⟨7, 5, 6, 7, 8, 9⟩ 3
def s15 : State := (root2.wr .Gn_BIND 4 0 (3 + 7 * 65536)).wr .Gn_BIND 5 0 (3 + 7 * 65536)
def mk_ : List Byte := markerBody 0 8 3 77
def pm (dest vc p : Nat) (bcast : Bool := false) : Msg := { port := p, vc := vc, internal := false, bcast := bcast, dest := dest, src := 0, num := 12, content := pk 0x101 3 7 [1] 0 dest }
def rq : Cmd := { begun (cmd 0x101 [1] 7) with hdr := { (cmd 0x101 [1] 7).hdr with tag := 7, seq := 7 } }
def el (ty : Nat) (dest : Nat) : Msg := im 1 ty (leBytes 2 9 ++ leBytes 1 1 ++ [0] ++ leBytes 2 2 ++ [0,0] ++ leBytes 2 9 ++ leBytes 2 1) 33 false 4 dest

/-- States that meet the hypotheses of `ChainMessages`, clause by clause (part 1). -/
theorem witness_ChainMessages_1 :
    (∃ (p : Fin 3) (s : State) (e : Nat × Instr), s.mgt.rst = false ∧ e ∈ [(1, Instr.enumQuery p), (2, Instr.enumCount p), (3,
      Instr.enumAssign p), (4, Instr.enumDone p), (5, Instr.joinMessage p), (6, Instr.joinAssign p), (7, Instr.leave p), (8, Instr.exclude
      p), (9, Instr.censusQuery p), (10, Instr.censusReport p), (11, Instr.censusResult p), (12, Instr.bcastReply p), (13,
      Instr.alignQuery p), (14, Instr.alignReport p)] ∧ (s.takeMsg ↑p fun (m : Msg) => m.internal && decide (m.mtype = e.fst)) = none) ∧
    (∃ (p : Fin 3) (s u : State) (m : Msg) (e : Nat × Instr), s.mgt.rst = false ∧ e ∈ [(1, Instr.enumQuery p), (2, Instr.enumCount p), (3,
      Instr.enumAssign p), (4, Instr.enumDone p), (5, Instr.joinMessage p), (6, Instr.joinAssign p), (7, Instr.leave p), (8, Instr.exclude
      p), (9, Instr.censusQuery p), (10, Instr.censusReport p), (11, Instr.censusResult p), (12, Instr.bcastReply p), (13,
      Instr.alignQuery p), (14, Instr.alignReport p)] ∧ (s.takeMsg ↑p fun (m : Msg) => m.internal && decide (m.mtype = e.fst)) = some (m,
      u) ∧ ¬u.TakesMsg m ∧ u.routePort m.dest = none) ∧
    (∃ (p : Fin 3) (s u : State) (m : Msg) (e : Nat × Instr) (d : Nat), s.mgt.rst = false ∧ e ∈ [(1, Instr.enumQuery p), (2,
      Instr.enumCount p), (3, Instr.enumAssign p), (4, Instr.enumDone p), (5, Instr.joinMessage p), (6, Instr.joinAssign p), (7,
      Instr.leave p), (8, Instr.exclude p), (9, Instr.censusQuery p), (10, Instr.censusReport p), (11, Instr.censusResult p), (12,
      Instr.bcastReply p), (13, Instr.alignQuery p), (14, Instr.alignReport p)] ∧ (s.takeMsg ↑p fun (m : Msg) => m.internal && decide
      (m.mtype = e.fst)) = some (m, u) ∧ ¬u.TakesMsg m ∧ u.routePort m.dest = some d ∧ e.fst ≠ 6 ∧ e.fst ≠ 7) ∧
    (∃ (p : Fin 3) (s u : State) (m : Msg) (e : Nat × Instr) (d : Nat), s.mgt.rst = false ∧ e ∈ [(1, Instr.enumQuery p), (2,
      Instr.enumCount p), (3, Instr.enumAssign p), (4, Instr.enumDone p), (5, Instr.joinMessage p), (6, Instr.joinAssign p), (7,
      Instr.leave p), (8, Instr.exclude p), (9, Instr.censusQuery p), (10, Instr.censusReport p), (11, Instr.censusResult p), (12,
      Instr.bcastReply p), (13, Instr.alignQuery p), (14, Instr.alignReport p)] ∧ (s.takeMsg ↑p fun (m : Msg) => m.internal && decide
      (m.mtype = e.fst)) = some (m, u) ∧ ¬u.TakesMsg m ∧ u.routePort m.dest = some d ∧ e.fst = 6) ∧
    (∃ (p : Fin 3) (s u : State) (m : Msg) (e : Nat × Instr) (d : Nat), s.mgt.rst = false ∧ e ∈ [(1, Instr.enumQuery p), (2,
      Instr.enumCount p), (3, Instr.enumAssign p), (4, Instr.enumDone p), (5, Instr.joinMessage p), (6, Instr.joinAssign p), (7,
      Instr.leave p), (8, Instr.exclude p), (9, Instr.censusQuery p), (10, Instr.censusReport p), (11, Instr.censusResult p), (12,
      Instr.bcastReply p), (13, Instr.alignQuery p), (14, Instr.alignReport p)] ∧ (s.takeMsg ↑p fun (m : Msg) => m.internal && decide
      (m.mtype = e.fst)) = some (m, u) ∧ ¬u.TakesMsg m ∧ u.routePort m.dest = some d ∧ e.fst = 7) ∧
    (∃ (p : Fin 3) (s u : State) (m : Msg), s.mgt.rst = false ∧ (s.takeMsg ↑p fun (m : Msg) => m.internal && decide (m.mtype = 1)) = some
      (m, u) ∧ u.TakesMsg m) ∧
    (∃ (p : Fin 3) (s u : State) (m : Msg), s.mgt.rst = false ∧ (s.takeMsg ↑p fun (m : Msg) => m.internal && decide (m.mtype = 2)) = some
      (m, u) ∧ u.TakesMsg m ∧ Option.map (fun (x : Xact) => x.gen) u.chn.enum_ ≠ some m.xact) ∧
    (∃ (p : Fin 3) (s u : State) (m : Msg) (x : Xact), s.mgt.rst = false ∧ (s.takeMsg ↑p fun (m : Msg) => m.internal && decide (m.mtype =
      2)) = some (m, u) ∧ u.TakesMsg m ∧ u.chn.enum_ = some x ∧ x.gen = m.xact ∧ x.phase = 0 ∧ x.ports.contains ↑p = true ∧ x.full = false
      ∧ (x.add ↑p [m.h 8, m.b 10]).full = false) ∧
    (∃ (p : Fin 3) (s u : State) (m : Msg) (x : Xact), s.mgt.rst = false ∧ (s.takeMsg ↑p fun (m : Msg) => m.internal && decide (m.mtype =
      2)) = some (m, u) ∧ u.TakesMsg m ∧ u.chn.enum_ = some x ∧ x.gen = m.xact ∧ x.phase = 0 ∧ x.ports.contains ↑p = true ∧ x.full = false
      ∧ (x.add ↑p [m.h 8, m.b 10]).full = true ∧ x.cmd = none) ∧
    (∃ (p : Fin 3) (s u : State) (m : Msg) (x : Xact), s.mgt.rst = false ∧ (s.takeMsg ↑p fun (m : Msg) => m.internal && decide (m.mtype =
      2)) = some (m, u) ∧ u.TakesMsg m ∧ u.chn.enum_ = some x ∧ x.gen = m.xact ∧ x.phase = 0 ∧ x.ports.contains ↑p = true ∧ x.full = false
      ∧ (x.add ↑p [m.h 8, m.b 10]).full = true ∧ x.cmd.isSome = true ∧ x.mode = 0) ∧
    (∃ (p : Fin 3) (s u : State) (m : Msg), s.mgt.rst = false ∧ (s.takeMsg ↑p fun (m : Msg) => m.internal && decide (m.mtype = 3)) = some
      (m, u) ∧ u.TakesMsg m ∧ 1 ≤ m.h 10 ∧ u.chn.enum_ = none ∧ u.chn.enumerated = false) ∧
    (∃ (p : Fin 3) (s u : State) (m : Msg), s.mgt.rst = false ∧ (s.takeMsg ↑p fun (m : Msg) => m.internal && decide (m.mtype = 3)) = some
      (m, u) ∧ u.TakesMsg m ∧ u.chn.enum_ = none ∧ (u.chn.enumerated = true ∨ m.h 10 = 0)) :=
  ⟨⟨1, up, (1, Instr.enumQuery 1), by decide +kernel⟩,
   ⟨1, inb r7 (el 1 77), (((inb r7 (el 1 77)).takeMsg 1 fun (m : Msg) => m.internal && decide (m.mtype = ((1, Instr.enumQuery
      1)).fst)).getD (anyMsg, anyState)).snd, (((inb r7 (el 1 77)).takeMsg 1 fun (m : Msg) => m.internal && decide (m.mtype = ((1,
      Instr.enumQuery 1)).fst)).getD (anyMsg, anyState)).fst, (1, Instr.enumQuery 1), by unfold State.TakesMsg; decide +kernel⟩,
   ⟨1, inb r7 (el 1 4), (((inb r7 (el 1 4)).takeMsg 1 fun (m : Msg) => m.internal && decide (m.mtype = ((1, Instr.enumQuery
      1)).fst)).getD (anyMsg, anyState)).snd, (((inb r7 (el 1 4)).takeMsg 1 fun (m : Msg) => m.internal && decide (m.mtype = ((1,
      Instr.enumQuery 1)).fst)).getD (anyMsg, anyState)).fst, (1, Instr.enumQuery 1), (((((inb r7 (el 1 4)).takeMsg 1 fun (m : Msg) =>
      m.internal && decide (m.mtype = ((1, Instr.enumQuery 1)).fst)).getD (anyMsg, anyState)).snd).routePort ((((inb r7 (el 1 4)).takeMsg
      1 fun (m : Msg) => m.internal && decide (m.mtype = ((1, Instr.enumQuery 1)).fst)).getD (anyMsg, anyState)).fst).dest).getD 0,
      by unfold State.TakesMsg; decide +kernel⟩,
   ⟨1, inb r7 (el 6 4), (((inb r7 (el 6 4)).takeMsg 1 fun (m : Msg) => m.internal && decide (m.mtype = ((6, Instr.joinAssign
      1)).fst)).getD (anyMsg, anyState)).snd, (((inb r7 (el 6 4)).takeMsg 1 fun (m : Msg) => m.internal && decide (m.mtype = ((6,
      Instr.joinAssign 1)).fst)).getD (anyMsg, anyState)).fst, (6, Instr.joinAssign 1), (((((inb r7 (el 6 4)).takeMsg 1 fun (m : Msg) =>
      m.internal && decide (m.mtype = ((6, Instr.joinAssign 1)).fst)).getD (anyMsg, anyState)).snd).routePort ((((inb r7 (el 6 4)).takeMsg
      1 fun (m : Msg) => m.internal && decide (m.mtype = ((6, Instr.joinAssign 1)).fst)).getD (anyMsg, anyState)).fst).dest).getD 0,
      by unfold State.TakesMsg; decide +kernel⟩,
   ⟨1, inb r7 (el 7 4), (((inb r7 (el 7 4)).takeMsg 1 fun (m : Msg) => m.internal && decide (m.mtype = ((7, Instr.leave 1)).fst)).getD
      (anyMsg, anyState)).snd, (((inb r7 (el 7 4)).takeMsg 1 fun (m : Msg) => m.internal && decide (m.mtype = ((7, Instr.leave
      1)).fst)).getD (anyMsg, anyState)).fst, (7, Instr.leave 1), (((((inb r7 (el 7 4)).takeMsg 1 fun (m : Msg) => m.internal && decide
      (m.mtype = ((7, Instr.leave 1)).fst)).getD (anyMsg, anyState)).snd).routePort ((((inb r7 (el 7 4)).takeMsg 1 fun (m : Msg) =>
      m.internal && decide (m.mtype = ((7, Instr.leave 1)).fst)).getD (anyMsg, anyState)).fst).dest).getD 0,
      by unfold State.TakesMsg; decide +kernel⟩,
   ⟨0, inb memb m1, (((inb memb m1).takeMsg 0 fun (m : Msg) => m.internal && decide (m.mtype = 1)).getD (anyMsg, anyState)).snd, (((inb
      memb m1).takeMsg 0 fun (m : Msg) => m.internal && decide (m.mtype = 1)).getD (anyMsg, anyState)).fst,
      by unfold State.TakesMsg; decide +kernel⟩,
   ⟨1, inb root1 m2, (((inb root1 m2).takeMsg 1 fun (m : Msg) => m.internal && decide (m.mtype = 2)).getD (anyMsg, anyState)).snd, (((inb
      root1 m2).takeMsg 1 fun (m : Msg) => m.internal && decide (m.mtype = 2)).getD (anyMsg, anyState)).fst,
      by unfold State.TakesMsg; decide +kernel⟩,
   ⟨1, inb (enS root2 (xq 0 [1,2])) m2, (((inb (enS root2 (xq 0 [1,2])) m2).takeMsg 1 fun (m : Msg) => m.internal && decide (m.mtype =
      2)).getD (anyMsg, anyState)).snd, (((inb (enS root2 (xq 0 [1,2])) m2).takeMsg 1 fun (m : Msg) => m.internal && decide (m.mtype =
      2)).getD (anyMsg, anyState)).fst, ((((inb (enS root2 (xq 0 [1,2])) m2).takeMsg 1 fun (m : Msg) => m.internal && decide (m.mtype =
      2)).getD (anyMsg, anyState)).snd).chn.enum_.getD anyXact, by unfold State.TakesMsg; decide +kernel⟩,
   ⟨1, inb (enS root1 (xq 0 [1])) m2, (((inb (enS root1 (xq 0 [1])) m2).takeMsg 1 fun (m : Msg) => m.internal && decide (m.mtype =
      2)).getD (anyMsg, anyState)).snd, (((inb (enS root1 (xq 0 [1])) m2).takeMsg 1 fun (m : Msg) => m.internal && decide (m.mtype =
      2)).getD (anyMsg, anyState)).fst, ((((inb (enS root1 (xq 0 [1])) m2).takeMsg 1 fun (m : Msg) => m.internal && decide (m.mtype =
      2)).getD (anyMsg, anyState)).snd).chn.enum_.getD anyXact, by unfold State.TakesMsg; decide +kernel⟩,
   ⟨1, inb w2 m2, (((inb w2 m2).takeMsg 1 fun (m : Msg) => m.internal && decide (m.mtype = 2)).getD (anyMsg, anyState)).snd, (((inb w2
      m2).takeMsg 1 fun (m : Msg) => m.internal && decide (m.mtype = 2)).getD (anyMsg, anyState)).fst, ((((inb w2 m2).takeMsg 1 fun (m :
      Msg) => m.internal && decide (m.mtype = 2)).getD (anyMsg, anyState)).snd).chn.enum_.getD anyXact,
      by unfold State.TakesMsg; decide +kernel⟩,
   ⟨0, inb fresh m3, (((inb fresh m3).takeMsg 0 fun (m : Msg) => m.internal && decide (m.mtype = 3)).getD (anyMsg, anyState)).snd, (((inb
      fresh m3).takeMsg 0 fun (m : Msg) => m.internal && decide (m.mtype = 3)).getD (anyMsg, anyState)).fst,
      by unfold State.TakesMsg; decide +kernel⟩,
   ⟨0, inb memb m3, (((inb memb m3).takeMsg 0 fun (m : Msg) => m.internal && decide (m.mtype = 3)).getD (anyMsg, anyState)).snd, (((inb
      memb m3).takeMsg 0 fun (m : Msg) => m.internal && decide (m.mtype = 3)).getD (anyMsg, anyState)).fst,
      by unfold State.TakesMsg; decide +kernel⟩⟩

/-- States that meet the hypotheses of `ChainMessages`, clause by clause (part 2). -/
theorem witness_ChainMessages_2 :
    (∃ (p : Fin 3) (s u : State) (m : Msg) (x : Xact), s.mgt.rst = false ∧ (s.takeMsg ↑p fun (m : Msg) => m.internal && decide (m.mtype =
      3)) = some (m, u) ∧ u.TakesMsg m ∧ u.chn.enum_ = some x ∧ (x.gen ≠ m.xact ∨ x.phase ≠ 1)) ∧
    (∃ (p : Fin 3) (s u : State) (m : Msg) (x : Xact), s.mgt.rst = false ∧ (s.takeMsg ↑p fun (m : Msg) => m.internal && decide (m.mtype =
      3)) = some (m, u) ∧ u.TakesMsg m ∧ u.chn.enum_ = some x ∧ x.gen = m.xact ∧ x.phase = 1 ∧ m.b 8 % 2 = x.mode ∧ x.mode = 0 ∧ 1 ≤ m.h
      10 ∧ x.cmd = none ∧ x.ports = [] ∧ u.downUp = []) ∧
    (∃ (p : Fin 3) (s u : State) (m : Msg), s.mgt.rst = false ∧ (s.takeMsg ↑p fun (m : Msg) => m.internal && decide (m.mtype = 4)) = some
      (m, u) ∧ u.TakesMsg m ∧ Option.map (fun (x : Xact) => x.gen) u.chn.enum_ ≠ some m.xact) ∧
    (∃ (p : Fin 3) (s u : State) (m : Msg) (x : Xact), s.mgt.rst = false ∧ (s.takeMsg ↑p fun (m : Msg) => m.internal && decide (m.mtype =
      4)) = some (m, u) ∧ u.TakesMsg m ∧ u.chn.enum_ = some x ∧ x.gen = m.xact ∧ x.phase = 1 ∧ x.ports.contains ↑p = true ∧ x.full = false
      ∧ (x.add ↑p [m.h 8, m.h 10, m.b 12]).full = false) ∧
    (∃ (p : Fin 3) (s u : State) (m : Msg) (x : Xact), s.mgt.rst = false ∧ (s.takeMsg ↑p fun (m : Msg) => m.internal && decide (m.mtype =
      4)) = some (m, u) ∧ u.TakesMsg m ∧ u.chn.enum_ = some x ∧ x.gen = m.xact ∧ x.phase = 1 ∧ x.ports.contains ↑p = true ∧ x.full = false
      ∧ (x.add ↑p [m.h 8, m.h 10, m.b 12]).full = true ∧ x.cmd = none) ∧
    (∃ (p : Fin 3) (s u : State) (m : Msg) (x : Xact) (q : Fin 10) (k : Nat), s.mgt.rst = false ∧ (s.takeMsg ↑p fun (m : Msg) =>
      m.internal && decide (m.mtype = 4)) = some (m, u) ∧ u.TakesMsg m ∧ u.chn.enum_ = some x ∧ x.gen = m.xact ∧ x.phase = 1 ∧
      x.ports.contains ↑p = true ∧ x.full = false ∧ (x.add ↑p [m.h 8, m.h 10, m.b 12]).full = true ∧ x.cmd = some { q := ↑q, k := k } ∧
      u.Waits (↑q) k) ∧
    (∃ (p : Fin 3) (s u : State) (m : Msg), s.mgt.rst = false ∧ (s.takeMsg ↑p fun (m : Msg) => m.internal && decide (m.mtype = 5)) = some
      (m, u) ∧ u.TakesMsg m ∧ (u.rb RegId.CHN_CTL 0 0 2 = false ∨ lowestFree u.chn.route = none ∨ m.h 8 ≠ u.ownAddr ∧ u.routePort (m.h 8)
      = none)) ∧
    (∃ (p : Fin 3) (s u : State) (m : Msg) (a : Nat), s.mgt.rst = false ∧ (s.takeMsg ↑p fun (m : Msg) => m.internal && decide (m.mtype =
      5)) = some (m, u) ∧ u.TakesMsg m ∧ u.rb RegId.CHN_CTL 0 0 2 = true ∧ lowestFree u.chn.route = some a ∧ m.h 8 = u.ownAddr) ∧
    (∃ (p : Fin 3) (s u : State) (m : Msg) (a d : Nat), s.mgt.rst = false ∧ (s.takeMsg ↑p fun (m : Msg) => m.internal && decide (m.mtype =
      5)) = some (m, u) ∧ u.TakesMsg m ∧ u.rb RegId.CHN_CTL 0 0 2 = true ∧ lowestFree u.chn.route = some a ∧ m.h 8 ≠ u.ownAddr ∧
      u.routePort (m.h 8) = some d) ∧
    (∃ (p : Fin 3) (s u : State) (m : Msg), s.mgt.rst = false ∧ (s.takeMsg ↑p fun (m : Msg) => m.internal && decide (m.mtype = 6)) = some
      (m, u) ∧ u.TakesMsg m) ∧
    (∃ (p : Fin 3) (s u : State) (m : Msg), s.mgt.rst = false ∧ (s.takeMsg ↑p fun (m : Msg) => m.internal && decide (m.mtype = 7)) = some
      (m, u) ∧ u.TakesMsg m) ∧
    (∃ (p : Fin 3) (s u : State) (m : Msg), s.mgt.rst = false ∧ (s.takeMsg ↑p fun (m : Msg) => m.internal && decide (m.mtype = 8)) = some
      (m, u) ∧ u.TakesMsg m) :=
  ⟨⟨0, inb (enS fresh (xq0 0 [])) m30, (((inb (enS fresh (xq0 0 [])) m30).takeMsg 0 fun (m : Msg) => m.internal && decide (m.mtype =
      3)).getD (anyMsg, anyState)).snd, (((inb (enS fresh (xq0 0 [])) m30).takeMsg 0 fun (m : Msg) => m.internal && decide (m.mtype =
      3)).getD (anyMsg, anyState)).fst, ((((inb (enS fresh (xq0 0 [])) m30).takeMsg 0 fun (m : Msg) => m.internal && decide (m.mtype =
      3)).getD (anyMsg, anyState)).snd).chn.enum_.getD anyXact, by unfold State.TakesMsg; decide +kernel⟩,
   ⟨0, inb (enS fresh (xq0 1 [])) m30, (((inb (enS fresh (xq0 1 [])) m30).takeMsg 0 fun (m : Msg) => m.internal && decide (m.mtype =
      3)).getD (anyMsg, anyState)).snd, (((inb (enS fresh (xq0 1 [])) m30).takeMsg 0 fun (m : Msg) => m.internal && decide (m.mtype =
      3)).getD (anyMsg, anyState)).fst, ((((inb (enS fresh (xq0 1 [])) m30).takeMsg 0 fun (m : Msg) => m.internal && decide (m.mtype =
      3)).getD (anyMsg, anyState)).snd).chn.enum_.getD anyXact, by unfold State.TakesMsg; decide +kernel⟩,
   ⟨1, inb root1 m4, (((inb root1 m4).takeMsg 1 fun (m : Msg) => m.internal && decide (m.mtype = 4)).getD (anyMsg, anyState)).snd, (((inb
      root1 m4).takeMsg 1 fun (m : Msg) => m.internal && decide (m.mtype = 4)).getD (anyMsg, anyState)).fst,
      by unfold State.TakesMsg; decide +kernel⟩,
   ⟨1, inb (enS root2 (xq 1 [1, 2])) m4, (((inb (enS root2 (xq 1 [1, 2])) m4).takeMsg 1 fun (m : Msg) => m.internal && decide (m.mtype =
      4)).getD (anyMsg, anyState)).snd, (((inb (enS root2 (xq 1 [1, 2])) m4).takeMsg 1 fun (m : Msg) => m.internal && decide (m.mtype =
      4)).getD (anyMsg, anyState)).fst, ((((inb (enS root2 (xq 1 [1, 2])) m4).takeMsg 1 fun (m : Msg) => m.internal && decide (m.mtype =
      4)).getD (anyMsg, anyState)).snd).chn.enum_.getD anyXact, by unfold State.TakesMsg; decide +kernel⟩,
   ⟨1, inb (enS root1 (xq 1 [1])) m4, (((inb (enS root1 (xq 1 [1])) m4).takeMsg 1 fun (m : Msg) => m.internal && decide (m.mtype =
      4)).getD (anyMsg, anyState)).snd, (((inb (enS root1 (xq 1 [1])) m4).takeMsg 1 fun (m : Msg) => m.internal && decide (m.mtype =
      4)).getD (anyMsg, anyState)).fst, ((((inb (enS root1 (xq 1 [1])) m4).takeMsg 1 fun (m : Msg) => m.internal && decide (m.mtype =
      4)).getD (anyMsg, anyState)).snd).chn.enum_.getD anyXact, by unfold State.TakesMsg; decide +kernel⟩,
   ⟨1, inb w4 m4, (((inb w4 m4).takeMsg 1 fun (m : Msg) => m.internal && decide (m.mtype = 4)).getD (anyMsg, anyState)).snd, (((inb w4
      m4).takeMsg 1 fun (m : Msg) => m.internal && decide (m.mtype = 4)).getD (anyMsg, anyState)).fst, ((((inb w4 m4).takeMsg 1 fun (m :
      Msg) => m.internal && decide (m.mtype = 4)).getD (anyMsg, anyState)).snd).chn.enum_.getD anyXact, 3, 0,
      by and_intros <;> first | decide +kernel | (unfold State.TakesMsg; decide +kernel) | exact waits_of (by decide +kernel)⟩,
   ⟨1, inb root1 m5, (((inb root1 m5).takeMsg 1 fun (m : Msg) => m.internal && decide (m.mtype = 5)).getD (anyMsg, anyState)).snd, (((inb
      root1 m5).takeMsg 1 fun (m : Msg) => m.internal && decide (m.mtype = 5)).getD (anyMsg, anyState)).fst,
      by unfold State.TakesMsg; decide +kernel⟩,
   ⟨1, inb (rootAuto root1) m5, (((inb (rootAuto root1) m5).takeMsg 1 fun (m : Msg) => m.internal && decide (m.mtype = 5)).getD (anyMsg,
      anyState)).snd, (((inb (rootAuto root1) m5).takeMsg 1 fun (m : Msg) => m.internal && decide (m.mtype = 5)).getD (anyMsg,
      anyState)).fst, 1, by unfold State.TakesMsg; decide +kernel⟩,
   ⟨1, inb (rootAuto r7) m5r, (((inb (rootAuto r7) m5r).takeMsg 1 fun (m : Msg) => m.internal && decide (m.mtype = 5)).getD (anyMsg,
      anyState)).snd, (((inb (rootAuto r7) m5r).takeMsg 1 fun (m : Msg) => m.internal && decide (m.mtype = 5)).getD (anyMsg,
      anyState)).fst, 1, (((((inb (rootAuto r7) m5r).takeMsg 1 fun (m : Msg) => m.internal && decide (m.mtype = 5)).getD (anyMsg,
      anyState)).snd).routePort (((((inb (rootAuto r7) m5r).takeMsg 1 fun (m : Msg) => m.internal && decide (m.mtype = 5)).getD (anyMsg,
      anyState)).fst).h 8)).getD 0, by unfold State.TakesMsg; decide +kernel⟩,
   ⟨0, inb memb m6, (((inb memb m6).takeMsg 0 fun (m : Msg) => m.internal && decide (m.mtype = 6)).getD (anyMsg, anyState)).snd, (((inb
      memb m6).takeMsg 0 fun (m : Msg) => m.internal && decide (m.mtype = 6)).getD (anyMsg, anyState)).fst,
      by unfold State.TakesMsg; decide +kernel⟩,
   ⟨1, inb r7 m7, (((inb r7 m7).takeMsg 1 fun (m : Msg) => m.internal && decide (m.mtype = 7)).getD (anyMsg, anyState)).snd, (((inb r7
      m7).takeMsg 1 fun (m : Msg) => m.internal && decide (m.mtype = 7)).getD (anyMsg, anyState)).fst,
      by unfold State.TakesMsg; decide +kernel⟩,
   ⟨1, inb root1 m8, (((inb root1 m8).takeMsg 1 fun (m : Msg) => m.internal && decide (m.mtype = 8)).getD (anyMsg, anyState)).snd, (((inb
      root1 m8).takeMsg 1 fun (m : Msg) => m.internal && decide (m.mtype = 8)).getD (anyMsg, anyState)).fst,
      by unfold State.TakesMsg; decide +kernel⟩⟩

/-- States that meet the hypotheses of `ChainMessages`, clause by clause (part 3). -/
theorem witness_ChainMessages_3 :
    (∃ (p : Fin 3) (s u : State) (m : Msg), s.mgt.rst = false ∧ (s.takeMsg ↑p fun (m : Msg) => m.internal && decide (m.mtype = 9)) = some
      (m, u) ∧ u.TakesMsg m) ∧
    (∃ (p : Fin 3) (s u : State) (m : Msg), s.mgt.rst = false ∧ (s.takeMsg ↑p fun (m : Msg) => m.internal && decide (m.mtype = 10)) = some
      (m, u) ∧ u.TakesMsg m ∧ ∀ (x : Census), u.chn.census = some x → x.gen ≠ m.xact ∨ ∃ (r : Nat × List Byte), r ∈ x.reports ∧ r.fst =
      m.src) ∧
    (∃ (p : Fin 3) (s u : State) (m : Msg) (x : Census), s.mgt.rst = false ∧ (s.takeMsg ↑p fun (m : Msg) => m.internal && decide (m.mtype
      = 10)) = some (m, u) ∧ u.TakesMsg m ∧ u.chn.census = some x ∧ x.gen = m.xact ∧ (∀ (r : Nat × List Byte), r ∈ x.reports → r.fst ≠
      m.src) ∧ ∃ (e : Nat × Bool × W64), e ∈ x.table ∧ (∀ (r : Nat × List Byte), r ∈ (x.reports ++ [(m.src, List.take (m.h 2) (List.drop 8
      m.content))]) → r.fst ≠ e.fst) ∧ (e.fst = u.ownAddr ∨ (u.routePort e.fst).isSome = true)) ∧
    (∃ (p : Fin 3) (s u : State) (m : Msg) (x : Census) (q : Fin 10) (k : Nat), s.mgt.rst = false ∧ (s.takeMsg ↑p fun (m : Msg) =>
      m.internal && decide (m.mtype = 10)) = some (m, u) ∧ u.TakesMsg m ∧ u.chn.census = some x ∧ x.gen = m.xact ∧ (∀ (r : Nat × List
      Byte), r ∈ x.reports → r.fst ≠ m.src) ∧ (∀ (e : Nat × Bool × W64), e ∈ x.table → (∃ (r : Nat × List Byte), r ∈ (x.reports ++
      [(m.src, List.take (m.h 2) (List.drop 8 m.content))]) ∧ r.fst = e.fst) ∨ e.fst ≠ u.ownAddr ∧ u.routePort e.fst = none) ∧ x.cmd =
      { q := ↑q, k := k } ∧ u.Waits (↑q) k) ∧
    (∃ (p : Fin 3) (s u : State) (m : Msg), s.mgt.rst = false ∧ (s.takeMsg ↑p fun (m : Msg) => m.internal && decide (m.mtype = 11)) = some
      (m, u) ∧ u.TakesMsg m) ∧
    (∃ (p : Fin 3) (s u : State) (m : Msg), s.mgt.rst = false ∧ (s.takeMsg ↑p fun (m : Msg) => m.internal && decide (m.mtype = 12)) = some
      (m, u) ∧ u.TakesMsg m ∧ ∀ (b : Bcast), b ∈ u.chn.bcasts → b.num ≠ m.xact) ∧
    (∃ (p : Fin 3) (s u : State) (m : Msg) (b : Bcast), s.mgt.rst = false ∧ (s.takeMsg ↑p fun (m : Msg) => m.internal && decide (m.mtype =
      12)) = some (m, u) ∧ u.TakesMsg m ∧ u.chn.bcasts = [b] ∧ b.num = m.xact ∧ b.ports.contains ↑p = true ∧ (∀ (g : Nat × List Nat), g ∈
      b.got → g.fst ≠ ↑p) ∧ Bcast.complete { b with got := b.got ++ [(↑p, [m.h 8, m.h 10, m.h 12, m.b 14, m.b 15, m.w 16])] } = false) ∧
    (∃ (p : Fin 3) (s u : State) (m : Msg) (b : Bcast) (q : Fin 10) (k : Nat) (c : Cmd), s.mgt.rst = false ∧ (s.takeMsg ↑p fun (m : Msg)
      => m.internal && decide (m.mtype = 12)) = some (m, u) ∧ u.TakesMsg m ∧ u.chn.bcasts = [b] ∧ b.num = m.xact ∧ b.ports.contains ↑p =
      true ∧ (∀ (g : Nat × List Nat), g ∈ b.got → g.fst ≠ ↑p) ∧ Bcast.complete
      { b with got := b.got ++ [(↑p, [m.h 8, m.h 10, m.h 12, m.b 14, m.b 15, m.w 16])] } = true ∧ b.cmd = { q := ↑q, k := k } ∧ (u.q
      ↑q).find k = some c ∧ c.phase = Phase.begun ∧ (u.q ↑q).resetting = false) ∧
    (∃ (p : Fin 3) (s u : State) (m : Msg), s.mgt.rst = false ∧ (s.takeMsg ↑p fun (m : Msg) => m.internal && decide (m.mtype = 13)) = some
      (m, u) ∧ u.TakesMsg m ∧ u.portUp 0 = true) ∧
    (∃ (p : Fin 3) (s u : State) (m : Msg), s.mgt.rst = false ∧ (s.takeMsg ↑p fun (m : Msg) => m.internal && decide (m.mtype = 13)) = some
      (m, u) ∧ u.TakesMsg m ∧ u.portUp 0 = false ∧ m.b 8 % 2 = 0) ∧
    (∃ (p : Fin 3) (s u : State) (m : Msg), s.mgt.rst = false ∧ (s.takeMsg ↑p fun (m : Msg) => m.internal && decide (m.mtype = 14)) = some
      (m, u) ∧ u.TakesMsg m ∧ u.chn.align = none) ∧
    (∃ (p : Fin 3) (s u : State) (m : Msg) (x : Xact), s.mgt.rst = false ∧ (s.takeMsg ↑p fun (m : Msg) => m.internal && decide (m.mtype =
      14)) = some (m, u) ∧ u.TakesMsg m ∧ u.chn.align = some x ∧ x.ports.contains ↑p = true ∧ ((x.add ↑p [m.w 8, m.h 12, m.h 14]).full =
      false ∨ u.chn.series ≠ 0)) :=
  ⟨⟨0, inb memb m9, (((inb memb m9).takeMsg 0 fun (m : Msg) => m.internal && decide (m.mtype = 9)).getD (anyMsg, anyState)).snd, (((inb
      memb m9).takeMsg 0 fun (m : Msg) => m.internal && decide (m.mtype = 9)).getD (anyMsg, anyState)).fst,
      by unfold State.TakesMsg; decide +kernel⟩,
   ⟨1, inb r7 m10, (((inb r7 m10).takeMsg 1 fun (m : Msg) => m.internal && decide (m.mtype = 10)).getD (anyMsg, anyState)).snd, (((inb r7
      m10).takeMsg 1 fun (m : Msg) => m.internal && decide (m.mtype = 10)).getD (anyMsg, anyState)).fst,
      by unfold State.TakesMsg; decide +kernel⟩,
   ⟨1, inb (r10 cen) m10, (((inb (r10 cen) m10).takeMsg 1 fun (m : Msg) => m.internal && decide (m.mtype = 10)).getD (anyMsg,
      anyState)).snd, (((inb (r10 cen) m10).takeMsg 1 fun (m : Msg) => m.internal && decide (m.mtype = 10)).getD (anyMsg, anyState)).fst,
      ((((inb (r10 cen) m10).takeMsg 1 fun (m : Msg) => m.internal && decide (m.mtype = 10)).getD (anyMsg, anyState)).snd).chn.census.getD
      anyCensus, by unfold State.TakesMsg; decide +kernel⟩,
   ⟨1, inb (on3 (begun c2) (r10 cen1)) m10, (((inb (on3 (begun c2) (r10 cen1)) m10).takeMsg 1 fun (m : Msg) => m.internal && decide
      (m.mtype = 10)).getD (anyMsg, anyState)).snd, (((inb (on3 (begun c2) (r10 cen1)) m10).takeMsg 1 fun (m : Msg) => m.internal &&
      decide (m.mtype = 10)).getD (anyMsg, anyState)).fst, ((((inb (on3 (begun c2) (r10 cen1)) m10).takeMsg 1 fun (m : Msg) => m.internal
      && decide (m.mtype = 10)).getD (anyMsg, anyState)).snd).chn.census.getD anyCensus, 3, 0,
      by and_intros <;> first | decide +kernel | (unfold State.TakesMsg; decide +kernel) | exact waits_of (by decide +kernel)⟩,
   ⟨0, inb memb m11, (((inb memb m11).takeMsg 0 fun (m : Msg) => m.internal && decide (m.mtype = 11)).getD (anyMsg, anyState)).snd,
      (((inb memb m11).takeMsg 0 fun (m : Msg) => m.internal && decide (m.mtype = 11)).getD (anyMsg, anyState)).fst,
      by unfold State.TakesMsg; decide +kernel⟩,
   ⟨1, inb root1 m12, (((inb root1 m12).takeMsg 1 fun (m : Msg) => m.internal && decide (m.mtype = 12)).getD (anyMsg, anyState)).snd,
      (((inb root1 m12).takeMsg 1 fun (m : Msg) => m.internal && decide (m.mtype = 12)).getD (anyMsg, anyState)).fst,
      by unfold State.TakesMsg; decide +kernel⟩,
   ⟨1, inb (s12 [1, 2]) m12, (((inb (s12 [1, 2]) m12).takeMsg 1 fun (m : Msg) => m.internal && decide (m.mtype = 12)).getD (anyMsg,
      anyState)).snd, (((inb (s12 [1, 2]) m12).takeMsg 1 fun (m : Msg) => m.internal && decide (m.mtype = 12)).getD (anyMsg,
      anyState)).fst, ((((inb (s12 [1, 2]) m12).takeMsg 1 fun (m : Msg) => m.internal && decide (m.mtype = 12)).getD (anyMsg,
      anyState)).snd).chn.bcasts.headD anyBcast, by unfold State.TakesMsg; decide +kernel⟩,
   ⟨1, inb s12 m12, (((inb s12 m12).takeMsg 1 fun (m : Msg) => m.internal && decide (m.mtype = 12)).getD (anyMsg, anyState)).snd, (((inb
      s12 m12).takeMsg 1 fun (m : Msg) => m.internal && decide (m.mtype = 12)).getD (anyMsg, anyState)).fst, ((((inb s12 m12).takeMsg 1
      fun (m : Msg) => m.internal && decide (m.mtype = 12)).getD (anyMsg, anyState)).snd).chn.bcasts.headD anyBcast, 3, 0, ((((((inb s12
      m12).takeMsg 1 fun (m : Msg) => m.internal && decide (m.mtype = 12)).getD (anyMsg, anyState)).snd).q 3).find 0).getD anyCmd,
      by unfold State.TakesMsg; decide +kernel⟩,
   ⟨0, inb memb m13, (((inb memb m13).takeMsg 0 fun (m : Msg) => m.internal && decide (m.mtype = 13)).getD (anyMsg, anyState)).snd,
      (((inb memb m13).takeMsg 0 fun (m : Msg) => m.internal && decide (m.mtype = 13)).getD (anyMsg, anyState)).fst,
      by unfold State.TakesMsg; decide +kernel⟩,
   ⟨0, inb (pt memb 0 {}) m13, (((inb (pt memb 0 {}) m13).takeMsg 0 fun (m : Msg) => m.internal && decide (m.mtype = 13)).getD (anyMsg,
      anyState)).snd, (((inb (pt memb 0 {}) m13).takeMsg 0 fun (m : Msg) => m.internal && decide (m.mtype = 13)).getD (anyMsg,
      anyState)).fst, by unfold State.TakesMsg; decide +kernel⟩,
   ⟨1, inb root1 m14, (((inb root1 m14).takeMsg 1 fun (m : Msg) => m.internal && decide (m.mtype = 14)).getD (anyMsg, anyState)).snd,
      (((inb root1 m14).takeMsg 1 fun (m : Msg) => m.internal && decide (m.mtype = 14)).getD (anyMsg, anyState)).fst,
      by unfold State.TakesMsg; decide +kernel⟩,
   ⟨1, inb (s14 [1, 2]) m14, (((inb (s14 [1, 2]) m14).takeMsg 1 fun (m : Msg) => m.internal && decide (m.mtype = 14)).getD (anyMsg,
      anyState)).snd, (((inb (s14 [1, 2]) m14).takeMsg 1 fun (m : Msg) => m.internal && decide (m.mtype = 14)).getD (anyMsg,
      anyState)).fst, ((((inb (s14 [1, 2]) m14).takeMsg 1 fun (m : Msg) => m.internal && decide (m.mtype = 14)).getD (anyMsg,
      anyState)).snd).chn.align.getD anyXact, by unfold State.TakesMsg; decide +kernel⟩⟩

/-- States that meet the hypotheses of `ChainMessages`, clause by clause (part 4). -/
theorem witness_ChainMessages_4 :
    (∃ (p : Fin 3) (s u : State) (m : Msg) (x : Xact) (q : Fin 10) (k : Nat), s.mgt.rst = false ∧ (s.takeMsg ↑p fun (m : Msg) =>
      m.internal && decide (m.mtype = 14)) = some (m, u) ∧ u.TakesMsg m ∧ u.chn.align = some x ∧ x.ports.contains ↑p = true ∧ (x.add ↑p
      [m.w 8, m.h 12, m.h 14]).full = true ∧ u.chn.series = 0 ∧ x.cmd = some { q := ↑q, k := k } ∧ u.Waits (↑q) k) ∧
    (∃ (p : Fin 3) (s : State), s.mgt.rst = false ∧ s.takeRecord (↑p) 2 = none) ∧
    (∃ (p : Fin 3) (s u : State) (b : List Byte) (g : Fin 8), s.mgt.rst = false ∧ s.takeRecord (↑p) 2 = some (b, u) ∧ u.rf RegId.Gn_BIND
      (↑g) 0 2 0 = 3 ∧ u.rf RegId.Gn_BIND (↑g) 0 31 16 = leAt b 2 2) ∧
    (∃ (p : Fin 3) (s : State), s.mgt.rst = false ∧ s.takeRecord (↑p) 3 = none) ∧
    (∃ (p : Fin 3) (s u : State) (b : List Byte), s.mgt.rst = false ∧ s.takeRecord (↑p) 3 = some (b, u)) ∧
    (∃ (p : Fin 3) (s : State) (x : Xact), s.mgt.rst = false ∧ s.chn.enum_ = some x ∧ x.ports.contains ↑p = true ∧ x.full = false ∧ (x.add
      ↑p [0, 0, 0]).full = false) ∧
    (∃ (p : Fin 3) (s : State) (x : Xact), s.mgt.rst = false ∧ s.chn.enum_ = some x ∧ x.ports.contains ↑p = true ∧ x.full = false ∧ (x.add
      ↑p [0, 0, 0]).full = true ∧ x.phase = 1 ∧ x.cmd = none) ∧
    (∃ (p : Fin 3) (s : State) (x : Xact), s.mgt.rst = false ∧ s.chn.align = some x ∧ x.ports.contains ↑p = true ∧ ((x.add ↑p [0, 0,
      0]).full = false ∨ s.chn.series ≠ 0)) ∧
    (∃ (p : Fin 3) (s : State) (x : Xact), s.mgt.rst = false ∧ s.chn.align = some x ∧ x.ports.contains ↑p = true ∧ (x.add ↑p [0, 0,
      0]).full = true ∧ s.chn.series = 0 ∧ x.cmd = none) ∧
    (∃ (s : State) (x : Census) (q : Fin 10) (k : Nat), s.mgt.rst = false ∧ s.chn.census = some x ∧ x.cmd = { q := ↑q, k := k } ∧ s.Waits
      (↑q) k) ∧
    (∃ (p : Fin 3) (s : State) (b : Bcast), s.mgt.rst = false ∧ s.chn.bcasts = [b] ∧ b.ports.contains ↑p = true ∧ (∀ (g : Nat × List Nat),
      g ∈ b.got → g.fst ≠ ↑p) ∧ Bcast.complete
      { b with got := b.got ++ [(↑p, [0, 1, (Option.map (fun (y : Nat × Bool × Nat) => y.fst) (s.port ↑p).partner).getD 0, stTimeout, 0, 0])] }
      = false) ∧
    (∃ (p : Fin 3) (s : State) (b : Bcast) (q : Fin 10) (k : Nat) (c : Cmd), s.mgt.rst = false ∧ s.chn.bcasts = [b] ∧ b.ports.contains ↑p
      = true ∧ (∀ (g : Nat × List Nat), g ∈ b.got → g.fst ≠ ↑p) ∧ Bcast.complete
      { b with got := b.got ++ [(↑p, [0, 1, (Option.map (fun (y : Nat × Bool × Nat) => y.fst) (s.port ↑p).partner).getD 0, stTimeout, 0, 0])] }
      = true ∧ b.cmd = { q := ↑q, k := k } ∧ (s.q ↑q).find k = some c ∧ c.phase = Phase.begun ∧ (s.q ↑q).resetting = false) :=
  ⟨⟨1, inb s14 m14, (((inb s14 m14).takeMsg 1 fun (m : Msg) => m.internal && decide (m.mtype = 14)).getD (anyMsg, anyState)).snd, (((inb
      s14 m14).takeMsg 1 fun (m : Msg) => m.internal && decide (m.mtype = 14)).getD (anyMsg, anyState)).fst, ((((inb s14 m14).takeMsg 1
      fun (m : Msg) => m.internal && decide (m.mtype = 14)).getD (anyMsg, anyState)).snd).chn.align.getD anyXact, 3, 0,
      by and_intros <;> first | decide +kernel | (unfold State.TakesMsg; decide +kernel) | exact waits_of (by decide +kernel)⟩,
   ⟨1, up, by decide +kernel⟩,
   ⟨1, inb s15 (recd tb_), (((inb s15 (recd tb_)).takeRecord (1) 2).getD ([], anyState)).snd, (((inb s15 (recd tb_)).takeRecord (1)
      2).getD ([], anyState)).fst, 4, by decide +kernel⟩,
   ⟨1, up, by decide +kernel⟩,
   ⟨1, inb s15 (recd mk_), (((inb s15 (recd mk_)).takeRecord (1) 3).getD ([], anyState)).snd, (((inb s15 (recd mk_)).takeRecord (1)
      3).getD ([], anyState)).fst, by decide +kernel⟩,
   ⟨1, inb (enS root2 (xq 0 [1,2])) m2, (inb (enS root2 (xq 0 [1,2])) m2).chn.enum_.getD anyXact, by decide +kernel⟩,
   ⟨1, inb (enS root1 (xq 1 [1])) m4, (inb (enS root1 (xq 1 [1])) m4).chn.enum_.getD anyXact, by decide +kernel⟩,
   ⟨1, inb (s14 [1, 2]) m14, (inb (s14 [1, 2]) m14).chn.align.getD anyXact, by decide +kernel⟩,
   ⟨1, s14 [1] none, (s14 [1] none).chn.align.getD anyXact, by decide +kernel⟩,
   ⟨inb (on3 (begun c2) (r10 cen1)) m10, (inb (on3 (begun c2) (r10 cen1)) m10).chn.census.getD anyCensus, 3, 0, by decide +kernel,
      by decide +kernel, by decide +kernel, waits_of (by decide +kernel)⟩,
   ⟨1, inb (s12 [1, 2]) m12, (inb (s12 [1, 2]) m12).chn.bcasts.headD anyBcast, by decide +kernel⟩,
   ⟨1, inb s12 m12, (inb s12 m12).chn.bcasts.headD anyBcast, 3, 0, (((inb s12 m12).q 3).find 0).getD anyCmd, by decide +kernel⟩⟩

/-- States that meet the hypotheses of `ChainMessages`, clause by clause (part 5). -/
theorem witness_ChainMessages_5 :
    (∃ (s : State), s.mgt.rst = false ∧ s.chn.enum_ = none) ∧
    (∃ (s : State), s.mgt.rst = false ∧ s.chn.align = none) ∧
    (∃ (s : State), s.mgt.rst = false ∧ s.chn.census = none) ∧
    (∃ (s : State), s.mgt.rst = false ∧ s.chn.bcasts = []) ∧
    (∃ (p : Fin 3) (s : State), s.mgt.rst = false ∧ (s.takeMsg ↑p fun (m : Msg) => !m.internal) = none) ∧
    (∃ (p : Fin 3) (s u : State) (m : Msg), s.mgt.rst = false ∧ (s.takeMsg ↑p fun (m : Msg) => !m.internal) = some (m, u) ∧ m.bcast = true
      ∧ p ≠ 0 ∧ u.isTop = true) ∧
    (∃ (p : Fin 3) (s u : State) (m : Msg), s.mgt.rst = false ∧ (s.takeMsg ↑p fun (m : Msg) => !m.internal) = some (m, u) ∧ m.bcast = true
      ∧ p ≠ 0 ∧ u.isTop = false) ∧
    (∃ (s u : State) (m : Msg), s.mgt.rst = false ∧ (s.takeMsg ↑0 fun (m : Msg) => !m.internal) = some (m, u) ∧ m.bcast = true ∧ u.downUp
      = []) ∧
    (∃ (p : Fin 3) (s u : State) (m : Msg), s.mgt.rst = false ∧ (s.takeMsg ↑p fun (m : Msg) => !m.internal) = some (m, u) ∧ m.bcast =
      false ∧ u.chn.enumerated = true ∧ m.dest = u.ownAddr ∧ m.vc ≠ 1) ∧
    (∃ (p : Fin 3) (s u : State) (m : Msg) (q : Fin 9) (c : Cmd), s.mgt.rst = false ∧ (s.takeMsg ↑p fun (m : Msg) => !m.internal) = some
      (m, u) ∧ m.bcast = false ∧ u.chn.enumerated = true ∧ m.dest = u.ownAddr ∧ m.vc = 1 ∧ leAt m.content 4 2 / 4096 = ↑q ∧ List.filter
      (fun (y : Cmd) => decide (y.phase = Phase.begun) && decide (y.hdr.tag = leAt m.content 4 2 % 4096) && decide (y.hdr.seq = leAt
      m.content 8 4)) (u.q ↑q).inflight = [c] ∧ (u.q ↑q).find c.k = some c ∧ (u.q ↑q).resetting = false) ∧
    (∃ (p : Fin 3) (s u : State) (m : Msg) (d : Nat), s.mgt.rst = false ∧ (s.takeMsg ↑p fun (m : Msg) => !m.internal) = some (m, u) ∧
      m.bcast = false ∧ (u.chn.enumerated = false ∨ m.dest ≠ u.ownAddr) ∧ u.routePort m.dest = some d ∧ u.portUp d = true) ∧
    (∃ (p : Fin 3) (s u : State) (m : Msg), s.mgt.rst = false ∧ (s.takeMsg ↑p fun (m : Msg) => !m.internal) = some (m, u) ∧ m.bcast =
      false ∧ (u.chn.enumerated = false ∨ m.dest ≠ u.ownAddr) ∧ (∀ (d : Nat), u.routePort m.dest = some d → u.portUp d = false) ∧ m.vc =
      0) :=
  ⟨⟨up, by decide +kernel⟩,
   ⟨up, by decide +kernel⟩,
   ⟨up, by decide +kernel⟩,
   ⟨up, by decide +kernel⟩,
   ⟨1, up, by decide +kernel⟩,
   ⟨1, inb root1 (pm 0 0 1 true), (((inb root1 (pm 0 0 1 true)).takeMsg 1 fun (m : Msg) => !m.internal).getD (anyMsg, anyState)).snd,
      (((inb root1 (pm 0 0 1 true)).takeMsg 1 fun (m : Msg) => !m.internal).getD (anyMsg, anyState)).fst, by decide +kernel⟩,
   ⟨1, inb memb (pm 0 0 1 true), (((inb memb (pm 0 0 1 true)).takeMsg 1 fun (m : Msg) => !m.internal).getD (anyMsg, anyState)).snd,
      (((inb memb (pm 0 0 1 true)).takeMsg 1 fun (m : Msg) => !m.internal).getD (anyMsg, anyState)).fst, by decide +kernel⟩,
   ⟨inb fresh (pm 0 0 0 true), (((inb fresh (pm 0 0 0 true)).takeMsg 0 fun (m : Msg) => !m.internal).getD (anyMsg, anyState)).snd, (((inb
      fresh (pm 0 0 0 true)).takeMsg 0 fun (m : Msg) => !m.internal).getD (anyMsg, anyState)).fst, by decide +kernel⟩,
   ⟨0, inb memb (pm 5 0 0), (((inb memb (pm 5 0 0)).takeMsg 0 fun (m : Msg) => !m.internal).getD (anyMsg, anyState)).snd, (((inb memb (pm
      5 0 0)).takeMsg 0 fun (m : Msg) => !m.internal).getD (anyMsg, anyState)).fst, by decide +kernel⟩,
   ⟨0, inb (on3 rq memb) (pm 5 1 0), (((inb (on3 rq memb) (pm 5 1 0)).takeMsg 0 fun (m : Msg) => !m.internal).getD (anyMsg,
      anyState)).snd, (((inb (on3 rq memb) (pm 5 1 0)).takeMsg 0 fun (m : Msg) => !m.internal).getD (anyMsg, anyState)).fst, 3,
      (List.filter (fun (y : Cmd) => decide (y.phase = Phase.begun) && decide (y.hdr.tag = leAt ((((inb (on3 rq memb) (pm 5 1 0)).takeMsg
      0 fun (m : Msg) => !m.internal).getD (anyMsg, anyState)).fst).content 4 2 % 4096) && decide (y.hdr.seq = leAt ((((inb (on3 rq memb)
      (pm 5 1 0)).takeMsg 0 fun (m : Msg) => !m.internal).getD (anyMsg, anyState)).fst).content 8 4)) (((((inb (on3 rq memb) (pm 5 1
      0)).takeMsg 0 fun (m : Msg) => !m.internal).getD (anyMsg, anyState)).snd).q 3).inflight).headD anyCmd, by decide +kernel⟩,
   ⟨1, inb r7 (pm 3 0 1), (((inb r7 (pm 3 0 1)).takeMsg 1 fun (m : Msg) => !m.internal).getD (anyMsg, anyState)).snd, (((inb r7 (pm 3 0
      1)).takeMsg 1 fun (m : Msg) => !m.internal).getD (anyMsg, anyState)).fst, (((((inb r7 (pm 3 0 1)).takeMsg 1 fun (m : Msg) =>
      !m.internal).getD (anyMsg, anyState)).snd).routePort ((((inb r7 (pm 3 0 1)).takeMsg 1 fun (m : Msg) => !m.internal).getD (anyMsg,
      anyState)).fst).dest).getD 0, by decide +kernel⟩,
   ⟨1, inb r7 (pm 77 0 1), (((inb r7 (pm 77 0 1)).takeMsg 1 fun (m : Msg) => !m.internal).getD (anyMsg, anyState)).snd, (((inb r7 (pm 77
      0 1)).takeMsg 1 fun (m : Msg) => !m.internal).getD (anyMsg, anyState)).fst, by decide +kernel⟩⟩

/-- States that meet the hypotheses of `ChainMessages`, clause by clause (part 6). -/
theorem witness_ChainMessages_6 :
    (∃ (p : Fin 3) (s u : State) (m : Msg), s.mgt.rst = false ∧ (s.takeMsg ↑p fun (m : Msg) => !m.internal) = some (m, u) ∧ m.bcast =
      false ∧ (u.chn.enumerated = false ∨ m.dest ≠ u.ownAddr) ∧ (∀ (d : Nat), u.routePort m.dest = some d → u.portUp d = false) ∧ m.vc ≠
      0) :=
  ⟨1, inb r7 (pm 77 1 1), (((inb r7 (pm 77 1 1)).takeMsg 1 fun (m : Msg) => !m.internal).getD (anyMsg, anyState)).snd, (((inb r7 (pm 77 1
    1)).takeMsg 1 fun (m : Msg) => !m.internal).getD (anyMsg, anyState)).fst, by decide +kernel⟩

end Messages

namespace ChainCommands

def on3 (c : Cmd) (s : State := up) : State := on s 3 c
def pt (s : State) (p : Nat) (x : ChnPort) : State := s.setPort p x
def chU : State := let s := ((up.wr .CHN_CTL 0 0 1).wr .CHN_Pp_CTL 1 0 3); { s with chn := { s.chn with enumerated := true, route := [(0,1)] } }
def root1 : State := pt chU 1 { st := 3, partner := some (4, true, 77) }
def root2 : State := pt root1 2 { st := 3, partner := some (9, false, 78) }
def enS (s : State) (x : Xact) : State := s.setEnum (some x)
def xq (ph : Nat) (ports : List Nat) (c : Option CmdRef := none) (own : List Nat := [1,0]) : Xact := { gen := 33, mode := 1, cmd := c, phase := ph, ports := ports, got := [], own := own, depth := 1 }
def ce (m : Nat) : Cmd := cmd 0x601 [mkW m]
def r0 : State := up.wr .CHN_CTL 0 0 1
def noEn : State := { r0 with chn := { r0.chn with enumerated := false, route := [] } }
def tbl (a : Nat) : List Byte := leBytes 2 a ++ List.replicate 14 0
def tblE : List Byte := [0, 0, 1, 0] ++ List.replicate 12 7
def cz (n : Nat := 1) : Cmd := cmd 0x602 [0, 0, mkW n, 0, 0]
def rz (s : State := r0) (n : Nat := 1) : State := let s := on3 (cz n) s; { s with chn := { s.chn with enumerated := true, route := [(0,1),(3,2)] } }
def cenQ : Census := ⟨1, ⟨3, 7⟩, 0, [], []⟩
def rzB : State := let s := rz; { s with chn := { s.chn with census := some cenQ } }
def cb (w : Nat) (sec : Nat := 1001) (w3 : Nat := 0) : Cmd := cmd 0x603 [mkW w, mkW sec, 0, mkW w3]
def chOff : State := root2.setRunning 11 false
def noSync : State := { root2 with tb := { root2.tb with holdover := true } }
def ca (w : Nat := 0) : Cmd := cmd 0x604 [mkW w]
def tw (q : State := root2) : State := let s := on3 (begun (cb 0x107)) q; { s with chn := { s.chn with timed_ := [(7, mkTime 1001 0 0, ⟨3,0⟩)] } }
def twH : State := let s := tw; { s with tb := { s.tb with lock := false } }
def alB : State := { root1 with chn := { root1.chn with align := some (xq 0 [1]) } }
def enB : State := enS r0 (xq 0 [1])

/-- States that meet the hypotheses of `ChainCommands`, clause by clause (part 1). -/
theorem witness_ChainCommands_1 :
    (∃ (q : Fin 10) (k : Nat) (c : Cmd) (s : State), s.Runs (↑q) k 1537 c ∧ (extraBits (wAt c.payload 0) 1 = true ∨ s.isRoot = false)) ∧
    (∃ (q : Fin 10) (k : Nat) (c : Cmd) (s : State) (remote : Bool), s.Runs (↑q) k 1537 c ∧ extraBits (wAt c.payload 0) 1 = false ∧
      s.isRoot = true ∧ (s.chn.enum_.isSome = true ∨ bit (wAt c.payload 0) 0 = false ∧ (s.anyRunning = true ∨ remote = true))) ∧
    (∃ (q : Fin 10) (k : Nat) (c : Cmd) (s : State) (remote : Bool), s.Runs (↑q) k 1537 c ∧ extraBits (wAt c.payload 0) 1 = false ∧
      s.isRoot = true ∧ s.chn.enum_ = none ∧ (bit (wAt c.payload 0) 0 = false → s.anyRunning = false ∧ remote = false) ∧ s.downUp = [] ∧
      bit (wAt c.payload 0) 0 = false) ∧
    (∃ (q : Fin 10) (k : Nat) (c : Cmd) (s : State) (remote : Bool), s.Runs (↑q) k 1537 c ∧ extraBits (wAt c.payload 0) 1 = false ∧
      s.isRoot = true ∧ s.chn.enum_ = none ∧ (bit (wAt c.payload 0) 0 = false → s.anyRunning = false ∧ remote = false) ∧ s.downUp = [] ∧
      bit (wAt c.payload 0) 0 = true ∧ s.chn.enumerated = false ∧ s.chn.route = []) ∧
    (∃ (q : Fin 10) (k : Nat) (c : Cmd) (s : State) (remote : Bool), s.Runs (↑q) k 1537 c ∧ extraBits (wAt c.payload 0) 1 = false ∧
      s.isRoot = true ∧ s.chn.enum_ = none ∧ (bit (wAt c.payload 0) 0 = false → s.anyRunning = false ∧ remote = false) ∧ s.downUp = [] ∧
      bit (wAt c.payload 0) 0 = true ∧ s.chn.enumerated = true) ∧
    (∃ (q : Fin 10) (k : Nat) (c : Cmd) (s : State) (remote : Bool), s.Runs (↑q) k 1537 c ∧ extraBits (wAt c.payload 0) 1 = false ∧
      s.isRoot = true ∧ s.chn.enum_ = none ∧ (bit (wAt c.payload 0) 0 = false → s.anyRunning = false ∧ remote = false) ∧ s.downUp ≠ []) ∧
    (∃ (q : Fin 10) (k : Nat) (c : Cmd) (s : State) (table : List Byte) (bad : Prop), s.Runs (↑q) k 1538 c ∧ (bad ↔ s.isRoot = false ∨
      BitVec.toNat (wAt c.payload 2) = 0 ∨ 16384 < BitVec.toNat (wAt c.payload 2) ∨ ¬(List.map (fun (e : Nat × Bool × W64) => e.fst)
      (List.map (fun (i : Nat) => censusEntry (sliceB table (16 * i) 16)) (List.range (min (BitVec.toNat (wAt c.payload 2))
      16384)))).Nodup ∨ ∃ (e : Nat × Bool × W64), e ∈ List.map (fun (i : Nat) => censusEntry (sliceB table (16 * i) 16)) (List.range (min
      (BitVec.toNat (wAt c.payload 2)) 16384)) ∧ 16384 ≤ e.fst) ∧ bad) ∧
    (∃ (q : Fin 10) (k : Nat) (c : Cmd) (s : State) (table : List Byte) (bad : Prop), s.Runs (↑q) k 1538 c ∧ (bad ↔ s.isRoot = false ∨
      BitVec.toNat (wAt c.payload 2) = 0 ∨ 16384 < BitVec.toNat (wAt c.payload 2) ∨ ¬(List.map (fun (e : Nat × Bool × W64) => e.fst)
      (List.map (fun (i : Nat) => censusEntry (sliceB table (16 * i) 16)) (List.range (min (BitVec.toNat (wAt c.payload 2))
      16384)))).Nodup ∨ ∃ (e : Nat × Bool × W64), e ∈ List.map (fun (i : Nat) => censusEntry (sliceB table (16 * i) 16)) (List.range (min
      (BitVec.toNat (wAt c.payload 2)) 16384)) ∧ 16384 ≤ e.fst) ∧ ¬bad ∧ s.chn.census.isSome = true) ∧
    (∃ (q : Fin 10) (k : Nat) (c : Cmd) (s : State) (table : List Byte) (bad : Prop), s.Runs (↑q) k 1538 c ∧ (bad ↔ s.isRoot = false ∨
      BitVec.toNat (wAt c.payload 2) = 0 ∨ 16384 < BitVec.toNat (wAt c.payload 2) ∨ ¬(List.map (fun (e : Nat × Bool × W64) => e.fst)
      (List.map (fun (i : Nat) => censusEntry (sliceB table (16 * i) 16)) (List.range (min (BitVec.toNat (wAt c.payload 2))
      16384)))).Nodup ∨ ∃ (e : Nat × Bool × W64), e ∈ List.map (fun (i : Nat) => censusEntry (sliceB table (16 * i) 16)) (List.range (min
      (BitVec.toNat (wAt c.payload 2)) 16384)) ∧ 16384 ≤ e.fst) ∧ ¬bad ∧ s.chn.census = none ∧ (∀ (e : Nat × Bool × W64), e ∈ List.map
      (fun (i : Nat) => censusEntry (sliceB table (16 * i) 16)) (List.range (min (BitVec.toNat (wAt c.payload 2)) 16384)) → e.fst =
      s.ownAddr ∨ s.routePort e.fst = none) ∧ ∃ (e : Nat × Bool × W64), e ∈ List.map (fun (i : Nat) => censusEntry (sliceB table (16 * i)
      16)) (List.range (min (BitVec.toNat (wAt c.payload 2)) 16384)) ∧ e.fst = s.ownAddr) ∧
    (∃ (q : Fin 10) (k : Nat) (c : Cmd) (s : State) (table : List Byte) (bad : Prop), s.Runs (↑q) k 1538 c ∧ (bad ↔ s.isRoot = false ∨
      BitVec.toNat (wAt c.payload 2) = 0 ∨ 16384 < BitVec.toNat (wAt c.payload 2) ∨ ¬(List.map (fun (e : Nat × Bool × W64) => e.fst)
      (List.map (fun (i : Nat) => censusEntry (sliceB table (16 * i) 16)) (List.range (min (BitVec.toNat (wAt c.payload 2))
      16384)))).Nodup ∨ ∃ (e : Nat × Bool × W64), e ∈ List.map (fun (i : Nat) => censusEntry (sliceB table (16 * i) 16)) (List.range (min
      (BitVec.toNat (wAt c.payload 2)) 16384)) ∧ 16384 ≤ e.fst) ∧ ¬bad ∧ s.chn.census = none ∧ (∀ (e : Nat × Bool × W64), e ∈ List.map
      (fun (i : Nat) => censusEntry (sliceB table (16 * i) 16)) (List.range (min (BitVec.toNat (wAt c.payload 2)) 16384)) → e.fst =
      s.ownAddr ∨ s.routePort e.fst = none) ∧ List.filter (fun (o : Nat × Nat) => decide (o.snd ≠ 0)) (List.map (fun (e : Nat × Bool ×
      W64) => (e.fst, s.reasons
      { gen := s.chn.censusGen + 1, cmd := { q := ↑q, k := k }, listAddr := BitVec.toNat (join64 (wAt c.payload 3) (wAt c.payload 4)), table := List.map (fun (i : Nat) => censusEntry (sliceB table (16 * i) 16)) (List.range (min (BitVec.toNat (wAt c.payload 2)) 16384)), reports := if (List.map (fun (e : Nat × Bool × W64) => e.fst) (List.map (fun (i : Nat) => censusEntry (sliceB table (16 * i) 16)) (List.range (min (BitVec.toNat (wAt c.payload 2)) 16384)))).contains s.ownAddr = true then [(s.ownAddr, s.reportBody)] else [] }
      e)) (List.map (fun (i : Nat) => censusEntry (sliceB table (16 * i) 16)) (List.range (min (BitVec.toNat (wAt c.payload 2)) 16384))))
      ≠ []) ∧
    (∃ (q : Fin 10) (k : Nat) (c : Cmd) (s : State) (table : List Byte) (bad : Prop), s.Runs (↑q) k 1538 c ∧ (bad ↔ s.isRoot = false ∨
      BitVec.toNat (wAt c.payload 2) = 0 ∨ 16384 < BitVec.toNat (wAt c.payload 2) ∨ ¬(List.map (fun (e : Nat × Bool × W64) => e.fst)
      (List.map (fun (i : Nat) => censusEntry (sliceB table (16 * i) 16)) (List.range (min (BitVec.toNat (wAt c.payload 2))
      16384)))).Nodup ∨ ∃ (e : Nat × Bool × W64), e ∈ List.map (fun (i : Nat) => censusEntry (sliceB table (16 * i) 16)) (List.range (min
      (BitVec.toNat (wAt c.payload 2)) 16384)) ∧ 16384 ≤ e.fst) ∧ ¬bad ∧ s.chn.census = none ∧ ∃ (e : Nat × Bool × W64), e ∈ List.map (fun
      (i : Nat) => censusEntry (sliceB table (16 * i) 16)) (List.range (min (BitVec.toNat (wAt c.payload 2)) 16384)) ∧ e.fst ≠ s.ownAddr ∧
      (s.routePort e.fst).isSome = true) ∧
    (∃ (q : Fin 10) (k : Nat) (c : Cmd) (s : State) (bad : Prop), s.Runs (↑q) k 1539 c ∧ (bad ↔ extraBits (wAt c.payload 0) 511 = true ∨
      fld (wAt c.payload 2) 31 16 ≠ 0 ∨ fld (wAt c.payload 3) 31 30 ≠ 0 ∨ 800000000 ≤ fld (wAt c.payload 3) 29 0) ∧ bad) :=
  ⟨⟨3, 0, ce 2, on3 (ce 2) r0, by unfold State.Runs; decide +kernel⟩,
   ⟨3, 0, ce 0, on3 (ce 0) enB, false, by unfold State.Runs; decide +kernel⟩,
   ⟨3, 0, ce 0, on3 (ce 0) r0, false, by unfold State.Runs; decide +kernel⟩,
   ⟨3, 0, ce 1, on3 (ce 1) noEn, false, by unfold State.Runs; decide +kernel⟩,
   ⟨3, 0, ce 1, on3 (ce 1) chU, false, by unfold State.Runs; decide +kernel⟩,
   ⟨3, 0, ce 0, on3 (ce 0) root2, false, by unfold State.Runs; decide +kernel⟩,
   ⟨3, 0, cz 0, rz r0 0, tbl 0, True, by unfold State.Runs; decide +kernel⟩,
   ⟨3, 0, cz, rzB, tbl 0, False, by unfold State.Runs; decide +kernel⟩,
   ⟨3, 0, cz, rz, tbl 0, False, by unfold State.Runs; decide +kernel⟩,
   ⟨3, 0, cz, rz, tblE, False, by unfold State.Runs; decide +kernel⟩,
   ⟨3, 0, cz, rz, tbl 3, False, by unfold State.Runs; decide +kernel⟩,
   ⟨3, 0, cb 0x1007, on3 (cb 0x1007) root2, True, by unfold State.Runs; decide +kernel⟩⟩

/-- States that meet the hypotheses of `ChainCommands`, clause by clause (part 2). -/
theorem witness_ChainCommands_2 :
    (∃ (q : Fin 10) (k : Nat) (c : Cmd) (s : State) (bad : Prop), s.Runs (↑q) k 1539 c ∧ (bad ↔ extraBits (wAt c.payload 0) 511 = true ∨
      fld (wAt c.payload 2) 31 16 ≠ 0 ∨ fld (wAt c.payload 3) 31 30 ≠ 0 ∨ 800000000 ≤ fld (wAt c.payload 3) 29 0) ∧ ¬bad ∧ bit (wAt
      c.payload 0) 8 = false ∧ s.chnOn = false) ∧
    (∃ (q : Fin 10) (k : Nat) (c : Cmd) (s : State) (bad : Prop), s.Runs (↑q) k 1539 c ∧ (bad ↔ extraBits (wAt c.payload 0) 511 = true ∨
      fld (wAt c.payload 2) 31 16 ≠ 0 ∨ fld (wAt c.payload 3) 31 30 ≠ 0 ∨ 800000000 ≤ fld (wAt c.payload 3) 29 0) ∧ ¬bad ∧ bit (wAt
      c.payload 0) 8 = false ∧ s.chnOn = true ∧ s.sync = true) ∧
    (∃ (q : Fin 10) (k : Nat) (c : Cmd) (s : State) (bad : Prop), s.Runs (↑q) k 1539 c ∧ (bad ↔ extraBits (wAt c.payload 0) 511 = true ∨
      fld (wAt c.payload 2) 31 16 ≠ 0 ∨ fld (wAt c.payload 3) 31 30 ≠ 0 ∨ 800000000 ≤ fld (wAt c.payload 3) 29 0) ∧ ¬bad ∧ bit (wAt
      c.payload 0) 8 = false ∧ s.chnOn = true ∧ s.sync = false) ∧
    (∃ (q : Fin 10) (k : Nat) (c : Cmd) (s : State) (bad : Prop), s.Runs (↑q) k 1539 c ∧ (bad ↔ extraBits (wAt c.payload 0) 511 = true ∨
      fld (wAt c.payload 2) 31 16 ≠ 0 ∨ fld (wAt c.payload 3) 31 30 ≠ 0 ∨ 800000000 ≤ fld (wAt c.payload 3) 29 0) ∧ ¬bad ∧ bit (wAt
      c.payload 0) 8 = true ∧ mkTime (BitVec.toNat (wAt c.payload 1) + 2 ^ 32 * fld (wAt c.payload 2) 15 0) (fld (wAt c.payload 3) 29 0) 0
      < s.now + usec 20) ∧
    (∃ (q : Fin 10) (k : Nat) (c : Cmd) (s : State) (bad : Prop), s.Runs (↑q) k 1539 c ∧ (bad ↔ extraBits (wAt c.payload 0) 511 = true ∨
      fld (wAt c.payload 2) 31 16 ≠ 0 ∨ fld (wAt c.payload 3) 31 30 ≠ 0 ∨ 800000000 ≤ fld (wAt c.payload 3) 29 0) ∧ ¬bad ∧ bit (wAt
      c.payload 0) 8 = true ∧ s.now + usec 20 ≤ mkTime (BitVec.toNat (wAt c.payload 1) + 2 ^ 32 * fld (wAt c.payload 2) 15 0) (fld (wAt
      c.payload 3) 29 0) 0) ∧
    (∃ (q : Fin 10) (k : Nat) (c : Cmd) (s : State), s.Runs (↑q) k 1540 c ∧ (extraBits (wAt c.payload 0) 1 = true ∨ s.isRoot = false)) ∧
    (∃ (q : Fin 10) (k : Nat) (c : Cmd) (s : State), s.Runs (↑q) k 1540 c ∧ extraBits (wAt c.payload 0) 1 = false ∧ s.isRoot = true ∧
      s.chn.align.isSome = true) ∧
    (∃ (q : Fin 10) (k : Nat) (c : Cmd) (s : State), s.Runs (↑q) k 1540 c ∧ extraBits (wAt c.payload 0) 1 = false ∧ s.isRoot = true ∧
      s.chn.align = none ∧ s.portUp 0 = false ∧ (if bit (wAt c.payload 0) 0 = true then s.downUp else []) = []) ∧
    (∃ (q : Fin 10) (k : Nat) (c : Cmd) (s : State), s.Runs (↑q) k 1540 c ∧ extraBits (wAt c.payload 0) 1 = false ∧ s.isRoot = true ∧
      s.chn.align = none ∧ (s.portUp 0 = true ∨ (if bit (wAt c.payload 0) 0 = true then s.downUp else []) ≠ [])) ∧
    (∃ (q : Fin 10) (k num time : Nat) (before after : List (Nat × Nat × CmdRef)) (s : State), s.mgt.rst = false ∧ s.chn.timed_ = before
      ++ (num, time, { q := ↑q, k := k }) :: after ∧ (∀ (x : Nat × Nat × CmdRef), x ∈ before ++ after → time < x.snd.fst) ∧ s.counting =
      false) ∧
    (∃ (q : Fin 10) (k num time : Nat) (before after : List (Nat × Nat × CmdRef)) (s : State), s.mgt.rst = false ∧ s.chn.timed_ = before
      ++ (num, time, { q := ↑q, k := k }) :: after ∧ (∀ (x : Nat × Nat × CmdRef), x ∈ before ++ after → time < x.snd.fst) ∧ s.counting =
      true ∧ s.Waits (↑q) k ∧ s.chnOn = true ∧ s.sync = true) ∧
    (∃ (s : State), s.mgt.rst = false ∧ s.chn.timed_ = []) :=
  ⟨⟨3, 0, cb 7, on3 (cb 7) chOff, False, by unfold State.Runs; decide +kernel⟩,
   ⟨3, 0, cb 7, on3 (cb 7) root2, False, by unfold State.Runs; decide +kernel⟩,
   ⟨3, 0, cb 7, on3 (cb 7) noSync, False, by unfold State.Runs; decide +kernel⟩,
   ⟨3, 0, cb 0x107 1000, on3 (cb 0x107 1000) root2, False, by unfold State.Runs; decide +kernel⟩,
   ⟨3, 0, cb 0x107, on3 (cb 0x107) root2, False, by unfold State.Runs; decide +kernel⟩,
   ⟨3, 0, ca 2, on3 (ca 2) root2, by unfold State.Runs; decide +kernel⟩,
   ⟨3, 0, ca, on3 ca alB, by unfold State.Runs; decide +kernel⟩,
   ⟨3, 0, ca, on3 ca root2, by unfold State.Runs; decide +kernel⟩,
   ⟨3, 0, ca 1, on3 (ca 1) root2, by unfold State.Runs; decide +kernel⟩,
   ⟨3, 0, 7, mkTime 1001 0 0, [], [], twH, by decide +kernel⟩,
   ⟨3, 0, 7, mkTime 1001 0 0, [], [], tw, by and_intros <;> first | decide +kernel | exact waits_of (by decide +kernel)⟩,
   ⟨up, by decide +kernel⟩⟩

end ChainCommands

namespace Line

def fr (ty : Nat) (b : List Byte) : List Byte := mgtFrame ty b
def ofM (f : Mgt → Mgt) (s : State := up) : State := { s with mgt := f s.mgt }
def offS : State := ofM fun m => { m with off := true }
def upM : State := (ofM fun m => { m with mainRun := true }).wr .MGT_CTL 0 0 9
def rpS : State := ofM (fun m => { m with replies := [[1,2],[3,4]] }) upM
def dn : State := ofM fun m => { m with mainPwr := false, mainRun := false, rst := true }
def ec : List Byte := pk 0x101 8 77 [1,2,3]
def idL : List Byte := pk 0x102 8 77 [1]
def rmP : List Byte := pk 0x103 8 77 []
def tg : List Byte := pk 0x903 8 78 [0]
def fly (n : Nat) (s : State := upM) : State := s.setQ 8 { s.q 8 with inflight := (List.range n).map fun i => cmd 0x903 [0] i, nextK := n }
def tagS : State := on upM 8 (cmd 0x903 [0] 77)
def skS : State := upM.setQ 8 { upM.q 8 with skipClasses := [(0, 0)], nextK := 5 }
def okE : Reply := ⟨stOK, stOK, upM.islandAddr, [1,2,3]⟩
def st0 (n : Nat) : Reply := ⟨n, n, upM.islandAddr, []⟩
def wnS : State := ofM (fun m => { m with window := [⟨77, okE⟩] }) upM
def rcS : State := ofM (fun m => { m with rstCmds := [rmP] }) upM

/-- States that meet the hypotheses of `IslandLine`, clause by clause (part 1). -/
theorem witness_IslandLine_1 :
    (∃ (s : State), s.mgt.off = true) ∧
    (∃ (s : State) (f : List Byte), s.mgt.off = false ∧ parseFrame f = none) ∧
    (∃ (f : List Byte), (parseFrame f).isSome = true) ∧
    (∃ (s : State) (f body r : List Byte) (l : List (List Byte)), s.mgt.off = false ∧ parseFrame f = some (2, body) ∧ s.mgt.replies = r ::
      l) ∧
    (∃ (s : State) (f body : List Byte), s.mgt.off = false ∧ parseFrame f = some (2, body) ∧ s.mgt.replies = []) ∧
    (∃ (s : State) (f packet : List Byte) (full own new : Prop) (st : Nat) (res : List Word) (rec_ : Bool) (r : Reply), s.mgt.off = false
      ∧ parseFrame f = some (1, packet) ∧ (full ↔ 16 ≤ s.inflight8 ∨ 4096 ≤ s.inflight) ∧ (own ↔ checks1to4 8 packet.length packet = none
      ∧ (mkCmd 0 packet 0 65536).hdr.dest = s.islandAddr ∧ (mkCmd 0 packet 0 65536).hdr.flags % 2 = 0 ∧ islandOp (mkCmd 0 packet 0 65536)
      = true) ∧ (new ↔ ¬full ∧ own ∧ (∀ (e : MgtEntry), e ∈ s.mgt.window → e.seq ≠ (mkCmd 0 packet 0 65536).hdr.seq) ∧ ∀ (b : List Byte),
      b ∈ s.mgt.rstCmds → packetSeq b ≠ (mkCmd 0 packet 0 65536).hdr.seq) ∧ (full ∧ r =
      { status := stBusy, orig := stBusy, device := s.islandAddr, result := [] } ∧ rec_ = false ∨ s.IslandTakes packet 257 ∧ r =
      { status := stOK, orig := stOK, device := s.islandAddr, result := (mkCmd 0 packet 0 65536).payload } ∧ rec_ = true ∨ s.IslandTakes
      packet 258 ∧ r = { status := stOK, orig := stOK, device := s.islandAddr, result := s.frameReceived.islandIdentity } ∧ rec_ = true ∨
      new ∧ lenOk (mkCmd 0 packet 0 65536).hdr.opcode (mkCmd 0 packet 0 65536).payload = false ∧ r =
      { status := stBadLength, orig := stBadLength, device := s.islandAddr, result := [] } ∧ rec_ = true ∨ new ∧ lenOk (mkCmd 0 packet 0
      65536).hdr.opcode (mkCmd 0 packet 0 65536).payload = true ∧ s.tag8Held (mkCmd 0 packet 0 65536).hdr.tag = true ∧ r =
      { status := stBadParam, orig := stBadParam, device := s.islandAddr, result := [] } ∧ rec_ = true ∨ new ∧ lenOk (mkCmd 0 packet 0
      65536).hdr.opcode (mkCmd 0 packet 0 65536).payload = true ∧ s.tag8Held (mkCmd 0 packet 0 65536).hdr.tag = false ∧ s.skips8 (mkCmd 0
      packet 0 65536) = true ∧ r = { status := stSkipped, orig := stSkipped, device := s.islandAddr, result := [] } ∧ rec_ = false ∨
      (¬full ∧ own ∧ rec_ = false ∧ ∃ (e : MgtEntry), List.find? (fun (e : MgtEntry) => decide (e.seq = (mkCmd 0 packet 0 65536).hdr.seq))
      s.mgt.window = some e ∧ r = { e.reply with status := stDuplicate }) ∨ ¬full ∧ ¬own ∧ (s.mgt.mainRun = false ∨ s.rb RegId.MGT_CTL 0 0
      0 = false) ∧ rec_ = false ∧ st = (checks1to4 8 packet.length packet).getD stNotReady ∧ r =
      { status := st, orig := st, device := s.islandAddr, result := res } ∧ res = []) ∧ (s.q 8).inflight = [] ∧ s.mgt.replies = []) ∧
    (∃ (s : State) (f packet : List Byte) (full own new : Prop) (st : Nat) (res : List Word) (rec_ : Bool) (r : Reply) (b : List Byte) (l
      : List (List Byte)), s.mgt.off = false ∧ parseFrame f = some (1, packet) ∧ (full ↔ 16 ≤ s.inflight8 ∨ 4096 ≤ s.inflight) ∧ (own ↔
      checks1to4 8 packet.length packet = none ∧ (mkCmd 0 packet 0 65536).hdr.dest = s.islandAddr ∧ (mkCmd 0 packet 0 65536).hdr.flags % 2
      = 0 ∧ islandOp (mkCmd 0 packet 0 65536) = true) ∧ (new ↔ ¬full ∧ own ∧ (∀ (e : MgtEntry), e ∈ s.mgt.window → e.seq ≠ (mkCmd 0 packet
      0 65536).hdr.seq) ∧ ∀ (b : List Byte), b ∈ s.mgt.rstCmds → packetSeq b ≠ (mkCmd 0 packet 0 65536).hdr.seq) ∧ (full ∧ r =
      { status := stBusy, orig := stBusy, device := s.islandAddr, result := [] } ∧ rec_ = false ∨ s.IslandTakes packet 257 ∧ r =
      { status := stOK, orig := stOK, device := s.islandAddr, result := (mkCmd 0 packet 0 65536).payload } ∧ rec_ = true ∨ s.IslandTakes
      packet 258 ∧ r = { status := stOK, orig := stOK, device := s.islandAddr, result := s.frameReceived.islandIdentity } ∧ rec_ = true ∨
      new ∧ lenOk (mkCmd 0 packet 0 65536).hdr.opcode (mkCmd 0 packet 0 65536).payload = false ∧ r =
      { status := stBadLength, orig := stBadLength, device := s.islandAddr, result := [] } ∧ rec_ = true ∨ new ∧ lenOk (mkCmd 0 packet 0
      65536).hdr.opcode (mkCmd 0 packet 0 65536).payload = true ∧ s.tag8Held (mkCmd 0 packet 0 65536).hdr.tag = true ∧ r =
      { status := stBadParam, orig := stBadParam, device := s.islandAddr, result := [] } ∧ rec_ = true ∨ new ∧ lenOk (mkCmd 0 packet 0
      65536).hdr.opcode (mkCmd 0 packet 0 65536).payload = true ∧ s.tag8Held (mkCmd 0 packet 0 65536).hdr.tag = false ∧ s.skips8 (mkCmd 0
      packet 0 65536) = true ∧ r = { status := stSkipped, orig := stSkipped, device := s.islandAddr, result := [] } ∧ rec_ = false ∨
      (¬full ∧ own ∧ rec_ = false ∧ ∃ (e : MgtEntry), List.find? (fun (e : MgtEntry) => decide (e.seq = (mkCmd 0 packet 0 65536).hdr.seq))
      s.mgt.window = some e ∧ r = { e.reply with status := stDuplicate }) ∨ ¬full ∧ ¬own ∧ (s.mgt.mainRun = false ∨ s.rb RegId.MGT_CTL 0 0
      0 = false) ∧ rec_ = false ∧ st = (checks1to4 8 packet.length packet).getD stNotReady ∧ r =
      { status := st, orig := st, device := s.islandAddr, result := res } ∧ res = []) ∧ (s.q 8).inflight = [] ∧ s.mgt.replies = b :: l) ∧
    (∃ (s : State) (f packet : List Byte) (full own new : Prop) (st : Nat) (res : List Word) (rec_ : Bool) (r : Reply), s.mgt.off = false
      ∧ parseFrame f = some (1, packet) ∧ (full ↔ 16 ≤ s.inflight8 ∨ 4096 ≤ s.inflight) ∧ (own ↔ checks1to4 8 packet.length packet = none
      ∧ (mkCmd 0 packet 0 65536).hdr.dest = s.islandAddr ∧ (mkCmd 0 packet 0 65536).hdr.flags % 2 = 0 ∧ islandOp (mkCmd 0 packet 0 65536)
      = true) ∧ (new ↔ ¬full ∧ own ∧ (∀ (e : MgtEntry), e ∈ s.mgt.window → e.seq ≠ (mkCmd 0 packet 0 65536).hdr.seq) ∧ ∀ (b : List Byte),
      b ∈ s.mgt.rstCmds → packetSeq b ≠ (mkCmd 0 packet 0 65536).hdr.seq) ∧ (full ∧ r =
      { status := stBusy, orig := stBusy, device := s.islandAddr, result := [] } ∧ rec_ = false ∨ s.IslandTakes packet 257 ∧ r =
      { status := stOK, orig := stOK, device := s.islandAddr, result := (mkCmd 0 packet 0 65536).payload } ∧ rec_ = true ∨ s.IslandTakes
      packet 258 ∧ r = { status := stOK, orig := stOK, device := s.islandAddr, result := s.frameReceived.islandIdentity } ∧ rec_ = true ∨
      new ∧ lenOk (mkCmd 0 packet 0 65536).hdr.opcode (mkCmd 0 packet 0 65536).payload = false ∧ r =
      { status := stBadLength, orig := stBadLength, device := s.islandAddr, result := [] } ∧ rec_ = true ∨ new ∧ lenOk (mkCmd 0 packet 0
      65536).hdr.opcode (mkCmd 0 packet 0 65536).payload = true ∧ s.tag8Held (mkCmd 0 packet 0 65536).hdr.tag = true ∧ r =
      { status := stBadParam, orig := stBadParam, device := s.islandAddr, result := [] } ∧ rec_ = true ∨ new ∧ lenOk (mkCmd 0 packet 0
      65536).hdr.opcode (mkCmd 0 packet 0 65536).payload = true ∧ s.tag8Held (mkCmd 0 packet 0 65536).hdr.tag = false ∧ s.skips8 (mkCmd 0
      packet 0 65536) = true ∧ r = { status := stSkipped, orig := stSkipped, device := s.islandAddr, result := [] } ∧ rec_ = false ∨
      (¬full ∧ own ∧ rec_ = false ∧ ∃ (e : MgtEntry), List.find? (fun (e : MgtEntry) => decide (e.seq = (mkCmd 0 packet 0 65536).hdr.seq))
      s.mgt.window = some e ∧ r = { e.reply with status := stDuplicate }) ∨ ¬full ∧ ¬own ∧ (s.mgt.mainRun = false ∨ s.rb RegId.MGT_CTL 0 0
      0 = false) ∧ rec_ = false ∧ st = (checks1to4 8 packet.length packet).getD stNotReady ∧ r =
      { status := st, orig := st, device := s.islandAddr, result := res } ∧ res = []) ∧ (s.q 8).inflight ≠ []) ∧
    (∃ (s : State) (f packet : List Byte) (full own new : Prop), s.mgt.off = false ∧ parseFrame f = some (1, packet) ∧ (full ↔ 16 ≤
      s.inflight8 ∨ 4096 ≤ s.inflight) ∧ (own ↔ checks1to4 8 packet.length packet = none ∧ (mkCmd 0 packet 0 65536).hdr.dest =
      s.islandAddr ∧ (mkCmd 0 packet 0 65536).hdr.flags % 2 = 0 ∧ islandOp (mkCmd 0 packet 0 65536) = true) ∧ (new ↔ ¬full ∧ own ∧ (∀ (e :
      MgtEntry), e ∈ s.mgt.window → e.seq ≠ (mkCmd 0 packet 0 65536).hdr.seq) ∧ ∀ (b : List Byte), b ∈ s.mgt.rstCmds → packetSeq b ≠
      (mkCmd 0 packet 0 65536).hdr.seq) ∧ ¬full ∧ own ∧ (∀ (e : MgtEntry), e ∈ s.mgt.window → e.seq ≠ (mkCmd 0 packet 0 65536).hdr.seq) ∧
      ∃ (b : List Byte), b ∈ s.mgt.rstCmds ∧ packetSeq b = (mkCmd 0 packet 0 65536).hdr.seq) ∧
    (∃ (s : State) (f packet : List Byte) (full own new : Prop), s.mgt.off = false ∧ parseFrame f = some (1, packet) ∧ (full ↔ 16 ≤
      s.inflight8 ∨ 4096 ≤ s.inflight) ∧ (own ↔ checks1to4 8 packet.length packet = none ∧ (mkCmd 0 packet 0 65536).hdr.dest =
      s.islandAddr ∧ (mkCmd 0 packet 0 65536).hdr.flags % 2 = 0 ∧ islandOp (mkCmd 0 packet 0 65536) = true) ∧ (new ↔ ¬full ∧ own ∧ (∀ (e :
      MgtEntry), e ∈ s.mgt.window → e.seq ≠ (mkCmd 0 packet 0 65536).hdr.seq) ∧ ∀ (b : List Byte), b ∈ s.mgt.rstCmds → packetSeq b ≠
      (mkCmd 0 packet 0 65536).hdr.seq) ∧ ¬full ∧ ¬own ∧ s.mgt.mainRun = true ∧ s.rb RegId.MGT_CTL 0 0 0 = true ∧ checks1to4 8
      packet.length packet = none) ∧
    (∃ (s : State), s.fwReady = true ∧ s.mgt.rst = false ∧ s.mgt.off = false) ∧
    (∃ (s : State), s.fwReady = false ∨ s.mgt.rst = true ∨ s.mgt.off = true) :=
  ⟨⟨offS, by decide +kernel⟩,
   ⟨upM, [1,2,3], by decide +kernel⟩,
   ⟨fr 2 [], by decide +kernel⟩,
   ⟨rpS, fr 2 [], ((parseFrame (fr 2 [])).getD (0, [])).snd, rpS.mgt.replies.headD [], rpS.mgt.replies.tail, by decide +kernel⟩,
   ⟨upM, fr 2 [], ((parseFrame (fr 2 [])).getD (0, [])).snd, by decide +kernel⟩,
   ⟨upM, fr 1 ec, ((parseFrame (fr 1 ec)).getD (0, [])).snd, False, True, True, 0, [], true, okE,
      by and_intros <;> first | decide +kernel | exact .inr (.inl (by unfold State.IslandTakes; decide +kernel))⟩,
   ⟨rpS, fr 1 ec, ((parseFrame (fr 1 ec)).getD (0, [])).snd, False, True, True, 0, [], true, okE, rpS.mgt.replies.headD [],
      rpS.mgt.replies.tail, by and_intros <;> first | decide +kernel | exact .inr (.inl (by unfold State.IslandTakes; decide +kernel))⟩,
   ⟨tagS, fr 1 ec, ((parseFrame (fr 1 ec)).getD (0, [])).snd, False, True, True, 0, [], true, st0 stBadParam,
      by and_intros <;> first | decide +kernel | exact .inr (.inr (.inr (.inr (.inl (by decide +kernel)))))⟩,
   ⟨rcS, fr 1 ec, ((parseFrame (fr 1 ec)).getD (0, [])).snd, False, True, False, by decide +kernel⟩,
   ⟨upM, fr 1 tg, ((parseFrame (fr 1 tg)).getD (0, [])).snd, False, False, False, by decide +kernel⟩,
   ⟨upM, by decide +kernel⟩,
   ⟨offS, by decide +kernel⟩⟩

/-- States that meet the hypotheses of `IslandLine`, clause by clause (part 2). -/
theorem witness_IslandLine_2 :
    (∃ (s : State) (f packet : List Byte) (full own new : Prop) (st : Nat) (res : List Word) (rec_ : Bool) (r : Reply), s.mgt.off = false
      ∧ parseFrame f = some (1, packet) ∧ (full ↔ 16 ≤ s.inflight8 ∨ 4096 ≤ s.inflight) ∧ (own ↔ checks1to4 8 packet.length packet = none
      ∧ (mkCmd 0 packet 0 65536).hdr.dest = s.islandAddr ∧ (mkCmd 0 packet 0 65536).hdr.flags % 2 = 0 ∧ islandOp (mkCmd 0 packet 0 65536)
      = true) ∧ (new ↔ ¬full ∧ own ∧ (∀ (e : MgtEntry), e ∈ s.mgt.window → e.seq ≠ (mkCmd 0 packet 0 65536).hdr.seq) ∧ ∀ (b : List Byte),
      b ∈ s.mgt.rstCmds → packetSeq b ≠ (mkCmd 0 packet 0 65536).hdr.seq) ∧ (full ∧ r =
      { status := stBusy, orig := stBusy, device := s.islandAddr, result := [] } ∧ rec_ = false ∨ s.IslandTakes packet 257 ∧ r =
      { status := stOK, orig := stOK, device := s.islandAddr, result := (mkCmd 0 packet 0 65536).payload } ∧ rec_ = true ∨ s.IslandTakes
      packet 258 ∧ r = { status := stOK, orig := stOK, device := s.islandAddr, result := s.frameReceived.islandIdentity } ∧ rec_ = true ∨
      new ∧ lenOk (mkCmd 0 packet 0 65536).hdr.opcode (mkCmd 0 packet 0 65536).payload = false ∧ r =
      { status := stBadLength, orig := stBadLength, device := s.islandAddr, result := [] } ∧ rec_ = true ∨ new ∧ lenOk (mkCmd 0 packet 0
      65536).hdr.opcode (mkCmd 0 packet 0 65536).payload = true ∧ s.tag8Held (mkCmd 0 packet 0 65536).hdr.tag = true ∧ r =
      { status := stBadParam, orig := stBadParam, device := s.islandAddr, result := [] } ∧ rec_ = true ∨ new ∧ lenOk (mkCmd 0 packet 0
      65536).hdr.opcode (mkCmd 0 packet 0 65536).payload = true ∧ s.tag8Held (mkCmd 0 packet 0 65536).hdr.tag = false ∧ s.skips8 (mkCmd 0
      packet 0 65536) = true ∧ r = { status := stSkipped, orig := stSkipped, device := s.islandAddr, result := [] } ∧ rec_ = false ∨
      (¬full ∧ own ∧ rec_ = false ∧ ∃ (e : MgtEntry), List.find? (fun (e : MgtEntry) => decide (e.seq = (mkCmd 0 packet 0 65536).hdr.seq))
      s.mgt.window = some e ∧ r = { e.reply with status := stDuplicate }) ∨ ¬full ∧ ¬own ∧ (s.mgt.mainRun = false ∨ s.rb RegId.MGT_CTL 0 0
      0 = false) ∧ rec_ = false ∧ st = (checks1to4 8 packet.length packet).getD stNotReady ∧ r =
      { status := st, orig := st, device := s.islandAddr, result := res } ∧ res = []) ∧ (s.q 8).inflight = [] ∧ s.mgt.replies = []) ∧
    (∃ (s : State) (f packet : List Byte) (full own new : Prop) (st : Nat) (res : List Word) (rec_ : Bool) (r : Reply), s.mgt.off = false
      ∧ parseFrame f = some (1, packet) ∧ (full ↔ 16 ≤ s.inflight8 ∨ 4096 ≤ s.inflight) ∧ (own ↔ checks1to4 8 packet.length packet = none
      ∧ (mkCmd 0 packet 0 65536).hdr.dest = s.islandAddr ∧ (mkCmd 0 packet 0 65536).hdr.flags % 2 = 0 ∧ islandOp (mkCmd 0 packet 0 65536)
      = true) ∧ (new ↔ ¬full ∧ own ∧ (∀ (e : MgtEntry), e ∈ s.mgt.window → e.seq ≠ (mkCmd 0 packet 0 65536).hdr.seq) ∧ ∀ (b : List Byte),
      b ∈ s.mgt.rstCmds → packetSeq b ≠ (mkCmd 0 packet 0 65536).hdr.seq) ∧ (full ∧ r =
      { status := stBusy, orig := stBusy, device := s.islandAddr, result := [] } ∧ rec_ = false ∨ s.IslandTakes packet 257 ∧ r =
      { status := stOK, orig := stOK, device := s.islandAddr, result := (mkCmd 0 packet 0 65536).payload } ∧ rec_ = true ∨ s.IslandTakes
      packet 258 ∧ r = { status := stOK, orig := stOK, device := s.islandAddr, result := s.frameReceived.islandIdentity } ∧ rec_ = true ∨
      new ∧ lenOk (mkCmd 0 packet 0 65536).hdr.opcode (mkCmd 0 packet 0 65536).payload = false ∧ r =
      { status := stBadLength, orig := stBadLength, device := s.islandAddr, result := [] } ∧ rec_ = true ∨ new ∧ lenOk (mkCmd 0 packet 0
      65536).hdr.opcode (mkCmd 0 packet 0 65536).payload = true ∧ s.tag8Held (mkCmd 0 packet 0 65536).hdr.tag = true ∧ r =
      { status := stBadParam, orig := stBadParam, device := s.islandAddr, result := [] } ∧ rec_ = true ∨ new ∧ lenOk (mkCmd 0 packet 0
      65536).hdr.opcode (mkCmd 0 packet 0 65536).payload = true ∧ s.tag8Held (mkCmd 0 packet 0 65536).hdr.tag = false ∧ s.skips8 (mkCmd 0
      packet 0 65536) = true ∧ r = { status := stSkipped, orig := stSkipped, device := s.islandAddr, result := [] } ∧ rec_ = false ∨
      (¬full ∧ own ∧ rec_ = false ∧ ∃ (e : MgtEntry), List.find? (fun (e : MgtEntry) => decide (e.seq = (mkCmd 0 packet 0 65536).hdr.seq))
      s.mgt.window = some e ∧ r = { e.reply with status := stDuplicate }) ∨ ¬full ∧ ¬own ∧ (s.mgt.mainRun = false ∨ s.rb RegId.MGT_CTL 0 0
      0 = false) ∧ rec_ = false ∧ st = (checks1to4 8 packet.length packet).getD stNotReady ∧ r =
      { status := st, orig := st, device := s.islandAddr, result := res } ∧ res = []) ∧ (s.q 8).inflight = [] ∧ s.mgt.replies = []) ∧
    (∃ (s : State) (f packet : List Byte) (full own new : Prop) (st : Nat) (res : List Word) (rec_ : Bool) (r : Reply), s.mgt.off = false
      ∧ parseFrame f = some (1, packet) ∧ (full ↔ 16 ≤ s.inflight8 ∨ 4096 ≤ s.inflight) ∧ (own ↔ checks1to4 8 packet.length packet = none
      ∧ (mkCmd 0 packet 0 65536).hdr.dest = s.islandAddr ∧ (mkCmd 0 packet 0 65536).hdr.flags % 2 = 0 ∧ islandOp (mkCmd 0 packet 0 65536)
      = true) ∧ (new ↔ ¬full ∧ own ∧ (∀ (e : MgtEntry), e ∈ s.mgt.window → e.seq ≠ (mkCmd 0 packet 0 65536).hdr.seq) ∧ ∀ (b : List Byte),
      b ∈ s.mgt.rstCmds → packetSeq b ≠ (mkCmd 0 packet 0 65536).hdr.seq) ∧ (full ∧ r =
      { status := stBusy, orig := stBusy, device := s.islandAddr, result := [] } ∧ rec_ = false ∨ s.IslandTakes packet 257 ∧ r =
      { status := stOK, orig := stOK, device := s.islandAddr, result := (mkCmd 0 packet 0 65536).payload } ∧ rec_ = true ∨ s.IslandTakes
      packet 258 ∧ r = { status := stOK, orig := stOK, device := s.islandAddr, result := s.frameReceived.islandIdentity } ∧ rec_ = true ∨
      new ∧ lenOk (mkCmd 0 packet 0 65536).hdr.opcode (mkCmd 0 packet 0 65536).payload = false ∧ r =
      { status := stBadLength, orig := stBadLength, device := s.islandAddr, result := [] } ∧ rec_ = true ∨ new ∧ lenOk (mkCmd 0 packet 0
      65536).hdr.opcode (mkCmd 0 packet 0 65536).payload = true ∧ s.tag8Held (mkCmd 0 packet 0 65536).hdr.tag = true ∧ r =
      { status := stBadParam, orig := stBadParam, device := s.islandAddr, result := [] } ∧ rec_ = true ∨ new ∧ lenOk (mkCmd 0 packet 0
      65536).hdr.opcode (mkCmd 0 packet 0 65536).payload = true ∧ s.tag8Held (mkCmd 0 packet 0 65536).hdr.tag = false ∧ s.skips8 (mkCmd 0
      packet 0 65536) = true ∧ r = { status := stSkipped, orig := stSkipped, device := s.islandAddr, result := [] } ∧ rec_ = false ∨
      (¬full ∧ own ∧ rec_ = false ∧ ∃ (e : MgtEntry), List.find? (fun (e : MgtEntry) => decide (e.seq = (mkCmd 0 packet 0 65536).hdr.seq))
      s.mgt.window = some e ∧ r = { e.reply with status := stDuplicate }) ∨ ¬full ∧ ¬own ∧ (s.mgt.mainRun = false ∨ s.rb RegId.MGT_CTL 0 0
      0 = false) ∧ rec_ = false ∧ st = (checks1to4 8 packet.length packet).getD stNotReady ∧ r =
      { status := st, orig := st, device := s.islandAddr, result := res } ∧ res = []) ∧ (s.q 8).inflight ≠ []) ∧
    (∃ (s : State) (f packet : List Byte) (full own new : Prop) (st : Nat) (res : List Word) (rec_ : Bool) (r : Reply), s.mgt.off = false
      ∧ parseFrame f = some (1, packet) ∧ (full ↔ 16 ≤ s.inflight8 ∨ 4096 ≤ s.inflight) ∧ (own ↔ checks1to4 8 packet.length packet = none
      ∧ (mkCmd 0 packet 0 65536).hdr.dest = s.islandAddr ∧ (mkCmd 0 packet 0 65536).hdr.flags % 2 = 0 ∧ islandOp (mkCmd 0 packet 0 65536)
      = true) ∧ (new ↔ ¬full ∧ own ∧ (∀ (e : MgtEntry), e ∈ s.mgt.window → e.seq ≠ (mkCmd 0 packet 0 65536).hdr.seq) ∧ ∀ (b : List Byte),
      b ∈ s.mgt.rstCmds → packetSeq b ≠ (mkCmd 0 packet 0 65536).hdr.seq) ∧ (full ∧ r =
      { status := stBusy, orig := stBusy, device := s.islandAddr, result := [] } ∧ rec_ = false ∨ s.IslandTakes packet 257 ∧ r =
      { status := stOK, orig := stOK, device := s.islandAddr, result := (mkCmd 0 packet 0 65536).payload } ∧ rec_ = true ∨ s.IslandTakes
      packet 258 ∧ r = { status := stOK, orig := stOK, device := s.islandAddr, result := s.frameReceived.islandIdentity } ∧ rec_ = true ∨
      new ∧ lenOk (mkCmd 0 packet 0 65536).hdr.opcode (mkCmd 0 packet 0 65536).payload = false ∧ r =
      { status := stBadLength, orig := stBadLength, device := s.islandAddr, result := [] } ∧ rec_ = true ∨ new ∧ lenOk (mkCmd 0 packet 0
      65536).hdr.opcode (mkCmd 0 packet 0 65536).payload = true ∧ s.tag8Held (mkCmd 0 packet 0 65536).hdr.tag = true ∧ r =
      { status := stBadParam, orig := stBadParam, device := s.islandAddr, result := [] } ∧ rec_ = true ∨ new ∧ lenOk (mkCmd 0 packet 0
      65536).hdr.opcode (mkCmd 0 packet 0 65536).payload = true ∧ s.tag8Held (mkCmd 0 packet 0 65536).hdr.tag = false ∧ s.skips8 (mkCmd 0
      packet 0 65536) = true ∧ r = { status := stSkipped, orig := stSkipped, device := s.islandAddr, result := [] } ∧ rec_ = false ∨
      (¬full ∧ own ∧ rec_ = false ∧ ∃ (e : MgtEntry), List.find? (fun (e : MgtEntry) => decide (e.seq = (mkCmd 0 packet 0 65536).hdr.seq))
      s.mgt.window = some e ∧ r = { e.reply with status := stDuplicate }) ∨ ¬full ∧ ¬own ∧ (s.mgt.mainRun = false ∨ s.rb RegId.MGT_CTL 0 0
      0 = false) ∧ rec_ = false ∧ st = (checks1to4 8 packet.length packet).getD stNotReady ∧ r =
      { status := st, orig := st, device := s.islandAddr, result := res } ∧ res = []) ∧ (s.q 8).inflight = [] ∧ s.mgt.replies = []) ∧
    (∃ (s : State) (f packet : List Byte) (full own new : Prop) (st : Nat) (res : List Word) (rec_ : Bool) (r : Reply), s.mgt.off = false
      ∧ parseFrame f = some (1, packet) ∧ (full ↔ 16 ≤ s.inflight8 ∨ 4096 ≤ s.inflight) ∧ (own ↔ checks1to4 8 packet.length packet = none
      ∧ (mkCmd 0 packet 0 65536).hdr.dest = s.islandAddr ∧ (mkCmd 0 packet 0 65536).hdr.flags % 2 = 0 ∧ islandOp (mkCmd 0 packet 0 65536)
      = true) ∧ (new ↔ ¬full ∧ own ∧ (∀ (e : MgtEntry), e ∈ s.mgt.window → e.seq ≠ (mkCmd 0 packet 0 65536).hdr.seq) ∧ ∀ (b : List Byte),
      b ∈ s.mgt.rstCmds → packetSeq b ≠ (mkCmd 0 packet 0 65536).hdr.seq) ∧ (full ∧ r =
      { status := stBusy, orig := stBusy, device := s.islandAddr, result := [] } ∧ rec_ = false ∨ s.IslandTakes packet 257 ∧ r =
      { status := stOK, orig := stOK, device := s.islandAddr, result := (mkCmd 0 packet 0 65536).payload } ∧ rec_ = true ∨ s.IslandTakes
      packet 258 ∧ r = { status := stOK, orig := stOK, device := s.islandAddr, result := s.frameReceived.islandIdentity } ∧ rec_ = true ∨
      new ∧ lenOk (mkCmd 0 packet 0 65536).hdr.opcode (mkCmd 0 packet 0 65536).payload = false ∧ r =
      { status := stBadLength, orig := stBadLength, device := s.islandAddr, result := [] } ∧ rec_ = true ∨ new ∧ lenOk (mkCmd 0 packet 0
      65536).hdr.opcode (mkCmd 0 packet 0 65536).payload = true ∧ s.tag8Held (mkCmd 0 packet 0 65536).hdr.tag = true ∧ r =
      { status := stBadParam, orig := stBadParam, device := s.islandAddr, result := [] } ∧ rec_ = true ∨ new ∧ lenOk (mkCmd 0 packet 0
      65536).hdr.opcode (mkCmd 0 packet 0 65536).payload = true ∧ s.tag8Held (mkCmd 0 packet 0 65536).hdr.tag = false ∧ s.skips8 (mkCmd 0
      packet 0 65536) = true ∧ r = { status := stSkipped, orig := stSkipped, device := s.islandAddr, result := [] } ∧ rec_ = false ∨
      (¬full ∧ own ∧ rec_ = false ∧ ∃ (e : MgtEntry), List.find? (fun (e : MgtEntry) => decide (e.seq = (mkCmd 0 packet 0 65536).hdr.seq))
      s.mgt.window = some e ∧ r = { e.reply with status := stDuplicate }) ∨ ¬full ∧ ¬own ∧ (s.mgt.mainRun = false ∨ s.rb RegId.MGT_CTL 0 0
      0 = false) ∧ rec_ = false ∧ st = (checks1to4 8 packet.length packet).getD stNotReady ∧ r =
      { status := st, orig := st, device := s.islandAddr, result := res } ∧ res = []) ∧ (s.q 8).inflight = [] ∧ s.mgt.replies = []) :=
  ⟨⟨skS, fr 1 ec, ((parseFrame (fr 1 ec)).getD (0, [])).snd, False, True, True, 0, [], false, st0 stSkipped,
      by and_intros <;> first | decide +kernel | exact .inr (.inr (.inr (.inr (.inr (.inl (by decide +kernel))))))⟩,
   ⟨wnS, fr 1 ec, ((parseFrame (fr 1 ec)).getD (0, [])).snd, False, True, False, 0, [], false, { okE with status := stDuplicate },
      by and_intros <;> first | decide +kernel | exact .inr (.inr (.inr (.inr (.inr (.inr (.inl (by decide +kernel)))))))⟩,
   ⟨fly 16, fr 1 ec, ((parseFrame (fr 1 ec)).getD (0, [])).snd, True, True, False, 0, [], false, st0 stBusy,
      by and_intros <;> first | decide +kernel | exact .inl (by decide +kernel)⟩,
   ⟨dn, fr 1 tg, ((parseFrame (fr 1 tg)).getD (0, [])).snd, False, False, False, stNotReady, [], false, st0 stNotReady,
      by and_intros <;> first | decide +kernel | exact .inr (.inr (.inr (.inr (.inr (.inr (.inr ((by decide +kernel))))))))⟩,
   ⟨dn, fr 1 idL, ((parseFrame (fr 1 idL)).getD (0, [])).snd, False, True, True, 0, [], true, st0 stBadLength,
      by and_intros <;> first | decide +kernel | exact .inr (.inr (.inr (.inl (by decide +kernel))))⟩⟩

end Line

namespace Authority

def ofM (f : Mgt → Mgt) (s : State := up) : State := { s with mgt := f s.mgt }
def offS : State := ofM fun m => { m with off := true }
def noPw : State := ofM fun m => { m with mainPwr := false, mainRun := false }
def unS : State := ofM fun m => { m with unresp := true }
def upM : State := (ofM fun m => { m with mainRun := true }).wr .MGT_CTL 0 0 9
def ctl (v : Word) (s : State := upM) : State := (s.wr .MGT_LINE_TO 0 0 5).wr .MGT_CTL 0 0 v
def rsS (s : State := upM) : State := ofM (fun m => { m with rst := true }) s
def ssP : List Byte := pk 0x104 8 77 []
def rmP : List Byte := pk 0x103 8 77 []
def gst : Cmd := cmd 0x403 [3]
def gsS : State := on upM 3 gst
def ssC : Cmd := cmd 0x104 []
def rmC : Cmd := cmd 0x103 []
def safeS : State := { upM with err := { upM.err with safe := true, present := 2, seen := 2 } }

/-- States that meet the hypotheses of `IslandAuthority`, clause by clause (part 1). -/
theorem witness_IslandAuthority_1 :
    (∃ (s : State), s.mgt.mainPwr = false ∨ s.mgt.unresp = true ∨ s.mgt.off = true) ∧
    (∃ (s : State), s.mgt.mainPwr = true ∧ s.mgt.unresp = false ∧ s.mgt.off = false ∧ s.rf RegId.MGT_CTL 0 0 5 4 ≠ 1 ∧ s.rf RegId.MGT_CTL
      0 0 5 4 ≠ 2 ∧ s.rb RegId.MGT_INT 0 0 0 = false) ∧
    (∃ (s : State), s.mgt.mainPwr = true ∧ s.mgt.unresp = false ∧ s.mgt.off = false ∧ s.rf RegId.MGT_CTL 0 0 5 4 = 1 ∧ s.mgt.rst = false) ∧
    (∃ (s : State), s.mgt.mainPwr = true ∧ s.mgt.unresp = false ∧ s.mgt.off = false ∧ s.rf RegId.MGT_CTL 0 0 5 4 = 2) ∧
    (∃ (s : State), s.mgt.off = true ∨ s.rf RegId.MGT_LINE_TO 0 0 15 0 = 0) ∧
    (∃ (s : State), s.mgt.off = false ∧ s.rf RegId.MGT_LINE_TO 0 0 15 0 ≠ 0 ∧ s.rf RegId.MGT_CTL 0 0 7 6 ≠ 1 ∧ s.rf RegId.MGT_CTL 0 0 7 6
      ≠ 2 ∧ s.rb RegId.MGT_INT 0 0 0 = false) ∧
    (∃ (s : State), s.mgt.off = false ∧ s.rf RegId.MGT_LINE_TO 0 0 15 0 ≠ 0 ∧ s.rf RegId.MGT_CTL 0 0 7 6 = 1 ∧ s.mgt.rst = false) ∧
    (∃ (s : State), s.mgt.off = false ∧ s.rf RegId.MGT_LINE_TO 0 0 15 0 ≠ 0 ∧ s.rf RegId.MGT_CTL 0 0 7 6 = 2 ∧ s.mgt.mainPwr = true) ∧
    (∃ (s : State), s.mgt.off = false ∧ s.rf RegId.MGT_LINE_TO 0 0 15 0 ≠ 0 ∧ s.rf RegId.MGT_CTL 0 0 7 6 = 2 ∧ s.mgt.mainPwr = false) ∧
    (∃ (s : State) (b : List Byte), s.IslandTakes b 260 ∧ s.mgt.mainPwr = false) ∧
    (∃ (s : State) (b : List Byte), s.IslandTakes b 260 ∧ s.mgt.mainPwr = true ∧ s.mgt.rst = true) ∧
    (∃ (s : State) (b : List Byte), s.IslandTakes b 260 ∧ s.mgt.mainPwr = true ∧ s.mgt.rst = false ∧ ∀ (g : Fin 8), s.grpRunning ↑g =
      false) :=
  ⟨⟨offS, by decide +kernel⟩,
   ⟨upM, by decide +kernel⟩,
   ⟨upM.wr .MGT_CTL 0 0 0x19, by decide +kernel⟩,
   ⟨upM.wr .MGT_CTL 0 0 0x29, by decide +kernel⟩,
   ⟨offS, by decide +kernel⟩,
   ⟨ctl 9, by decide +kernel⟩,
   ⟨ctl 0x49, by decide +kernel⟩,
   ⟨ctl 0x89, by decide +kernel⟩,
   ⟨ctl 0x89 noPw, by decide +kernel⟩,
   ⟨noPw, ssP, by unfold State.IslandTakes; decide +kernel⟩,
   ⟨rsS, ssP, by unfold State.IslandTakes; decide +kernel⟩,
   ⟨unS, ssP, by unfold State.IslandTakes; decide +kernel⟩⟩

/-- States that meet the hypotheses of `IslandAuthority`, clause by clause (part 2). -/
theorem witness_IslandAuthority_2 :
    (∃ (s : State) (b : List Byte) (p : Fin 8) (j : Nat) (y : Cmd), s.IslandTakes b 260 ∧ s.mgt.mainPwr = true ∧ s.mgt.rst = false ∧ (s.q
      ↑p).find j = some y ∧ y.hdr.opcode ∈ [1026, 1027, 1031] ∧ s.eligible (↑p) (s.q ↑p) y = true ∧ (∀ (z : Bcast), z ∈ s.chn.bcasts →
      z.cmd ≠ { q := ↑p, k := j }) ∧ (s.q ↑p).resetting = false ∧ ∀ (g : Fin 8), s.grpRunning ↑g = false) ∧
    (∃ (s : State) (b : List Byte), s.IslandTakes b 259 ∧ s.mgt.mainPwr = false) ∧
    (∃ (s : State) (b : List Byte), s.IslandTakes b 259 ∧ s.mgt.mainPwr = true ∧ s.mgt.rst = true) ∧
    (∃ (s : State) (b : List Byte), s.IslandTakes b 259 ∧ s.mgt.mainPwr = true ∧ s.mgt.rst = false ∧ s.mgt.held = []) ∧
    (∃ (s : State) (b : List Byte) (off : Nat), s.IslandTakes b 259 ∧ s.mgt.mainPwr = true ∧ s.mgt.rst = false ∧ isMgtOff off = false) ∧
    (∃ (s : State) (b : List Byte), s.mgt.off = true ∨ (mkCmd 0 b 0 65536).hdr.opcode ≠ 260) ∧
    (∃ (s : State) (b : List Byte), s.mgt.off = true ∨ (mkCmd 0 b 0 65536).hdr.opcode ≠ 259) ∧
    (∃ (s : State) (q : Fin 10) (k : Nat) (c : Cmd), q ≠ 8 ∧ s.Runs (↑q) k 260 c ∧ s.err.safe = true) ∧
    (∃ (s : State) (q : Fin 10) (k : Nat) (c : Cmd), q ≠ 8 ∧ s.Runs (↑q) k 260 c ∧ s.err.safe = false ∧ ∀ (g : Fin 8), s.grpRunning ↑g =
      false) ∧
    (∃ (s : State) (q : Fin 10) (k : Nat) (c : Cmd), q ≠ 8 ∧ s.Runs (↑q) k 259 c) :=
  ⟨⟨gsS, ssP, 3, 0, ((gsS.q 3).find 0).getD anyCmd, by unfold State.IslandTakes; decide +kernel⟩,
   ⟨noPw, rmP, by unfold State.IslandTakes; decide +kernel⟩,
   ⟨rsS, rmP, by unfold State.IslandTakes; decide +kernel⟩,
   ⟨unS, rmP, by unfold State.IslandTakes; decide +kernel⟩,
   ⟨unS, rmP, 0, by unfold State.IslandTakes; decide +kernel⟩,
   ⟨offS, ssP, by decide +kernel⟩,
   ⟨offS, ssP, by decide +kernel⟩,
   ⟨on safeS 3 ssC, 3, 0, ssC, by unfold State.Runs; decide +kernel⟩,
   ⟨on upM 3 ssC, 3, 0, ssC, by unfold State.Runs; decide +kernel⟩,
   ⟨on upM 3 rmC, 3, 0, rmC, by unfold State.Runs; decide +kernel⟩⟩

/-- States that meet the hypotheses of `PowerAndReset`, clause by clause. -/
theorem witness_PowerAndReset :
    (∃ (off : Nat), isMgtOff off = true) ∧
    (∃ (s : State), s.mgt.rst = false) ∧
    (∃ (s : State), s.mgt.off = false) ∧
    (∃ (s : State), s.mgt.off = false ∧ s.rb RegId.MGT_CTL 0 0 3 = false) ∧
    (∃ (s : State), s.mgt.off = false ∧ s.rb RegId.MGT_CTL 0 0 3 = true ∧ s.mgt.rst = false) ∧
    (∃ (s : State), s.mgt.off = false ∧ s.rb RegId.MGT_CTL 0 0 3 = true ∧ s.mgt.rst = true) ∧
    (∃ (s : State), s.mgt.off = false ∧ s.mgt.mainPwr = true ∧ s.mgt.rst = true) ∧
    (∃ (s : State), s.mgt.off = false ∧ s.mgt.mainPwr = true ∧ s.mgt.rst = false) ∧
    (∃ (s : State), s.mgt.mainPwr = false ∨ s.mgt.off = true) ∧
    (∃ (s : State), s.mgt.off = true) ∧
    (∃ (s : State), s.mgt.rst = true) :=
  ⟨⟨0xFA000, by decide +kernel⟩,
   ⟨upM, by decide +kernel⟩,
   ⟨upM, by decide +kernel⟩,
   ⟨upM.wr .MGT_CTL 0 0 1, by decide +kernel⟩,
   ⟨upM, by decide +kernel⟩,
   ⟨rsS, by decide +kernel⟩,
   ⟨rsS, by decide +kernel⟩,
   ⟨upM, by decide +kernel⟩,
   ⟨noPw, by decide +kernel⟩,
   ⟨offS, by decide +kernel⟩,
   ⟨rsS, by decide +kernel⟩⟩

end Authority

namespace Faults

def sf : State := { up with err := { up.err with safe := true, present := 2, seen := 3 } }
def lg : State := ({ up with err := { up.err with wr := 7, rd := 3 } }).wr .ERR_LOG_IDX 0 0 4
def erS (x y : Nat) : State := { up with err := { up.err with safe := true, present := BitVec.ofNat _ x, seen := BitVec.ofNat _ y } }

/-- States that meet the hypotheses of `SafeStateAndFaults`, clause by clause (part 1). -/
theorem witness_SafeStateAndFaults_1 :
    (∃ (s : State), s.mgt.rst = false) ∧
    (∃ (s : State) (n : Fin 16), s.mgt.rst = false ∧ s.rb RegId.SYS_PWR 0 0 ↑n = false ∧ s.err.safe = false ∧ ∀ (g : Fin 8), s.grpRunning
      ↑g = false) ∧
    (∃ (s : State) (n : Fin 16), s.mgt.rst = false ∧ s.rb RegId.SYS_PWR 0 0 ↑n = false ∧ s.err.safe = true) ∧
    (∃ (s : State) (n : Fin 16), s.mgt.rst = false ∧ s.rb RegId.SYS_PWR 0 0 ↑n = true) ∧
    (∃ (s : State), s.mgt.rst = false ∧ s.err.safe = false ∧ s.err.present &&& ~~~1 = 0) ∧
    (∃ (s : State), s.mgt.rst = false ∧ s.err.safe = true ∧ s.err.present &&& ~~~1 = 0) ∧
    (∃ (s : State), s.mgt.rst = false ∧ s.err.present &&& ~~~1 ≠ 0 ∧ bit s.err.present 1 = true) ∧
    (∃ (s : State), s.mgt.rst = false ∧ 0 < BitVec.toNat (s.err.wr - s.rd RegId.ERR_LOG_IDX) ∧ BitVec.toNat (s.err.wr - s.rd
      RegId.ERR_LOG_IDX) < 2 ^ 31 ∧ BitVec.toNat (s.err.wr - s.rd RegId.ERR_LOG_IDX) ≤ BitVec.toNat (s.err.wr - s.err.rd)) ∧
    (∃ (s : State), s.mgt.rst = false ∧ 0 < BitVec.toNat (s.err.wr - s.rd RegId.ERR_LOG_IDX) ∧ BitVec.toNat (s.err.wr - s.rd
      RegId.ERR_LOG_IDX) < 2 ^ 31 ∧ BitVec.toNat (s.err.wr - s.err.rd) < BitVec.toNat (s.err.wr - s.rd RegId.ERR_LOG_IDX)) ∧
    (∃ (s : State), s.mgt.rst = false ∧ (s.err.wr = s.rd RegId.ERR_LOG_IDX ∨ 2 ^ 31 ≤ BitVec.toNat (s.err.wr - s.rd RegId.ERR_LOG_IDX))) ∧
    (∃ (s : State), s.mgt.rst = false ∧ ∀ (g : Fin 8), s.grpRunning ↑g = false) ∧
    (∃ (s : State) (g : Fin 8), s.mgt.rst = false ∧ s.grpRunning ↑g = false) :=
  ⟨⟨up, by decide +kernel⟩,
   ⟨up, 3, by decide +kernel⟩,
   ⟨sf, 3, by decide +kernel⟩,
   ⟨up.wr .SYS_PWR 0 0 8, 3, by decide +kernel⟩,
   ⟨up, by decide +kernel⟩,
   ⟨erS 1 3, by decide +kernel⟩,
   ⟨sf, by decide +kernel⟩,
   ⟨lg, by decide +kernel⟩,
   ⟨lg.wr .ERR_LOG_IDX 0 0 2, by decide +kernel⟩,
   ⟨up, by decide +kernel⟩,
   ⟨up, by decide +kernel⟩,
   ⟨up, 3, by decide +kernel⟩⟩

/-- States that meet the hypotheses of `SafeStateAndFaults`, clause by clause (part 2). -/
theorem witness_SafeStateAndFaults_2 :
    (∃ (s : State) (g h : Fin 8), s.mgt.rst = false ∧ s.grpRunning ↑g = false ∧ h ≠ g) :=
  ⟨up, 3, 0, by decide +kernel⟩

end Faults

namespace Boot

def rmP : List Byte := pk 0x103 8 77 []
def on3 (c : Cmd) (s : State := up) : State := on s 3 c
def fb (n : Nat) : Cmd := cmd 0xA01 [mkW n]
def ses (q : Nat) (d : List Byte := []) (len : Nat := 320) (s : State := up): State := { s with fw := { s.fw with session := some ⟨q, 1, len, d⟩ } }
def fd (o : Nat) (l : List Word) : Cmd := cmd 0xA02 (mkW o :: l)
def fc : Cmd := cmd 0xA03 []
def rstS : State := { State.reset with mgt := { State.reset.mgt with rst := true, mainPwr := true } }
def rcS : State := { rstS with mgt := { rstS.mgt with rstCmds := [rmP] } }
def noPw : State := { up with mgt := { up.mgt with mainPwr := false } }
def fen (s : State) (x : Nat) : State := s.setBset x { s.bset x with fenced := true }
def badS : State := { up with fw := { up.fw with slots := [(0, [1]), (1, [2])] } }
def noDrm (s : State) : State := s.setRunning 13 false

/-- States that meet the hypotheses of `FirmwareAndBoot`, clause by clause (part 1). -/
theorem witness_FirmwareAndBoot_1 :
    (∃ (s : State) (q : Fin 10) (k : Nat) (c : Cmd), s.Runs (↑q) k 2561 c ∧ (BitVec.toNat (wAt c.payload 0) < 320 ∨ 459008 < BitVec.toNat
      (wAt c.payload 0) ∨ BitVec.toNat (wAt c.payload 0) % 64 ≠ 0)) ∧
    (∃ (s : State) (q : Fin 10) (k : Nat) (c : Cmd) (x : FwSession), s.Runs (↑q) k 2561 c ∧ 320 ≤ BitVec.toNat (wAt c.payload 0) ∧
      BitVec.toNat (wAt c.payload 0) ≤ 459008 ∧ BitVec.toNat (wAt c.payload 0) % 64 = 0 ∧ s.fw.session = some x ∧ x.queue ≠ s.sessionQueue
      c { q := ↑q, k := k }) ∧
    (∃ (s : State) (q : Fin 10) (k : Nat) (c : Cmd), s.Runs (↑q) k 2561 c ∧ 320 ≤ BitVec.toNat (wAt c.payload 0) ∧ BitVec.toNat (wAt
      c.payload 0) ≤ 459008 ∧ BitVec.toNat (wAt c.payload 0) % 64 = 0 ∧ ∀ (x : FwSession), s.fw.session = some x → x.queue =
      s.sessionQueue c { q := ↑q, k := k }) ∧
    (∃ (s : State) (q : Fin 10) (k : Nat) (c : Cmd), s.Runs (↑q) k 2562 c ∧ s.fw.session = none) ∧
    (∃ (s : State) (q : Fin 10) (k : Nat) (c : Cmd) (x : FwSession), s.Runs (↑q) k 2562 c ∧ s.fw.session = some x ∧ x.queue ≠
      s.sessionQueue c { q := ↑q, k := k }) ∧
    (∃ (s : State) (q : Fin 10) (k : Nat) (c : Cmd) (x : FwSession), s.Runs (↑q) k 2562 c ∧ s.fw.session = some x ∧ x.queue =
      s.sessionQueue c { q := ↑q, k := k } ∧ BitVec.toNat (wAt c.payload 0) ≠ x.data.length) ∧
    (∃ (s : State) (q : Fin 10) (k : Nat) (c : Cmd) (x : FwSession), s.Runs (↑q) k 2562 c ∧ s.fw.session = some x ∧ x.queue =
      s.sessionQueue c { q := ↑q, k := k } ∧ BitVec.toNat (wAt c.payload 0) = x.data.length ∧ x.len < (x.data ++ bytesOf (List.drop 1
      c.payload)).length) ∧
    (∃ (s : State) (q : Fin 10) (k : Nat) (c : Cmd) (x : FwSession), s.Runs (↑q) k 2562 c ∧ s.fw.session = some x ∧ x.queue =
      s.sessionQueue c { q := ↑q, k := k } ∧ BitVec.toNat (wAt c.payload 0) = x.data.length ∧ (x.data ++ bytesOf (List.drop 1
      c.payload)).length ≤ x.len ∧ s.drmOn = false) ∧
    (∃ (s : State) (q : Fin 10) (k : Nat) (c : Cmd) (x : FwSession) (i : Nat), s.Runs (↑q) k 2562 c ∧ s.fw.session = some x ∧ x.queue =
      s.sessionQueue c { q := ↑q, k := k } ∧ BitVec.toNat (wAt c.payload 0) = x.data.length ∧ (x.data ++ bytesOf (List.drop 1
      c.payload)).length ≤ x.len ∧ s.drmOn = true ∧ i < (bytesOf (List.drop 1 c.payload)).length) ∧
    (∃ (s : State) (q : Fin 10) (k : Nat) (c : Cmd) (x : FwSession) (a : Nat), s.Runs (↑q) k 2562 c ∧ s.fw.session = some x ∧ x.queue =
      s.sessionQueue c { q := ↑q, k := k } ∧ BitVec.toNat (wAt c.payload 0) = x.data.length ∧ (x.data ++ bytesOf (List.drop 1
      c.payload)).length ≤ x.len ∧ s.drmOn = true ∧ (a < s.firmwareFirst * 65536 + x.data.length ∨ s.firmwareFirst * 65536 + x.data.length
      + (bytesOf (List.drop 1 c.payload)).length ≤ a)) ∧
    (∃ (s : State) (q : Fin 10) (k : Nat) (c : Cmd), s.Runs (↑q) k 2563 c ∧ s.fw.session = none) ∧
    (∃ (s : State) (q : Fin 10) (k : Nat) (c : Cmd) (x : FwSession), s.Runs (↑q) k 2563 c ∧ s.fw.session = some x ∧ (x.queue ≠
      s.sessionQueue c { q := ↑q, k := k } ∨ x.data.length < x.len)) :=
  ⟨⟨on3 (fb 319), 3, 0, fb 319, by unfold State.Runs; decide +kernel⟩,
   ⟨on3 (fb 320) (ses 4), 3, 0, fb 320, (on3 (fb 320) (ses 4)).fw.session.getD anyFwSession, by unfold State.Runs; decide +kernel⟩,
   ⟨on3 (fb 320) (ses 3), 3, 0, fb 320, by unfold State.Runs; decide +kernel⟩,
   ⟨on3 (fd 0 [1,2]), 3, 0, fd 0 [1,2], by unfold State.Runs; decide +kernel⟩,
   ⟨on3 (fd 4 [1,2]) (ses 4), 3, 0, fd 4 [1,2], (on3 (fd 4 [1,2]) (ses 4)).fw.session.getD anyFwSession,
      by unfold State.Runs; decide +kernel⟩,
   ⟨on3 (fd 4 [1,2]) (ses 3), 3, 0, fd 4 [1,2], (on3 (fd 4 [1,2]) (ses 3)).fw.session.getD anyFwSession,
      by unfold State.Runs; decide +kernel⟩,
   ⟨on3 (fd 0 [1,2]) (ses 3 [] 4), 3, 0, fd 0 [1,2], (on3 (fd 0 [1,2]) (ses 3 [] 4)).fw.session.getD anyFwSession,
      by unfold State.Runs; decide +kernel⟩,
   ⟨noDrm (on3 (fd 4 [1,2]) (ses 3 [1,2,3,4])), 3, 0, fd 4 [1,2], (noDrm (on3 (fd 4 [1,2]) (ses 3 [1,2,3,4]))).fw.session.getD
      anyFwSession, by unfold State.Runs; decide +kernel⟩,
   ⟨on3 (fd 4 [1,2]) (ses 3 [1,2,3,4]), 3, 0, fd 4 [1,2], (on3 (fd 4 [1,2]) (ses 3 [1,2,3,4])).fw.session.getD anyFwSession, 0,
      by unfold State.Runs; decide +kernel⟩,
   ⟨on3 (fd 4 [1,2]) (ses 3 [1,2,3,4]), 3, 0, fd 4 [1,2], (on3 (fd 4 [1,2]) (ses 3 [1,2,3,4])).fw.session.getD anyFwSession, 0,
      by unfold State.Runs; decide +kernel⟩,
   ⟨on3 fc, 3, 0, fc, by unfold State.Runs; decide +kernel⟩,
   ⟨on3 fc (ses 3 [1,2,3,4]), 3, 0, fc, (on3 fc (ses 3 [1,2,3,4])).fw.session.getD anyFwSession, by unfold State.Runs; decide +kernel⟩⟩

/-- States that meet the hypotheses of `FirmwareAndBoot`, clause by clause (part 2). -/
theorem witness_FirmwareAndBoot_2 :
    (∃ (s : State) (q : Fin 10) (k : Nat) (c : Cmd) (x : FwSession), s.Runs (↑q) k 2563 c ∧ s.fw.session = some x ∧ x.queue =
      s.sessionQueue c { q := ↑q, k := k } ∧ x.len ≤ x.data.length ∧ imageReason x.data ≠ 0) ∧
    (∃ (s : State), s.mayRelease = false ∨ s.mgt.rst = false ∧ s.rd RegId.SYS_BOOT ≠ 0) ∧
    (∃ (s : State) (b : List Byte), s.mayRelease = true ∧ s.mgt.rst = true ∧ s.mgt.rstCmds = [b] ∧ (s.q 8).inflight = [] ∧ ∀ (e :
      MgtEntry), e ∈ s.mgt.window → e.seq ≠ (mkCmd 0 b 0 65536).hdr.seq) ∧
    (∃ (s : State), s.mayRelease = true ∧ s.mgt.rst = true ∧ ((s.bset 0).fenced = true ∨ (s.bset 1).fenced = true)) ∧
    (∃ (s : State) (rA rB : Bool), s.mayRelease = true ∧ s.mgt.rst = true ∧ (s.bset 0).fenced = false ∧ (s.bset 1).fenced = false ∧ (if
      (if s.fw.active % 2 = 0 then rA else rB) = true then 4 else imageReason (s.slotImage (s.fw.active % 2))) ≠ 0 ∧ (if (if s.fw.active %
      2 = 0 then rB else rA) = true then 4 else imageReason (s.slotImage (1 - s.fw.active % 2))) ≠ 0) ∧
    (∃ (s : State), s.mgt.rst = true ∨ s.fwReady = false) ∧
    (∃ (s : State) (soon : Prop), s.mgt.rst = false ∧ s.fwReady = true ∧ (soon ↔ ∃ (t0 : Nat), s.err.lastRestart = some t0 ∧ s.now < t0 +
      10 * grainsPerSec) ∧ (soon ∨ imageReason (s.slotImage s.slotRun) ≠ 0) ∧ ∀ (g : Fin 8), s.grpRunning ↑g = false) :=
  ⟨⟨on3 fc (ses 3 [1,2,3,4] 4), 3, 0, fc, (on3 fc (ses 3 [1,2,3,4] 4)).fw.session.getD anyFwSession,
      by unfold State.Runs; decide +kernel⟩,
   ⟨noPw, by decide +kernel⟩,
   ⟨rcS, rcS.mgt.rstCmds.headD [], by decide +kernel⟩,
   ⟨fen rstS 0, by decide +kernel⟩,
   ⟨rstS, true, true, by decide +kernel⟩,
   ⟨rstS, by decide +kernel⟩,
   ⟨badS, False, by decide +kernel⟩⟩

end Boot

/-! ### Authentic images: no key and no signature of the maker is known, so these hold of any that verify -/

/-- The bytes of an image with a body of 64 bytes. -/
def img : List Byte :=
  [0x43, 0x5A, 0x46, 0x57, 1, 0, 0x10, 0x48, 0x11, 0, 4, 2, 64, 0, 0, 0] ++ List.replicate 240 0 ++ List.replicate 64 7

theorem img_authentic (hk : Config.keyOk (sliceB img 64 64) = true)
    (hs : Config.sigOk (sliceB img 0 64) (sliceB img 64 64) (sliceB img 128 64) (sliceB img 256 64) = true) : imageReason img = 0 := by
  have h : headerOk img = true := by decide +kernel
  have hl : leAt img 12 4 = 64 := by decide +kernel
  simp [imageReason, h, hk, hl, hs]

def ready (s : State) : State := { s with mgt := { s.mgt with rst := true, mainPwr := true } }

def commitCmd : Cmd := cmd 0xA03 []

/-- A device whose slot A holds the image, with a whole copy of it waiting for FW_COMMIT on queue 3. -/
def withImg : State := { on up 3 commitCmd with fw := { slots := [(0, img)], session := some ⟨3, 1, 320, img⟩ } }

/-- A device in reset whose slot A holds the image; slot B holds nothing. -/
def readyImg (active : Nat) : State := ready { State.reset with fw := { active := active, slots := [(0, img), (1, [])] } }

/-- The device's firmware restarted less than 10 s ago. -/
def Soon (s : State) : Prop := ∃ t0 : Nat, s.err.lastRestart = some t0 ∧ s.now < t0 + 10 * grainsPerSec

/-- States for the clauses of `FirmwareAndBoot` that need an authentic image. -/
theorem witness_FirmwareAndBoot_image (hk : Config.keyOk (sliceB img 64 64) = true)
    (hs : Config.sigOk (sliceB img 0 64) (sliceB img 64 64) (sliceB img 128 64) (sliceB img 256 64) = true) :
    (∃ (q : Fin 10) (k : Nat) (c : Cmd) (s : State) (x : FwSession), s.Runs q k 0x0A03 c ∧ s.fw.session = some x ∧
      x.queue = s.sessionQueue c ⟨q, k⟩ ∧ x.len ≤ x.data.length ∧ imageReason x.data = 0) ∧
    (∃ (s : State) (rA rB : Bool) (a ra rb : Nat), s.mayRelease = true ∧ s.mgt.rst = true ∧ a = s.fw.active % 2 ∧
      ra = (if (if a = 0 then rA else rB) then 4 else imageReason (s.slotImage a)) ∧
      rb = (if (if a = 0 then rB else rA) then 4 else imageReason (s.slotImage (1 - a))) ∧
      (s.bset 0).fenced = false ∧ (s.bset 1).fenced = false ∧ ra = 0) ∧
    (∃ (s : State) (rA rB : Bool) (a ra rb : Nat), s.mayRelease = true ∧ s.mgt.rst = true ∧ a = s.fw.active % 2 ∧
      ra = (if (if a = 0 then rA else rB) then 4 else imageReason (s.slotImage a)) ∧
      rb = (if (if a = 0 then rB else rA) then 4 else imageReason (s.slotImage (1 - a))) ∧
      (s.bset 0).fenced = false ∧ (s.bset 1).fenced = false ∧ ra ≠ 0 ∧ rb = 0) ∧
    (∃ (s : State) (soon : Prop), s.mgt.rst = false ∧ s.fwReady = true ∧ (soon ↔ Soon s) ∧ ¬ soon ∧
      imageReason (s.slotImage s.slotRun) = 0 ∧ (List.range 10).flatMap s.begunOf = []) ∧
    ∃ (s : State) (soon : Prop) (q : Fin 9) (k : Nat) (c : Cmd), s.mgt.rst = false ∧ s.fwReady = true ∧ (soon ↔ Soon s) ∧ ¬ soon ∧
      imageReason (s.slotImage s.slotRun) = 0 ∧ (List.range 10).flatMap s.begunOf = [⟨q.val, k⟩] ∧ (s.q q).find k = some c ∧
      c.phase = .begun ∧ (s.q q).resetting = false ∧ (∀ b ∈ s.chn.bcasts, b.cmd ≠ ⟨q.val, k⟩) ∧
      ∀ i, (∀ j, (s.seg i).job = some j → ¬(j.q = q ∧ j.k = k)) ∧ (∀ j ∈ (s.seg i).waiting, ¬(j.q = q ∧ j.k = k)) ∧
        (q.val, k) ∉ (s.seg i).verifies := by
  have hi := img_authentic hk hs
  have h2 : (readyImg 0).slotImage 0 = img := rfl
  have h3 : (readyImg 1).slotImage 0 = img := rfl
  have hn (s : State) (h : s.err.lastRestart = none) : ¬ Soon s := fun ⟨_, ht, _⟩ => by simp [h] at ht
  refine ⟨⟨3, 0, commitCmd, withImg, ⟨3, 1, 320, img⟩, by unfold State.Runs; decide +kernel, by decide +kernel, by decide +kernel,
      by decide +kernel, hi⟩,
    ⟨readyImg 0, false, false, 0, _, _, by decide +kernel, by decide +kernel, rfl, rfl, rfl, by decide +kernel, by decide +kernel,
      by simp [h2, hi]⟩,
    ⟨readyImg 1, false, false, 1, _, _, by decide +kernel, by decide +kernel, rfl, rfl, rfl, by decide +kernel, by decide +kernel,
      by decide +kernel, by simp [h3, hi]⟩,
    ⟨{ up with fw := { slots := [(0, img)] } }, False, rfl, rfl, ⟨False.elim, hn _ rfl⟩, id, hi, by decide +kernel⟩,
    ⟨{ on up 3 (begun { cmd 0x402 [3] 7 with k := 7 }) with fw := { slots := [(0, img)] } }, False, 3, 7,
      begun { cmd 0x402 [3] 7 with k := 7 }, rfl, rfl, ⟨False.elim, hn _ rfl⟩, id, hi, by decide +kernel, by decide +kernel, rfl, rfl,
      by decide +kernel, no_job rfl⟩⟩

/-! ### Operands that the hardware cannot present -/

/-- A ring entry that names a packet of `n` bytes at an address, and a reply address. -/
def sqEntry (at_ n reply : Nat) : List Byte := leBytes 8 at_ ++ leBytes 2 n ++ List.replicate 6 0 ++ leBytes 8 reply ++ List.replicate 8 0

/-- Ill-formed commands, at least one for each check of WellFormed. -/
def illFormed : List Instr :=
  [.packetFetch 0 [] [], .packetFetch 0 (sqEntry 0 2 0) [1], .packetFetch 0 (sqEntry 2 1 0) [1], .packetFetch 0 (sqEntry 0 1 2) [1],
    .resetMain 8 0 (List.replicate 19 0), .safeState 8 0 (List.replicate 4097 0) [],
    .registerWrite .bar2 0x10000 0 15 none, .registerWrite .bar0 0x100000 0 15 none, .registerWrite .config 0x1000 0 15 none,
    .registerWrite .bar0 2 0 15 none, .registerWrite .bar0 0 0 16 none, .registerWrite .bar0 4 0 0xFF (some 0),
    .latchRead .bar0 0x100001 false, .latchRead .bar0 4 true, .latchRead .bar2 0x10000 false, .stagedWrite 0x40042 0, .slackWindow 65536,
    .segVerify 0 0 false (some 0xC00000), .memRead 0 0 [0xC00000] [] none, .memRead 0 0 [] [0xC00000] none, .memRead 0 0 [] [] (some (2 ^ 34)),
    .adcSelfcal 0 0 [⟨14, 0, 0, 0, 0⟩], .census 0 0 [0], .memTest 0 0 [⟨0, 0, 192, true⟩], .memTestExternal 0 0 [⟨2 ^ 34, true⟩],
    .memTestExternal 0 0 [⟨1, true⟩], .pllLock 0 (2 ^ 32), .pllLockLoss 0 (2 ^ 32), .firstSampleEdge 0 0 false (some ⟨0xC00000, true⟩),
    .groupSample 0 0 false false (some ⟨0xC00000, false⟩), .targetHeld 0 1024 0 none, .targetHeld 0 0 0 (some ⟨0xC00000, true⟩),
    .underrun 0 0 0 none, .underrun 0 11 0 none, .underrun 0 1 0 (some 0xC00000), .eventRecord 0 [], .monitorSlot true 1000000 0 0,
    .conversionResult 0 (2 ^ 17), .conversionResult 0 (-(2 ^ 17) - 1), .svFrame 0 [(8, 0)], .svFrame 0 [(0, 8)],
    .gooseFrame ⟨0, [], 0, [], true, false, 0, false, 1, 0, 0, []⟩ 0,
    .gooseFrame ⟨0, List.replicate 6 0, 0, [], true, false, 0, false, 2 ^ 32, 0, 0, []⟩ 0, .ptpAnnounce ⟨0, true, 65536, true⟩,
    .ptpPdelay (some (2 ^ 32)), .initFlit 0 [], .data 0 [], .nak 0 [], .dlyReq 1 [] 0 0, .dlyRsp 0 [] 0, .timeFlit 0 [] 0,
    .nullFlit 0 [], .scrub [0xC00000] [], .scrub [] [0xC00000], .drmReadTimeout (2 ^ 34) false, .neighbourRefresh (2 ^ 34) 1,
    .neighbourRefresh 0 0, .commandFrame (List.replicate 4109 0) [], .poll (List.replicate 4109 0),
    .boot [⟨0, 0, 192, false⟩] false false none 0, .boot [] false false (some (5, 1)) 0, .boot [] false false (some (4, 3)) 0,
    .pcieLinkTraining true 0 1]

theorem test_ill_formed_refused : (illFormed.all fun i => !WellFormed i) = true := by decide +kernel

/-- Commands at the bounds of their operands. -/
def atBounds : List Instr :=
  [.packetFetch 0 (sqEntry 4 20 8) (List.replicate 20 0), .registerWrite .bar2 0xFFFC 0 15 none, .registerWrite .bar0 0xFFFFC 0 15 none,
    .registerWrite .config 0xFFC 0 15 none, .registerWrite .bar0 0xFFFF8 0 0xFF (some 0), .latchRead .bar2 0xFFF8 true,
    .memRead 0 0 [0xBFFFFF] [] none, .targetHeld 0 1023 0 none, .underrun 0 10 0 none, .conversionResult 0 (-(2 ^ 17)),
    .boot [] false false (some (4, 4)) 0]

theorem test_boundaries_well_formed : (atBounds.all fun i => WellFormed i) = true := by decide +kernel

/-! ### Worked examples of the manual -/

/-- R31: the CRC over the nine ASCII bytes "123456789". -/
theorem test_crc : crc32c [0x31, 0x32, 0x33, 0x34, 0x35, 0x36, 0x37, 0x38, 0x39] = 0xE3069283 := by decide +kernel

/-- The device time of the example of 00_scope.md, as the words of a time register. -/
theorem test_time_fields : (timeLo (mkTime 1700000000 400000000 128), timeHi (mkTime 1700000000 400000000 128),
    timeXhi (mkTime 1700000000 400000000 128)) = (0x17D78400, 0x6553F100, 0x00800000) := by decide +kernel

/-- The ECHO packet of the example of 02_command_protocol_and_host.md. -/
def echoBytes : List Byte :=
  [0x01, 0x01, 0x08, 0x01, 0x5A, 0x30, 0x02, 0x00, 0x00, 0x10, 0x00, 0x00, 0x00, 0x00, 0x01, 0x00, 0x78, 0x56, 0x34, 0x12,
    0xF0, 0xDE, 0xBC, 0x9A]
def echoPacket : List Byte := echoBytes ++ leBytes 4 (crc32c echoBytes).toNat

/-- Its fetch puts ECHO in flight with the sequence number, class and payload of the example. -/
theorem test_echo_fetch : (match exec (.packetFetch 3 (sqEntry 0 28 0) echoPacket) (up.setQ 3 { hostQ with sizeLog2 := 6, tail := 1 }) with
    | .next t => (t.q 3).inflight.map fun c => (c.hdr.opcode, c.hdr.seq, c.hdr.cls, c.payload, c.reply.isNone)
    | _ => []) = [(0x0101, 0x1000, 1, [0x12345678, 0x9ABCDEF0], true)] := by decide +kernel

/-- The completion entry of the example, and the one of its repeat. -/
theorem test_echo_completion :
    (completionEntry (mkCmd 0 echoPacket 0 0) ⟨stOK, stOK, 0, [0x12345678, 0x9ABCDEF0]⟩ true).take 28 =
      [0x01, 0x01, 0x08, 0x00, 0x5A, 0x30, 0x02, 0x00, 0x00, 0x10, 0x00, 0x00, 0x00, 0x00, 0x01, 0x00, 0x78, 0x56, 0x34, 0x12,
        0xF0, 0xDE, 0xBC, 0x9A, 0x00, 0x01, 0x00, 0x00] ∧
    ((completionEntry (mkCmd 0 echoPacket 0 0) ⟨stDuplicate, stOK, 0, [0x12345678, 0x9ABCDEF0]⟩ true).drop 2).take 2 = [0x08, 0x01] := by
  decide +kernel

/-- The doorbell of the example: BAR2 offset 0x3000 is Q_SQ_TAIL of queue 3. -/
theorem test_doorbell : (match exec (.registerWrite .bar2 0x3000 6 15 none) (up.setQ 3 { hostQ with sizeLog2 := 6, tail := 5 }) with
    | .next t => (t.q 3).tail
    | _ => 0) = 6 := by decide +kernel

/-- The reply of the command at place 0 of queue 0 after a command. -/
def replied (i : Instr) (s : State) : Option (Nat × List Word) :=
  match exec i s with
  | .next t => (t.replyOf 0 0).map fun r => (r.status, r.result)
  | _ => none

/-- The REG_WRITE of SYS_SLACK_THR of 03_register_model.md, and the register after it. -/
theorem test_slack_thr : replied (.regWrite 0 0) (on up 0 (cmd 0x202 [0x34, 0x11A])) = some (0, [1, 0xFFFFFFFF]) ∧
    (match exec (.regWrite 0 0) (on up 0 (cmd 0x202 [0x34, 0x11A])) with
      | .next t => t.view .SYS_SLACK_THR 0 0
      | _ => 0) = 0x11A := by decide +kernel

/-- The offset of the examples of 04_timebase_and_angle.md: 37 s, valid. -/
def utc37 : State := (up.wr .TB_UTC_OFS 0 0 0x10025).wr .TB_CTL 0 0 0x4000

/-- TIME_SET_CALENDAR of 29 February 2024, and of 29 February 2100, which is no date. -/
theorem test_calendar :
    replied (.timeSetCalendar 0 0) (on utc37 0 (cmd 0x902 [0x1D0207E8, 0, 0, 0])) = some (0, [0x65DFC925, 0, 0]) ∧
    replied (.timeSetCalendar 0 0) (on utc37 0 (cmd 0x902 [0x1D020834, 0, 0, 0])) = some (stBadDate, []) := by decide +kernel

/-- PLL B of the example of 05_clock_synthesis.md with its values in effect and band 40 as the record gives it. -/
def pllB : State :=
  ((((((up.wr .PLLx_CTL 0 0 0x000440C1).wr .PLLx_INT 0 0 0x3A).wr .PLLx_FRAC 0 0 0xFB7E9100).wr .PLLx_POST 0 0 0x18).wr
    .PLLx_BAND_RANGE_k 0 40 0xE70EE5E2).wr .PLLx_BAND_TRIM_k 0 40 0x8000005B).wr .Gn_CLK 0 0 0x00100000

/-- Its expected count, its band, its status once locked, and the sample period of 52 ticks and 21.33 grains. -/
theorem test_synthesis : (pllB.lockExpect 0, pllB.chooseBand 0 (pllB.pllRatio 0), (pllB.setPll 0 { lock := true, band := 40 }).view .PLLx_STATUS 0 0,
    pllB.periodGrains 0) = (10066, some 40, 0x281, 52 * 256 + 21) := by decide +kernel

/-- SEG_DEFINE of the example of 06_segments.md: the segment is DEFINED. -/
theorem test_seg_define : replied (.segDefine 0 0)
    (on up 0 (cmd 0x301 [0x123, 0x0C08, 1, 0x01000000, 0, 0x100, 0x5A3C91E7, 0, 0])) = some (0, [1]) := by decide +kernel

/-- The contribution of partial 3 of the example of 09_harmonic_synthesis.md, at its angle. -/
theorem test_partial : ratioAngle 0x4000000000000000 3 0x38000 0 = 0x6000000000000000 ∧ sineOf 0x6000000000000000 = 5931641 ∧
    contribution (41943 * 65536) 0x6000000000000000 = 0x39ED17 := by decide +kernel

/-- Stage 6 of channel 0 in the example of 10_output_path.md, and the code of DAC 0. -/
theorem test_output : ((((up.wr .CHn_GAIN 0 0 0x14000000).wr .CHn_OFFSET 0 0 0xFFFFFC18).wr .CHn_CLIP_HI 0 0 0x70000000).chanOut 0 1500000000,
    dacCode 1874999000) = ((1874999000, false), 457763) := by decide +kernel

/-- SV_CONFIG of the example of 14_process_bus_and_time.md: the frame length, and the offset of ASDU 0. -/
theorem test_sv_config : replied (.svConfig 0 0) (on up 0 (cmd 0x701
    ([0x00210100, 0x04CD0C01, 0x40010100, 0x4000, 1, 8, 0x554D5A43, 0x31303030] ++ List.replicate 7 0))) = some (0, [0xD7, 0x21]) := by
  decide +kernel

/-- The first frame of the example of 14_process_bus_and_time.md. -/
def svExample : List Byte :=
  svFrameBytes ([0x00210100, 0x04CD0C01, 0x40010100, 0x4000, 1, 8, 0x554D5A43, 0x31303030] ++ List.replicate 7 0)
    [0x02, 0x48, 0x10, 0x00, 0x00, 0x01]
    [⟨0, [(0, 0), (0, 0), (0, 0), (0, 0), (457763, 0), (0, 0), (0, 0), (0, 0)], 2⟩, ⟨1, List.replicate 8 (0, 0), 2⟩] 2

theorem test_sv_frame : svExample.length = 215 ∧
    svExample.take 60 = [0x01, 0x0C, 0xCD, 0x04, 0x00, 0x01, 0x02, 0x48, 0x10, 0x00, 0x00, 0x01, 0x88, 0xBA, 0x40, 0x01, 0x00, 0xC9,
      0x00, 0x00, 0x00, 0x00, 0x60, 0x82, 0x00, 0xBD, 0x80, 0x01, 0x02, 0xA2, 0x82, 0x00, 0xB6, 0x30, 0x59, 0x80, 0x08, 0x43, 0x5A,
      0x4D, 0x55, 0x30, 0x30, 0x30, 0x31, 0x82, 0x02, 0x00, 0x00, 0x83, 0x04, 0x00, 0x00, 0x00, 0x01, 0x85, 0x01, 0x02, 0x87, 0x40] ∧
    (svExample.drop 92).take 8 = [0x00, 0x06, 0xFC, 0x23, 0, 0, 0, 0] ∧ (svExample.drop 138).take 2 = [0, 1] := by decide +kernel

/-- A member of the chain at depth 13, as in the example of 15_gunter_chain.md. -/
def depth13 : State :=
  let s := ((up.wr .CHN_CTL 0 0 2).setPort 0 { st := 3 })
  { s with chn := { s.chn with enumerated := true, depth := 13 } }

/-- The measurement of the example, with t1 at tick 0 of second 1000. -/
theorem test_chain_delay : (match exec (.dlyRsp 0 (flitBytes tyDlyRsp 0 0 0 0 (timeField (mkTime 1000 0 0) ++ timeField (mkTime 1000 40 32) ++
      timeField (mkTime 1000 56 0))) (mkTime 1000 96 48)) depth13 with
    | .next t => (t.chn.offset, t.view .CHN_Pp_DELAY 0 0)
    | _ => (0, 0)) = (8, 0x2828) := by decide +kernel

/-- The TIME flit of the example: CHN_TERR and CHN_STATUS. -/
theorem test_chain_time : (match exec (.timeFlit 0 (flitBytes tyTime 0 0 0 0 (timeField (mkTime 1000 0 0) ++ [3, 0, 0, 0] ++
      leBytes 4 0xFFFFFFF4 ++ [0, 0])) (mkTime 1000 2000 0)) { depth13 with chn := { depth13.chn with offset := 8 } } with
    | .next t => (t.view .CHN_TERR 0 0, t.view .CHN_STATUS 0 0)
    | _ => (0, 0)) = (0x1B, 0x000D000D) := by decide +kernel

/-- The castlings of the example of 16_onchip_memory.md: set 4 to PLAY is done, set 3 to NONE is refused while it holds windows. -/
theorem test_castle : (match exec .castlingDone { up with mem := { up.mem with castle := some ⟨4, 2, false⟩ } } with
    | .next t => t.view .MEM_CASTLE_RES 0 0
    | _ => 0) = 0x80000204 ∧
    (match exec (.memCastle 0x3) up with
    | .next t => (t.view .MEM_CASTLE_RES 0 0, t.view .MEM_CNT_CASTLE_REJ 0 0)
    | _ => (0, 0)) = (0x80110003, 1) := by decide +kernel

/-- The geometry of the example of 17_external_memory.md. -/
def drmExample : State :=
  (((((up.wr .DRM_GEOM 0 0 0x12).wr .DRM_HASH_B0 0 0 9).wr .DRM_HASH_B1 0 0 0x12).wr .DRM_HASH_B2 0 0 0x24).wr .DRM_HASH_CH0 0 0 0x40).wr
    .DRM_HASH_CH1 0 0 0x80

/-- The granule of address 0x1_2345_6780: channel 3, rank 0, bank 6, row 0x1_2345, and the capacity. -/
theorem test_drm_decode : (drmExample.view .DRM_CAPACITY 0 0, drmExample.drmChannel 0x123456780, drmExample.drmRank 0x123456780,
    drmExample.drmBank 0x123456780, drmExample.drmRow 0x123456780) = (0x4000, 3, 0, 6, 0x12345) := by decide +kernel

/-- The frame of the example of 18_management_port.md is read as the SAFE_STATE packet that it holds. -/
def safeBytes : List Byte := [0x04, 0x01, 0x08, 0x01, 0x01, 0x80, 0x00, 0x00, 0x10, 0x00, 0x00, 0x00, 0x05, 0x00, 0x00, 0x00]
def safePacket : List Byte := safeBytes ++ leBytes 4 (crc32c safeBytes).toNat

theorem test_safe_frame : (mgtFrame 1 safePacket).take 8 = [0x55, 0x55, 0x55, 0x55, 0xD5, 0x01, 0x14, 0x00] ∧
    (mgtFrame 1 safePacket).length = 32 ∧ parseFrame (mgtFrame 1 safePacket) = some (1, safePacket) ∧
    ((mkCmd 0 safePacket 0 0).hdr.opcode, (mkCmd 0 safePacket 0 0).hdr.dest, (mkCmd 0 safePacket 0 0).hdr.seq) = (0x0104, 5, 0x10) := by
  decide +kernel

/-- Channel 5 moves from G0 to G1 in the example of 20_mode_interactions.md: refused while both groups run, and done once they have stopped. -/
def chan5 (st : GState) : State :=
  on (((up.wr .CHn_CTL 5 0 0x201).setGrp 0 { st := st, n := 5, times := [up.now] }).setGrp 1 { st := st, n := 5, times := [up.now] }) 0
    (cmd 0x202 [0x61400, 0x211])

theorem test_chan_move : replied (.regWrite 0 0) (chan5 .running) = some (0x12, [0, 0]) ∧
    (match exec (.regWrite 0 0) (chan5 .running) with
      | .next t => t.view .CHn_CNT_IGNORED 5 0
      | _ => 0) = 1 ∧
    replied (.regWrite 0 0) (chan5 .stopped) = some (0, [1, 0xFFFFFFFF]) := by decide +kernel

/-- Group 0 of the relay test of 07_sequencer.md, waiting for its start at second 0x65DF_C964. -/
def relay : State :=
  let s := ((((banded up 0).wr .Gn_CLK 0 0 0x00140000).wr .Gn_CTL 0 0 1).wr .Gn_FREQ_HI 0 0 0x53E2).wr .Gn_FREQ_LO 0 0 0xD6238DA4
  on ({ s with tb := { s.tb with now := mkTime 0x65DFC963 0 0 } }.setGrp 0
    { st := .waiting, startAt := mkTime 0x65DFC964 0 0, startCmd := some ⟨0, 0⟩ }) 0
    { cmd 0x403 [0x100, 0x65DFC964, 0, 0] with phase := .begun }

/-- Its first sample, 3 ticks and 64 grains later: A[0], and the reply of GROUP_START. -/
theorem test_first_sample : (match exec (.firstSampleEdge 0 (mkTime 0x65DFC964 3 64) false none) relay with
    | .next t => ((t.grp 0).a, (t.replyOf 0 0).map fun r => (r.status, r.result))
    | _ => (0, none)) = (3746994889972, some (0, [0x65DFC964, 0x00400000, 3])) := by decide +kernel

end Sys2Proof.Tests
end

section
/-!
PROOF. What the outputs of a sample leave alone. `State.core` gathers it, so that each operation of the outputs has one law:
its `core` is the `core` before it.
-/
namespace Sys2Proof.Machine

/-! ### Sparse maps and folds -/

theorem KMap.find?_put_ne {α : Type} [DecidableEq α] (m : KMap α) {k k' : Nat} (v d : α) (h : k' ≠ k) :
    KMap.find? (KMap.put m k v d) k' = KMap.find? m k' := by
  unfold KMap.put
  split
  · exact KMap.find?_erase_ne m h
  · exact KMap.find?_insert_ne m v h

/-- What every step of a fold leaves alone, the fold leaves alone. -/
theorem State.foldl_same {α β : Type} (F : State → β) {f : State → α → State} (hf : ∀ s a, F (f s a) = F s) (l : List α) (s : State) :
    F (l.foldl f s) = F s := by
  induction l generalizing s with
  | nil => rfl
  | cons a l ih => exact (ih (f s a)).trans (hf s a)

/-- What both branches leave alone, the choice between them leaves alone. -/
theorem State.same_ite {β : Type} (F : State → β) {c : Prop} [Decidable c] {a b : State} {x : β} (ha : F a = x) (hb : F b = x) :
    F (if c then a else b) = x := by
  split <;> assumption

/-- A fold whose steps have an effect each on an item of their own: the items that are ready before it are done after it. -/
theorem State.foldl_each {f : State → Nat → State} {Ready Done : State → Nat → Prop} {l : List Nat} (hl : l.Nodup)
    (hdo : ∀ c ∈ l, ∀ s, Ready s c → Done (f s c) c) (hready : ∀ c ∈ l, ∀ s d, d ≠ c → Ready s d → Ready (f s c) d)
    (hdone : ∀ c ∈ l, ∀ s d, d ≠ c → Done s d → Done (f s c) d) {s : State} (hs : ∀ c ∈ l, Ready s c) :
    ∀ c ∈ l, Done (l.foldl f s) c := by
  have hstays : ∀ (d : Nat) (l' : List Nat) (s : State), (∀ c ∈ l', c ∈ l ∧ d ≠ c) → Done s d → Done (l'.foldl f s) d := by
    intro d l'
    induction l' with
    | nil => exact fun _ _ h => h
    | cons b l' ih =>
      intro s hb h
      obtain ⟨hbl, hne⟩ := hb b List.mem_cons_self
      exact ih _ (fun c hc => hb c (List.mem_cons_of_mem b hc)) (hdone b hbl s d hne h)
  induction l generalizing s with
  | nil => simp
  | cons a l ih =>
    obtain ⟨ha, hl⟩ := List.nodup_cons.mp hl
    have hne : ∀ c ∈ l, c ≠ a := fun c hc e => ha (e ▸ hc)
    have hmem : ∀ c ∈ l, c ∈ a :: l := fun c => List.mem_cons_of_mem a
    intro c hc
    rcases List.mem_cons.mp hc with rfl | hc
    · exact hstays c l _ (fun d hd => ⟨hmem d hd, (hne d hd).symm⟩) (hdo c List.mem_cons_self s (hs c List.mem_cons_self))
    · exact ih hl (fun d hd => hdo d (hmem d hd)) (fun d hd => hready d (hmem d hd)) (fun d hd => hdone d (hmem d hd))
        (fun d hd => hready a List.mem_cons_self s d (hne d hd) (hs d (hmem d hd)))
        (fun d l' s h => hstays d l' s fun e he => ⟨hmem e (h e he).1, (h e he).2⟩) c hc

/-! ### The registers that the outputs count in -/

/-- The counters that presenting a sample counts in. -/
def showCounters : List RegId :=
  [.CHn_CNT_CLIP, .CHn_CNT_CW_PASS, .CHn_CNT_CW_FAIL, .HRM_CNT_AMP_CLAMP, .DAC_CNT_STALE_d, .DAC_CNT_UNDERRUN_d, .EVT_CNT_LOST,
    .CHN_CNT_SUPPR]

/-- The offset is that of a counter of the outputs. -/
def isShowCounter (off : Nat) : Bool := showCounters.any fun r => (List.range 32).any fun i => off = r.off i 0

/-- The registers that the value of a channel is made of, and those that claims about a sample read beside them. -/
def showReads : List RegId :=
  [.CHn_CTL, .CHn_GAIN, .CHn_OFFSET, .CHn_CLIP_HI, .CHn_CLIP_LO, .OUT_DAC_SRC_d, .OUT_SV_SRC_s_q, .HRM_STATUS, .HRM_AMP_c_p,
    .HRM_RATIO_c_p, .HRM_PHASE_c_p, .SYS_ADDR]

theorem isShowCounter_iff {off : Nat} : isShowCounter off = true ↔ ∃ r ∈ showCounters, ∃ i < 32, off = r.off i 0 := by
  simp only [isShowCounter, List.any_eq_true, List.mem_range, decide_eq_true_eq]

theorem isShowCounter_of_read {r : RegId} {i j : Nat} (hr : r ∈ showReads) (hi : i < 32) (hj : j < 64) :
    ¬isShowCounter (r.off i j) = true := by
  rw [isShowCounter_iff]
  rintro ⟨r', hr', i', hi', e⟩
  simp only [showReads, showCounters, List.mem_cons, List.not_mem_nil, or_false] at hr hr'
  rcases hr with rfl | rfl | rfl | rfl | rfl | rfl | rfl | rfl | rfl | rfl | rfl | rfl <;>
    rcases hr' with rfl | rfl | rfl | rfl | rfl | rfl | rfl | rfl <;>
      · simp only [RegId.off, RegId.row] at e
        omega

theorem isShowCounter_of_group {r : RegId} {g : Nat} (hr : r ∈ [RegId.Gn_FALLBACK, .Gn_CNT_UNDERRUN]) :
    ¬isShowCounter (r.off g 0) = true := by
  rw [isShowCounter_iff]
  rintro ⟨r', hr', i', hi', e⟩
  simp only [showCounters, List.mem_cons, List.not_mem_nil, or_false] at hr hr'
  rcases hr with rfl | rfl <;>
    rcases hr' with rfl | rfl | rfl | rfl | rfl | rfl | rfl | rfl <;>
      · simp only [RegId.off, RegId.row] at e
        omega

/-! ### What the outputs leave alone -/

/-- A group but for the turn records that reach it from a chain leader (R354). -/
def Group.sansRecs (x : Group) : Group := { x with turnRecs := [] }

/-- Every group, but for its turn records. -/
def State.seq (s : State) (h : Nat) : Group := (s.grp h).sansRecs

/-- The registers, but for the counters of the outputs. -/
def State.settings (s : State) (off : Nat) : Option Word := if isShowCounter off then none else KMap.find? s.regs off

/-- The commands in flight, the content and the chain. -/
structure Backing where
  queues : KMap Queue
  tables : KMap (List Word)
  onchip : KMap Byte
  ext : KMap Byte
  segs : KMap Segment
  chn : Chain

def State.backing (s : State) : Backing := ⟨s.queues, s.tables, s.onchip, s.ext, s.segs, s.chn⟩

/-- What a channel that presents leaves alone. -/
def State.base (s : State) : Backing × (Nat → Group) × (Nat → Option Word) := (s.backing, s.seq, s.settings)

/-- What the outputs leave alone that are no channel: the same, and every channel with its windows and partials. -/
def State.core (s : State) : (Backing × (Nat → Group) × (Nat → Option Word)) × KMap Channel × KMap CheckWin × KMap Partial :=
  (s.base, s.chans, s.wins, s.partials)

theorem State.base_of_core {s t : State} (h : t.core = s.core) : t.base = s.base := congrArg Prod.fst h

theorem State.chans_of_core {s t : State} (h : t.core = s.core) : t.chans = s.chans := congrArg (fun x => x.2.1) h

theorem State.wins_of_core {s t : State} (h : t.core = s.core) : t.wins = s.wins := congrArg (fun x => x.2.2.1) h

theorem State.partials_of_core {s t : State} (h : t.core = s.core) : t.partials = s.partials := congrArg (fun x => x.2.2.2) h

theorem State.backing_of_base {s t : State} (h : t.base = s.base) : t.backing = s.backing := congrArg Prod.fst h

theorem State.seq_of_base {s t : State} (h : t.base = s.base) : t.seq = s.seq := congrArg (fun x => x.2.1) h

theorem State.settings_of_base {s t : State} (h : t.base = s.base) : t.settings = s.settings := congrArg (fun x => x.2.2) h

/-- A register that is no counter of the outputs reads as before. -/
theorem State.rd_of_settings {s t : State} (h : t.settings = s.settings) {r : RegId} {i j : Nat}
    (ho : ¬isShowCounter (r.off i j) = true) : t.rd r i j = s.rd r i j := by
  have := congrFun h (r.off i j)
  simp only [State.settings, if_neg ho] at this
  simp only [State.rd, KMap.getD, this]

/-- A register that the value of a channel is made of, or that claims about a sample read. -/
theorem State.rd_show {s t : State} (h : t.settings = s.settings) {r : RegId} {i j : Nat} (hr : r ∈ showReads) (hi : i < 32)
    (hj : j < 64) : t.rd r i j = s.rd r i j := State.rd_of_settings h (isShowCounter_of_read hr hi hj)

theorem State.rb_show {s t : State} (h : t.settings = s.settings) {r : RegId} {i j : Nat} (hr : r ∈ showReads) (hi : i < 32)
    (hj : j < 64) (b : Nat) : t.rb r i j b = s.rb r i j b := congrArg (bit · b) (State.rd_show h hr hi hj)

theorem State.rf_show {s t : State} (h : t.settings = s.settings) {r : RegId} {i j : Nat} (hr : r ∈ showReads) (hi : i < 32)
    (hj : j < 64) (a b : Nat) : t.rf r i j a b = s.rf r i j a b := congrArg (fld · a b) (State.rd_show h hr hi hj)

/-! ### Counters, interrupts and logs -/

@[simp] theorem State.bump_core (s : State) {r : RegId} {i : Nat} (hr : r ∈ showCounters) (hi : i < 32) :
    (s.bump r i).core = s.core := by
  have : (s.bump r i).settings = s.settings := by
    funext off
    by_cases ho : isShowCounter off = true
    · simp [State.settings, ho]
    · have hne : off ≠ r.off i 0 := fun e => ho (isShowCounter_iff.mpr ⟨r, hr, i, hi, e⟩)
      simp only [State.settings, ho, State.bump, State.wr_regs, KMap.find?_put_ne _ _ _ hne]
  simp only [State.core, State.base, this]
  rfl

/-- `F` does not see logs of events, interrupts, device time or sampled values. -/
structure State.Aside {β : Type} (F : State → β) : Prop where
  lost : ∀ s : State, F (s.bump .EVT_CNT_LOST) = F s
  put : ∀ (s : State) (x : Sent), F (s.put x) = F s
  pend : ∀ (s : State) (l : List Nat), F { s with msixPend := l } = F s
  ev : ∀ (s : State) (e : Events), F { s with ev := e } = F s
  tb : ∀ (s : State) (b : Timebase), F { s with tb := b } = F s
  sv : ∀ (s : State) (i : Nat) (x : SvStream), F (s.setSv i x) = F s

section
variable {β : Type} {F : State → β} (h : State.Aside F)
include h

theorem State.Aside.irqIf (s : State) (r : RegId) (i en : Nat) : F (s.irqIf r i en) = F s := by
  unfold State.irqIf State.irq
  split
  · split
    · rfl
    · split
      · split
        · rfl
        · exact h.pend _ _
      · exact h.put _ _
  · rfl

theorem State.Aside.logEvent (s : State) (r : EvRec) : F (s.logEvent r) = F s := by
  have hlost : ∀ (c : Prop) [Decidable c] (t : State), F t = F s → F (if c then t.bump .EVT_CNT_LOST else t) = F s :=
    fun c _ t ht => State.same_ite F ((h.lost t).trans ht) ht
  unfold State.logEvent
  exact State.same_ite F ((h.irqIf _ _ _ _).trans (hlost _ _ (h.ev _ _))) (hlost _ _ (h.ev _ _))

theorem State.Aside.flushLog (s : State) : F s.flushLog = F s := by
  unfold State.flushLog
  exact State.same_ite F ((State.foldl_same F h.logEvent _ _).trans (h.ev _ _)) rfl

theorem State.Aside.reach (s : State) (t : Nat) : F (s.reach t) = F s := by
  unfold State.reach
  exact State.same_ite F ((h.flushLog _).trans (h.tb _ _)) rfl

theorem State.Aside.svTo (s : State) (st t n : Nat) : F (s.svTo st t n) = F s := by
  induction n generalizing s with
  | zero => rfl
  | succ n ih =>
    unfold State.svTo
    exact State.same_ite F ((ih _).trans (h.sv _ _ _)) rfl

/-- The state that a sample edge finds: device time has reached it, and the sampled values before it are gathered (R317). -/
theorem State.Aside.atEdge (s : State) (t : Nat) : F ((s.svCatchUp t).reach t) = F s :=
  (h.reach _ _).trans (State.foldl_same F (fun _ _ => State.same_ite F (h.svTo _ _ _ _) rfl) _ _)

end

theorem State.core_aside : State.Aside State.core where
  lost s := s.bump_core (by decide) (by decide)
  put _ _ := rfl
  pend _ _ := rfl
  ev _ _ := rfl
  tb _ _ := rfl
  sv _ _ _ := rfl

theorem State.groups_aside : State.Aside State.groups := ⟨fun _ => rfl, fun _ _ => rfl, fun _ _ => rfl, fun _ _ => rfl, fun _ _ => rfl,
  fun _ _ _ => rfl⟩

/-! ### DACs, pairs and markers -/

theorem State.liveDacs_lt {s : State} {g d : Nat} (h : d ∈ s.liveDacs g) : d < 32 := by
  simp only [State.liveDacs, List.mem_filter, List.mem_range] at h
  exact h.1

/-- As `foldl_same`, for steps that leave `F` alone on the items of the list. -/
theorem State.foldl_same_mem {α β : Type} (F : State → β) {f : State → α → State} {l : List α} (hf : ∀ a ∈ l, ∀ s, F (f s a) = F s)
    (s : State) : F (l.foldl f s) = F s := by
  induction l generalizing s with
  | nil => rfl
  | cons a l ih =>
    exact (ih (fun b hb => hf b (List.mem_cons_of_mem a hb)) (f s a)).trans (hf a List.mem_cons_self s)

@[simp] theorem State.frameEnter_core (s : State) (g due : Nat) (f : Frame) : (s.frameEnter g due f).core = s.core := by
  refine State.foldl_same_mem State.core (fun d hd s => ?_) s
  split
  · unfold State.dacEnter
    split
    · exact s.bump_core (by decide) (State.liveDacs_lt hd)
    · rfl
  · rfl

@[simp] theorem State.dacEdges_core (s : State) (g : Nat) : (s.dacEdges g).core = s.core := by
  refine State.foldl_same_mem State.core (fun d hd s => ?_) s
  unfold State.dacEdge
  dsimp only
  split
  · rfl
  · exact State.bump_core _ (by decide) (State.liveDacs_lt hd)

@[simp] theorem State.rampEdges_core (s : State) (g : Nat) : (s.rampEdges g).core = s.core := by
  refine State.foldl_same State.core (fun s d => ?_) _ s
  split
  · split <;> rfl
  · rfl

@[simp] theorem State.settlePairs_core (s : State) (t : Nat) : (s.settlePairs t).core = s.core := by
  refine State.foldl_same State.core (fun s k => ?_) _ s
  unfold State.settlePair
  split
  · dsimp only
    split <;> rfl
  · rfl

@[simp] theorem State.markEntry_core (s : State) (g mark t : Nat) : (s.markEntry g mark t).core = s.core := by
  refine State.foldl_same State.core (fun s m => ?_) _ s
  split <;> rfl

@[simp] theorem State.dacGain_core (s : State) (d : Nat) : (s.dacGain d).core = s.core := by
  unfold State.dacGain
  dsimp only
  split
  · split <;> rfl
  · rfl
  · split <;> rfl

/-! ### Turn records on the chain (R113, R354) -/

theorem State.sendData_core {s t : State} {p vc : Nat} {body : List Byte} (h : s.sendData p vc body = some t) : t.core = s.core := by
  unfold State.sendData at h
  dsimp only at h
  split at h
  · split at h
    · exact Option.some.inj h ▸ rfl
    · cases h
  · cases h

theorem State.pump_core (s : State) (p n : Nat) : (s.pump p n).core = s.core := by
  induction n generalizing s with
  | zero => rfl
  | succ n ih =>
    unfold State.pump
    dsimp only
    split
    case h_4 => rfl
    case h_1 | h_2 | h_3 =>
      rename_i h
      split at h
      · obtain ⟨u, hu, rfl⟩ := Option.map_eq_some_iff.mp h
        exact (ih _).trans (State.sendData_core (t := u) hu)
      · cases h

@[simp] theorem State.flood_core (s : State) (from_ : Nat) (body : List Byte) : (s.flood from_ body).core = s.core := by
  refine State.foldl_same State.core (fun s p => ?_) _ s
  split
  · unfold State.sendBodies
    split
    · exact State.pump_core _ _ _
    · rfl
  · rfl

theorem State.seq_setGrp {s : State} {i : Nat} {x : Group} (h : x.sansRecs = (s.grp i).sansRecs) : (s.setGrp i x).seq = s.seq := by
  funext j
  by_cases hj : j = i
  · subst hj
    simp [State.seq, h]
  · simp [State.seq, State.grp_setGrp_ne s x hj]

@[simp] theorem State.takeTurnRecord_core (s : State) (r : TurnRec) : (s.takeTurnRecord r).core = s.core := by
  refine State.foldl_same State.core (fun s g => ?_) _ s
  split
  · have h := State.seq_setGrp (s := s) (i := g) (x := { s.grp g with turnRecs := (s.grp g).turnRecs ++ [r] }) rfl
    simp only [State.core, State.base, State.modGrp, h]
    rfl
  · rfl

@[simp] theorem State.sendTurnRecord_core (s : State) (r : TurnRec) : (s.sendTurnRecord r).core = s.core := by
  unfold State.sendTurnRecord
  split
  · rfl
  · split
    · rw [State.takeTurnRecord_core, State.flood_core]
    · exact s.bump_core (by decide) (by decide)

@[simp] theorem State.leaderRecords_core (s : State) (g : Nat) : (s.leaderRecords g).core = s.core := by
  unfold State.leaderRecords
  dsimp only
  split
  · rfl
  · split
    · exact State.foldl_same State.core (f := fun s r => s.sendTurnRecord r) State.sendTurnRecord_core _ _
    · exact State.foldl_same State.core (f := fun s (r : Nat × TurnRec) => s.sendTurnRecord r.2)
        (fun s r => State.sendTurnRecord_core s r.2) _ _

end Sys2Proof.Machine
end
section
/-!
PROOF. The channels of a sample: presenting or repeating one leaves the others alone, and what its value is made of.
-/
namespace Sys2Proof.Machine

/-! ### One channel -/

/-- The windows and the partials of a channel. -/
def State.kit (s : State) (c : Nat) : (Nat → CheckWin) × (Nat → Partial) :=
  (fun k => if k < 4 then s.win (4 * c + k) else {}, fun p => if p < 64 then s.prt (prtKey c p) else {})

/-- What the windows and partials of a channel leave alone. -/
def State.front (s : State) : (Backing × (Nat → Group) × (Nat → Option Word)) × KMap Channel := (s.base, s.chans)

theorem State.front_of_core {s t : State} (h : t.core = s.core) : t.front = s.front := by
  simp only [State.front, State.base_of_core h, State.chans_of_core h]

theorem State.base_of_front {s t : State} (h : t.front = s.front) : t.base = s.base := congrArg Prod.fst h

theorem State.chan_of_front {s t : State} (h : t.front = s.front) (c : Nat) : t.chan c = s.chan c := by
  have : t.chans = s.chans := congrArg Prod.snd h
  simp only [State.chan, this]

theorem State.kit_of_core {s t : State} (h : t.core = s.core) (c : Nat) : t.kit c = s.kit c := by
  simp only [State.kit, State.win, State.prt, State.wins_of_core h, State.partials_of_core h]

theorem State.kit_setWin {s : State} {c d k : Nat} (h : d ≠ c) (hk : k < 4) (w : CheckWin) :
    (s.setWin (4 * c + k) w).kit d = s.kit d := by
  refine Prod.ext (funext fun j => ?_) rfl
  simp only [State.kit]
  split
  · exact s.win_setWin_ne w (by omega)
  · rfl

theorem State.kit_setPrt {s : State} {c d p : Nat} (h : d ≠ c) (hp : p < 64) (x : Partial) :
    (s.setPrt (prtKey c p) x).kit d = s.kit d := by
  refine Prod.ext rfl (funext fun j => ?_)
  simp only [State.kit]
  split
  · exact s.prt_setPrt_ne x (by unfold prtKey; omega)
  · rfl

theorem State.cwEnd_core (s : State) {c : Nat} (hc : c < 32) (new : CwSt) : (s.cwEnd c new).core = s.core := by
  unfold State.cwEnd
  split
  · rw [State.core_aside.irqIf, State.bump_core s (by decide) hc]
  · rw [State.core_aside.irqIf, State.bump_core s (by decide) hc]
  · exact State.core_aside.irqIf _ _ _ _
  · rfl

theorem State.cwSample_front (s : State) {c : Nat} (hc : c < 32) (k : Nat) (code : Int) (t : Nat) (under : Bool) :
    (s.cwSample c k code t under).front = s.front := by
  unfold State.cwSample
  exact State.same_ite State.front rfl ((State.front_of_core (State.cwEnd_core _ hc _)).trans rfl)

theorem State.cwSample_kit (s : State) {c d k : Nat} (hc : c < 32) (h : d ≠ c) (hk : k < 4) (code : Int) (t : Nat) (under : Bool) :
    (s.cwSample c k code t under).kit d = s.kit d := by
  unfold State.cwSample
  exact State.same_ite (fun s => s.kit d) rfl
    ((State.kit_of_core (State.cwEnd_core _ hc _) d).trans (State.kit_setWin h hk _))

theorem State.prtAdvance_front (s : State) (c : Nat) (a turn : W64) : (s.prtAdvance c a turn).front = s.front := by
  have hbump : ∀ s : State, (s.bump .HRM_CNT_AMP_CLAMP).front = s.front := fun s =>
    State.front_of_core (s.bump_core (by decide) (by decide))
  refine State.foldl_same State.front (fun s p => ?_) _ s
  have hset : (if (s.prtNext c p a turn).1 = s.prt (prtKey c p) then s else s.setPrt (prtKey c p) (s.prtNext c p a turn).1).front =
      s.front := State.same_ite State.front rfl rfl
  exact State.same_ite State.front ((hbump _).trans hset) hset

theorem State.prtAdvance_kit (s : State) {c d : Nat} (h : d ≠ c) (a turn : W64) : (s.prtAdvance c a turn).kit d = s.kit d := by
  refine State.foldl_same_mem (fun s => s.kit d) (fun p hp s => ?_) s
  have hset : (if (s.prtNext c p a turn).1 = s.prt (prtKey c p) then s else s.setPrt (prtKey c p) (s.prtNext c p a turn).1).kit d =
      s.kit d := State.same_ite (fun s => s.kit d) rfl (State.kit_setPrt h (List.mem_range.mp hp) _)
  exact State.same_ite (fun s => s.kit d) hset hset

/-- The windows and partials of a channel go on after a code that it presents, which each window reads from the state. -/
def State.coverCode (s : State) (c : Nat) (code : State → Int) (t : Nat) (under : Bool) (a turn : W64) : State :=
  ((List.range 4).foldl (fun s k => s.cwSample c k (code s) t under) s).prtAdvance c a turn

theorem State.coverCode_front (s : State) {c : Nat} (hc : c < 32) (code : State → Int) (t : Nat) (under : Bool) (a turn : W64) :
    (s.coverCode c code t under a turn).front = s.front :=
  (State.prtAdvance_front _ _ _ _).trans (State.foldl_same State.front (fun s k => s.cwSample_front hc k (code s) t under) _ s)

theorem State.coverCode_kit (s : State) {c d : Nat} (hc : c < 32) (h : d ≠ c) (code : State → Int) (t : Nat) (under : Bool)
    (a turn : W64) :
    (s.coverCode c code t under a turn).kit d = s.kit d :=
  (State.prtAdvance_kit _ h _ _).trans
    (State.foldl_same_mem (fun s => s.kit d) (fun _ hk s => s.cwSample_kit hc h (List.mem_range.mp hk) (code s) t under) s)

/-- The state with the channel's new value and flags, before its windows and partials go on. -/
def State.chanShown (s : State) (g c t : Nat) : State :=
  let w := s.chanValue g c (s.grp g).a (s.grp g).turn
  let s1 := s.modChan c fun y => { y with value := wordOfInt w.1, clipped := w.2, repeated := false, lastT := t }
  if w.2 then s1.bump .CHn_CNT_CLIP c else s1

theorem State.chanPresent_eq (s : State) (g c t : Nat) (under : Bool) :
    s.chanPresent g c t under = (s.chanShown g c t).coverCode c
      (fun _ => dacCode (s.chanValue g c (s.grp g).a (s.grp g).turn).1) t under (s.grp g).a (s.grp g).turn := by
  simp only [State.chanPresent, State.coverCode, State.chanShown]

theorem State.chanRepeat_eq (s : State) (g c t : Nat) :
    s.chanRepeat g c t = (s.modChan c fun y => { y with repeated := true, lastT := t }).coverCode c
      (fun s => dacCode (sint (s.chan c).value)) t true (s.grp g).a (s.grp g).turn := by
  simp only [State.chanRepeat, State.coverCode]

/-- The clip counter leaves the channels and what they are made of alone. -/
theorem State.chanShown_core (s : State) (g t : Nat) {c : Nat} (hc : c < 32) :
    (s.chanShown g c t).core = (s.modChan c fun y => { y with
      value := wordOfInt (s.chanValue g c (s.grp g).a (s.grp g).turn).1
      clipped := (s.chanValue g c (s.grp g).a (s.grp g).turn).2, repeated := false, lastT := t }).core :=
  State.same_ite State.core (State.bump_core _ (by decide) hc) rfl

section
variable (s : State) {g c d t : Nat} (hc : c < 32)
include hc

theorem State.chanPresent_base (under : Bool) : (s.chanPresent g c t under).base = s.base := by
  rw [State.chanPresent_eq, State.base_of_front (State.coverCode_front _ hc _ _ _ _ _),
    State.base_of_core (s.chanShown_core g t hc)]
  rfl

theorem State.chanPresent_kit (h : d ≠ c) (under : Bool) : (s.chanPresent g c t under).kit d = s.kit d := by
  rw [State.chanPresent_eq, State.coverCode_kit _ hc h, State.kit_of_core (s.chanShown_core g t hc)]
  rfl

theorem State.chanPresent_chan_ne (h : d ≠ c) (under : Bool) : (s.chanPresent g c t under).chan d = s.chan d := by
  rw [State.chanPresent_eq, State.chan_of_front (State.coverCode_front _ hc _ _ _ _ _),
    State.chan_of_front (State.front_of_core (s.chanShown_core g t hc))]
  exact s.chan_setChan_ne _ h

theorem State.chanPresent_chan (under : Bool) : (s.chanPresent g c t under).chan c = { s.chan c with
    value := wordOfInt (s.chanValue g c (s.grp g).a (s.grp g).turn).1
    clipped := (s.chanValue g c (s.grp g).a (s.grp g).turn).2, repeated := false, lastT := t } := by
  rw [State.chanPresent_eq, State.chan_of_front (State.coverCode_front _ hc _ _ _ _ _),
    State.chan_of_front (State.front_of_core (s.chanShown_core g t hc))]
  exact s.chan_setChan_same _ _

theorem State.chanRepeat_base : (s.chanRepeat g c t).base = s.base := by
  rw [State.chanRepeat_eq, State.base_of_front (State.coverCode_front _ hc _ _ _ _ _)]
  rfl

theorem State.chanRepeat_chan_ne (h : d ≠ c) : (s.chanRepeat g c t).chan d = s.chan d := by
  rw [State.chanRepeat_eq, State.chan_of_front (State.coverCode_front _ hc _ _ _ _ _)]
  exact s.chan_setChan_ne _ h

theorem State.chanRepeat_chan : (s.chanRepeat g c t).chan c = { s.chan c with repeated := true, lastT := t } := by
  rw [State.chanRepeat_eq, State.chan_of_front (State.coverCode_front _ hc _ _ _ _ _)]
  exact s.chan_setChan_same _ _

end

/-! ### What a channel value is made of -/

/-- Segments, memory and tables. -/
def State.content (s : State) : KMap Segment × KMap Byte × KMap Byte × KMap (List Word) := (s.segs, s.onchip, s.ext, s.tables)

/-- Of a group, what the values of its channels are made of beside its angle. -/
def Group.tune (x : Group) : Bool × Nat × Bool × List (Nat × Nat × Nat) × Int := (x.fb, x.entry, x.hrmOn, x.tpos, x.recTurn)

section
variable {s t : State} (h : t.content = s.content)
include h

theorem State.segSt_congr (i : Nat) : t.segSt i = s.segSt i := by
  have : t.segs = s.segs := congrArg Prod.fst h
  simp only [State.segSt, State.seg, this]

theorem State.segDesc_congr (i : Nat) : t.segDesc i = s.segDesc i := by
  have : t.segs = s.segs := congrArg Prod.fst h
  simp only [State.segDesc, State.seg, this]

theorem State.entry_congr (g e : Nat) : t.entry g e = s.entry g e := by
  have : t.tables = s.tables := congrArg (fun x => x.2.2.2) h
  simp only [State.entry, this]

theorem State.byteAt_congr (chip : Bool) (a : Nat) : t.byteAt chip a = s.byteAt chip a := by
  have hm : t.onchip = s.onchip := congrArg (fun x => x.2.1) h
  have he : t.ext = s.ext := congrArg (fun x => x.2.2.1) h
  simp only [State.byteAt, hm, he]

theorem State.bytesAt_congr (chip : Bool) (a n : Nat) : t.bytesAt chip a n = s.bytesAt chip a n := by
  simp only [State.bytesAt, State.byteAt_congr h]

theorem State.sample_congr (i p : Nat) : t.sample i p = s.sample i p := by
  simp only [State.sample, State.segDesc_congr h, State.bytesAt_congr h]

theorem State.pointM_congr (i p : Nat) : t.pointM i p = s.pointM i p := by
  simp only [State.pointM, State.segDesc_congr h, State.bytesAt_congr h, State.sample_congr h]

theorem State.readC_congr (seg : Nat) (a : W64) : t.readC seg a = s.readC seg a := by
  simp only [State.readC, State.segDesc_congr h, State.sample_congr h]

theorem State.readM_congr (seg : Nat) (a : W64) (turn : Int) : t.readM seg a turn = s.readM seg a turn := by
  simp only [State.readM, State.segDesc_congr h, State.pointM_congr h]

theorem State.readT_congr (seg pos : Nat) : t.readT seg pos = s.readT seg pos := by
  simp only [State.readT, State.segDesc_congr h, State.sample_congr h]

theorem State.slotValue_congr {g : Nat} (hg : (t.grp g).tune = (s.grp g).tune) (j : Nat) (a : W64) :
    t.slotValue g j a = s.slotValue g j a := by
  simp only [Group.tune, Prod.mk.injEq] at hg
  obtain ⟨-, hentry, -, htpos, hturn⟩ := hg
  simp only [State.slotValue, State.entry_congr h, State.segSt_congr h, State.segDesc_congr h, State.readC_congr h, State.readM_congr h,
    State.readT_congr h, hentry, htpos, hturn]

end

/-- A route entry names channel `c`. -/
def namesChan (c : Nat) (w : Word) : Bool := bit w 31 && fld w 4 0 = c

theorem State.covered_eq (s : State) (c : Nat) : s.covered c = (decide (s.rd .CHn_GAIN c = 0) || bit (s.rd .CHn_CTL c) 1 ||
    !((List.range 32).any (fun d => namesChan c (s.rd .OUT_DAC_SRC_d d)) ||
      (List.range 128).any (fun i => namesChan c (s.rd .OUT_SV_SRC_s_q (i / 8) (i % 8))) ||
      (List.range 4).any fun k => (s.win (4 * c + k)).st.live)) := rfl

theorem List.any_range_congr {n : Nat} {f f' : Nat → Bool} (h : ∀ i < n, f i = f' i) : (List.range n).any f = (List.range n).any f' := by
  rw [Bool.eq_iff_iff, List.any_eq_true, List.any_eq_true]
  exact exists_congr fun i => and_congr_right fun hi => by rw [h i (List.mem_range.mp hi)]

theorem State.covered_congr {s t : State} (h : t.settings = s.settings) {c : Nat} (hc : c < 32) (hk : t.kit c = s.kit c) :
    t.covered c = s.covered c := by
  have hdac : ∀ d < 32, namesChan c (t.rd .OUT_DAC_SRC_d d) = namesChan c (s.rd .OUT_DAC_SRC_d d) := fun d hd =>
    congrArg (namesChan c) (State.rd_show h (by decide) hd (by decide))
  have hsv : ∀ i < 128, namesChan c (t.rd .OUT_SV_SRC_s_q (i / 8) (i % 8)) = namesChan c (s.rd .OUT_SV_SRC_s_q (i / 8) (i % 8)) :=
    fun i hi => congrArg (namesChan c) (State.rd_show h (by decide) (by omega) (by omega))
  have hwin : ∀ k < 4, (t.win (4 * c + k)).st.live = (s.win (4 * c + k)).st.live := fun k hk4 => by
    have := congrFun (congrArg Prod.fst hk) k
    simp only [State.kit, if_pos hk4] at this
    rw [this]
  rw [State.covered_eq, State.covered_eq, List.any_range_congr hdac, List.any_range_congr hsv, List.any_range_congr hwin,
    State.rd_show (r := .CHn_GAIN) h (by decide) hc (by decide), State.rd_show (r := .CHn_CTL) h (by decide) hc (by decide)]

theorem State.prtAngle_congr {s t : State} (h : t.settings = s.settings) {c p : Nat} (hc : c < 32) (hp : p < 64)
    (hx : t.prt (prtKey c p) = s.prt (prtKey c p)) (a turn : W64) : t.prtAngle c p a turn = s.prtAngle c p a turn := by
  have habs : t.prtAbs c p = s.prtAbs c p := State.rb_show h (by decide) hc hp 28
  simp only [State.prtAngle, habs, hx, State.rd_show (r := .HRM_RATIO_c_p) h (by decide) hc hp,
    State.rd_show (r := .HRM_PHASE_c_p) h (by decide) hc hp]

theorem State.prtSum_congr {s t : State} (h : t.settings = s.settings) {c : Nat} (hc : c < 32) (hk : t.kit c = s.kit c) (pset : Nat)
    (a turn : W64) : t.prtSum c pset a turn = s.prtSum c pset a turn := by
  have hprt : ∀ p < 64, t.prt (prtKey c p) = s.prt (prtKey c p) := fun p hp => by
    have := congrFun (congrArg Prod.snd hk) p
    simpa only [State.kit, if_pos hp] using this
  unfold State.prtSum
  rw [State.rb_show (r := .HRM_STATUS) h (by decide) (by decide) (by decide)]
  refine ite_congr rfl (fun _ => rfl) fun _ => List.foldl_ext _ _ _ fun acc p hp => ?_
  have hp := List.mem_range.mp hp
  rw [State.rb_show (r := .HRM_AMP_c_p) h (by decide) hc hp, State.prtAngle_congr h hc hp (hprt p hp), hprt p hp]

theorem State.chanOut_congr {s t : State} (h : t.settings = s.settings) {c : Nat} (hc : c < 32) (v : Int) :
    t.chanOut c v = s.chanOut c v := by
  have hrd : ∀ {r : RegId}, r ∈ showReads → t.rd r c 0 = s.rd r c 0 := fun hr => State.rd_show h hr hc (by decide)
  simp only [State.chanOut, hrd (r := .CHn_GAIN) (by decide), hrd (r := .CHn_OFFSET) (by decide),
    hrd (r := .CHn_CLIP_LO) (by decide), hrd (r := .CHn_CLIP_HI) (by decide)]

/-- The value of a channel rests on settings, content, its group's tune and its own partials and windows (R236, R447). -/
theorem State.chanValue_congr {s t : State} {g c : Nat} (hc : c < 32) (hset : t.settings = s.settings) (hm : t.content = s.content)
    (hg : (t.grp g).tune = (s.grp g).tune) (hk : t.kit c = s.kit c) (a turn : W64) :
    t.chanValue g c a turn = s.chanValue g c a turn := by
  have hslot := fun j => State.slotValue_congr hm hg j a
  simp only [Group.tune, Prod.mk.injEq] at hg
  obtain ⟨hfb, hentry, hhrm, -, -⟩ := hg
  have hslotNo : t.chSlot c = s.chSlot c := State.rf_show hset (by decide) hc (by decide) 10 8
  have hfall : t.rf .Gn_FALLBACK g 0 13 0 = s.rf .Gn_FALLBACK g 0 13 0 :=
    congrArg (fld · 13 0) (State.rd_of_settings hset (isShowCounter_of_group (by decide)))
  simp only [State.chanValue, hfb, hentry, hhrm, hfall, hslot, hslotNo, State.segSt_congr hm, State.entry_congr hm, State.readC_congr hm,
    State.covered_congr hset hc hk, State.prtSum_congr hset hc hk, State.chanOut_congr hset hc,
    State.rd_show (r := .CHn_CLIP_LO) (j := 0) hset (by decide) hc (by decide),
    State.rd_show (r := .CHn_CLIP_HI) (j := 0) hset (by decide) hc (by decide)]

end Sys2Proof.Machine
end
section
/-!
PROOF. The presentation of a sample: what `State.present` does to the group, its channels and the rest of the device.
-/
namespace Sys2Proof.Machine

/-! ### What a sample of one group leaves alone -/

/-- Every group but `g`, each but for its turn records. -/
def State.others (s : State) (g h : Nat) : Group := if h = g then {} else s.seq h

/-- What presenting a sample of group `g` leaves alone. -/
def State.around (s : State) (g : Nat) : Backing × (Nat → Option Word) × (Nat → Group) := (s.backing, s.settings, s.others g)

/-- What forming a sample of group `g` leaves alone, which may count and set registers of the group and of its blocks. -/
def State.rest (s : State) (g : Nat) : Backing × Nat × (Nat → Group) := (s.backing, s.ownAddr, s.others g)

theorem State.around_of_base {s t : State} (h : t.base = s.base) (g : Nat) : t.around g = s.around g := by
  have ho : t.others g = s.others g := by
    funext i
    simp only [State.others, State.seq_of_base h]
  simp only [State.around, State.backing_of_base h, State.settings_of_base h, ho]

theorem State.settings_of_around {s t : State} {g : Nat} (h : t.around g = s.around g) : t.settings = s.settings :=
  congrArg (fun x => x.2.1) h

theorem State.rest_of_around {s t : State} {g : Nat} (h : t.around g = s.around g) : t.rest g = s.rest g := by
  have hb : t.backing = s.backing := congrArg Prod.fst h
  have ho : t.others g = s.others g := congrArg (fun x => x.2.2) h
  have ha : t.ownAddr = s.ownAddr := State.rf_show (State.settings_of_around h) (by decide) (by decide) (by decide) 13 0
  simp only [State.rest, hb, ho, ha]

theorem State.others_setGrp (s : State) (g : Nat) (x : Group) : (s.setGrp g x).others g = s.others g := by
  funext i
  unfold State.others
  split
  · rfl
  · simp only [State.seq, s.grp_setGrp_ne x ‹_›]

@[simp] theorem State.around_setGrp (s : State) (g : Nat) (x : Group) : (s.setGrp g x).around g = s.around g := by
  simp only [State.around, State.others_setGrp]
  rfl

@[simp] theorem State.around_modGrp (s : State) (g : Nat) (f : Group → Group) : (s.modGrp g f).around g = s.around g :=
  s.around_setGrp g _

@[simp] theorem State.rest_setGrp (s : State) (g : Nat) (x : Group) : (s.setGrp g x).rest g = s.rest g :=
  State.rest_of_around (s.around_setGrp g x)

/-- A register beyond SYS_ADDR. -/
theorem State.rest_wr (s : State) {r : RegId} (hr : 8 < r.row.base) (i j : Nat) (v : Word) (g : Nat) :
    (s.wr r i j v).rest g = s.rest g := by
  have ha : (s.wr r i j v).ownAddr = s.ownAddr :=
    congrArg (fld · 13 0) (s.rd_wr_ne v (by
      have : RegId.SYS_ADDR.off 0 0 = 8 := rfl
      unfold RegId.off at this ⊢
      omega))
  simp only [State.rest, ha]
  rfl

theorem State.rest_bump (s : State) {r : RegId} (hr : 8 < r.row.base) (i j g : Nat) : (s.bump r i j).rest g = s.rest g :=
  s.rest_wr hr i j _ g

theorem State.rest_of_core {s t : State} (h : t.core = s.core) (g : Nat) : t.rest g = s.rest g :=
  State.rest_of_around (State.around_of_base (State.base_of_core h) g)

/-- The other groups, up to their turn records, as a statement gives them. -/
theorem State.grp_of_rest {s t : State} {g h : Nat} (hr : t.rest g = s.rest g) (hh : h ≠ g) :
    { t.grp h with turnRecs := (s.grp h).turnRecs } = s.grp h := by
  have ho := congrFun (congrArg (fun x => x.2.2) hr) h
  simp only [State.rest, State.others, if_neg hh] at ho
  exact congrArg (fun x : Group => { x with turnRecs := (s.grp h).turnRecs }) ho

/-! ### The group of the sample -/

/-- A group but for what presenting a sample changes in it. -/
def Group.still (x : Group) : Group :=
  { x with turnRecs := [], late := [], frame := {}, patLost := false, lead := 0, n := 0, times := [], hist := [], tpos := [] }

/-- The samples that a group has presented, and the rest of it. -/
def State.pace (s : State) (g : Nat) : Nat × List Nat × Group := ((s.grp g).n, (s.grp g).times, (s.grp g).still)

theorem State.pace_of_base {s t : State} (h : t.base = s.base) (g : Nat) : t.pace g = s.pace g := by
  have hg : (t.grp g).sansRecs = (s.grp g).sansRecs := congrFun (State.seq_of_base h) g
  have hn : (t.grp g).n = (s.grp g).n := (congrArg Group.n hg :)
  have ht : (t.grp g).times = (s.grp g).times := (congrArg Group.times hg :)
  have hs : (t.grp g).still = (s.grp g).still := (congrArg Group.still hg :)
  simp only [State.pace, hn, ht, hs]

/-! ### The edge -/

theorem State.edge_core (s : State) (g t : Nat) : (s.edge g t).core = (((s.dacEdges g).rampEdges g).counted g t).core := by
  unfold State.edge
  rw [State.core_aside.flushLog, State.settlePairs_core]

theorem State.latches_core (s : State) (g : Nat) : ((s.dacEdges g).rampEdges g).core = s.core := by
  rw [State.rampEdges_core, State.dacEdges_core]

theorem State.counted_around (s : State) (g t : Nat) : (s.counted g t).around g = s.around g := s.around_modGrp g _

theorem State.counted_chans (s : State) (g t : Nat) : (s.counted g t).chans = s.chans := rfl

theorem State.counted_pace (s : State) (g t : Nat) :
    (s.counted g t).pace g = ((s.grp g).n + 1, (t :: (s.grp g).times).take 64, (s.grp g).still) := by
  simp only [State.pace, State.counted, State.modGrp, State.grp_setGrp_same]
  rfl

theorem State.edge_pace (s : State) (g t : Nat) :
    (s.edge g t).pace g = ((s.grp g).n + 1, (t :: (s.grp g).times).take 64, (s.grp g).still) := by
  have h := State.pace_of_base (State.base_of_core (s.latches_core g)) g
  simp only [State.pace, Prod.mk.injEq] at h
  obtain ⟨hn, ht, hs⟩ := h
  rw [State.pace_of_base (State.base_of_core (s.edge_core g t)), State.counted_pace, hn, ht, hs]

theorem State.edge_around (s : State) (g t : Nat) : (s.edge g t).around g = s.around g := by
  rw [State.around_of_base (State.base_of_core (s.edge_core g t)), State.counted_around,
    State.around_of_base (State.base_of_core (s.latches_core g))]

theorem State.edge_chans (s : State) (g t : Nat) : (s.edge g t).chans = s.chans := by
  rw [State.chans_of_core (s.edge_core g t), State.counted_chans, State.chans_of_core (s.latches_core g)]

/-! ### The channels of a group -/

theorem State.content_of_base {s t : State} (h : t.base = s.base) : t.content = s.content :=
  (congrArg (fun b : Backing => (b.segs, b.onchip, b.ext, b.tables)) (State.backing_of_base h) :)

theorem State.chansOf_lt {s : State} {g c : Nat} (h : c ∈ s.chansOf g) : c < 32 := by
  simp only [State.chansOf, List.mem_filter, List.mem_range] at h
  exact h.1

theorem State.chansOf_nodup (s : State) (g : Nat) : (s.chansOf g).Nodup := List.Nodup.filter _ List.nodup_range

theorem State.chansOf_congr {s t : State} (hc : t.chans = s.chans) (hr : ∀ c < 32, t.rd .CHn_CTL c = s.rd .CHn_CTL c) (g : Nat) :
    t.chansOf g = s.chansOf g := by
  refine List.filter_congr fun c hm => ?_
  have hg : t.chGroup c = s.chGroup c := congrArg (fld · 6 4) (hr c (List.mem_range.mp hm))
  simp only [State.chan, hc, hg]

theorem State.chansPresent_base (s : State) (g t : Nat) (under : State → Bool) :
    ((s.chansOf g).foldl (fun s c => s.chanPresent g c t (under s)) s).base = s.base :=
  State.foldl_same_mem State.base (fun _ hc s => s.chanPresent_base (State.chansOf_lt hc) (under s)) s

/-- Every channel of the group presents the value that it has at the start of the sample. -/
theorem State.chansPresent_chan (s : State) (g t : Nat) (under : State → Bool) : ∀ c ∈ s.chansOf g,
    (((s.chansOf g).foldl (fun s c => s.chanPresent g c t (under s)) s).chan c).value =
        wordOfInt (s.chanValue g c (s.grp g).a (s.grp g).turn).1 ∧
      (((s.chansOf g).foldl (fun s c => s.chanPresent g c t (under s)) s).chan c).lastT = t := by
  refine State.foldl_each (Ready := fun x c => x.base = s.base ∧ x.kit c = s.kit c)
    (Done := fun x c => (x.chan c).value = wordOfInt (s.chanValue g c (s.grp g).a (s.grp g).turn).1 ∧ (x.chan c).lastT = t)
    (s.chansOf_nodup g) ?_ ?_ ?_ fun c _ => ⟨rfl, rfl⟩
  · rintro c hc x ⟨hb, hk⟩
    have hg : (x.grp g).sansRecs = (s.grp g).sansRecs := congrFun (State.seq_of_base hb) g
    have ha : (x.grp g).a = (s.grp g).a := (congrArg Group.a hg :)
    have hturn : (x.grp g).turn = (s.grp g).turn := (congrArg Group.turn hg :)
    have hv : ∀ a turn, x.chanValue g c a turn = s.chanValue g c a turn :=
      State.chanValue_congr (State.chansOf_lt hc) (State.settings_of_base hb) (State.content_of_base hb) (congrArg Group.tune hg :) hk
    rw [x.chanPresent_chan (State.chansOf_lt hc), hv, ha, hturn]
    exact ⟨rfl, rfl⟩
  · rintro c hc x d hne ⟨hb, hk⟩
    exact ⟨(x.chanPresent_base (State.chansOf_lt hc) _).trans hb, (x.chanPresent_kit (State.chansOf_lt hc) hne _).trans hk⟩
  · intro c hc x d hne h
    rw [x.chanPresent_chan_ne (State.chansOf_lt hc) hne]
    exact h

theorem State.chansRepeat_base (s : State) (g t : Nat) : ((s.chansOf g).foldl (fun s c => s.chanRepeat g c t) s).base = s.base :=
  State.foldl_same_mem State.base (fun _ hc s => s.chanRepeat_base (State.chansOf_lt hc)) s

/-- Every channel of the group keeps its value, and its sample is a repeat (R20, R256). -/
theorem State.chansRepeat_chan (s : State) (g t : Nat) : ∀ c ∈ s.chansOf g,
    (((s.chansOf g).foldl (fun s c => s.chanRepeat g c t) s).chan c).value = (s.chan c).value ∧
      (((s.chansOf g).foldl (fun s c => s.chanRepeat g c t) s).chan c).repeated = true := by
  refine State.foldl_each (Ready := fun x c => x.chan c = s.chan c)
    (Done := fun x c => (x.chan c).value = (s.chan c).value ∧ (x.chan c).repeated = true) (s.chansOf_nodup g) ?_ ?_ ?_ fun c _ => rfl
  · intro c hc x h
    rw [x.chanRepeat_chan (State.chansOf_lt hc), h]
    exact ⟨rfl, rfl⟩
  · intro c hc x d hne h
    rw [x.chanRepeat_chan_ne (State.chansOf_lt hc) hne, h]
  · intro c hc x d hne h
    rw [x.chanRepeat_chan_ne (State.chansOf_lt hc) hne]
    exact h

end Sys2Proof.Machine
end
section
/-!
PROOF. A presented sample as a whole: its frame shown or missed, late frames taken in, and the step of the angle before it.
-/
namespace Sys2Proof.Machine

/-! ### The frame of a sample -/

/-- What a frame whose channels have presented leaves behind, at its edge. -/
theorem State.frameShow_eq (s : State) (g t : Nat) : ∃ (p : State) (f : Frame), s.frameShow g t = (p.modGrp g fun x =>
    { x with frame := f, patLost := false }).edge g t ∧
    p.core = ((s.chansOf g).foldl (fun s c => s.chanPresent g c t (s.grp g).episode.isSome) s).core :=
  ⟨_, _, rfl, State.frameEnter_core _ _ _ _⟩

theorem State.frameShow_around (s : State) (g t : Nat) : (s.frameShow g t).around g = s.around g := by
  obtain ⟨p, f, h, hp⟩ := s.frameShow_eq g t
  rw [h, State.edge_around, State.around_modGrp]
  exact State.around_of_base ((State.base_of_core hp).trans (s.chansPresent_base g t _)) g

theorem State.frameShow_pace (s : State) (g t : Nat) :
    (s.frameShow g t).pace g = ((s.grp g).n + 1, (t :: (s.grp g).times).take 64, (s.grp g).still) := by
  obtain ⟨p, f, h, hp⟩ := s.frameShow_eq g t
  have hb := State.pace_of_base ((State.base_of_core hp).trans (s.chansPresent_base g t _)) g
  simp only [State.pace, Prod.mk.injEq] at hb
  obtain ⟨hn, ht, hs⟩ := hb
  rw [h, State.edge_pace, State.modGrp, State.grp_setGrp_same, ← hn, ← ht, ← hs]
  rfl

theorem State.frameShow_chan (s : State) (g t : Nat) : ∀ c ∈ s.chansOf g,
    ((s.frameShow g t).chan c).value = wordOfInt (s.chanValue g c (s.grp g).a (s.grp g).turn).1 ∧
      ((s.frameShow g t).chan c).lastT = t := by
  obtain ⟨p, f, h, hp⟩ := s.frameShow_eq g t
  have hc : (s.frameShow g t).chans = ((s.chansOf g).foldl (fun s c => s.chanPresent g c t (s.grp g).episode.isSome) s).chans := by
    rw [h, State.edge_chans]
    exact (State.chans_of_core hp :)
  intro c hm
  simp only [State.chan, hc]
  exact s.chansPresent_chan g t _ c hm

theorem State.frameMiss_around (s : State) (g t : Nat) : (s.frameMiss g t).around g = s.around g := by
  rw [State.frameMiss, State.edge_around, State.around_modGrp]
  exact State.around_of_base (s.chansRepeat_base g t) g

theorem State.frameMiss_pace (s : State) (g t : Nat) :
    (s.frameMiss g t).pace g = ((s.grp g).n + 1, (t :: (s.grp g).times).take 64, (s.grp g).still) := by
  have hb := State.pace_of_base (s.chansRepeat_base g t) g
  simp only [State.pace, Prod.mk.injEq] at hb
  obtain ⟨hn, ht, hs⟩ := hb
  rw [State.frameMiss, State.edge_pace, State.modGrp, State.grp_setGrp_same, ← hn, ← ht, ← hs]
  rfl

theorem State.frameMiss_chan (s : State) (g t : Nat) : ∀ c ∈ s.chansOf g,
    ((s.frameMiss g t).chan c).value = (s.chan c).value ∧ ((s.frameMiss g t).chan c).repeated = true := by
  have hc : (s.frameMiss g t).chans = ((s.chansOf g).foldl (fun s c => s.chanRepeat g c t) s).chans := by
    rw [State.frameMiss, State.edge_chans]
    rfl
  intro c hm
  simp only [State.chan, hc]
  exact s.chansRepeat_chan g t c hm

/-! ### Late frames -/

/-- `t` is `s` but for the late frames of group `g`, as far as the channels of the group see it. -/
structure State.LateOnly (s t : State) (g : Nat) : Prop where
  around : t.around g = s.around g
  chans : t.chans = s.chans
  kit : ∀ c, t.kit c = s.kit c
  group : ∃ l, (t.grp g).sansRecs = { (s.grp g).sansRecs with late := l }

theorem State.LateOnly.refl (s : State) (g : Nat) : s.LateOnly s g := ⟨rfl, rfl, fun _ => rfl, _, rfl⟩

theorem State.LateOnly.of_core {s t : State} {g : Nat} {l : List Frame} (h : t.core = (s.setGrp g { s.grp g with late := l }).core) :
    s.LateOnly t g where
  around := (State.around_of_base (State.base_of_core h) g).trans (s.around_setGrp g _)
  chans := (State.chans_of_core h :)
  kit := fun c => (State.kit_of_core h c :)
  group := by
    have hg := congrFun (State.seq_of_base (State.base_of_core h)) g
    simp only [State.seq, State.grp_setGrp_same] at hg
    exact ⟨l, hg⟩

theorem State.lateArrive_lateOnly (s : State) (g : Nat) : s.LateOnly (s.lateArrive g) g :=
  State.LateOnly.of_core (l := [])
    (State.foldl_same State.core (f := fun (s : State) f => s.frameEnter g _ f) (fun s f => s.frameEnter_core g _ f) _ _)

theorem State.LateOnly.add {s t : State} {g : Nat} (h : s.LateOnly t g) (f : Frame) :
    s.LateOnly (t.modGrp g fun x => { x with late := x.late ++ [f] }) g where
  around := (t.around_modGrp g _).trans h.around
  chans := h.chans
  kit := h.kit
  group := by
    obtain ⟨l, hl⟩ := h.group
    rw [State.modGrp, State.grp_setGrp_same]
    exact ⟨(t.grp g).late ++ [f], (congrArg (fun x : Group => { x with late := (t.grp g).late ++ [f] }) hl :)⟩

theorem State.LateOnly.pace {s t : State} {g : Nat} (h : s.LateOnly t g) : t.pace g = s.pace g := by
  obtain ⟨l, hl⟩ := h.group
  have hn : (t.grp g).n = (s.grp g).n := (congrArg Group.n hl :)
  have ht : (t.grp g).times = (s.grp g).times := (congrArg Group.times hl :)
  have hs : (t.grp g).still = (s.grp g).still := (congrArg Group.still hl :)
  simp only [State.pace, hn, ht, hs]

theorem State.LateOnly.chansOf {s t : State} {g : Nat} (h : s.LateOnly t g) : t.chansOf g = s.chansOf g :=
  State.chansOf_congr h.chans
    (fun _ hc => State.rd_show (State.settings_of_around h.around) (by decide) hc (by decide)) g

/-- The value that a channel of the group is about to present is the same. -/
theorem State.LateOnly.chanValue {s t : State} {g c : Nat} (h : s.LateOnly t g) (hc : c < 32) :
    t.chanValue g c (t.grp g).a (t.grp g).turn = s.chanValue g c (s.grp g).a (s.grp g).turn := by
  obtain ⟨l, hl⟩ := h.group
  have ha : (t.grp g).a = (s.grp g).a := (congrArg Group.a hl :)
  have hturn : (t.grp g).turn = (s.grp g).turn := (congrArg Group.turn hl :)
  have hcont : t.content = s.content :=
    (congrArg (fun x => (x.1.segs, x.1.onchip, x.1.ext, x.1.tables)) h.around :)
  rw [ha, hturn, State.chanValue_congr hc (State.settings_of_around h.around) hcont (congrArg Group.tune hl :) (h.kit c)]

/-- Late frames that have arrived, or have not, by the sample. -/
theorem State.stale_lateOnly (s : State) (g : Nat) (stale : Bool) : s.LateOnly (if stale then s.lateArrive g else s) g := by
  cases stale
  · exact State.LateOnly.refl s g
  · exact s.lateArrive_lateOnly g

/-! ### The presentation -/

/-- What presenting a sample of group `g` at `t` does, whatever its frame: it is counted, and nothing else of the group or around it
changes but frames, turn records and counters. -/
structure State.Presented (s v : State) (g t : Nat) : Prop where
  around : v.around g = s.around g
  pace : v.pace g = ((s.grp g).n + 1, (t :: (s.grp g).times).take 64, (s.grp g).still)

section
variable {s v : State} {g t : Nat} (h : s.Presented v g t)
include h

theorem State.Presented.n : (v.grp g).n = (s.grp g).n + 1 := congrArg Prod.fst h.pace

theorem State.Presented.times : (v.grp g).times = (t :: (s.grp g).times).take 64 := congrArg (fun x => x.2.1) h.pace

theorem State.Presented.still : (v.grp g).still = (s.grp g).still := congrArg (fun x => x.2.2) h.pace

theorem State.Presented.rest : v.rest g = s.rest g := State.rest_of_around h.around

/-- The turn records that a leader closes after the sample change no part of that. -/
theorem State.Presented.leaderRecords : s.Presented (v.leaderRecords g) g t where
  around := (State.around_of_base (State.base_of_core (v.leaderRecords_core g)) g).trans h.around
  pace := (State.pace_of_base (State.base_of_core (v.leaderRecords_core g)) g).trans h.pace

end

theorem State.LateOnly.frameShow {s p : State} {g t : Nat} (h : s.LateOnly p g) : s.Presented (p.frameShow g t) g t where
  around := (p.frameShow_around g t).trans h.around
  pace := by
    have hp := h.pace
    simp only [State.pace, Prod.mk.injEq] at hp
    obtain ⟨hn, ht, hs⟩ := hp
    rw [p.frameShow_pace g t, hn, ht, hs]

theorem State.LateOnly.frameMiss {s p : State} {g t : Nat} (h : s.LateOnly p g) : s.Presented (p.frameMiss g t) g t where
  around := (p.frameMiss_around g t).trans h.around
  pace := by
    have hp := h.pace
    simp only [State.pace, Prod.mk.injEq] at hp
    obtain ⟨hn, ht, hs⟩ := hp
    rw [p.frameMiss_pace g t, hn, ht, hs]

theorem State.present_show (s : State) (g t : Nat) (stale known : Bool) :
    s.present g t false stale known = (if stale then s.lateArrive g else s).frameShow g t := rfl

theorem State.present_miss (s : State) (g t : Nat) (stale : Bool) :
    ∃ f, s.present g t true stale true =
      ((if stale then s.lateArrive g else s).modGrp g fun x => { x with late := x.late ++ [f] }).frameMiss g t := ⟨_, rfl⟩

/-- A sample whose frame met its decisions, in time or not. -/
theorem State.present_presented (s : State) (g t : Nat) (absent stale : Bool) : s.Presented (s.present g t absent stale true) g t := by
  cases absent
  · rw [State.present_show]
    exact (s.stale_lateOnly g stale).frameShow
  · obtain ⟨f, h⟩ := s.present_miss g t stale
    rw [h]
    exact ((s.stale_lateOnly g stale).add f).frameMiss

/-- A whole frame: every running channel presents the value of its content (R19, R236). -/
theorem State.present_show_chan (s : State) (g t : Nat) (stale known : Bool) : ∀ c ∈ s.chansOf g,
    ((s.present g t false stale known).chan c).value = wordOfInt (s.chanValue g c (s.grp g).a (s.grp g).turn).1 ∧
      ((s.present g t false stale known).chan c).lastT = t := by
  intro c hc
  have h := s.stale_lateOnly g stale
  have hv := State.frameShow_chan _ g t c (h.chansOf.symm ▸ hc)
  rwa [h.chanValue (State.chansOf_lt hc)] at hv

/-- A missing frame: every running channel repeats its value (R20, R256). -/
theorem State.present_miss_chan (s : State) (g t : Nat) (stale : Bool) : ∀ c ∈ s.chansOf g,
    ((s.present g t true stale true).chan c).value = (s.chan c).value ∧ ((s.present g t true stale true).chan c).repeated = true := by
  intro c hc
  obtain ⟨f, hf⟩ := s.present_miss g t stale
  have h := (s.stale_lateOnly g stale).add f
  have hv := State.frameMiss_chan _ g t c (h.chansOf.symm ▸ hc)
  rw [hf]
  simpa only [State.chan, h.chans] using hv

theorem State.leaderRecords_chan (s : State) (g c : Nat) : (s.leaderRecords g).chan c = s.chan c := by
  simp only [State.chan, State.chans_of_core (s.leaderRecords_core g)]

/-- A sample whose frame is in time, with the turn records that a leader closes after it. -/
def State.shown (s : State) (g t : Nat) (stale : Bool) : State := (s.present g t false stale true).leaderRecords g

theorem State.shown_presented (s : State) (g t : Nat) (stale : Bool) : s.Presented (s.shown g t stale) g t :=
  (s.present_presented g t false stale).leaderRecords

theorem State.shown_chan (s : State) (g t : Nat) (stale : Bool) : ∀ c ∈ s.chansOf g,
    ((s.shown g t stale).chan c).value = wordOfInt (s.chanValue g c (s.grp g).a (s.grp g).turn).1 ∧
      ((s.shown g t stale).chan c).lastT = t := by
  intro c hc
  rw [State.shown, State.leaderRecords_chan]
  exact s.present_show_chan g t stale true c hc

/-! ### The step to the sample -/

/-- Of a group, what the step to the next sample leaves alone. -/
def Group.seat (x : Group) :
    GState × Nat × List Nat × Nat × Option Episode × Bool × List Trig × Option CmdRef × List StageSet :=
  (x.st, x.n, x.times, x.entry, x.episode, x.fb, x.trigs, x.startCmd, x.released)

theorem State.advance_rest (s : State) (g : Nat) : (s.advance g).rest g = s.rest g := by
  unfold State.advance
  refine State.same_ite (fun s => s.rest g) (s.rest_setGrp g _) ?_
  exact State.same_ite (fun s => s.rest g) ((State.rest_bump _ (by decide) _ _ g).trans (s.rest_setGrp g _)) (s.rest_setGrp g _)

theorem State.advance_seat (s : State) (g : Nat) : ((s.advance g).grp g).seat = (s.grp g).seat := by
  have hset : ∀ x : Group, x.seat = (s.grp g).seat → ((s.setGrp g x).grp g).seat = (s.grp g).seat := fun x h => by
    rw [State.grp_setGrp_same, h]
  unfold State.advance
  refine State.same_ite (fun s => (s.grp g).seat) (hset _ rfl) ?_
  exact State.same_ite (fun s => (s.grp g).seat) (hset _ rfl) (hset _ rfl)

/-- A group that follows no other adds F and the step of its commits to its angle (R104). -/
theorem State.advance_a {s : State} {g : Nat} (hb : s.bindMode g ≠ 1) :
    ((s.advance g).grp g).a = BitVec.ofInt 64 ((s.grp g).a.toNat + ((s.grp g).f.toInt + (s.grp g).cStep.toInt)) := by
  have hset : ∀ x : Group, ((s.setGrp g x).grp g).a = x.a := fun x => by rw [State.grp_setGrp_same]
  unfold State.advance
  rw [if_neg hb]
  exact State.same_ite (fun s => (s.grp g).a) (hset _) (hset _)

theorem State.advance_chans (s : State) (g : Nat) : (s.advance g).chans = s.chans := by
  unfold State.advance
  exact State.same_ite State.chans rfl (State.same_ite State.chans rfl rfl)

/-- Of the registers, forming a sample counts in Gn_CNT_LIMIT alone. -/
theorem State.advance_rd (s : State) {g i j : Nat} {r : RegId} (h : r.off i j ≠ RegId.Gn_CNT_LIMIT.off g 0) :
    (s.advance g).rd r i j = s.rd r i j := by
  unfold State.advance
  refine State.same_ite (fun s => s.rd r i j) rfl ?_
  exact State.same_ite (fun s => s.rd r i j) (State.rd_wr_ne _ _ h) rfl

/-- SINE_ERR cleared is a write of HRM_STATUS, or nothing (R222). -/
theorem State.sineCheck_false (s : State) : ∃ v, s.sineCheck false = s ∨ s.sineCheck false = s.wr .HRM_STATUS 0 0 v := by
  unfold State.sineCheck
  simp only [Bool.false_eq_true, if_false]
  split
  · exact ⟨0, .inl rfl⟩
  · exact ⟨_, .inr rfl⟩

/-- The next sample as it is formed, in a sample that met no uncorrectable word of the sine table. -/
def State.formed (s : State) (g : Nat) : State := (s.advance g).sineCheck false

section
variable (s : State) (g : Nat)

theorem State.formed_rest : (s.formed g).rest g = s.rest g := by
  obtain ⟨v, h | h⟩ := (s.advance g).sineCheck_false <;> rw [State.formed, h]
  · exact s.advance_rest g
  · rw [State.rest_wr _ (by decide), s.advance_rest g]

theorem State.formed_grp : (s.formed g).grp = (s.advance g).grp := by
  obtain ⟨v, h | h⟩ := (s.advance g).sineCheck_false <;> rw [State.formed, h]
  rfl

theorem State.formed_chans : (s.formed g).chans = s.chans := by
  obtain ⟨v, h | h⟩ := (s.advance g).sineCheck_false <;> rw [State.formed, h]
  · exact s.advance_chans g
  · exact s.advance_chans g

theorem State.formed_chansOf : (s.formed g).chansOf g = s.chansOf g := by
  refine State.chansOf_congr (s.formed_chans g) (fun c hc => ?_) g
  have hl : RegId.CHn_CTL.off c 0 ≠ RegId.Gn_CNT_LIMIT.off g 0 := by
    simp only [RegId.off, RegId.row]
    omega
  obtain ⟨v, h | h⟩ := (s.advance g).sineCheck_false <;> rw [State.formed, h]
  · exact s.advance_rd hl
  · rw [State.rd_wr_ne _ _ (by simp only [RegId.off, RegId.row]; omega), s.advance_rd hl]

end

/-- A sample formed and then presented, with what was in the group before it was formed. -/
theorem State.Presented.seat {s v : State} {g t : Nat} (h : (s.advance g).Presented v g t ∨ (s.formed g).Presented v g t) :
    (v.grp g).n = (s.grp g).n + 1 ∧ (v.grp g).times = (t :: (s.grp g).times).take 64 ∧ (v.grp g).entry = (s.grp g).entry ∧
      (v.grp g).episode = (s.grp g).episode ∧ (v.grp g).trigs = (s.grp g).trigs ∧ (v.grp g).st = (s.grp g).st := by
  have hseat := s.advance_seat g
  simp only [Group.seat, Prod.mk.injEq] at hseat
  obtain ⟨hst, hn, ht, he, hep, -, htr, -⟩ := hseat
  have hpace : v.pace g = (((s.advance g).grp g).n + 1, (t :: ((s.advance g).grp g).times).take 64, ((s.advance g).grp g).still) := by
    rcases h with h | h
    · exact h.pace
    · rw [h.pace, s.formed_grp g]
  rw [hn, ht] at hpace
  simp only [State.pace, Prod.mk.injEq] at hpace
  obtain ⟨hvn, hvt, hvs⟩ := hpace
  exact ⟨hvn, hvt, (congrArg Group.entry hvs :).trans he, (congrArg Group.episode hvs :).trans hep,
    (congrArg Group.trigs hvs :).trans htr, (congrArg Group.st hvs :).trans hst⟩

end Sys2Proof.Machine
end
section
/-!
PROOF. The commands of a sample edge: what GROUP_SAMPLE, FIRST_SAMPLE_EDGE and FLIT_CHECK_FAIL run where their edge is one of the group's.
-/
namespace Sys2Proof.Machine

theorem State.onMain_out {s : State} (h : s.mgt.rst = false) (f : State → State) : s.onMain f = f s := by
  simp only [State.onMain, h, Bool.false_eq_true, if_false]

/-- GROUP_SAMPLE whose lookups met no erroneous word of the sine table. -/
theorem exec_groupSample {g : Fin 8} {t : Nat} {absent stale : Bool} {s : State} (h : s.mgt.rst = false) :
    exec (.groupSample g t absent stale none) s = .next (s.groupSample g t absent stale false) :=
  congrArg Host.Outcome.next (s.onMain_out h _)

theorem exec_flitCheckFail {g : Fin 8} {t : Nat} {again : Bool} {s : State} (h : s.mgt.rst = false) :
    exec (.flitCheckFail g t again) s = .next (s.flitCheckFail g t again) :=
  congrArg Host.Outcome.next (s.onMain_out h _)

/-- A sample edge of a group that its decisions leave playing (R104, R503). -/
theorem State.groupSample_plays {s u w : State} {g t : Nat} {absent : Bool} (h : s.AtEdge g t u)
    (hw : w = (if absent then u.sampleMissed g 1 t else u).decideSample g t) (hp : (w.grp g).st.plays = true) (stale : Bool) :
    s.groupSample g t absent stale false = ((w.formed g).present g t absent stale true).leaderRecords g := by
  obtain ⟨-, hplays, hn, ht, hready, rfl⟩ := h
  subst hw
  simp only [State.groupSample, hplays, hn, ht, hready, decide_true, Bool.and_self, if_true, hp, Bool.false_and, State.formed]

theorem State.discardFrame_plays {s u w : State} {g t : Nat} (h : s.AtEdge g t u) (hw : w = (u.sampleMissed g 2 t).decideSample g t)
    (hp : (w.grp g).st.plays = true) : s.discardFrame g t = ((w.advance g).frameMiss g t).leaderRecords g := by
  obtain ⟨-, hplays, hn, ht, hready, rfl⟩ := h
  subst hw
  simp only [State.discardFrame, hplays, hn, ht, hready, decide_true, Bool.and_self, if_true, hp]

/-- An edge that is no sample's is one of the group's ramps, while they last (R258). -/
theorem State.groupSample_ramp {s : State} {g t : Nat} (hp : (s.grp g).st.plays = false) (hr : 0 < (s.grp g).rampLeft)
    (absent stale sine : Bool) : s.groupSample g t absent stale sine = ((s.svCatchUp t).reach t).rampTick g := by
  simp only [State.groupSample, hp, Bool.false_and, Bool.false_eq_true, if_false, hr, if_true]

/-! ### The clauses that rest on the presentation alone -/

theorem exec_firstSampleEdge_early {g : Fin 8} {t : Nat} {s : State} (h : s.firstEdge g t = false) (absent : Bool)
    (sine : Option BadWord) : exec (.firstSampleEdge g t absent sine) s = .next s := by
  refine congrArg Host.Outcome.next (State.same_ite id rfl ?_)
  simp only [State.sampleZero, h, Bool.false_eq_true, if_false, id]

/-- A sample in time: the group steps, and every running channel presents the value of its content (R104, R236). -/
theorem groupSample_inTime {g : Fin 8} {t : Nat} {stale : Bool} {s u w a : State} (h : s.AtEdge g t u) (hw : w = u.decideSample g t)
    (hp : (w.grp g).st.plays = true) (hb : w.bindMode g ≠ 1) (ha : a = (w.advance g).sineCheck false) :
    ∃ v, exec (.groupSample g t false stale none) s = .next v ∧ (v.grp g).n = (w.grp g).n + 1 ∧
      (v.grp g).times = (t :: (w.grp g).times).take 64 ∧
      (v.grp g).a = BitVec.ofInt 64 ((w.grp g).a.toNat + ((w.grp g).f.toInt + (w.grp g).cStep.toInt)) ∧
      (v.grp g).entry = (w.grp g).entry ∧
      (∀ c ∈ a.chansOf g, (v.chan c).value = wordOfInt (a.chanValue g c (a.grp g).a (a.grp g).turn).1 ∧ (v.chan c).lastT = t) ∧
      (∀ h : Nat, h ≠ g.val → { v.grp h with turnRecs := (w.grp h).turnRecs } = w.grp h) ∧
      v.tables = w.tables ∧ v.onchip = w.onchip ∧ v.ext = w.ext := by
  obtain rfl : a = w.formed g := ha
  have hexec : exec (.groupSample g t false stale none) s = .next ((w.formed g).shown g t stale) := by
    have hw' : w = (if false then u.sampleMissed g 1 t else u).decideSample g t := by rw [hw, if_neg Bool.false_ne_true]
    rw [exec_groupSample h.1, State.groupSample_plays h hw' hp]
    rfl
  have hv := (w.formed g).shown_presented g t stale
  have hchan := (w.formed g).shown_chan g t stale
  generalize (w.formed g).shown g t stale = v at hexec hv hchan
  have hrest : v.rest g = w.rest g := hv.rest.trans (w.formed_rest g)
  have hback : v.backing = w.backing := congrArg Prod.fst hrest
  have hang : (v.grp g).a = ((w.advance g).grp g).a := by
    rw [← State.formed_grp]
    exact (congrArg Group.a hv.still :)
  obtain ⟨hn, ht, he, -⟩ := State.Presented.seat (.inr hv)
  exact ⟨v, hexec, hn, ht, hang.trans (State.advance_a hb), he, hchan, fun i hi => State.grp_of_rest hrest hi,
    congrArg Backing.tables hback, congrArg Backing.onchip hback, congrArg Backing.ext hback⟩

/-- What a record of the error log that raises no interrupt does: the log's ring, and ERR_CNT_LOST (R455, R457). -/
theorem State.logErr_eq (s : State) {cls : Nat} (h : cls ≠ 2) (blk inst code status d0 d1 : Nat) : ∃ (p : State) (log : List (List Byte))
    (wr rd : Word), (p = s ∨ p = s.bump .ERR_CNT_LOST) ∧ s.logErr cls blk inst code status d0 d1 =
      { p with err := { s.err with log := log, wr := wr, rd := rd } } := by
  unfold State.logErr State.logErrAt
  dsimp only
  split
  · split
    · exact ⟨_, _, _, _, .inr rfl, rfl⟩
    · exact ⟨_, _, _, _, .inl rfl, rfl⟩
  · exact ⟨_, s.err.log, s.err.wr, s.err.rd, .inr rfl, rfl⟩

/-- A count is a write of its register alone. -/
theorem State.bump_setRegs (s : State) (r : RegId) (i j : Nat) (m : KMap Word) : { s.bump r i j with regs := m } = { s with regs := m } := rfl

/-- A flit that fails its check once is requested again: a transient fault (R20, R436). -/
theorem flitCheckFail_once {g : Fin 8} {t : Nat} {s : State} (h : s.mgt.rst = false) :
    ∃ v, exec (.flitCheckFail g t false) s = .next v ∧
      v.rd .ERR_CNT_TRANSIENT = satInc (s.rd .ERR_CNT_TRANSIENT) ∧
      KMap.agreeBut s.regs v.regs [RegId.off .ERR_CNT_TRANSIENT 0 0, RegId.off .ERR_CNT_LOST 0 0] ∧
      { v with regs := s.regs, err := { v.err with log := s.err.log, wr := s.err.wr, rd := s.err.rd } } = s := by
  obtain ⟨p, log, wr, rd, hp, hlog⟩ :=
    (s.bump .ERR_CNT_TRANSIENT).logErr_eq (cls := 1) (by decide) 23 g 0x0013 0xFF ((s.grp g).n % 2 ^ 32) 0
  refine ⟨_, (exec_flitCheckFail h).trans (congrArg Host.Outcome.next hlog), ?_⟩
  have hcount : (s.bump .ERR_CNT_TRANSIENT).rd .ERR_CNT_TRANSIENT = satInc (s.rd .ERR_CNT_TRANSIENT) := s.rd_wr_same _ _ _ _
  have hregs : ∀ {off : Nat}, off ≠ RegId.off .ERR_CNT_TRANSIENT 0 0 →
      KMap.find? (s.bump .ERR_CNT_TRANSIENT).regs off = KMap.find? s.regs off := fun ho => KMap.find?_put_ne _ _ _ ho
  have hp' : p.rd .ERR_CNT_TRANSIENT = satInc (s.rd .ERR_CNT_TRANSIENT) ∧
      KMap.agreeBut s.regs p.regs [RegId.off .ERR_CNT_TRANSIENT 0 0, RegId.off .ERR_CNT_LOST 0 0] ∧ { p with regs := s.regs } = s := by
    rcases hp with rfl | rfl
    · refine ⟨hcount, fun off ho => hregs ?_, rfl⟩
      simp only [List.mem_cons, not_or] at ho
      exact ho.1
    · refine ⟨(State.rd_wr_ne _ _ (by decide)).trans hcount, fun off ho => ?_,
        (State.bump_setRegs _ _ _ _ _).trans (State.bump_setRegs _ _ _ _ _)⟩
      simp only [List.mem_cons, List.not_mem_nil, or_false, not_or] at ho
      exact (KMap.find?_put_ne _ _ _ ho.2).trans (hregs ho.1)
  obtain ⟨hrd, hagree, hrest⟩ := hp'
  exact ⟨hrd, hagree, congrArg (fun x : State => { x with err := s.err }) hrest⟩

theorem State.rampEdges_groups (s : State) (g : Nat) : (s.rampEdges g).groups = s.groups := by
  refine State.foldl_same State.groups (fun s d => ?_) _ s
  split
  · split <;> rfl
  · rfl

theorem State.rampEdges_regs (s : State) (g : Nat) : (s.rampEdges g).regs = s.regs := by
  refine State.foldl_same State.regs (fun s d => ?_) _ s
  split
  · split <;> rfl
  · rfl

/-- An edge of a stopped group: one of its ramps' (R258). -/
theorem groupSample_ramps {g : Fin 8} {t : Nat} {absent stale : Bool} {s : State} (h : s.mgt.rst = false)
    (hp : (s.grp g).st.plays = false) (hr : 0 < (s.grp g).rampLeft) :
    ∃ v, exec (.groupSample g t absent stale none) s = .next v ∧
      v.grp g = { s.grp g with rampLeft := (s.grp g).rampLeft - 1 } ∧ KMap.agreeBut s.groups v.groups [g.val] ∧
      v.regs = ((s.svCatchUp t).reach t).regs := by
  have hg : (((s.svCatchUp t).reach t).rampEdges g).groups = s.groups := (State.rampEdges_groups _ g).trans (State.groups_aside.atEdge s t)
  refine ⟨((s.svCatchUp t).reach t).rampTick g, by rw [exec_groupSample h, State.groupSample_ramp hp hr], ?_, fun j hj => ?_, ?_⟩
  · rw [State.rampTick, State.modGrp, State.grp_setGrp_same]
    simp only [State.grp, hg]
  · rw [List.mem_singleton] at hj
    rw [State.rampTick, State.modGrp, State.setGrp_groups, KMap.find?_insert_ne _ _ hj, hg]
  · rw [State.rampTick, State.modGrp, State.setGrp_regs, State.rampEdges_regs]

end Sys2Proof.Machine
end
section
/-!
PROOF. The mode of a group: its state, its underrun episode, whether it plays fallback content, and its jumps. Commits, marks, logs and
outputs leave the mode of every group alone.
-/
namespace Sys2Proof.Machine

/-- The state of a group, its episode, whether it plays fallback content, and the jumps that wait. -/
def Group.mode (x : Group) : GState × Option Episode × Bool × List Trig := (x.st, x.episode, x.fb, x.trigs)

/-- The mode of every group. -/
def State.mode (s : State) (h : Nat) : GState × Option Episode × Bool × List Trig := (s.grp h).mode

theorem State.mode_aside : State.Aside State.mode := ⟨fun _ => rfl, fun _ _ => rfl, fun _ _ => rfl, fun _ _ => rfl, fun _ _ => rfl,
  fun _ _ _ => rfl⟩

theorem State.mode_of_core {s t : State} (h : t.core = s.core) : t.mode = s.mode :=
  funext fun i => (congrArg Group.mode (congrFun (State.seq_of_base (State.base_of_core h)) i) :)

theorem State.mode_setGrp {s : State} {g : Nat} {x : Group} (h : x.mode = (s.grp g).mode) : (s.setGrp g x).mode = s.mode := by
  funext i
  by_cases hi : i = g
  · subst hi
    simp only [State.mode, State.grp_setGrp_same, h]
  · simp only [State.mode, s.grp_setGrp_ne x hi]

theorem State.mode_modGrp {s : State} {g : Nat} {f : Group → Group} (h : ∀ x, (f x).mode = x.mode) : (s.modGrp g f).mode = s.mode :=
  State.mode_setGrp (h _)

/-! ### Logs and replies -/

theorem State.logErr_mode (s : State) (cls blk inst code status d0 d1 : Nat) :
    (s.logErr cls blk inst code status d0 d1).mode = s.mode := by
  unfold State.logErr State.logErrAt
  refine State.same_ite State.mode ?_ rfl
  exact State.same_ite State.mode ((State.mode_aside.irqIf _ _ _ _).trans (State.same_ite State.mode rfl rfl))
    (State.same_ite State.mode rfl rfl)

theorem State.decide1_mode (s : State) (c : CmdRef) (status : Nat) (result : List Word) (dev : Nat) :
    (s.decide1 c status result dev).mode = s.mode := by
  unfold State.decide1
  dsimp only
  split
  · rfl
  · exact State.same_ite State.mode rfl rfl

theorem State.bcastTry_mode (s : State) (num : Nat) : (s.bcastTry num).mode = s.mode := by
  unfold State.bcastTry
  split
  · exact State.same_ite State.mode (State.decide1_mode _ _ _ _ _) rfl
  · rfl

theorem State.finish_mode (s : State) (c : CmdRef) (status : Nat) (result : List Word) : (s.finish c status result).mode = s.mode := by
  unfold State.finish
  split
  · exact State.same_ite State.mode rfl (State.bcastTry_mode _ _)
  · exact State.decide1_mode _ _ _ _ _

theorem State.finishOpt_mode (s : State) (c : Option CmdRef) (status : Nat) (result : List Word) :
    (s.finishOpt c status result).mode = s.mode := by
  unfold State.finishOpt
  split
  · exact s.finish_mode _ _ _
  · rfl

theorem State.resolveEv_mode (s : State) (ev : Option Nat) (g : Nat) (acted coinc : Bool) (t : Nat) :
    (s.resolveEv ev g acted coinc t).mode = s.mode := by
  unfold State.resolveEv
  split <;> rfl

theorem State.dropTrig_mode (s : State) (g : Nat) (y : Trig) : (s.dropTrig g y).mode = s.mode := by
  unfold State.dropTrig
  exact State.same_ite State.mode (s.finishOpt_mode _ _ _) (s.resolveEv_mode _ _ _ _ _)

/-! ### Channels and DACs -/

theorem State.dacRamp_mode (s : State) (d g : Nat) : (s.dacRamp d g).mode = s.mode := by
  unfold State.dacRamp
  exact State.same_ite State.mode rfl rfl

theorem State.dacGain_mode (s : State) (d : Nat) : (s.dacGain d).mode = s.mode := State.mode_of_core (s.dacGain_core d)

theorem State.chanStop_mode (s : State) (c g : Nat) (ramp : Bool) : (s.chanStop c g ramp).mode = s.mode := by
  unfold State.chanStop
  refine (State.foldl_same State.mode (f := fun s d => if s.dacSrc d = some c then (if ramp then s.dacRamp d g else s.dacMid d) else s)
    (fun s d => ?_) _ _).trans (State.foldl_same State.mode (fun s k => ?_) _ s)
  · exact State.same_ite State.mode (State.same_ite State.mode (s.dacRamp_mode d g) rfl) rfl
  · unfold State.cwStop
    exact State.same_ite State.mode (State.mode_aside.irqIf _ _ _ _) rfl

theorem State.prtStart_mode (s : State) (c : Nat) : (s.prtStart c).mode = s.mode := by
  refine State.foldl_same State.mode (fun s p => ?_) _ s
  exact State.same_ite State.mode rfl rfl

theorem State.chanStart_mode (s : State) (c : Nat) : (s.chanStart c).mode = s.mode := by
  unfold State.chanStart State.chanBegin
  refine (State.foldl_same State.mode (fun s d => ?_) _ _).trans (State.prtStart_mode _ c)
  exact State.same_ite State.mode (s.dacGain_mode d) rfl

theorem State.chanMarks_mode (s : State) (g : Nat) : (s.chanMarks g).mode = s.mode := by
  unfold State.chanMarks State.chansTake
  refine (State.foldl_same State.mode (fun s c => ?_) _ _).trans (State.foldl_same State.mode (fun s c => ?_) _ s)
  · exact State.same_ite State.mode (State.same_ite State.mode rfl (s.chanStart_mode c)) rfl
  · exact State.same_ite State.mode rfl (s.chanStop_mode c g true)

theorem State.dacMarks_mode (s : State) (g : Nat) : (s.dacMarks g).mode = s.mode := by
  refine State.foldl_same State.mode (fun s d => State.same_ite State.mode ?_ rfl) _ s
  split
  · rfl
  · exact s.dacGain_mode d

theorem State.markersLow_mode (s : State) (g : Nat) : (s.markersLow g).mode = s.mode := by
  refine State.foldl_same State.mode (fun s m => State.same_ite State.mode ?_ rfl) _ s
  unfold State.mkLow
  exact State.same_ite State.mode rfl rfl

theorem State.rampsMid_mode (s : State) (g : Nat) : (s.rampsMid g).mode = s.mode := by
  refine State.foldl_same State.mode (fun s d => ?_) _ s
  split
  · exact State.same_ite State.mode rfl rfl
  · rfl

theorem State.lanesStop_mode (s : State) (g : Nat) : (s.lanesStop g).mode = s.mode := by
  refine State.foldl_same State.mode (fun s n => ?_) _ s
  exact State.same_ite State.mode rfl rfl

theorem State.outputsStop_mode (s : State) (g : Nat) (ramp : Bool) : (s.outputsStop g ramp).mode = s.mode := by
  have hchans : ((s.chansOf g).foldl (fun s c => s.chanStop c g ramp) s).mode = s.mode :=
    State.foldl_same State.mode (fun s c => s.chanStop_mode c g ramp) _ s
  unfold State.outputsStop
  dsimp only
  rw [State.mode_of_core (State.settlePairs_core _ _), State.markersLow_mode, State.lanesStop_mode]
  refine (State.mode_modGrp ?_).trans ?_
  · exact fun _ => rfl
  exact State.same_ite State.mode hchans ((State.rampsMid_mode _ g).trans hchans)

/-! ### Commits (R182 to R188) -/

theorem State.applyRoute_mode (s : State) (d : Nat) (val : Word) : (s.applyRoute d val).mode = s.mode := by
  have hwr : (s.wr .OUT_DAC_SRC_d d 0 val).mode = s.mode := rfl
  unfold State.applyRoute
  dsimp only
  split
  · exact (State.dacRamp_mode _ _ _).trans hwr
  · exact hwr
  · exact (State.dacGain_mode _ _).trans hwr
  · exact State.same_ite State.mode hwr ((State.dacRamp_mode _ _ _).trans hwr)

theorem State.applyStaged_mode (s : State) (off : Nat) (val : Word) : (s.applyStaged off val).mode = s.mode := by
  unfold State.applyStaged
  split
  · rfl
  · dsimp only
    split
    · exact State.applyRoute_mode _ _ _
    · exact State.same_ite State.mode rfl rfl
    · exact State.same_ite State.mode rfl rfl
    · exact State.same_ite State.mode (State.mode_modGrp fun _ => rfl) rfl
    · exact State.same_ite State.mode (State.mode_modGrp fun _ => rfl) rfl
    · exact State.same_ite State.mode (State.mode_modGrp fun _ => rfl) rfl
    · exact State.same_ite State.mode (State.mode_modGrp fun _ => rfl) rfl
    · rfl

theorem State.confineAt_mode (s : State) (off : Nat) : (s.confineAt off).mode = s.mode := by
  unfold State.confineAt
  split <;> rfl

theorem State.applyWrites_mode (s : State) (ws : List (Nat × Word)) : (s.applyWrites ws).mode = s.mode :=
  (State.foldl_same State.mode (f := fun s (w : Nat × Word) => s.confineAt w.1) (fun s w => s.confineAt_mode w.1) _ _).trans
    (State.foldl_same State.mode (f := fun s (w : Nat × Word) => s.applyStaged w.1 w.2) (fun s w => s.applyStaged_mode w.1 w.2) _ s)

theorem State.takeStep_mode (s : State) (g : Nat) (ws : List (Nat × Word)) : (s.takeStep g ws).mode = s.mode := by
  unfold State.takeStep
  exact State.same_ite State.mode rfl (State.mode_modGrp fun _ => rfl)

theorem State.setEntries_mode (s : State) (g : Nat) (es : List (Nat × List Word)) :
    (es.foldl (fun s e => s.setEntry g e.1 e.2) s).mode = s.mode :=
  State.foldl_same State.mode (f := fun s (e : Nat × List Word) => s.setEntry g e.1 e.2) (fun _ _ => rfl) es s

theorem State.applySet_mode (s : State) (g : Nat) (x : StageSet) (t status : Nat) : (s.applySet g x t status).mode = s.mode := by
  unfold State.applySet
  dsimp only
  split
  · rw [State.finishOpt_mode, State.logErr_mode]
    rfl
  · have hset : ((x.entries.foldl (fun s e => s.setEntry g e.1 e.2) ((s.applyWrites x.writes).takeStep g x.writes)).modGrp g fun y =>
        { y with lastCommit := t }).mode = s.mode := by
      refine (State.mode_modGrp ?_).trans ?_
      · exact fun _ => rfl
      · rw [State.setEntries_mode, State.takeStep_mode, State.applyWrites_mode]
    exact State.same_ite State.mode hset ((State.finishOpt_mode _ _ _ _).trans hset)

theorem State.release_mode (s : State) (g : Nat) (cmd : Option CmdRef) (res : Option (List Word)) : (s.release g cmd res).mode = s.mode := by
  unfold State.release
  exact State.same_ite State.mode (State.mode_setGrp rfl) (State.mode_setGrp rfl)

theorem State.releaseWaiting_mode (s : State) (g : Nat) : (s.releaseWaiting g).mode = s.mode := by
  unfold State.releaseWaiting
  dsimp only
  split
  · rfl
  · exact (State.release_mode _ _ _ _).trans (State.mode_setGrp rfl)

/-- A released set leaves a group or changes in it. -/
theorem State.mode_released {s b : State} (hb : b.mode = s.mode) (g : Nat) (l : Group → List StageSet) :
    (b.modGrp g fun y => { y with released := l y }).mode = s.mode := by
  rw [State.mode_modGrp (by exact fun _ => rfl), hb]

theorem State.lateCount_mode (s : State) (g : Nat) : ((s.bump .Gn_CNT_LATE g).irqIf .Gn_CTL g 1).mode = s.mode :=
  State.mode_aside.irqIf _ _ _ _

theorem State.commitSets_mode (s : State) (g t : Nat) (cp mk : Bool) (n : Nat) : (s.commitSets g t cp mk n).mode = s.mode := by
  induction n generalizing s with
  | zero => rfl
  | succ n ih =>
    unfold State.commitSets
    split
    · rfl
    · split
      · dsimp only
        rw [ih, State.releaseWaiting_mode, State.applySet_mode]
        exact State.mode_released (State.same_ite State.mode rfl (s.lateCount_mode g)) g _
      · exact (State.lateCount_mode _ g).trans (State.mode_released rfl g _)
      · exact State.mode_released rfl g _
      · rfl

theorem State.zeroStep_mode (s : State) (g : Nat) : (s.zeroStep g).mode = s.mode := by
  unfold State.zeroStep
  exact State.same_ite State.mode rfl rfl

/-- The commands of a group that stops, which waited with its sets. -/
theorem State.finishWaits_mode (s : State) (l : List (Option CmdRef × Option (List Word))) (t : Nat) :
    (l.foldl (fun s c => if s.setsLeft c.1 then s else s.finishOpt c.1 stOK (c.2.getD (timeWords t))) s).mode = s.mode := by
  refine State.foldl_same State.mode (fun s c => ?_) l s
  exact State.same_ite State.mode rfl (s.finishOpt_mode _ _ _)

theorem State.applySets_mode (s : State) (g t : Nat) (l : List StageSet) :
    (l.foldl (fun s y => s.applySet g y t stOK) s).mode = s.mode :=
  State.foldl_same State.mode (fun s y => s.applySet_mode g y t stOK) l s

/-- The sets of a group that stops, and the commands that waited with them (R188). -/
theorem State.commitAll_mode (s : State) (g t : Nat) : (s.commitAll g t).mode = s.mode := by
  unfold State.commitAll
  dsimp only
  refine (State.mode_modGrp ?_).trans ?_
  · exact fun _ => rfl
  rw [State.zeroStep_mode, State.finishWaits_mode]
  have h : ∀ x : Group, x.mode = (s.grp g).mode →
      ((s.grp g).released.foldl (fun s y => s.applySet g y t stOK) (s.setGrp g x)).mode = s.mode := fun x hx =>
    (State.applySets_mode _ _ _ _).trans (State.mode_setGrp hx)
  exact State.same_ite State.mode (h _ rfl) ((State.applySet_mode _ _ _ _ _).trans (h _ rfl))

/-! ### Stops (R193) -/

theorem State.drmRun_mode (s : State) : s.drmRun.mode = s.mode := by
  have h : (s.setRunning 13 true).mapMake.mode = s.mode := by
    unfold State.mapMake
    exact State.same_ite State.mode rfl rfl
  exact h

theorem State.drmStart_mode (s : State) : s.drmStart.mode = s.mode := by
  unfold State.drmStart
  exact State.same_ite State.mode rfl (State.same_ite State.mode s.drmRun_mode rfl)

theorem State.drmStop_mode (s : State) : s.drmStop.mode = s.mode := by
  have h : (if s.drmOn && !s.drm.selfref then s.bump .DRM_CNT_SR else s).mode = s.mode := State.same_ite State.mode rfl rfl
  exact h

theorem State.drmSettle_mode (s : State) : s.drmSettle.mode = s.mode := by
  unfold State.drmSettle
  exact State.same_ite State.mode (State.drmStart_mode _) (State.drmStop_mode _)

theorem State.dacsMid_mode (s : State) (l : List Nat) : (l.foldl (fun s d => State.dacMid s d) s).mode = s.mode :=
  State.foldl_same State.mode (f := fun s d => State.dacMid s d) (fun _ _ => rfl) l s

theorem State.dacBlock_mode (s : State) (on : Bool) : (s.dacBlock on).mode = s.mode := by
  have hoff : ∀ p : State, ((p.setRunning 6 false).wrb .DAC_STATUS 0 0 1 false).mode = p.mode := fun _ => rfl
  unfold State.dacBlock
  refine State.same_ite State.mode (State.same_ite State.mode rfl rfl) ?_
  rw [hoff, State.dacsMid_mode]

theorem State.enTake_mode (s : State) (b : Nat) : (s.enTake State.dacBlock b).mode = s.mode := by
  unfold State.enTake
  exact State.same_ite State.mode rfl (State.same_ite State.mode (s.dacBlock_mode _) rfl)

theorem State.pllStops_mode (s : State) :
    ((List.range 2).foldl (fun s x => if (s.pll x).stopPending && !s.anyOn x then (s.pllStop x).slackRestart else s) s).mode =
      s.mode := by
  refine State.foldl_same State.mode (fun s x => ?_) _ s
  exact State.same_ite State.mode rfl rfl

theorem State.enTakes_mode (s : State) :
    (s.enWait.foldl (fun s b => State.enTake s State.dacBlock b) { s with enWait := [] }).mode = s.mode :=
  State.foldl_same State.mode (f := fun s b => s.enTake State.dacBlock b) (fun s b => s.enTake_mode b) s.enWait { s with enWait := [] }

theorem State.settleEnables_mode (s : State) : (s.settleEnables State.dacBlock).mode = s.mode := by
  have hplls := s.pllStops_mode
  unfold State.settleEnables
  dsimp only
  generalize (List.range 2).foldl (fun s x => if (s.pll x).stopPending && !s.anyOn x then (s.pllStop x).slackRestart else s) s = p at hplls ⊢
  have htaken : ∀ q : State, q.mode = s.mode →
      (q.enWait.foldl (fun s b => State.enTake s State.dacBlock b) { q with enWait := [] }).mode = s.mode := fun q hq =>
    q.enTakes_mode.trans hq
  have hq : (if p.tb.stopPending then p.pllAStop else p).mode = s.mode := State.same_ite State.mode hplls hplls
  refine State.same_ite State.mode hplls ?_
  exact State.same_ite State.mode ((State.drmSettle_mode _).trans (htaken _ hq)) (htaken _ hq)

theorem State.exclSettle_mode (s : State) : s.exclSettle.mode = s.mode := by
  unfold State.exclSettle
  exact State.same_ite State.mode rfl rfl

end Sys2Proof.Machine
end
section
/-!
PROOF. A group that stops plays no more, and an underrun that opens before the decisions of a sample is still the group's episode after
them: the group has no jumps left, and no entry decision is open.
-/
namespace Sys2Proof.Machine

/-! ### Stops (R112, R193) -/

theorem State.dropTrigs_mode (s : State) (g : Nat) (l : List Trig) : (l.foldl (fun s y => s.dropTrig g y) s).mode = s.mode :=
  State.foldl_same State.mode (fun s y => s.dropTrig_mode g y) l s

theorem State.finishStops_mode (s : State) (t : Nat) (l : List StopReq) :
    (l.foldl (fun s y => s.finishOpt y.cmd stOK (timeWords t)) s).mode = s.mode :=
  State.foldl_same State.mode (f := fun (s : State) (y : StopReq) => s.finishOpt y.cmd stOK (timeWords t))
    (fun s _ => s.finishOpt_mode _ _ _) l s

theorem State.slackRestart_mode (s : State) : s.slackRestart.mode = s.mode := rfl

/-- What follows once a group has stopped: its outputs, and the changes that waited for it. -/
def State.afterStop (s : State) (g : Nat) (ramp : Bool) : State :=
  (((s.outputsStop g ramp).flushLog).settleEnables State.dacBlock).slackRestart.exclSettle

theorem State.afterStop_mode (s : State) (g : Nat) (ramp : Bool) : (s.afterStop g ramp).mode = s.mode := by
  rw [State.afterStop, State.exclSettle_mode, State.slackRestart_mode, State.settleEnables_mode, State.mode_aside.flushLog,
    State.outputsStop_mode]

/-- The state of a group that has stopped, as its enable has it. -/
def GState.halted (en : Bool) : GState := if en then .stopped else .disabled

theorem GState.halted_plays (en : Bool) : (GState.halted en).plays = false := by
  cases en <;> rfl

theorem State.afterStop_halts {s p : State} (hp : p.mode = s.mode) {en : Bool} {f : Group → Group}
    (hf : ∀ x, (f x).st = GState.halted en) (g : Nat) (ramp : Bool) :
    (∀ h, h ≠ g → ((p.modGrp g f).afterStop g ramp).mode h = s.mode h) ∧
      (((p.modGrp g f).afterStop g ramp).grp g).st.plays = false := by
  have hm := (p.modGrp g f).afterStop_mode g ramp
  constructor
  · intro h hne
    rw [hm, ← hp]
    simp only [State.mode, State.modGrp, State.grp_setGrp_ne _ _ hne]
  · refine Eq.trans (congrArg (fun m => GState.plays m.1) (congrFun hm g)) ?_
    simp only [State.mode, State.modGrp, State.grp_setGrp_same, Group.mode, hf, GState.halted_plays]

/-- A group that stops does not play, and the mode of every other group stays. -/
theorem State.stopOne_mode (s : State) (g t : Nat) (ramp : Bool) : (∀ h, h ≠ g → (s.stopOne g t ramp).mode h = s.mode h) ∧
    ((s.stopOne g t ramp).grp g).st.plays = false := by
  unfold State.stopOne
  refine State.afterStop_halts ?_ (fun _ => rfl) g ramp
  rw [State.finishOpt_mode, State.finishOpt_mode, State.finishStops_mode, State.dropTrigs_mode, State.commitAll_mode]

/-- A group that does not play stays so when another stops. -/
theorem State.stopOne_halts {s : State} {g h : Nat} (hs : h = g ∨ (s.grp g).st.plays = false) (t : Nat) (ramp : Bool) :
    ((s.stopOne h t ramp).grp g).st.plays = false := by
  obtain ⟨hothers, hown⟩ := s.stopOne_mode h t ramp
  by_cases hg : h = g
  · exact hg ▸ hown
  · have hst : ((s.stopOne h t ramp).grp g).st = (s.grp g).st := (congrArg Prod.fst (hothers g (Ne.symm hg)) :)
    rw [hst]
    exact hs.resolve_left hg

theorem State.stopGroup_halts (s : State) (g t : Nat) (ramp : Bool) : ((s.stopGroup g t ramp).grp g).st.plays = false := by
  unfold State.stopGroup
  refine List.foldlRecOn (List.range 8) _ (motive := fun p : State => (p.grp g).st.plays = false)
    (State.stopOne_halts (.inl rfl) t ramp) fun p hp h _ => ?_
  split
  · exact State.stopOne_halts (.inr hp) t ramp
  · exact hp

/-- Decisions that leave a group playing come to no stop point. -/
theorem State.stopPoint_of_plays {s : State} {g t : Nat} (h : ((s.stopPoint g t).grp g).st.plays = true) :
    s.stopPoint g t = s ∧ (s.grp g).st.plays = true := by
  unfold State.stopPoint at h ⊢
  split at h
  · rw [State.stopGroup_halts] at h
    cases h
  · rename_i hc
    exact ⟨if_neg hc, h⟩

/-! ### The decisions of a sample in an underrun -/

/-- The group is in an underrun episode of which the first sample is presented at `t`, and nothing waits to jump (R444, R446). -/
def State.Missing (s : State) (g t : Nat) : Prop :=
  ∃ (st : GState) (ep : Episode), s.mode g = (st, some ep, false, []) ∧ ep.firstT = some t

theorem State.Missing.of_mode {s p : State} {g t : Nat} (h : s.Missing g t) (hm : p.mode g = s.mode g) : p.Missing g t := by
  obtain ⟨st, ep, hs, ht⟩ := h
  exact ⟨st, ep, hm.trans hs, ht⟩

theorem State.Missing.group {s : State} {g t : Nat} (h : s.Missing g t) :
    ∃ ep, (s.grp g).episode = some ep ∧ ep.firstT = some t ∧ (s.grp g).fb = false ∧ (s.grp g).trigs = [] := by
  obtain ⟨st, ep, hs, ht⟩ := h
  simp only [State.mode, Group.mode, Prod.mk.injEq] at hs
  obtain ⟨-, hep, hfb, htr⟩ := hs
  exact ⟨ep, hep, ht, hfb, htr⟩

theorem State.Missing.isSome {s : State} {g t : Nat} (h : s.Missing g t) : (s.grp g).episode.isSome = true := by
  obtain ⟨ep, hep, -⟩ := h.group
  rw [hep]
  rfl

theorem State.Missing.trigs {s : State} {g t : Nat} (h : s.Missing g t) : (s.grp g).trigs = [] := by
  obtain ⟨ep, -, -, -, htr⟩ := h.group
  exact htr

theorem State.Missing.deciding {s : State} {g t : Nat} (h : s.Missing g t) : s.deciding g = false := by
  obtain ⟨ep, hep, -⟩ := h.group
  simp [State.deciding, hep]

/-- An episode counts its first sample once. -/
theorem State.Missing.markUnderrun {s : State} {g t : Nat} (h : s.Missing g t) : s.markUnderrun g t = s := by
  obtain ⟨ep, hep, ht, -⟩ := h.group
  simp [State.markUnderrun, hep, ht]

/-- The first underrun sample itself is no fallback boundary (R446). -/
theorem State.Missing.fallback {s : State} {g t : Nat} (h : s.Missing g t) : s.fallback g t = s := by
  obtain ⟨ep, hep, ht, -⟩ := h.group
  have hlate : ¬t + ticks 400 ≤ t := by
    have : 0 < ticks 400 := by decide
    omega
  simp only [State.fallback, hep, ht, hlate, decide_false, Bool.and_false, Bool.false_eq_true, if_false]

theorem State.Missing.delaySwitches {s : State} {g t : Nat} (h : s.Missing g t) : s.delaySwitches g t = s := by
  simp [State.delaySwitches, h.deciding]

theorem State.Missing.switch {s : State} {g t : Nat} (h : s.Missing g t) (delayed : Option Bool) : s.switch g t delayed = s := by
  simp [State.switch, h.deciding]

theorem State.Missing.durationEnd {s : State} {g t : Nat} (h : s.Missing g t) : s.durationEnd g t = s := by
  simp [State.durationEnd, h.deciding]

/-! ### An underrun and its first sample (R444, R446) -/

theorem State.loseJumps_mode (s : State) (g t : Nat) {x : Group} (hx : x.mode = ((s.grp g).st, (s.grp g).episode, (s.grp g).fb, [])) :
    (s.loseJumps g t).mode = (s.setGrp g x).mode := by
  have hset : (s.setGrp g { s.grp g with trigs := [] }).mode = (s.setGrp g x).mode := by
    funext i
    by_cases hi : i = g
    · subst hi
      simp only [State.mode, State.grp_setGrp_same, hx]
      rfl
    · simp only [State.mode, State.grp_setGrp_ne _ _ hi]
  unfold State.loseJumps
  refine (State.foldl_same State.mode (fun s y => ?_) _ _).trans hset
  exact State.same_ite State.mode (s.resolveEv_mode _ _ _ _ _) (s.dropTrig_mode _ _)

/-- The first underrun sample of an episode: nothing waits to jump from it on. -/
theorem State.markUnderrun_missing {s : State} {g t : Nat} {ep : Episode} (hep : (s.grp g).episode = some ep) (hf : ep.firstT = none)
    (hfb : (s.grp g).fb = false) : (s.markUnderrun g t).Missing g t := by
  refine ⟨(s.grp g).st, { ep with firstT := some t }, ?_, rfl⟩
  simp only [State.markUnderrun, hep, hf, Option.isNone_none, if_true]
  rw [State.loseJumps_mode (x := { s.grp g with episode := some { ep with firstT := some t }, trigs := [] })]
  · simp only [State.mode, State.grp_setGrp_same, Group.mode, hfb]
  · simp only [State.grp_setGrp_same, Group.mode]

theorem State.lasting_mode (s : State) (blk inst code status d0 d1 : Nat) : (s.lasting blk inst code status d0 d1).mode = s.mode := by
  rw [State.lasting, State.logErr_mode]
  rfl

/-- An underrun of a group that plays its table opens an episode, which has no sample yet. -/
theorem State.underrun_opens {s : State} {g : Nat} (hp : (s.grp g).st.plays = true) (hfb : (s.grp g).fb = false)
    (he : (s.grp g).episode = none) (cause : Nat) (due : Option Nat) : ∃ ep : Episode, ep.firstT = none ∧
    (s.underrun g cause due).mode g = ((s.grp g).st, some ep, false, (s.grp g).trigs) := by
  refine ⟨⟨(s.grp g).n, none, due.getD (s.grp g).entry⟩, rfl, ?_⟩
  have hcount : ∀ x : Group, ((((s.setGrp g x).bump .Gn_CNT_UNDERRUN g).bump .ERR_CNT_UNDERRUN)).mode g = x.mode := fun x => by
    simp only [State.mode, State.bump, State.grp_wr, State.grp_setGrp_same]
  unfold State.underrun
  simp only [hp, hfb, he, Option.isNone_none, Bool.false_eq_true, if_false, and_self, if_true]
  split
  · rw [State.lasting_mode, hcount]
    rfl
  · rw [State.logErr_mode, hcount]
    rfl

/-- A group in an episode meets no further underrun (R444). -/
theorem State.Missing.underrun {s : State} {g t : Nat} (h : s.Missing g t) (cause : Nat) (due : Option Nat) :
    s.underrun g cause due = s := by
  obtain ⟨ep, hep, -, hfb, -⟩ := h.group
  simp [State.underrun, hep, hfb]

theorem State.underrun_idle {s : State} {g : Nat} (h : (s.grp g).st.plays = false) (cause : Nat) (due : Option Nat) :
    s.underrun g cause due = s := by
  simp [State.underrun, h]

/-! ### What else is decided -/

theorem State.grp_of_groups {s p : State} (h : p.groups = s.groups) (g : Nat) : p.grp g = s.grp g := by
  simp only [State.grp, h]

theorem State.recordSwitch_seat (s : State) (g e old idx cause t : Nat) :
    ((s.recordSwitch g e old idx cause t).grp g).seat = (s.grp g).seat := by
  have h := State.groups_aside.irqIf ((s.modGrp g fun x =>
    { x with lastSw := t, lastInfo := mkW (e + old * 2 ^ 16 + idx * 2 ^ 26 + cause * 2 ^ 28) }).bump .Gn_CNT_SWITCH g) .Gn_CTL g 2
  rw [State.recordSwitch, State.grp_of_groups h, State.bump, State.grp_wr, State.modGrp, State.grp_setGrp_same]
  rfl

theorem State.seat_of_core {s p : State} (h : p.core = s.core) (g : Nat) : (p.grp g).seat = (s.grp g).seat :=
  (congrArg Group.seat (congrFun (State.seq_of_base (State.base_of_core h)) g) :)

/-- A started entry is the group's, and jumps on events that are not delayed are gone (R175, R180). -/
theorem State.entryStart_seat (s : State) (g e t idx cause plays : Nat) : ((s.entryStart g e t idx cause plays).grp g).seat =
    { s.grp g with entry := e, trigs := (s.grp g).trigs.filter fun y => y.cmd.isSome || y.delayed }.seat := by
  unfold State.entryStart
  dsimp only
  rw [State.recordSwitch_seat, State.seat_of_core (State.markEntry_core _ _ _ _), State.grp_setGrp_same]
  rfl

/-- An entry that starts while nothing waits to jump. -/
theorem State.entryStart_mode {s : State} {g : Nat} (h : (s.grp g).trigs = []) (e t idx cause plays : Nat) :
    (s.entryStart g e t idx cause plays).mode g = s.mode g := by
  have hseat := s.entryStart_seat g e t idx cause plays
  simp only [Group.seat, h, List.filter_nil, Prod.mk.injEq] at hseat
  obtain ⟨hst, -, -, -, he, hf, htr, -⟩ := hseat
  simp only [State.mode, Group.mode, hst, he, hf, htr, h]

theorem State.Missing.resumption {s : State} {g t : Nat} (h : s.Missing g t) : (s.resumption g t).Missing g t := by
  obtain ⟨ep, hep, ht, hfb, htr⟩ := h.group
  unfold State.resumption
  dsimp only
  refine iteInduction (motive := fun p : State => p.Missing g t) (fun _ => ⟨.running, ep, ?_, ht⟩) fun _ => h
  rw [State.logErr_mode, State.entryStart_mode (by rw [State.grp_setGrp_same, htr])]
  simp only [State.mode, State.grp_setGrp_same, Group.mode, hep, htr]

theorem State.pruneHeld_mode (s : State) (g : Nat) : (s.pruneHeld g).mode = s.mode := by
  unfold State.pruneHeld
  exact State.mode_modGrp fun _ => rfl

/-- Content that a commit leaves unplayable is no underrun of its own in an episode. -/
theorem State.Missing.checked {s : State} {g t : Nat} (h : s.Missing g t) (w : List Word) :
    (if !s.entryOk g w then s.underrun g 5 none else if !s.regionHeld g 0 then s.underrun g 9 none else s).Missing g t := by
  rw [h.underrun, h.underrun, ite_self, ite_self]
  exact h

theorem State.Missing.contentChanged {s : State} {g t : Nat} (h : s.Missing g t) (old : List Word) :
    (s.contentChanged g t old).Missing g t := by
  have hset : ∀ x : Group, x.mode = (s.grp g).mode → (s.setGrp g x).Missing g t := fun x hx =>
    h.of_mode (congrFun (State.mode_setGrp hx) g)
  unfold State.contentChanged
  dsimp only
  refine iteInduction (motive := fun p : State => p.Missing g t) (fun _ => h) fun _ => State.Missing.checked (hset _ ?_) _
  rfl

theorem State.Missing.commitAt {s : State} {g t : Nat} (h : s.Missing g t) (cp mk : Bool) : (s.commitAt g t cp mk).Missing g t := by
  unfold State.commitAt
  dsimp only
  split
  · exact h
  · refine State.Missing.of_mode (s := ((s.commitSets g t cp mk 16).zeroStep g).contentChanged g t _) ?_
      (congrFun (State.pruneHeld_mode _ g) g)
    refine State.Missing.contentChanged (h.of_mode ?_) _
    rw [State.zeroStep_mode, State.commitSets_mode]

theorem State.Missing.commitPoint {s : State} {g t : Nat} (h : s.Missing g t) : (s.commitPoint g t).Missing g t := by
  unfold State.commitPoint
  dsimp only
  split
  · refine State.Missing.commitAt (h.of_mode (congrFun (State.mode_setGrp ?_) g)) _ _
    rfl
  · exact h

theorem State.folRecord_mode (s : State) (g : Nat) : (s.folRecord g).mode = s.mode := by
  unfold State.folRecord
  dsimp only
  split
  · exact State.mode_setGrp (s := s) rfl
  · refine State.same_ite State.mode (State.mode_setGrp rfl) ?_
    rw [State.logErr_mode]
    exact State.mode_setGrp (s := s) rfl

theorem State.folBoundary_mode (s : State) (g : Nat) : (s.folBoundary g).mode = s.mode := by
  unfold State.folBoundary
  dsimp only
  split
  · exact State.mode_setGrp rfl
  · exact State.mode_setGrp (iteInduction (motive := fun x : Group => x.mode = (s.grp g).mode) (fun _ => rfl) fun _ => rfl)
  · exact State.mode_setGrp (iteInduction (motive := fun x : Group => x.mode = (s.grp g).mode) (fun _ => rfl) fun _ => rfl)
  · refine State.same_ite State.mode (State.mode_setGrp rfl) (State.same_ite State.mode ?_ (State.mode_setGrp rfl))
    exact State.mode_setGrp (s := s) rfl

theorem State.boundaryWork_mode (s : State) (g : Nat) : (s.boundaryWork g).mode = s.mode := by
  unfold State.boundaryWork
  refine State.same_ite State.mode ?_ rfl
  exact State.same_ite State.mode (s.folRecord_mode g) (State.same_ite State.mode (s.folBoundary_mode g) rfl)

theorem State.turnMark_mode (s : State) (g t : Nat) : (s.turnMark g t).mode = s.mode := by
  unfold State.turnMark
  refine State.same_ite State.mode ?_ rfl
  rw [State.dacMarks_mode, State.chanMarks_mode]
  exact State.mode_setGrp rfl

/-! ### The decisions of a sample -/

theorem State.foreseeStep_mode (s : State) (g t : Nat) : (s.foreseeStep g t).mode = s.mode := by
  unfold State.foreseeStep
  exact State.mode_modGrp fun _ => rfl

/-- The decisions of a sample past its stop point, up to the commits. -/
def State.decideEntry (s : State) (g t : Nat) : State :=
  (((((s.markUnderrun g t).fallback g t).resumption g t).delaySwitches g t).switch g t none).durationEnd g t

/-- Decisions that leave the group playing are those past the stop point. -/
theorem State.decideSample_of_plays {s : State} {g t : Nat} (h : ((s.decideSample g t).grp g).st.plays = true) :
    (s.grp g).st.plays = true ∧ ∃ p : State, p.mode = s.mode ∧ s.decideSample g t =
      ((((((p.decideEntry g t).markUnderrun g t).commitPoint g t).markUnderrun g t).boundaryWork g).turnMark g t) := by
  have hstop : (((s.foreseeStep g t).stopPoint g t).grp g).st.plays = true := by
    by_contra hn
    unfold State.decideSample at h
    dsimp only at h
    rw [if_neg hn] at h
    exact hn h
  obtain ⟨heq, hplays⟩ := State.stopPoint_of_plays hstop
  have hst : ((s.foreseeStep g t).grp g).st = (s.grp g).st := (congrArg Prod.fst (congrFun (s.foreseeStep_mode g t) g) :)
  refine ⟨hst ▸ hplays, s.foreseeStep g t, s.foreseeStep_mode g t, ?_⟩
  rw [State.decideSample, if_pos hstop, heq]
  rfl

/-- In an underrun, no decision but the commits, the boundary and the marks is taken. -/
theorem State.decideEntry_missing {s : State} {g t : Nat} (h : (s.markUnderrun g t).Missing g t) : (s.decideEntry g t).Missing g t := by
  have hr := h.resumption
  rw [State.decideEntry, h.fallback, hr.delaySwitches, hr.switch, hr.durationEnd]
  exact hr

/-- An underrun that opens an episode before the decisions of a sample is the group's episode after them, and its jumps are gone. -/
theorem State.decideSample_missing {u : State} {g t cause : Nat} (hfb : (u.grp g).fb = false) (he : (u.grp g).episode = none)
    (hp : (((u.underrun g cause none).decideSample g t).grp g).st.plays = true) :
    ((u.underrun g cause none).decideSample g t).Missing g t := by
  obtain ⟨hplays, p, hpm, heq⟩ := State.decideSample_of_plays hp
  have hu : (u.grp g).st.plays = true := by
    by_contra hn
    rw [State.underrun_idle (Bool.eq_false_of_not_eq_true hn)] at hplays
    exact hn hplays
  obtain ⟨ep, hf, hmode⟩ := State.underrun_opens hu hfb he cause none
  have hpg : p.mode g = ((u.grp g).st, some ep, false, (u.grp g).trigs) := (congrFun hpm g).trans hmode
  simp only [State.mode, Group.mode, Prod.mk.injEq] at hpg
  obtain ⟨-, hpe, hpf, -⟩ := hpg
  have hentry : (p.decideEntry g t).Missing g t := State.decideEntry_missing (State.markUnderrun_missing hpe hf hpf)
  have hcommit := hentry.commitPoint
  rw [heq, hentry.markUnderrun, hcommit.markUnderrun]
  refine hcommit.of_mode ?_
  rw [State.turnMark_mode, State.boundaryWork_mode]

end Sys2Proof.Machine
end
section
/-!
PROOF. Samples that repeat the last frame: an absent frame, and a flit that failed its check twice (R20, R104).
-/
namespace Sys2Proof.Machine

theorem State.sampleMissed_noStop {s : State} {g t : Nat} (h : s.stopDue g t = false) (cause : Nat) :
    s.sampleMissed g cause t = s.underrun g cause none := by
  simp only [State.sampleMissed, h, Bool.false_eq_true, if_false]

/-- A sample presented in an underrun that its decisions met: the group keeps the episode, and has no jumps. -/
theorem State.Presented.missing {w v : State} {g t : Nat} (hm : w.Missing g t)
    (hv : (w.advance g).Presented v g t ∨ (w.formed g).Presented v g t) :
    (v.grp g).n = (w.grp g).n + 1 ∧ (v.grp g).episode.isSome = true ∧ (v.grp g).trigs = [] := by
  obtain ⟨hn, -, -, hep, htr, -⟩ := State.Presented.seat hv
  exact ⟨hn, hep ▸ hm.isSome, htr.trans hm.trigs⟩

/-- A missing frame: the sample repeats the last one in an underrun (R20, R444). -/
theorem groupSample_absent {g : Fin 8} {t : Nat} {stale : Bool} {s u w : State} (h : s.AtEdge g t u) (hfb : (u.grp g).fb = false)
    (he : (u.grp g).episode = none) (hs : u.stopDue g t = false) (hw : w = (u.underrun g 1 none).decideSample g t)
    (hp : (w.grp g).st.plays = true) :
    ∃ v, exec (.groupSample g t true stale none) s = .next v ∧ (v.grp g).n = (w.grp g).n + 1 ∧ (v.grp g).episode.isSome = true ∧
      (∀ c ∈ w.chansOf g, (v.chan c).value = (w.chan c).value ∧ (v.chan c).repeated = true) ∧ (v.grp g).trigs = [] := by
  have hm : w.Missing g t := hw ▸ State.decideSample_missing hfb he (hw ▸ hp)
  have hexec : exec (.groupSample g t true stale none) s = .next (((w.formed g).present g t true stale true).leaderRecords g) := by
    have hw' : w = (if true then u.sampleMissed g 1 t else u).decideSample g t := by
      rw [hw, if_pos rfl, State.sampleMissed_noStop hs]
    rw [exec_groupSample h.1, State.groupSample_plays h hw' hp]
  have hv := ((w.formed g).present_presented g t true stale).leaderRecords
  have hchan : ∀ c ∈ w.chansOf g, ((((w.formed g).present g t true stale true).leaderRecords g).chan c).value = (w.chan c).value ∧
      ((((w.formed g).present g t true stale true).leaderRecords g).chan c).repeated = true := fun c hc => by
    have hshow := (w.formed g).present_miss_chan g t stale c (w.formed_chansOf g ▸ hc)
    rw [State.leaderRecords_chan]
    simpa only [State.chan, w.formed_chans g] using hshow
  generalize ((w.formed g).present g t true stale true).leaderRecords g = v at hexec hv hchan
  obtain ⟨hn, hep, htr⟩ := State.Presented.missing hm (.inr hv)
  exact ⟨v, hexec, hn, hep, hchan, htr⟩

theorem State.lasting_mgt (s : State) (blk inst code status d0 d1 : Nat) : (s.lasting blk inst code status d0 d1).mgt = s.mgt := by
  have hmgt : State.Aside State.mgt := ⟨fun _ => rfl, fun _ _ => rfl, fun _ _ => rfl, fun _ _ => rfl, fun _ _ => rfl, fun _ _ _ => rfl⟩
  unfold State.lasting State.logErr State.logErrAt
  refine State.same_ite State.mgt ?_ rfl
  exact State.same_ite State.mgt ((hmgt.irqIf _ _ _ _).trans (State.same_ite State.mgt rfl rfl)) (State.same_ite State.mgt rfl rfl)

/-- A flit whose repeat fails its check too: the sample repeats the last frame in an underrun, which its count alone counts (R20). -/
theorem flitCheckFail_twice {g : Fin 8} {t : Nat} {s e u w : State} (hs : e = s.lasting 23 g 0x0013 0xFF ((s.grp g).n % 2 ^ 32) 0)
    (h : e.AtEdge g t u) (hfb : (u.grp g).fb = false) (he : (u.grp g).episode = none) (hstop : u.stopDue g t = false)
    (hw : w = (u.underrun g 2 none).decideSample g t) (hp : (w.grp g).st.plays = true) :
    ∃ v, exec (.flitCheckFail g t true) s = .next v ∧ (v.grp g).n = (w.grp g).n + 1 ∧ (v.grp g).episode.isSome = true ∧
      (∀ c ∈ w.chansOf g, (v.chan c).value = (w.chan c).value ∧ (v.chan c).repeated = true) ∧
      (v.grp g).trigs = [] ∧ v.rd .Gn_CNT_UNDERRUN g = w.rd .Gn_CNT_UNDERRUN g := by
  have hm : w.Missing g t := hw ▸ State.decideSample_missing hfb he (hw ▸ hp)
  have hrst : s.mgt.rst = false := by
    have hmgt := congrArg Mgt.rst (s.lasting_mgt 23 g 0x0013 0xFF ((s.grp g).n % 2 ^ 32) 0)
    rw [← hs] at hmgt
    exact hmgt ▸ h.1
  have hexec : exec (.flitCheckFail g t true) s = .next (((w.advance g).frameMiss g t).leaderRecords g) := by
    have hw' : w = (u.sampleMissed g 2 t).decideSample g t := by rw [hw, State.sampleMissed_noStop hstop]
    rw [exec_flitCheckFail hrst, ← State.discardFrame_plays h hw' hp, hs]
    rfl
  have hv := (State.LateOnly.refl (w.advance g) g).frameMiss (t := t) |>.leaderRecords
  have hchan : ∀ c ∈ w.chansOf g, ((((w.advance g).frameMiss g t).leaderRecords g).chan c).value = (w.chan c).value ∧
      ((((w.advance g).frameMiss g t).leaderRecords g).chan c).repeated = true := fun c hc => by
    have hof : (w.advance g).chansOf g = w.chansOf g := State.chansOf_congr (w.advance_chans g) (fun c _ => w.advance_rd (by
      simp only [RegId.off, RegId.row]
      omega)) g
    have hshow := (w.advance g).frameMiss_chan g t c (hof ▸ hc)
    rw [State.leaderRecords_chan]
    simpa only [State.chan, w.advance_chans g] using hshow
  generalize ((w.advance g).frameMiss g t).leaderRecords g = v at hexec hv hchan
  have hcount : v.rd .Gn_CNT_UNDERRUN g = w.rd .Gn_CNT_UNDERRUN g := by
    rw [State.rd_of_settings (State.settings_of_around hv.around) (isShowCounter_of_group (by decide)), w.advance_rd]
    simp only [RegId.off, RegId.row]
    omega
  obtain ⟨hn, hep, htr⟩ := State.Presented.missing hm (.inl hv)
  exact ⟨v, hexec, hn, hep, hchan, htr, hcount⟩

end Sys2Proof.Machine
end
section
/-!
PROOF. The first sample of a group: sample 0 of its start entry is formed, presented and answered (R131, R192).
-/
namespace Sys2Proof.Machine

/-- Of a group, what forming its first sample leaves alone. -/
def Group.place (x : Group) : GState × Nat × List Nat × Nat × List Trig × Option CmdRef × List StageSet :=
  (x.st, x.n, x.times, x.entry, x.trigs, x.startCmd, x.released)

/-- What forming the first sample of a group leaves alone, of the group and around it. -/
def State.scene (s : State) (g : Nat) := (s.rest g, (s.grp g).place)

theorem State.rest_of_scene {s p : State} {g : Nat} (h : p.scene g = s.scene g) : p.rest g = s.rest g := congrArg Prod.fst h

theorem State.place_of_scene {s p : State} {g : Nat} (h : p.scene g = s.scene g) : (p.grp g).place = (s.grp g).place :=
  congrArg Prod.snd h

theorem State.scene_of_base {s p : State} (h : p.base = s.base) (g : Nat) : p.scene g = s.scene g := by
  have hplace : (p.grp g).place = (s.grp g).place := (congrArg Group.place (congrFun (State.seq_of_base h) g) :)
  rw [State.scene, State.scene, State.rest_of_around (State.around_of_base h g), hplace]

theorem State.scene_of_core {s p : State} (h : p.core = s.core) (g : Nat) : p.scene g = s.scene g :=
  State.scene_of_base (State.base_of_core h) g

theorem State.scene_setGrp {s : State} {g : Nat} {x : Group} (h : x.place = (s.grp g).place) : (s.setGrp g x).scene g = s.scene g := by
  rw [State.scene, State.rest_setGrp, State.grp_setGrp_same, h, State.scene]

theorem State.scene_bump (s : State) {r : RegId} (hr : 8 < r.row.base) (i g : Nat) : (s.bump r i).scene g = s.scene g := by
  rw [State.scene, State.rest_bump s hr, State.bump, State.grp_wr, State.scene]

theorem State.scene_aside (g : Nat) : State.Aside (·.scene g) where
  lost s := State.scene_of_core (State.core_aside.lost s) g
  put s x := State.scene_of_core (State.core_aside.put s x) g
  pend s l := State.scene_of_core (State.core_aside.pend s l) g
  ev s e := State.scene_of_core (State.core_aside.ev s e) g
  tb s b := State.scene_of_core (State.core_aside.tb s b) g
  sv s i x := State.scene_of_core (State.core_aside.sv s i x) g

theorem State.logErr_scene (s : State) (cls blk inst code status d0 d1 g : Nat) :
    (s.logErr cls blk inst code status d0 d1).scene g = s.scene g := by
  have hlost : ∀ p : State, (p.bump .ERR_CNT_LOST).scene g = p.scene g := fun p => p.scene_bump (by decide) 0 g
  have hlog : ∀ (c : Prop) [Decidable c] (e : Errs), (if c then { s with err := e }.bump .ERR_CNT_LOST else { s with err := e }).scene g =
      s.scene g := fun c _ e => State.same_ite (·.scene g) (hlost _) rfl
  unfold State.logErr State.logErrAt
  refine State.same_ite (·.scene g) ?_ (hlost s)
  exact State.same_ite (·.scene g) (((State.scene_aside g).irqIf _ _ _ _).trans (hlog _ _)) (hlog _ _)

theorem State.lasting_scene (s : State) (blk inst code status d0 d1 g : Nat) :
    (s.lasting blk inst code status d0 d1).scene g = s.scene g := by
  rw [State.lasting, State.logErr_scene, State.scene_bump _ (by decide)]

/-! ### The entry that starts, or its underrun -/

theorem State.underrun_scene (s : State) (g cause : Nat) (due : Option Nat) : (s.underrun g cause due).scene g = s.scene g := by
  have hcount : ∀ x : Group, x.place = (s.grp g).place →
      ((((s.setGrp g x).bump .Gn_CNT_UNDERRUN g).bump .ERR_CNT_UNDERRUN)).scene g = s.scene g := fun x hx => by
    rw [State.scene_bump _ (by decide), State.scene_bump _ (by decide), State.scene_setGrp hx]
  unfold State.underrun
  dsimp only
  refine State.same_ite (·.scene g) (State.same_ite (·.scene g) (hcount _ rfl) rfl) (State.same_ite (·.scene g) ?_ rfl)
  refine State.same_ite (·.scene g) ((State.lasting_scene _ _ _ _ _ _ _ g).trans ?_) ((State.logErr_scene _ _ _ _ _ _ _ _ g).trans ?_)
  · exact hcount _ rfl
  · exact hcount _ rfl

theorem State.recordSwitch_scene (s : State) (g e old idx cause t : Nat) : (s.recordSwitch g e old idx cause t).scene g = s.scene g := by
  have h := (State.scene_aside g).irqIf ((s.modGrp g fun x =>
    { x with lastSw := t, lastInfo := mkW (e + old * 2 ^ 16 + idx * 2 ^ 26 + cause * 2 ^ 28) }).bump .Gn_CNT_SWITCH g) .Gn_CTL g 2
  rw [State.recordSwitch]
  refine Eq.trans h ((State.scene_bump _ (by decide) g g).trans (State.scene_setGrp ?_))
  rfl

theorem State.entryStart_scene {s : State} {g e : Nat} (he : (s.grp g).entry = e) (ht : (s.grp g).trigs = [])
    (t idx cause plays : Nat) : (s.entryStart g e t idx cause plays).scene g = s.scene g := by
  unfold State.entryStart
  simp only [ht, List.filter_nil, List.foldl_nil]
  refine (State.recordSwitch_scene _ _ _ _ _ _ _).trans ((State.scene_of_core (State.markEntry_core _ _ _ _) g).trans
    (State.scene_setGrp ?_))
  simp only [Group.place, ht, he]

theorem State.tryStart_scene {s : State} {g e : Nat} (he : (s.grp g).entry = e) (ht : (s.grp g).trigs = [])
    (t idx cause plays : Nat) : (s.tryStart g e t idx cause plays).scene g = s.scene g := by
  unfold State.tryStart
  exact State.same_ite (·.scene g) (State.entryStart_scene he ht t idx cause plays) (s.underrun_scene g 5 (some e))

theorem State.markUnderrun_scene {s : State} {g : Nat} (ht : (s.grp g).trigs = []) (t : Nat) :
    (s.markUnderrun g t).scene g = s.scene g := by
  have hlose : ∀ x : Group, x.place = (s.grp g).place → ((s.setGrp g x).loseJumps g t).scene g = s.scene g := fun x hx => by
    have hx' : x.trigs = [] := (congrArg (fun p => p.2.2.2.2.1) hx).trans ht
    simp only [State.loseJumps, State.grp_setGrp_same, hx', List.foldl_nil]
    rw [State.scene_setGrp, State.scene_setGrp hx]
    simp only [State.grp_setGrp_same, Group.place, hx']
  unfold State.markUnderrun
  dsimp only
  split
  · exact State.same_ite (·.scene g) (hlose _ rfl) rfl
  · rfl

/-! ### Sample 0 -/

theorem State.commitAt_idle {s : State} {g : Nat} (h : (s.grp g).released = []) (t : Nat) (cp mk : Bool) : s.commitAt g t cp mk = s := by
  simp only [State.commitAt, h, List.isEmpty_nil, if_true]

theorem State.prtStart_base (s : State) (c : Nat) : (s.prtStart c).base = s.base := by
  refine State.foldl_same State.base (fun s p => ?_) _ s
  exact State.same_ite State.base rfl rfl

theorem State.chanBegin_base (s : State) (c : Nat) : (s.chanBegin c).base = s.base := by
  refine (State.foldl_same State.base (fun s d => ?_) _ _).trans (s.prtStart_base c)
  exact State.same_ite State.base (State.base_of_core (s.dacGain_core d)) rfl

theorem State.chansBegin_scene (s : State) (g : Nat) (l : List Nat) : (l.foldl (fun s c => s.chanBegin c) s).scene g = s.scene g :=
  State.scene_of_base (State.foldl_same State.base (fun s c => s.chanBegin_base c) l s) g

theorem State.sineCheck_scene (s : State) (g : Nat) : (s.sineCheck false).scene g = s.scene g := by
  obtain ⟨v, h | h⟩ := s.sineCheck_false <;> rw [h]
  rw [State.scene, State.rest_wr s (by decide), State.grp_wr, State.scene]

/-- A sample whose frame, if absent, is an underrun that its decisions did not meet (R256, R444). -/
theorem State.present_zero {s : State} {g : Nat} (ht : (s.grp g).trigs = []) (t : Nat) (absent : Bool) :
    ∃ p : State, p.scene g = s.scene g ∧ p.Presented (s.present g t absent false false) g t := by
  cases absent
  · exact ⟨s, rfl, s.present_presented g t false false⟩
  · have hu := s.underrun_scene g 1 none
    have hut : ((s.underrun g 1 none).grp g).trigs = [] := (congrArg (fun p => p.2.2.2.2.1) (State.place_of_scene hu) :).trans ht
    exact ⟨(s.underrun g 1 none).markUnderrun g t, (State.markUnderrun_scene hut t).trans hu, State.present_presented _ g t true false⟩

/-- Of a group, what a presented sample leaves alone and is not its count of samples. -/
theorem Group.place_of_still {x y : Group} (h : x.still = y.still) :
    x.st = y.st ∧ x.entry = y.entry ∧ x.startCmd = y.startCmd :=
  ⟨(congrArg Group.st h :), (congrArg Group.entry h :), (congrArg Group.startCmd h :)⟩

/-- The first sample of a group, up to the reply to its GROUP_START. -/
theorem State.firstSample_presents {s : State} {g t : Nat} (h : s.firstEdge g t = true) (hr : (s.grp g).released = []) (absent : Bool) :
    ∃ p : State, s.firstSample g t absent false = (p.finishOpt (s.grp g).startCmd stOK (timeWords t)).slackRestart ∧
      p.rest g = s.rest g ∧ (p.grp g).st = .running ∧ (p.grp g).n = 1 ∧ (p.grp g).times = [t] ∧
      (p.grp g).entry = (s.grp g).startEntry ∧ (p.grp g).startCmd = none := by
  generalize hv : s.firstSample g t absent false = v
  unfold State.firstSample at hv
  extract_lets x s0 nom fol freq e leader s1 s2 y s3 z lim f0 cl per delta a0 w s4 s5 s6 s7 at hv
  rw [if_pos h] at hv
  have h1 : s1.rest g = s.rest g := (s0.rest_setGrp g _).trans (State.rest_of_core (State.core_aside.atEdge s t) g)
  have h1g : (s1.grp g).place = (.running, 0, [], x.startEntry, [], none, []) := by
    simp only [s1, State.grp_setGrp_same, Group.place]
    exact congrArg (fun l => (GState.running, 0, [], x.startEntry, [], none, l)) hr
  have h2 : s2.scene g = s1.scene g := by
    simp only [Group.place, Prod.mk.injEq] at h1g
    obtain ⟨-, -, -, he, ht, -⟩ := h1g
    exact State.tryStart_scene he ht t 0 swStart _
  have h3 : s3 = s2 := State.commitAt_idle ((congrArg (fun p => p.2.2.2.2.2.2) ((State.place_of_scene h2).trans h1g) :)) t _ _
  have h4 : s4.scene g = s1.scene g := (State.scene_setGrp (s := s3) (x := w) rfl).trans (h3 ▸ h2)
  have h5 : s5.scene g = s1.scene g :=
    State.same_ite (·.scene g) ((State.scene_bump s4 (by decide) g g).trans h4) h4
  have hb : ((s5.chansOf g).foldl (fun s c => s.chanBegin c) s5).scene g = s1.scene g := (State.chansBegin_scene s5 g _).trans h5
  have h6 : s6.scene g = s1.scene g :=
    (State.markUnderrun_scene (congrArg (fun p => p.2.2.2.2.1) ((State.place_of_scene hb).trans h1g) :) t).trans hb
  have hs : (s6.sineCheck (false && s6.hrmRunning)).scene g = s1.scene g := by
    rw [Bool.false_and, State.sineCheck_scene, h6]
  obtain ⟨p, hp, hpres⟩ :=
    State.present_zero (congrArg (fun p => p.2.2.2.2.1) ((State.place_of_scene hs).trans h1g) :) t absent
  have h7 : p.Presented s7 g t := hpres.leaderRecords
  have hplace := (State.place_of_scene (hp.trans hs)).trans h1g
  simp only [Group.place, Prod.mk.injEq] at hplace
  obtain ⟨hst, hn, ht, he, -, hc, -⟩ := hplace
  obtain ⟨hst', he', hc'⟩ := Group.place_of_still h7.still
  refine ⟨s7, hv.symm, h7.rest.trans ((State.rest_of_scene (hp.trans hs)).trans h1), hst'.trans hst, ?_, ?_, he'.trans he, hc'.trans hc⟩
  · rw [h7.n, hn]
  · rw [h7.times, ht]
    rfl

end Sys2Proof.Machine
end
section
/-!
PROOF. The reply of GROUP_START at the first sample, and the samples of a group as one statement.
-/
namespace Sys2Proof.Machine

/-- Deciding a reply changes no group and no entry. -/
theorem State.decide1_play (s : State) (r : CmdRef) (status : Nat) (result : List Word) (dev : Nat) :
    (s.decide1 r status result dev).groups = s.groups ∧ (s.decide1 r status result dev).tables = s.tables := by
  unfold State.decide1
  dsimp only
  split
  · exact ⟨rfl, rfl⟩
  · split <;> exact ⟨rfl, rfl⟩

/-- A reply that is decided in a state with the queues of another is a reply there. -/
theorem State.Replied.of_queues {p s v : State} {q k status : Nat} {result : List Word} (h : p.Replied v q k status result)
    (hq : p.queues = s.queues) (ha : p.ownAddr = s.ownAddr) : s.Replied v q k status result := by
  simpa only [State.Replied, State.q, hq, ha] using h

/-- A command that waits is answered where its queue and the broadcasts are as they were. -/
theorem State.finish_replied {s p : State} {q k g : Nat} (h : p.rest g = s.rest g) (hw : s.Waits q k) (status : Nat)
    (result : List Word) : s.Replied (p.finish ⟨q, k⟩ status result) q k status result ∧
      (p.finish ⟨q, k⟩ status result).groups = p.groups ∧ (p.finish ⟨q, k⟩ status result).tables = p.tables := by
  obtain ⟨c, hf, hphase, hreset, hb⟩ := hw
  have hback : p.backing = s.backing := congrArg Prod.fst h
  have hq : p.queues = s.queues := congrArg Backing.queues hback
  have hchn : p.chn = s.chn := congrArg Backing.chn hback
  have ha : p.ownAddr = s.ownAddr := congrArg (fun x => x.2.1) h
  have hpq : p.q q = s.q q := by simp only [State.q, hq]
  have heq : p.finish ⟨q, k⟩ status result = p.decide1 ⟨q, k⟩ status result p.ownAddr := State.finish_own (hchn ▸ hb) status result
  rw [heq]
  exact ⟨(State.decide1_replied (hpq ▸ hf) (by rw [hphase]; decide) (hpq ▸ hreset) status result).of_queues hq ha,
    p.decide1_play _ _ _ _⟩

/-- The first sample edge of a group: sample 0 is presented, and its GROUP_START answered with the edge's time (R131, R192). -/
theorem exec_firstSampleEdge_first {g : Fin 8} {t k : Nat} {q : Fin 10} {absent : Bool} {s : State} (hrst : s.mgt.rst = false)
    (h : s.firstEdge g t = true) (hr : (s.grp g).released = []) (hc : (s.grp g).startCmd = some ⟨q, k⟩) (hw : s.Waits q k) :
    ∃ v, exec (.firstSampleEdge g t absent none) s = .next v ∧ (v.grp g).st = .running ∧ (v.grp g).n = 1 ∧ (v.grp g).times = [t] ∧
      (v.grp g).entry = (s.grp g).startEntry ∧ (v.grp g).startCmd = none ∧ s.Replied v q k stOK (timeWords t) ∧
      (∀ h : Nat, h ≠ g.val → { v.grp h with turnRecs := (s.grp h).turnRecs } = s.grp h) ∧ v.tables = s.tables := by
  obtain ⟨p, heq, hrest, hst, hn, ht, he, hcmd⟩ := State.firstSample_presents h hr absent
  obtain ⟨hrep, hgroups, htables⟩ := State.finish_replied hrest hw stOK (timeWords t)
  have hexec : exec (.firstSampleEdge g t absent none) s = .next (p.finish ⟨q, k⟩ stOK (timeWords t)).slackRestart := by
    refine congrArg Host.Outcome.next ((s.onMain_out hrst _).trans ?_)
    have hzero : s.sampleZero g t absent none = s.firstSample g t absent false := by
      rw [State.sampleZero, if_pos h]
      rfl
    rw [hzero, heq, hc]
    rfl
  have hgrp : ∀ i, (p.finish ⟨q, k⟩ stOK (timeWords t)).slackRestart.grp i = p.grp i := State.grp_of_groups hgroups
  refine ⟨_, hexec, ?_, ?_, ?_, ?_, ?_, hrep, fun i hi => ?_, htables.trans (congrArg (fun x => x.1.tables) hrest)⟩
  · rw [hgrp, hst]
  · rw [hgrp, hn]
  · rw [hgrp, ht]
  · rw [hgrp, he]
  · rw [hgrp, hcmd]
  · rw [hgrp]
    exact State.grp_of_rest hrest hi

/-- Settles O37: each edge is first computed to the state it presents in, then what forming and presenting a sample leave alone says what of
the group, its channels and the rest is as the statement has it. -/
theorem samplesOfAGroup : Obligations.SamplesOfAGroup := by
  unfold Obligations.SamplesOfAGroup
  intro g t absent stale s
  exact ⟨fun _ _ => exec_firstSampleEdge_first, fun h => exec_firstSampleEdge_early h absent, fun _ _ _ => groupSample_inTime,
    fun _ _ => groupSample_absent, flitCheckFail_once, fun _ _ _ => flitCheckFail_twice, groupSample_ramps⟩

end Sys2Proof.Machine
end

section
/-!
PROOF. Packets and frames as bytes: what little-endian fields, words and slices lose of a list of bytes is nothing, so a packet that
passes the first checks and a frame of the management line are read as they were spelt (R29 to R31, R422).
-/
namespace Sys2Proof

/-! ### Little-endian bytes (R3) -/

@[simp] theorem leBytes_length (n v : Nat) : (leBytes n v).length = n := by
  induction n generalizing v with
  | zero => rfl
  | succ n ih => simp [leBytes, ih]

/-- The bytes of the number that bytes spell are those bytes. -/
theorem leBytes_ofLe (l : List Byte) : leBytes l.length (ofLe l) = l := by
  induction l with
  | nil => rfl
  | cons b t ih =>
    have hb : b.toNat < 256 := b.isLt
    have hlow : BitVec.ofNat 8 (b.toNat + 256 * ofLe t) = b := by
      apply BitVec.eq_of_toNat_eq
      rw [BitVec.toNat_ofNat]
      omega
    have hhigh : (b.toNat + 256 * ofLe t) / 256 = ofLe t := by omega
    rw [ofLe, List.length_cons, leBytes, hlow, hhigh, ih]

/-- The number that the bytes of a number spell, where they are enough for it. -/
theorem ofLe_leBytes {n v : Nat} (h : v < 256 ^ n) : ofLe (leBytes n v) = v := by
  induction n generalizing v with
  | zero => simpa [leBytes, ofLe] using (Nat.lt_one_iff.mp h).symm
  | succ n ih =>
    have hv : v / 256 < 256 ^ n := Nat.div_lt_of_lt_mul (by rwa [pow_succ'] at h)
    rw [leBytes, ofLe, ih hv, BitVec.toNat_ofNat]
    omega

theorem ofLe_lt (l : List Byte) : ofLe l < 256 ^ l.length := by
  induction l with
  | nil => simp [ofLe]
  | cons b t ih =>
    have hb : b.toNat < 256 := b.isLt
    rw [ofLe, List.length_cons, pow_succ']
    omega

/-- A slice within a list pads nothing. -/
theorem sliceB_within {l : List Byte} {o n : Nat} (h : o + n ≤ l.length) : sliceB l o n = (l.drop o).take n := by
  have hlen : ((l.drop o).take n).length = n := by simp; omega
  rw [sliceB, hlen, Nat.sub_self, List.replicate_zero, List.append_nil]

/-- A slice that starts behind the first part of a list and is as long as its second part is that part. -/
theorem sliceB_of_eq {l a m c : List Byte} {o n : Nat} (hl : l = a ++ (m ++ c)) (ho : o = a.length) (hn : n = m.length) :
    sliceB l o n = m := by
  subst hl ho hn
  rw [sliceB_within (by simp), List.drop_left, List.take_left]

/-- The bytes of the number in a slice within a list are the slice. -/
theorem leBytes_leAt {l : List Byte} {o n : Nat} (h : o + n ≤ l.length) : leBytes n (leAt l o n) = (l.drop o).take n := by
  have hlen : ((l.drop o).take n).length = n := by simp; omega
  rw [leAt, sliceB_within h]
  simpa only [hlen] using leBytes_ofLe ((l.drop o).take n)

/-- The field behind the first part of a list reads the number that was written there, where it fits. -/
theorem leAt_of_eq {l a c : List Byte} {o n v : Nat} (hl : l = a ++ (leBytes n v ++ c)) (ho : o = a.length) (hv : v < 256 ^ n) :
    leAt l o n = v := by
  rw [leAt, sliceB_of_eq hl ho (leBytes_length n v).symm, ofLe_leBytes hv]

/-- Words lose nothing of bytes in fours. -/
theorem bytesOf_wordsOf : ∀ {l : List Byte}, l.length % 4 = 0 → bytesOf (wordsOf l) = l
  | [], _ => rfl
  | [_], h | [_, _], h | [_, _, _], h => by simp at h
  | b0 :: b1 :: b2 :: b3 :: t, h => by
    have ht : t.length % 4 = 0 := by simp only [List.length_cons] at h; omega
    have hfit : ofLe [b0, b1, b2, b3] < 2 ^ 32 := by simpa using ofLe_lt [b0, b1, b2, b3]
    have hw : leBytes 4 (mkW (ofLe [b0, b1, b2, b3])).toNat = [b0, b1, b2, b3] := by
      rw [mkW, BitVec.toNat_ofNat, Nat.mod_eq_of_lt hfit]
      exact leBytes_ofLe [b0, b1, b2, b3]
    rw [wordsOf, bytesOf, List.flatMap_cons, hw, ← bytesOf, bytesOf_wordsOf ht]
    rfl

namespace Machine

/-! ### A packet that passes checks 1 to 4 (R38) -/

/-- What checks 1 and 2 say of a packet that passes them: whole words, a header and a CRC long, and the CRC is that of the rest. -/
theorem checks1to4_none {q len : Nat} {b : List Byte} (h : checks1to4 q len b = none) :
    len % 4 = 0 ∧ 20 ≤ len ∧ leAt b (len - 4) 4 = (crc32c (b.take (len - 4))).toNat := by
  simp only [checks1to4] at h
  split at h
  · cases h
  case isFalse hlen =>
    split at h
    · cases h
    case isFalse hcrc => exact ⟨by omega, by omega, not_not.mp hcrc⟩

/-- The header bytes and the payload words of a packet spell all of it but its CRC. -/
theorem hraw_append_payload {b : List Byte} (hmod : b.length % 4 = 0) (hlen : 20 ≤ b.length) (k ra rl : Nat) :
    (mkCmd k b ra rl).hraw ++ bytesOf (mkCmd k b ra rl).payload = b.take (b.length - 4) := by
  have hhead : sliceB b 0 16 = b.take 16 := by rw [sliceB_within (by omega), List.drop_zero]
  have hbody : ((b.drop 16).take (b.length - 20)).length % 4 = 0 := by simp; omega
  have hsum : b.length - 4 = 16 + (b.length - 20) := by omega
  change sliceB b 0 16 ++ bytesOf (wordsOf ((b.drop 16).take (b.length - 20))) = _
  rw [hhead, bytesOf_wordsOf hbody, hsum, List.take_add]

/-- A packet that passes checks 1 to 4 is spelt again by its command (R29 to R31). -/
theorem packet_mkCmd {q : Nat} {b : List Byte} (h : checks1to4 q b.length b = none) (k ra rl : Nat) :
    (mkCmd k b ra rl).packet = b := by
  obtain ⟨hmod, hlen, hcrc⟩ := checks1to4_none h
  have htail : leBytes 4 (leAt b (b.length - 4) 4) = b.drop (b.length - 4) := by
    rw [leBytes_leAt (by omega), List.take_of_length_le (by simp; omega)]
  rw [Cmd.packet, hraw_append_payload hmod hlen, ← hcrc, htail, List.take_append_drop]

/-! ### Frames of the management line (R422, R423) -/

/-- What the FCS of a frame covers: FTYPE, LEN and the body. -/
def frameBody (ftype : Nat) (b : List Byte) : List Byte := leBytes 1 ftype ++ leBytes 2 b.length ++ b

theorem frameBody_length (ftype : Nat) (b : List Byte) : (frameBody ftype b).length = 3 + b.length := by
  simp only [frameBody, List.length_append, leBytes_length]

/-- A frame in its parts: preamble and SFD, what the FCS covers, the FCS. -/
theorem mgtFrame_eq (ftype : Nat) (b : List Byte) :
    mgtFrame ftype b = [0x55, 0x55, 0x55, 0x55, 0xD5] ++ (frameBody ftype b ++ leBytes 4 (crc32c (frameBody ftype b)).toNat) :=
  rfl

theorem leAt_mgtFrame_ftype {ftype : Nat} (h : ftype < 256) (b : List Byte) : leAt (mgtFrame ftype b) 5 1 = ftype :=
  leAt_of_eq (a := [0x55, 0x55, 0x55, 0x55, 0xD5]) rfl rfl h

theorem leAt_mgtFrame_len (ftype : Nat) {b : List Byte} (h : b.length < 65536) : leAt (mgtFrame ftype b) 6 2 = b.length :=
  leAt_of_eq (a := [0x55, 0x55, 0x55, 0x55, 0xD5] ++ leBytes 1 ftype) rfl rfl h

theorem sliceB_mgtFrame_body (ftype : Nat) (b : List Byte) : sliceB (mgtFrame ftype b) 8 b.length = b :=
  sliceB_of_eq (a := [0x55, 0x55, 0x55, 0x55, 0xD5] ++ (leBytes 1 ftype ++ leBytes 2 b.length)) rfl rfl rfl

theorem sliceB_mgtFrame_checked (ftype : Nat) (b : List Byte) : sliceB (mgtFrame ftype b) 5 (3 + b.length) = frameBody ftype b :=
  sliceB_of_eq (mgtFrame_eq ftype b) rfl (frameBody_length ftype b).symm

theorem leAt_mgtFrame_fcs (ftype : Nat) (b : List Byte) :
    leAt (mgtFrame ftype b) (8 + b.length) 4 = (crc32c (frameBody ftype b)).toNat := by
  refine leAt_of_eq (a := [0x55, 0x55, 0x55, 0x55, 0xD5] ++ frameBody ftype b) (c := []) ?_ ?_ (crc32c _).isLt
  · rw [mgtFrame_eq, List.append_nil, List.append_assoc]
  · simp only [List.length_append, frameBody_length, List.length_cons, List.length_nil]
    omega

/-- A COMMAND frame around a body of 20 to 4,096 bytes is read as a COMMAND with that body. -/
theorem parseFrame_mgtFrame {b : List Byte} (hlo : 20 ≤ b.length) (hhi : b.length ≤ 4096) :
    parseFrame (mgtFrame 1 b) = some (1, b) := by
  have hlen : leAt (mgtFrame 1 b) 6 2 = b.length := leAt_mgtFrame_len 1 (by omega)
  have hftype : leAt (mgtFrame 1 b) 5 1 = 1 := leAt_mgtFrame_ftype (by omega) b
  have hsfd : (mgtFrame 1 b)[4]? = some 0xD5 := rfl
  have htotal : (mgtFrame 1 b).length = 12 + b.length := by
    simp only [mgtFrame_eq, List.length_append, frameBody_length, leBytes_length, List.length_cons, List.length_nil]
    omega
  simp [parseFrame, hlen, hftype, hsfd, htotal, hlo, hhi, leAt_mgtFrame_fcs, sliceB_mgtFrame_checked, sliceB_mgtFrame_body]

/-- Settles O7: words and little-endian fields lose nothing of a packet whose length and CRC are right, and each field of a frame stands
where the frame's parts put it. -/
theorem packetRoundTrip : Obligations.PacketRoundTrip :=
  ⟨fun _ k ra rl _ h => packet_mkCmd h k ra rl, fun _ => parseFrame_mgtFrame⟩

end Machine
end Sys2Proof
end

section
/-!
PROOF. A REG_READ whose place another command of its queue shares: beginning it begins the other too, so that a status register
changes between the state that the statement reads and the state that the command reads.
-/
namespace Sys2Proof.Machine

/-- A REG_READ of MEM_STATUS. -/
def readMemStatus : Cmd :=
  { k := 0, hdr := { opcode := 0x0201, version := 1, len := 2 }, hraw := [], payload := [mkW (RegId.off .MEM_STATUS 0 0), 1]
    replyAddr := 0, replyLen := 0, phase := .ready, holdsTag := true, reply := none }

/-- A MEM_TEST of bank set 2 in on-chip memory, at the place of `readMemStatus`. -/
def testAtItsPlace : Cmd :=
  { readMemStatus with hdr := { opcode := 0x0801, version := 1, len := 3 }, payload := [0x040101, 0, 8192] }

/-- Both commands wait on queue 2. -/
def sharedPlace : State := { State.reset with fwReady := true, queues := [(2, { inflight := [readMemStatus, testAtItsPlace] })] }

/-- The REG_READ is due. -/
theorem sharedPlace_runs : sharedPlace.Runs 2 0 0x0201 readMemStatus :=
  ⟨rfl, rfl, rfl, rfl, by decide +kernel, by decide +kernel, rfl, by decide +kernel, .inr (.inr (.inl rfl)), .inl rfl,
    fun _ hb => by cases hb⟩

/-- MEM_STATUS as the state has it: no test is under way. -/
theorem sharedPlace_reads : (sharedPlace.readRegs 1 (RegId.off .MEM_STATUS 0 0) 1).1 = [0] := by decide +kernel

/-- MEM_STATUS as the command answers it: TEST_BUSY, bit 3, is set by the MEM_TEST that began with it. -/
theorem sharedPlace_answers : (sharedPlace.regRead 2 0).replyOf 2 0 = some ⟨stOK, stOK, 0, [8]⟩ := by decide +kernel

/-- Refutes O15: with two commands at one place of a queue, REG_READ begins both, and it answers TEST_BUSY of MEM_STATUS as 1 where the
read of the state before it gives 0. No run reaches such a state, since PACKET_FETCH gives every packet a place of its own (R39); the
statement has no hypothesis that says so. -/
theorem not_registerReads : ¬ Obligations.RegisterReads := by
  intro h
  obtain ⟨-, -, -, hread⟩ := h
  obtain ⟨t, hexec, ⟨hreply, -⟩, -⟩ := (hread 2 0 readMemStatus sharedPlace sharedPlace_runs).1
    (by decide +kernel) (by decide +kernel) (by decide +kernel) (by decide +kernel)
  have ht : t = sharedPlace.regRead 2 0 := (Host.Outcome.next.inj hexec).symm
  have hoff : (wAt readMemStatus.payload 0).toNat = RegId.off .MEM_STATUS 0 0 := by decide +kernel
  have hn : (wAt readMemStatus.payload 1).toNat = 1 := rfl
  rw [ht, hoff, hn, show 1 + readMemStatus.hdr.queue = 1 from rfl] at hreply
  change (sharedPlace.regRead 2 0).replyOf 2 0 = _ at hreply
  rw [sharedPlace_answers, sharedPlace_reads] at hreply
  revert hreply
  decide +kernel

end Sys2Proof.Machine
end

section
/-!
PROOF. A function-level reset of queues on which nothing has begun, and the training of the host link (R63, R65).
-/
namespace Sys2Proof.Machine

/-- A queue reset of a queue on which no command has begun drops every command and withdraws none (R64). -/
theorem State.queueReset_unbegun {s : State} {q : Nat} (h : ∀ c ∈ (s.q q).inflight, c.phase ≠ .begun) :
    s.queueReset q = s.setQ q { s.q q with resetting := true, en := false, inflight := [] } := by
  have hnone : (s.q q).inflight.filter (fun c => decide (c.phase = .begun)) = [] := by simpa using h
  simp only [State.queueReset, hnone, List.foldl_nil]

/-- What a function-level reset makes of one host queue: its registers take their reset values and RESETTING holds. -/
def State.resetHostQueue (s : State) (q : Nat) : State :=
  (s.queueReset q).setQ q { nextK := ((s.queueReset q).q q).nextK, inflight := ((s.queueReset q).q q).inflight, resetting := true }

theorem State.flr_eq (s : State) : s.flr =
    ({ (if (List.range 8).any (fun q => (s.q q).en) then ((List.range 8).foldl State.resetHostQueue s).slackRestart
        else (List.range 8).foldl State.resetHostQueue s) with msix := [], msixPend := [], pci := {} }).bump .HST_CNT_FLR := rfl

theorem State.resetHostQueue_unbegun {s : State} {q : Nat} (h : ∀ c ∈ (s.q q).inflight, c.phase ≠ .begun) :
    (s.resetHostQueue q).q q = { nextK := (s.q q).nextK, resetting := true } ∧
      (∀ j, j ≠ q → (s.resetHostQueue q).q j = s.q j) ∧ ∃ m, s.resetHostQueue q = { s with queues := m } := by
  simp only [State.resetHostQueue, State.queueReset_unbegun h, State.q_setQ_same]
  exact ⟨trivial, fun j hj => (State.q_setQ_ne _ _ hj).trans (State.q_setQ_ne _ _ hj), _, rfl⟩

/-- Resetting host queues on which nothing has begun, each once: those are reset, the others stay, and nothing else changes. -/
theorem State.resetHostQueues_unbegun {l : List Nat} (hl : l.Nodup) {s : State}
    (h : ∀ q ∈ l, ∀ c ∈ (s.q q).inflight, c.phase ≠ .begun) :
    (∀ q ∈ l, (l.foldl State.resetHostQueue s).q q = { nextK := (s.q q).nextK, resetting := true }) ∧
      (∀ q, q ∉ l → (l.foldl State.resetHostQueue s).q q = s.q q) ∧
      ∃ m, l.foldl State.resetHostQueue s = { s with queues := m } := by
  induction l generalizing s with
  | nil => exact ⟨by simp, fun _ _ => rfl, s.queues, rfl⟩
  | cons a l ih =>
    obtain ⟨ha, hl⟩ := List.nodup_cons.mp hl
    obtain ⟨hreset, hother, m, hm⟩ := State.resetHostQueue_unbegun (h a List.mem_cons_self)
    have hne : ∀ q ∈ l, q ≠ a := fun q hq e => ha (e ▸ hq)
    obtain ⟨ihreset, ihother, n, hn⟩ := ih hl (s := s.resetHostQueue a) fun q hq c hc =>
      h q (List.mem_cons_of_mem a hq) c (hother q (hne q hq) ▸ hc)
    refine ⟨fun q hq => ?_, fun q hq => ?_, ?_⟩
    · rcases List.mem_cons.mp hq with rfl | hq
      · exact (ihother q ha).trans hreset
      · exact (ihreset q hq).trans (by rw [hother q (hne q hq)])
    · obtain ⟨hqa, hql⟩ := List.ne_and_not_mem_of_not_mem_cons hq
      exact (ihother q hql).trans (hother q hqa)
    · exact ⟨n, hn.trans (by rw [hm])⟩

/-- FUNCTION_LEVEL_RESET where no command of a host queue has begun (R65). -/
theorem State.flr_unbegun {s : State} (h : ∀ q : Fin 8, ∀ c ∈ (s.q q).inflight, c.phase ≠ .begun) :
    (∀ q : Fin 8, s.flr.q q = { nextK := (s.q q).nextK, resetting := true }) ∧ s.flr.q 8 = s.q 8 ∧ s.flr.q 9 = s.q 9 ∧
      s.flr.msix = [] ∧ s.flr.msixPend = [] ∧ s.flr.pci = {} ∧ s.flr.rd .HST_CNT_FLR = satInc (s.rd .HST_CNT_FLR) ∧
      KMap.agreeBut s.regs s.flr.regs [RegId.off .HST_CNT_FLR 0 0, RegId.off .SYS_SLACK 0 0] ∧
      { s.flr with queues := s.queues, regs := s.regs, msix := s.msix, msixPend := s.msixPend, pci := s.pci,
                   slackFrom := s.slackFrom } = s := by
  obtain ⟨hreset, hother, m, hm⟩ := State.resetHostQueues_unbegun List.nodup_range fun q hq => h ⟨q, List.mem_range.mp hq⟩
  rw [State.flr_eq]
  generalize (List.range 8).foldl State.resetHostQueue s = r at hreset hother hm
  have hslack : (RegId.off .HST_CNT_FLR 0 0) ≠ RegId.off .SYS_SLACK 0 0 := by decide +kernel
  obtain ⟨regs, from_, hu, hcount, hregs⟩ : ∃ regs from_,
      (if (List.range 8).any (fun q => (s.q q).en) then r.slackRestart else r) = { r with regs := regs, slackFrom := from_ } ∧
        KMap.getD regs (RegId.off .HST_CNT_FLR 0 0) (RegId.resetAt .HST_CNT_FLR 0 0) = s.rd .HST_CNT_FLR ∧
        KMap.agreeBut s.regs regs [RegId.off .SYS_SLACK 0 0] := by
    subst hm
    split
    · exact ⟨_, _, rfl, KMap.getD_put_ne _ _ _ _ hslack, fun _ ho => KMap.find?_put_ne _ _ _ (by simpa using ho)⟩
    · exact ⟨_, _, rfl, rfl, fun _ _ => rfl⟩
  rw [hu]
  refine ⟨fun q => hreset q (List.mem_range.mpr q.isLt), hother 8 (by decide), hother 9 (by decide), rfl, rfl, rfl, ?_, ?_, ?_⟩
  · exact (State.rd_wr_same _ _ _ _ _).trans (congrArg satInc hcount)
  · intro off ho
    simp only [List.mem_cons, List.not_mem_nil, or_false, not_or] at ho
    exact (KMap.find?_put_ne _ _ _ ho.1).trans (hregs off (by simpa using ho.2))
  · subst hm
    rfl

/-- Training the host link: its speed, width and state, and a training below x4 or 16 GT/s counts (R63). -/
theorem State.hostLink_up (s : State) (speed width : Nat) : (s.hostLink true speed width).link = ⟨speed, width, true⟩ ∧
    (s.hostLink true speed width).rd .HST_CNT_DOWNTRAIN =
      (if width < 4 ∨ speed < 4 then satInc (s.rd .HST_CNT_DOWNTRAIN) else s.rd .HST_CNT_DOWNTRAIN) ∧
    KMap.agreeBut s.regs (s.hostLink true speed width).regs [RegId.off .HST_CNT_DOWNTRAIN 0 0] ∧
    { s.hostLink true speed width with link := s.link, regs := s.regs } = s := by
  simp only [State.hostLink, if_true]
  split
  · exact ⟨rfl, State.rd_wr_same _ _ _ _ _, fun _ ho => KMap.find?_put_ne _ _ _ (by simpa using ho), rfl⟩
  · exact ⟨rfl, rfl, fun _ _ => rfl, rfl⟩

/-- Settles O13: a reset of queues on which nothing has begun withdraws no command, so each queue is reset by itself. -/
theorem hostLinkAndReset : Obligations.HostLinkAndReset := by
  intro s hrst
  refine ⟨fun h => ⟨s.flr, congrArg Host.Outcome.next (s.onMain_out hrst _), State.flr_unbegun h⟩, fun speed width => ?_⟩
  obtain ⟨hlink, hcount, hregs, hrest⟩ := s.hostLink_up speed width
  exact ⟨_, _, congrArg Host.Outcome.next (s.onMain_out hrst _), hlink, hcount, hregs, hrest,
    congrArg Host.Outcome.next (s.onMain_out hrst _), rfl⟩

end Sys2Proof.Machine
end

section
/-!
PROOF. Places of a queue: what changing the command at one place of a queue leaves alone, and what deciding its reply does to its queue.
-/
namespace Sys2Proof.Machine

/-! ### One place of a queue -/

/-- Two writes of one key are the later. -/
theorem KMap.insert_insert {α : Type} (m : KMap α) (k : Nat) (a b : α) : KMap.insert (KMap.insert m k a) k b = KMap.insert m k b := by
  induction m with
  | nil => simp [KMap.insert]
  | cons p t ih =>
    obtain ⟨c, d⟩ := p
    rcases Nat.lt_trichotomy k c with h | h | h
    · simp [KMap.insert, h]
    · simp [KMap.insert, h]
    · have h1 : ¬ k < c := by omega
      have h2 : k ≠ c := by omega
      simp [KMap.insert, h1, h2, ih]

theorem State.setQ_setQ (s : State) (q : Nat) (x y : Queue) : (s.setQ q x).setQ q y = s.setQ q y := by
  simp only [State.setQ, KMap.insert_insert]

theorem State.setQ_modQ (s : State) (q : Nat) (x : Queue) (f : Queue → Queue) : (s.setQ q x).modQ q f = s.setQ q (f x) := by
  rw [State.modQ, State.q_setQ_same, State.setQ_setQ]

theorem State.setQ_agreeBut (s : State) (q : Nat) (x : Queue) : KMap.agreeBut s.queues (s.setQ q x).queues [q] :=
  fun _ hj => KMap.find?_insert_ne _ _ (by simpa using hj)

/-- The command found at a place stands there. -/
theorem Queue.find_k {x : Queue} {k : Nat} {c : Cmd} (h : x.find k = some c) : c.k = k := by
  simpa using List.find?_some h

/-- A queue whose command at one place may have changed, its windows, skip states and counters with it. -/
structure Queue.SameBut (x y : Queue) (k : Nat) : Prop where
  ring : { y with inflight := x.inflight, window := x.window, skipClasses := x.skipClasses, skipAll := x.skipAll, cntCrc := x.cntCrc
                  cntDup := x.cntDup, cntSkip := x.cntSkip, cntTimeout := x.cntTimeout } = x
  length : y.inflight.length = x.inflight.length
  find : ∀ j, j ≠ k → y.find j = x.find j

/-- Changing the command at a place, by a change that leaves places alone, touches no other place. -/
theorem Queue.SameBut.of_upd {x y : Queue} {k : Nat} {h : Cmd → Cmd} (hk : ∀ c, (h c).k = c.k) (hi : y.inflight = (x.upd k h).inflight)
    (hr : { y with inflight := x.inflight, window := x.window, skipClasses := x.skipClasses, skipAll := x.skipAll, cntCrc := x.cntCrc
                   cntDup := x.cntDup, cntSkip := x.cntSkip, cntTimeout := x.cntTimeout } = x) : x.SameBut y k where
  ring := hr
  length := by rw [hi, Queue.upd, List.length_map]
  find j hj := by
    rw [Queue.find, hi]
    exact Queue.find_upd_ne hk hj

/-- Replacing the command at its own place by one at the same place is a change that leaves places alone. -/
theorem Queue.upd_const (x : Queue) (c : Cmd) : (x.upd c.k fun _ => c) = x.upd c.k fun y => { c with k := y.k } := by
  simp only [Queue.upd]
  congr 1
  refine List.map_congr_left fun y _ => ?_
  split
  case isTrue h => rw [h]
  case isFalse => rfl

theorem Queue.find_upd_const {x : Queue} {k : Nat} {c d : Cmd} (hf : x.find k = some d) (hk : c.k = k) :
    (x.upd k fun _ => c).find k = some c := by
  subst hk
  rw [Queue.upd_const, Queue.find_upd_same (h := fun y => { c with k := y.k }) (fun _ => rfl) hf, Queue.find_k hf]

/-! ### The reply of a command, decided on its queue -/

/-- Deciding the reply of a command in flight on a queue that is not in reset changes its queue alone: there the command is done, and of
the rest only windows, skip states and counters may change (R37, R42, R43). -/
theorem State.decide1_setQ {s : State} {q k : Nat} {c : Cmd} (hf : (s.q q).find k = some c) (hp : c.phase ≠ .done)
    (hr : (s.q q).resetting = false) (status : Nat) (result : List Word) (dev : Nat) : ∃ y : Queue,
      s.decide1 ⟨q, k⟩ status result dev = s.setQ q y ∧ (s.q q).SameBut y k ∧
      y.find k = some { c with phase := .done, reply := some ⟨status, status, dev, result⟩ } := by
  obtain ⟨y, hy, hi, hring⟩ : ∃ y : Queue, s.decide1 ⟨q, k⟩ status result dev = s.setQ q y ∧
      y.inflight = ((s.q q).upd k fun z => { z with phase := .done, reply := some ⟨status, status, dev, result⟩ }).inflight ∧
      { y with inflight := (s.q q).inflight, window := (s.q q).window, skipClasses := (s.q q).skipClasses, skipAll := (s.q q).skipAll
               cntCrc := (s.q q).cntCrc, cntDup := (s.q q).cntDup, cntSkip := (s.q q).cntSkip, cntTimeout := (s.q q).cntTimeout } =
        s.q q := by
    simp only [State.decide1, hf, hp, hr, if_false, Bool.false_eq_true]
    refine ⟨_, rfl, ?_, ?_⟩
    · simp only [apply_ite Queue.inflight, Queue.startSkip_inflight, ite_self]
    · simp only [Queue.startSkip]
      split_ifs <;> rfl
  refine ⟨y, hy, .of_upd (h := fun z => { z with phase := .done, reply := some ⟨status, status, dev, result⟩ }) (fun _ => rfl) hi hring, ?_⟩
  rw [Queue.find, hi]
  exact Queue.find_upd_same (fun _ => rfl) hf

/-- The reply of a command that is done. -/
theorem State.replyOf_done {s : State} {q k : Nat} {c : Cmd} {r : Reply} (h : (s.q q).find k = some c) (hp : c.phase = .done)
    (hr : c.reply = some r) : s.replyOf q k = some r := by
  simp [State.replyOf, h, hp, hr]

/-! ### Check 5 and what follows it (R38, R46) -/

theorem State.acceptFrom5_window {s : State} {q : Nat} {c : Cmd} {e : WinEntry}
    (h : ((s.q q).window.find? fun e => e.seq = c.hdr.seq) = some e) : s.acceptFrom5 q c = s.answerDup q c e.reply := by
  simp only [State.acceptFrom5, h]

theorem State.acceptFrom5_original {s : State} {q : Nat} {c : Cmd} (h : ((s.q q).window.find? fun e => e.seq = c.hdr.seq) = none)
    (ho : (s.q q).original c = true) : s.acceptFrom5 q c = s.setQ q ((s.q q).upd c.k fun y => { y with phase := .dupWait }) := by
  simp only [State.acceptFrom5, h, ho, if_true]

theorem State.acceptFrom5_new {s : State} {q : Nat} {c : Cmd} (h : ((s.q q).window.find? fun e => e.seq = c.hdr.seq) = none)
    (ho : (s.q q).original c = false) : s.acceptFrom5 q c = s.acceptRest q c := by
  simp only [State.acceptFrom5, h, ho, Bool.false_eq_true, if_false]

/-- A packet that passes checks 6 to 9 waits at its place. -/
theorem State.acceptRest_pass {s : State} {q : Nat} {c : Cmd} {holds : Bool} (h : (s.q q).checks6to9 c = (none, holds)) :
    s.acceptRest q c = s.setQ q ((s.q q).upd c.k fun _ => { c with phase := .ready, holdsTag := holds }) := by
  simp only [State.acceptRest, h]

/-- One that fails one of them is answered with that check's status. -/
theorem State.acceptRest_fail {s : State} {q : Nat} {c : Cmd} {st : Nat} {holds : Bool} (h : (s.q q).checks6to9 c = (some st, holds)) :
    s.acceptRest q c = (s.setQ q ((s.q q).upd c.k fun _ => { c with phase := .ready, holdsTag := holds })).decide1 ⟨q, c.k⟩ st []
      s.ownAddr := by
  simp only [State.acceptRest, h]

/-- What replacing the command at its place by one at the same place does to the queue. -/
theorem Queue.SameBut.of_const (x : Queue) (c : Cmd) : x.SameBut (x.upd c.k fun _ => c) c.k := by
  rw [Queue.upd_const]
  exact .of_upd (h := fun y => { c with k := y.k }) (fun _ => rfl) rfl rfl

theorem Queue.SameBut.trans {x y z : Queue} {k : Nat} (h : x.SameBut y k) (h' : y.SameBut z k) : x.SameBut z k where
  ring := by
    rw [← h.ring, ← h'.ring]
  length := h'.length.trans h.length
  find j hj := (h'.find j hj).trans (h.find j hj)

end Sys2Proof.Machine
end

section
/-!
PROOF. A fetched packet: reading the ring, the packet's place in its queue, and what the acceptance checks make of it (R38 to R46).
-/
namespace Sys2Proof.Machine

/-- The reads of host memory that fetch a packet (R56). -/
def State.readRing (s : State) (q : Nat) (e : RingEntry) : State :=
  (s.put (.hostRead (s.q q).entryAddr 32)).put (.hostRead e.packetAddr e.len)

/-- The queue that has fetched a packet as a command: the head has advanced, and the command has the next place. -/
def Queue.fetched (x : Queue) (c : Cmd) : Queue :=
  { x with sqHead := (x.sqHead + 1) % x.size, nextK := x.nextK + 1, inflight := x.inflight ++ [c] }

/-! ### The place of a fetched packet -/

/-- The next place of a queue whose commands stand below it is free. -/
theorem Queue.find_nextK {x : Queue} (h : x.inflight.all (fun d => decide (d.k < x.nextK)) = true) : x.find x.nextK = none := by
  simp only [List.all_eq_true, decide_eq_true_eq] at h
  simp only [Queue.find, List.find?_eq_none, decide_eq_true_eq]
  exact fun d hd => (h d hd).ne

theorem Queue.find_fetched_same {x : Queue} (h : x.inflight.all (fun d => decide (d.k < x.nextK)) = true) {c : Cmd}
    (hk : c.k = x.nextK) : (x.fetched c).find x.nextK = some c := by
  have hnone : x.inflight.find? (fun d => decide (d.k = x.nextK)) = none := Queue.find_nextK h
  simp [Queue.find, Queue.fetched, List.find?_append, hnone, hk]

theorem Queue.find_fetched_ne {x : Queue} {c : Cmd} {j : Nat} (hj : j ≠ c.k) : (x.fetched c).find j = x.find j := by
  simp [Queue.find, Queue.fetched, List.find?_append, hj.symm]

/-- What has changed once a queue has fetched a packet and the packet's own place, windows, skip states and counters have changed. -/
theorem State.readRing_setQ (s : State) (q : Nat) (e : RingEntry) {c : Cmd} {y : Queue} (hk : c.k = (s.q q).nextK)
    (h : ((s.q q).fetched c).SameBut y c.k) : let t := (s.readRing q e).setQ q y
    t.sent = .hostRead e.packetAddr e.len :: .hostRead (s.q q).entryAddr 32 :: s.sent ∧
      (t.q q).sqHead = ((s.q q).sqHead + 1) % (s.q q).size ∧ (t.q q).nextK = (s.q q).nextK + 1 ∧
      (t.q q).inflight.length = (s.q q).inflight.length + 1 ∧ (∀ j, j ≠ (s.q q).nextK → (t.q q).find j = (s.q q).find j) ∧
      KMap.agreeBut s.queues t.queues [q] ∧ { t with queues := s.queues, sent := s.sent } = s := by
  dsimp only
  rw [State.q_setQ_same]
  refine ⟨rfl, congrArg Queue.sqHead h.ring, congrArg Queue.nextK h.ring, ?_, fun j hj => ?_, State.setQ_agreeBut (s.readRing q e) q y, rfl⟩
  · rw [h.length, Queue.fetched, List.length_append]
    rfl
  · exact (h.find j (hk ▸ hj)).trans (Queue.find_fetched_ne (hk ▸ hj))

/-! ### What PACKET_FETCH runs -/

theorem State.packetFetch_idle {s : State} {q : Nat} (h : s.mayFetch q = false) (entry packet : List Byte) :
    s.packetFetch q entry packet = s := by
  simp only [State.packetFetch, h, Bool.false_eq_true, if_false]

/-- The command that a packet at a place becomes: one shorter than its header leaves none (R38). -/
def fetchedCmd (q k len : Nat) (b : List Byte) (replyAddr replyLen : Nat) : Cmd :=
  if len < 16 then { mkCmd k b replyAddr replyLen with hraw := [], hdr := { queue := q } } else mkCmd k b replyAddr replyLen

theorem fetchedCmd_k (q k len : Nat) (b : List Byte) (replyAddr replyLen : Nat) : (fetchedCmd q k len b replyAddr replyLen).k = k := by
  unfold fetchedCmd
  split <;> rfl

section
variable {s : State} {q : Nat} {entry packet : List Byte} {e : RingEntry} {b : List Byte} (h : s.mayFetch q = true)
  (he : e = ringEntry entry) (hb : b = padTo e.len (packet.take e.len))
include h he hb

/-- A packet that fails one of checks 1 to 4 takes the next place, answered with that check's status; CRC_FAIL begins the skip state of
every class and counts (R38, R43). -/
theorem State.packetFetch_refused {st : Nat} (hst : checks1to4 q e.len b = some st) :
    s.packetFetch q entry packet = (s.readRing q e).setQ q { (s.q q).fetched { fetchedCmd q (s.q q).nextK e.len b e.replyAddr e.replyLen with
        phase := .done, reply := some ⟨st, st, s.ownAddr, []⟩ } with
      skipAll := if st = stCrcFail then some (min (s.q q).nextK ((s.q q).skipAll.getD (s.q q).nextK)) else (s.q q).skipAll
      cntCrc := if st = stCrcFail then satInc (s.q q).cntCrc else (s.q q).cntCrc } := by
  subst he hb
  simp only [State.packetFetch, h, if_true, State.accept, State.modQ, State.q_setQ_same, State.setQ_setQ, hst]
  split <;> rfl

/-- A packet that passes checks 1 to 4 takes the next place and goes through check 5 there. -/
theorem State.packetFetch_judged (hok : checks1to4 q e.len b = none) :
    s.packetFetch q entry packet =
      ((s.readRing q e).setQ q ((s.q q).fetched (mkCmd (s.q q).nextK b e.replyAddr e.replyLen))).acceptFrom5 q
        (mkCmd (s.q q).nextK b e.replyAddr e.replyLen) := by
  have hlong : ¬ e.len < 16 := by
    obtain ⟨-, hlen, -⟩ := checks1to4_none hok
    omega
  subst he hb
  simp only [State.packetFetch, h, if_true, State.accept, State.modQ, State.q_setQ_same, State.setQ_setQ, hok, hlong, if_false]
  rfl

end

/-! ### Check 5 and checks 6 to 9 at the next place -/

/-- The next place has no original behind it. -/
theorem Queue.original_fetched (x : Queue) (c : Cmd) : (x.fetched c).original c = x.original c := by
  simp [Queue.original, Queue.fetched]

/-- Checks 6 to 9 look at the commands and the skip states of a queue. -/
theorem Queue.checks6to9_fetched (x : Queue) (c d : Cmd) :
    (x.fetched c).checks6to9 d = ({ x with inflight := x.inflight ++ [c] } : Queue).checks6to9 d := rfl

/-- A command that goes through checks 6 to 9 at its place changes its queue alone: it waits there, or is answered with the status of the
check that fails (R38). -/
theorem State.acceptRest_place {s : State} {q : Nat} {k : Nat} {c : Cmd} (hf : (s.q q).find k = some c)
    (hr : (s.q q).resetting = false) : ∃ y : Queue, s.acceptRest q c = s.setQ q y ∧ (s.q q).SameBut y k ∧
      ((s.q q).checks6to9 c = (none, true) → y.find k = some { c with phase := .ready, holdsTag := true }) ∧
      (∀ st h, (s.q q).checks6to9 c = (some st, h) → y.find k =
        some { c with phase := .done, holdsTag := h, reply := some ⟨st, st, s.ownAddr, []⟩ }) := by
  obtain rfl := Queue.find_k hf
  obtain ⟨st, holds, hc⟩ : ∃ st holds, (s.q q).checks6to9 c = (st, holds) := ⟨_, _, rfl⟩
  have hsame : (s.q q).SameBut ((s.q q).upd c.k fun _ => { c with phase := .ready, holdsTag := holds }) c.k :=
    .of_const (s.q q) { c with phase := .ready, holdsTag := holds }
  have hplace : ((s.q q).upd c.k fun _ => { c with phase := .ready, holdsTag := holds }).find c.k =
      some { c with phase := .ready, holdsTag := holds } := Queue.find_upd_const hf rfl
  cases st with
  | none =>
    refine ⟨_, State.acceptRest_pass hc, hsame, fun hpass => ?_, fun _ _ hfail => ?_⟩
    · obtain rfl : holds = true := congrArg Prod.snd (hc.symm.trans hpass)
      exact hplace
    · exact nomatch hc.symm.trans hfail
  | some st =>
    rw [State.acceptRest_fail hc]
    generalize ((s.q q).upd c.k fun _ => { c with phase := .ready, holdsTag := holds }) = x at hsame hplace
    obtain ⟨y, hy, hdecided, hdone⟩ := State.decide1_setQ (s := s.setQ q x) (q := q)
      (by rw [State.q_setQ_same]; exact hplace) (by decide : Phase.ready ≠ .done)
      (by rw [State.q_setQ_same]; exact (congrArg Queue.resetting hsame.ring).trans hr) st [] s.ownAddr
    rw [State.q_setQ_same] at hdecided
    refine ⟨y, hy.trans (State.setQ_setQ _ _ _ _), hsame.trans hdecided, fun hpass => ?_, fun _ _ hfail => ?_⟩
    · exact nomatch hc.symm.trans hpass
    · obtain ⟨hst, rfl⟩ := Prod.mk.inj (hc.symm.trans hfail)
      obtain rfl := Option.some.inj hst
      exact hdone

/-- A command that goes through check 5 at its place changes its queue alone. A number that the window holds is answered with OK_DUPLICATE
and counted, one in flight waits, and any other command goes on to checks 6 to 9 (R38, R46). -/
theorem State.acceptFrom5_place {s : State} {q : Nat} {k : Nat} {c : Cmd} (hf : (s.q q).find k = some c)
    (hr : (s.q q).resetting = false) : ∃ y : Queue, s.acceptFrom5 q c = s.setQ q y ∧ (s.q q).SameBut y k ∧
      (∀ w, ((s.q q).window.find? fun w => w.seq = c.hdr.seq) = some w →
        y.find k = some { c with phase := .done, reply := some { w.reply with status := stDuplicate } } ∧
          y.cntDup = satInc (s.q q).cntDup) ∧
      (((s.q q).window.find? fun w => w.seq = c.hdr.seq) = none →
        ((s.q q).original c = true → y.find k = some { c with phase := .dupWait }) ∧
        ((s.q q).original c = false →
          ((s.q q).checks6to9 c = (none, true) → y.find k = some { c with phase := .ready, holdsTag := true }) ∧
          (∀ st h, (s.q q).checks6to9 c = (some st, h) → y.find k =
            some { c with phase := .done, holdsTag := h, reply := some ⟨st, st, s.ownAddr, []⟩ }))) := by
  obtain rfl := Queue.find_k hf
  cases hw : (s.q q).window.find? fun w => w.seq = c.hdr.seq with
  | some w =>
    refine ⟨_, State.acceptFrom5_window hw, .of_upd (h := fun y => { y with phase := .done, reply := some { w.reply with status := stDuplicate } })
      (fun _ => rfl) rfl rfl, fun w' hw' => ?_, nofun⟩
    obtain rfl := Option.some.inj hw'
    exact ⟨Queue.find_upd_same (fun _ => rfl) hf, rfl⟩
  | none =>
    cases ho : (s.q q).original c with
    | true =>
      exact ⟨_, State.acceptFrom5_original hw ho, .of_upd (h := fun y => { y with phase := .dupWait }) (fun _ => rfl) rfl rfl, nofun,
        fun _ => ⟨fun _ => Queue.find_upd_same (fun _ => rfl) hf, nofun⟩⟩
    | false =>
      obtain ⟨y, hy, hsame, hpass, hfail⟩ := State.acceptRest_place hf hr
      exact ⟨y, (State.acceptFrom5_new hw ho).trans hy, hsame, nofun, fun _ => ⟨nofun, fun _ => ⟨hpass, hfail⟩⟩⟩

/-- A refused packet is done at the next place of its queue (R38, R43). -/
theorem State.packetFetch_refused_place {s : State} {q st : Nat} {entry packet b : List Byte} {e : RingEntry} (h : s.mayFetch q = true)
    (hfresh : (s.q q).inflight.all (fun d => decide (d.k < (s.q q).nextK)) = true) (he : e = ringEntry entry)
    (hb : b = padTo e.len (packet.take e.len)) (hst : checks1to4 q e.len b = some st) : ∃ (c : Cmd) (y : Queue),
      s.packetFetch q entry packet = (s.readRing q e).setQ q y ∧ c.k = (s.q q).nextK ∧ ((s.q q).fetched c).SameBut y c.k ∧
      y.find (s.q q).nextK = some { c with phase := .done, reply := some ⟨st, st, s.ownAddr, []⟩ } ∧
      y.skipAll = (if st = stCrcFail then some (min (s.q q).nextK ((s.q q).skipAll.getD (s.q q).nextK)) else (s.q q).skipAll) ∧
      y.cntCrc = if st = stCrcFail then satInc (s.q q).cntCrc else (s.q q).cntCrc := by
  have hk := fetchedCmd_k q (s.q q).nextK e.len b e.replyAddr e.replyLen
  refine ⟨{ fetchedCmd q (s.q q).nextK e.len b e.replyAddr e.replyLen with phase := .done, reply := some ⟨st, st, s.ownAddr, []⟩ }, _,
    State.packetFetch_refused h he hb hst, hk, ⟨rfl, rfl, fun _ _ => rfl⟩, ?_, rfl, rfl⟩
  exact Queue.find_fetched_same hfresh hk

theorem State.resetting_of_mayFetch {s : State} {q : Nat} (h : s.mayFetch q = true) : (s.q q).resetting = false := by
  simp only [State.mayFetch, Bool.and_eq_true, Bool.not_eq_true'] at h
  exact h.1.1.2

/-- Settles O10: a refused packet is done at its place, and any other goes through check 5 and what follows it there. -/
theorem packetFetched : Obligations.PacketFetched := by
  intro q entry packet s hrst
  have hexec : exec (.packetFetch q entry packet) s = .next (s.packetFetch q entry packet) :=
    congrArg Host.Outcome.next (s.onMain_out hrst _)
  refine ⟨fun hidle => by rw [hexec, State.packetFetch_idle hidle], fun hfetch hfresh => ?_⟩
  dsimp only
  obtain ⟨e, he⟩ : ∃ e, e = ringEntry entry := ⟨_, rfl⟩
  obtain ⟨b, hb⟩ : ∃ b, b = padTo e.len (packet.take e.len) := ⟨_, rfl⟩
  rw [hexec, ← he, ← hb]
  cases hst : checks1to4 q e.len b with
  | some st =>
    obtain ⟨c, y, hy, hk, hsame, hfind, hskip, hcrc⟩ := State.packetFetch_refused_place hfetch hfresh he hb hst
    rw [hy]
    obtain ⟨hsent, hhead, hnext, hlen, hothers, hqueues, hrest⟩ := s.readRing_setQ q e hk hsame
    rw [← State.q_setQ_same (s.readRing q e) q y] at hfind hskip hcrc
    refine ⟨_, rfl, hsent, hhead, hnext, hlen, hothers, hqueues, hrest, fun st' hst' => ?_, nofun⟩
    obtain rfl := Option.some.inj hst'
    exact ⟨State.replyOf_done hfind rfl rfl, hskip, hcrc⟩
  | none =>
    rw [State.packetFetch_judged hfetch he hb hst]
    obtain ⟨c, hc⟩ : ∃ c, c = mkCmd (s.q q).nextK b e.replyAddr e.replyLen := ⟨_, rfl⟩
    have hk : c.k = (s.q q).nextK := congrArg Cmd.k hc
    rw [← hc]
    obtain ⟨y, hy, hsame, hwindow, hnew⟩ := State.acceptFrom5_place (s := (s.readRing q e).setQ q ((s.q q).fetched c)) (q := q) (c := c)
      (by rw [State.q_setQ_same]; exact Queue.find_fetched_same hfresh hk)
      (by rw [State.q_setQ_same]; exact State.resetting_of_mayFetch hfetch)
    rw [State.q_setQ_same] at hsame hwindow hnew
    rw [hy, State.setQ_setQ]
    rw [← State.q_setQ_same (s.readRing q e) q y] at hwindow hnew
    obtain ⟨hsent, hhead, hnext, hlen, hothers, hqueues, hrest⟩ := s.readRing_setQ q e hk (hk ▸ hsame)
    refine ⟨_, rfl, hsent, hhead, hnext, hlen, hothers, hqueues, hrest, nofun, fun _ => ⟨fun w hw => ?_, fun hw => ?_⟩⟩
    · obtain ⟨hfind, hcount⟩ := hwindow w hw
      exact ⟨State.replyOf_done hfind rfl rfl, hcount⟩
    · obtain ⟨horiginal, hjudged⟩ := hnew hw
      rw [Queue.original_fetched] at horiginal hjudged
      refine ⟨horiginal, fun ho => ?_⟩
      obtain ⟨hpass, hfail⟩ := hjudged ho
      exact ⟨hpass, fun st holds h => State.replyOf_done (hfail st holds h) rfl rfl⟩

end Sys2Proof.Machine
end

section
/-!
PROOF. What sending on the chain leaves alone: a message touches the ports and what has gone out, and a message of this device's own the
next message number as well (R340, R341, R346, R359).
-/
namespace Sys2Proof.Machine

/-- A state without its ports' records and without what has gone out. -/
def State.unsent (s : State) : State := { s with ports := [], sent := [] }

/-- A state without these and without its next message number. -/
def State.unnumbered (s : State) : State := { s.unsent with chn := { s.chn with msgNum := 0 } }

theorem State.unnumbered_of_unsent {s t : State} (h : t.unsent = s.unsent) : t.unnumbered = s.unnumbered :=
  congrArg (fun z : State => { z with chn := { z.chn with msgNum := 0 } }) h

/-- A state that agrees with another without ports and what has gone out agrees with it beside these. -/
theorem State.eq_of_unsent {s t : State} (h : t.unsent = s.unsent) : { t with ports := s.ports, sent := s.sent } = s :=
  congrArg (fun z : State => { z with ports := s.ports, sent := s.sent }) h

@[simp] theorem State.setPort_unsent (s : State) (p : Nat) (x : ChnPort) : (s.setPort p x).unsent = s.unsent := rfl

@[simp] theorem State.sendFlit_unsent (s : State) (p ty vcf seq : Nat) (body : List Byte) :
    (s.sendFlit p ty vcf seq body).unsent = s.unsent := rfl

theorem State.sendData_unsent {s t : State} {p vc : Nat} {body : List Byte} (h : s.sendData p vc body = some t) : t.unsent = s.unsent := by
  unfold State.sendData at h
  dsimp only at h
  split at h
  · split at h
    · cases h
      rw [State.sendFlit_unsent, State.setPort_unsent]
    · cases h
  · cases h

theorem State.pump_unsent (s : State) (p n : Nat) : (s.pump p n).unsent = s.unsent := by
  induction n generalizing s with
  | zero => rfl
  | succ n ih =>
    unfold State.pump
    dsimp only
    split
    case h_4 => rfl
    case h_1 | h_2 | h_3 =>
      rename_i h
      split at h
      · obtain ⟨v, hv, rfl⟩ := Option.map_eq_some_iff.mp h
        exact (ih _).trans (State.sendData_unsent (t := v) hv)
      · cases h

@[simp] theorem State.sendBodies_unsent (s : State) (p vc : Nat) (bodies : List (List Byte)) :
    (s.sendBodies p vc bodies).unsent = s.unsent := by
  unfold State.sendBodies
  split
  · exact State.pump_unsent _ _ _
  · rfl

@[simp] theorem State.sendMsg_unsent (s : State) (p vc : Nat) (h : MsgHdr) (content : List Byte) :
    (s.sendMsg p vc h content).unsent = s.unsent := State.sendBodies_unsent ..

@[simp] theorem State.flood_unsent (s : State) (p : Nat) (body : List Byte) : (s.flood p body).unsent = s.unsent :=
  State.foldl_same State.unsent (fun s _ => State.same_ite State.unsent (s.sendBodies_unsent ..) rfl) _ s

/-- Taking the next message number changes that number alone. -/
theorem State.unnumbered_of_nextNum {s t : State} (h : t.unsent = s.nextNum.2.unsent) : t.unnumbered = s.unnumbered :=
  State.unnumbered_of_unsent (s := s.nextNum.2) h

@[simp] theorem State.sendLink_unnumbered (s : State) (p vc mtype xact : Nat) (body : List Byte) :
    (s.sendLink p vc mtype xact body).unnumbered = s.unnumbered :=
  State.unnumbered_of_nextNum (s.nextNum.2.sendMsg_unsent ..)

@[simp] theorem State.sendInternal_unnumbered (s : State) (dest vc mtype xact : Nat) (body : List Byte) :
    (s.sendInternal dest vc mtype xact body).unnumbered = s.unnumbered := by
  unfold State.sendInternal
  split
  · exact State.unnumbered_of_nextNum (s.nextNum.2.sendMsg_unsent ..)
  · rfl

theorem State.queues_of_unnumbered {s t : State} (h : t.unnumbered = s.unnumbered) : t.queues = s.queues := by
  have hq := congrArg State.queues h
  exact hq

@[simp] theorem State.sendMsg_queues (s : State) (p vc : Nat) (h : MsgHdr) (content : List Byte) :
    (s.sendMsg p vc h content).queues = s.queues := State.queues_of_unnumbered (State.unnumbered_of_unsent (s.sendMsg_unsent ..))

@[simp] theorem State.sendLink_queues (s : State) (p vc mtype xact : Nat) (body : List Byte) :
    (s.sendLink p vc mtype xact body).queues = s.queues := State.queues_of_unnumbered (s.sendLink_unnumbered ..)

@[simp] theorem State.sendInternal_queues (s : State) (dest vc mtype xact : Nat) (body : List Byte) :
    (s.sendInternal dest vc mtype xact body).queues = s.queues := State.queues_of_unnumbered (s.sendInternal_unnumbered ..)

end Sys2Proof.Machine
end

section
/-!
PROOF. Repeats that wait at check 5, and completions: of a host queue, of queue 8 and of the chain (R38, R42, R46, R55 to R59).
-/
namespace Sys2Proof.Machine

/-! ### Repeats (R46) -/

theorem State.duplicateReply_waits {s : State} {q k : Nat} {c : Cmd} (hfw : s.fwReady = true) (hf : (s.q q).find k = some c)
    (hp : c.phase = .dupWait) : s.duplicateReply q k = s.acceptFrom5 q c := by
  simp [State.duplicateReply, hf, hp, hfw]

/-- A repeat whose number the window holds is answered and counted. -/
theorem State.duplicateReply_window {s : State} {q k : Nat} {c : Cmd} {e : WinEntry} (hfw : s.fwReady = true)
    (hf : (s.q q).find k = some c) (hp : c.phase = .dupWait) (he : ((s.q q).window.find? fun e => e.seq = c.hdr.seq) = some e) :
    ∃ y : Queue, s.duplicateReply q k = s.setQ q y ∧
      y.find k = some { c with phase := .done, reply := some { e.reply with status := stDuplicate } } ∧
      y.cntDup = satInc (s.q q).cntDup ∧ (∀ j, j ≠ k → y.find j = (s.q q).find j) ∧
      { y with inflight := (s.q q).inflight, cntDup := (s.q q).cntDup } = s.q q := by
  obtain rfl := Queue.find_k hf
  exact ⟨_, (State.duplicateReply_waits hfw hf hp).trans (State.acceptFrom5_window he), Queue.find_upd_same (fun _ => rfl) hf, rfl,
    fun _ hj => Queue.find_upd_ne (fun _ => rfl) hj, rfl⟩

/-- A repeat whose original is neither recorded nor in flight goes on as new. -/
theorem State.duplicateReply_new {s : State} {q k : Nat} {c : Cmd} (hfw : s.fwReady = true)
    (hf : (s.q q).find k = some c) (hp : c.phase = .dupWait) (hw : ((s.q q).window.find? fun e => e.seq = c.hdr.seq) = none)
    (ho : (s.q q).original c = false) (hc : (s.q q).checks6to9 c = (none, true)) :
    ∃ y : Queue, s.duplicateReply q k = s.setQ q y ∧ y.find k = some { c with phase := .ready, holdsTag := true } ∧
      (∀ j, j ≠ k → y.find j = (s.q q).find j) ∧ { y with inflight := (s.q q).inflight } = s.q q := by
  obtain rfl := Queue.find_k hf
  refine ⟨_, (State.duplicateReply_waits hfw hf hp).trans ((State.acceptFrom5_new hw ho).trans (State.acceptRest_pass hc)),
    Queue.find_upd_const hf rfl, ?_, rfl⟩
  exact (Queue.SameBut.of_const (s.q q) { c with phase := .ready, holdsTag := true }).find

/-! ### Completions of a host queue (R55 to R59) -/

theorem State.completionPost_host {s : State} {q : Nat} {c : Cmd} (hfw : s.fwReady = true) (hq : q < 8)
    (hhead : (s.q q).inflight.head? = some c) : s.completionPost q =
      if (((s.postHost q).q q).find c.k).isSome then s.postHost q
      else { s.postHost q with chn := { (s.postHost q).chn with
        bcasts := (s.postHost q).chn.bcasts.filter fun b => b.cmd ≠ ⟨q, c.k⟩ } } := by
  simp only [State.completionPost, hfw, hq, hhead, Bool.not_true, Bool.false_eq_true, if_false, if_true]

theorem State.completionPost_empty {s : State} {q : Nat} (hfw : s.fwReady = true) (hq : q < 8)
    (hhead : (s.q q).inflight.head? = none) : s.completionPost q = s.postHost q := by
  simp only [State.completionPost, hfw, hq, hhead, Bool.not_true, Bool.false_eq_true, if_false, if_true]

/-- The oldest command of a queue stands at its place. -/
theorem Queue.find_head {x : Queue} {c : Cmd} (h : x.inflight.head? = some c) : x.find c.k = some c := by
  obtain ⟨l, hl⟩ := List.head?_eq_some_iff.mp h
  simp [Queue.find, hl]

/-- A host queue whose oldest command is not decided, or that may not post, posts nothing. -/
theorem State.postHost_idle {s : State} {q : Nat}
    (h : (s.q q).headDone = none ∨ (s.q q).resetting = true ∨ (s.q q).enabled = false ∨ (s.q q).cqFull = true) : s.postHost q = s := by
  cases hd : (s.q q).headDone with
  | none => simp only [State.postHost, hd]
  | some cr =>
    have hblocked : ((s.q q).resetting || !(s.q q).enabled || (s.q q).cqFull) = true := by
      rcases h with h | h | h | h
      · exact nomatch hd.symm.trans h
      all_goals simp [h]
    simp only [State.postHost, hd, hblocked, if_true]

theorem State.completionPost_idle {s : State} {q : Nat} (hfw : s.fwReady = true) (hq : q < 8)
    (h : (s.q q).headDone = none ∨ (s.q q).resetting = true ∨ (s.q q).enabled = false ∨ (s.q q).cqFull = true) :
    s.completionPost q = s := by
  cases hhead : (s.q q).inflight.head? with
  | none => rw [State.completionPost_empty hfw hq hhead, State.postHost_idle h]
  | some c =>
    rw [State.completionPost_host hfw hq hhead, State.postHost_idle h, Queue.find_head hhead]
    exact if_pos rfl

/-- Raising a vector sends a message, or sets its pending bit (R54). -/
theorem State.irq_eq (s : State) (v : Nat) : ∃ pend, s.irq v = { s with
    msixPend := pend
    sent := (if s.pci.msixEn && !s.pci.msixMask && !s.msixMasked v then [.msix v] else []) ++ s.sent } := by
  unfold State.irq
  split
  case isTrue hoff =>
    simp only [Bool.not_eq_true'] at hoff
    exact ⟨s.msixPend, by simp [hoff]⟩
  case isFalse hon =>
    split
    case isTrue hmasked =>
      have hheld : (s.pci.msixEn && !s.pci.msixMask && !s.msixMasked v) = false := by
        rcases Bool.or_eq_true_iff.mp hmasked with h | h <;> simp [h]
      rw [hheld]
      split <;> exact ⟨_, rfl⟩
    case isFalse hfree =>
      have hsent : (s.pci.msixEn && !s.pci.msixMask && !s.msixMasked v) = true := by simp_all
      rw [hsent]
      exact ⟨_, rfl⟩

/-- A queue that has drained differs in ENABLED alone (R61). -/
theorem Queue.drained_eq (x : Queue) : ∃ on, x.drained = { x with enabled := on } := by
  unfold Queue.drained
  split
  · exact ⟨_, rfl⟩
  · exact ⟨_, rfl⟩

theorem Queue.headDone_cons {x : Queue} {c : Cmd} {r : Reply} {l : List Cmd} (hl : x.inflight = c :: l) (hp : c.phase = .done)
    (hr : c.reply = some r) : x.headDone = some (c, r) := by
  simp only [Queue.headDone, hl, hp, hr]

/-- What a completion puts out (R55, R57): the reply buffer where the reply was requested and does not fit in the entry, then the entry. -/
def State.postEntry (s : State) (q : Nat) (c : Cmd) (r : Reply) : List Sent :=
  .completion q (s.q q).cqTail (s.q q).completionAddr (completionEntry c r (s.q q).phase) ::
    ((if c.wantsReply = true ∧ 2 < r.result.length then [.dma c.replyAddr (replyPacket c r)] else []) ++ s.sent)

/-- The completion message of a queue that owes one, unless one has gone out since the last write of its head (R59). -/
theorem State.cqMessage_setQ (p : State) (q : Nat) {x : Queue} (ho : x.owed = true) :
    ∃ pend, (p.setQ q x).cqMessage q = { p.setQ q { x with msgSent := x.msgSent || x.intEn && !x.msgSent, owed := !(x.intEn && !x.msgSent) } with
        msixPend := pend
        sent := (if (x.intEn && !x.msgSent) && p.pci.msixEn && !p.pci.msixMask && !p.msixMasked x.vec then [.msix x.vec] else []) ++
          p.sent } ∧ ((x.intEn && !x.msgSent) = false → pend = p.msixPend) := by
  simp only [State.cqMessage, State.q_setQ_same, State.setQ_setQ, ho, Bool.and_true]
  cases howe : x.intEn && !x.msgSent with
  | true =>
    obtain ⟨pend, hirq⟩ := (p.setQ q { x with msgSent := true, owed := false }).irq_eq x.vec
    refine ⟨pend, ?_, nofun⟩
    simp only [if_true, hirq, Bool.or_true, Bool.not_true, Bool.true_and]
    rfl
  | false =>
    refine ⟨p.msixPend, ?_, fun _ => rfl⟩
    have hx : ({ x with owed := true } : Queue) = x := congrArg (fun b : Bool => ({ x with owed := b } : Queue)) ho.symm
    simp only [Bool.false_eq_true, if_false, Bool.or_false, Bool.not_false, Bool.false_and, List.nil_append, hx]
    rfl

/-- The queue whose oldest command's completion is written (R57, R58). -/
def Queue.posted (x : Queue) (l : List Cmd) : Queue :=
  { x with
    inflight := l
    cqTail := (x.cqTail + 1) % x.size
    phase := if (x.cqTail + 1) % x.size = 0 then !x.phase else x.phase
    owed := true }

/-- A host queue whose oldest command is decided and whose ring has room posts its completion (R55, R57 to R59). -/
theorem State.postHost_posts {s : State} {q : Nat} {c : Cmd} {r : Reply} {l : List Cmd} (hl : (s.q q).inflight = c :: l)
    (hp : c.phase = .done) (hr : c.reply = some r) (hreset : (s.q q).resetting = false) (hen : (s.q q).enabled = true)
    (hroom : (s.q q).cqFull = false) :
    s.postHost q = (({ s with sent := s.postEntry q c r }).setQ q ((s.q q).posted l).drained).cqMessage q := by
  have hput : (if (c.wantsReply && decide (2 < r.result.length)) = true then s.put (.dma c.replyAddr (replyPacket c r)) else s) =
      { s with sent := (if c.wantsReply = true ∧ 2 < r.result.length then [.dma c.replyAddr (replyPacket c r)] else []) ++ s.sent } := by
    simp only [Bool.and_eq_true, decide_eq_true_eq]
    split <;> rfl
  have hfree : ((s.q q).resetting || !(s.q q).enabled || (s.q q).cqFull) = false := by simp [hreset, hen, hroom]
  simp only [State.postHost, Queue.headDone_cons hl hp hr, hfree, Bool.false_eq_true, if_false, hput, hl, List.drop_succ_cons,
    List.drop_zero]
  rfl

/-- A command that no command behind it shares its place with has left its queue once it leaves the front. -/
theorem Queue.find_tail {l : List Cmd} {k : Nat} (h : ∀ d ∈ l, d.k ≠ k) (x : Queue) (hx : x.inflight = l) : x.find k = none := by
  rw [Queue.find, hx, List.find?_eq_none]
  simpa using h

/-- COMPLETION_POST of a decided command whose completion the ring has room for. -/
theorem State.completionPost_posts {s : State} {q : Nat} {c : Cmd} {r : Reply} {l : List Cmd} (hfw : s.fwReady = true) (hq : q < 8)
    (hl : (s.q q).inflight = c :: l) (hk : ∀ d ∈ l, d.k ≠ c.k) (hp : c.phase = .done) (hr : c.reply = some r)
    (hreset : (s.q q).resetting = false) (hen : (s.q q).enabled = true) (hroom : (s.q q).cqFull = false) :
    ∃ on pend, s.completionPost q =
      { s.setQ q { (s.q q).posted l with
          enabled := on
          msgSent := (s.q q).msgSent || (s.q q).intEn && !(s.q q).msgSent
          owed := !((s.q q).intEn && !(s.q q).msgSent) } with
        chn := { s.chn with bcasts := s.chn.bcasts.filter fun b => b.cmd ≠ ⟨q, c.k⟩ }
        msixPend := pend
        sent := (if ((s.q q).intEn && !(s.q q).msgSent) && s.pci.msixEn && !s.pci.msixMask && !s.msixMasked (s.q q).vec then
          [.msix (s.q q).vec] else []) ++ s.postEntry q c r } ∧
      (((s.q q).intEn && !(s.q q).msgSent) = false → pend = s.msixPend) := by
  obtain ⟨on, hon⟩ := ((s.q q).posted l).drained_eq
  obtain ⟨pend, hmsg, hpend⟩ := State.cqMessage_setQ { s with sent := s.postEntry q c r } q
    (x := { (s.q q).posted l with enabled := on }) rfl
  have hpost := State.postHost_posts hl hp hr hreset hen hroom
  rw [hon, hmsg] at hpost
  have hleft : ((s.postHost q).q q).find c.k = none := by
    rw [hpost]
    refine Queue.find_tail hk _ ?_
    exact congrArg Queue.inflight (State.q_setQ_same ..)
  refine ⟨on, pend, ?_, hpend⟩
  rw [State.completionPost_host hfw hq (congrArg List.head? hl)]
  simp only [hleft, Option.isSome_none, Bool.false_eq_true, if_false]
  rw [hpost]
  rfl

/-! ### Completions of queue 8 and of the chain (R33, R42, R423) -/

theorem State.completionPost_mgt {s : State} (hfw : s.fwReady = true) : s.completionPost 8 = s.postMgt := by
  simp [State.completionPost, hfw]

theorem State.completionPost_chain {s : State} (hfw : s.fwReady = true) : s.completionPost 9 = s.postChain := by
  simp [State.completionPost, hfw]

/-- The reply of queue 8's oldest decided command waits for a slot, and held replies that no command stands before follow it. -/
theorem State.postMgt_posts {s : State} {c : Cmd} {r : Reply} {l : List Cmd} (hl : (s.q 8).inflight = c :: l) (hp : c.phase = .done)
    (hr : c.reply = some r) : s.postMgt = { s.setQ 8 { s.q 8 with inflight := l } with
      mgt := { s.mgt with
        replies := s.mgt.replies ++ [replyPacket c r] ++
          (s.mgt.held.takeWhile fun p => l.all fun d => p.1 ≤ d.k).map fun p => p.2
        held := s.mgt.held.dropWhile fun p => l.all fun d => p.1 ≤ d.k } } := by
  have hq : ∀ m, State.q { s.setQ 8 { s.q 8 with inflight := l } with mgt := m } 8 = { s.q 8 with inflight := l } :=
    fun _ => State.q_setQ_same ..
  simp only [State.postMgt, Queue.headDone_cons hl hp hr, hl, List.drop_succ_cons, List.drop_zero, State.releaseHeld, hq]

/-- The oldest decided command from the chain leaves. -/
theorem State.postChain_queues {s : State} {c : Cmd} (hc : ((s.q 9).inflight.find? fun c => c.phase = .done) = some c) :
    s.postChain.queues = (s.setQ 9 { s.q 9 with inflight := (s.q 9).inflight.filter fun y => y.k ≠ c.k }).queues := by
  simp only [State.postChain, hc]
  split
  · split
    · rw [State.sendMsg_queues]
    · rw [State.sendLink_queues]
  · rw [State.sendMsg_queues]
  · rfl

/-- Settles O11: repeats first, then the completions of a host queue, of queue 8 and of the chain. -/
theorem completionPosted : Obligations.CompletionPosted := by
  refine ⟨fun q k s c hrst hfw hf hp => ⟨fun e he => ?_, fun hw ho hc => ?_⟩, fun q s hrst hfw h => ?_,
    fun q s c r l hrst hfw hl hk hp hr hreset hen hroom => ?_, fun s c r l hrst hfw hl hp hr => ?_, fun s c hrst hfw hc => ?_⟩
  · obtain ⟨y, hdup, hdone, hcnt, hother, hrest⟩ := State.duplicateReply_window hfw hf hp he
    refine ⟨_, (congrArg Host.Outcome.next (s.onMain_out hrst _)).trans (congrArg _ hdup), ?_, ?_, ?_, ?_, s.setQ_agreeBut _ _, rfl⟩
    · exact State.replyOf_done ((congrArg (Queue.find · k) (State.q_setQ_same ..)).trans hdone) rfl rfl
    all_goals rw [State.q_setQ_same]
    · exact hcnt
    · exact hother
    · exact hrest
  · obtain ⟨y, hdup, hready, hother, hrest⟩ := State.duplicateReply_new hfw hf hp hw ho hc
    refine ⟨_, (congrArg Host.Outcome.next (s.onMain_out hrst _)).trans (congrArg _ hdup), ?_, ?_, ?_, s.setQ_agreeBut _ _, rfl⟩
    all_goals rw [State.q_setQ_same]
    · exact hready
    · exact hother
    · exact hrest
  · exact (congrArg Host.Outcome.next (s.onMain_out hrst _)).trans (congrArg _ (State.completionPost_idle hfw q.isLt h))
  · obtain ⟨on, pend, hpost, hpend⟩ := State.completionPost_posts hfw q.isLt hl hk hp hr hreset hen hroom
    have hq : ∀ y : Queue, (s.setQ q y).q q = y := fun _ => State.q_setQ_same ..
    refine ⟨_, (congrArg Host.Outcome.next (s.onMain_out hrst _)).trans (congrArg _ hpost), congrArg Queue.inflight (hq _),
      congrArg Queue.cqTail (hq _), congrArg Queue.phase (hq _), congrArg Queue.msgSent (hq _), congrArg Queue.owed (hq _), rfl, hpend, rfl,
      s.setQ_agreeBut _ _, rfl⟩
  · exact ⟨_, (congrArg Host.Outcome.next (s.onMain_out hrst _)).trans
      (congrArg _ ((State.completionPost_mgt hfw).trans (State.postMgt_posts hl hp hr))), congrArg Queue.inflight (State.q_setQ_same ..), rfl,
      s.setQ_agreeBut _ _, rfl⟩
  · refine ⟨_, (congrArg Host.Outcome.next (s.onMain_out hrst _)).trans (congrArg _ (State.completionPost_chain hfw)), ?_⟩
    rw [State.q, State.postChain_queues hc]
    exact congrArg Queue.inflight (State.q_setQ_same ..)

end Sys2Proof.Machine
end

section
/-!
PROOF. COMMAND_TIMEOUT of a command that no load, verification or broadcast belongs to (R41, R43, R49, R50).
-/
namespace Sys2Proof.Machine

/-! ### What withdrawing a command leaves alone (R50) -/

/-- The commands in flight, the content, the broadcasts and the device's address. -/
def State.holding (s : State) :
    KMap Queue × KMap Segment × KMap (List Word) × KMap Byte × KMap Byte × List Bcast × Nat :=
  (s.queues, s.segs, s.tables, s.onchip, s.ext, s.chn.bcasts, s.ownAddr)

section
variable {s t : State} (h : t.holding = s.holding)
include h

theorem State.queues_of_holding : t.queues = s.queues := congrArg Prod.fst h
theorem State.segs_of_holding : t.segs = s.segs := congrArg (fun x => x.2.1) h
theorem State.tables_of_holding : t.tables = s.tables := congrArg (fun x => x.2.2.1) h
theorem State.onchip_of_holding : t.onchip = s.onchip := congrArg (fun x => x.2.2.2.1) h
theorem State.ext_of_holding : t.ext = s.ext := congrArg (fun x => x.2.2.2.2.1) h
theorem State.bcasts_of_holding : t.chn.bcasts = s.chn.bcasts := congrArg (fun x => x.2.2.2.2.2.1) h
theorem State.ownAddr_of_holding : t.ownAddr = s.ownAddr := congrArg (fun x => x.2.2.2.2.2.2) h

end

/-- A count in a register other than the address leaves them alone. -/
theorem State.bump_holding (s : State) {r : RegId} {i : Nat} (hr : RegId.off .SYS_ADDR 0 0 ≠ r.off i 0) :
    (s.bump r i).holding = s.holding := by
  have haddr : (s.bump r i).ownAddr = s.ownAddr := congrArg (fld · 13 0) (State.rd_wr_ne s _ hr)
  simp only [State.holding, haddr]
  rfl

theorem State.holding_aside : State.Aside State.holding where
  lost s := s.bump_holding (by decide)
  put _ _ := rfl
  pend _ _ := rfl
  ev _ _ := rfl
  tb _ _ := rfl
  sv _ _ _ := rfl

/-- A state without its groups. -/
def State.sansGroups (s : State) : State := { s with groups := [] }

theorem State.setGrp_sansGroups (s : State) (g : Nat) (x : Group) : (s.setGrp g x).sansGroups = s.sansGroups := rfl

/-- A withdrawn command leaves its group, its time, its calibration or its exchange, and nothing else. -/
theorem State.withdraw_eq (s : State) (r : CmdRef) : ∃ groups tb adcs chn,
    s.withdraw r = { s with groups := groups, tb := tb, adcs := adcs, chn := chn } ∧ chn.bcasts = s.chn.bcasts := by
  generalize hu : s.withdraw r = u
  unfold State.withdraw at hu
  extract_lets v h at hu
  have hv : v.sansGroups = s.sansGroups := by
    refine State.foldl_same State.sansGroups (fun u g => ?_) _ s
    extract_lets x y
    split
    · rfl
    · exact u.setGrp_sansGroups g y
  clear_value v
  obtain ⟨groups, rfl⟩ : ∃ groups, v = { s with groups := groups } :=
    ⟨v.groups, congrArg (fun u : State => { u with groups := v.groups }) hv⟩
  subst hu
  exact ⟨groups, _, _, _, rfl, rfl⟩

theorem State.withdraw_holding (s : State) (r : CmdRef) : (s.withdraw r).holding = s.holding ∧ (s.withdraw r).sent = s.sent := by
  obtain ⟨groups, tb, adcs, chn, heq, hb⟩ := s.withdraw_eq r
  rw [heq]
  exact ⟨by simp only [State.holding, hb]; rfl, rfl⟩

/-- A record of class 0 of the error log leaves them alone. -/
theorem State.logErr_holding (s : State) (blk inst code status d0 d1 : Nat) :
    (s.logErr 0 blk inst code status d0 d1).holding = s.holding ∧ (s.logErr 0 blk inst code status d0 d1).sent = s.sent := by
  obtain ⟨p, log, wr, rd, hp, hlog⟩ := s.logErr_eq (cls := 0) (by decide) blk inst code status d0 d1
  rw [hlog]
  rcases hp with rfl | rfl
  · exact ⟨rfl, rfl⟩
  · exact ⟨s.bump_holding (r := .ERR_CNT_LOST) (by decide), rfl⟩

/-- Where no load and no verification of a command runs or waits, none stops. -/
theorem State.stopLoads_none {s : State} {r : CmdRef} (status : Nat)
    (h : ∀ i, (∀ j, (s.seg i).job = some j → ¬(j.q = r.q ∧ j.k = r.k)) ∧ (∀ j ∈ (s.seg i).waiting, ¬(j.q = r.q ∧ j.k = r.k)) ∧
      (r.q, r.k) ∉ (s.seg i).verifies) : s.stopLoads r status = s := by
  refine List.foldl_fixed' (fun p => ?_) _
  obtain ⟨hjob, hwait, hver⟩ := h p.1
  have hany : ((s.seg p.1).waiting.any fun j => decide (j.q = r.q) && decide (j.k = r.k)) = false := by
    simpa using hwait
  have hdrop : s.verifyDrop r p.1 = s := by simp [State.verifyDrop, hver]
  simp only [hany, Bool.false_eq_true, if_false, hdrop]
  split
  case h_1 j hj => exact if_neg (hjob j hj)
  case h_2 => rfl

/-! ### The reply TIMEOUT (R41, R43) -/

/-- The skip state of a class begins at the given place or goes on from one further back. -/
theorem Queue.startSkip_mem (x : Queue) (cls k : Nat) : ∃ j, (cls, j) ∈ (x.startSkip cls k).skipClasses ∧ j ≤ k := by
  unfold Queue.startSkip
  split
  case isTrue h =>
    obtain ⟨p, hp, hcls⟩ := List.any_eq_true.mp h
    refine ⟨min p.2 k, List.mem_map.mpr ⟨p, hp, ?_⟩, Nat.min_le_right _ _⟩
    simp_all
  case isFalse => exact ⟨k, by simp, Nat.le_refl k⟩

theorem Queue.startSkip_cntTimeout (x : Queue) (cls k : Nat) : (x.startSkip cls k).cntTimeout = x.cntTimeout := by
  unfold Queue.startSkip
  split <;> rfl

/-- TIMEOUT is counted in the queue and begins the skip state of the command's class. -/
theorem State.decide1_timeout {s : State} {q k : Nat} {c : Cmd} (hf : (s.q q).find k = some c) (hp : c.phase ≠ .done)
    (hr : (s.q q).resetting = false) (hq : q ≠ 9) (result : List Word) (dev : Nat) :
    ((s.decide1 ⟨q, k⟩ stTimeout result dev).q q).cntTimeout = satInc (s.q q).cntTimeout ∧
      ∃ j, (c.hdr.cls, j) ∈ ((s.decide1 ⟨q, k⟩ stTimeout result dev).q q).skipClasses ∧ j ≤ k := by
  have hrec : recorded stTimeout = true := by decide
  have hskip : startsSkip stTimeout = true := by decide
  simp only [State.decide1, hf, hp, hr, hq, hrec, hskip, if_true, if_false, Bool.false_eq_true, State.q_setQ_same]
  exact ⟨congrArg satInc (Queue.startSkip_cntTimeout ..), Queue.startSkip_mem ..⟩

/-- A command whose timer runs is not done. -/
theorem State.not_done_of_timerRuns {s : State} {q : Nat} {c : Cmd} (h : s.timerRuns q c = true) : c.phase ≠ .done := by
  intro hd
  simp [State.timerRuns, State.eligible, hd] at h

/-- A state that agrees on all this finishes a command that is no broadcast as its queue says. -/
theorem State.timeoutReply_own {s u : State} (h : u.holding = s.holding) {r : CmdRef} (hb : ∀ b ∈ s.chn.bcasts, b.cmd ≠ r) :
    u.timeoutReply r = u.decide1 r stTimeout [] s.ownAddr := by
  have hbc : u.chn.bcasts = s.chn.bcasts := State.bcasts_of_holding h
  have haddr : u.ownAddr = s.ownAddr := State.ownAddr_of_holding h
  have hnone : (u.chn.bcasts.find? fun b => decide (b.cmd = r)) = none := by
    rw [hbc, List.find?_eq_none]
    simpa using hb
  rw [State.timeoutReply, hnone, ← haddr]
  exact State.finish_own (hbc ▸ hb) _ _

/-- Where a command may be withdrawn, its reply is decided in a state that holds what it held. -/
theorem State.timedOut_eq {s v : State} {q k : Nat} (c : Cmd) (hv : v.holding = s.holding) (hb : ∀ b ∈ s.chn.bcasts, b.cmd ≠ ⟨q, k⟩)
    (hl : ∀ i, (∀ j, (s.seg i).job = some j → ¬(j.q = q ∧ j.k = k)) ∧ (∀ j ∈ (s.seg i).waiting, ¬(j.q = q ∧ j.k = k)) ∧
      (q, k) ∉ (s.seg i).verifies) : ∃ u : State, v.timedOut q k c = u.decide1 ⟨q, k⟩ stTimeout [] s.ownAddr ∧
      u.holding = s.holding ∧ u.sent = v.sent := by
  obtain ⟨hwv, hwsent⟩ := v.withdraw_holding ⟨q, k⟩
  have hw : (v.withdraw ⟨q, k⟩).holding = s.holding := hwv.trans hv
  have hsegs : (v.withdraw ⟨q, k⟩).segs = s.segs := State.segs_of_holding hw
  have hstop : (v.withdraw ⟨q, k⟩).stopLoads ⟨q, k⟩ stTimeout = v.withdraw ⟨q, k⟩ :=
    State.stopLoads_none _ (by simpa only [State.seg, hsegs] using hl)
  obtain ⟨hlog, hlogSent⟩ := (v.withdraw ⟨q, k⟩).logErr_holding 22 q 0x001C stTimeout c.hdr.opcode c.hdr.seq
  simp only [State.timedOut, hstop]
  split
  · exact ⟨_, State.timeoutReply_own hw hb, hw, hwsent⟩
  · exact ⟨_, State.timeoutReply_own (hlog.trans hw) hb, hlog.trans hw, hlogSent.trans hwsent⟩

/-- A cleared enable of on-chip memory that takes effect sets its flag alone (R392). -/
theorem State.memSettle_eq (s : State) : ∃ regs mem, s.memSettle = { s with regs := regs, mem := mem } := by
  unfold State.memSettle
  split
  · exact ⟨_, _, rfl⟩
  · exact ⟨s.regs, s.mem, rfl⟩

theorem State.memSettle_idle {s : State} (h : s.mem.stopPending = false) : s.memSettle = s := by
  simp [State.memSettle, h]

theorem State.reachWait_holding (s : State) (c : Cmd) (w : Nat) : (s.reachWait c w).holding = s.holding := by
  unfold State.reachWait
  split
  · exact State.holding_aside.reach _ _
  · rfl

theorem State.commandTimeout_found {s : State} {q k : Nat} {c : Cmd} (hfw : s.fwReady = true) (hf : (s.q q).find k = some c) :
    s.commandTimeout q k = if s.timerRuns q c then (s.reachWait c (s.familyTimeout c)).timedOut q k c else s := by
  simp only [State.commandTimeout, hf, hfw, Bool.and_true]

/-- Settles O14: withdrawing the command and the records about it leave its queue alone, so the reply is decided there as it stood. -/
theorem timeoutStopsACommand : Obligations.TimeoutStopsACommand := by
  refine fun q k s c hrst hfw hf => ⟨fun hoff hmem => ?_, fun hon hreset hb hl => ?_⟩
  · refine (congrArg Host.Outcome.next (s.onMain_out hrst _)).trans (congrArg _ ?_)
    rw [State.timeoutCmd, State.commandTimeout_found hfw hf, hoff]
    exact State.memSettle_idle hmem
  · obtain ⟨u, hu, hhold, hsent⟩ := State.timedOut_eq c (s.reachWait_holding c (s.familyTimeout c)) hb hl
    have hqueues : u.queues = s.queues := State.queues_of_holding hhold
    have hsegs := State.segs_of_holding hhold
    have honchip := State.onchip_of_holding hhold
    have hext := State.ext_of_holding hhold
    have htables := State.tables_of_holding hhold
    have hq : u.q q = s.q q := by simp only [State.q, hqueues]
    have hp := State.not_done_of_timerRuns hon
    obtain ⟨y, hy, hsame, hdone⟩ := State.decide1_setQ (hq ▸ hf) hp (hq ▸ hreset) stTimeout [] s.ownAddr
    obtain ⟨hcnt, hskip⟩ := State.decide1_timeout (hq ▸ hf) hp (hq ▸ hreset) (by omega) [] s.ownAddr
    rw [hy, State.q_setQ_same] at hcnt hskip
    obtain ⟨regs, mem, hset⟩ := (u.setQ q y).memSettle_eq
    have hcmd : s.timeoutCmd q k = { u.setQ q y with regs := regs, mem := mem } := by
      rw [State.timeoutCmd, State.commandTimeout_found hfw hf, hon, if_pos rfl, hu, hy, hset]
    have hqt : ∀ z, (u.setQ q z).q q = z := fun _ => State.q_setQ_same ..
    refine ⟨_, (congrArg Host.Outcome.next (s.onMain_out hrst _)).trans (congrArg _ hcmd),
      State.replyOf_done ((congrArg (Queue.find · k) (hqt y)).trans hdone) rfl rfl,
      (congrArg Queue.cntTimeout (hqt y)).trans (hcnt.trans (congrArg (fun x => satInc (Queue.cntTimeout x)) hq)), ?_, fun j hj => ?_,
      ?_, fun ht => ?_, fun a ht => ?_, hsegs, honchip, hext, htables⟩
    · exact (hqt y).symm ▸ hskip
    · exact (congrArg (Queue.find · j) (hqt y)).trans ((hsame.find j hj).trans (congrArg (Queue.find · j) hq))
    · exact hqueues ▸ u.setQ_agreeBut q y
    · exact hsent.trans (by rw [State.reachWait, ht])
    · exact hsent.trans (by rw [State.reachWait, ht])

end Sys2Proof.Machine
end

section
/-!
PROOF. INTERNAL messages of the chain (R359): what becomes of the oldest of a type, the reply that one of them brings home, and what joins and
grants of addresses leave alone (R361, R366).
-/
namespace Sys2Proof.Machine

/-! ### Acting on an INTERNAL message (R359, R360) -/

/-- A message is taken here exactly where the model asks its three questions. -/
theorem State.takesMsg_iff (s : State) (m : Msg) :
    (m.bcast || (m.dest = 0 && s.isRoot) || (s.chn.enumerated && m.dest = s.ownAddr)) = true ↔ s.TakesMsg m := by
  simp only [State.TakesMsg, Bool.or_eq_true, Bool.and_eq_true, decide_eq_true_eq, or_assoc]

section
variable {s u : State} {m : Msg} {p ty : Nat} (own : State → Msg → State) (pass : State → Msg → Nat → State)

theorem State.internal_none (h : s.takeMsg p (fun m => m.internal && m.mtype = ty) = none) : s.internal p ty own pass = s := by
  simp only [State.internal, h]

variable (h : s.takeMsg p (fun m => m.internal && m.mtype = ty) = some (m, u))
include h

theorem State.internal_own (ht : u.TakesMsg m) : s.internal p ty own pass = own u m := by
  simp only [State.internal, h, (u.takesMsg_iff m).mpr ht, if_true]

theorem State.internal_stop (ht : ¬ u.TakesMsg m) (hr : u.routePort m.dest = none) : s.internal p ty own pass = u := by
  simp only [State.internal, h, mt (u.takesMsg_iff m).mp ht, Bool.false_eq_true, if_false, hr]

theorem State.internal_forward {d : Nat} (ht : ¬ u.TakesMsg m) (hr : u.routePort m.dest = some d) :
    s.internal p ty own pass = (pass u m d).sendMsg d m.vc ⟨m.dest, false, true, m.src, m.num⟩ m.content := by
  simp only [State.internal, h, mt (u.takesMsg_iff m).mp ht, Bool.false_eq_true, if_false, hr]

end

/-- What a device on the way does with a message of a type: a JOIN_ASSIGN sets a route, a LEAVE frees the addresses that it names. -/
def State.onWay (ty : Nat) (s : State) (m : Msg) (d : Nat) : State :=
  if ty = 6 then s.setRoute (m.h 8) (d + 1) else if ty = 7 then s.freeRoutes (leaveAddrs m) else s

/-- The instructions that act on an INTERNAL message, by its type. -/
def internalInstrs (p : Fin 3) : List (Nat × Instr) :=
  [(1, .enumQuery p), (2, .enumCount p), (3, .enumAssign p), (4, .enumDone p), (5, .joinMessage p), (6, .joinAssign p), (7, .leave p),
    (8, .exclude p), (9, .censusQuery p), (10, .censusReport p), (11, .censusResult p), (12, .bcastReply p), (13, .alignQuery p),
    (14, .alignReport p)]

/-- Each of them acts on the oldest message of its type. -/
theorem exec_internal {p : Fin 3} {e : Nat × Instr} (he : e ∈ internalInstrs p) :
    ∃ own, ∀ s : State, s.mgt.rst = false → exec e.2 s = .next (s.internal p e.1 own (State.onWay e.1)) := by
  simp only [internalInstrs, List.mem_cons, List.not_mem_nil, or_false] at he
  rcases he with rfl | rfl | rfl | rfl | rfl | rfl | rfl | rfl | rfl | rfl | rfl | rfl | rfl | rfl <;>
    exact ⟨_, fun s hrst => congrArg Host.Outcome.next (s.onMain_out hrst _)⟩

/-! ### Routes -/

/-- Freeing addresses from the route table. -/
theorem KMap.find?_filter_key {α : Type} (m : KMap α) (as : List Nat) (a : Nat) :
    KMap.find? (m.filter fun e => !as.contains e.1) a = if a ∈ as then none else KMap.find? m a := by
  induction m with
  | nil => simp [KMap.find?]
  | cons e t ih =>
    obtain ⟨k, v⟩ := e
    by_cases hk : k ∈ as <;> by_cases ha : k = a <;> simp_all [KMap.find?]

theorem State.freeRoutes_find (s : State) (as : List Nat) (a : Nat) :
    KMap.find? (s.freeRoutes as).chn.route a = if a ∈ as then none else KMap.find? s.chn.route a := KMap.find?_filter_key _ _ _

/-! ### What the reply of a command that waits does -/

/-- A command that waits is answered in a state that holds what it held, and nothing but queues changes. -/
theorem State.finish_waits {s u : State} {q k : Nat} (hw : u.Waits q k) (h : s.holding = u.holding) (status : Nat) (result : List Word) :
    u.Replied (s.finish ⟨q, k⟩ status result) q k status result ∧
      ∃ queues, s.finish ⟨q, k⟩ status result = { s with queues := queues } := by
  obtain ⟨c, hf, hphase, hreset, hb⟩ := hw
  have hqueues := State.queues_of_holding h
  have haddr := State.ownAddr_of_holding h
  have hq : s.q q = u.q q := by simp only [State.q, hqueues]
  have hp : c.phase ≠ .done := by rw [hphase]; decide
  have hown : s.finish ⟨q, k⟩ status result = s.decide1 ⟨q, k⟩ status result s.ownAddr :=
    State.finish_own (State.bcasts_of_holding h ▸ hb) _ _
  obtain ⟨y, hy, -⟩ := State.decide1_setQ (hq ▸ hf) hp (hq ▸ hreset) status result s.ownAddr
  exact ⟨hown ▸ (State.decide1_replied (hq ▸ hf) hp (hq ▸ hreset) status result).of_queues hqueues haddr, _, hown.trans hy⟩

theorem State.holding_of_unnumbered {s t : State} (h : t.unnumbered = s.unnumbered) : t.holding = s.holding := by
  have hh := congrArg State.holding h
  exact hh

theorem State.chn_of_unsent {s t : State} (h : t.unsent = s.unsent) : t.chn = s.chn := by
  have hh := congrArg State.chn h
  exact hh

/-! ### Joins and grants (R361, R366) -/

/-- Where enumerations have placed the device: its address, its generation and depth, and the one in progress. -/
def State.placed (s : State) : Word × Word × Bool × Nat × Option Xact :=
  (s.rd .SYS_ADDR, s.rd .CHN_ENUM_GEN, s.chn.enumerated, s.chn.depth, s.chn.enum_)

theorem State.placed_of_unnumbered {s t : State} (h : t.unnumbered = s.unnumbered) : t.placed = s.placed := by
  have hh := congrArg State.placed h
  exact hh

theorem State.route_of_unnumbered {s t : State} (h : t.unnumbered = s.unnumbered) : t.chn.route = s.chn.route := by
  have hh := congrArg (fun u : State => u.chn.route) h
  exact hh

theorem State.rd_of_unnumbered {s t : State} (h : t.unnumbered = s.unnumbered) (r : RegId) : t.rd r = s.rd r := by
  have hh := congrArg (fun u : State => u.rd r) h
  exact hh

/-- A grant of one address sets its route, and the child learns it. -/
theorem State.grantChild_unnumbered (s : State) (p a : Nat) : (s.grantChild p a).unnumbered = (s.setRoute a (p + 1)).unnumbered :=
  State.sendLink_unnumbered ..

section
variable {s : State} {parent port : Nat}

/-- A count of joins changes no setting that a join at the root looks at. -/
theorem State.bump_join_rb (s : State) : (s.bump .CHN_CNT_JOIN).rb .CHN_CTL 0 0 2 = s.rb .CHN_CTL 0 0 2 :=
  congrArg (bit · 2) (State.rd_wr_ne s _ (by decide))

theorem State.bump_join_ownAddr (s : State) : (s.bump .CHN_CNT_JOIN).ownAddr = s.ownAddr :=
  congrArg (fld · 13 0) (State.rd_wr_ne s _ (by decide))

theorem State.bump_join_routePort (s : State) (d : Nat) : (s.bump .CHN_CNT_JOIN).routePort d = s.routePort d := by
  have hrole : (s.bump .CHN_CNT_JOIN).rf .CHN_CTL 0 0 1 0 = s.rf .CHN_CTL 0 0 1 0 :=
    congrArg (fld · 1 0) (State.rd_wr_ne s _ (by decide))
  simp only [State.routePort, State.isRoot, hrole]
  rfl

theorem State.joinAtRoot_counted (h : s.rb .CHN_CTL 0 0 2 = false ∨ lowestFree s.chn.route = none ∨
    parent ≠ s.ownAddr ∧ s.routePort parent = none) : s.joinAtRoot parent port = s.bump .CHN_CNT_JOIN := by
  have hroute : (s.bump .CHN_CNT_JOIN).chn.route = s.chn.route := rfl
  simp only [State.joinAtRoot, s.bump_join_rb, s.bump_join_ownAddr, s.bump_join_routePort, hroute]
  rcases h with h | h | ⟨hne, hr⟩
  · simp only [h, Bool.false_eq_true, if_false]
  · simp only [h, ite_self]
  · simp only [hne, hr, if_false]
    split
    · split <;> rfl
    · rfl

variable {a : Nat} (hauto : s.rb .CHN_CTL 0 0 2 = true) (ha : lowestFree s.chn.route = some a)
include hauto ha

theorem State.joinAtRoot_own (hp : parent = s.ownAddr) :
    s.joinAtRoot parent port = (s.bump .CHN_CNT_JOIN).grantChild port a := by
  have hroute : (s.bump .CHN_CNT_JOIN).chn.route = s.chn.route := rfl
  simp only [State.joinAtRoot, s.bump_join_rb, s.bump_join_ownAddr, hroute, hauto, ha, hp, if_true]

theorem State.joinAtRoot_far {d : Nat} (hp : parent ≠ s.ownAddr) (hd : s.routePort parent = some d) : s.joinAtRoot parent port =
    ((s.bump .CHN_CNT_JOIN).setRoute a (d + 1)).sendInternal parent 0 0x0006 0 (leBytes 2 a ++ leBytes 1 port) := by
  have hroute : (s.bump .CHN_CNT_JOIN).chn.route = s.chn.route := rfl
  simp only [State.joinAtRoot, s.bump_join_rb, s.bump_join_ownAddr, s.bump_join_routePort, hroute, hauto, ha, hp, hd, if_true, if_false]

end

/-- A count of joins and a route leave the device where enumerations have placed it. -/
theorem State.bump_join_placed (s : State) : (s.bump .CHN_CNT_JOIN).placed = s.placed := by
  have haddr : (s.bump .CHN_CNT_JOIN).rd .SYS_ADDR = s.rd .SYS_ADDR := State.rd_wr_ne s _ (by decide)
  have hgen : (s.bump .CHN_CNT_JOIN).rd .CHN_ENUM_GEN = s.rd .CHN_ENUM_GEN := State.rd_wr_ne s _ (by decide)
  simp only [State.placed, haddr, hgen]
  rfl

theorem State.setRoute_placed (s : State) (a v : Nat) : (s.setRoute a v).placed = s.placed := rfl

theorem State.joinAtRoot_placed (s : State) (parent port : Nat) : (s.joinAtRoot parent port).placed = s.placed := by
  cases hauto : s.rb .CHN_CTL 0 0 2 with
  | false => rw [State.joinAtRoot_counted (.inl hauto), State.bump_join_placed]
  | true =>
    cases ha : lowestFree s.chn.route with
    | none => rw [State.joinAtRoot_counted (.inr (.inl ha)), State.bump_join_placed]
    | some a =>
      by_cases hp : parent = s.ownAddr
      · rw [State.joinAtRoot_own hauto ha hp, State.placed_of_unnumbered (State.grantChild_unnumbered ..), State.setRoute_placed,
          State.bump_join_placed]
      · cases hd : s.routePort parent with
        | none => rw [State.joinAtRoot_counted (.inr (.inr ⟨hp, hd⟩)), State.bump_join_placed]
        | some d =>
          rw [State.joinAtRoot_far hauto ha hp hd, State.placed_of_unnumbered (State.sendInternal_unnumbered ..), State.setRoute_placed,
            State.bump_join_placed]

theorem State.reportJoin_placed (s : State) (p inst : Nat) : (s.reportJoin p inst).placed = s.placed :=
  State.same_ite State.placed (s.joinAtRoot_placed _ _) (State.placed_of_unnumbered (State.sendInternal_unnumbered ..))

theorem State.announce_placed (s : State) (granted : List Nat) : (s.announce granted).placed = s.placed := by
  refine State.foldl_same State.placed (fun s p => ?_) _ s
  dsimp only
  split
  · exact State.same_ite State.placed (State.reportJoin_placed ..) rfl
  · rfl

theorem State.passDown_placed (s : State) (p mode gen : Nat) (as : List Nat) : (s.passDown p mode gen as).placed = s.placed := by
  have hroutes : (s.routeAll as p).placed = s.placed := State.foldl_same State.placed (fun s _ => s.setRoute_placed ..) _ s
  refine (State.placed_of_unnumbered (State.sendLink_unnumbered ..)).trans ?_
  split
  · exact hroutes
  · exact hroutes

end Sys2Proof.Machine
end

section
/-!
PROOF. Enumeration of the chain (R348, R361): how one begins at a device, what the last answer of a port does, and what a grant of
addresses makes of the device.
-/
namespace Sys2Proof.Machine

theorem State.enum_of_placed {s t : State} (h : t.placed = s.placed) : t.chn.enum_ = s.chn.enum_ := by
  have hh := congrArg (fun x => x.2.2.2.2) h
  exact hh

/-! ### An enumeration begins, and its ports answer -/

/-- The links that an enumeration asks see what its device is. -/
theorem State.enumBegin_enum (s : State) (mode gen depth : Nat) : (s.enumBegin mode gen depth none).chn.enum_ = some {
    gen := gen, mode := mode, cmd := none, phase := if s.downUp = [] then 1 else 0, ports := s.downUp, got := [], own := []
    depth := depth } := by
  by_cases hd : s.downUp = []
  · simp only [State.enumBegin, hd, List.foldl_nil, List.isEmpty_nil, if_true, State.enumCounted]
    exact State.enum_of_placed (State.placed_of_unnumbered (State.sendLink_unnumbered ..))
  · simp only [State.enumBegin, List.isEmpty_iff, hd, if_false]
    exact State.enum_of_placed (State.foldl_same State.placed
      (fun _ _ => State.placed_of_unnumbered (State.sendLink_unnumbered ..)) _ _)

/-- An answer changes the answers alone. -/
theorem Xact.add_eq (x : Xact) (p : Nat) (ns : List Nat) : ∃ got, x.add p ns = { x with got := got } := by
  unfold Xact.add
  split
  · exact ⟨x.got, rfl⟩
  · exact ⟨_, rfl⟩

section
variable {s : State} {x : Xact} {p phase : Nat} {ns : List Nat} (he : s.chn.enum_ = some x) (hph : x.phase = phase)
  (hp : x.ports.contains p = true) (hfull : x.full = false)
include he hph hp hfull

/-- An answer that leaves others to come is kept. -/
theorem State.enumAnswer_open (hy : (x.add p ns).full = false) : s.enumAnswer p phase ns = s.setEnum (some (x.add p ns)) := by
  simp only [State.enumAnswer, he, hph, hp, hfull, hy, decide_true, Bool.and_self, Bool.not_false, Bool.false_eq_true, if_true, if_false]

/-- The last answer ends the phase. -/
theorem State.enumAnswer_last (hy : (x.add p ns).full = true) : s.enumAnswer p phase ns =
    if phase = 0 then (s.setEnum (some (x.add p ns))).enumCounted (x.add p ns)
    else (s.setEnum (some (x.add p ns))).enumFinish (x.add p ns) := by
  simp only [State.enumAnswer, he, hph, hp, hfull, hy, decide_true, Bool.and_self, Bool.not_false, if_true]

end

/-- The last count of the first phase goes up where no command waits for it. -/
theorem State.enumCounted_up {s : State} {y : Xact} (hc : y.cmd = none) : s.enumCounted y =
    (s.setEnum (some { y with phase := 1 })).sendLink 0 1 0x0002 y.gen
      (leBytes 2 (y.ports.foldl (fun a p => a + y.num p 0) (s.ownCount y.mode)) ++
        leBytes 1 (y.ports.foldl (fun a p => max a (y.num p 1)) y.depth)) := by
  simp only [State.enumCounted, hc]

/-- The last total goes up where no command waits for it. -/
theorem State.enumFinish_up {s : State} {y : Xact} (hc : y.cmd = none) : s.enumFinish y =
    (s.setEnum none).sendLink 0 1 0x0004 y.gen
      (leBytes 2 (y.ports.foldl (fun a p => a + y.num p 0) (y.own.getD 0 0)) ++
        leBytes 2 (y.ports.foldl (fun a p => a + y.num p 1) (y.own.getD 1 0)) ++
        leBytes 1 (y.ports.foldl (fun a p => max a (y.num p 2)) y.depth)) := by
  simp only [State.enumFinish, hc]

/-- It answers the command that waits for it. -/
theorem State.enumFinish_command {s : State} {y : Xact} {c : CmdRef} (hc : y.cmd = some c) : s.enumFinish y =
    (s.setEnum none).finish c stOK [mkW s.chn.route.length, mkW (y.ports.foldl (fun a p => max a (y.num p 2)) y.depth), mkW y.gen,
      mkW (y.ports.foldl (fun a p => a + y.num p 1) (y.own.getD 1 0))] := by
  simp only [State.enumFinish, hc]
  rfl

/-! ### Grants of full enumeration -/

/-- In full enumeration a device counts itself. -/
theorem State.ownCount_full (s : State) : s.ownCount 0 = 1 := rfl

/-- The root grants itself address 0 in full enumeration. -/
theorem State.rootGrant_full {s : State} {x : Xact} (hm : x.mode = 0) : ∃ l, s.rootGrant x = 0 :: l := by
  have hone : ∀ (l : List Nat) (n : Nat), n ≤ l.foldl (fun a p => a + x.num p 0) n := by
    intro l
    induction l with
    | nil => exact fun n => Nat.le_refl n
    | cons p l ih => exact fun n => (Nat.le_add_right _ _).trans (ih _)
  have hpos : 0 < min (x.ports.foldl (fun a p => a + x.num p 0) 1) 16384 := by
    have := hone x.ports 1
    omega
  obtain ⟨n, hn⟩ := Nat.exists_eq_succ_of_ne_zero hpos.ne'
  refine ⟨(List.range n).map Nat.succ, ?_⟩
  rw [State.rootGrant, hm, State.ownCount_full, if_pos rfl, hn, List.range_succ_eq_map]

/-- The device that takes the first address of a grant of full enumeration: its routes and its address are new. -/
def State.renewed (s : State) (a depth gen : Nat) : State :=
  (({ s.wr .SYS_ADDR 0 0 0 with
    chn := { s.chn with route := [], censusOk := false, enumerated := false } } : State).takeAddress a depth).wr .CHN_ENUM_GEN 0 0 (mkW gen)

theorem State.renewed_placed (s : State) (a depth gen : Nat) :
    (s.renewed a depth gen).placed = (mkW a, mkW gen, true, depth, s.chn.enum_) := by
  have haddr : (s.renewed a depth gen).rd .SYS_ADDR = mkW a := (State.rd_wr_ne _ _ (by decide)).trans (State.rd_wr_same ..)
  have hgen : (s.renewed a depth gen).rd .CHN_ENUM_GEN = mkW gen := State.rd_wr_same ..
  simp only [State.placed, haddr, hgen]
  rfl

/-- The part of a grant that goes down a port: port 1 takes what it has counted, port 2 the rest. -/
def Xact.part (x : Xact) (as : List Nat) (p : Nat) : List Nat :=
  if p = 1 then as.take (if x.ports.contains 1 then x.num 1 0 else 0) else as.drop (if x.ports.contains 1 then x.num 1 0 else 0)

/-- The device that has taken the first address of a grant and passed on the others. -/
def State.granted (s : State) (x : Xact) (depth a : Nat) (l : List Nat) : State :=
  (x.ports.foldl (fun s p => s.passDown p 0 x.gen (x.part l p)) (s.renewed a depth x.gen)).announce
    (x.ports.filter fun p => !(x.part l p).isEmpty)

theorem State.granted_placed (s : State) (x : Xact) (depth a : Nat) (l : List Nat) :
    (s.granted x depth a l).placed = (mkW a, mkW x.gen, true, depth, s.chn.enum_) := by
  rw [State.granted, State.announce_placed, State.foldl_same State.placed (fun s p => s.passDown_placed ..), State.renewed_placed]

/-- A device without ports announces nothing, and knows one route: its own. -/
theorem State.granted_alone {s : State} {x : Xact} (hx : x.ports = []) (hd : s.downUp = []) (depth a : Nat) (l : List Nat) :
    (s.granted x depth a l).chn.route = [(a, 1)] := by
  have hr : (s.renewed a depth x.gen).downUp = [] := hd
  simp only [State.granted, hx, List.foldl_nil, State.announce, hr]
  rfl

/-- What a grant of full enumeration leaves: the enumeration ends where no port waits, else it waits for their totals. -/
theorem State.enumGrant_full (s : State) {x : Xact} (hm : x.mode = 0) (depth a : Nat) (l : List Nat) :
    s.enumGrant x depth (a :: l) =
      if x.ports.isEmpty then (s.granted x depth a l).enumFinish { x with phase := 1, got := [], own := [1, 0], depth := depth }
      else (s.granted x depth a l).setEnum (some { x with phase := 1, got := [], own := [1, 0], depth := depth }) := by
  have hmin : min 1 (a :: l).length = 1 := by simp
  have hplaced := s.granted_placed x depth a l
  have hon : (s.granted x depth a l).chn.enumerated = true := congrArg (fun x => x.2.2.1) hplaced
  have hdepth : (s.granted x depth a l).chn.depth = depth := congrArg (fun x => x.2.2.2.1) hplaced
  have hraw : s.enumGrant x depth (a :: l) =
      let v := s.granted x depth a l
      let y := { x with phase := 1, got := [], own := [1, 0], depth := if v.chn.enumerated then v.chn.depth else depth }
      if x.ports.isEmpty then v.enumFinish y else v.setEnum (some y) := by
    simp only [State.enumGrant, hm, State.ownCount_full, if_true, hmin, List.isEmpty_cons, Bool.not_false, decide_true, Bool.and_self,
      Nat.sub_self]
    rfl
  simpa only [hon, hdepth, if_true] using hraw

/-! ### A grant that comes down (R360, R361) -/

/-- The addresses that an ENUM_ASSIGN grants: a range in full enumeration, a list in a join. -/
def grantAddrs (m : Msg) : List Nat :=
  if m.b 8 % 2 = 0 then (List.range (m.h 10)).map fun i => m.h 12 + i else (List.range (m.h 10)).map fun i => m.h (12 + 2 * i)

theorem grantAddrs_cons {m : Msg} (h : 1 ≤ m.h 10) : ∃ l, grantAddrs m = m.h 12 :: l := by
  obtain ⟨n, hn⟩ := Nat.exists_eq_succ_of_ne_zero (Nat.one_le_iff_ne_zero.mp h)
  rw [grantAddrs, hn, List.range_succ_eq_map]
  split
  · exact ⟨_, rfl⟩
  · exact ⟨_, rfl⟩

theorem grantAddrs_nil {m : Msg} (h : m.h 10 = 0) : grantAddrs m = [] := by
  simp [grantAddrs, h]

/-- What an ENUM_ASSIGN does at the device that takes it. -/
def State.takeGrant (s : State) (m : Msg) : State :=
  match s.chn.enum_ with
  | some x => if x.gen = m.xact && x.phase = 1 then s.enumGrant x (m.b 9) (grantAddrs m) else s
  | none =>
    match grantAddrs m with
    | a :: _ => if s.chn.enumerated then s else ((s.takeAddress a (m.b 9)).wr .CHN_ENUM_GEN 0 0 (mkW m.xact)).announce []
    | [] => s

theorem State.enumAssign_eq (s : State) (p : Nat) : s.enumAssign p = s.internal p 0x0003 State.takeGrant (fun s _ _ => s) := rfl

section
variable {s : State} {m : Msg}

/-- A grant outside an enumeration places a device that has no address. -/
theorem State.takeGrant_join (he : s.chn.enum_ = none) (hoff : s.chn.enumerated = false) (h : 1 ≤ m.h 10) :
    (s.takeGrant m).placed = (mkW (m.h 12), mkW m.xact, true, m.b 9, none) := by
  obtain ⟨l, hl⟩ := grantAddrs_cons h
  have haddr : ((s.takeAddress (m.h 12) (m.b 9)).wr .CHN_ENUM_GEN 0 0 (mkW m.xact)).rd .SYS_ADDR = mkW (m.h 12) :=
    (State.rd_wr_ne _ _ (by decide)).trans (State.rd_wr_same ..)
  simp only [State.takeGrant, he, hl, hoff, Bool.false_eq_true, if_false, State.announce_placed]
  simp only [State.placed, haddr, State.rd_wr_same, ← he]
  rfl

/-- It does nothing at a device that has one, or where it grants nothing. -/
theorem State.takeGrant_idle (he : s.chn.enum_ = none) (h : s.chn.enumerated = true ∨ m.h 10 = 0) : s.takeGrant m = s := by
  simp only [State.takeGrant, he]
  split
  case h_1 hl =>
    rcases h with h | h
    · simp only [h, if_true]
    · exact absurd (hl.symm.trans (grantAddrs_nil h)) (List.cons_ne_nil _ _)
  case h_2 => rfl

variable {x : Xact} (he : s.chn.enum_ = some x)
include he

/-- A grant of another enumeration, or one that comes before its time, does nothing. -/
theorem State.takeGrant_stray (h : x.gen ≠ m.xact ∨ x.phase ≠ 1) : s.takeGrant m = s := by
  rcases h with h | h
  · simp [State.takeGrant, he, h]
  · simp [State.takeGrant, he, h]

/-- A grant of full enumeration at a device whose ports it did not ask places it and ends the enumeration there. -/
theorem State.takeGrant_leaf (hg : x.gen = m.xact) (hph : x.phase = 1) (hm : x.mode = 0) (h : 1 ≤ m.h 10) (hc : x.cmd = none)
    (hx : x.ports = []) : (s.takeGrant m).placed = (mkW (m.h 12), mkW x.gen, true, m.b 9, none) ∧
      (s.downUp = [] → (s.takeGrant m).chn.route = [(m.h 12, 1)]) := by
  obtain ⟨l, hl⟩ := grantAddrs_cons h
  have hgrant : s.takeGrant m =
      (s.granted x (m.b 9) (m.h 12) l).enumFinish { x with phase := 1, got := [], own := [1, 0], depth := m.b 9 } := by
    simp only [State.takeGrant, he, hg, hph, decide_true, Bool.and_self, if_true, hl, s.enumGrant_full hm, hx, List.isEmpty_nil]
  rw [hgrant, State.enumFinish_up (y := { x with phase := 1, got := [], own := [1, 0], depth := m.b 9 }) hc]
  refine ⟨?_, fun hd => ?_⟩
  · rw [State.placed_of_unnumbered (State.sendLink_unnumbered ..)]
    have hp := s.granted_placed x (m.b 9) (m.h 12) l
    exact congrArg (fun z => (z.1, z.2.1, z.2.2.1, z.2.2.2.1, none)) hp
  · rw [State.route_of_unnumbered (State.sendLink_unnumbered ..)]
    exact State.granted_alone hx hd ..

end

end Sys2Proof.Machine
end

section
/-!
PROOF. The census, broadcasts and alignment (R357, R361 to R364, R368): what a report or an answer does, and how each exchange ends.
-/
namespace Sys2Proof.Machine

/-- No entry of a list is listed under a key. -/
theorem any_fst_eq_false {β : Type} {l : List (Nat × β)} {a : Nat} (h : ∀ e ∈ l, e.1 ≠ a) : (l.any fun e => decide (e.1 = a)) = false :=
  List.any_eq_false.mpr fun e he => by simpa using h e he

section
variable {s t : State} (h : t.unnumbered = s.unnumbered)
include h

theorem State.census_of_unnumbered : t.chn.census = s.chn.census := by
  have hh := congrArg (fun u : State => u.chn.census) h
  exact hh

theorem State.align_of_unnumbered : t.chn.align = s.chn.align := by
  have hh := congrArg (fun u : State => u.chn.align) h
  exact hh

theorem State.series_of_unnumbered : t.chn.series = s.chn.series := by
  have hh := congrArg (fun u : State => u.chn.series) h
  exact hh

end

/-! ### The census (R362 to R364) -/

/-- A write of a register other than the address changes nothing that commands hold. -/
theorem State.wr_holding (s : State) {r : RegId} {i j : Nat} (v : Word) (hr : RegId.off .SYS_ADDR 0 0 ≠ r.off i j) :
    (s.wr r i j v).holding = s.holding := by
  have haddr : (s.wr r i j v).ownAddr = s.ownAddr := congrArg (fld · 13 0) (State.rd_wr_ne s _ hr)
  simp only [State.holding, haddr]
  rfl

theorem State.censusStore_holding (s : State) (gen : Nat) (passed : Bool) : (s.censusStore gen passed).holding = s.holding :=
  calc (((s.wr .CHN_CENSUS_GEN 0 0 (mkW gen)).wr .CHN_CENSUS_EPOCH_LO 0 0 (lo32 s.epoch.toNat)).wr .CHN_CENSUS_EPOCH_HI 0 0
          (hi32 s.epoch.toNat)).holding
    _ = ((s.wr .CHN_CENSUS_GEN 0 0 (mkW gen)).wr .CHN_CENSUS_EPOCH_LO 0 0 (lo32 s.epoch.toNat)).holding :=
      State.wr_holding _ _ (by decide)
    _ = (s.wr .CHN_CENSUS_GEN 0 0 (mkW gen)).holding := State.wr_holding _ _ (by decide)
    _ = s.holding := State.wr_holding _ _ (by decide)

theorem join64_lo32_hi32 (v : W64) : join64 (lo32 v.toNat) (hi32 v.toNat) = v := by
  have := v.isLt
  apply BitVec.eq_of_toNat_eq
  simp only [join64, lo32, hi32, mkW, BitVec.toNat_ofNat]
  omega

/-- The result of a census, as a participant stores it. -/
theorem State.censusStore_rd (s : State) (gen : Nat) (passed : Bool) : (s.censusStore gen passed).rd .CHN_CENSUS_GEN = mkW gen ∧
    (s.censusStore gen passed).rd64 .CHN_CENSUS_EPOCH_LO .CHN_CENSUS_EPOCH_HI 0 = s.epoch := by
  have hgen : (s.censusStore gen passed).rd .CHN_CENSUS_GEN = mkW gen :=
    (State.rd_wr_ne _ _ (by decide)).trans ((State.rd_wr_ne _ _ (by decide)).trans (State.rd_wr_same ..))
  have hlo : (s.censusStore gen passed).rd .CHN_CENSUS_EPOCH_LO = lo32 s.epoch.toNat :=
    (State.rd_wr_ne _ _ (by decide)).trans (State.rd_wr_same ..)
  have hhi : (s.censusStore gen passed).rd .CHN_CENSUS_EPOCH_HI = hi32 s.epoch.toNat := State.rd_wr_same ..
  exact ⟨hgen, by rw [State.rd64, hlo, hhi, join64_lo32_hi32]⟩

/-- The offenders of a census, with their reasons (R363). -/
def State.offenders (s : State) (x : Census) : List (Nat × Nat) :=
  (x.table.map fun e => (e.1, s.reasons x e)).filter fun o => o.2 ≠ 0

/-- A census that ends answers its command, and none is in progress after it. -/
theorem State.censusEnd_waits {s u : State} {x : Census} {q k : Nat} (hw : u.Waits q k) (h : s.holding = u.holding) (hc : x.cmd = ⟨q, k⟩) :
    (s.censusEnd x).chn.census = none ∧ u.Replied (s.censusEnd x) q k (if (s.offenders x).isEmpty then stOK else stCensus)
      [mkW x.table.length, mkW (s.offenders x).length, mkW x.gen] := by
  obtain ⟨v, hv, hhold, hnone⟩ : ∃ v : State, s.censusEnd x = v.finish x.cmd (if (s.offenders x).isEmpty then stOK else stCensus)
      [mkW x.table.length, mkW (s.offenders x).length, mkW x.gen] ∧ v.holding = s.holding ∧ v.chn.census = none := by
    refine ⟨_, rfl, ?_, ?_⟩
    · refine (State.foldl_same State.holding (fun t e => ?_) _ _).trans (State.same_ite State.holding rfl rfl)
      exact State.same_ite State.holding (t.censusStore_holding ..) (State.holding_of_unnumbered (t.sendInternal_unnumbered ..))
    · refine (State.foldl_same (fun t : State => t.chn.census) (fun t e => ?_) _ _).trans ?_
      · exact State.same_ite (fun t : State => t.chn.census) rfl (State.census_of_unnumbered (t.sendInternal_unnumbered ..))
      · split <;> rfl
  obtain ⟨hreplied, queues, heq⟩ := State.finish_waits hw (hhold.trans h) (if (s.offenders x).isEmpty then stOK else stCensus)
    [mkW x.table.length, mkW (s.offenders x).length, mkW x.gen]
  rw [hv, hc]
  exact ⟨heq ▸ hnone, hreplied⟩

section
variable {s : State} {x : Census} (hx : s.chn.census = some x)
include hx

/-- A census waits for every participant that can be reached. -/
theorem State.censusTry_open (h : ∃ e ∈ x.table, (∀ r ∈ x.reports, r.1 ≠ e.1) ∧ (e.1 = s.ownAddr ∨ (s.routePort e.1).isSome = true)) :
    s.censusTry = s := by
  obtain ⟨e, he, hr, ha⟩ := h
  have hall : (x.table.all fun e => (x.reports.any fun r => r.1 = e.1) || (e.1 ≠ s.ownAddr && (s.routePort e.1).isNone)) = false := by
    rw [List.all_eq_false]
    refine ⟨e, he, ?_⟩
    rw [any_fst_eq_false hr]
    rcases ha with ha | ha
    · simp [ha]
    · simp [Option.ne_none_iff_isSome.mpr ha]
  simp only [State.censusTry, hx, hall, Bool.false_eq_true, if_false]

theorem State.censusTry_end (h : ∀ e ∈ x.table, (∃ r ∈ x.reports, r.1 = e.1) ∨ e.1 ≠ s.ownAddr ∧ s.routePort e.1 = none) :
    s.censusTry = s.censusEnd x := by
  have hall : (x.table.all fun e => (x.reports.any fun r => r.1 = e.1) || (e.1 ≠ s.ownAddr && (s.routePort e.1).isNone)) = true := by
    simpa using h
  simp only [State.censusTry, hx, hall, if_true]

end

/-- What a CENSUS_REPORT does at the device that takes it. -/
def State.takeReport (s : State) (m : Msg) : State :=
  match s.chn.census with
  | some x =>
    if x.gen = m.xact && !(x.reports.any fun r => r.1 = m.src) then
      ({ s with chn := { s.chn with census := some { x with reports := x.reports ++ [(m.src, (m.content.drop 8).take (m.h 2))] } } }).censusTry
    else s
  | none => s

theorem State.censusReport_eq (s : State) (p : Nat) : s.censusReport p = s.internal p 0x000A State.takeReport (fun s _ _ => s) := rfl

theorem State.takeReport_stray {s : State} {m : Msg}
    (h : ∀ x : Census, s.chn.census = some x → x.gen ≠ m.xact ∨ ∃ r ∈ x.reports, r.1 = m.src) : s.takeReport m = s := by
  unfold State.takeReport
  split
  case h_1 x hx =>
    refine if_neg ?_
    rcases h x hx with hg | hr
    · simp [hg]
    · simpa using fun _ => hr
  case h_2 => rfl

theorem State.takeReport_new {s : State} {m : Msg} {x : Census} (hx : s.chn.census = some x) (hg : x.gen = m.xact)
    (hr : ∀ r ∈ x.reports, r.1 ≠ m.src) : s.takeReport m = ({ s with chn := { s.chn with
      census := some { x with reports := x.reports ++ [(m.src, (m.content.drop 8).take (m.h 2))] } } } : State).censusTry := by
  have hany := any_fst_eq_false hr
  simp only [State.takeReport, hx, hg, hany, decide_true, Bool.not_false, Bool.and_self, if_true]

/-! ### Broadcasts (R357) -/

theorem State.bcastTry_stray {s : State} {num : Nat} (h : ∀ b ∈ s.chn.bcasts, b.num ≠ num) : s.bcastTry num = s := by
  have hnone : (s.chn.bcasts.find? fun b => decide (b.num = num)) = none := by simpa using h
  simp only [State.bcastTry, hnone]

theorem State.bcastTry_only {s : State} {b : Bcast} (hb : s.chn.bcasts = [b]) : s.bcastTry b.num =
    if b.complete then s.decide1 b.cmd (bcastReply b.merged).1 (bcastReply b.merged).2 s.ownAddr else s := by
  have hfind : (s.chn.bcasts.find? fun c => decide (c.num = b.num)) = some b := by simp [hb]
  simp only [State.bcastTry, hfind]
  rfl

/-- An answer to no broadcast in progress changes nothing. -/
theorem State.bcastAnswer_stray {s : State} {num : Nat} (h : ∀ b ∈ s.chn.bcasts, b.num ≠ num) (p : Nat) (ns : List Nat) :
    s.bcastAnswer num p ns = s := by
  have hmap : s.chn.bcasts.map (fun b => if b.num = num ∧ p ∈ b.ports ∧ ¬(b.got.any fun g => decide (g.1 = p)) = true then
      { b with got := b.got ++ [(p, ns)] } else b) = s.chn.bcasts :=
    (List.map_congr_left fun b hb => if_neg fun hn => h b hb hn.1).trans (List.map_id' _)
  simp only [State.bcastAnswer, hmap]
  exact State.bcastTry_stray h

section
variable {s : State} {b : Bcast} {p : Nat} (hb : s.chn.bcasts = [b]) (hp : b.ports.contains p = true) (hg : ∀ g ∈ b.got, g.1 ≠ p)
include hb hp hg

/-- An answer to the one broadcast in progress is kept. -/
theorem State.bcastAnswer_only (ns : List Nat) : s.bcastAnswer b.num p ns =
    ({ s with chn := { s.chn with bcasts := [{ b with got := b.got ++ [(p, ns)] }] } } : State).bcastTry b.num := by
  have hany : ¬(b.got.any fun g => decide (g.1 = p)) = true := by simp [any_fst_eq_false hg]
  have hmem : p ∈ b.ports := by simpa using hp
  have hcond : b.num = b.num ∧ p ∈ b.ports ∧ ¬(b.got.any fun g => decide (g.1 = p)) = true := ⟨rfl, hmem, hany⟩
  rw [State.bcastAnswer, hb, List.map_cons, List.map_nil, if_pos hcond]

variable {y : Bcast} {ns : List Nat} (hy : y = { b with got := b.got ++ [(p, ns)] })
include hy

theorem State.bcastAnswer_open (hc : y.complete = false) :
    s.bcastAnswer b.num p ns = { s with chn := { s.chn with bcasts := [y] } } := by
  subst hy
  rw [State.bcastAnswer_only hb hp hg ns]
  refine (State.bcastTry_only (b := { b with got := b.got ++ [(p, ns)] }) rfl).trans ?_
  rw [hc]
  rfl

/-- The last answer completes the broadcast's command. -/
theorem State.bcastAnswer_last {q k : Nat} {c : Cmd} (hc : y.complete = true) (hcmd : b.cmd = ⟨q, k⟩) (hf : (s.q q).find k = some c)
    (hph : c.phase = .begun) (hr : (s.q q).resetting = false) :
    s.Replied (s.bcastAnswer b.num p ns) q k (bcastReply y.merged).1 (bcastReply y.merged).2 ∧
      (s.bcastAnswer b.num p ns).chn = { s.chn with bcasts := [y] } := by
  have hdone : c.phase ≠ .done := by rw [hph]; decide
  have heq : s.bcastAnswer b.num p ns = ({ s with chn := { s.chn with bcasts := [y] } } : State).decide1 ⟨q, k⟩ (bcastReply y.merged).1
      (bcastReply y.merged).2 s.ownAddr := by
    subst hy
    rw [State.bcastAnswer_only hb hp hg ns]
    refine (State.bcastTry_only (b := { b with got := b.got ++ [(p, ns)] }) rfl).trans ?_
    rw [hc, ← hcmd]
    rfl
  obtain ⟨z, hz, -⟩ := State.decide1_setQ (s := { s with chn := { s.chn with bcasts := [y] } }) hf hdone hr (bcastReply y.merged).1
    (bcastReply y.merged).2 s.ownAddr
  refine ⟨?_, ?_⟩
  · rw [heq]
    exact (State.decide1_replied (s := { s with chn := { s.chn with bcasts := [y] } }) hf hdone hr _ _).of_queues rfl rfl
  · rw [heq, hz]
    rfl

end

/-! ### Alignment (R361, R368) -/

section
variable {s : State} {x : Xact} (hx : s.chn.align = some x)
include hx

/-- An alignment waits for the answers of its ports and for this device's series. -/
theorem State.alignTry_open (h : x.full = false ∨ s.chn.series ≠ 0) : s.alignTry = s := by
  have hwait : (x.full && decide (s.chn.series = 0)) = false := by
    rcases h with h | h <;> simp [h]
  simp only [State.alignTry, hx, hwait, Bool.false_eq_true, if_false]

variable (hfull : x.full = true) (hs : s.chn.series = 0)
include hfull hs

/-- Its end goes up where no command waits for it. -/
theorem State.alignTry_up (hc : x.cmd = none) : s.alignTry.chn.align = none ∧ s.alignTry.chn.series = 0 := by
  simp only [State.alignTry, hx, hfull, hs, hc, decide_true, Bool.and_self, if_true]
  exact ⟨State.align_of_unnumbered (State.sendLink_unnumbered ..), State.series_of_unnumbered (State.sendLink_unnumbered ..)⟩

/-- It answers the command that waits for it. -/
theorem State.alignTry_command {u : State} {q k : Nat} (hw : u.Waits q k) (h : s.holding = u.holding) (hc : x.cmd = some ⟨q, k⟩)
    {r : List Nat} (hr : r = x.ports.foldl (fun a i => alignMerge a (x.of i)) s.alignOwn) : s.alignTry.chn.align = none ∧
      u.Replied s.alignTry q k stOK [mkW (r.getD 0 0), mkW (r.getD 1 0), mkW (r.getD 2 0)] := by
  obtain ⟨hreplied, queues, heq⟩ := State.finish_waits (s := { s with chn := { s.chn with align := none } }) hw h stOK
    [mkW (r.getD 0 0), mkW (r.getD 1 0), mkW (r.getD 2 0)]
  have htry : s.alignTry = ({ s with chn := { s.chn with align := none } } : State).finish ⟨q, k⟩ stOK
      [mkW (r.getD 0 0), mkW (r.getD 1 0), mkW (r.getD 2 0)] := by
    simp only [State.alignTry, hx, hfull, hs, hc, hr, decide_true, Bool.and_self, if_true]
  rw [htry]
  exact ⟨heq ▸ rfl, hreplied⟩

end

theorem State.alignAnswer_port {s : State} {x : Xact} {p : Nat} (hx : s.chn.align = some x) (hp : x.ports.contains p = true) (ns : List Nat) :
    s.alignAnswer p ns = ({ s with chn := { s.chn with align := some (x.add p ns) } } : State).alignTry := by
  simp only [State.alignAnswer, hx, hp, if_true]

/-- The exchange with which an alignment begins at a device. -/
def State.alignXact (s : State) (gen : Nat) (all : Bool) : Xact :=
  { gen := gen, mode := 0, cmd := none, phase := 0, ports := if all then s.downUp else [], got := [], own := [], depth := 0 }

/-- Asking the ports and the parent changes neither the exchange nor the series. -/
theorem State.alignBegin_eq (s : State) (gen : Nat) (all : Bool) : ∃ v : State, s.alignBegin gen all none = v.alignTry ∧
    v.chn.align = some (s.alignXact gen all) ∧ v.chn.series = if s.portUp 0 then 16 else 0 := by
  obtain ⟨v, hv, hun⟩ : ∃ v : State, s.alignBegin gen all none = v.alignTry ∧ v.unnumbered = State.unnumbered { s with chn := { s.chn with
      align := some (s.alignXact gen all), series := if s.portUp 0 then 16 else 0 } } := by
    refine ⟨_, rfl, (State.same_ite State.unnumbered ?_ rfl).trans (State.foldl_same State.unnumbered
      (fun t _ => t.sendLink_unnumbered ..) _ _)⟩
    exact State.unnumbered_of_unsent (State.sendFlit_unsent ..)
  exact ⟨v, hv, State.align_of_unnumbered hun, State.series_of_unnumbered hun⟩

end Sys2Proof.Machine
end

section
/-!
PROOF. Turn records and markers (R114, R353, R354), and Plaku packets that come over the chain (R33, R34, R346, R356).
-/
namespace Sys2Proof.Machine

/-! ### Records on VC2 -/

/-- A group that follows a turn record takes it. -/
def State.takeTurn (r : TurnRec) (s : State) (g : Nat) : State :=
  if s.rf .Gn_BIND g 0 2 0 = 3 && s.rf .Gn_BIND g 0 31 16 = r.bind && !(s.grp g).turnRecs.contains r then
    s.modGrp g fun x => { x with turnRecs := x.turnRecs ++ [r] }
  else s

theorem State.takeTurnRecord_eq (s : State) (r : TurnRec) : s.takeTurnRecord r = (List.range 8).foldl (State.takeTurn r) s := rfl

theorem State.takeTurn_regs (s : State) (r : TurnRec) (g : Nat) : (s.takeTurn r g).regs = s.regs :=
  State.same_ite State.regs rfl rfl

/-- A record that a group has, it keeps. -/
theorem State.mem_takeTurn {s : State} {r : TurnRec} {g : Nat} (h : r ∈ (s.grp g).turnRecs) (j : Nat) :
    r ∈ ((s.takeTurn r j).grp g).turnRecs := by
  unfold State.takeTurn
  split
  · by_cases hj : g = j
    · subst hj
      rw [State.modGrp, State.grp_setGrp_same]
      exact List.mem_append_left _ h
    · rwa [State.modGrp, State.grp_setGrp_ne _ _ hj]
  · exact h

theorem State.mem_takeTurn_follower {s : State} {r : TurnRec} {g : Nat} (hm : s.rf .Gn_BIND g 0 2 0 = 3)
    (hb : s.rf .Gn_BIND g 0 31 16 = r.bind) : r ∈ ((s.takeTurn r g).grp g).turnRecs := by
  by_cases h : r ∈ (s.grp g).turnRecs
  · exact State.mem_takeTurn h g
  · have hcond : (s.rf .Gn_BIND g 0 2 0 = 3 && s.rf .Gn_BIND g 0 31 16 = r.bind && !(s.grp g).turnRecs.contains r) = true := by
      simp [hm, hb, h]
    rw [State.takeTurn, if_pos hcond, State.modGrp, State.grp_setGrp_same]
    exact List.mem_append_right _ (List.mem_singleton_self r)

theorem State.mem_foldl_takeTurn {r : TurnRec} {g : Nat} {l : List Nat} {s : State}
    (h : r ∈ (s.grp g).turnRecs ∨ g ∈ l ∧ s.rf .Gn_BIND g 0 2 0 = 3 ∧ s.rf .Gn_BIND g 0 31 16 = r.bind) :
    r ∈ ((l.foldl (State.takeTurn r) s).grp g).turnRecs := by
  induction l generalizing s with
  | nil => exact h.resolve_right fun h => List.not_mem_nil h.1
  | cons j l ih =>
    refine ih ?_
    rcases h with h | ⟨hl, hm, hb⟩
    · exact .inl (State.mem_takeTurn h j)
    · rcases List.mem_cons.mp hl with rfl | hl
      · exact .inl (State.mem_takeTurn_follower hm hb)
      · have hrf : ∀ a b, (s.takeTurn r j).rf .Gn_BIND g 0 a b = s.rf .Gn_BIND g 0 a b := fun _ _ => by
          simp only [State.rf, State.rd, State.takeTurn_regs]
        exact .inr ⟨hl, (hrf ..).trans hm, (hrf ..).trans hb⟩

theorem State.regs_of_unsent {s t : State} (h : t.unsent = s.unsent) : t.regs = s.regs := by
  have hh := congrArg State.regs h
  exact hh

/-- A turn record that floods the tree reaches the groups that follow its BIND_ID. -/
theorem State.mem_flood_takeTurnRecord {s : State} {p : Nat} {b : List Byte} {g : Nat} {r : TurnRec} (hg : g < 8)
    (hm : s.rf .Gn_BIND g 0 2 0 = 3) (hb : s.rf .Gn_BIND g 0 31 16 = r.bind) :
    r ∈ (((s.flood p b).takeTurnRecord r).grp g).turnRecs := by
  have hrf : ∀ a c, (s.flood p b).rf .Gn_BIND g 0 a c = s.rf .Gn_BIND g 0 a c := fun _ _ => by
    simp only [State.rf, State.rd, State.regs_of_unsent (s.flood_unsent p b)]
  rw [State.takeTurnRecord_eq]
  exact State.mem_foldl_takeTurn (.inr ⟨List.mem_range.mpr hg, (hrf ..).trans hm, (hrf ..).trans hb⟩)

/-! ### Plaku packets (R33, R34, R356) -/

section
variable {s u : State} {m : Msg} {p : Nat} (h : s.takeMsg p (fun m => !m.internal) = some (m, u))
include h

theorem State.plakuMessage_root (hb : m.bcast = true) (hp : p ≠ 0) (ht : u.isTop = true) : s.plakuMessage p = u.fromChain m := by
  simp only [State.plakuMessage, h, hb, hp, ht, if_true, if_false]

theorem State.plakuMessage_up (hb : m.bcast = true) (hp : p ≠ 0) (ht : u.isTop = false) :
    s.plakuMessage p = u.sendMsg 0 0 ⟨m.dest, m.bcast, false, m.src, m.num⟩ m.content := by
  simp only [State.plakuMessage, h, hb, hp, ht, if_true, if_false, Bool.false_eq_true]

theorem State.plakuMessage_down (hb : m.bcast = true) (hp : p = 0) : s.plakuMessage p =
    (u.downUp.foldl (fun s d => s.sendMsg d 0 ⟨m.dest, m.bcast, false, m.src, m.num⟩ m.content) u).fromChain m := by
  subst hp
  simp only [State.plakuMessage, h, hb, if_true]

variable (hb : m.bcast = false)
include hb

theorem State.plakuMessage_here (he : u.chn.enumerated = true) (hd : m.dest = u.ownAddr) : s.plakuMessage p =
    if m.vc = 1 then u.takeReply m else u.fromChain m := by
  simp only [State.plakuMessage, h, hb, he, hd, decide_true, Bool.and_self, Bool.false_eq_true, if_true, if_false]

variable (hd : u.chn.enumerated = false ∨ m.dest ≠ u.ownAddr)
include hd

theorem State.plakuMessage_forward {d : Nat} (hr : u.routePort m.dest = some d) (hup : u.portUp d = true) :
    s.plakuMessage p = u.sendMsg d m.vc ⟨m.dest, m.bcast, false, m.src, m.num⟩ m.content := by
  have hfar : (u.chn.enumerated && decide (m.dest = u.ownAddr)) = false := by
    rcases hd with h | h <;> simp [h]
  simp only [State.plakuMessage, h, hb, hfar, hr, hup, Bool.false_eq_true, if_true, if_false]

theorem State.plakuMessage_nowhere (hr : ∀ d, u.routePort m.dest = some d → u.portUp d = false) :
    s.plakuMessage p = if m.vc = 0 then u.unreachableReply m else u := by
  have hfar : (u.chn.enumerated && decide (m.dest = u.ownAddr)) = false := by
    rcases hd with h | h <;> simp [h]
  simp only [State.plakuMessage, h, hb, hfar, Bool.false_eq_true, if_false]
  split
  case h_1 d hr' => simp only [hr d hr', Bool.false_eq_true, if_false]
  case h_2 => rfl

end

/-- A packet joins the commands from the chain whatever has gone out. -/
theorem State.fromChain_unsent (s : State) (m : Msg) : (s.fromChain m).unsent = s.unsent.fromChain m := rfl

theorem State.fromChain_of_unsent {s t : State} (h : t.unsent = s.unsent) (m : Msg) :
    (t.fromChain m).unsent = (s.fromChain m).unsent := by
  rw [State.fromChain_unsent, h, State.fromChain_unsent]

/-- A reply decides the one command that waits for it. -/
theorem State.takeReply_eq {s : State} {m : Msg} {q : Nat} {c : Cmd} (hq : q < 9) (hm : leAt m.content 4 2 / 4096 = q)
    (hc : (s.q q).inflight.filter (fun y => y.phase = .begun && y.hdr.tag = leAt m.content 4 2 % 4096 && y.hdr.seq = leAt m.content 8 4) =
      [c]) : s.takeReply m = s.decide1 ⟨q, c.k⟩ (leAt m.content 3 1) ((wordsOf (m.content.drop 16)).take (leAt m.content 6 2))
        (leAt m.content 12 2) := by
  have hfind : ((s.q q).inflight.find? fun y => y.phase = .begun && y.hdr.tag = leAt m.content 4 2 % 4096 &&
      y.hdr.seq = leAt m.content 8 4) = some c := by
    rw [← List.head?_filter, hc, List.head?_cons]
  simp only [State.takeReply, hm, hfind, hq, if_true]

/-- That command has begun. -/
theorem begun_of_filter {l : List Cmd} {c : Cmd} {tag seq : Nat}
    (hc : l.filter (fun y => y.phase = .begun && y.hdr.tag = tag && y.hdr.seq = seq) = [c]) : c.phase = .begun := by
  have hmem := List.mem_filter.mp (hc ▸ List.mem_singleton_self c)
  simp only [Bool.and_eq_true, decide_eq_true_eq] at hmem
  exact hmem.2.1.1

end Sys2Proof.Machine
end

section
/-!
PROOF. The instructions that act on messages and records of the chain, and the statement about them (R33, R114, R353, R357, R361 to R368).
-/
namespace Sys2Proof.Machine

/-! ### What each instruction does with a message that is taken here -/

/-- An instruction that acts on the oldest message of a type, where that is taken here. -/
theorem exec_taken {i : Instr} {own : State → Msg → State} {pass : State → Msg → Nat → State} {s u : State} {m : Msg} {p ty : Nat}
    (hi : exec i s = .next (s.onMain fun s => s.internal p ty own pass)) (hrst : s.mgt.rst = false)
    (htake : s.takeMsg p (fun m => m.internal && m.mtype = ty) = some (m, u)) (ht : u.TakesMsg m) : exec i s = .next (own u m) :=
  hi.trans (congrArg Host.Outcome.next ((s.onMain_out hrst _).trans (State.internal_own own pass htake ht)))

/-- The instructions that act on messages, in the order of their types. -/
theorem internal_passes {p : Fin 3} {s u : State} {m : Msg} {e : Nat × Instr} (hrst : s.mgt.rst = false) (he : e ∈ internalInstrs p) :
    (s.takeMsg p (fun m => m.internal && m.mtype = e.1) = none → exec e.2 s = .next s) ∧
    (s.takeMsg p (fun m => m.internal && m.mtype = e.1) = some (m, u) → ¬ u.TakesMsg m →
      (u.routePort m.dest = none → exec e.2 s = .next u) ∧
      (∀ d : Nat, u.routePort m.dest = some d → exec e.2 s =
        .next ((u.onWay e.1 m d).sendMsg d m.vc ⟨m.dest, false, true, m.src, m.num⟩ m.content))) := by
  obtain ⟨own, hexec⟩ := exec_internal he
  refine ⟨fun hnone => ?_, fun htake ht => ⟨fun hr => ?_, fun d hr => ?_⟩⟩
  · rw [hexec s hrst, State.internal_none _ _ hnone]
  · rw [hexec s hrst, State.internal_stop _ _ htake ht hr]
  · rw [hexec s hrst, State.internal_forward _ _ htake ht hr]

theorem exec_main {i : Instr} {f : State → State} {s v : State} (hi : exec i s = .next (s.onMain f)) (hrst : s.mgt.rst = false)
    (h : f s = v) : exec i s = .next v :=
  hi.trans (congrArg Host.Outcome.next ((s.onMain_out hrst f).trans h))

/-- The last count of full enumeration at the root: the root has address 0, and waits for the totals of its ports (R348). -/
theorem State.enumCounted_root {s : State} {y : Xact} (hc : y.cmd.isSome = true) (hm : y.mode = 0) (hp : y.ports ≠ []) : ∃ l,
    s.enumCounted y = (s.granted y 0 0 l).setEnum (some { y with phase := 1, got := [], own := [1, 0], depth := 0 }) := by
  obtain ⟨c, hc⟩ := Option.isSome_iff_exists.mp hc
  obtain ⟨l, hl⟩ := s.rootGrant_full hm
  have hports : y.ports.isEmpty = false := by simpa using hp
  refine ⟨l, ?_⟩
  simp only [State.enumCounted, hc, hl, s.enumGrant_full hm, hports, Bool.false_eq_true, if_false]

/-- The enumeration that a message names is the one in progress. -/
theorem State.enum_gen {u : State} {x : Xact} {m : Msg} (hx : u.chn.enum_ = some x) (hg : x.gen = m.xact) :
    u.chn.enum_.map (fun x => x.gen) = some m.xact := by
  rw [hx, ← hg]
  rfl

/-- A block's vector touches its pending bit or what has gone out. -/
theorem State.irqIf_eq (s : State) (r : RegId) (i en : Nat) : ∃ pend sent, s.irqIf r i en = { s with msixPend := pend, sent := sent } := by
  unfold State.irqIf
  split
  · obtain ⟨pend, h⟩ := s.irq_eq (s.rf r i 0 13 8)
    exact ⟨_, _, h⟩
  · exact ⟨s.msixPend, s.sent, rfl⟩

section
variable {p : Fin 3} {s u : State} {m : Msg} (hrst : s.mgt.rst = false)
include hrst

/-! ### Enumeration (R348, R361) -/

/-- ENUM_COUNT of the enumeration in progress: the count is kept; the last goes up, or the root hands out addresses. -/
theorem enumCount_counts (htake : s.takeMsg p (fun m => m.internal && m.mtype = 2) = some (m, u)) (ht : u.TakesMsg m) {x y : Xact}
    (hx : u.chn.enum_ = some x) (hgen : x.gen = m.xact) (hph : x.phase = 0) (hp : x.ports.contains p.val = true) (hfull : x.full = false)
    (hy : y = x.add p [m.h 8, m.b 10]) :
    (y.full = false → ∃ t, exec (.enumCount p) s = .next t ∧ t.chn = { u.chn with enum_ := some y } ∧ { t with chn := u.chn } = u) ∧
    (y.full = true → x.cmd = none → exec (.enumCount p) s = .next ((u.setEnum (some { y with phase := 1 })).sendLink 0 1 0x0002 x.gen
      (leBytes 2 (x.ports.foldl (fun a i => a + y.num i 0) (u.ownCount x.mode)) ++
        leBytes 1 (x.ports.foldl (fun a i => max a (y.num i 1)) x.depth)))) ∧
    (y.full = true → x.cmd.isSome = true → x.mode = 0 →
      ∃ t, exec (.enumCount p) s = .next t ∧ t.rd .SYS_ADDR = 0 ∧ t.chn.enumerated = true ∧ t.rd .CHN_ENUM_GEN = mkW x.gen ∧
        t.chn.enum_ = some { y with phase := 1, got := [], own := [1, 0], depth := 0 }) := by
  subst hy
  have hrun : exec (.enumCount p) s = .next (u.enumAnswer p 0 [m.h 8, m.b 10]) :=
    (exec_taken rfl hrst htake ht).trans (congrArg _ (if_pos (State.enum_gen hx hgen)))
  obtain ⟨got, hy⟩ := x.add_eq p [m.h 8, m.b 10]
  refine ⟨fun hopen => ?_, fun hlast hc => ?_, fun hlast hc hm => ?_⟩
  · exact ⟨_, hrun.trans (congrArg _ (State.enumAnswer_open hx hph hp hfull hopen)), rfl, rfl⟩
  · rw [hrun, State.enumAnswer_last hx hph hp hfull hlast, if_pos rfl, hy]
    exact congrArg _ (State.enumCounted_up (y := { x with got := got }) hc)
  · have hports : x.ports ≠ [] := List.ne_nil_of_mem (List.contains_iff_mem.mp hp)
    obtain ⟨l, hl⟩ := State.enumCounted_root (s := u.setEnum (some { x with got := got })) (y := { x with got := got }) hc hm hports
    rw [hrun, State.enumAnswer_last hx hph hp hfull hlast, if_pos rfl, hy, hl]
    have hplaced := (u.setEnum (some { x with got := got })).granted_placed { x with got := got } 0 0 l
    exact ⟨_, rfl, congrArg (fun z => z.1) hplaced, congrArg (fun z => z.2.2.1) hplaced, congrArg (fun z => z.2.1) hplaced, rfl⟩

/-- ENUM_DONE of the enumeration in progress: the total is kept; the last goes up, or answers the command. -/
theorem enumDone_totals (htake : s.takeMsg p (fun m => m.internal && m.mtype = 4) = some (m, u)) (ht : u.TakesMsg m) {x y : Xact}
    (hx : u.chn.enum_ = some x) (hgen : x.gen = m.xact) (hph : x.phase = 1) (hp : x.ports.contains p.val = true) (hfull : x.full = false)
    (hy : y = x.add p [m.h 8, m.h 10, m.b 12]) :
    (y.full = false → ∃ t, exec (.enumDone p) s = .next t ∧ t.chn = { u.chn with enum_ := some y } ∧ { t with chn := u.chn } = u) ∧
    (y.full = true → x.cmd = none → exec (.enumDone p) s = .next ((u.setEnum none).sendLink 0 1 0x0004 x.gen
      (leBytes 2 (x.ports.foldl (fun a i => a + y.num i 0) (x.own.getD 0 0)) ++
        leBytes 2 (x.ports.foldl (fun a i => a + y.num i 1) (x.own.getD 1 0)) ++
        leBytes 1 (x.ports.foldl (fun a i => max a (y.num i 2)) x.depth)))) ∧
    (∀ (q : Fin 10) (k : Nat), y.full = true → x.cmd = some ⟨q, k⟩ → u.Waits q k →
      ∃ t, exec (.enumDone p) s = .next t ∧ t.chn = { u.chn with enum_ := none } ∧
        u.Replied t q k stOK [mkW u.chn.route.length, mkW (x.ports.foldl (fun a i => max a (y.num i 2)) x.depth), mkW x.gen,
          mkW (x.ports.foldl (fun a i => a + y.num i 1) (x.own.getD 1 0))]) := by
  subst hy
  have hrun : exec (.enumDone p) s = .next (u.enumAnswer p 1 [m.h 8, m.h 10, m.b 12]) :=
    (exec_taken rfl hrst htake ht).trans (congrArg _ (if_pos (State.enum_gen hx hgen)))
  obtain ⟨got, hy⟩ := x.add_eq p [m.h 8, m.h 10, m.b 12]
  refine ⟨fun hopen => ?_, fun hlast hc => ?_, fun q k hlast hc hw => ?_⟩
  · exact ⟨_, hrun.trans (congrArg _ (State.enumAnswer_open hx hph hp hfull hopen)), rfl, rfl⟩
  · rw [hrun, State.enumAnswer_last hx hph hp hfull hlast, if_neg Nat.one_ne_zero, hy]
    exact congrArg _ (State.enumFinish_up (y := { x with got := got }) hc)
  · rw [hrun, State.enumAnswer_last hx hph hp hfull hlast, if_neg Nat.one_ne_zero, hy,
      State.enumFinish_command (y := { x with got := got }) hc]
    obtain ⟨hreplied, queues, heq⟩ := State.finish_waits (s := (u.setEnum (some { x with got := got })).setEnum none) hw rfl stOK
      [mkW u.chn.route.length, mkW (x.ports.foldl (fun a i => max a (Xact.num { x with got := got } i 2)) x.depth), mkW x.gen,
        mkW (x.ports.foldl (fun a i => a + Xact.num { x with got := got } i 1) (x.own.getD 1 0))]
    exact ⟨_, rfl, (congrArg State.chn heq).trans rfl, hreplied⟩

/-- A port that gives no answer in time is taken as empty (R361). -/
theorem exchangeTimeout_enum {x y : Xact} (hx : s.chn.enum_ = some x) (hp : x.ports.contains p.val = true) (hfull : x.full = false)
    (hy : y = x.add p [0, 0, 0]) :
    (y.full = false → exec (.exchangeTimeout .enum p) s = .next { s with chn := { s.chn with enum_ := some y } }) ∧
    (y.full = true → x.phase = 1 → x.cmd = none → ∃ t, exec (.exchangeTimeout .enum p) s = .next t ∧ t.chn.enum_ = none) := by
  have hrun : s.exchangeTimeout .enum p = s.enumAnswer p x.phase [0, 0, 0] := by simp only [State.exchangeTimeout, hx]
  subst hy
  refine ⟨fun hopen => exec_main rfl hrst (hrun.trans (State.enumAnswer_open hx rfl hp hfull hopen)), fun hlast hph hc => ?_⟩
  obtain ⟨got, hy⟩ := x.add_eq p [0, 0, 0]
  rw [State.enumAnswer_last hx rfl hp hfull hlast, hph, if_neg Nat.one_ne_zero, hy,
    State.enumFinish_up (y := { x with got := got }) hc] at hrun
  exact ⟨_, exec_main rfl hrst hrun, State.enum_of_placed (State.placed_of_unnumbered (State.sendLink_unnumbered ..))⟩

/-! ### Joins and the census (R361 to R364, R366) -/

/-- JOIN_MESSAGE at the root with AUTO_JOIN: the child gets the lowest free address, here or by its parent. -/
theorem joinMessage_joins (htake : s.takeMsg p (fun m => m.internal && m.mtype = 5) = some (m, u)) (ht : u.TakesMsg m) {a : Nat}
    (hauto : u.rb .CHN_CTL 0 0 2 = true) (ha : lowestFree u.chn.route = some a) :
    (m.h 8 = u.ownAddr → ∃ t, exec (.joinMessage p) s = .next t ∧ t.rd .CHN_CNT_JOIN = satInc (u.rd .CHN_CNT_JOIN) ∧
      t.chn.route = KMap.insert u.chn.route a (m.b 10 + 1)) ∧
    (∀ d : Nat, m.h 8 ≠ u.ownAddr → u.routePort (m.h 8) = some d → ∃ t, exec (.joinMessage p) s = .next t ∧
      t.rd .CHN_CNT_JOIN = satInc (u.rd .CHN_CNT_JOIN) ∧ t.chn.route = KMap.insert u.chn.route a (d + 1)) := by
  have hrun := exec_taken (i := .joinMessage p) rfl hrst htake ht
  refine ⟨fun hp => ?_, fun d hp hd => ?_⟩
  · rw [hrun, State.joinAtRoot_own hauto ha hp]
    have hun := (u.bump .CHN_CNT_JOIN).grantChild_unnumbered (m.b 10) a
    exact ⟨_, rfl, (State.rd_of_unnumbered hun _).trans (State.rd_wr_same ..), State.route_of_unnumbered hun⟩
  · rw [hrun, State.joinAtRoot_far hauto ha hp hd]
    have hun := ((u.bump .CHN_CNT_JOIN).setRoute a (d + 1)).sendInternal_unnumbered (m.h 8) 0 0x0006 0 (leBytes 2 a ++ leBytes 1 (m.b 10))
    exact ⟨_, rfl, (State.rd_of_unnumbered hun _).trans (State.rd_wr_same ..), State.route_of_unnumbered hun⟩

/-- CENSUS_REPORT of a participant that has not reported: the report is kept, and the last ends the census. -/
theorem censusReport_reports (htake : s.takeMsg p (fun m => m.internal && m.mtype = 10) = some (m, u)) (ht : u.TakesMsg m) {x y : Census}
    (hx : u.chn.census = some x) (hg : x.gen = m.xact) (hr : ∀ r ∈ x.reports, r.1 ≠ m.src)
    (hy : y = { x with reports := x.reports ++ [(m.src, (m.content.drop 8).take (m.h 2))] }) :
    ((∃ e ∈ y.table, (∀ r ∈ y.reports, r.1 ≠ e.1) ∧ (e.1 = u.ownAddr ∨ (u.routePort e.1).isSome = true)) →
      ∃ t, exec (.censusReport p) s = .next t ∧ t.chn = { u.chn with census := some y } ∧ { t with chn := u.chn } = u) ∧
    (∀ (q : Fin 10) (k : Nat) (offs : List (Nat × Nat)),
      (∀ e ∈ y.table, (∃ r ∈ y.reports, r.1 = e.1) ∨ e.1 ≠ u.ownAddr ∧ u.routePort e.1 = none) → x.cmd = ⟨q, k⟩ → u.Waits q k →
      offs = State.offenders { u with chn := { u.chn with census := some y } } y →
      ∃ t, exec (.censusReport p) s = .next t ∧ t.chn.census = none ∧
        u.Replied t q k (if offs.isEmpty then stOK else stCensus) [mkW y.table.length, mkW offs.length, mkW x.gen]) := by
  have hnew := State.takeReport_new hx hg hr
  rw [← hy] at hnew
  have hrun := (exec_taken (i := .censusReport p) rfl hrst htake ht).trans (congrArg _ hnew)
  refine ⟨fun hopen => ⟨_, hrun.trans (congrArg _ (State.censusTry_open rfl hopen)), rfl, rfl⟩, fun q k offs hend hc hw hoffs => ?_⟩
  have hcmd : y.cmd = ⟨q, k⟩ := by rw [hy]; exact hc
  have hgen : y.gen = x.gen := by rw [hy]
  obtain ⟨hnone, hreplied⟩ := State.censusEnd_waits (s := { u with chn := { u.chn with census := some y } }) hw rfl hcmd
  rw [hgen] at hreplied
  exact ⟨_, hrun.trans (congrArg _ (State.censusTry_end rfl hend)), hnone, hoffs ▸ hreplied⟩

/-- A census ends at its timeout with the reports that it has. -/
theorem exchangeTimeout_census {x : Census} {q : Fin 10} {k : Nat} (hx : s.chn.census = some x) (hc : x.cmd = ⟨q, k⟩) (hw : s.Waits q k) :
    ∃ t, exec (.exchangeTimeout .census p) s = .next t ∧ t.chn.census = none ∧
      s.Replied t q k (if (s.offenders x).isEmpty then stOK else stCensus)
        [mkW x.table.length, mkW (s.offenders x).length, mkW x.gen] := by
  have hrun : s.exchangeTimeout .census p = s.censusEnd x := by simp only [State.exchangeTimeout, hx]
  exact ⟨_, exec_main rfl hrst hrun, State.censusEnd_waits hw rfl hc⟩

/-! ### Broadcasts and alignment (R357, R368) -/

/-- BCAST_REPLY of a port of the one broadcast in progress: the answer is kept, and the last completes the broadcast. -/
theorem bcastReply_answers (htake : s.takeMsg p (fun m => m.internal && m.mtype = 12) = some (m, u)) (ht : u.TakesMsg m) {b y : Bcast}
    (hb : u.chn.bcasts = [b]) (hnum : b.num = m.xact) (hp : b.ports.contains p.val = true) (hg : ∀ g ∈ b.got, g.1 ≠ p.val)
    (hy : y = { b with got := b.got ++ [(p.val, [m.h 8, m.h 10, m.h 12, m.b 14, m.b 15, m.w 16])] }) :
    (y.complete = false → exec (.bcastReply p) s = .next { u with chn := { u.chn with bcasts := [y] } }) ∧
    (∀ (q : Fin 10) (k : Nat) (c : Cmd), y.complete = true → b.cmd = ⟨q, k⟩ → (u.q q).find k = some c → c.phase = .begun →
      (u.q q).resetting = false → ∃ t, exec (.bcastReply p) s = .next t ∧
        u.Replied t q k (bcastReply y.merged).1 (bcastReply y.merged).2 ∧ t.chn = { u.chn with bcasts := [y] }) := by
  have hrun := exec_taken (i := .bcastReply p) rfl hrst htake ht
  rw [← hnum] at hrun
  exact ⟨fun hopen => hrun.trans (congrArg _ (State.bcastAnswer_open hb hp hg hy hopen)),
    fun q k c hlast hcmd hf hph hreset => ⟨_, hrun, State.bcastAnswer_last hb hp hg hy hlast hcmd hf hph hreset⟩⟩

/-- A port that gives no answer to a broadcast in time is one failing device (R357). -/
theorem exchangeTimeout_bcast {b y : Bcast} {child : Nat} (hb : s.chn.bcasts = [b]) (hp : b.ports.contains p.val = true)
    (hg : ∀ g ∈ b.got, g.1 ≠ p.val) (hchild : child = ((s.port p).partner.map fun y => y.1).getD 0)
    (hy : y = { b with got := b.got ++ [(p.val, [0, 1, child, stTimeout, 0, 0])] }) :
    (y.complete = false → exec (.exchangeTimeout (.bcast b.num) p) s = .next { s with chn := { s.chn with bcasts := [y] } }) ∧
    (∀ (q : Fin 10) (k : Nat) (c : Cmd), y.complete = true → b.cmd = ⟨q, k⟩ → (s.q q).find k = some c → c.phase = .begun →
      (s.q q).resetting = false → ∃ t, exec (.exchangeTimeout (.bcast b.num) p) s = .next t ∧
        s.Replied t q k (bcastReply y.merged).1 (bcastReply y.merged).2) := by
  have hrun : s.exchangeTimeout (.bcast b.num) p = s.bcastAnswer b.num p [0, 1, child, stTimeout, 0, 0] := by
    rw [hchild]
    rfl
  exact ⟨fun hopen => exec_main rfl hrst (hrun.trans (State.bcastAnswer_open hb hp hg hy hopen)),
    fun q k c hlast hcmd hf hph hreset => ⟨_, exec_main rfl hrst hrun, (State.bcastAnswer_last hb hp hg hy hlast hcmd hf hph hreset).1⟩⟩

/-- ALIGN_REPORT of a port that an alignment waits for: the answer is kept, and the last answers the command. -/
theorem alignReport_answers (htake : s.takeMsg p (fun m => m.internal && m.mtype = 14) = some (m, u)) (ht : u.TakesMsg m) {x y : Xact}
    (hx : u.chn.align = some x) (hp : x.ports.contains p.val = true) (hy : y = x.add p [m.w 8, m.h 12, m.h 14]) :
    (y.full = false ∨ u.chn.series ≠ 0 → exec (.alignReport p) s = .next { u with chn := { u.chn with align := some y } }) ∧
    (∀ (q : Fin 10) (k : Nat) (r : List Nat), y.full = true → u.chn.series = 0 → x.cmd = some ⟨q, k⟩ → u.Waits q k →
      r = x.ports.foldl (fun a i => alignMerge a (y.of i)) u.alignOwn →
      ∃ t, exec (.alignReport p) s = .next t ∧ t.chn.align = none ∧
        u.Replied t q k stOK [mkW (r.getD 0 0), mkW (r.getD 1 0), mkW (r.getD 2 0)]) := by
  have hadd := State.alignAnswer_port hx hp [m.w 8, m.h 12, m.h 14]
  rw [← hy] at hadd
  have hrun := (exec_taken (i := .alignReport p) rfl hrst htake ht).trans (congrArg _ hadd)
  refine ⟨fun hopen => hrun.trans (congrArg _ (State.alignTry_open rfl hopen)), fun q k r hfull hseries hc hw hr => ?_⟩
  obtain ⟨got, hgot⟩ := x.add_eq p [m.w 8, m.h 12, m.h 14]
  have hyx : y = { x with got := got } := hy.trans hgot
  have hcmd : y.cmd = some ⟨q, k⟩ := by rw [hyx]; exact hc
  have hports : y.ports = x.ports := by rw [hyx]
  exact ⟨_, hrun, State.alignTry_command (s := { u with chn := { u.chn with align := some y } }) rfl hfull hseries hw rfl hcmd
    (hports ▸ hr)⟩

/-- ALIGN_QUERY begins an alignment; it ends at once where neither a series nor a port is to be waited for. -/
theorem alignQuery_begins (htake : s.takeMsg p (fun m => m.internal && m.mtype = 13) = some (m, u)) (ht : u.TakesMsg m) :
    (u.portUp 0 = true → ∃ t, exec (.alignQuery p) s = .next t ∧ t.chn.series = 16 ∧
      t.chn.align = some (u.alignXact m.xact (m.b 8 % 2 = 1))) ∧
    (u.portUp 0 = false → m.b 8 % 2 = 0 → ∃ t, exec (.alignQuery p) s = .next t ∧ t.chn.series = 0 ∧ t.chn.align = none) := by
  obtain ⟨v, hv, halign, hseries⟩ := u.alignBegin_eq m.xact (m.b 8 % 2 = 1)
  have hrun := (exec_taken (i := .alignQuery p) rfl hrst htake ht).trans (congrArg _ hv)
  refine ⟨fun hup => ?_, fun hup hall => ?_⟩
  · rw [hup, if_pos rfl] at hseries
    have hopen := State.alignTry_open halign (.inr (by rw [hseries]; decide))
    exact ⟨v, hrun.trans (congrArg _ hopen), hseries, halign⟩
  · have hfull : (u.alignXact m.xact (m.b 8 % 2 = 1)).full = true := by simp [State.alignXact, Xact.full, hall]
    rw [hup, if_neg Bool.false_ne_true] at hseries
    obtain ⟨hnone, hzero⟩ := State.alignTry_up halign hfull hseries rfl
    exact ⟨v.alignTry, hrun, hzero, hnone⟩

/-- A port that gives no answer to an alignment in time adds nothing to it. -/
theorem exchangeTimeout_align {x y : Xact} (hx : s.chn.align = some x) (hp : x.ports.contains p.val = true)
    (hy : y = x.add p [0, 0, 0]) :
    (y.full = false ∨ s.chn.series ≠ 0 → exec (.exchangeTimeout .align p) s = .next { s with chn := { s.chn with align := some y } }) ∧
    (y.full = true → s.chn.series = 0 → x.cmd = none → ∃ t, exec (.exchangeTimeout .align p) s = .next t ∧ t.chn.align = none) := by
  have hrun : s.exchangeTimeout .align p = ({ s with chn := { s.chn with align := some y } } : State).alignTry :=
    hy ▸ State.alignAnswer_port hx hp [0, 0, 0]
  refine ⟨fun hopen => exec_main rfl hrst (hrun.trans (State.alignTry_open rfl hopen)), fun hfull hseries hc => ?_⟩
  obtain ⟨got, hgot⟩ := x.add_eq p [0, 0, 0]
  have hcmd : y.cmd = none := by rw [hy, hgot]; exact hc
  exact ⟨_, exec_main rfl hrst hrun,
    (State.alignTry_up (s := { s with chn := { s.chn with align := some y } }) rfl hfull hseries hcmd).1⟩

/-! ### Records and packets (R33, R114, R353) -/

theorem turnRecord_reaches {b : List Byte} (htake : s.takeRecord p 2 = some (b, u)) :
    ∃ t, exec (.turnRecord p) s = .next t ∧ ∀ (g : Fin 8) (r : TurnRec), u.rf .Gn_BIND g 0 2 0 = 3 →
      u.rf .Gn_BIND g 0 31 16 = leAt b 2 2 → r = ⟨leAt b 2 2, BitVec.ofNat 64 (leAt b 4 8), BitVec.ofNat 64 (leAt b 12 8),
        BitVec.ofNat 64 (leAt b 20 8), BitVec.ofNat 64 (leAt b 28 8), BitVec.ofNat 64 (leAt b 36 8)⟩ → r ∈ (t.grp g).turnRecs := by
  have hrec : s.turnRecord p = (u.flood p b).takeTurnRecord ⟨leAt b 2 2, BitVec.ofNat 64 (leAt b 4 8), BitVec.ofNat 64 (leAt b 12 8),
      BitVec.ofNat 64 (leAt b 20 8), BitVec.ofNat 64 (leAt b 28 8), BitVec.ofNat 64 (leAt b 36 8)⟩ := by
    simp only [State.turnRecord, htake]
  refine ⟨_, exec_main rfl hrst hrec, fun g r hm hb hr => ?_⟩
  rw [hr]
  exact State.mem_flood_takeTurnRecord g.isLt hm hb

theorem broadcastSequenceMarker_waits {b : List Byte} (htake : s.takeRecord p 3 = some (b, u)) :
    ∃ t, exec (.broadcastSequenceMarker p) s = .next t ∧
      t.chn = { u.chn with markers := u.chn.markers ++ [(leAt b 4 4, leAt b 8 2 % 0x4000, leAt b 10 2 % 0x1000)] } ∧
      { t with chn := u.chn, ports := u.ports, sent := u.sent } = u := by
  have hun := u.flood_unsent p b
  have hchn := State.chn_of_unsent hun
  have hmark : s.bcastMarker p = { u.flood p b with chn := { u.chn with
      markers := u.chn.markers ++ [(leAt b 4 4, leAt b 8 2 % 0x4000, leAt b 10 2 % 0x1000)] } } := by
    simp only [State.bcastMarker, htake, hchn]
  exact ⟨_, exec_main rfl hrst hmark, rfl, congrArg (fun z : State => { z with chn := u.chn }) (State.eq_of_unsent hun)⟩

variable (htake : s.takeMsg p (fun m => !m.internal) = some (m, u))
include htake

/-- A broadcast that comes from above goes on to every port below, and executes here. -/
theorem plakuMessage_broadcasts (hb : m.bcast = true) (hp : p = 0) :
    ∃ t, exec (.plakuMessage p) s = .next t ∧ t.queues = (u.fromChain m).queues ∧ t.chn = (u.fromChain m).chn ∧
      { t with queues := u.queues, chn := u.chn, ports := u.ports, sent := u.sent } = u ∧ (u.downUp = [] → t = u.fromChain m) := by
  have hdown := State.plakuMessage_down htake hb (congrArg Fin.val hp)
  have hun := State.foldl_same State.unsent
    (fun t d => t.sendMsg_unsent d 0 ⟨m.dest, m.bcast, false, m.src, m.num⟩ m.content) u.downUp u
  have hjoin := State.fromChain_of_unsent hun m
  refine ⟨_, exec_main rfl hrst hdown, State.queues_of_unnumbered (State.unnumbered_of_unsent hjoin), State.chn_of_unsent hjoin,
    congrArg (fun t : State => { t with queues := u.queues, chn := u.chn, ports := u.ports, sent := u.sent })
      (State.eq_of_unsent hjoin), fun hnone => ?_⟩
  rw [hnone]
  rfl

/-- A reply that comes home decides the command that waits for it (R33). -/
theorem plakuMessage_replies (hb : m.bcast = false) (he : u.chn.enumerated = true) (hd : m.dest = u.ownAddr) {q : Fin 9} {k : Nat} {c : Cmd}
    (hvc : m.vc = 1) (hq : leAt m.content 4 2 / 4096 = q)
    (hc : (u.q q).inflight.filter (fun y => y.phase = .begun && y.hdr.tag = leAt m.content 4 2 % 4096 && y.hdr.seq = leAt m.content 8 4) =
      [c]) (hk : c.k = k) (hf : (u.q q).find k = some c) (hreset : (u.q q).resetting = false) :
    ∃ t, exec (.plakuMessage p) s = .next t ∧ t.replyOf q k = some ⟨leAt m.content 3 1, leAt m.content 3 1, leAt m.content 12 2,
        (wordsOf (m.content.drop 16)).take (leAt m.content 6 2)⟩ ∧
      KMap.agreeBut u.queues t.queues [q.val] ∧ { t with queues := u.queues } = u := by
  subst hk
  have hhere := State.plakuMessage_here htake hb he hd
  rw [if_pos hvc, State.takeReply_eq q.isLt hq hc] at hhere
  obtain ⟨y, hy, -, hdone⟩ := State.decide1_setQ hf (by rw [begun_of_filter hc]; decide) hreset (leAt m.content 3 1)
    ((wordsOf (m.content.drop 16)).take (leAt m.content 6 2)) (leAt m.content 12 2)
  refine ⟨_, exec_main rfl hrst (hhere.trans hy), ?_, u.setQ_agreeBut _ _, rfl⟩
  exact State.replyOf_done ((congrArg (Queue.find · c.k) (State.q_setQ_same ..)).trans hdone) rfl rfl

end

/-- Settles O54, instruction by instruction, from what each does with a message or record that is taken here. -/
theorem chainMessages : Obligations.ChainMessages := by
  intro p s u m hrst
  refine ⟨fun e he => ?_, fun ty htake ht => ?_, ?_⟩
  · obtain ⟨hnone, hpass⟩ := internal_passes (s := s) (u := u) (m := m) hrst he
    refine ⟨hnone, fun htake ht => ⟨(hpass htake ht).1, fun d hr => ⟨fun h6 h7 => ?_, fun h6 => ?_, fun h7 => ?_⟩⟩⟩
    · rw [(hpass htake ht).2 d hr, State.onWay, if_neg h6, if_neg h7]
    · refine ⟨_, (hpass htake ht).2 d hr, ?_⟩
      rw [State.chn_of_unsent (State.sendMsg_unsent ..), h6]
      rfl
    · refine ⟨_, (hpass htake ht).2 d hr, fun a => ?_⟩
      rw [State.chn_of_unsent (State.sendMsg_unsent ..), h7]
      exact u.freeRoutes_find _ _
  · refine ⟨?_, ?_, ?_, ?_, ?_, ?_, ?_, ?_, ?_, ?_, ?_, ?_, ?_, ?_, ?_, ?_, ?_, ?_, ?_, ?_, ?_, ?_⟩
    · rintro rfl
      exact ⟨_, exec_taken rfl hrst htake ht, u.enumBegin_enum _ _ _⟩
    · rintro rfl hgen
      exact (exec_taken rfl hrst htake ht).trans (congrArg _ (if_neg hgen))
    · rintro x y rfl hx hgen hph hp hfull hy
      exact enumCount_counts hrst htake ht hx hgen hph hp hfull hy
    · rintro rfl hn he hoff
      have hplaced := State.takeGrant_join he hoff hn
      exact ⟨_, exec_taken rfl hrst htake ht, congrArg (fun z => z.1) hplaced, congrArg (fun z => z.2.2.1) hplaced,
        congrArg (fun z => z.2.2.2.1) hplaced, congrArg (fun z => z.2.1) hplaced⟩
    · rintro rfl he h
      exact (exec_taken rfl hrst htake ht).trans (congrArg _ (State.takeGrant_idle he h))
    · rintro x rfl hx
      refine ⟨fun h => (exec_taken rfl hrst htake ht).trans (congrArg _ (State.takeGrant_stray hx h)),
        fun hg hph _ hm hn hc hports => ?_⟩
      obtain ⟨hplaced, hroute⟩ := State.takeGrant_leaf hx hg hph hm hn hc hports
      exact ⟨_, exec_taken rfl hrst htake ht, congrArg (fun z => z.1) hplaced, congrArg (fun z => z.2.2.1) hplaced,
        congrArg (fun z => z.2.2.2.1) hplaced, hroute, congrArg (fun z => z.2.2.2.2) hplaced, congrArg (fun z => z.2.1) hplaced⟩
    · rintro rfl hgen
      exact (exec_taken rfl hrst htake ht).trans (congrArg _ (if_neg hgen))
    · rintro x y rfl hx hgen hph hp hfull hy
      exact enumDone_totals hrst htake ht hx hgen hph hp hfull hy
    · rintro rfl
      exact ⟨fun h => (exec_taken rfl hrst htake ht).trans (congrArg _ (State.joinAtRoot_counted h)),
        fun a hauto ha => joinMessage_joins hrst htake ht hauto ha⟩
    · rintro rfl
      exact ⟨_, exec_taken rfl hrst htake ht, State.route_of_unnumbered (u.grantChild_unnumbered ..)⟩
    · rintro rfl
      exact ⟨_, exec_taken rfl hrst htake ht, State.rd_wr_same .., fun a => u.freeRoutes_find _ a, rfl⟩
    · rintro rfl
      have hrun := exec_taken (i := .exclude p) rfl hrst htake ht
      obtain ⟨pend, sent, hirq⟩ := (u.bump .CHN_CNT_EXCL_RX).irqIf_eq .CHN_CTL 0 3
      refine ⟨_, hrun.trans (congrArg _ hirq), ?_, rfl⟩
      exact State.rd_wr_same ..
    · rintro rfl
      exact exec_taken (i := .censusQuery p) (own := fun s m => s.sendInternal 0 1 0x000A m.xact s.reportBody) rfl hrst htake ht
    · rintro rfl h
      exact (exec_taken rfl hrst htake ht).trans (congrArg _ (State.takeReport_stray h))
    · rintro x y rfl hx hg hr hy
      exact censusReport_reports hrst htake ht hx hg hr hy
    · rintro rfl
      obtain ⟨hgen, hepoch⟩ := u.censusStore_rd m.xact (m.b 8 % 2 = 1)
      exact ⟨_, exec_taken rfl hrst htake ht, hgen, hepoch, rfl, rfl⟩
    · rintro rfl h
      exact (exec_taken rfl hrst htake ht).trans (congrArg _ (State.bcastAnswer_stray h _ _))
    · rintro b y rfl hb hnum hp hg hy
      obtain ⟨hopen, hlast⟩ := bcastReply_answers hrst htake ht hb hnum hp hg hy
      exact ⟨hopen, fun q k c r hfull hcmd hf hph hreset hr => hr ▸ hlast q k c hfull hcmd hf hph hreset⟩
    · rintro rfl hup
      simpa [State.alignXact] using (alignQuery_begins hrst htake ht).1 hup
    · rintro rfl
      exact (alignQuery_begins hrst htake ht).2
    · rintro rfl hx
      refine (exec_taken rfl hrst htake ht).trans (congrArg _ ?_)
      simp only [State.alignAnswer, hx]
    · rintro x y rfl hx hp hy
      exact alignReport_answers hrst htake ht hx hp hy
  · refine ⟨fun hnone => ?_, fun b => turnRecord_reaches hrst, fun hnone => ?_, fun b => broadcastSequenceMarker_waits hrst,
      fun x y => exchangeTimeout_enum hrst, fun x y => exchangeTimeout_align hrst,
      fun x q k offs hx hc hw hoffs => hoffs ▸ exchangeTimeout_census hrst hx hc hw, fun b y child hb hp hg hchild hy => ?_,
      fun hnone => ?_, fun hnone => ?_, fun hnone => ?_, fun hnone num => ?_, fun hnone => ?_,
      fun h own fwd htake hh hown => ⟨fun hb => ?_, fun hb he hd => ?_, fun hb hd hfwd => ?_⟩⟩
    · exact exec_main rfl hrst (by simp only [State.turnRecord, hnone])
    · exact exec_main rfl hrst (by simp only [State.bcastMarker, hnone])
    · obtain ⟨hopen, hlast⟩ := exchangeTimeout_bcast hrst hb hp hg hchild hy
      exact ⟨hopen, fun q k c r hfull hcmd hf hph hreset hr => hr ▸ hlast q k c hfull hcmd hf hph hreset⟩
    · exact exec_main rfl hrst (by simp only [State.exchangeTimeout, hnone])
    · exact exec_main rfl hrst (by simp only [State.exchangeTimeout, State.alignAnswer, hnone])
    · exact exec_main rfl hrst (by simp only [State.exchangeTimeout, hnone])
    · exact exec_main rfl hrst (State.bcastAnswer_stray (by simp [hnone]) _ _)
    · exact exec_main rfl hrst (by simp only [State.plakuMessage, hnone])
    · subst hh hown
      exact ⟨fun hp ht => exec_main rfl hrst (State.plakuMessage_root htake hb (fun h => hp (Fin.ext h)) ht),
        fun hp ht => exec_main rfl hrst (State.plakuMessage_up htake hb (fun h => hp (Fin.ext h)) ht),
        plakuMessage_broadcasts hrst htake hb⟩
    · subst hown
      exact ⟨fun hvc => exec_main rfl hrst ((State.plakuMessage_here htake hb he hd).trans (if_neg hvc)),
        fun q k c hvc hq hc hk hf hreset => plakuMessage_replies hrst htake hb he hd hvc hq hc hk hf hreset⟩
    · subst hh hfwd
      refine ⟨fun d hr hup => exec_main rfl hrst (State.plakuMessage_forward htake hb hd hr hup), fun hr => ?_⟩
      have hno := State.plakuMessage_nowhere htake hb hd hr
      exact ⟨fun hvc => exec_main rfl hrst (hno.trans (if_pos hvc)), fun hvc => exec_main rfl hrst (hno.trans (if_neg hvc))⟩

end Sys2Proof.Machine
end
section
/-!
PROOF. Direct writes of control registers that nothing refuses (R66, R70, R74), and single bits of a word.
-/
namespace Sys2Proof.Machine

/-! ### Bits of a word -/

theorem bit_mkW (n i : Nat) : bit (mkW n) i = (decide (i < 32) && n.testBit i) := BitVec.getLsbD_ofNat 32 n i

theorem bit_setBit (w : Word) (i : Nat) (b : Bool) {j : Nat} (hj : j < 32) :
    bit (setBit w i b) j = if i = j then b else bit w j := by
  have hone : (mkW (2 ^ i)).getLsbD j = decide (i = j) := by
    rw [← bit, bit_mkW, Nat.testBit_two_pow, decide_eq_true hj, Bool.true_and]
  cases b <;>
    simp only [bit, setBit, if_true, Bool.false_eq_true, if_false, BitVec.getLsbD_or, BitVec.getLsbD_and, BitVec.getLsbD_not, hone, hj,
      decide_true, Bool.true_and] <;>
    by_cases h : i = j <;> simp [h]

theorem bit_setBit_same {i : Nat} (h : i < 32) (w : Word) (b : Bool) : bit (setBit w i b) i = b := by
  rw [bit_setBit w i b h, if_pos rfl]

/-- Bits that a mask names are kept by it. -/
theorem bit_and_mask {m i : Nat} (hi : i < 32) (hm : m.testBit i = true) (w : Word) : bit (w &&& mkW m) i = bit w i := by
  have hmask : (mkW m).getLsbD i = true := by rw [← bit, bit_mkW, hm, decide_eq_true hi, Bool.true_and]
  rw [bit, BitVec.getLsbD_and, hmask, Bool.and_true, bit]

/-! ### Control registers -/

/-- A mask of all bits leaves nothing of the old word. -/
theorem blend_full (old v : Word) : blend (mkW 0xFFFFFFFF) old v = v := by
  rw [blend, show mkW 0xFFFFFFFF = BitVec.allOnes 32 by decide, BitVec.and_allOnes, BitVec.not_allOnes, BitVec.and_zero, BitVec.zero_or]

/-- The registers that these commands write directly: neither locked nor governed by a running bit. -/
def controlRegs : List RegId := [.SYS_EN, .ERR_CTL, .Gn_CTL, .Gn_STAGE_CTL, .Gn_FREQ_LO]

/-- A control register is found at its own offset. -/
theorem at?_control {r : RegId} (hr : r ∈ controlRegs) {i : Nat} (hi : i < r.row.n1) :
    RegId.at? (r.off i 0) = some (r, i, 0) ∧ regOffset (r.off i 0) = true := by
  have hall : ∀ r ∈ controlRegs, ∀ i < 8, i < r.row.n1 → RegId.at? (r.off i 0) = some (r, i, 0) ∧ regOffset (r.off i 0) = true := by
    decide +kernel
  have h8 : ∀ r ∈ controlRegs, r.row.n1 ≤ 8 := by decide
  exact hall r hr i (hi.trans_le (h8 r hr)) hi

theorem writeCause_control {s : State} {r : RegId} (hr : r ∈ controlRegs) {i : Nat} (hi : i < r.row.n1) (q8 : Bool) (v : Word) :
    s.writeCause q8 (r.off i 0) v = none := by
  have hat := (at?_control hr hi).1
  simp only [controlRegs, List.mem_cons, List.not_mem_nil, or_false] at hr
  rcases hr with rfl | rfl | rfl | rfl | rfl <;>
    simp [State.writeCause, hat, RegId.row, State.notPermitted, RegId.q8, touches, State.gainDenied, State.routeMoves,
      State.requestPending]

/-- A direct write of a whole register that nothing refuses is taken. -/
theorem State.directWrite_taken {s : State} {off : Nat} {ref : RegRef} {v : Word} (hoff : regOffset off = true)
    (href : RegId.at? off = some ref) (hcause : s.writeCause false off v = none) : s.directWrite off v = s.directTaken ref off v := by
  have ho : off % 2 ^ 20 / 4 * 4 = off ∧ off % 4 = 0 := by
    simp only [regOffset, Bool.and_eq_true, decide_eq_true_eq] at hoff
    omega
  simp only [State.directWrite, ho, href, hcause, ne_eq, not_true_eq_false, decide_false, Bool.or_self, Bool.false_eq_true, if_false]

/-- A write of a control register that no set takes and that releases no set takes effect at once. -/
theorem State.directWrite_control {s : State} {r : RegId} (hr : r ∈ controlRegs) {i : Nat} (hi : i < r.row.n1) {v : Word}
    (hstage : s.stageGroup (r, i, 0) v = none) (hfree : r = .Gn_STAGE_CTL → s.holdBlocked i v = false) :
    s.directWrite (r.off i 0) v = s.writeNow false none (r, i, 0) v := by
  obtain ⟨hat, hoff⟩ := at?_control hr hi
  rw [State.directWrite_taken hoff hat (writeCause_control hr hi false v)]
  simp only [controlRegs, List.mem_cons, List.not_mem_nil, or_false] at hr
  rcases hr with rfl | rfl | rfl | rfl | rfl <;>
    simp [State.directTaken, State.writeCfg, hstage, State.confineAt, hat, hfree]

/-- A register that is no staged one joins no set. -/
theorem State.stageGroup_unstaged {s : State} {r : RegId} (h : r.row.cls ≠ .staged) (i j : Nat) (v : Word) :
    s.stageGroup (r, i, j) v = none := if_neg h

end Sys2Proof.Machine
end
section
/-!
PROOF. What additions to the open set of a group and its release do (R77, R182 to R185).
-/
namespace Sys2Proof.Machine

theorem KMap.agreeBut_refl {α : Type} (m : KMap α) (ks : List Nat) : KMap.agreeBut m m ks := fun _ _ => rfl

theorem KMap.agreeBut_trans {α : Type} {m m' m'' : KMap α} {ks : List Nat} (h : KMap.agreeBut m m' ks) (h' : KMap.agreeBut m' m'' ks) :
    KMap.agreeBut m m'' ks := fun j hj => (h' j hj).trans (h j hj)

theorem State.setGrp_agreeBut (s : State) (g : Nat) (x : Group) : KMap.agreeBut s.groups (s.setGrp g x).groups [g] :=
  fun _ hj => KMap.find?_insert_ne _ _ (by simpa using hj)

theorem State.wr_agreeBut (s : State) (r : RegId) (i j : Nat) (v : Word) : KMap.agreeBut s.regs (s.wr r i j v).regs [r.off i j] :=
  fun _ hk => KMap.find?_put_ne _ _ _ (by simpa using hk)

/-! ### Judging the last released set (R184, R185) -/

/-- The last released set of a group may be found late: the set changes in that, the late counter and its interrupt with it. -/
structure State.Judged (s t : State) (g : Nat) (l : List StageSet) (y y' : StageSet) : Prop where
  set : y' = { y with late := y'.late, marks := y'.marks, missN := y'.missN }
  grp : t.grp g = { s.grp g with released := l ++ [y'] }
  groups : KMap.agreeBut s.groups t.groups [g]
  regs : KMap.agreeBut s.regs t.regs [RegId.off .Gn_CNT_LATE g 0]
  idle : (s.grp g).st.plays = false → t.regs = s.regs
  frame : { t with groups := s.groups, regs := s.regs, msixPend := s.msixPend, sent := s.sent } = s

theorem State.judge_idle {s : State} {g : Nat} (h : (s.grp g).st.plays = false ∨ (s.grp g).relWait ≠ []) : s.judge g = s := by
  rcases h with h | h <;> simp [State.judge, h]

theorem State.judged_same {s : State} {g : Nat} {l : List StageSet} {y : StageSet} (h : (s.grp g).released = l ++ [y]) :
    s.Judged s g l y y :=
  ⟨rfl, by rw [← h], KMap.agreeBut_refl _ _, KMap.agreeBut_refl _ _, fun _ => rfl, rfl⟩

theorem State.missed_judged {s : State} {g : Nat} {l : List StageSet} {y : StageSet} (h : (s.grp g).released = l ++ [y])
    (hp : (s.grp g).st.plays = true) (n marks : Nat) :
    s.Judged (s.missed g n marks) g l y { y with late := true, marks := marks, missN := n } := by
  obtain ⟨pend, sent, hirq⟩ := ((s.setGrp g { s.grp g with released := l ++ [{ y with late := true, marks := marks, missN := n }] }).bump
    .Gn_CNT_LATE g).irqIf_eq .Gn_CTL g 1
  have heq : s.missed g n marks = ((s.setGrp g { s.grp g with
      released := l ++ [{ y with late := true, marks := marks, missN := n }] }).bump .Gn_CNT_LATE g).irqIf .Gn_CTL g 1 := by
    simp only [State.missed, State.modGrp, h, List.dropLast_concat, List.getLast?_concat, Option.map_some, Option.toList_some]
  rw [heq, hirq]
  exact ⟨rfl, State.grp_setGrp_same _ _ _, s.setGrp_agreeBut g _, State.wr_agreeBut _ _ _ _ _, fun hn => absurd hp (by simp [hn]), rfl⟩

theorem State.judge_judged {s : State} {g : Nat} {l : List StageSet} {y : StageSet} (h : (s.grp g).released = l ++ [y]) :
    ∃ y', s.Judged (s.judge g) g l y y' := by
  by_cases hp : (s.grp g).st.plays = true
  · unfold State.judge
    dsimp only
    split
    · split
      · exact ⟨_, State.missed_judged h hp _ _⟩
      · exact ⟨y, State.judged_same h⟩
    · exact ⟨y, State.judged_same h⟩
  · rw [State.judge_idle (.inl (by simpa using hp))]
    exact ⟨y, State.judged_same h⟩

/-! ### Release of the open set (R182, R183) -/

/-- A set as it is released at a tick for a command with its result. -/
def StageSet.closed (x : StageSet) (r : Nat) (cmd : Option CmdRef) (res : Option (List Word)) : StageSet :=
  { x with r := r, cmd := cmd, res := res, late := false, marks := 0 }

/-- A group whose open set has become the last of its released sets. -/
def Group.closing (x : Group) (y : StageSet) : Group := { x with released := x.released ++ [y], openSet := {} }

/-- The open set of a group, grown by writes and entries, has been released as `y` for a command with its result: the last of the released
sets, judged at once. -/
structure State.Releases (s t : State) (g : Nat) (ws : List (Nat × Word)) (es : List (Nat × List Word)) (cmd : Option CmdRef)
    (res : Option (List Word)) (y : StageSet) : Prop where
  writes : y.writes = (s.grp g).openSet.writes ++ ws
  entries : y.entries = (s.grp g).openSet.entries ++ es
  tick : y.r = s.now / 256 * 256
  cmd : y.cmd = cmd
  res : y.res = res
  grp : t.grp g = (s.grp g).closing y
  groups : KMap.agreeBut s.groups t.groups [g]
  regs : KMap.agreeBut s.regs t.regs [RegId.off .Gn_CNT_LATE g 0]
  idle : (s.grp g).st.plays = false → t.regs = s.regs
  frame : { t with groups := s.groups, regs := s.regs, msixPend := s.msixPend, sent := s.sent } = s

theorem State.release_room {s : State} {g : Nat} (h : (s.grp g).released.length < 4) (cmd : Option CmdRef) (res : Option (List Word)) :
    s.release g cmd res = s.setGrp g ((s.grp g).closing ((s.grp g).openSet.closed (s.now / 256 * 256) cmd res)) :=
  if_neg (Nat.not_le.mpr h)

theorem State.releaseSet_releases {s : State} {g : Nat} (h : (s.grp g).released.length < 4) (cmd : Option CmdRef)
    (res : Option (List Word)) : ∃ y, s.Releases (s.releaseSet g cmd res) g [] [] cmd res y := by
  have hx := s.grp_setGrp_same g ((s.grp g).closing ((s.grp g).openSet.closed (s.now / 256 * 256) cmd res))
  rw [State.releaseSet, State.release_room h]
  obtain ⟨y, hset, hgrp, hgroups, hregs, hidle, hframe⟩ := State.judge_judged (congrArg Group.released hx)
  rw [hx] at hgrp hidle
  refine ⟨y, ?_, ?_, ?_, ?_, ?_, hgrp, KMap.agreeBut_trans (s.setGrp_agreeBut g _) hgroups, hregs, hidle,
    congrArg (fun t : State => { t with groups := s.groups }) hframe⟩ <;> rw [hset]
  · exact (List.append_nil _).symm
  · exact (List.append_nil _).symm
  all_goals rfl

/-- While four sets are released the release waits for one of them to be applied (R183). -/
theorem State.releaseSet_waits {s : State} {g : Nat} (h : 4 ≤ (s.grp g).released.length) (cmd : Option CmdRef) (res : Option (List Word)) :
    s.releaseSet g cmd res = s.setGrp g { s.grp g with relWait := (s.grp g).relWait ++ [(cmd, res)] } := by
  have heq : s.release g cmd res = s.setGrp g { s.grp g with relWait := (s.grp g).relWait ++ [(cmd, res)] } := if_pos h
  rw [State.releaseSet, heq, State.judge_idle (.inr (by simp))]

/-! ### Additions (R182) -/

/-- A group with writes and entries added to its open set. -/
def Group.adding (x : Group) (ws : List (Nat × Word)) (es : List (Nat × List Word)) : Group :=
  { x with openSet := { x.openSet with writes := x.openSet.writes ++ ws, entries := x.openSet.entries ++ es } }

/-- The state with writes and entries added to the open set of a group. -/
def State.grown (s : State) (g : Nat) (ws : List (Nat × Word)) (es : List (Nat × List Word)) : State := s.setGrp g ((s.grp g).adding ws es)

theorem State.addition_holds {s : State} {g : Nat} (h : s.hold g = true) (ws : List (Nat × Word)) (es : List (Nat × List Word))
    (cmd : Option CmdRef) (res : Option (List Word)) : s.addition g ws es cmd res = s.grown g ws es := by
  simp only [State.addition, State.stageAdd, h, if_true]
  rfl

theorem State.addition_released {s : State} {g : Nat} (h : s.hold g = false) (ws : List (Nat × Word)) (es : List (Nat × List Word))
    (cmd : Option CmdRef) (res : Option (List Word)) : s.addition g ws es cmd res = (s.grown g ws es).releaseSet g cmd res := by
  simp only [State.addition, State.stageAdd, h, Bool.false_eq_true, if_false]
  rfl

/-- The release of a set that has just grown. -/
theorem State.grown_releases {s : State} {g : Nat} (h : (s.grp g).released.length < 4) (ws : List (Nat × Word))
    (es : List (Nat × List Word)) (cmd : Option CmdRef) (res : Option (List Word)) :
    ∃ y, s.Releases ((s.grown g ws es).releaseSet g cmd res) g ws es cmd res y := by
  have hx : (s.grown g ws es).grp g = (s.grp g).adding ws es := s.grp_setGrp_same g _
  obtain ⟨y, hw, he, ht, hcmd, hres, hgrp, hgroups, hregs, hidle, hframe⟩ :=
    State.releaseSet_releases (s := s.grown g ws es) (g := g) (by rw [hx]; exact h) cmd res
  rw [hx] at hw he hgrp hidle
  exact ⟨y, hw.trans (List.append_nil _), he.trans (List.append_nil _), ht, hcmd, hres, hgrp,
    KMap.agreeBut_trans (s.setGrp_agreeBut g _) hgroups, hregs, hidle, congrArg (fun t : State => { t with groups := s.groups }) hframe⟩

end Sys2Proof.Machine
end
section
/-!
PROOF. Direct writes of staged registers, HOLD and DISCARD (R77, R182, R183, R198).
-/
namespace Sys2Proof.Machine

theorem State.rd_of_agreeBut {s t : State} {ks : List Nat} (h : KMap.agreeBut s.regs t.regs ks) {r : RegId} {i j : Nat}
    (hk : r.off i j ∉ ks) : t.rd r i j = s.rd r i j := by
  simp only [State.rd, KMap.getD, h _ hk]

theorem State.writeCfg_other {s : State} {ref : RegRef} (h : ref.1 ≠ .DAC_CFG_d) (v : Word) : s.writeCfg ref v = s := by
  unfold State.writeCfg
  split
  · exact absurd rfl h
  · rfl

/-! ### One staged register -/

section
variable {s : State} {off : Nat} {ref : RegRef} {v : Word} {g : Nat} (href : RegId.at? off = some ref) (hoff : regOffset off = true)
  (hcfg : ref.1 ≠ .DAC_CFG_d) (hcause : s.writeCause false off v = none) (hstage : s.stageGroup ref v = some g)
include href hoff hcfg hcause hstage

/-- A direct write of a staged register of a running group is an addition of its own. -/
theorem State.directWrite_staged : s.directWrite off v = s.stageDirect g off v := by
  rw [State.directWrite_taken hoff href hcause]
  simp only [State.directTaken, State.writeCfg_other hcfg, hstage]

theorem State.directWrite_holds (hfits : (s.grp g).openSet.fits 1 0 = true) (hhold : s.hold g = true) :
    s.directWrite off v = s.grown g [(off, v)] [] := by
  rw [State.directWrite_staged href hoff hcfg hcause hstage]
  simp only [State.stageDirect, hfits, hhold, Bool.true_or, Bool.and_self, if_true, State.addition_holds hhold]

theorem State.directWrite_releases (hfits : (s.grp g).openSet.fits 1 0 = true) (hhold : s.hold g = false)
    (hroom : (s.grp g).released.length < 4) : s.directWrite off v = (s.grown g [(off, v)] []).releaseSet g none none := by
  rw [State.directWrite_staged href hoff hcfg hcause hstage]
  simp only [State.stageDirect, hfits, hroom, decide_true, Bool.or_true, Bool.and_self, if_true, State.addition_released hhold]

theorem State.directWrite_counts (h : (s.grp g).openSet.fits 1 0 = false ∨ (s.hold g = false ∧ 4 ≤ (s.grp g).released.length)) :
    s.directWrite off v = s.bump .Gn_CNT_STAGE_OVF g := by
  rw [State.directWrite_staged href hoff hcfg hcause hstage]
  rcases h with h | ⟨h, hfull⟩
  · simp only [State.stageDirect, h, Bool.false_and, Bool.false_eq_true, if_false]
  · simp only [State.stageDirect, h, Nat.not_lt.mpr hfull, decide_false, Bool.or_self, Bool.and_false, Bool.false_eq_true, if_false]

end

/-- While its group is stopped a write of the low frequency word stores the word (R77). -/
theorem State.directWrite_freq {s : State} {g : Nat} (hg : g < 8) (h : s.grpRunning g = false) (v : Word) :
    s.directWrite (RegId.off .Gn_FREQ_LO g 0) v = s.wr .Gn_FREQ_LO g 0 v := by
  have hr : RegId.Gn_FREQ_LO ∈ controlRegs := by decide
  have hstage : s.stageGroup (.Gn_FREQ_LO, g, 0) v = none := by
    simp [State.stageGroup, State.stagedOwner, RegId.row, RegId.blk, h]
  rw [State.directWrite_control hr (i := g) hg hstage (by simp)]
  simp [State.writeNow, RegId.geomInst, RegId.row, State.applyOne, State.applyStaged, State.dropStep, (at?_control hr (i := g) hg).1, blend_full, h]

/-! ### HOLD and DISCARD -/

/-- A group with its open set emptied. -/
def Group.discarding (x : Group) : Group := { x with openSet := {} }

/-- Gn_STAGE_CTL written as it stands, but for HOLD and the open set. -/
def State.setHold (s : State) (g : Nat) (on : Bool) : State := s.wrb .Gn_STAGE_CTL g 0 0 on

theorem State.setHold_hold (s : State) (g : Nat) (on : Bool) : (s.setHold g on).hold g = on :=
  (congrArg (bit · 0) (State.rd_wr_same ..)).trans (bit_setBit_same (by decide) _ _)

section
variable {s : State} {g : Nat} {v : Word} (hg : g < 8)
include hg

/-- A write of Gn_STAGE_CTL that leaves HOLD, or finds the open set empty or empties it, releases nothing. -/
theorem State.directWrite_keeps (h : bit v 1 = true ∨ (s.grp g).openSet.isEmpty = true ∨ s.hold g = false ∨ bit v 0 = true) :
    s.directWrite (RegId.off .Gn_STAGE_CTL g 0) v =
      (if bit v 1 then s.setGrp g (s.grp g).discarding else s).setHold g (bit v 0) := by
  have hblocked : s.holdBlocked g v = false := by
    rcases h with h | h | h | h <;> simp [State.holdBlocked, h]
  rw [State.directWrite_control (r := .Gn_STAGE_CTL) (by decide) hg (State.stageGroup_unstaged (by decide) g 0 v) fun _ => hblocked]
  have hgrp : ∀ u : State, ((u.wrb .Gn_STAGE_CTL g 0 0 (bit v 0)).grp g) = u.grp g := fun u => rfl
  refine if_neg ?_
  by_cases hv : bit v 1 = true
  · simp [hv, hgrp, State.modGrp, StageSet.isEmpty]
  · rcases h with h | h | h | h
    · exact absurd h hv
    · simp [hv, hgrp, h]
    · simp [show bit (s.rd .Gn_STAGE_CTL g) 0 = false from h]
    · simp [h]

/-- HOLD written to 0 releases an open set that is not empty (R182). -/
theorem State.directWrite_unholds (hd : bit v 1 = false) (hh : bit v 0 = false) (hhold : s.hold g = true)
    (ho : (s.grp g).openSet.isEmpty = false) (hroom : (s.grp g).released.length < 4) :
    s.directWrite (RegId.off .Gn_STAGE_CTL g 0) v = (s.setHold g false).releaseSet g none none := by
  have hblocked : s.holdBlocked g v = false := by simp [State.holdBlocked, Nat.not_le.mpr hroom]
  rw [State.directWrite_control (r := .Gn_STAGE_CTL) (by decide) hg (State.stageGroup_unstaged (by decide) g 0 v) fun _ => hblocked]
  have hgrp : (s.setHold g false).grp g = s.grp g := rfl
  have hold : bit (s.rd .Gn_STAGE_CTL g) 0 = true := hhold
  simp only [State.writeNow, hd, hh, hold, Bool.false_eq_true, if_false, Bool.not_false, Bool.and_self, Bool.true_and, Option.map_none]
  exact if_pos (by rw [← State.setHold, hgrp, ho]; rfl)

end

/-- Settles O19: each write is first computed to the addition, the release or the register that it changes. -/
theorem stagedWrites : Obligations.StagedWrites := by
  unfold Obligations.StagedWrites
  intro g v s hrst
  have hregs : ∀ on, KMap.agreeBut s.regs (s.setHold g on).regs [RegId.off .Gn_STAGE_CTL g 0] := fun on => s.wr_agreeBut _ _ _ _
  refine ⟨fun off ref href hoff hcfg hcause hstage => ⟨fun hfits hhold => ?_, fun hfits hhold hroom => ?_, fun h => ?_⟩, fun hrun => ?_,
    fun on hempty => ?_, fun hhold ho hroom hd => ?_, ?_⟩
  · exact exec_main rfl hrst (State.directWrite_holds href hoff hcfg hcause hstage hfits hhold)
  · obtain ⟨y, hy⟩ := State.grown_releases hroom [(off, v)] [] none none
    refine ⟨_, y, exec_main rfl hrst (State.directWrite_releases href hoff hcfg hcause hstage hfits hhold hroom), ?_, hy.writes,
      hy.entries.trans (List.append_nil _), hy.tick, hy.cmd, ?_, hy.idle, hy.groups, hy.frame⟩
    · rw [hy.grp]; rfl
    · rw [hy.grp]; rfl
  · exact exec_main rfl hrst (State.directWrite_counts href hoff hcfg hcause hstage h)
  · exact exec_main rfl hrst (State.directWrite_freq g.isLt hrun v)
  · have hw := State.directWrite_keeps (s := s) g.isLt (v := setBit (s.rd .Gn_STAGE_CTL g) 0 on)
      (.inr (.inl (by rw [hempty]; rfl)))
    rw [bit_setBit_same (by decide)] at hw
    refine ⟨_, exec_main rfl hrst hw, State.setHold_hold _ _ _, ?_, ?_⟩
    · split
      · exact congrArg Group.openSet (s.grp_setGrp_same g _)
      · exact hempty
    · split
      · exact ⟨hregs on, s.setGrp_agreeBut g _, rfl⟩
      · exact ⟨hregs on, KMap.agreeBut_refl _ _, rfl⟩
  · have hw := State.directWrite_unholds (s := s) g.isLt (v := setBit (s.rd .Gn_STAGE_CTL g) 0 false)
      (by rw [bit_setBit _ _ _ (by decide)]; exact hd) (bit_setBit_same (by decide) _ _) hhold ho hroom
    obtain ⟨y, hy⟩ := State.releaseSet_releases (s := s.setHold g false) (g := g) hroom none none
    have hlate : RegId.off .Gn_STAGE_CTL g 0 ∉ [RegId.off .Gn_CNT_LATE g 0] := by simp [RegId.off, RegId.row]
    refine ⟨_, y, exec_main rfl hrst hw, ?_, ?_, ?_, hy.writes.trans (List.append_nil _), hy.entries.trans (List.append_nil _), hy.tick,
      hy.cmd, hy.groups, congrArg (fun t : State => { t with regs := s.regs }) hy.frame⟩
    · exact (congrArg (bit · 0) (State.rd_of_agreeBut hy.regs hlate)).trans (s.setHold_hold g false)
    · rw [hy.grp]; rfl
    · rw [hy.grp]; rfl
  · have hbit : bit (setBit (s.rd .Gn_STAGE_CTL g) 1 true) 1 = true := bit_setBit_same (by decide) _ _
    have hhold : bit (setBit (s.rd .Gn_STAGE_CTL g) 1 true) 0 = s.hold g := bit_setBit _ _ _ (by decide)
    have hw := State.directWrite_keeps (s := s) g.isLt (.inl hbit)
    rw [hbit, hhold, if_pos rfl] at hw
    exact ⟨_, exec_main rfl hrst hw, congrArg Group.openSet (s.grp_setGrp_same g _), State.setHold_hold _ _ _, s.setGrp_agreeBut g _, rfl⟩

end Sys2Proof.Machine
end
section
/-!
PROOF. What staged writes that take effect at once neither read nor change: the commands in flight (R77, R106, R190).
-/
namespace Sys2Proof.Machine

/-! ### Registers by their offsets -/

theorem RegId.off_of_instAt {r : RegId} {off i j : Nat} (h : r.instAt off = some (i, j)) : r.off i j = off := by
  unfold RegId.instAt at h
  extract_lets w d i1 d1 j1 j2 d2 i2 at h
  clear_value i1 j1 i2 j2
  split at h
  · cases h
  · have hoff : i * w.s1 + j * w.s2 = d := by
      split at h
      next hd =>
        cases h
        exact hd.2.2
      next =>
        split at h
        next hd =>
          cases h
          exact hd.2.2
        next => cases h
    change w.base + i * w.s1 + j * w.s2 = off
    omega

/-- What is found at an offset lies there. -/
theorem RegId.off_of_at? {off i j : Nat} {r : RegId} (h : RegId.at? off = some (r, i, j)) : r ∈ RegId.all ∧ r.off i j = off := by
  have hfind : ∀ l : List RegId, RegId.findIn l off = some (r, i, j) → r ∈ l ∧ r.off i j = off := by
    intro l
    induction l with
    | nil => simp [RegId.findIn]
    | cons a l ih =>
      intro h
      unfold RegId.findIn at h
      split at h
      case h_1 ha =>
        cases h
        exact ⟨List.mem_cons_self, RegId.off_of_instAt ha⟩
      case h_2 => exact ⟨List.mem_cons_of_mem a (ih h).1, (ih h).2⟩
  exact hfind _ h

/-- No staged register lies at or below SYS_ADDR. -/
theorem staged_base {r : RegId} (hr : r ∈ RegId.all) (h : r.row.cls = .staged) : 8 < r.row.base := by
  have hall : ∀ r ∈ RegId.all, r.row.cls = .staged → 8 < r.row.base := by decide +kernel
  exact hall r hr h

theorem off_ne_addr {r : RegId} (h : 8 < r.row.base) (i j : Nat) : RegId.off .SYS_ADDR 0 0 ≠ r.off i j := by
  have haddr : RegId.SYS_ADDR.off 0 0 = 8 := rfl
  unfold RegId.off at haddr ⊢
  omega

/-! ### Blind to the commands in flight -/

/-- The state with other queues, another note of the command that began last, and another count of what is open. -/
def State.noting (s : State) (queues : KMap Queue) (op tag drawn : Nat) : State :=
  { s with queues := queues, err := { s.err with lastOp := op, lastTag := tag }, drawn := drawn }

/-- An operation neither reads nor changes the queues, the note of the command that began last and the count of what is open. -/
def State.Blind (f : State → State) : Prop :=
  ∀ (s : State) (queues : KMap Queue) (op tag drawn : Nat), f (s.noting queues op tag drawn) = (f s).noting queues op tag drawn

theorem State.Blind.comp {f f' : State → State} (h : State.Blind f) (h' : State.Blind f') : State.Blind fun s => f (f' s) :=
  fun s queues op tag drawn => (congrArg f (h' s queues op tag drawn)).trans (h _ _ _ _ _)

theorem State.Blind.foldl {α : Type} {f : State → α → State} (h : ∀ a, State.Blind (f · a)) (l : List α) : State.Blind (l.foldl f ·) := by
  induction l with
  | nil => exact fun _ _ _ _ _ => rfl
  | cons a l ih =>
    exact fun s queues op tag drawn => (congrArg (l.foldl f) (h a s queues op tag drawn)).trans (ih _ _ _ _ _)

/-- What a blind operation does while a command runs is what it does without it. -/
theorem State.Blind.sansReply {f : State → State} (h : State.Blind f) (s : State) (queues : KMap Queue) (op tag drawn : Nat) :
    { s.sansReply (f (s.noting queues op tag drawn)) with drawn := s.drawn } = f s := by
  have hself := h s s.queues s.err.lastOp s.err.lastTag s.drawn
  exact (congrArg (fun u : State => { s.sansReply u with drawn := s.drawn }) (h s queues op tag drawn)).trans hself.symm

theorem State.Blind.sansReply_drawn {f : State → State} (h : State.Blind f) (s : State) (queues : KMap Queue) (op tag : Nat) :
    s.sansReply (f (s.noting queues op tag s.drawn)) = f s :=
  (congrArg s.sansReply (h s queues op tag s.drawn)).trans (h s s.queues s.err.lastOp s.err.lastTag s.drawn).symm

/-- A choice between two states with other queues is one between the two with other queues. -/
theorem State.noting_ite {c c' : Prop} [Decidable c] [Decidable c'] {a b a' b' : State} {queues : KMap Queue} {op tag drawn : Nat}
    (hc : c' ↔ c) (ha : a' = a.noting queues op tag drawn) (hb : b' = b.noting queues op tag drawn) :
    (if c' then a' else b') = (if c then a else b).noting queues op tag drawn := by
  by_cases h : c
  · rw [if_pos h, if_pos (hc.mpr h), ha]
  · rw [if_neg h, if_neg (fun h' => h (hc.mp h')), hb]

/-! ### Staged writes (R77, R186) -/

theorem State.dacRamp_blind (d g : Nat) : State.Blind (·.dacRamp d g) := fun _ _ _ _ _ => State.noting_ite Iff.rfl rfl rfl

theorem State.dacGain_blind (d : Nat) : State.Blind (·.dacGain d) := by
  intro s queues op tag drawn
  beta_reduce
  have hdac : (s.noting queues op tag drawn).dac d = s.dac d := rfl
  unfold State.dacGain
  rw [hdac]
  dsimp only
  split
  · exact State.noting_ite Iff.rfl rfl rfl
  · rfl
  · exact State.noting_ite Iff.rfl rfl rfl

theorem State.applyRoute_blind (d : Nat) (val : Word) : State.Blind (·.applyRoute d val) := by
  intro s queues op tag drawn
  beta_reduce
  have hold : (s.noting queues op tag drawn).dacGroup d = s.dacGroup d := rfl
  have hwr : (s.noting queues op tag drawn).wr .OUT_DAC_SRC_d d 0 val = (s.wr .OUT_DAC_SRC_d d 0 val).noting queues op tag drawn := rfl
  have hnew : ((s.wr .OUT_DAC_SRC_d d 0 val).noting queues op tag drawn).dacGroup d = (s.wr .OUT_DAC_SRC_d d 0 val).dacGroup d := rfl
  unfold State.applyRoute
  dsimp only
  rw [hold, hwr, hnew]
  split
  · exact State.dacRamp_blind _ _ _ _ _ _ _
  · rfl
  · exact State.dacGain_blind _ _ _ _ _ _
  · exact State.noting_ite Iff.rfl rfl
      (congrArg (fun u : State => u.modDac d fun x => { x with waiting := true }) (State.dacRamp_blind _ _ _ _ _ _ _))

theorem State.applyStaged_blind (off : Nat) (val : Word) : State.Blind (·.applyStaged off val) := by
  intro s queues op tag drawn
  beta_reduce
  unfold State.applyStaged
  split
  · rfl
  · dsimp only
    split
    · exact State.applyRoute_blind _ _ _ _ _ _ _
    · exact State.noting_ite Iff.rfl rfl rfl
    · exact State.noting_ite Iff.rfl rfl rfl
    · exact State.noting_ite Iff.rfl rfl rfl
    · exact State.noting_ite Iff.rfl rfl rfl
    · exact State.noting_ite Iff.rfl rfl rfl
    · exact State.noting_ite Iff.rfl rfl rfl
    · rfl

theorem State.dropStep_blind (off : Nat) : State.Blind (·.dropStep off) := by
  intro s queues op tag drawn
  beta_reduce
  unfold State.dropStep
  split <;> rfl

theorem State.confineAt_blind (off : Nat) : State.Blind (·.confineAt off) := by
  intro s queues op tag drawn
  beta_reduce
  unfold State.confineAt
  split <;> rfl

theorem State.applyOne_blind (w : Nat × Word) : State.Blind (·.applyOne w) :=
  (State.dropStep_blind w.1).comp (State.applyStaged_blind w.1 w.2)

theorem State.applyNow_blind (ws : List (Nat × Word)) : State.Blind (·.applyNow ws) :=
  (State.Blind.foldl (f := fun s (w : Nat × Word) => s.confineAt w.1) (fun w => State.confineAt_blind w.1) ws).comp
    (State.Blind.foldl State.applyOne_blind ws)

theorem State.applyIlim_blind (w : Nat × Word) : State.Blind (·.applyIlim w) := by
  intro s queues op tag drawn
  beta_reduce
  refine State.noting_ite Iff.rfl ?_ rfl
  split <;> rfl

/-! ### What they leave alone -/

theorem State.applyRoute_holding (s : State) (d : Nat) (val : Word) : (s.applyRoute d val).holding = s.holding := by
  have hwr : (s.wr .OUT_DAC_SRC_d d 0 val).holding = s.holding := State.wr_holding _ _ (off_ne_addr (by decide) d 0)
  have hramp : ∀ (u : State) (g : Nat), (u.dacRamp d g).holding = u.holding := fun u g => State.same_ite State.holding rfl rfl
  unfold State.applyRoute
  dsimp only
  split
  · exact (hramp _ _).trans hwr
  · exact hwr
  · refine Eq.trans ?_ hwr
    unfold State.dacGain
    dsimp only
    split
    · exact State.same_ite State.holding rfl rfl
    · rfl
    · exact State.same_ite State.holding rfl rfl
  · exact State.same_ite State.holding hwr ((hramp _ _).trans hwr)

theorem State.applyStaged_holding (s : State) {off i j : Nat} {r : RegId} (h : RegId.at? off = some (r, i, j)) (hr : 8 < r.row.base)
    (val : Word) : (s.applyStaged off val).holding = s.holding := by
  have hwr : ∀ j v, (s.wr r i j v).holding = s.holding := fun j v => State.wr_holding s v (off_ne_addr hr i j)
  simp only [State.applyStaged, h]
  split
  · exact State.applyRoute_holding _ _ _
  · exact State.same_ite State.holding (hwr _ _) (hwr _ _)
  · exact State.same_ite State.holding (hwr _ _) (hwr _ _)
  · exact State.same_ite State.holding (hwr _ _) (hwr _ _)
  · exact State.same_ite State.holding (hwr _ _) (hwr _ _)
  · exact State.same_ite State.holding (hwr _ _) (hwr _ _)
  · exact State.same_ite State.holding (hwr _ _) (hwr _ _)
  · exact hwr _ _

theorem State.wr64_holding (s : State) {lo hi : RegId} (hlo : 8 < lo.row.base) (hhi : 8 < hi.row.base) (i : Nat) (v : W64) :
    (s.wr64 lo hi i v).holding = s.holding :=
  (State.wr_holding _ _ (off_ne_addr hhi i 0)).trans (State.wr_holding _ _ (off_ne_addr hlo i 0))

theorem State.dropStep_holding (s : State) (off : Nat) : (s.dropStep off).holding = s.holding := by
  unfold State.dropStep
  split
  · exact s.wr64_holding (by decide) (by decide) _ _
  · exact s.wr64_holding (by decide) (by decide) _ _
  · rfl

theorem State.confineAt_holding (s : State) (off : Nat) : (s.confineAt off).holding = s.holding := by
  unfold State.confineAt
  split
  · exact s.wr64_holding (by decide) (by decide) _ _
  · exact s.wr64_holding (by decide) (by decide) _ _
  · exact s.wr64_holding (by decide) (by decide) _ _
  · exact s.wr64_holding (by decide) (by decide) _ _
  · rfl

/-- A pair that a group owns is for a staged register, beyond SYS_ADDR. -/
theorem State.at?_of_ownedBy {s : State} {g : Nat} {w : Nat × Word} (h : s.ownedBy g w = true) :
    ∃ r i j, RegId.at? w.1 = some (r, i, j) ∧ 8 < r.row.base := by
  unfold State.ownedBy at h
  split at h
  case h_1 ref hat =>
    obtain ⟨r, i, j⟩ := ref
    simp only [Bool.and_eq_true, decide_eq_true_eq] at h
    exact ⟨r, i, j, hat, staged_base (RegId.off_of_at? hat).1 h.1⟩
  case h_2 => cases h

/-- Staged writes that take effect at once leave the commands in flight and their content alone. -/
theorem State.applyNow_holding {s : State} {g : Nat} {ws : List (Nat × Word)} (h : ws.all (s.ownedBy g) = true) (p : State) :
    (p.applyNow ws).holding = p.holding := by
  refine (State.foldl_same State.holding (f := fun s (w : Nat × Word) => s.confineAt w.1) (fun u w => u.confineAt_holding w.1) ws _).trans ?_
  refine State.foldl_same_mem State.holding (fun w hw u => ?_) p
  obtain ⟨r, i, j, hat, hr⟩ := State.at?_of_ownedBy (List.all_eq_true.mp h w hw)
  exact (State.dropStep_holding _ _).trans (u.applyStaged_holding hat hr w.2)

/-- A change of ILIM is a write of DAC_CFG_d (R265). -/
theorem State.applyIlim_eq (s : State) (w : Nat × Word) : s.applyIlim w = s ∨ ∃ d j v, s.applyIlim w = s.wr .DAC_CFG_d d j v := by
  unfold State.applyIlim
  split
  case isTrue h =>
    unfold State.ilimMoves at h
    split at h
    case h_1 hat => exact .inr ⟨_, _, _, by rw [hat]⟩
    case h_2 => cases h
  case isFalse => exact .inl rfl

/-- What writes of DAC_CFG_d leave alone, changes of ILIM leave alone. -/
theorem State.applyIlims_same {β : Type} (F : State → β) (hF : ∀ (s : State) (d j : Nat) (v : Word), F (s.wr .DAC_CFG_d d j v) = F s)
    (ws : List (Nat × Word)) (s : State) : F (ws.foldl State.applyIlim s) = F s := by
  refine State.foldl_same F (fun s w => ?_) ws s
  rcases s.applyIlim_eq w with h | ⟨d, j, v, h⟩
  · rw [h]
  · rw [h, hF]

theorem State.applyIlims_eq (ws : List (Nat × Word)) (s : State) : ∃ regs, ws.foldl State.applyIlim s = { s with regs := regs } := by
  have h := State.applyIlims_same (fun u => { u with regs := [] }) (fun _ _ _ _ => rfl) ws s
  exact ⟨_, congrArg (fun u : State => { u with regs := (ws.foldl State.applyIlim s).regs }) h⟩

theorem State.applyIlims_holding (ws : List (Nat × Word)) (s : State) : (ws.foldl State.applyIlim s).holding = s.holding :=
  State.applyIlims_same State.holding (fun _ d j v => State.wr_holding _ v (off_ne_addr (by decide) d j)) ws s

theorem State.applyIlims_hold (ws : List (Nat × Word)) (s : State) {g : Nat} (hg : g < 8) :
    (ws.foldl State.applyIlim s).hold g = s.hold g := by
  refine State.applyIlims_same (·.hold g) (fun _ d j v => congrArg (bit · 0) (State.rd_wr_ne _ v ?_)) ws s
  simp only [RegId.off, RegId.row]
  omega

end Sys2Proof.Machine
end
section
/-!
PROOF. A command that begins, and is answered or waits, beside what else it does (R37, R42, R49).
-/
namespace Sys2Proof.Machine

section
variable {s : State} {q k op : Nat} {c : Cmd} (h : s.Runs q k op c)
include h

theorem State.Runs.resetting : (s.q q).resetting = false := by
  obtain ⟨_, _, _, _, hel, _⟩ := h
  simp only [State.eligible, Bool.and_eq_true, Bool.not_eq_true'] at hel
  exact hel.1.2

theorem State.Runs.find : (s.q q).find k = some c := h.2.2.1

theorem State.Runs.rst : s.mgt.rst = false := h.1

/-- Beginning changes the queues and the note of the command that began last. -/
theorem State.Runs.begun_eq : ∃ queues tag, s.begun ⟨q, k⟩ = s.noting queues c.hdr.opcode tag s.drawn :=
  ⟨_, _, State.begun_eq h.find⟩

theorem State.Runs.begun_find : ((s.begun ⟨q, k⟩).q q).find k = some { c with phase := .begun, timer := some s.now } := by
  rw [State.begun_q]
  exact Queue.find_upd_same (fun _ => rfl) h.find

theorem State.Runs.begun_agreeBut : KMap.agreeBut s.queues (s.begun ⟨q, k⟩).queues [q] := by
  rw [State.begun_eq h.find]
  exact s.setQ_agreeBut q _

/-- A command that has begun waits for its reply. -/
theorem State.Runs.waits : (s.begun ⟨q, k⟩).Waits q k := by
  refine ⟨_, h.begun_find, rfl, ?_, ?_⟩
  · rw [State.begun_q]
    exact h.resetting
  · rw [State.begun_eq h.find]
    exact h.2.2.2.2.2.2.2.2.2.2

/-- A command waits where nothing has touched the queues since it began. -/
theorem State.Runs.began {t : State} (ht : t.queues = (s.begun ⟨q, k⟩).queues) : s.Began t q k c := by
  have hq : t.q q = (s.begun ⟨q, k⟩).q q := by simp only [State.q, ht]
  refine ⟨hq ▸ h.begun_find, ht ▸ h.begun_agreeBut, fun j hj => ?_⟩
  rw [hq, State.begun_q]
  exact Queue.find_upd_ne (fun _ => rfl) hj

/-- A command is answered where nothing has touched what it holds since it began; beside that only queues change. -/
theorem State.Runs.answered {v : State} (hv : v.holding = (s.begun ⟨q, k⟩).holding) (status : Nat) (result : List Word) :
    s.Replied (v.finish ⟨q, k⟩ status result) q k status result ∧
      ∃ queues, v.finish ⟨q, k⟩ status result = { v with queues := queues } := by
  obtain ⟨⟨hreply, hqueues, hfind, hrest⟩, heq⟩ := State.finish_waits h.waits hv status result
  have haddr : (s.begun ⟨q, k⟩).ownAddr = s.ownAddr := by
    rw [State.begun_eq h.find]
    rfl
  rw [State.begun_q] at hfind hrest
  rw [haddr] at hreply
  refine ⟨⟨hreply, KMap.agreeBut_trans h.begun_agreeBut hqueues, fun j hj => ?_, fun hstart hskip => ?_⟩, heq⟩
  · exact (hfind j hj).trans (Queue.find_upd_ne (fun _ => rfl) hj)
  · exact congrArg (fun x : Queue => { x with inflight := (s.q q).inflight }) (hrest hstart hskip)

end

/-- A release while a command runs, as a statement gives it. -/
theorem State.Releases.releasedFor {b t : State} {queues : KMap Queue} {op tag g : Nat} {ws : List (Nat × Word)}
    {es : List (Nat × List Word)} {cmd : Option CmdRef} {res : Option (List Word)} {y : StageSet}
    (h : (b.noting queues op tag b.drawn).Releases t g ws es cmd res y) : b.ReleasedFor t g ws es cmd res := by
  have hgrp : t.grp g = (b.grp g).closing y := h.grp
  refine ⟨⟨y, ?_, h.writes, h.entries, h.tick, h.cmd, h.res⟩, ?_, h.groups, h.regs, h.idle, congrArg b.sansReply h.frame⟩
  · rw [hgrp]
    rfl
  · rw [hgrp]
    rfl

end Sys2Proof.Machine
end
section
/-!
PROOF. STAGE and COMMIT (R77, R161, R182, R183, R190).
-/
namespace Sys2Proof.Machine

theorem State.grown_writes (s : State) (g : Nat) (ws : List (Nat × Word)) :
    (s.modGrp g fun x => { x with openSet := { x.openSet with writes := x.openSet.writes ++ ws } }) = s.grown g ws [] := by
  simp only [State.grown, Group.adding, List.append_nil]
  rfl

/-- The pairs of a STAGE are its group's own, and neither a route nor ILIM refuses them. -/
structure State.Stages (s : State) (g : Nat) (ws : List (Nat × Word)) (c : Cmd) : Prop where
  group : fld (wAt c.payload 0) 2 0 = g
  pairs : pairsFrom 1 c.payload = ws
  low : fld (wAt c.payload 0) 7 3 = 0
  high : fld (wAt c.payload 0) 31 9 = 0
  owned : ws.all (s.ownedBy g) = true
  moves : ws.any s.routeMoves = false
  ilim : ∀ w ∈ ws, s.ilimDenied w = none

section
variable {s : State} {g : Nat} {ws : List (Nat × Word)} {c : Cmd} (h : s.Stages g ws c)
include h

theorem State.Stages.noting (queues : KMap Queue) (op tag drawn : Nat) : (s.noting queues op tag drawn).Stages g ws c :=
  ⟨h.group, h.pairs, h.low, h.high, h.owned, h.moves, h.ilim⟩

theorem State.Stages.find_moves : ws.find? s.routeMoves = none := by
  simpa using h.moves

theorem State.Stages.find_ilim : (ws.findSome? fun w => (s.ilimDenied w).map fun y => (w, y)) = none :=
  List.findSome?_eq_none_iff.mpr fun w hw => by rw [h.ilim w hw, Option.map_none]

end

/-! ### What STAGE does once it has begun -/

section
variable {s p : State} {q k g : Nat} {c : Cmd} {ws : List (Nat × Word)} (h : s.Runs q k 0x0405 c) (hp : s.begun ⟨q, k⟩ = p)
include h hp

theorem State.stage_bad (hbad : fld (wAt c.payload 0) 7 3 ≠ 0 ∨ fld (wAt c.payload 0) 31 9 ≠ 0 ∨
    (pairsFrom 1 c.payload).all (p.ownedBy (fld (wAt c.payload 0) 2 0)) = false) : s.stage q k = p.finish ⟨q, k⟩ stBadParam [] := by
  rw [State.stage, State.run_of_runs h, hp]
  exact if_pos (by simpa [or_assoc] using hbad)

theorem State.stage_moves (hl : fld (wAt c.payload 0) 7 3 = 0) (hh : fld (wAt c.payload 0) 31 9 = 0)
    (ho : (pairsFrom 1 c.payload).all (p.ownedBy (fld (wAt c.payload 0) 2 0)) = true)
    (hm : (pairsFrom 1 c.payload).any p.routeMoves = true) :
    s.stage q k = (p.bump .OUT_CNT_ROUTE_REJ).finish ⟨q, k⟩ stEnabled [] := by
  obtain ⟨w, hw⟩ := Option.isSome_iff_exists.mp ((List.find?_isSome (p := p.routeMoves)).mpr (List.any_eq_true.mp hm))
  rw [State.stage, State.run_of_runs h, hp]
  simp [hl, hh, ho, hw]

variable (hok : p.Stages g ws c)
include hok

/-- On a group that is not running the fields take effect at once (R190). -/
theorem State.stage_stopped (hrun : p.grpRunning g = false) (hgain : ws.any p.gainDenied = false) : s.stage q k =
    if bit (wAt c.payload 0) 8
    then (State.applyNow (ws.foldl State.applyIlim p.draw.2) ws).finish ⟨q, k⟩ stOK (timeWords (Config.openTime p.drawn))
    else (State.applyNow (ws.foldl State.applyIlim p) ws).finish ⟨q, k⟩ stOK [] := by
  have hgain' : ws.find? p.gainDenied = none := by simpa using hgain
  have hmove := hok.find_moves
  have hilim := hok.find_ilim
  obtain ⟨rfl, rfl, hl, hh, ho, -, -⟩ := hok
  rw [State.stage, State.run_of_runs h, hp]
  simp only [hl, hh, ho, hmove, hilim, hrun, hgain', ne_eq, not_true_eq_false, decide_false, Bool.or_self, Bool.not_true, Bool.not_false,
    Bool.false_eq_true, if_false, if_true]
  rfl

section
variable (hrun : p.grpRunning g = true) (hfits : (p.grp g).openSet.fits ws.length 0 = true)
include hrun hfits

/-- On a running group with room, what follows the refusals of its pairs. -/
theorem State.stage_running : s.stage q k =
    if bit (wAt c.payload 0) 8 && p.stageNames g then p.finish ⟨q, k⟩ stNotReady []
    else if bit (wAt c.payload 0) 8 then ((ws.foldl State.applyIlim p).grown g ws []).releaseSet g (some ⟨q, k⟩) none
    else if p.hold g then ((ws.foldl State.applyIlim p).addition g ws [] none none).finish ⟨q, k⟩ stOK []
    else (ws.foldl State.applyIlim p).addition g ws [] (some ⟨q, k⟩) (some []) := by
  have hmove := hok.find_moves
  have hilim := hok.find_ilim
  obtain ⟨rfl, rfl, hl, hh, ho, -, -⟩ := hok
  rw [State.stage, State.run_of_runs h, hp]
  simp only [hl, hh, ho, hmove, hilim, hrun, hfits, ne_eq, not_true_eq_false, decide_false, Bool.or_self, Bool.not_true, Bool.false_eq_true,
    if_false, State.grown_writes]

end

end

/-! ### STAGE on a group that is not running -/

theorem at?_gain (ch : Fin 32) : RegId.at? (RegId.off .CHn_GAIN ch 0) = some (.CHn_GAIN, ch.val, 0) := by
  revert ch
  decide +kernel

/-- A channel gain that takes effect at once is a plain write. -/
theorem State.applyNow_gain (s : State) (ch : Fin 32) (v : Word) :
    State.applyNow (([(RegId.off .CHn_GAIN ch 0, v)] : List (Nat × Word)).foldl State.applyIlim s) [(RegId.off .CHn_GAIN ch 0, v)] =
      s.wr .CHn_GAIN ch 0 v := by
  have hmask : blend (mkW RegId.CHn_GAIN.row.mask) (s.rd .CHn_GAIN ch) v = v := blend_full _ v
  simp [State.applyNow, State.applyIlim, State.ilimMoves, State.applyOne, State.applyStaged, State.dropStep, State.confineAt, at?_gain,
    hmask]

section
variable {s : State} {q : Fin 10} {k g : Nat} {c : Cmd} {ws : List (Nat × Word)} (h : s.Runs q k 0x0405 c) (hok : s.Stages g ws c)

include hok in
/-- Fields that take effect at once leave what the command holds. -/
theorem State.Stages.now_holding (queues : KMap Queue) (op tag drawn : Nat) :
    (State.applyNow (ws.foldl State.applyIlim (s.noting queues op tag drawn)) ws).holding = (s.noting queues op tag s.drawn).holding :=
  (State.applyNow_holding hok.owned _).trans (State.applyIlims_holding ws _)

include h hok

/-- The fields are written as they would be with no command in flight (R77, R190). -/
theorem stage_now (hrun : s.grpRunning g = false) (hgain : ws.any s.gainDenied = false) :
    (bit (wAt c.payload 0) 8 = false → ∃ t, exec (.stage q k) s = .next t ∧ s.Replied t q k stOK [] ∧
      s.sansReply t = (ws.foldl State.applyIlim s).applyNow ws) ∧
    (bit (wAt c.payload 0) 8 = true → ∃ t, exec (.stage q k) s = .next t ∧
      s.Replied t q k stOK (timeWords (Config.openTime s.drawn)) ∧
      { s.sansReply t with drawn := s.drawn } = (ws.foldl State.applyIlim s).applyNow ws) := by
  obtain ⟨queues, tag, hp⟩ := h.begun_eq
  have hblind : State.Blind fun u => (ws.foldl State.applyIlim u).applyNow ws :=
    (State.applyNow_blind ws).comp (State.Blind.foldl State.applyIlim_blind ws)
  have hstage := State.stage_stopped h hp (hok.noting queues c.hdr.opcode tag s.drawn) hrun hgain
  have hdraw : (s.noting queues c.hdr.opcode tag s.drawn).draw.2 = s.noting queues c.hdr.opcode tag (s.drawn + 1) := rfl
  have hdrawn : (s.noting queues c.hdr.opcode tag s.drawn).drawn = s.drawn := rfl
  have hheld := fun drawn => (hok.now_holding queues c.hdr.opcode tag drawn).trans (congrArg State.holding hp.symm)
  rw [hdraw, hdrawn] at hstage
  refine ⟨fun hrel => ?_, fun hrel => ?_⟩
  · rw [hrel, if_neg Bool.false_ne_true] at hstage
    obtain ⟨hreply, queues', heq⟩ := h.answered (hheld s.drawn) stOK []
    refine ⟨_, exec_main rfl h.rst hstage, hreply, ?_⟩
    rw [heq]
    exact hblind.sansReply_drawn s queues c.hdr.opcode tag
  · rw [hrel, if_pos rfl] at hstage
    obtain ⟨hreply, queues', heq⟩ := h.answered (hheld (s.drawn + 1)) stOK (timeWords (Config.openTime s.drawn))
    refine ⟨_, exec_main rfl h.rst hstage, hreply, ?_⟩
    rw [heq]
    exact hblind.sansReply s queues c.hdr.opcode tag (s.drawn + 1)

/-- One channel gain is stored as it is given. -/
theorem stage_gain (hrun : s.grpRunning g = false) {ch : Fin 32} {v : Word} (hws : ws = [(RegId.off .CHn_GAIN ch 0, v)]) :
    ∃ t, exec (.stage q k) s = .next t ∧ t.rd .CHn_GAIN ch = v ∧ KMap.agreeBut s.regs t.regs [RegId.off .CHn_GAIN ch 0] := by
  subst hws
  have hgain : ([(RegId.off .CHn_GAIN ch 0, v)] : List (Nat × Word)).any s.gainDenied = false := by
    simp [State.gainDenied, at?_gain]
  obtain ⟨hnow, hopen⟩ := stage_now h hok hrun hgain
  have hregs : ∃ t, exec (.stage q k) s = .next t ∧ t.regs = (s.wr .CHn_GAIN ch 0 v).regs := by
    rw [← State.applyNow_gain]
    cases hrel : bit (wAt c.payload 0) 8 with
    | false =>
      obtain ⟨t, hexec, -, ht⟩ := hnow hrel
      have hregs := congrArg State.regs ht
      exact ⟨t, hexec, hregs⟩
    | true =>
      obtain ⟨t, hexec, -, ht⟩ := hopen hrel
      have hregs := congrArg State.regs ht
      exact ⟨t, hexec, hregs⟩
  obtain ⟨t, hexec, ht⟩ := hregs
  refine ⟨t, hexec, ?_, ht ▸ s.wr_agreeBut .CHn_GAIN ch 0 v⟩
  rw [State.rd, ht]
  exact s.rd_wr_same .CHn_GAIN ch 0 v

end

/-! ### STAGE on a running group -/

section
variable {s : State} {q : Fin 10} {k g : Nat} {c : Cmd} {ws : List (Nat × Word)} (h : s.Runs q k 0x0405 c) (hok : s.Stages g ws c)
  (hg : g < 8) (hrun : s.grpRunning g = true) (hfits : (s.grp g).openSet.fits ws.length 0 = true)
include h hok hrun hfits

theorem stage_unready (hrel : bit (wAt c.payload 0) 8 = true) (hnames : s.stageNames g = true) :
    ∃ t, exec (.stage q k) s = .next t ∧ s.RepliedOnly t q k stNotReady [] := by
  obtain ⟨queues, tag, hp⟩ := h.begun_eq
  have hnames' : (s.noting queues c.hdr.opcode tag s.drawn).stageNames g = true := hnames
  have hstage := State.stage_running h hp (hok.noting ..) hrun hfits
  rw [hrel, hnames', Bool.and_self, if_pos rfl, ← hp] at hstage
  exact ⟨_, exec_main rfl h.rst hstage, State.finish_begun h _ _⟩

include hg

theorem stage_collects (hrel : bit (wAt c.payload 0) 8 = false) (hhold : s.hold g = true) :
    ∃ t, exec (.stage q k) s = .next t ∧ s.Replied t q k stOK [] ∧ t.grp g = (s.grp g).adding ws [] ∧
      KMap.agreeBut s.groups t.groups [g] ∧ { s.sansReply t with groups := s.groups } = ws.foldl State.applyIlim s := by
  obtain ⟨queues, tag, hp⟩ := h.begun_eq
  have hhold' : (s.noting queues c.hdr.opcode tag s.drawn).hold g = true := hhold
  obtain ⟨regs, hregs⟩ := State.applyIlims_eq ws s
  have hb := State.Blind.foldl State.applyIlim_blind ws s queues c.hdr.opcode tag s.drawn
  have hheld := (State.applyIlims_holding ws _).trans (congrArg State.holding hp.symm)
  have hstage := State.stage_running h hp (hok.noting ..) hrun hfits
  rw [hrel, Bool.false_and, if_neg Bool.false_ne_true, if_neg Bool.false_ne_true, hhold', if_pos rfl,
    State.addition_holds ((State.applyIlims_hold ws (s.noting queues c.hdr.opcode tag s.drawn) hg).trans hhold')] at hstage
  obtain ⟨hreply, queues', heq⟩ := h.answered (v := (ws.foldl State.applyIlim _).grown g ws []) hheld stOK []
  beta_reduce at hb
  rw [hb, hregs] at hstage hreply heq
  refine ⟨_, exec_main rfl h.rst hstage, hreply, ?_, ?_, ?_⟩
  · rw [heq]
    exact s.grp_setGrp_same g _
  · rw [heq]
    exact s.setGrp_agreeBut g _
  · rw [heq, hregs]
    rfl

/-- With RELEASE, or while HOLD is 0, the grown set is released. -/
theorem State.stage_releases {queues : KMap Queue} {tag : Nat} (hp : s.begun ⟨q, k⟩ = s.noting queues c.hdr.opcode tag s.drawn)
    (hrel : (bit (wAt c.payload 0) 8 = true ∧ s.stageNames g = false) ∨ (bit (wAt c.payload 0) 8 = false ∧ s.hold g = false)) :
    s.stage q k = (((ws.foldl State.applyIlim s).noting queues c.hdr.opcode tag s.drawn).grown g ws []).releaseSet g (some ⟨q, k⟩)
      (if bit (wAt c.payload 0) 8 then none else some []) := by
  have hstage := State.stage_running h hp (hok.noting ..) hrun hfits
  have hb := State.Blind.foldl State.applyIlim_blind ws s queues c.hdr.opcode tag s.drawn
  beta_reduce at hb
  rcases hrel with ⟨hrel, hnames⟩ | ⟨hrel, hhold⟩
  · have hnames' : (s.noting queues c.hdr.opcode tag s.drawn).stageNames g = false := hnames
    rw [hrel, hnames', Bool.and_false, if_neg Bool.false_ne_true, if_pos rfl, hb] at hstage
    rw [hstage, hrel, if_pos rfl]
  · have hhold' : (s.noting queues c.hdr.opcode tag s.drawn).hold g = false := hhold
    rw [hrel, Bool.false_and, if_neg Bool.false_ne_true, if_neg Bool.false_ne_true, hhold', if_neg Bool.false_ne_true,
      State.addition_released ((State.applyIlims_hold ws (s.noting queues c.hdr.opcode tag s.drawn) hg).trans hhold'), hb] at hstage
    rw [hstage, hrel, if_neg Bool.false_ne_true]

variable (hrel : (bit (wAt c.payload 0) 8 = true ∧ s.stageNames g = false) ∨ (bit (wAt c.payload 0) 8 = false ∧ s.hold g = false))
include hrel

theorem stage_released (hroom : (s.grp g).released.length < 4) : ∃ t, exec (.stage q k) s = .next t ∧ s.Began t q k c ∧
    (ws.foldl State.applyIlim s).ReleasedFor t g ws [] (some ⟨q, k⟩) (if bit (wAt c.payload 0) 8 then none else some []) := by
  obtain ⟨queues, tag, hp⟩ := h.begun_eq
  obtain ⟨regs, hregs⟩ := State.applyIlims_eq ws s
  have hstage := State.stage_releases h hok hg hrun hfits hp hrel
  rw [hregs] at hstage ⊢
  obtain ⟨y, hy⟩ := State.grown_releases (s := ({ s with regs := regs } : State).noting queues c.hdr.opcode tag s.drawn) hroom ws []
    (some ⟨q, k⟩) (if bit (wAt c.payload 0) 8 then none else some [])
  exact ⟨_, exec_main rfl h.rst hstage, h.began ((congrArg State.queues hy.frame).trans (congrArg State.queues hp).symm), hy.releasedFor⟩

theorem stage_waits (hfull : 4 ≤ (s.grp g).released.length) : ∃ t, exec (.stage q k) s = .next t ∧ s.Began t q k c ∧
    t.grp g = { (s.grp g).adding ws [] with
      relWait := (s.grp g).relWait ++ [(some ⟨q, k⟩, if bit (wAt c.payload 0) 8 then none else some [])] } ∧
    KMap.agreeBut s.groups t.groups [g] ∧ { s.sansReply t with groups := s.groups } = ws.foldl State.applyIlim s := by
  obtain ⟨queues, tag, hp⟩ := h.begun_eq
  obtain ⟨regs, hregs⟩ := State.applyIlims_eq ws s
  have hstage := State.stage_releases h hok hg hrun hfits hp hrel
  rw [hregs] at hstage ⊢
  have hx : ((({ s with regs := regs } : State).noting queues c.hdr.opcode tag s.drawn).grown g ws []).grp g = (s.grp g).adding ws [] :=
    State.grp_setGrp_same _ g _
  rw [State.releaseSet_waits (by rw [hx]; exact hfull), hx] at hstage
  refine ⟨_, exec_main rfl h.rst hstage, h.began (congrArg State.queues hp).symm, State.grp_setGrp_same _ g _,
    KMap.agreeBut_trans (s.setGrp_agreeBut g _) (State.setGrp_agreeBut _ g _), rfl⟩

end

/-! ### COMMIT -/

section
variable {s : State} {q : Fin 10} {k : Nat} {c : Cmd} (h : s.Runs q k 0x0406 c)
include h

theorem commit_bad (hbad : fld (wAt c.payload 0) 31 3 ≠ 0) : ∃ t, exec (.commit q k) s = .next t ∧ s.RepliedOnly t q k stBadParam [] := by
  have hcommit : s.commit q k = (s.begun ⟨q, k⟩).finish ⟨q, k⟩ stBadParam [] := by
    rw [State.commit, State.run_of_runs h]
    exact if_pos hbad
  exact ⟨_, exec_main rfl h.rst hcommit, State.finish_begun h _ _⟩

variable {g : Nat} (hg : g = fld (wAt c.payload 0) 2 0) (hok : fld (wAt c.payload 0) 31 3 = 0)
include hg hok

/-- A COMMIT without a reserved bit answers for an empty open set, and releases another (R190). -/
theorem State.commit_eq : s.commit q k =
    if (s.grp g).openSet.isEmpty then (s.begun ⟨q, k⟩).finish ⟨q, k⟩ stOK (timeWords (s.grp g).lastCommit)
    else (s.begun ⟨q, k⟩).releaseSet g (some ⟨q, k⟩) none := by
  obtain ⟨queues, tag, hp⟩ := h.begun_eq
  have hgrp : (s.begun ⟨q, k⟩).grp g = s.grp g := by
    rw [hp]
    rfl
  rw [State.commit, State.run_of_runs h]
  simp only [hok, ← hg, hgrp, ne_eq, not_true_eq_false, if_false]

theorem commit_empty (he : (s.grp g).openSet.isEmpty = true) :
    ∃ t, exec (.commit q k) s = .next t ∧ s.RepliedOnly t q k stOK (timeWords (s.grp g).lastCommit) :=
  ⟨_, exec_main rfl h.rst ((State.commit_eq h hg hok).trans (if_pos he)), State.finish_begun h _ _⟩

variable (he : (s.grp g).openSet.isEmpty = false)
include he

theorem commit_released (hroom : (s.grp g).released.length < 4) : ∃ t, exec (.commit q k) s = .next t ∧ s.Began t q k c ∧
    s.ReleasedFor t g [] [] (some ⟨q, k⟩) none := by
  obtain ⟨queues, tag, hp⟩ := h.begun_eq
  have hcommit := State.commit_eq h hg hok
  rw [he, if_neg Bool.false_ne_true, hp] at hcommit
  obtain ⟨y, hy⟩ := State.releaseSet_releases (s := s.noting queues c.hdr.opcode tag s.drawn) hroom (some ⟨q, k⟩) none
  exact ⟨_, exec_main rfl h.rst hcommit, h.began ((congrArg State.queues hy.frame).trans (congrArg State.queues hp).symm), hy.releasedFor⟩

theorem commit_waits (hfull : 4 ≤ (s.grp g).released.length) : ∃ t, exec (.commit q k) s = .next t ∧ s.Began t q k c ∧
    t.grp g = { s.grp g with relWait := (s.grp g).relWait ++ [(some ⟨q, k⟩, none)] } ∧
    KMap.agreeBut s.groups t.groups [g] ∧ { s.sansReply t with groups := s.groups } = s := by
  obtain ⟨queues, tag, hp⟩ := h.begun_eq
  have hcommit := State.commit_eq h hg hok
  rw [he, if_neg Bool.false_ne_true, hp, State.releaseSet_waits (s := s.noting queues c.hdr.opcode tag s.drawn) hfull] at hcommit
  exact ⟨_, exec_main rfl h.rst hcommit, h.began (congrArg State.queues hp).symm, s.grp_setGrp_same g _, s.setGrp_agreeBut g _, rfl⟩

end

/-- Settles O36: each form of STAGE and COMMIT is computed to the reply, the addition or the release that it comes to. -/
theorem stageAndCommit : Obligations.StageAndCommit := by
  unfold Obligations.StageAndCommit
  intro q k g c s hg
  have hg8 : g < 8 := hg ▸ Nat.mod_lt _ (by decide)
  refine ⟨?_, fun h => ⟨commit_bad h, fun hok => ⟨commit_empty h hg hok, fun he => ⟨commit_released h hg hok he, commit_waits h hg hok he⟩⟩⟩⟩
  rintro ws b res h rfl rfl rfl
  obtain ⟨queues, tag, hp⟩ := h.begun_eq
  refine ⟨fun hbad => ?_, fun hl hh ho => ⟨fun hm => ?_, fun hm hi => ?_⟩⟩
  · have hstage := State.stage_bad h rfl (by rw [hp, ← hg]; exact hbad)
    exact ⟨_, exec_main rfl h.rst hstage, State.finish_begun h _ _⟩
  · have hstage := State.stage_moves h hp hl hh (hg ▸ ho) hm
    obtain ⟨hreply, queues', heq⟩ := h.answered (v := (s.noting queues c.hdr.opcode tag s.drawn).bump .OUT_CNT_ROUTE_REJ)
      ((State.bump_holding _ (by decide)).trans (congrArg State.holding hp.symm)) stEnabled []
    exact ⟨_, exec_main rfl h.rst hstage, hreply, by rw [heq]; rfl⟩
  · have hok : s.Stages g (pairsFrom 1 c.payload) c := ⟨hg.symm, rfl, hl, hh, ho, hm, hi⟩
    refine ⟨fun hrun hgain => ?_, fun hrun hfits => ⟨stage_unready h hok hrun hfits, stage_collects h hok hg8 hrun hfits, fun hrel =>
      ⟨stage_released h hok hg8 hrun hfits hrel, fun hfull => ?_⟩⟩⟩
    · obtain ⟨hnow, hopen⟩ := stage_now h hok hrun hgain
      exact ⟨hnow, hopen, fun ch v => stage_gain h hok hrun⟩
    · obtain ⟨t, hexec, hbegan, hgrp, hgroups, hframe⟩ := stage_waits h hok hg8 hrun hfits hrel hfull
      exact ⟨t, hexec, hbegan, by rw [hgrp]; rfl, by rw [hgrp]; exact List.append_nil _, by rw [hgrp]; rfl, hgroups, hframe⟩

end Sys2Proof.Machine
end
section
/-!
PROOF. Enables and running bits (R71, R72, R168, R223, R248, R467).
-/
namespace Sys2Proof.Machine

/-! ### Enables are direct writes (R71, R72) -/

theorem State.enable_eq (s : State) (x : EnTarget) (on : Bool) : s.enable x on =
    s.registerWrite .bar0 ((enableBit x).1.off (enableBit x).2.1 0) (setBit (s.rd (enableBit x).1 (enableBit x).2.1) (enableBit x).2.2 on)
      (15 : Fin 256).val none := by
  have hbe : (15 : Fin 256).val % 16 = 15 := by decide
  rw [State.registerWrite, hbe]
  exact rfl

section
variable {s : State} (hrst : s.mgt.rst = false) (x : EnTarget)
include hrst

theorem exec_blockEnable : exec (.blockEnable x) s =
    exec (.registerWrite .bar0 ((enableBit x).1.off (enableBit x).2.1 0)
      (setBit (s.rd (enableBit x).1 (enableBit x).2.1) (enableBit x).2.2 true) 15 none) s :=
  (exec_main rfl hrst (s.enable_eq x true)).trans (exec_main rfl hrst rfl).symm

theorem exec_blockDisable : exec (.blockDisable x) s =
    exec (.registerWrite .bar0 ((enableBit x).1.off (enableBit x).2.1 0)
      (setBit (s.rd (enableBit x).1 (enableBit x).2.1) (enableBit x).2.2 false) 15 none) s :=
  (exec_main rfl hrst (s.enable_eq x false)).trans (exec_main rfl hrst rfl).symm

end

/-! ### The restart of the slack measurement -/

theorem State.slackRestart_rd (s : State) {r : RegId} {i j : Nat} (h : r.off i j ≠ RegId.off .SYS_SLACK 0 0) :
    s.slackRestart.rd r i j = s.rd r i j :=
  State.rd_wr_ne _ _ h

theorem State.restart_rd (s : State) (p : Prop) [Decidable p] {r : RegId} {i j : Nat} (h : r.off i j ≠ RegId.off .SYS_SLACK 0 0) :
    (if p then s else s.slackRestart).rd r i j = s.rd r i j := by
  split
  · rfl
  · exact s.slackRestart_rd h

/-! ### Running bits -/

theorem State.setRunning_running (s : State) (b : Nat) (v : Bool) {c : Nat} (hc : c < 32) :
    (s.setRunning b v).running c = if b = c then v else s.running c :=
  (congrArg (bit · c) (State.rd_wr_same ..)).trans (bit_setBit _ b v hc)

theorem State.setRunning_rd (s : State) (b : Nat) (v : Bool) {r : RegId} {i j : Nat} (h : r.off i j ≠ RegId.off .SYS_EN_STATUS 0 0) :
    (s.setRunning b v).rd r i j = s.rd r i j :=
  State.rd_wr_ne _ _ h

/-- What the running bit of a block follows: its enable, and for the harmonics block its table too. -/
def State.enValue (s : State) (b : Nat) : Bool := s.rb .SYS_EN 0 0 b && (b ≠ 4 || s.rb .HRM_STATUS 0 0 0)

theorem State.enTake_eq {b : Nat} (hb : b ≠ 6) (s : State) (dacChange : State → Bool → State) :
    s.enTake dacChange b = if s.running b = s.enValue b then s else s.setRunning b (s.enValue b) := by
  rw [State.enTake]
  exact if_congr Iff.rfl rfl (if_neg hb)

/-- Running bits have followed their enables: the ones of a list, and nothing else. -/
structure State.Follows (s t : State) (bs : List Nat) : Prop where
  running : ∀ c < 32, t.running c = if c ∈ bs then s.enValue c else s.running c
  regs : KMap.agreeBut s.regs t.regs [RegId.off .SYS_EN_STATUS 0 0]
  frame : t = { s with regs := t.regs }

theorem State.Follows.rd {s t : State} {bs : List Nat} (h : s.Follows t bs) {r : RegId} {i j : Nat}
    (hr : r.off i j ≠ RegId.off .SYS_EN_STATUS 0 0) : t.rd r i j = s.rd r i j :=
  State.rd_of_agreeBut h.regs (by simpa using hr)

theorem State.Follows.enValue {s t : State} {bs : List Nat} (h : s.Follows t bs) (c : Nat) : t.enValue c = s.enValue c := by
  rw [State.enValue, State.rb, State.rb, h.rd (by decide), h.rd (by decide)]
  rfl

/-- One block other than DAC takes its enable. -/
theorem State.enTake_follows {b : Nat} (hb : b ≠ 6) (s : State) (dacChange : State → Bool → State) :
    s.Follows (s.enTake dacChange b) [b] := by
  rw [State.enTake_eq hb]
  split
  case isTrue h =>
    refine ⟨fun c _ => ?_, KMap.agreeBut_refl _ _, rfl⟩
    split
    case isTrue hc => rw [List.mem_singleton.mp hc, h]
    case isFalse => rfl
  case isFalse =>
    refine ⟨fun c hc => ?_, s.wr_agreeBut _ _ _ _, rfl⟩
    simp only [s.setRunning_running b _ hc, List.mem_singleton, eq_comm (a := c)]
    split
    case isTrue hbc => rw [hbc]
    case isFalse => rfl

theorem State.enTakes_follow {bs : List Nat} (dacChange : State → Bool → State) (hbs : 6 ∉ bs) (s : State) :
    s.Follows (bs.foldl (fun s b => s.enTake dacChange b) s) bs := by
  induction bs generalizing s with
  | nil => exact ⟨fun c _ => by simp, KMap.agreeBut_refl _ _, rfl⟩
  | cons b bs ih =>
    have hb := State.enTake_follows (fun h => hbs (h ▸ List.mem_cons_self)) s dacChange
    have htail := ih (fun h => hbs (List.mem_cons_of_mem b h)) (s.enTake dacChange b)
    refine ⟨fun c hc => ?_, KMap.agreeBut_trans hb.regs htail.regs, ?_⟩
    · rw [List.foldl_cons, htail.running c hc, hb.enValue, hb.running c hc]
      by_cases h : c ∈ bs <;> simp [h]
    · rw [List.foldl_cons, htail.frame, hb.frame]

/-! ### SYS_EN -/

/-- Steps that change nothing leave the state. -/
theorem foldl_fixed {σ α : Type} {f : σ → α → σ} {s : σ} {l : List α} (h : ∀ a ∈ l, f s a = s) : l.foldl f s = s := by
  induction l with
  | nil => rfl
  | cons a l ih =>
    rw [List.foldl_cons, h a List.mem_cons_self]
    exact ih fun b hb => h b (List.mem_cons_of_mem a hb)

/-- Where only the step for OUT can act, the blocks' steps are that one. -/
theorem foldl_range_out {σ : Type} {f : σ → Nat → σ} {s : σ} (h : ∀ b < 14, b ≠ 5 → f s b = s)
    (h' : ∀ b < 14, b ≠ 5 → f (f s 5) b = f s 5) : (List.range 14).foldl f s = f s 5 := by
  rw [show List.range 14 = List.range 5 ++ 5 :: [6, 7, 8, 9, 10, 11, 12, 13] by decide, List.foldl_append, List.foldl_cons,
    foldl_fixed (l := List.range 5) fun b hb => h b (by have := List.mem_range.mp hb; omega) (by have := List.mem_range.mp hb; omega)]
  have hrest : ∀ b ∈ [6, 7, 8, 9, 10, 11, 12, 13], b < 14 ∧ b ≠ 5 := by decide
  exact foldl_fixed fun b hb => h' b (hrest b hb).1 (hrest b hb).2

/-- A word for SYS_EN that asks of OUT and repeats what runs. -/
structure State.AsksOut (s : State) (v : Word) (on : Bool) : Prop where
  out : bit v 5 = on
  others : ∀ b < 14, b ≠ 5 → bit v b = s.running b
  old : ∀ b < 14, bit (s.rd .SYS_EN) b = s.running b

theorem State.wr_en_running (s : State) (v : Word) (b : Nat) : (s.wr .SYS_EN 0 0 v).running b = s.running b :=
  congrArg (bit · b) (State.rd_wr_ne s v (by decide))

section
variable {s : State} {v : Word} {on : Bool} (h : s.AsksOut v on)
include h

/-- SYS_EN with a change for OUT alone asks for that change. -/
theorem State.AsksOut.sysEn {x : State}
    (hx : (if on = s.running 5 then s.wr .SYS_EN 0 0 v else (s.wr .SYS_EN 0 0 v).enAsk State.dacBlock 5) = x)
    (hkept : ∀ b < 14, b ≠ 5 → x.running b = s.running b) :
    s.sysEn v = if v = s.rd .SYS_EN then x else x.slackRestart := by
  have hquiet : ∀ u : State, ∀ b < 14, b ≠ 5 → u.running b = s.running b →
      (if bit v b != bit (s.rd .SYS_EN) b || (bit v b && !u.running b) then u.blockSet b (bit v b) else u) = u := fun u b hb h5 hu => by
    rw [h.others b hb h5, h.old b hb, hu, bne_self_eq_false, Bool.and_not_self, Bool.or_self, if_neg Bool.false_ne_true]
  have hout : (if bit v 5 != bit (s.rd .SYS_EN) 5 || (bit v 5 && !(s.wr .SYS_EN 0 0 v).running 5)
      then (s.wr .SYS_EN 0 0 v).blockSet 5 (bit v 5) else s.wr .SYS_EN 0 0 v) = x := by
    rw [h.out, h.old 5 (by decide), s.wr_en_running v, ← hx]
    cases on <;> cases s.running 5 <;> rfl
  rw [State.sysEn, foldl_range_out (s := s.wr .SYS_EN 0 0 v)]
  · rw [hout]
  · exact fun b hb h5 => hquiet _ b hb h5 (s.wr_en_running v b)
  · intro b hb h5
    rw [hout]
    exact hquiet x b hb h5 (hkept b hb h5)

/-- With no group running OUT follows its enable at once (R71). -/
theorem State.AsksOut.idle (hidle : s.anyRunning = false) : (s.sysEn v).rb .SYS_EN 0 0 5 = on ∧ (s.sysEn v).running 5 = on ∧
    { s.sysEn v with regs := s.regs, slackFrom := s.slackFrom } = s := by
  have hf := State.enTake_follows (b := 5) (by decide) (s.wr .SYS_EN 0 0 v) State.dacBlock
  have hask : (s.wr .SYS_EN 0 0 v).enAsk State.dacBlock 5 = (s.wr .SYS_EN 0 0 v).enTake State.dacBlock 5 :=
    if_neg (fun hr => Bool.false_ne_true (hidle.symm.trans hr))
  have hval : (s.wr .SYS_EN 0 0 v).enValue 5 = on := by
    simp [State.enValue, State.rb, h.out]
  have hx : (if on = s.running 5 then s.wr .SYS_EN 0 0 v else (s.wr .SYS_EN 0 0 v).enAsk State.dacBlock 5) =
      (s.wr .SYS_EN 0 0 v).enTake State.dacBlock 5 := by
    rw [hask]
    split
    case isTrue hon => rw [State.enTake_eq (by decide), s.wr_en_running v, hval, if_pos hon.symm]
    case isFalse => rfl
  rw [h.sysEn hx fun b hb h5 => by rw [hf.running b (by omega), if_neg (by simpa using h5), s.wr_en_running v]]
  refine ⟨?_, ?_, ?_⟩
  · rw [State.rb, State.restart_rd _ _ (by decide), hf.rd (by decide), State.rd_wr_same, h.out]
  · rw [State.running, State.rb, State.restart_rd _ _ (by decide)]
    exact (hf.running 5 (by decide)).trans hval
  · rw [hf.frame]
    split <;> rfl

end

/-- While a group runs OUT waits to stop (R72). -/
theorem State.AsksOut.waits {s : State} {v : Word} (h : s.AsksOut v false) (hany : s.anyRunning = true) (hon : s.running 5 = true) :
    (s.sysEn v).rb .SYS_EN 0 0 5 = false ∧ (s.sysEn v).running 5 = true ∧ 5 ∈ (s.sysEn v).enWait ∧
      { s.sysEn v with regs := s.regs, slackFrom := s.slackFrom, enWait := s.enWait } = s := by
  have hen : (s.wr .SYS_EN 0 0 v).rb .SYS_EN 0 0 5 = false := by
    rw [State.rb, State.rd_wr_same, h.out]
  have hx : (if false = s.running 5 then s.wr .SYS_EN 0 0 v else (s.wr .SYS_EN 0 0 v).enAsk State.dacBlock 5) =
      { s.wr .SYS_EN 0 0 v with enWait := (s.enWait.filter fun x => x ≠ 5) ++ [5] } := by
    have hany' : (s.wr .SYS_EN 0 0 v).anyRunning = true := hany
    rw [hon, if_neg Bool.false_ne_true, State.enAsk, if_pos hany', hen, s.wr_en_running v, hon]
    rfl
  rw [h.sysEn hx fun b _ _ => s.wr_en_running v b]
  refine ⟨?_, ?_, ?_, ?_⟩
  · rw [State.rb, State.restart_rd _ _ (by decide)]
    exact hen
  · rw [State.running, State.rb, State.restart_rd _ _ (by decide)]
    exact (s.wr_en_running v 5).trans hon
  · split <;> exact List.mem_append_right _ List.mem_cons_self
  · split <;> rfl

/-- A direct write of OUT's enable where every enable is what runs. -/
theorem State.directWrite_out {s : State} (h : ∀ b : Fin 14, s.rb .SYS_EN 0 0 b = s.running b) (on : Bool) :
    ∃ v, s.directWrite (RegId.off .SYS_EN 0 0) (setBit (s.rd .SYS_EN) 5 on) = s.sysEn v ∧ s.AsksOut v on := by
  have hmask : ∀ b < 14, (0x3FFF : Nat).testBit b = true := by decide
  have hbit : ∀ b < 14, bit (setBit (s.rd .SYS_EN) 5 on &&& mkW 0x3FFF) b = if 5 = b then on else bit (s.rd .SYS_EN) b :=
    fun b hb => (bit_and_mask (by omega) (hmask b hb) _).trans (bit_setBit _ _ _ (by omega))
  have hold : ∀ b < 14, bit (s.rd .SYS_EN) b = s.running b := fun b hb => h ⟨b, hb⟩
  refine ⟨setBit (s.rd .SYS_EN) 5 on &&& mkW 0x3FFF, ?_, hbit 5 (by decide), fun b hb h5 => ?_, hold⟩
  · rw [State.directWrite_control (r := .SYS_EN) (by decide) (by decide) (State.stageGroup_unstaged (by decide) 0 0 _) (by simp)]
    rfl
  · rw [hbit b hb, if_neg h5.symm, hold b hb]

/-! ### Deferred changes -/

section
variable {s : State} (hA : (s.pll 0).stopPending = false) (hB : (s.pll 1).stopPending = false)
include hA hB

/-- Without a pending stop neither PLL stops. -/
theorem State.settle_plls : (List.range 2).foldl (fun (s : State) x =>
    if (s.pll x).stopPending && !s.anyOn x then (s.pllStop x).slackRestart else s) s = s := by
  have hplls : ∀ x ∈ List.range 2, (s.pll x).stopPending = false := by
    simp [show List.range 2 = [0, 1] by decide, hA, hB]
  exact foldl_fixed fun x hx => by rw [hplls x hx]; rfl

/-- While a group runs nothing is settled. -/
theorem State.settleEnables_running (dacChange : State → Bool → State) (h : s.anyRunning = true) : s.settleEnables dacChange = s := by
  rw [State.settleEnables, State.settle_plls hA hB]
  exact if_pos h

/-- Once no group runs the blocks that wait take their enables. -/
theorem State.settleEnables_idle (dacChange : State → Bool → State) (h : s.anyRunning = false) (htb : s.tb.stopPending = false)
    (hdrm : s.drm.stopPending = false) (h6 : 6 ∉ s.enWait) :
    ({ s with enWait := [] } : State).Follows (s.settleEnables dacChange) s.enWait := by
  have hf := State.enTakes_follow dacChange h6 { s with enWait := [] }
  have hdrm' : (s.enWait.foldl (fun (s : State) b => s.enTake dacChange b) { s with enWait := [] }).drm.stopPending = false := by
    rw [hf.frame]
    exact hdrm
  rw [State.settleEnables, State.settle_plls hA hB]
  simp only [h, htb, hdrm', Bool.false_eq_true, if_false]
  exact hf

end

/-! ### The enable of a group -/

/-- A change of a group's enable alone, before its state follows. -/
theorem State.directWrite_group {s : State} {g : Nat} (hg : g < 8) {on : Bool} (h : s.rb .Gn_CTL g 0 0 = !on) :
    ∃ u : State, u.rb .Gn_CTL g 0 0 = on ∧ u = { s with regs := u.regs, slackFrom := u.slackFrom } ∧
      s.directWrite (RegId.off .Gn_CTL g 0) (setBit (s.rd .Gn_CTL g) 0 on) =
        if on then (if (s.grp g).st = .disabled then u.setGrp g { s.grp g with st := .stopped } else u)
        else if (s.grp g).st.plays
        then u.setGrp g { s.grp g with st := .stopping, stops := (s.grp g).stops ++ [{ mode := 2, cmd := none, disable := true }] }
        else if (s.grp g).st.isRunning then u.stopGroup g u.now true
        else (u.setGrp g { s.grp g with st := .disabled, armCmd := none }).finishOpt (s.grp g).armCmd stNotReady [] := by
  have hbit : bit (setBit (s.rd .Gn_CTL g) 0 on &&& mkW RegId.Gn_CTL.row.mask) 0 = on :=
    (bit_and_mask (by decide) (by decide) _).trans (bit_setBit_same (by decide) _ on)
  have hslack : RegId.off .Gn_CTL g 0 ≠ RegId.off .SYS_SLACK 0 0 := by
    simp only [RegId.off, RegId.row]
    omega
  rw [State.directWrite_control (r := .Gn_CTL) (by decide) hg (State.stageGroup_unstaged (by decide) g 0 _) (by simp)]
  generalize hw : setBit (setBit (s.rd .Gn_CTL g) 0 on &&& mkW RegId.Gn_CTL.row.mask) 0 (bit (s.rd .Gn_CTL g) 0) = w
  have hold : (s.wr .Gn_CTL g 0 w).rb .Gn_CTL g 0 0 ≠ on := by
    rw [State.rb, State.rd_wr_same, ← hw, bit_setBit_same (by decide)]
    exact fun hon => Bool.not_ne_self on (h.symm.trans hon)
  refine ⟨((s.wr .Gn_CTL g 0 w).wrb .Gn_CTL g 0 0 on).slackRestart, ?_, rfl, ?_⟩
  · rw [State.rb, State.slackRestart_rd _ hslack, State.wrb, State.rd_wr_same, bit_setBit_same (by decide)]
  · have hwrite : s.writeNow false none (.Gn_CTL, g, 0) (setBit (s.rd .Gn_CTL g) 0 on) = (s.wr .Gn_CTL g 0 w).groupEnable g on := by
      rw [← hw]
      exact congrArg (State.groupEnable _ g) hbit
    rw [hwrite, State.groupEnable, if_neg hold]
    rfl

/-- The enable of the error log is a bit of ERR_CTL. -/
theorem State.directWrite_errLog (s : State) (on : Bool) : s.directWrite (RegId.off .ERR_CTL 0 0) (setBit (s.rd .ERR_CTL) 0 on) =
    s.wr .ERR_CTL 0 0 (setBit (s.rd .ERR_CTL) 0 on &&& 0x3F0F) :=
  State.directWrite_control (r := .ERR_CTL) (by decide) (by decide) (State.stageGroup_unstaged (by decide) 0 0 _) (by simp)

/-- Settles O20: an enable is one bit of a register that nothing refuses; each write is computed to what the block makes of it. -/
theorem enables : Obligations.Enables := by
  unfold Obligations.Enables
  intro s hrst
  refine ⟨fun x => ⟨exec_blockEnable hrst x, exec_blockDisable hrst x⟩, fun hsame => ⟨fun hidle => ?_, fun hany hon => ?_⟩,
    fun hA hB => ⟨fun hany => ?_, fun hidle htb hdrm hwait => ?_⟩, fun g => ⟨fun hst hctl => ?_, fun hst hctl harm => ?_, fun hst hctl => ?_⟩, ?_, ?_⟩
  · obtain ⟨v, hv, hon⟩ := State.directWrite_out hsame true
    obtain ⟨w, hw, hoff⟩ := State.directWrite_out hsame false
    obtain ⟨hven, hvrun, hvframe⟩ := hon.idle hidle
    obtain ⟨hwen, hwrun, hwframe⟩ := hoff.idle hidle
    exact ⟨_, _, exec_main rfl hrst hv, hven, hvrun, exec_main rfl hrst hw, hwen, hwrun, hvframe, hwframe⟩
  · obtain ⟨v, hv, hoff⟩ := State.directWrite_out hsame false
    exact ⟨_, exec_main rfl hrst hv, hoff.waits hany hon⟩
  · exact exec_main rfl hrst (State.settleEnables_running hA hB State.dacBlock hany)
  · have hf := State.settleEnables_idle hA hB State.dacBlock hidle htb hdrm fun h6 => by have := hwait 6 h6; omega
    refine ⟨_, exec_main rfl hrst rfl, congrArg State.enWait hf.frame, fun h5 => ?_, fun h4 => ?_, hf.regs, ?_⟩
    · exact ((hf.running 5 (by decide)).trans (if_pos h5)).trans (Bool.and_true _)
    · exact (hf.running 4 (by decide)).trans (if_pos h4)
    · exact congrArg (fun t : State => { t with regs := s.regs, enWait := s.enWait }) hf.frame
  · obtain ⟨u, hctl', hframe, hw⟩ := State.directWrite_group g.isLt (on := true) hctl
    rw [if_pos rfl, if_pos hst] at hw
    exact ⟨_, exec_main rfl hrst hw, u.grp_setGrp_same g _, hctl', hframe ▸ s.setGrp_agreeBut g _, hframe ▸ rfl⟩
  · obtain ⟨u, hctl', hframe, hw⟩ := State.directWrite_group g.isLt (on := false) hctl
    rw [if_neg Bool.false_ne_true, hst, if_neg (by decide), if_neg (by decide)] at hw
    have hgrp : { s.grp g with st := .disabled, armCmd := none } = { s.grp g with st := .disabled } := by rw [← harm]
    rw [hgrp, harm] at hw
    exact ⟨_, exec_main rfl hrst hw, u.grp_setGrp_same g _, hctl', hframe ▸ s.setGrp_agreeBut g _, hframe ▸ rfl⟩
  · obtain ⟨u, hctl', hframe, hw⟩ := State.directWrite_group g.isLt (on := false) hctl
    rw [if_neg Bool.false_ne_true, if_pos hst] at hw
    exact ⟨_, exec_main rfl hrst hw, u.grp_setGrp_same g _, hctl', hframe ▸ s.setGrp_agreeBut g _, hframe ▸ rfl⟩
  · exact exec_main rfl hrst (State.directWrite_errLog s true)
  · exact exec_main rfl hrst (State.directWrite_errLog s false)

end Sys2Proof.Machine
end
section
/-!
PROOF. What commands write to memory and to segments (R155, R158): bytes, segments, and the answer beside them.
-/
namespace Sys2Proof.Machine

/-! ### Bytes -/

/-- The state with other segments and other memory contents. -/
def State.stored (s : State) (segs : KMap Segment) (onchip ext : KMap Byte) : State :=
  { s with segs := segs, onchip := onchip, ext := ext }

theorem State.writeB_eq (s : State) (chip : Bool) (a : Nat) (b : Byte) :
    ∃ onchip ext, s.writeB chip a b = s.stored s.segs onchip ext := by
  cases chip with
  | true => exact ⟨_, _, rfl⟩
  | false =>
    by_cases h : s.drm.fenced.contains (s.drmChannel a) = true
    · exact ⟨_, _, if_pos h⟩
    · exact ⟨_, _, if_neg h⟩

theorem State.writeExt_blind (a : Nat) (b : Byte) : State.Blind (·.writeExt a b) := fun _ _ _ _ _ => State.noting_ite Iff.rfl rfl rfl

theorem State.writeB_blind (chip : Bool) (a : Nat) (b : Byte) : State.Blind (·.writeB chip a b) := by
  cases chip with
  | true => exact fun _ _ _ _ _ => rfl
  | false => exact State.writeExt_blind a b

theorem State.writeBytes_blind (chip : Bool) (a : Nat) (l : List Byte) : State.Blind (·.writeBytes chip a l) := by
  induction l generalizing a with
  | nil => exact fun _ _ _ _ _ => rfl
  | cons b l ih => exact (ih (a + 1)).comp (State.writeB_blind chip a b)

/-- Writing bytes changes the contents of the memories alone. -/
theorem State.writeBytes_eq (s : State) (chip : Bool) (a : Nat) (l : List Byte) :
    ∃ onchip ext, s.writeBytes chip a l = s.stored s.segs onchip ext := by
  induction l generalizing s a with
  | nil => exact ⟨_, _, rfl⟩
  | cons b l ih =>
    obtain ⟨m, e, h⟩ := s.writeB_eq chip a b
    obtain ⟨m', e', h'⟩ := ih (s.writeB chip a b) (a + 1)
    exact ⟨m', e', by rw [State.writeBytes, h', h]; rfl⟩

theorem State.writeBytes_append (s : State) (chip : Bool) (a : Nat) (l l' : List Byte) :
    s.writeBytes chip a (l ++ l') = (s.writeBytes chip a l).writeBytes chip (a + l.length) l' := by
  induction l generalizing s a with
  | nil => rfl
  | cons b l ih =>
    rw [List.cons_append, State.writeBytes, ih, State.writeBytes, List.length_cons, Nat.add_assoc, Nat.add_comm 1]

/-- Bytes written to on-chip memory, or to external memory of which no channel is fenced, read back. -/
theorem State.byteAt_writeBytes_in {s : State} {chip : Bool} (h : chip = true ∨ s.drm.fenced = []) (a : Nat) {i : Nat} {l : List Byte}
    (hi : i < l.length) : (s.writeBytes chip a l).byteAt chip (a + i) = l.getD i 0 := by
  cases chip with
  | true => exact s.byteAt_writeBytes_chip a i l hi
  | false =>
    have hf : s.drm.fenced = [] := h.resolve_left Bool.false_ne_true
    clear h
    induction l generalizing s a i with
    | nil => cases hi
    | cons b l ih =>
      rw [State.writeBytes]
      cases i with
      | zero =>
        rw [State.byteAt_writeBytes_out _ _ _ _ _ _ (.inr (by omega))]
        exact s.byteAt_writeExt_same a b (by rw [hf]; rfl)
      | succ i =>
        obtain ⟨m, e, hw⟩ := s.writeB_eq false a b
        have hfenced : (s.writeB false a b).drm.fenced = [] := by
          rw [hw]
          exact hf
        rw [Nat.add_comm i 1, ← Nat.add_assoc, ih (s := s.writeB false a b) (a + 1) (Nat.lt_of_succ_lt_succ hi) hfenced, Nat.add_comm 1 i]
        rfl

/-! ### A pattern -/

/-- The bytes of a pattern over `n` words. -/
def patternBytes (pat : Word) (n : Nat) : List Byte := (List.replicate n (leBytes 4 pat.toNat)).flatten

theorem patternBytes_succ (pat : Word) (n : Nat) : patternBytes pat (n + 1) = leBytes 4 pat.toNat ++ patternBytes pat n := by
  rw [patternBytes, List.replicate_succ, List.flatten_cons, patternBytes]

theorem patternBytes_length (pat : Word) (n : Nat) : (patternBytes pat n).length = 4 * n := by
  simp [patternBytes, Nat.mul_comm]

theorem leBytes_getD {n i : Nat} (h : i < n) (v : Nat) : (leBytes n v).getD i 0 = BitVec.ofNat 8 (v / 256 ^ i) := by
  induction n generalizing i v with
  | zero => cases h
  | succ n ih =>
    cases i with
    | zero => rw [Nat.pow_zero, Nat.div_one]; rfl
    | succ i =>
      rw [leBytes, List.getD_cons_succ, ih (Nat.lt_of_succ_lt_succ h), Nat.div_div_eq_div_mul, Nat.pow_succ, Nat.mul_comm]

/-- Byte `i` of a pattern is the byte of its place in the word. -/
theorem patternBytes_getD (pat : Word) {n i : Nat} (h : i < 4 * n) :
    (patternBytes pat n).getD i 0 = BitVec.ofNat 8 (pat.toNat / 256 ^ (i % 4)) := by
  induction n generalizing i with
  | zero => omega
  | succ n ih =>
    rw [patternBytes_succ]
    by_cases hi : i < 4
    · rw [List.getD_append _ _ _ _ (by rwa [leBytes_length]), leBytes_getD hi, Nat.mod_eq_of_lt hi]
    · rw [List.getD_append_right _ _ _ _ (by rw [leBytes_length]; omega), leBytes_length, ih (by omega)]
      rw [show (i - 4) % 4 = i % 4 by omega]

/-- A fill writes the bytes of its pattern. -/
theorem State.fill_eq (s : State) (chip : Bool) (a : Nat) (pat : Word) (n : Nat) :
    s.fill chip a pat n = s.writeBytes chip a (patternBytes pat n) := by
  induction n generalizing s a with
  | zero => rfl
  | succ n ih => rw [State.fill, ih, patternBytes_succ, State.writeBytes_append, leBytes_length]

/-! ### One segment -/

theorem State.setSeg_setSeg (s : State) (i : Nat) (x y : Segment) : (s.setSeg i x).setSeg i y = s.setSeg i y := by
  simp only [State.setSeg, KMap.insert_insert]

theorem State.setSeg_agreeBut (s : State) (i : Nat) (x : Segment) : KMap.agreeBut s.segs (s.setSeg i x).segs [i] :=
  fun _ hj => KMap.find?_insert_ne _ _ (by simpa using hj)

/-- A payload word with the number of a segment holds that number. -/
theorem fld_mkW_seg {i : Nat} (h : i < 2 ^ 14) : fld (mkW i) 13 0 = i ∧ (mkW i).toNat = i := by
  have hw : (mkW i).toNat = i := by
    rw [mkW, BitVec.toNat_ofNat]
    exact Nat.mod_eq_of_lt (by omega)
  exact ⟨by rw [fld, hw, nfld, Nat.shiftRight_zero]; exact Nat.mod_eq_of_lt h, hw⟩

/-- The CRC of a data area depends on the descriptor and the bytes alone. -/
theorem State.segCrc_congr {s t : State} {i : Nat} (hd : t.segDesc i = s.segDesc i) (hb : ∀ chip a, t.byteAt chip a = s.byteAt chip a) :
    t.segCrc i = s.segCrc i := by
  simp only [State.segCrc, State.bytesAt, hd, hb]

theorem State.segDesc_of_ne (s : State) {i : Nat} (h : i ≠ 0) : s.segDesc i = (s.seg i).desc := if_neg h

theorem State.segSt_of_ne (s : State) {i : Nat} (h : i ≠ 0) : s.segSt i = (s.seg i).st := if_neg h

/-! ### What leaves memory, and segments but one, alone -/

/-- Nothing of `t` differs from `s` in the memories, and of the segments only segment `i`. -/
structure State.OnlySeg (s t : State) (i : Nat) : Prop where
  segs : KMap.agreeBut s.segs t.segs [i]
  bytes : ∀ (chip : Bool) (a : Nat), t.byteAt chip a = s.byteAt chip a

theorem State.OnlySeg.trans {s t u : State} {i : Nat} (h : s.OnlySeg t i) (h' : t.OnlySeg u i) : s.OnlySeg u i :=
  ⟨KMap.agreeBut_trans h.segs h'.segs, fun chip a => (h'.bytes chip a).trans (h.bytes chip a)⟩

theorem State.OnlySeg.of_content {s t : State} (h : t.content = s.content) (i : Nat) : s.OnlySeg t i := by
  have hsegs : t.segs = s.segs := congrArg Prod.fst h
  exact ⟨hsegs ▸ KMap.agreeBut_refl _ _, State.byteAt_congr h⟩

theorem State.onlySeg_setSeg (s : State) (i : Nat) (x : Segment) : s.OnlySeg (s.setSeg i x) i := ⟨s.setSeg_agreeBut i x, fun _ _ => rfl⟩

theorem State.content_of_scene {s t : State} {g : Nat} (h : t.scene g = s.scene g) : t.content = s.content := by
  have hback : t.backing = s.backing := congrArg Prod.fst (State.rest_of_scene h)
  exact congrArg (fun b : Backing => (b.segs, b.onchip, b.ext, b.tables)) hback

theorem State.decide1_content (s : State) (r : CmdRef) (status : Nat) (result : List Word) (dev : Nat) :
    (s.decide1 r status result dev).content = s.content := by
  unfold State.decide1
  dsimp only
  split
  · rfl
  · split <;> rfl

theorem State.bcastTry_content (s : State) (num : Nat) : (s.bcastTry num).content = s.content := by
  unfold State.bcastTry
  split
  · exact State.same_ite State.content (State.decide1_content ..) rfl
  · rfl

theorem State.finish_content (s : State) (r : CmdRef) (status : Nat) (result : List Word) :
    (s.finish r status result).content = s.content := by
  unfold State.finish
  split
  · exact State.same_ite State.content rfl (State.bcastTry_content ..)
  · exact State.decide1_content ..

theorem State.transient_content (s : State) (blk inst code status d0 d1 : Nat) :
    (s.transient blk inst code status d0 d1).content = s.content :=
  State.content_of_scene (g := 0) ((State.logErr_scene ..).trans (s.scene_bump (by decide) 0 0))

theorem State.lasting_content (s : State) (blk inst code status d0 d1 : Nat) :
    (s.lasting blk inst code status d0 d1).content = s.content :=
  State.content_of_scene (g := 0) (State.lasting_scene ..)

theorem State.seg_of_content {s t : State} (h : t.content = s.content) (i : Nat) : t.seg i = s.seg i := by
  have hsegs : t.segs = s.segs := congrArg Prod.fst h
  rw [State.seg, State.seg, hsegs]

/-- Beside groups and the logs, fencing a segment changes that segment. -/
theorem State.fenceSeg_content {s t : State} (h : t.content = s.content) (i : Nat) :
    (t.fenceSeg i).content = (s.setSeg i { s.seg i with st := .fenced }).content := by
  have hgroups : (t.fenceSeg i).content = (t.setSeg i { t.seg i with st := .fenced }).content := by
    refine State.foldl_same State.content (fun u g => ?_) _ _
    exact State.same_ite State.content ((State.content_of_scene ((u.dropHeld g i).underrun_scene g 7 none)).trans rfl) rfl
  rw [hgroups, State.seg_of_content h]
  exact congrArg (fun x => (KMap.insert x.1 i _, x.2)) h

/-! ### The answer of a command that has stored something -/

/-- A command that has begun does not begin again. -/
theorem State.run_waits {s : State} {q k : Nat} (h : s.Waits q k) (op : Nat) (body : State → Cmd → CmdRef → State) :
    s.run q k op body = s := by
  obtain ⟨c, hf, hphase, -, -⟩ := h
  simp [State.run, hf, State.eligible, hphase]

theorem State.begun_stored (s : State) (r : CmdRef) (segs : KMap Segment) (onchip ext : KMap Byte) :
    (s.stored segs onchip ext).begun r = (s.begun r).stored segs onchip ext := by
  have hq : (s.stored segs onchip ext).q r.q = s.q r.q := rfl
  simp only [State.begun, hq]
  split <;> rfl

/-- A command that stores something, whatever the queues hold, is answered; beside that only queues and the note of the command that
began last change. -/
theorem State.Runs.answered_blind {s : State} {q k op : Nat} {c : Cmd} (h : s.Runs q k op c) {f : State → State} (hf : State.Blind f)
    (hstored : ∃ segs onchip ext, f s = s.stored segs onchip ext) (status : Nat) (result : List Word) :
    s.Replied ((f (s.begun ⟨q, k⟩)).finish ⟨q, k⟩ status result) q k status result ∧
      ∃ queues tag, (f (s.begun ⟨q, k⟩)).finish ⟨q, k⟩ status result = (f s).noting queues c.hdr.opcode tag s.drawn := by
  obtain ⟨segs, onchip, ext, hfs⟩ := hstored
  obtain ⟨queues, tag, hp⟩ := h.begun_eq
  have hruns : (s.stored segs onchip ext).Runs q k op c := h
  have hbegun : f (s.begun ⟨q, k⟩) = (s.stored segs onchip ext).begun ⟨q, k⟩ := by
    rw [s.begun_stored, hp, hf, hfs]
    rfl
  obtain ⟨hreply, queues', heq⟩ := hruns.answered (v := f (s.begun ⟨q, k⟩)) (congrArg State.holding hbegun) status result
  refine ⟨hreply, queues', tag, heq.trans ?_⟩
  rw [hp, hf]
  rfl

/-- A command that waits is answered where only segments and memory have changed; beside that only queues change. -/
theorem State.Waits.answered_stored {s : State} {q k : Nat} (h : s.Waits q k) (segs : KMap Segment) (onchip ext : KMap Byte)
    (status : Nat) (result : List Word) :
    s.Replied ((s.stored segs onchip ext).finish ⟨q, k⟩ status result) q k status result ∧
      ∃ queues, (s.stored segs onchip ext).finish ⟨q, k⟩ status result = { s.stored segs onchip ext with queues := queues } := by
  have hstored : (s.stored segs onchip ext).Waits q k := h
  exact State.finish_waits hstored rfl status result

end Sys2Proof.Machine
end
section
/-!
PROOF. MEM_FILL and MEM_READ (R158, R159, R505).
-/
namespace Sys2Proof.Machine

/-! ### What a fill does to segments -/

/-- A filled segment in VALID or FENCED is DEFINED (R158). -/
def State.unproved (s : State) (i : Nat) : State :=
  if s.segSt i = .valid ∨ s.segSt i = .fenced then s.modSeg i fun x => { x with st := .defined } else s

theorem State.unproved_blind (i : Nat) : State.Blind (·.unproved i) := fun _ _ _ _ _ => State.noting_ite Iff.rfl rfl rfl

theorem State.unproved_eq (s : State) (l : List Nat) : ∃ segs, l.foldl State.unproved s = s.stored segs s.onchip s.ext := by
  induction l generalizing s with
  | nil => exact ⟨_, rfl⟩
  | cons i l ih =>
    obtain ⟨segs, h⟩ := ih (s.unproved i)
    refine ⟨segs, h.trans ?_⟩
    exact State.same_ite (fun u : State => u.stored segs u.onchip u.ext) rfl rfl

theorem State.seg_unproved_ne (s : State) {i j : Nat} (h : j ≠ i) : (s.unproved i).seg j = s.seg j :=
  State.same_ite (·.seg j) (s.seg_setSeg_ne _ h) rfl

/-- Of the segments that are filled, those in VALID or FENCED are DEFINED. -/
theorem State.unproved_st {s : State} {l : List Nat} {i : Nat} (hi : i ≠ 0) (hl : i ∈ l)
    (hst : (s.seg i).st = .valid ∨ (s.seg i).st = .fenced) : ((l.foldl State.unproved s).seg i).st = .defined := by
  have hkeeps : ∀ (l : List Nat) (u : State), (u.seg i).st = .defined → ((l.foldl State.unproved u).seg i).st = .defined := by
    intro l
    induction l with
    | nil => exact fun _ h => h
    | cons j l ih =>
      intro u hu
      refine ih _ ?_
      by_cases hj : i = j
      · subst hj
        rw [State.unproved, u.segSt_of_ne hi, hu, if_neg (by decide), hu]
      · rw [u.seg_unproved_ne hj, hu]
  induction l generalizing s with
  | nil => cases hl
  | cons j l ih =>
    by_cases hj : i = j
    · subst hj
      refine hkeeps l _ ?_
      rw [State.unproved, s.segSt_of_ne hi, if_pos hst, State.modSeg, State.seg_setSeg_same]
    · exact ih ((List.mem_cons.mp hl).resolve_left hj) (by rwa [s.seg_unproved_ne hj])

/-- The state after a fill that nothing refuses. -/
def State.filled (s : State) (chip : Bool) (addr len : Nat) (pat : Word) : State :=
  (s.segsOver chip addr len).foldl State.unproved (s.writeBytes chip addr (patternBytes pat (len / 4)))

section
variable (chip : Bool) (addr len : Nat) (pat : Word)

theorem State.filled_blind : State.Blind (·.filled chip addr len pat) := fun s queues op tag drawn =>
  (congrArg ((s.segsOver chip addr len).foldl State.unproved) (State.writeBytes_blind chip addr _ s queues op tag drawn)).trans
    (State.Blind.foldl State.unproved_blind _ _ queues op tag drawn)

/-- A fill changes the contents of the memories and segments. -/
theorem State.filled_eq (s : State) : ∃ segs onchip ext, s.filled chip addr len pat = s.stored segs onchip ext := by
  obtain ⟨onchip, ext, hw⟩ := s.writeBytes_eq chip addr (patternBytes pat (len / 4))
  obtain ⟨segs, h⟩ := (s.stored s.segs onchip ext).unproved_eq (s.segsOver chip addr len)
  exact ⟨segs, onchip, ext, by rw [State.filled, hw, h]; rfl⟩

theorem State.byteAt_filled (s : State) (ch : Bool) (a : Nat) : (s.filled chip addr len pat).byteAt ch a =
    (s.writeBytes chip addr (patternBytes pat (len / 4))).byteAt ch a := by
  obtain ⟨segs, h⟩ := (s.writeBytes chip addr (patternBytes pat (len / 4))).unproved_eq (s.segsOver chip addr len)
  rw [State.filled, h]
  rfl

end

/-! ### The range -/

/-- A range that the checks accept is whole granules (R505). -/
theorem State.rangeCheck_granules {s : State} {w0 : Word} {addr len : Nat} (h : s.rangeCheck w0 addr len = none) : len % 64 = 0 := by
  by_contra hlen
  simp [State.rangeCheck, hlen] at h

/-- The first block of a range of external memory that has not been written, counted from its first (R159). -/
def State.firstUnwritten (s : State) (addr len : Nat) : Option Nat :=
  (List.range ((addr + len - 1) / 65536 - addr / 65536 + 1)).find? fun i => !s.blockWritten (addr / 65536 + i)

theorem State.readRange_sound (s : State) (chip : Bool) (addr len : Nat) : s.readRange chip addr len [] = s.bytesAt chip addr len := by
  simp [State.readRange, State.bytesAt]

/-! ### MEM_FILL -/

section
variable {s : State} {q : Fin 10} {k : Nat} {c : Cmd} {chip : Bool} {addr len : Nat} (hchip : chip = bit (wAt c.payload 0) 0)
  (haddr : addr = (join64 (wAt c.payload 1) (wAt c.payload 2)).toNat) (hlen : len = (wAt c.payload 3).toNat)
include hchip haddr hlen

section
variable (h : s.Runs q k 0x0305 c)
include h

theorem State.memFill_eq : s.memFill q k =
    match s.rangeCheck (wAt c.payload 0) addr len with
    | some st => (s.begun ⟨q, k⟩).finish ⟨q, k⟩ st []
    | none =>
      if (s.segsOver chip addr len).any s.active then (s.begun ⟨q, k⟩).finish ⟨q, k⟩ stActive []
      else ((s.begun ⟨q, k⟩).filled chip addr len (wAt c.payload 4)).finish ⟨q, k⟩ stOK [mkW len] := by
  obtain ⟨queues, tag, hp⟩ := h.begun_eq
  subst hchip haddr hlen
  rw [State.memFill, State.run_of_runs h, hp]
  simp only [State.fill_eq]
  rfl

theorem memFill_refused {st : Nat} (hst : s.rangeCheck (wAt c.payload 0) addr len = some st) :
    ∃ t, exec (.memFill q k) s = .next t ∧ s.RepliedOnly t q k st [] := by
  have hfill := State.memFill_eq hchip haddr hlen h
  rw [hst] at hfill
  exact ⟨_, exec_main rfl h.rst hfill, State.finish_begun h _ _⟩

variable (hok : s.rangeCheck (wAt c.payload 0) addr len = none)
include hok

theorem memFill_active (hact : (s.segsOver chip addr len).any s.active = true) :
    ∃ t, exec (.memFill q k) s = .next t ∧ s.RepliedOnly t q k stActive [] := by
  have hfill := State.memFill_eq hchip haddr hlen h
  rw [hok] at hfill
  exact ⟨_, exec_main rfl h.rst (hfill.trans (if_pos hact)), State.finish_begun h _ _⟩

theorem memFill_fills (hact : (s.segsOver chip addr len).any s.active = false) (hf : chip = true ∨ s.drm.fenced = []) :
    ∃ t, exec (.memFill q k) s = .next t ∧ s.Replied t q k stOK [mkW len] ∧
      (∀ n < len, t.byteAt chip (addr + n) = BitVec.ofNat 8 ((wAt c.payload 4).toNat / 256 ^ (n % 4))) ∧
      (∀ (ch : Bool) (a : Nat), (ch ≠ chip ∨ a < addr ∨ addr + len ≤ a) → t.byteAt ch a = s.byteAt ch a) ∧
      (∀ i ∈ s.segsOver chip addr len, i ≠ 0 → (s.seg i).st = .valid ∨ (s.seg i).st = .fenced → (t.seg i).st = .defined) ∧
      { s.sansReply t with segs := s.segs, onchip := s.onchip, ext := s.ext } = s := by
  have hwords : 4 * (len / 4) = len := by
    have := State.rangeCheck_granules hok
    omega
  have hfill := State.memFill_eq hchip haddr hlen h
  rw [hok] at hfill
  obtain ⟨hreply, queues, tag, heq⟩ :=
    h.answered_blind (State.filled_blind chip addr len (wAt c.payload 4)) (s.filled_eq ..) stOK [mkW len]
  have hbytes := s.byteAt_filled chip addr len (wAt c.payload 4)
  refine ⟨_, exec_main rfl h.rst (hfill.trans (if_neg (by rw [hact]; decide))), hreply, ?_⟩
  rw [heq]
  refine ⟨fun n hn => ?_, fun ch a ha => ?_, fun i hl hi hst => ?_, ?_⟩
  · have hn' : n < 4 * (len / 4) := hwords.symm ▸ hn
    exact (hbytes chip _).trans ((State.byteAt_writeBytes_in hf addr (by rwa [patternBytes_length])).trans (patternBytes_getD _ hn'))
  · exact (hbytes ch a).trans (s.byteAt_writeBytes_out chip ch addr a _ (by rwa [patternBytes_length, hwords]))
  · obtain ⟨onchip, ext, hw⟩ := s.writeBytes_eq chip addr (patternBytes (wAt c.payload 4) (len / 4))
    exact State.unproved_st hi hl (by rw [hw]; exact hst)
  · obtain ⟨segs, onchip, ext, hfilled⟩ := s.filled_eq chip addr len (wAt c.payload 4)
    rw [hfilled]
    rfl

end

/-! ### MEM_READ -/

section
variable (h : s.Runs q k 0x0306 c)
include h

/-- MEM_READ of words without errors and of blocks that return at once. -/
theorem State.memRead_eq : s.memRead q k [] [] none =
    match s.rangeCheck (wAt c.payload 0) addr len with
    | some st => (s.begun ⟨q, k⟩).finish ⟨q, k⟩ st []
    | none =>
      if !chip && s.chanFenced addr len then (s.begun ⟨q, k⟩).finish ⟨q, k⟩ stFenced [0, 0xFFFFFFFF]
      else
        match if chip then none else s.firstUnwritten addr len with
        | some i => ((s.begun ⟨q, k⟩).put (.dma (join64 (wAt c.payload 4) (wAt c.payload 5)).toNat (s.bytesAt chip addr len))).finish
          ⟨q, k⟩ stUninit [mkW len, mkW i]
        | none => ((s.begun ⟨q, k⟩).put (.dma (join64 (wAt c.payload 4) (wAt c.payload 5)).toNat (s.bytesAt chip addr len))).finish
          ⟨q, k⟩ stOK [mkW len, 0xFFFFFFFF] := by
  obtain ⟨queues, tag, hp⟩ := h.begun_eq
  subst hchip haddr hlen
  rw [← s.readRange_sound, State.memRead, State.run_of_runs h, hp]
  simp only [List.filter_nil, List.foldl_nil, ite_self, Option.filter_none]
  rfl

theorem memRead_refused {st : Nat} (hst : s.rangeCheck (wAt c.payload 0) addr len = some st) :
    ∃ t, exec (.memRead q k [] [] none) s = .next t ∧ s.RepliedOnly t q k st [] := by
  have hread := State.memRead_eq hchip haddr hlen h
  rw [hst] at hread
  exact ⟨_, exec_main rfl h.rst hread, State.finish_begun h _ _⟩

variable (hok : s.rangeCheck (wAt c.payload 0) addr len = none)
include hok

theorem memRead_fenced (hext : chip = false) (hf : s.chanFenced addr len = true) :
    ∃ t, exec (.memRead q k [] [] none) s = .next t ∧ s.RepliedOnly t q k stFenced [0, 0xFFFFFFFF] := by
  have hread := State.memRead_eq hchip haddr hlen h
  rw [hok] at hread
  exact ⟨_, exec_main rfl h.rst (hread.trans (if_pos (by rw [hext, hf]; rfl))), State.finish_begun h _ _⟩

/-- A range that can be read is delivered, with the number of its first block that was never written (R159). -/
theorem memRead_delivers (hf : chip = true ∨ s.chanFenced addr len = false) {first : Option Nat}
    (hfirst : first = if chip then none else s.firstUnwritten addr len) :
    ∃ t, exec (.memRead q k [] [] none) s = .next t ∧
      s.Replied t q k (if first.isSome then stUninit else stOK) [mkW len, first.elim 0xFFFFFFFF mkW] ∧
      t.sent = .dma (join64 (wAt c.payload 4) (wAt c.payload 5)).toNat (s.bytesAt chip addr len) :: s.sent ∧
      { s.sansReply t with sent := s.sent } = s := by
  obtain ⟨queues, tag, hp⟩ := h.begun_eq
  have hopen : (!chip && s.chanFenced addr len) = false := by
    rcases hf with hf | hf
    · rw [hf, Bool.not_true, Bool.false_and]
    · rw [hf, Bool.and_false]
  have hread := State.memRead_eq hchip haddr hlen h
  rw [hok] at hread
  dsimp only at hread
  rw [hopen, if_neg Bool.false_ne_true, ← hfirst] at hread
  have hreads : s.memRead q k [] [] none =
      ((s.begun ⟨q, k⟩).put (.dma (join64 (wAt c.payload 4) (wAt c.payload 5)).toNat (s.bytesAt chip addr len))).finish
        ⟨q, k⟩ (if first.isSome then stUninit else stOK) [mkW len, first.elim 0xFFFFFFFF mkW] := by
    cases first with
    | none => exact hread
    | some i => exact hread
  obtain ⟨hreply, queues', heq⟩ := h.answered
    (v := (s.begun ⟨q, k⟩).put (.dma (join64 (wAt c.payload 4) (wAt c.payload 5)).toNat (s.bytesAt chip addr len))) rfl
    (if first.isSome then stUninit else stOK) [mkW len, first.elim 0xFFFFFFFF mkW]
  refine ⟨_, exec_main rfl h.rst hreads, hreply, ?_⟩
  rw [heq, hp]
  exact ⟨rfl, rfl⟩

end
end

/-- Settles O24: each form of MEM_FILL and MEM_READ is computed to the reply, the fill or the delivery that it comes to. -/
theorem fillAndRead : Obligations.FillAndRead := by
  intro q k c s chip addr len hchip haddr hlen
  refine ⟨fun st hst => ⟨fun h => ?_, fun h => ?_⟩, fun hok => ⟨fun h => ?_, fun h => ?_, fun h hon => ?_, fun h => ?_,
    fun first h hext hf hfirst => ?_⟩⟩
  · exact memFill_refused hchip haddr hlen h hst
  · exact memRead_refused hchip haddr hlen h hst
  · exact memFill_active hchip haddr hlen h hok
  · exact memFill_fills hchip haddr hlen h hok
  · subst hon
    exact memRead_delivers hchip haddr hlen h hok (.inl rfl) (first := none) rfl
  · exact memRead_fenced hchip haddr hlen h hok
  · subst hext
    exact memRead_delivers hchip haddr hlen h hok (.inr hf) hfirst

end Sys2Proof.Machine
end
section
/-!
PROOF. SEG_LOAD (R155, R156, R163).
-/
namespace Sys2Proof.Machine

/-! ### The two halves of SEG_LOAD -/

/-- The job of a SEG_LOAD as it begins (R155). -/
def Cmd.loadJob (c : Cmd) (r : CmdRef) : SegJob :=
  ⟨r.q, r.k, true, (wAt c.payload 1).toNat, (wAt c.payload 2).toNat, bit (wAt c.payload 5) 0, 0, false, 0⟩

/-- What SEG_LOAD does as it begins: a refusal, a start, or a place behind what runs. -/
def State.loadBegin (s : State) (c : Cmd) (r : CmdRef) : State :=
  let p := c.payload
  let i := fld (wAt p 0) 13 0
  let off := (wAt p 1).toNat
  let len := (wAt p 2).toNat
  if (wAt p 0).toNat ≠ i ∨ off % 64 ≠ 0 ∨ len = 0 ∨ len % 64 ≠ 0 ∨ 1 < (wAt p 5).toNat then s.finish r stBadParam []
  else if i = 0 ∨ s.segSt i = .free ∨ dSize (s.segDesc i) * 64 < off + len then s.finish r stBadParam []
  else
    let s1 := if c.hdr.flags / 2 % 2 = 1 then s.abortLoads i else s
    if (s1.seg i).job.isSome || !(s1.seg i).verifies.isEmpty then s1.modSeg i fun x => { x with waiting := x.waiting ++ [c.loadJob r] }
    else s1.loadStart i (c.loadJob r)

/-- What SEG_LOAD does with the host data that has arrived. -/
def State.loadFeed (s : State) (q k : Nat) (data : List Byte) : State :=
  match (s.q q).find k with
  | none => s
  | some c =>
    let i := fld (wAt c.payload 0) 13 0
    match (s.seg i).job with
    | some j => if j.q = q ∧ j.k = k then s.loadData i data else s
    | none => s

theorem State.segLoad_eq (s : State) (q k : Nat) (data : List Byte) :
    s.segLoad q k data = (s.run q k 0x0302 State.loadBegin).loadFeed q k data := rfl

section
variable {s : State} {q k : Nat} {c : Cmd} {i : Nat} (hf : (s.q q).find k = some c) (hi : fld (wAt c.payload 0) 13 0 = i)
include hf hi

/-- The running load takes the data that arrives for it. -/
theorem State.loadFeed_own {j : SegJob} (hj : (s.seg i).job = some j) (hq : j.q = q) (hk : j.k = k) (data : List Byte) :
    s.loadFeed q k data = s.loadData i data := by
  simp only [State.loadFeed, hf, hi, hj, hq, hk, and_self, if_true]

theorem State.loadFeed_other (hj : ∀ j, (s.seg i).job = some j → ¬(j.q = q ∧ j.k = k)) (data : List Byte) :
    s.loadFeed q k data = s := by
  simp only [State.loadFeed, hf, hi]
  cases h : (s.seg i).job with
  | none => rfl
  | some j => exact if_neg (hj j h)

end

/-! ### A load begins -/

/-- The running load takes no data when none has arrived. -/
theorem State.loadData_nil {s : State} {i : Nat} {j : SegJob} (hj : (s.seg i).job = some j) (hopen : j.done < j.len) :
    s.loadData i [] = s.setSeg i (s.seg i) := by
  have hsame : { s.seg i with job := some j } = s.seg i := by rw [← hj]
  simp [State.loadData, hj, hopen, State.writeBytes, State.modSeg, hsame]

/-- A segment that may be loaded enters LOADING with the job as the running one. -/
theorem State.loadStart_idle {s : State} {i : Nat} {j : SegJob} (hi : i ≠ 0) (hst : (s.seg i).st ≠ .free)
    (hfit : j.offset + j.len ≤ dSize (s.seg i).desc * 64) (hon : dLoc (s.seg i).desc = true ∨ s.drmOn = true)
    (hact : s.active i = false) : s.loadStart i j =
      (s.setSeg i { s.seg i with st := .loading, job := some j }).modQ j.q fun y => y.upd j.k fun c => { c with timer := some s.now } := by
  have hon' : (!dLoc (s.seg i).desc && !s.drmOn) = false := by
    rcases hon with h | h <;> simp [h]
  simp only [State.loadStart, hi, hst, hon', hact, Nat.not_lt.mpr hfit, or_self, if_false, Bool.false_eq_true]

/-- The queue of a command that has just begun. -/
def State.begunQueue (s : State) (q k : Nat) : Queue := (s.q q).upd k fun y => { y with phase := .begun, timer := some s.now }

theorem State.begun_queues (s : State) (q k : Nat) : (s.begun ⟨q, k⟩).queues = KMap.insert s.queues q (s.begunQueue q k) := by
  unfold State.begun
  split <;> rfl

theorem State.begunQueue_timer (s : State) (q k : Nat) :
    ((s.begunQueue q k).upd k fun c => { c with timer := some s.now }) = s.begunQueue q k := by
  simp only [State.begunQueue, Queue.upd, List.map_map]
  congr 1
  refine List.map_congr_left fun y _ => ?_
  by_cases hy : y.k = k <;> simp [hy]

/-- Setting the timer of a command that has just begun changes nothing. -/
theorem State.begun_timer (s : State) (q k i : Nat) (x : Segment) :
    (((s.begun ⟨q, k⟩).setSeg i x).modQ q fun y => y.upd k fun c => { c with timer := some s.now }) =
      (s.begun ⟨q, k⟩).setSeg i x := by
  have hq : ((s.begun ⟨q, k⟩).setSeg i x).q q = s.begunQueue q k := State.begun_q
  have hqueues : KMap.insert (s.begun ⟨q, k⟩).queues q (s.begunQueue q k) = (s.begun ⟨q, k⟩).queues := by
    rw [State.begun_queues, KMap.insert_insert]
  rw [State.modQ, hq, s.begunQueue_timer]
  exact congrArg (fun m => { (s.begun ⟨q, k⟩).setSeg i x with queues := m }) hqueues

/-- A command that has begun and changed one segment since waits. -/
theorem State.Runs.began_setSeg {s : State} {q k op : Nat} {c : Cmd} (h : s.Runs q k op c) (i : Nat) (x : Segment) :
    s.Began ((s.begun ⟨q, k⟩).setSeg i x) q k c ∧ ((s.begun ⟨q, k⟩).setSeg i x).seg i = x ∧
      KMap.agreeBut s.segs ((s.begun ⟨q, k⟩).setSeg i x).segs [i] ∧
      { s.sansReply ((s.begun ⟨q, k⟩).setSeg i x) with segs := s.segs } = s := by
  obtain ⟨queues, tag, hp⟩ := h.begun_eq
  refine ⟨h.began rfl, State.seg_setSeg_same _ i x, ?_⟩
  rw [hp]
  exact ⟨s.setSeg_agreeBut i x, rfl⟩

/-- A SEG_LOAD with good operands, which supersedes none, of a segment that is not FREE and holds its range (R155). -/
structure State.Loads (s : State) (c : Cmd) (i : Nat) : Prop where
  plain : c.hdr.flags / 2 % 2 = 0
  names : wAt c.payload 0 = mkW i
  small : i < 2 ^ 14
  ne_zero : i ≠ 0
  offset : (wAt c.payload 1).toNat % 64 = 0
  len : (wAt c.payload 2).toNat % 64 = 0
  pos : 0 < (wAt c.payload 2).toNat
  verify : (wAt c.payload 5).toNat ≤ 1
  made : (s.seg i).st ≠ .free
  fits : (wAt c.payload 1).toNat + (wAt c.payload 2).toNat ≤ dSize (s.seg i).desc * 64

section
variable {q : Fin 10} {k i : Nat} {c : Cmd} {s : State} (h : s.Runs q k 0x0302 c) (hl : s.Loads c i)

include h in
theorem State.Runs.begun_seg (i : Nat) : (s.begun ⟨q, k⟩).seg i = s.seg i := by
  obtain ⟨queues, tag, hp⟩ := h.begun_eq
  rw [hp]
  rfl

include h hl

/-- A SEG_LOAD with good operands starts, or waits behind what runs on its segment (R155, R163). -/
theorem State.loadRun_eq : s.run q k 0x0302 State.loadBegin =
    if (s.seg i).job.isSome || !(s.seg i).verifies.isEmpty then
      (s.begun ⟨q, k⟩).modSeg i fun x => { x with waiting := x.waiting ++ [c.loadJob ⟨q, k⟩] }
    else (s.begun ⟨q, k⟩).loadStart i (c.loadJob ⟨q, k⟩) := by
  obtain ⟨hfld, hnat⟩ := fld_mkW_seg hl.small
  have hseg := h.begun_seg i
  rw [State.run_of_runs h, State.loadBegin]
  simp only [hl.names, hfld, hnat, State.segDesc_of_ne _ hl.ne_zero, State.segSt_of_ne _ hl.ne_zero, hseg, hl.offset, hl.len,
    Nat.pos_iff_ne_zero.mp hl.pos, Nat.not_lt.mpr hl.verify, hl.ne_zero, hl.made, Nat.not_lt.mpr hl.fits, hl.plain, ne_eq,
    not_true_eq_false, or_self, if_false, Nat.zero_ne_one]

theorem segLoad_starts (hjob : (s.seg i).job = none) (hidle : (s.seg i).verifies = [])
    (hon : dLoc (s.seg i).desc = true ∨ s.drmOn = true) (hact : s.active i = false) :
    ∃ t, exec (.segLoad q k []) s = .next t ∧ s.Began t q k c ∧
      t.seg i = { s.seg i with st := .loading, job := some (c.loadJob ⟨q, k⟩) } ∧
      KMap.agreeBut s.segs t.segs [i] ∧ { s.sansReply t with segs := s.segs } = s := by
  have hseg := h.begun_seg i
  have hstart : (s.begun ⟨q, k⟩).loadStart i (c.loadJob ⟨q, k⟩) =
      (s.begun ⟨q, k⟩).setSeg i { s.seg i with st := .loading, job := some (c.loadJob ⟨q, k⟩) } := by
    obtain ⟨queues, tag, hp⟩ := h.begun_eq
    have hnow : (s.begun ⟨q, k⟩).now = s.now := by
      rw [hp]
      rfl
    rw [State.loadStart_idle hl.ne_zero (hseg ▸ hl.made) (hseg ▸ hl.fits) (by rw [hseg, hp]; exact hon) (by rw [hp]; exact hact),
      hseg, hnow]
    exact s.begun_timer q k i _
  have hrun := State.loadRun_eq h hl
  rw [hjob, hidle, Option.isSome_none, List.isEmpty_nil, Bool.not_true, Bool.or_self, if_neg Bool.false_ne_true, hstart] at hrun
  refine ⟨_, exec_main rfl h.rst ?_, h.began_setSeg i _⟩
  have hfind := h.begun_find
  have hfeed := State.loadFeed_own (s := (s.begun ⟨q, k⟩).setSeg i { s.seg i with st := .loading, job := some (c.loadJob ⟨q, k⟩) })
    hfind (hl.names ▸ (fld_mkW_seg hl.small).1) (by rw [State.seg_setSeg_same]) rfl rfl []
  rw [State.segLoad_eq, hrun, hfeed, State.loadData_nil (by rw [State.seg_setSeg_same]) hl.pos, State.seg_setSeg_same, State.setSeg_setSeg]

theorem segLoad_queues (hother : ∀ j, (s.seg i).job = some j → ¬(j.q = q ∧ j.k = k))
    (hbusy : (s.seg i).job ≠ none ∨ (s.seg i).verifies ≠ []) :
    ∃ t, exec (.segLoad q k []) s = .next t ∧ s.Began t q k c ∧
      t.seg i = { s.seg i with waiting := (s.seg i).waiting ++ [c.loadJob ⟨q, k⟩] } ∧
      KMap.agreeBut s.segs t.segs [i] ∧ { s.sansReply t with segs := s.segs } = s := by
  have hbusy' : ((s.seg i).job.isSome || !(s.seg i).verifies.isEmpty) = true := by
    simpa [Option.isSome_iff_ne_none] using hbusy
  have hrun := State.loadRun_eq h hl
  rw [if_pos hbusy', State.modSeg, h.begun_seg i] at hrun
  refine ⟨_, exec_main rfl h.rst ?_, h.began_setSeg i _⟩
  have hfind := h.begun_find
  rw [State.segLoad_eq, hrun]
  refine State.loadFeed_other (s := (s.begun ⟨q, k⟩).setSeg i _) hfind (hl.names ▸ (fld_mkW_seg hl.small).1) (fun j hj => hother j ?_) []
  rwa [State.seg_setSeg_same] at hj

end

/-! ### The rest of the data arrives -/

/-- The state that the last data of a load leaves, before it is verified or ends. -/
def State.loaded (s : State) (i : Nat) (j : SegJob) (data : List Byte) : State :=
  (s.writeBytes (dLoc (s.seg i).desc) (dAddr (s.seg i).desc + j.offset + j.done) data).setSeg i
    { s.seg i with job := some { j with done := j.len } }

/-- A load behind which none waits ends. -/
theorem State.loadEnd_last {s : State} {i : Nat} {j : SegJob} (hj : (s.seg i).job = some j) (hw : (s.seg i).waiting = [])
    (st : SegSt) (status : Nat) (result : List Word) : s.loadEnd i st status result =
      (s.setSeg i { s.seg i with st := st, job := none }).finish ⟨j.q, j.k⟩ status result := by
  simp only [State.loadEnd, hj, hw, List.length_nil, State.loadNext]

theorem State.loadEnd_onlySeg {s : State} {i : Nat} {j : SegJob} (hj : (s.seg i).job = some j) (hw : (s.seg i).waiting = [])
    (st : SegSt) (status : Nat) (result : List Word) : s.OnlySeg (s.loadEnd i st status result) i := by
  rw [State.loadEnd_last hj hw]
  exact (s.onlySeg_setSeg i _).trans (.of_content (State.finish_content ..) i)

/-- The verification of a load behind which none waits changes its segment alone, of memory and segments. -/
theorem State.loadVerify_onlySeg {s : State} {i : Nat} {j' : SegJob} (hj : (s.seg i).job = some j') (hw : (s.seg i).waiting = [])
    (j : SegJob) : s.OnlySeg (s.loadVerify i j) i := by
  have hends : ∀ {u : State}, u.content = s.content → ∀ st status result, s.OnlySeg (u.loadEnd i st status result) i :=
    fun hu st status result => (State.OnlySeg.of_content hu i).trans
      (State.loadEnd_onlySeg (by rw [State.seg_of_content hu]; exact hj) (by rw [State.seg_of_content hu]; exact hw) st status result)
  unfold State.loadVerify
  dsimp only
  split
  · split
    · exact hends (State.transient_content ..) _ _ _
    · exact hends rfl _ _ _
  · split
    · have hf := State.fenceSeg_content
        (State.lasting_content s 21 i 0x0008 stFenced (dCrc (s.segDesc i)).toNat (s.segCrc i).toNat) i
      have hseg := (State.seg_of_content hf i).trans (s.seg_setSeg_same i _)
      exact ((s.onlySeg_setSeg i _).trans (.of_content hf i)).trans
        (State.loadEnd_onlySeg (by rw [hseg]; exact hj) (by rw [hseg]; exact hw) _ _ _)
    · exact s.onlySeg_setSeg i _

/-- The rest of the data of the running load: it is written, and the load is verified or ends. -/
theorem State.loadData_rest {s : State} {i : Nat} {j : SegJob} {data : List Byte} (hj : (s.seg i).job = some j)
    (hlen : j.len % 64 = 0) (hdone : j.done % 64 = 0) (hopen : j.done < j.len) (hdata : data.length = j.len - j.done) :
    s.loadData i data = if j.verify then (s.loaded i j data).loadVerify i { j with done := j.len }
      else (s.loaded i j data).loadEnd i .defined stOK [mkW j.len, 0] := by
  have htake : min (data.length / 64 * 64) (j.len - j.done) = data.length := by omega
  have hall : j.done + data.length = j.len := by omega
  obtain ⟨onchip, ext, hw⟩ := s.writeBytes_eq (dLoc (s.seg i).desc) (dAddr (s.seg i).desc + j.offset + j.done) data
  have hseg : (s.writeBytes (dLoc (s.seg i).desc) (dAddr (s.seg i).desc + j.offset + j.done) data).seg i = s.seg i := by
    rw [hw]
    rfl
  simp only [State.loadData, hj, htake, List.take_length, hall, Nat.lt_irrefl, if_false, State.modSeg, hseg]
  rfl

/-- The rest of the data of the load that runs on segment `i`, with none behind it, for the command at `k` of queue `q`. -/
structure State.LastData (s : State) (q k i : Nat) (c : Cmd) (j : SegJob) (data : List Byte) : Prop where
  found : (s.q q).find k = some c
  waits : s.Waits q k
  names : fld (wAt c.payload 0) 13 0 = i
  ne_zero : i ≠ 0
  running : (s.seg i).job = some j
  queue : j.q = q
  place : j.k = k
  alone : (s.seg i).waiting = []
  opened : j.done < j.len
  len : j.len % 64 = 0
  done : j.done % 64 = 0
  data : data.length = j.len - j.done

section
variable {q k i : Nat} {c : Cmd} {s : State} {j : SegJob} {data : List Byte}

theorem State.loaded_eq (s : State) (i : Nat) (j : SegJob) (data : List Byte) : ∃ onchip ext, s.loaded i j data =
    s.stored (KMap.insert s.segs i { s.seg i with job := some { j with done := j.len } }) onchip ext := by
  obtain ⟨onchip, ext, hw⟩ := s.writeBytes_eq (dLoc (s.seg i).desc) (dAddr (s.seg i).desc + j.offset + j.done) data
  exact ⟨onchip, ext, by rw [State.loaded, hw]; rfl⟩

theorem State.seg_loaded (s : State) (i : Nat) (j : SegJob) (data : List Byte) :
    (s.loaded i j data).seg i = { s.seg i with job := some { j with done := j.len } } := State.seg_setSeg_same ..

theorem State.loaded_agreeBut (s : State) (i : Nat) (j : SegJob) (data : List Byte) :
    KMap.agreeBut s.segs (s.loaded i j data).segs [i] := by
  obtain ⟨onchip, ext, hv⟩ := s.loaded_eq i j data
  exact hv ▸ s.setSeg_agreeBut i _

variable (h : s.LastData q k i c j data)
include h

theorem State.segLoad_rest : s.segLoad q k data =
    if j.verify then (s.loaded i j data).loadVerify i { j with done := j.len }
    else (s.loaded i j data).loadEnd i .defined stOK [mkW j.len, 0] := by
  rw [State.segLoad_eq, State.run_waits h.waits, State.loadFeed_own h.found h.names h.running h.queue h.place,
    State.loadData_rest h.running h.len h.done h.opened h.data]

/-- Whatever comes of the load, no byte changes after the data is written, and no other segment. -/
theorem State.loaded_onlySeg : (s.loaded i j data).OnlySeg (s.segLoad q k data) i := by
  have hseg := s.seg_loaded i j data
  rw [State.segLoad_rest h]
  split
  · exact State.loadVerify_onlySeg (congrArg Segment.job hseg) ((congrArg Segment.waiting hseg).trans h.alone) _
  · exact State.loadEnd_onlySeg (congrArg Segment.job hseg) ((congrArg Segment.waiting hseg).trans h.alone) _ _ _

/-- A load that ends is answered, and only its segment and the bytes written have changed. -/
theorem State.loaded_ends {t : State} {st : SegSt} {result : List Word} (ht : t = (s.loaded i j data).loadEnd i st stOK result) :
    t.seg i = { s.seg i with st := st, job := none } ∧ s.Replied t q k stOK result ∧
      { s.sansReply t with segs := s.segs, onchip := s.onchip, ext := s.ext } = s := by
  have hseg := s.seg_loaded i j data
  rw [State.loadEnd_last (congrArg Segment.job hseg) ((congrArg Segment.waiting hseg).trans h.alone), hseg, h.queue, h.place] at ht
  obtain ⟨onchip, ext, hv⟩ := s.loaded_eq i j data
  have hstored : (s.loaded i j data).setSeg i { s.seg i with st := st, job := none } =
      s.stored (KMap.insert s.segs i { s.seg i with st := st, job := none }) onchip ext := by
    rw [hv, State.setSeg]
    exact congrArg (s.stored · onchip ext) (KMap.insert_insert ..)
  obtain ⟨hreply, queues, heq⟩ :=
    h.waits.answered_stored (KMap.insert s.segs i { s.seg i with st := st, job := none }) onchip ext stOK result
  rw [← hstored] at hreply heq
  subst ht
  refine ⟨?_, hreply, ?_⟩
  · rw [heq]
    exact State.seg_setSeg_same (s.loaded i j data) i _
  · rw [heq, hstored]
    rfl

end

theorem State.loadVerify_eq {s : State} {i : Nat} {j : SegJob} (hr : j.retry = false) : s.loadVerify i j =
    if s.segCrc i = dCrc (s.segDesc i) then s.loadEnd i .valid stOK [mkW j.len, s.segCrc i]
    else s.setSeg i { s.seg i with job := some { j with retry := true, done := 0, crc := s.segCrc i } } := by
  simp only [State.loadVerify, hr, Bool.false_eq_true, if_false]
  rfl

section
variable {q k i : Nat} {c : Cmd} {s : State} {j : SegJob} {data : List Byte} (h : s.LastData q k i c j data)
include h

theorem State.segLoad_unverified (hv : j.verify = false) : (s.segLoad q k data).seg i = { s.seg i with st := .defined, job := none } ∧
    s.Replied (s.segLoad q k data) q k stOK [mkW j.len, 0] ∧
    { s.sansReply (s.segLoad q k data) with segs := s.segs, onchip := s.onchip, ext := s.ext } = s :=
  State.loaded_ends h ((State.segLoad_rest h).trans (if_neg (by rw [hv]; decide)))

variable (hv : j.verify = true) (hr : j.retry = false)
include hv hr

/-- What the first verification at the end of a load comes to. -/
theorem State.segLoad_verified : s.segLoad q k data =
    if (s.loaded i j data).segCrc i = dCrc (s.seg i).desc then
      (s.loaded i j data).loadEnd i .valid stOK [mkW j.len, (s.loaded i j data).segCrc i]
    else (s.loaded i j data).setSeg i
      { s.seg i with job := some { j with retry := true, done := 0, crc := (s.loaded i j data).segCrc i } } := by
  have hdesc : (s.loaded i j data).segDesc i = (s.seg i).desc := by
    rw [State.segDesc_of_ne _ h.ne_zero, State.seg_loaded]
  have hverify := State.loadVerify_eq (s := s.loaded i j data) (i := i) (j := { j with done := j.len }) hr
  rw [hdesc, State.seg_loaded] at hverify
  exact (State.segLoad_rest h).trans ((if_pos hv).trans hverify)

/-- The CRC of the data area is that of the bytes written, whatever comes of the load. -/
theorem State.segLoad_segCrc : (s.segLoad q k data).segCrc i = (s.loaded i j data).segCrc i := by
  refine State.segCrc_congr ?_ (State.loaded_onlySeg h).bytes
  rw [State.segDesc_of_ne _ h.ne_zero, State.segDesc_of_ne _ h.ne_zero, State.seg_loaded]
  have hload := State.segLoad_verified h hv hr
  split at hload
  · rw [(State.loaded_ends h hload).1]
  · rw [hload, State.seg_setSeg_same]

theorem State.segLoad_matches (hcrc : (s.segLoad q k data).segCrc i = dCrc (s.seg i).desc) :
    (s.segLoad q k data).seg i = { s.seg i with st := .valid, job := none } ∧
    s.Replied (s.segLoad q k data) q k stOK [mkW j.len, (s.segLoad q k data).segCrc i] ∧
    { s.sansReply (s.segLoad q k data) with segs := s.segs, onchip := s.onchip, ext := s.ext } = s := by
  rw [State.segLoad_segCrc h hv hr] at hcrc ⊢
  exact State.loaded_ends h ((State.segLoad_verified h hv hr).trans (if_pos hcrc))

theorem State.segLoad_differs (hcrc : (s.segLoad q k data).segCrc i ≠ dCrc (s.seg i).desc) :
    (s.segLoad q k data).seg i =
      { s.seg i with job := some { j with retry := true, done := 0, crc := (s.segLoad q k data).segCrc i } } ∧
    { s.segLoad q k data with segs := s.segs, onchip := s.onchip, ext := s.ext } = s := by
  have hsame := State.segLoad_segCrc h hv hr
  rw [hsame] at hcrc ⊢
  obtain ⟨onchip, ext, hstored⟩ := s.loaded_eq i j data
  rw [State.segLoad_verified h hv hr, if_neg hcrc]
  refine ⟨State.seg_setSeg_same .., ?_⟩
  rw [hstored]
  rfl

end

section
variable {q k i : Nat} {c : Cmd} {s : State} {j : SegJob} {data : List Byte} (h : s.LastData q k i c j data)
include h

theorem State.segLoad_agreeBut : KMap.agreeBut s.segs (s.segLoad q k data).segs [i] :=
  KMap.agreeBut_trans (s.loaded_agreeBut i j data) (State.loaded_onlySeg h).segs

theorem State.byteAt_segLoad_in (hf : dLoc (s.seg i).desc = true ∨ s.drm.fenced = []) {n : Nat} (hn : n < data.length) :
    (s.segLoad q k data).byteAt (dLoc (s.seg i).desc) (dAddr (s.seg i).desc + j.offset + j.done + n) = data.getD n 0 :=
  ((State.loaded_onlySeg h).bytes _ _).trans (State.byteAt_writeBytes_in hf _ hn)

theorem State.byteAt_segLoad_out (chip : Bool) (a : Nat) (ha : chip ≠ dLoc (s.seg i).desc ∨
    a < dAddr (s.seg i).desc + j.offset + j.done ∨ dAddr (s.seg i).desc + j.offset + j.done + data.length ≤ a) :
    (s.segLoad q k data).byteAt chip a = s.byteAt chip a :=
  ((State.loaded_onlySeg h).bytes _ _).trans (s.byteAt_writeBytes_out _ _ _ _ _ ha)

end

/-- Settles O23: a load that begins is one change of its segment, and the rest of its data one write, after which only the segment and the
reply are left to decide. -/
theorem segmentLoad : Obligations.SegmentLoad := by
  refine ⟨fun q k i c s h hsup hw hi hi0 hoff hlen hpos hver hst hfit => ?_,
    fun q k i c s j data hrst hf hwaits hw hi hi0 hj hq hk hlast hopen hlen hdone hdata hmem => ?_⟩
  · have hl : s.Loads c i := ⟨hsup, hw, hi, hi0, hoff, hlen, hpos, hver, hst, hfit⟩
    exact ⟨segLoad_starts h hl, segLoad_queues h hl⟩
  · have h : s.LastData q k i c j data :=
      ⟨hf, hwaits, hw ▸ (fld_mkW_seg hi).1, hi0, hj, hq, hk, hlast, hopen, hlen, hdone, hdata⟩
    exact ⟨_, exec_main rfl hrst rfl, State.segLoad_agreeBut h, fun n => State.byteAt_segLoad_in h hmem, State.byteAt_segLoad_out h,
      State.segLoad_unverified h, fun hv hr => ⟨State.segLoad_matches h hv hr, State.segLoad_differs h hv hr⟩⟩

end Sys2Proof.Machine
end
section
/-!
PROOF. The state after reset (R172, R385).
-/
namespace Sys2Proof.Machine

/-- Settles O4: the reset state lists what each sparse part holds in rising order, by evaluation. -/
theorem resetCanonical : Obligations.ResetCanonical := by
  unfold Obligations.ResetCanonical
  refine ⟨?_, rfl⟩
  unfold State.Canonical
  decide

end Sys2Proof.Machine
end
section
/-!
PROOF. Table entries written at once (R169, R190).
-/
namespace Sys2Proof.Machine

theorem State.entry_setEntry (s : State) (g h : Nat) (w : List Word) {e j : Nat} (he : e < 1024) (hj : j < 1024) :
    (s.setEntry g e w).entry h j = if h = g ∧ j = e then w else s.entry h j := by
  split
  case isTrue hk =>
    obtain ⟨rfl, rfl⟩ := hk
    exact KMap.getD_put_same _ _ _ _
  case isFalse hk => exact KMap.getD_put_ne _ _ _ _ (by omega)

/-- The tables of all groups with entries of one group written. -/
def tablesWith (m : KMap (List Word)) (g : Nat) (es : List (Nat × List Word)) : KMap (List Word) :=
  es.foldl (fun m e => KMap.put m (g * 1024 + e.1) e.2 resetEntry) m

/-- The state with entries of one group's table written. -/
def State.withEntries (s : State) (g : Nat) (es : List (Nat × List Word)) : State := { s with tables := tablesWith s.tables g es }

theorem State.setEntries_eq (s : State) (g : Nat) (es : List (Nat × List Word)) :
    es.foldl (fun s e => s.setEntry g e.1 e.2) s = s.withEntries g es := by
  induction es generalizing s with
  | nil => rfl
  | cons e es ih => exact ih _

/-- The entries of a payload with the numbers that they are written to. -/
theorem numbered_payloadEntries (first n : Nat) (p : List Word) :
    numbered first (payloadEntries p n) = (List.range n).map fun i => (first + i, (p.drop (2 + 8 * i)).take 8) := by
  simp only [numbered, payloadEntries, List.length_map, List.length_range]
  refine List.map_congr_left fun i hi => ?_
  rw [List.getD_eq_getElem?_getD, List.getElem?_map, List.getElem?_range (List.mem_range.mp hi)]
  rfl

/-- Entries written in a row lie where they are written, and no others change. -/
theorem State.entry_withRow (s : State) (g first : Nat) (w : Nat → List Word) {n : Nat} (hn : first + n ≤ 1024) (h : Nat) {j : Nat}
    (hj : j < 1024) : (s.withEntries g ((List.range n).map fun i => (first + i, w i))).entry h j =
      if h = g ∧ first ≤ j ∧ j < first + n then w (j - first) else s.entry h j := by
  induction n with
  | zero => rw [if_neg (by omega)]; rfl
  | succ n ih =>
    rw [← State.setEntries_eq, List.range_succ, List.map_append, List.foldl_append, List.map_singleton,
      List.foldl_cons, List.foldl_nil, State.setEntries_eq]
    have hlast := State.entry_setEntry (s.withEntries g ((List.range n).map fun i => (first + i, w i))) g h (w n) (e := first + n)
      (by omega) hj
    refine hlast.trans ?_
    rw [ih (by omega)]
    by_cases hnew : h = g ∧ j = first + n
    · rw [if_pos hnew, if_pos (by omega), hnew.2, Nat.add_sub_cancel_left]
    · rw [if_neg hnew]
      exact if_congr (by omega) rfl rfl

end Sys2Proof.Machine
end
section
/-!
PROOF. TABLE_WRITE and FORCE_JUMP (R182, R189, R190, R194).
-/
namespace Sys2Proof.Machine

/-- A reply after a command has begun is a reply to the command. -/
theorem State.Runs.replied {s t : State} {q k op status : Nat} {c : Cmd} {result : List Word} (h : s.Runs q k op c)
    (ht : (s.begun ⟨q, k⟩).Replied t q k status result) : s.Replied t q k status result := by
  obtain ⟨hreply, hqueues, hfind, hrest⟩ := ht
  have haddr : (s.begun ⟨q, k⟩).ownAddr = s.ownAddr := by
    rw [State.begun_eq h.find]
    rfl
  rw [State.begun_q] at hfind hrest
  rw [haddr] at hreply
  refine ⟨hreply, KMap.agreeBut_trans h.begun_agreeBut hqueues, fun j hj => ?_, fun hstart hskip => ?_⟩
  · exact (hfind j hj).trans (Queue.find_upd_ne (fun _ => rfl) hj)
  · exact congrArg (fun x : Queue => { x with inflight := (s.q q).inflight }) (hrest hstart hskip)

/-! ### TABLE_WRITE -/

/-- A payload of TABLE_WRITE names a group, a first entry and `n` entries, all of them in the table and valid (R190). -/
structure WritesTable (p : List Word) (g first n : Nat) (es : List (List Word)) : Prop where
  group : g = fld (wAt p 0) 2 0
  start : first = fld (wAt p 0) 25 16
  count : n = fld (wAt p 1) 6 0
  entries : es = payloadEntries p n
  low : fld (wAt p 0) 15 3 = 0
  high : fld (wAt p 0) 31 26 = 0
  next : fld (wAt p 1) 31 7 = 0
  some : 1 ≤ n
  inside : first + n ≤ 1024
  valid : es.all entryValid = true

section
variable {s : State} {q : Fin 10} {k g first n : Nat} {c : Cmd} {es : List (List Word)} (h : s.Runs q k 0x0401 c)
include h

theorem tableWrite_bad (hfirst : first = fld (wAt c.payload 0) 25 16)
    (hn : n = fld (wAt c.payload 1) 6 0) (hes : es = payloadEntries c.payload n)
    (hbad : fld (wAt c.payload 0) 15 3 ≠ 0 ∨ fld (wAt c.payload 0) 31 26 ≠ 0 ∨ fld (wAt c.payload 1) 31 7 ≠ 0 ∨ n = 0 ∨
      1024 < first + n ∨ es.all entryValid = false) : ∃ t, exec (.tableWrite q k) s = .next t ∧ s.RepliedOnly t q k stBadParam [] := by
  subst hfirst hn hes
  have hwrite : s.tableWrite q k = (s.begun ⟨q, k⟩).finish ⟨q, k⟩ stBadParam [] := by
    rw [State.tableWrite, State.run_of_runs h]
    exact if_pos (by simpa [or_assoc] using hbad)
  exact ⟨_, exec_main rfl h.rst hwrite, State.finish_begun h _ _⟩

variable (hok : WritesTable c.payload g first n es)
include hok

/-- What a TABLE_WRITE of valid entries does once it has begun (R189, R190). -/
theorem State.tableWrite_eq {queues : KMap Queue} {op tag : Nat} (hp : s.begun ⟨q, k⟩ = s.noting queues op tag s.drawn) :
    s.tableWrite q k =
    if s.grpRunning g = false then ((s.begun ⟨q, k⟩).withEntries g (numbered first es)).finish ⟨q, k⟩ stOK [mkW n]
    else if es.all (s.entryOk g) = false then (s.begun ⟨q, k⟩).finish ⟨q, k⟩ stNotReady []
    else if (s.grp g).openSet.fits 0 n = false then (s.begun ⟨q, k⟩).finish ⟨q, k⟩ stBadParam []
    else if s.hold g then ((s.begun ⟨q, k⟩).addition g [] (numbered first es) none none).finish ⟨q, k⟩ stOK [mkW n]
    else (s.begun ⟨q, k⟩).addition g [] (numbered first es) (some ⟨q, k⟩) (some [mkW n]) := by
  obtain ⟨rfl, rfl, rfl, rfl, hlow, hhigh, hnext, hsome, hinside, hvalid⟩ := hok
  rw [State.tableWrite, State.run_of_runs h]
  simp only [hlow, hhigh, hnext, hvalid, Nat.ne_of_gt hsome, Nat.not_lt.mpr hinside, ne_eq, not_true_eq_false, decide_false, Bool.or_self,
    Bool.not_true, Bool.false_eq_true, if_false, Bool.not_eq_true', State.setEntries_eq]
  rw [hp]
  rfl

/-- To a group that is not running the entries are written at once. -/
theorem tableWrite_stopped (hrun : s.grpRunning g = false) : ∃ t, exec (.tableWrite q k) s = .next t ∧ s.Replied t q k stOK [mkW n] ∧
    (∀ h e : Nat, e < 1024 → t.entry h e =
      if h = g ∧ first ≤ e ∧ e < first + n then (c.payload.drop (2 + 8 * (e - first))).take 8 else s.entry h e) ∧
    { s.sansReply t with tables := s.tables } = s := by
  obtain ⟨queues, tag, hp⟩ := h.begun_eq
  have hwrite := State.tableWrite_eq h hok hp
  rw [if_pos hrun] at hwrite
  have hwaits : ((s.begun ⟨q, k⟩).withEntries g (numbered first es)).Waits q k := h.waits
  obtain ⟨hreply, queues', heq⟩ := State.finish_waits hwaits rfl stOK [mkW n]
  refine ⟨_, exec_main rfl h.rst hwrite, h.replied hreply, fun i e he => ?_, ?_⟩ <;> rw [heq, hp]
  · have hrow := s.entry_withRow g first (fun i => (c.payload.drop (2 + 8 * i)).take 8) hok.inside i he
    rw [hok.entries, numbered_payloadEntries]
    exact hrow
  · rfl

/-! To a running group -/

variable (hrun : s.grpRunning g = true)
include hrun

theorem tableWrite_unready (hready : es.all (s.entryOk g) = false) :
    ∃ t, exec (.tableWrite q k) s = .next t ∧ s.RepliedOnly t q k stNotReady [] := by
  obtain ⟨queues, tag, hp⟩ := h.begun_eq
  have hwrite := State.tableWrite_eq h hok hp
  simp only [hrun, Bool.true_eq_false, if_false, if_pos hready] at hwrite
  exact ⟨_, exec_main rfl h.rst hwrite, State.finish_begun h _ _⟩

variable (hready : es.all (s.entryOk g) = true)
include hready

theorem tableWrite_full (hfits : (s.grp g).openSet.fits 0 n = false) :
    ∃ t, exec (.tableWrite q k) s = .next t ∧ s.RepliedOnly t q k stBadParam [] := by
  obtain ⟨queues, tag, hp⟩ := h.begun_eq
  have hwrite := State.tableWrite_eq h hok hp
  simp only [hrun, hready, Bool.true_eq_false, if_false, if_pos hfits] at hwrite
  exact ⟨_, exec_main rfl h.rst hwrite, State.finish_begun h _ _⟩

variable (hfits : (s.grp g).openSet.fits 0 n = true)
include hfits

/-- Entries that a running group has room for are an addition to its open set (R182). -/
theorem State.tableWrite_adds {queues : KMap Queue} {tag : Nat} (hp : s.begun ⟨q, k⟩ = s.noting queues c.hdr.opcode tag s.drawn) :
    s.tableWrite q k =
      if s.hold g then ((s.begun ⟨q, k⟩).addition g [] (numbered first es) none none).finish ⟨q, k⟩ stOK [mkW n]
      else (s.begun ⟨q, k⟩).addition g [] (numbered first es) (some ⟨q, k⟩) (some [mkW n]) := by
  simp only [State.tableWrite_eq h hok hp, hrun, hready, hfits, Bool.true_eq_false, if_false]

theorem tableWrite_collects (hhold : s.hold g = true) : ∃ t, exec (.tableWrite q k) s = .next t ∧ s.Replied t q k stOK [mkW n] ∧
    t.grp g = (s.grp g).adding [] (numbered first es) ∧ KMap.agreeBut s.groups t.groups [g] ∧
      { s.sansReply t with groups := s.groups } = s := by
  obtain ⟨queues, tag, hp⟩ := h.begun_eq
  have hhold' : (s.begun ⟨q, k⟩).hold g = true := by rw [hp]; exact hhold
  have hwrite := State.tableWrite_adds h hok hrun hready hfits hp
  rw [if_pos hhold, State.addition_holds hhold'] at hwrite
  obtain ⟨hreply, queues', heq⟩ := h.answered (v := (s.begun ⟨q, k⟩).grown g [] (numbered first es)) rfl stOK [mkW n]
  refine ⟨_, exec_main rfl h.rst hwrite, hreply, ?_, ?_, ?_⟩ <;> rw [heq, hp]
  · exact s.grp_setGrp_same g _
  · exact s.setGrp_agreeBut g _
  · rfl

variable (hhold : s.hold g = false)
include hhold

/-- While HOLD is 0, the grown set is released. -/
theorem State.tableWrite_releases {queues : KMap Queue} {tag : Nat} (hp : s.begun ⟨q, k⟩ = s.noting queues c.hdr.opcode tag s.drawn) :
    s.tableWrite q k = ((s.noting queues c.hdr.opcode tag s.drawn).grown g [] (numbered first es)).releaseSet g (some ⟨q, k⟩)
      (some [mkW n]) := by
  have hhold' : (s.noting queues c.hdr.opcode tag s.drawn).hold g = false := hhold
  rw [State.tableWrite_adds h hok hrun hready hfits hp, hp, hhold, if_neg Bool.false_ne_true, State.addition_released hhold']

theorem tableWrite_released (hroom : (s.grp g).released.length < 4) : ∃ t, exec (.tableWrite q k) s = .next t ∧ s.Began t q k c ∧
    s.ReleasedFor t g [] (numbered first es) (some ⟨q, k⟩) (some [mkW n]) := by
  obtain ⟨queues, tag, hp⟩ := h.begun_eq
  have hwrite := State.tableWrite_releases h hok hrun hready hfits hhold hp
  obtain ⟨y, hy⟩ := State.grown_releases (s := s.noting queues c.hdr.opcode tag s.drawn) hroom [] (numbered first es) (some ⟨q, k⟩)
    (some [mkW n])
  exact ⟨_, exec_main rfl h.rst hwrite, h.began ((congrArg State.queues hy.frame).trans (congrArg State.queues hp).symm), hy.releasedFor⟩

theorem tableWrite_waits (hfull : 4 ≤ (s.grp g).released.length) : ∃ t, exec (.tableWrite q k) s = .next t ∧ s.Began t q k c ∧
    t.grp g = { (s.grp g).adding [] (numbered first es) with
      relWait := (s.grp g).relWait ++ [(some ⟨q, k⟩, some [mkW n])] } ∧
    KMap.agreeBut s.groups t.groups [g] ∧ { s.sansReply t with groups := s.groups } = s := by
  obtain ⟨queues, tag, hp⟩ := h.begun_eq
  have hwrite := State.tableWrite_releases h hok hrun hready hfits hhold hp
  have hx : ((s.noting queues c.hdr.opcode tag s.drawn).grown g [] (numbered first es)).grp g = (s.grp g).adding [] (numbered first es) :=
    State.grp_setGrp_same _ g _
  rw [State.releaseSet_waits (by rw [hx]; exact hfull), hx] at hwrite
  exact ⟨_, exec_main rfl h.rst hwrite, h.began (congrArg State.queues hp).symm, State.grp_setGrp_same _ g _,
    KMap.agreeBut_trans (s.setGrp_agreeBut g _) (State.setGrp_agreeBut _ g _), rfl⟩

end

/-! ### FORCE_JUMP -/

/-- A jump that FORCE_JUMP adds at `now` for its command: the group may take it from 40 ticks after the tick (R194). -/
def forcedJump (now target : Nat) (seamless : Bool) (cmd : CmdRef) : Trig :=
  { idx := 0, target := target, earliest := now / 256 * 256 + 40 * 256, seamless := seamless, ev := none, cmd := some cmd, delayed := false
    heldAt := none }

section
variable {s : State} {q : Fin 10} {k : Nat} {c : Cmd} (h : s.Runs q k 0x0407 c)
include h

theorem forceJump_bad (hbad : fld (wAt c.payload 0) 7 3 ≠ 0 ∨ fld (wAt c.payload 0) 15 9 ≠ 0 ∨ fld (wAt c.payload 0) 31 26 ≠ 0) :
    ∃ t, exec (.forceJump q k) s = .next t ∧ s.RepliedOnly t q k stBadParam [] := by
  have hjump : s.forceJump q k = (s.begun ⟨q, k⟩).finish ⟨q, k⟩ stBadParam [] := by
    rw [State.forceJump, State.run_of_runs h]
    exact if_pos (by simpa [or_assoc] using hbad)
  exact ⟨_, exec_main rfl h.rst hjump, State.finish_begun h _ _⟩

variable {g : Nat} (hg : g = fld (wAt c.payload 0) 2 0) (hlow : fld (wAt c.payload 0) 7 3 = 0) (hmid : fld (wAt c.payload 0) 15 9 = 0)
  (hhigh : fld (wAt c.payload 0) 31 26 = 0)
include hg hlow hmid hhigh

/-- A FORCE_JUMP without a reserved bit is refused, or adds its jump (R194). -/
theorem State.forceJump_eq {queues : KMap Queue} {tag : Nat} (hp : s.begun ⟨q, k⟩ = s.noting queues c.hdr.opcode tag s.drawn) :
    s.forceJump q k =
      if s.err.safe = true ∨ (s.grp g).st ≠ .running ∨ (s.grp g).episode ≠ none ∨ s.claimed q g = true
      then ((s.begun ⟨q, k⟩).bump .Gn_CNT_FORCE_REJ g).finish ⟨q, k⟩ stBusy []
      else (s.begun ⟨q, k⟩).setGrp g { s.grp g with claim := some (s.now, q.val), trigs := (s.grp g).trigs ++
        [forcedJump s.now (fld (wAt c.payload 0) 25 16) (bit (wAt c.payload 0) 8) ⟨q, k⟩] } := by
  rw [State.forceJump, State.run_of_runs h]
  simp only [hlow, hmid, hhigh, ← hg, ne_eq, not_true_eq_false, decide_false, Bool.or_self, Bool.false_eq_true, if_false, hp]
  refine if_congr ?_ rfl rfl
  simp only [Bool.or_eq_true, decide_eq_true_eq, or_assoc, Option.isSome_iff_ne_none, ne_eq]
  rfl

theorem forceJump_claims (hsafe : s.err.safe = false) (hst : (s.grp g).st = .running) (hep : (s.grp g).episode = none)
    (hclaim : s.claimed q g = false) : ∃ t, exec (.forceJump q k) s = .next t ∧ s.Began t q k c ∧
      t.grp g = { s.grp g with claim := some (s.now, q.val), trigs := (s.grp g).trigs ++
        [forcedJump s.now (fld (wAt c.payload 0) 25 16) (bit (wAt c.payload 0) 8) ⟨q, k⟩] } ∧
      KMap.agreeBut s.groups t.groups [g] ∧ { s.sansReply t with groups := s.groups } = s := by
  obtain ⟨queues, tag, hp⟩ := h.begun_eq
  have hjump := State.forceJump_eq h hg hlow hmid hhigh hp
  rw [if_neg (by simp [hsafe, hst, hep, hclaim])] at hjump
  refine ⟨_, exec_main rfl h.rst hjump, h.began rfl, State.grp_setGrp_same _ g _, ?_, ?_⟩ <;> rw [hp]
  · exact s.setGrp_agreeBut g _
  · rfl

theorem forceJump_busy (hbusy : s.err.safe = true ∨ (s.grp g).st ≠ .running ∨ (s.grp g).episode ≠ none ∨ s.claimed q g = true) :
    ∃ t, exec (.forceJump q k) s = .next t ∧ s.Replied t q k stBusy [] ∧
      t.rd .Gn_CNT_FORCE_REJ g = satInc (s.rd .Gn_CNT_FORCE_REJ g) ∧
      KMap.agreeBut s.regs t.regs [RegId.off .Gn_CNT_FORCE_REJ g 0] ∧ { s.sansReply t with regs := s.regs } = s := by
  obtain ⟨queues, tag, hp⟩ := h.begun_eq
  have hjump := State.forceJump_eq h hg hlow hmid hhigh hp
  rw [if_pos hbusy] at hjump
  obtain ⟨hreply, queues', heq⟩ := h.answered (v := (s.begun ⟨q, k⟩).bump .Gn_CNT_FORCE_REJ g)
    (State.bump_holding _ (off_ne_addr (by decide) g 0)) stBusy []
  refine ⟨_, exec_main rfl h.rst hjump, hreply, ?_, ?_, ?_⟩ <;> rw [heq, hp]
  · exact s.rd_wr_same .Gn_CNT_FORCE_REJ g 0 _
  · exact s.wr_agreeBut .Gn_CNT_FORCE_REJ g 0 _
  · rfl

end

/-- Settles O34: each form of TABLE_WRITE and FORCE_JUMP is computed to the reply, the entries, the addition or the jump that it comes
to. -/
theorem tablesAndJumps : Obligations.TablesAndJumps := by
  unfold Obligations.TablesAndJumps
  intro q k g first n c s es hg hfirst hn hes
  refine ⟨fun h => ⟨tableWrite_bad h hfirst hn hes, fun hlow hhigh hnext hsome hinside hvalid => ?_⟩,
    fun h => ⟨forceJump_bad h, fun hlow hmid hhigh => ⟨fun hsafe hst hep hclaim => ?_, forceJump_busy h hg hlow hmid hhigh⟩⟩⟩
  · have hok : WritesTable c.payload g first n es := ⟨hg, hfirst, hn, hes, hlow, hhigh, hnext, hsome, hinside, hvalid⟩
    exact ⟨tableWrite_stopped h hok, fun hrun => ⟨tableWrite_unready h hok hrun, fun hready =>
      ⟨tableWrite_full h hok hrun hready, tableWrite_collects h hok hrun hready, fun hfits hhold =>
        ⟨tableWrite_released h hok hrun hready hfits hhold, tableWrite_waits h hok hrun hready hfits hhold⟩⟩⟩⟩
  · have hjump := forceJump_claims h hg hlow hmid hhigh hsafe hst hep hclaim
    rw [← hfirst] at hjump
    exact hjump

end Sys2Proof.Machine
end
section
/-!
PROOF. The channels of a group that is armed, the lanes of one that starts, and the state of one that stops (R168, R191, R193, R272).
-/
namespace Sys2Proof.Machine

/-! ### Arming (R191) -/

/-- A state without its channels. -/
def State.sansChans (s : State) : State := { s with chans := [] }

/-- The enables that take effect as a group is armed change channels alone. -/
theorem State.chansArm_eq (s : State) (g : Nat) : s.chansArm g = { s with chans := (s.chansArm g).chans } := by
  have h : (s.chansArm g).sansChans = s.sansChans := by
    unfold State.chansArm State.chansTake
    refine State.foldl_same State.sansChans (fun u c => ?_) (List.range 32) s
    exact State.same_ite State.sansChans (State.same_ite State.sansChans rfl rfl) rfl
  exact congrArg (fun u : State => { u with chans := (s.chansArm g).chans }) h

/-- A group that is armed. -/
def Group.arms (x : Group) : Group := { x with st := .armed, armCmd := none }

/-- A stopped or armed group whose start entry is held is ARMED, and its GROUP_ARM is answered. -/
theorem State.armed_arms {s : State} {g : Nat} (hsafe : s.err.safe = false) (hst : (s.grp g).st = .stopped ∨ (s.grp g).st = .armed) :
    ∃ chans, s.armed g = ({ s with chans := chans }.setGrp g (s.grp g).arms).finishOpt (s.grp g).armCmd stOK [] := by
  rw [State.armed]
  simp only [hsafe, Bool.false_eq_true, if_false]
  rcases hst with hst | hst
  · refine ⟨(s.chansArm g).chans, ?_⟩
    have hgrp : (s.chansArm g).grp g = s.grp g := by
      rw [State.chansArm_eq]
      rfl
    simp only [hst, GState.isRunning, Bool.false_eq_true, if_false, State.modGrp, hgrp]
    rw [State.chansArm_eq]
    rfl
  · refine ⟨s.chans, ?_⟩
    simp only [hst, GState.isRunning, if_true, State.modGrp]
    rfl

/-! ### Lanes that start (R272) -/

/-- A lane without a level and an override. -/
def Pin.cleared (p : Pin) : Pin := { p with level := none, ovr := none }

/-- One lane of a group that stops or starts loses its level and its override. -/
def State.laneStop (s : State) (g n : Nat) : State :=
  if s.laneGroup n = g ∧ s.pin n ≠ (s.pin n).cleared then s.modPin n Pin.cleared else s

theorem State.laneStop_eq (s : State) (g n : Nat) : s.laneStop g n = { s with pins := (s.laneStop g n).pins } := by
  unfold State.laneStop
  split <;> rfl

theorem State.laneStop_pin (s : State) (g n j : Nat) :
    (s.laneStop g n).pin j = if j = n ∧ s.laneGroup j = g then (s.pin j).cleared else s.pin j := by
  unfold State.laneStop
  split
  case isTrue h =>
    by_cases hj : j = n
    · subst hj
      rw [if_pos ⟨rfl, h.1⟩]
      exact State.pin_setPin_same _ _ _
    · rw [if_neg fun hc => hj hc.1]
      exact State.pin_setPin_ne _ _ hj
  case isFalse h =>
    split
    case isTrue hc =>
      obtain ⟨rfl, hg⟩ := hc
      exact not_not.mp fun hne => h ⟨hg, hne⟩
    case isFalse => rfl

/-- The lanes below `m` lose their levels and overrides where they are the group's. -/
theorem State.laneStops_pins (s : State) (g m : Nat) :
    (List.range m).foldl (fun s n => s.laneStop g n) s =
        { s with pins := ((List.range m).foldl (fun s n => s.laneStop g n) s).pins } ∧
      ∀ j, ((List.range m).foldl (fun s n => s.laneStop g n) s).pin j =
        if j < m ∧ s.laneGroup j = g then (s.pin j).cleared else s.pin j := by
  induction m with
  | zero => exact ⟨rfl, fun j => by simp⟩
  | succ m ih =>
    obtain ⟨heq, hpin⟩ := ih
    rw [List.range_succ, List.foldl_append]
    generalize (List.range m).foldl (fun s n => s.laneStop g n) s = p at heq hpin
    have hgroup : ∀ j, p.laneGroup j = s.laneGroup j := fun j => by
      rw [heq]
      rfl
    refine ⟨(State.laneStop_eq p g m).trans (congrArg (fun u : State => { u with pins := (p.laneStop g m).pins }) heq), fun j => ?_⟩
    refine (State.laneStop_pin p g m j).trans ?_
    rw [hgroup, hpin]
    by_cases hj : j = m
    · simp [hj]
    · rw [if_neg fun hc => hj hc.1]
      exact if_congr (and_congr_left' (by omega)) rfl rfl

/-- The levels and overrides of a group's lanes end as it starts, and nothing else changes. -/
theorem State.lanesStart_pins (s : State) (g : Nat) : s.lanesStart g = { s with pins := (s.lanesStart g).pins } ∧
    ∀ n : Fin 64, (s.lanesStart g).pin n = if s.laneGroup n = g then (s.pin n).cleared else s.pin n := by
  obtain ⟨heq, hpin⟩ := s.laneStops_pins g 64
  refine ⟨heq, fun n => (hpin n).trans (if_congr ?_ rfl rfl)⟩
  exact and_iff_right n.isLt

/-! ### Stopping (R193) -/

theorem State.stopOne_st (s : State) (g t : Nat) (ramp : Bool) :
    ((s.stopOne g t ramp).grp g).st = GState.halted (s.rb .Gn_CTL g 0 0) := by
  unfold State.stopOne
  refine (congrArg Prod.fst (congrFun (State.afterStop_mode _ g ramp) g) :).trans ?_
  simp only [State.mode, State.modGrp, State.grp_setGrp_same, Group.mode]
  rfl

theorem GState.halted_idle (en : Bool) : (GState.halted en).isRunning = false := by
  cases en <;> rfl

/-- A group that has stopped is STOPPED or DISABLED as its enable has it; its followers that stop with it leave it so. -/
theorem State.stopGroup_st (s : State) (g t : Nat) (ramp : Bool) :
    ((s.stopGroup g t ramp).grp g).st = GState.halted (s.rb .Gn_CTL g 0 0) := by
  unfold State.stopGroup
  refine List.foldlRecOn (List.range 8) _ (motive := fun p : State => (p.grp g).st = GState.halted (s.rb .Gn_CTL g 0 0))
    (s.stopOne_st g t ramp) fun p hp h _ => ?_
  split
  case isTrue hc =>
    obtain ⟨-, -, hrun⟩ := hc
    have hne : g ≠ h := by
      rintro rfl
      rw [hp, GState.halted_idle] at hrun
      cases hrun
    exact (congrArg Prod.fst ((p.stopOne_mode h t ramp).1 g hne) :).trans hp
  case isFalse => exact hp

end Sys2Proof.Machine
end
section
/-!
PROOF. GROUP_ARM, GROUP_START and GROUP_STOP (R189, R191, R192, R193).
-/
namespace Sys2Proof.Machine

/-! ### GROUP_ARM -/

/-- A group that GROUP_ARM of start entry `e` claims at `now` for a command (R191, R468). -/
def Group.arming (x : Group) (e now : Nat) (cmd : CmdRef) : Group :=
  { x with startEntry := e, armCmd := some cmd, held := [], claim := some (now, cmd.q) }

section
variable {s : State} {q : Fin 10} {k g e : Nat} {c : Cmd} (h : s.Runs q k 0x0402 c)
include h

theorem groupArm_bad (hbad : fld (wAt c.payload 0) 15 3 ≠ 0 ∨ fld (wAt c.payload 0) 31 26 ≠ 0) :
    ∃ t, exec (.groupArm q k) s = .next t ∧ s.RepliedOnly t q k stBadParam [] := by
  have harm : s.groupArm q k = (s.begun ⟨q, k⟩).finish ⟨q, k⟩ stBadParam [] := by
    rw [State.groupArm, State.run_of_runs h]
    exact if_pos (by simpa using hbad)
  exact ⟨_, exec_main rfl h.rst harm, State.finish_begun h _ _⟩

variable (hg : g = fld (wAt c.payload 0) 2 0) (he : e = fld (wAt c.payload 0) 25 16) (hlow : fld (wAt c.payload 0) 15 3 = 0)
  (hhigh : fld (wAt c.payload 0) 31 26 = 0)
include hg he hlow hhigh

theorem groupArm_refused {st : Nat} (href : s.armRefused q g e = some st) :
    ∃ t, exec (.groupArm q k) s = .next t ∧ s.RepliedOnly t q k st [] := by
  obtain ⟨queues, tag, hp⟩ := h.begun_eq
  have href' : (s.begun ⟨q, k⟩).armRefused q g e = some st := by
    rw [hp]
    exact href
  have harm : s.groupArm q k = (s.begun ⟨q, k⟩).finish ⟨q, k⟩ st [] := by
    rw [State.groupArm, State.run_of_runs h]
    simp only [hlow, hhigh, ← hg, ← he, href', ne_eq, not_true_eq_false, decide_false, Bool.or_self, Bool.false_eq_true, if_false]
  exact ⟨_, exec_main rfl h.rst harm, State.finish_begun h _ _⟩

/-- A GROUP_ARM that nothing refuses claims its group (R191). -/
theorem State.groupArm_granted {queues : KMap Queue} {tag : Nat} (hp : s.begun ⟨q, k⟩ = s.noting queues c.hdr.opcode tag s.drawn)
    (href : s.armRefused q g e = none) : s.groupArm q k =
      if eSynth (s.entry g e) then ((s.begun ⟨q, k⟩).setGrp g ((s.grp g).arming e s.now ⟨q, k⟩)).armed g
      else (s.begun ⟨q, k⟩).setGrp g ((s.grp g).arming e s.now ⟨q, k⟩) := by
  have href' : (s.noting queues c.hdr.opcode tag s.drawn).armRefused q g e = none := href
  rw [State.groupArm, State.run_of_runs h]
  simp only [hlow, hhigh, ← hg, ← he, hp, href', ne_eq, not_true_eq_false, decide_false, Bool.or_self, Bool.false_eq_true, if_false]
  rfl

omit h hg he hlow hhigh in
/-- An arm that nothing refuses is of a stopped or armed group, outside safe state. -/
theorem State.armable {s : State} {q g e : Nat} (href : s.armRefused q g e = none) :
    s.err.safe = false ∧ ((s.grp g).st = .stopped ∨ (s.grp g).st = .armed) := by
  unfold State.armRefused at href
  dsimp only at href
  split at href <;> try contradiction
  split at href <;> try contradiction
  split at href <;> try contradiction
  rename_i hbusy
  split at href <;> try contradiction
  rename_i hstart
  refine ⟨?_, ?_⟩
  · by_contra hsafe
    rw [Bool.not_eq_false] at hsafe
    simp [State.armStartRefused, hsafe] at hstart
  · simp only [Bool.or_eq_true, Bool.and_eq_true, decide_eq_true_eq, not_or, not_and_or, not_not] at hbusy
    exact hbusy.1.1

variable (href : s.armRefused q g e = none)
include href

/-- With a synthesis state the group is ARMED at once. -/
theorem groupArm_synth (hsynth : eSynth (s.entry g e) = true) :
    ∃ t, exec (.groupArm q k) s = .next t ∧ s.Replied t q k stOK [] ∧
      t.grp g = { s.grp g with st := .armed, startEntry := e, armCmd := none, held := [], claim := some (s.now, q.val) } ∧
      KMap.agreeBut s.groups t.groups [g] ∧ { s.sansReply t with groups := s.groups, chans := s.chans } = s := by
  obtain ⟨queues, tag, hp⟩ := h.begun_eq
  have harm := State.groupArm_granted h hg he hlow hhigh hp href
  have hx := State.grp_setGrp_same (s.begun ⟨q, k⟩) g ((s.grp g).arming e s.now ⟨q, k⟩)
  obtain ⟨hsafe, hst⟩ := State.armable href
  obtain ⟨chans, harmed⟩ := State.armed_arms (s := (s.begun ⟨q, k⟩).setGrp g ((s.grp g).arming e s.now ⟨q, k⟩)) (g := g)
    (by rw [hp]; exact hsafe) (by rw [hx]; exact hst)
  rw [if_pos hsynth, harmed, hx] at harm
  obtain ⟨hreply, queues', heq⟩ := h.answered (v := ({ (s.begun ⟨q, k⟩).setGrp g ((s.grp g).arming e s.now ⟨q, k⟩) with
    chans := chans }).setGrp g ((s.grp g).arming e s.now ⟨q, k⟩).arms) rfl stOK []
  rw [heq] at hreply
  refine ⟨_, exec_main rfl h.rst (harm.trans heq), hreply, ?_, ?_, ?_⟩
  · exact State.grp_setGrp_same _ g _
  · rw [hp]
    exact KMap.agreeBut_trans (s.setGrp_agreeBut g _) (State.setGrp_agreeBut _ g _)
  · rw [hp]
    rfl

/-- With any other entry the group waits until the entry is held. -/
theorem groupArm_waits (hsynth : eSynth (s.entry g e) = false) :
    ∃ t, exec (.groupArm q k) s = .next t ∧ s.Began t q k c ∧
      t.grp g = (s.grp g).arming e s.now ⟨q, k⟩ ∧
      KMap.agreeBut s.groups t.groups [g] ∧ { s.sansReply t with groups := s.groups } = s := by
  obtain ⟨queues, tag, hp⟩ := h.begun_eq
  have harm := State.groupArm_granted h hg he hlow hhigh hp href
  rw [hsynth, if_neg Bool.false_ne_true] at harm
  refine ⟨_, exec_main rfl h.rst harm, h.began rfl, State.grp_setGrp_same _ g _, ?_, ?_⟩ <;> rw [hp]
  · exact s.setGrp_agreeBut g _
  · rfl

end

/-! ### GROUP_START -/

/-- A payload of GROUP_START of group `g` sets no reserved bit, and a tick within the second (R192). -/
structure StartsGroup (p : List Word) (g : Nat) : Prop where
  group : g = fld (wAt p 0) 2 0
  low : fld (wAt p 0) 7 3 = 0
  high : fld (wAt p 0) 31 9 = 0
  secs : fld (wAt p 2) 31 16 = 0
  ticks : fld (wAt p 3) 31 30 = 0
  inside : fld (wAt p 3) 29 0 < 800000000

/-- The start time that GROUP_START asks for at `now` (R192). -/
def startTime (p : List Word) (now : Nat) : Nat :=
  if bit (wAt p 0) 8 then mkTime ((wAt p 1).toNat + 2 ^ 32 * fld (wAt p 2) 15 0) (fld (wAt p 3) 29 0) 0 else now + usec 20

/-- A group that waits for its start at `at_`, claimed at `now` by a command (R192, R468). -/
def Group.starting (x : Group) (at_ now : Nat) (cmd : CmdRef) : Group :=
  { x with st := .waiting, startAt := at_, startCmd := some cmd, claim := some (now, cmd.q) }

section
variable {s : State} {q : Fin 10} {k g : Nat} {c : Cmd} (h : s.Runs q k 0x0403 c) (hok : StartsGroup c.payload g)
include h hok

/-- Why GROUP_START is answered BUSY: safe state, LOCAL for a host queue, or another queue's claim (R189, R429, R453, R468). -/
def State.startBusy (s : State) (q g : Nat) : Prop :=
  s.err.safe = true ∨ (q < 8 ∧ s.rb .MGT_CTL 0 0 1 = true) ∨ s.claimed q g = true

theorem groupStart_busy (hbusy : s.startBusy q g) : ∃ t, exec (.groupStart q k) s = .next t ∧ s.RepliedOnly t q k stBusy [] := by
  obtain ⟨queues, tag, hp⟩ := h.begun_eq
  obtain ⟨hg, hlow, hhigh, hsecs, hticks, hinside⟩ := hok
  have hbusy' : (s.begun ⟨q, k⟩).startBusy q g := by
    rw [hp]
    exact hbusy
  have hstart : s.groupStart q k = (s.begun ⟨q, k⟩).finish ⟨q, k⟩ stBusy [] := by
    rw [State.groupStart, State.run_of_runs h]
    simp only [← hg, hlow, hhigh, hsecs, hticks, Nat.not_le.mpr hinside, ne_eq, not_true_eq_false, decide_false, Bool.or_self,
      Bool.false_eq_true, if_false]
    exact if_pos (by simpa [State.startBusy, or_assoc] using hbusy')
  exact ⟨_, exec_main rfl h.rst hstart, State.finish_begun h _ _⟩

variable (hfree : ¬s.startBusy q g)
include hfree

/-- What a GROUP_START that is not BUSY does once it has begun. -/
theorem State.groupStart_eq {queues : KMap Queue} {tag : Nat} (hp : s.begun ⟨q, k⟩ = s.noting queues c.hdr.opcode tag s.drawn) :
    s.groupStart q k =
      if (s.grp g).st ≠ .armed then (s.begun ⟨q, k⟩).finish ⟨q, k⟩ stNotReady []
      else match s.armStartRefused q g, s.bindRefused g with
        | some st, _ => (s.begun ⟨q, k⟩).finish ⟨q, k⟩ st []
        | none, some st => (s.begun ⟨q, k⟩).finish ⟨q, k⟩ st []
        | none, none =>
          if bit (wAt c.payload 0) 8 && startTime c.payload s.now < s.now + usec 20 then (s.begun ⟨q, k⟩).finish ⟨q, k⟩ stBadParam []
          else ((s.begun ⟨q, k⟩).setGrp g ((s.grp g).starting (startTime c.payload s.now) s.now ⟨q, k⟩)).lanesStart g := by
  obtain ⟨hg, hlow, hhigh, hsecs, hticks, hinside⟩ := hok
  have hfree' : ¬(s.begun ⟨q, k⟩).startBusy q g := by
    rw [hp]
    exact hfree
  rw [State.groupStart, State.run_of_runs h]
  simp only [← hg, hlow, hhigh, hsecs, hticks, Nat.not_le.mpr hinside, ne_eq, not_true_eq_false, decide_false, Bool.or_self,
    Bool.false_eq_true, if_false]
  rw [if_neg (by simpa [State.startBusy, or_assoc] using hfree'), hp]
  rfl

theorem groupStart_unarmed (hst : (s.grp g).st ≠ .armed) :
    ∃ t, exec (.groupStart q k) s = .next t ∧ s.RepliedOnly t q k stNotReady [] := by
  obtain ⟨queues, tag, hp⟩ := h.begun_eq
  have hstart := State.groupStart_eq h hok hfree hp
  rw [if_pos hst] at hstart
  exact ⟨_, exec_main rfl h.rst hstart, State.finish_begun h _ _⟩

variable (hst : (s.grp g).st = .armed) (harm : s.armStartRefused q g = none) (hbind : s.bindRefused g = none)
include hst harm hbind

theorem groupStart_late (hlate : startTime c.payload s.now < s.now + usec 20) :
    ∃ t, exec (.groupStart q k) s = .next t ∧ s.RepliedOnly t q k stBadParam [] := by
  obtain ⟨queues, tag, hp⟩ := h.begun_eq
  have hat : bit (wAt c.payload 0) 8 = true := by
    by_contra hn
    rw [startTime, if_neg hn] at hlate
    exact Nat.lt_irrefl _ hlate
  have hstart := State.groupStart_eq h hok hfree hp
  simp only [hst, harm, hbind, hat, hlate, ne_eq, not_true_eq_false, if_false, decide_true, Bool.and_self, if_true] at hstart
  exact ⟨_, exec_main rfl h.rst hstart, State.finish_begun h _ _⟩

theorem groupStart_waits (htime : s.now + usec 20 ≤ startTime c.payload s.now) :
    ∃ t, exec (.groupStart q k) s = .next t ∧ s.Began t q k c ∧
      t.grp g = (s.grp g).starting (startTime c.payload s.now) s.now ⟨q, k⟩ ∧
      (∀ n : Fin 64, t.pin n = if s.laneGroup n = g then (s.pin n).cleared else s.pin n) ∧
      KMap.agreeBut s.groups t.groups [g] ∧ { s.sansReply t with groups := s.groups, pins := s.pins } = s := by
  obtain ⟨queues, tag, hp⟩ := h.begun_eq
  have hstart := State.groupStart_eq h hok hfree hp
  simp only [hst, harm, hbind, Nat.not_lt.mpr htime, ne_eq, not_true_eq_false, if_false, decide_false, Bool.and_false,
    Bool.false_eq_true] at hstart
  rw [hp] at hstart
  obtain ⟨heq, hpin⟩ := State.lanesStart_pins ((s.noting queues c.hdr.opcode tag s.drawn).setGrp g
    ((s.grp g).starting (startTime c.payload s.now) s.now ⟨q, k⟩)) g
  refine ⟨_, exec_main rfl h.rst hstart, h.began ?_, ?_, hpin, ?_, ?_⟩
  · rw [heq, hp]
    rfl
  · rw [heq]
    exact s.grp_setGrp_same g _
  · rw [heq]
    exact s.setGrp_agreeBut g _
  · rw [heq]
    rfl

end

/-! ### GROUP_STOP -/

section
variable {s : State} {q : Fin 10} {k : Nat} {c : Cmd} (h : s.Runs q k 0x0404 c)
include h

theorem groupStop_bad (hbad : fld (wAt c.payload 0) 7 3 ≠ 0 ∨ fld (wAt c.payload 0) 31 10 ≠ 0 ∨ fld (wAt c.payload 0) 9 8 = 3) :
    ∃ t, exec (.groupStop q k) s = .next t ∧ s.RepliedOnly t q k stBadParam [] := by
  have hstop : s.groupStop q k = (s.begun ⟨q, k⟩).finish ⟨q, k⟩ stBadParam [] := by
    rw [State.groupStop, State.run_of_runs h]
    exact if_pos (by simpa [or_assoc] using hbad)
  exact ⟨_, exec_main rfl h.rst hstop, State.finish_begun h _ _⟩

variable {g : Nat} (hg : g = fld (wAt c.payload 0) 2 0) (hlow : fld (wAt c.payload 0) 7 3 = 0) (hhigh : fld (wAt c.payload 0) 31 10 = 0)
  (hmode : fld (wAt c.payload 0) 9 8 ≠ 3)
include hg hlow hhigh hmode

/-- What a GROUP_STOP of a mode does once it has begun (R193). -/
theorem State.groupStop_eq {queues : KMap Queue} {tag : Nat} (hp : s.begun ⟨q, k⟩ = s.noting queues c.hdr.opcode tag s.drawn) :
    s.groupStop q k =
      if (s.grp g).st.plays then (s.begun ⟨q, k⟩).setGrp g { s.grp g with
        st := .stopping, stops := (s.grp g).stops ++ [{ mode := fld (wAt c.payload 0) 9 8, cmd := some ⟨q, k⟩, disable := false }] }
      else
        let n := (if (s.grp g).st.isRunning then (s.begun ⟨q, k⟩).stopGroup g s.now true else s.begun ⟨q, k⟩).draw
        n.2.finish ⟨q, k⟩ stOK (timeWords (Config.openTime n.1)) := by
  rw [State.groupStop, State.run_of_runs h]
  simp only [← hg, hlow, hhigh, hmode, ne_eq, not_true_eq_false, decide_false, Bool.or_self, Bool.false_eq_true, if_false, hp]
  rfl

theorem groupStop_plays (hplays : (s.grp g).st.plays = true) :
    ∃ t, exec (.groupStop q k) s = .next t ∧ s.Began t q k c ∧
      t.grp g = { s.grp g with st := .stopping, stops := (s.grp g).stops ++
        [{ mode := fld (wAt c.payload 0) 9 8, cmd := some ⟨q, k⟩, disable := false }] } ∧
      KMap.agreeBut s.groups t.groups [g] ∧ { s.sansReply t with groups := s.groups } = s := by
  obtain ⟨queues, tag, hp⟩ := h.begun_eq
  have hstop := State.groupStop_eq h hg hlow hhigh hmode hp
  rw [if_pos hplays] at hstop
  refine ⟨_, exec_main rfl h.rst hstop, h.began rfl, State.grp_setGrp_same _ g _, ?_, ?_⟩ <;> rw [hp]
  · exact s.setGrp_agreeBut g _
  · rfl

omit h hg hlow hhigh hmode in
theorem GState.plays_isRunning {x : GState} (h : x.plays = true) : x.isRunning = true := by
  cases x with
  | disabled => cases h
  | stopped => cases h
  | armed => cases h
  | waiting => cases h
  | _ => rfl

theorem groupStop_idle (hidle : (s.grp g).st.isRunning = false) :
    ∃ t, exec (.groupStop q k) s = .next t ∧ s.Replied t q k stOK (timeWords (Config.openTime s.drawn)) ∧
      { s.sansReply t with drawn := s.drawn } = s := by
  obtain ⟨queues, tag, hp⟩ := h.begun_eq
  have hstop := State.groupStop_eq h hg hlow hhigh hmode hp
  have hplays : ¬(s.grp g).st.plays = true := fun hn => by
    rw [GState.plays_isRunning hn] at hidle
    cases hidle
  have hdrawn : (s.begun ⟨q, k⟩).draw.1 = s.drawn := by
    rw [hp]
    rfl
  simp only [hplays, hidle, Bool.false_eq_true, if_false, hdrawn] at hstop
  obtain ⟨hreply, queues', heq⟩ := h.answered (v := (s.begun ⟨q, k⟩).draw.2) rfl stOK (timeWords (Config.openTime s.drawn))
  refine ⟨_, exec_main rfl h.rst hstop, hreply, ?_⟩
  rw [heq, hp]
  rfl

/-- A group that is armed or waits stops at once, as its enable has it. -/
theorem groupStop_halts (hst : (s.grp g).st = .armed ∨ (s.grp g).st = .waiting) :
    ∃ t, exec (.groupStop q k) s = .next t ∧ (t.grp g).st = GState.halted (s.rb .Gn_CTL g 0 0) := by
  obtain ⟨queues, tag, hp⟩ := h.begun_eq
  have hstop := State.groupStop_eq h hg hlow hhigh hmode hp
  have hplays : (s.grp g).st.plays = false ∧ (s.grp g).st.isRunning = true := by
    rcases hst with hst | hst <;> rw [hst] <;> exact ⟨rfl, rfl⟩
  simp only [hplays, Bool.false_eq_true, if_false, if_true] at hstop
  have hen : (s.begun ⟨q, k⟩).rb .Gn_CTL g 0 0 = s.rb .Gn_CTL g 0 0 := by
    rw [hp]
    rfl
  have hhalts := State.stopGroup_st (s.begun ⟨q, k⟩) g s.now true
  rw [hen] at hhalts
  generalize (s.begun ⟨q, k⟩).stopGroup g s.now true = p at hstop hhalts
  exact ⟨_, exec_main rfl h.rst hstop, (congrArg Prod.fst (congrFun (State.finish_mode _ _ _ _) g) :).trans hhalts⟩

end

/-- Settles O35: each form of GROUP_ARM, GROUP_START and GROUP_STOP is computed to the refusal, or to the group and the lanes that it
leaves. -/
theorem armStartStop : Obligations.ArmStartStop := by
  unfold Obligations.ArmStartStop
  intro q k g e c s hg he
  refine ⟨fun h => ⟨groupArm_bad h, fun hlow hhigh => ⟨fun st => groupArm_refused h hg he hlow hhigh, fun href =>
      ⟨groupArm_synth h hg he hlow hhigh href, groupArm_waits h hg he hlow hhigh href⟩⟩⟩,
    fun h hlow hhigh hsecs hticks hinside => ?_,
    fun h => ⟨groupStop_bad h, fun hlow hhigh hmode => ⟨groupStop_plays h hg hlow hhigh hmode, groupStop_idle h hg hlow hhigh hmode,
      fun hst _ _ _ _ => groupStop_halts h hg hlow hhigh hmode hst⟩⟩⟩
  have hok : StartsGroup c.payload g := ⟨hg, hlow, hhigh, hsecs, hticks, hinside⟩
  refine ⟨groupStart_busy h hok, fun hsafe hlocal hclaim => ?_⟩
  have hfree : ¬s.startBusy q g := by
    rintro (hn | ⟨hq, hn⟩ | hn)
    · simp [hsafe] at hn
    · rcases hlocal with hl | hl
      · omega
      · simp [hl] at hn
    · simp [hclaim] at hn
  refine ⟨groupStart_unarmed h hok hfree, fun hst harm hbind time htime => ?_⟩
  subst htime
  exact ⟨groupStart_late h hok hfree hst harm hbind, groupStart_waits h hok hfree hst harm hbind⟩

end Sys2Proof.Machine
end
section
/-!
PROOF. Entry starts and underruns at a decision for the next sample (R174, R175, R195, R444).
-/
namespace Sys2Proof.Machine

/-! ### Decisions -/

/-- A decision for the next sample is run on the state that the decision finds. -/
theorem State.AtDecision.atSample {s u : State} {g t : Nat} (h : s.AtDecision g t u) (f : State → State) : s.atSample g t f = f u := by
  obtain ⟨w, ⟨-, hplays, hn, ht, hready, rfl⟩, rfl⟩ := h
  simp only [State.atSample, hplays, hn, ht, hready, decide_true, Bool.and_self, if_true]

theorem State.AtDecision.rst {s u : State} {g t : Nat} (h : s.AtDecision g t u) : s.mgt.rst = false := by
  obtain ⟨w, ⟨hrst, -⟩, -⟩ := h
  exact hrst

theorem State.AtDecision.exec {s u : State} {g t : Nat} {i : Instr} {f : State → State} (h : s.AtDecision g t u)
    (hi : exec i s = .next (s.onMain fun s => s.atSample g t f)) : exec i s = .next (f u) := exec_main hi h.rst (h.atSample f)

/-! ### Entry starts (R175, R195) -/

/-- Outcomes of jumps change the records of open events alone. -/
theorem State.resolveEvs_eq (s : State) (g : Nat) (acted coinc : Bool) (t : Nat) (l : List Trig) :
    ∃ ev, l.foldl (fun s y => s.resolveEv y.ev g acted coinc t) s = { s with ev := ev } := by
  induction l generalizing s with
  | nil => exact ⟨s.ev, rfl⟩
  | cons y l ih =>
    have hy : ∃ ev, s.resolveEv y.ev g acted coinc t = { s with ev := ev } := by
      unfold State.resolveEv
      split
      · exact ⟨s.ev, rfl⟩
      · exact ⟨_, rfl⟩
    obtain ⟨ev, hy⟩ := hy
    obtain ⟨ev', hl⟩ := ih { s with ev := ev }
    exact ⟨ev', (congrArg (l.foldl _) hy).trans hl⟩

theorem State.markEntry_eq (s : State) (g mark t : Nat) : ∃ markers, s.markEntry g mark t = { s with markers := markers } := by
  unfold State.markEntry
  refine List.foldlRecOn (List.range 16) _ (motive := fun p : State => ∃ markers, p = { s with markers := markers }) ⟨s.markers, rfl⟩
    fun p hp m _ => ?_
  obtain ⟨markers, rfl⟩ := hp
  split
  · exact ⟨_, rfl⟩
  · exact ⟨markers, rfl⟩

/-- A group whose entry starts at `t` (R174, R175, R180). -/
def State.started (s : State) (g e t plays : Nat) : Group :=
  { s.grp g with
    entry := e, plays := plays, startN := (s.grp g).n, startT := t, bounds := 0, recTurn := 0
    trigs := (s.grp g).trigs.filter fun y => y.cmd.isSome || y.delayed
    held := heldRec 0 (s.entry g e) :: (s.grp g).held.filter fun h => h.region ≠ 0 && match regionEntry e (s.entry g e) h.region with
      | some i => heldRec h.region (s.entry g i) = h
      | none => false
    tpos := s.tSlots g (s.entry g e)
    pat := if ePatEn (s.entry g e) then some (ePseg (s.entry g e), nextTick t, 0) else none }

/-- A group with its last switch recorded (R195). -/
def Group.switched (x : Group) (e old idx cause t : Nat) : Group :=
  { x with lastSw := t, lastInfo := mkW (e + old * 2 ^ 16 + idx * 2 ^ 26 + cause * 2 ^ 28) }

theorem State.recordSwitch_eq (s : State) (g e old idx cause t : Nat) : ∃ pend sent, s.recordSwitch g e old idx cause t =
    { (s.setGrp g ((s.grp g).switched e old idx cause t)).bump .Gn_CNT_SWITCH g with msixPend := pend, sent := sent } :=
  State.irqIf_eq _ _ _ _

/-- The state in which an entry has started: its group, and the count of switches. -/
def State.entering (s : State) (g e t idx cause plays : Nat) : State :=
  (s.setGrp g ((s.started g e t plays).switched e (s.grp g).entry idx cause t)).bump .Gn_CNT_SWITCH g

/-- An entry start changes its group and the count, records of open events, markers and an interrupt. -/
theorem State.entryStart_eq (s : State) (g e t idx cause plays : Nat) : ∃ ev markers pend sent,
    s.entryStart g e t idx cause plays = { s.entering g e t idx cause plays with
      ev := ev, markers := markers, msixPend := pend, sent := sent } := by
  obtain ⟨ev, hev⟩ := s.resolveEvs_eq g false false 0 ((s.grp g).trigs.filter fun y => y.cmd.isNone && !y.delayed)
  obtain ⟨markers, hmk⟩ := State.markEntry_eq (({ s with ev := ev } : State).setGrp g (s.started g e t plays)) g (eMark (s.entry g e))
    (nextTick t)
  obtain ⟨pend, sent, hrec⟩ := State.recordSwitch_eq { ({ s with ev := ev } : State).setGrp g (s.started g e t plays) with
    markers := markers } g e (s.grp g).entry idx cause t
  have hstart : s.entryStart g e t idx cause plays = ((({ s with ev := ev } : State).setGrp g (s.started g e t plays)).markEntry g
      (eMark (s.entry g e)) (nextTick t)).recordSwitch g e (s.grp g).entry idx cause t := by
    unfold State.entryStart
    dsimp only
    rw [hev]
    rfl
  refine ⟨ev, markers, pend, sent, ?_⟩
  rw [hstart, hmk, hrec]
  simp only [State.setGrp, State.grp, KMap.getD_insert_same, KMap.insert_insert, State.entering]
  rfl

section
variable {s : State} {g e t idx cause plays : Nat} {v : State}
  (hv : ∃ ev markers pend sent, v = { s.entering g e t idx cause plays with ev := ev, markers := markers, msixPend := pend, sent := sent })
include hv

theorem State.entering_grp : v.grp g = (s.started g e t plays).switched e (s.grp g).entry idx cause t := by
  obtain ⟨ev, markers, pend, sent, rfl⟩ := hv
  exact s.grp_setGrp_same g _

theorem State.entering_groups : KMap.agreeBut s.groups v.groups [g] := by
  obtain ⟨ev, markers, pend, sent, rfl⟩ := hv
  exact s.setGrp_agreeBut g _

theorem State.entering_count : v.rd .Gn_CNT_SWITCH g = satInc (s.rd .Gn_CNT_SWITCH g) := by
  obtain ⟨ev, markers, pend, sent, rfl⟩ := hv
  exact s.rd_wr_same .Gn_CNT_SWITCH g 0 _

theorem State.entering_regs : KMap.agreeBut s.regs v.regs [RegId.off .Gn_CNT_SWITCH g 0] := by
  obtain ⟨ev, markers, pend, sent, rfl⟩ := hv
  exact s.wr_agreeBut .Gn_CNT_SWITCH g 0 _

theorem State.entering_holding : v.holding = s.holding := by
  obtain ⟨ev, markers, pend, sent, rfl⟩ := hv
  exact State.bump_holding (s.setGrp g ((s.started g e t plays).switched e (s.grp g).entry idx cause t)) (off_ne_addr (by decide) g 0)

end

/-! ### Underruns (R444) -/

/-- Of a state, one group and its count of underruns. -/
def State.tally (s : State) (g : Nat) : Group × Word := (s.grp g, s.rd .Gn_CNT_UNDERRUN g)

theorem State.bump_tally (s : State) {r : RegId} (g : Nat) (h : RegId.off .Gn_CNT_UNDERRUN g 0 ≠ r.off 0 0) :
    (s.bump r).tally g = s.tally g := Prod.ext rfl (State.rd_wr_ne s _ h)

theorem State.tally_aside (g : Nat) : State.Aside (·.tally g) where
  lost s := s.bump_tally g (by simp only [RegId.off, RegId.row]; omega)
  put _ _ := rfl
  pend _ _ := rfl
  ev _ _ := rfl
  tb _ _ := rfl
  sv _ _ _ := rfl

theorem State.logErr_tally (s : State) (g cls blk inst code status d0 d1 : Nat) :
    (s.logErr cls blk inst code status d0 d1).tally g = s.tally g := by
  have hlost : ∀ p : State, (p.bump .ERR_CNT_LOST).tally g = p.tally g := fun p =>
    p.bump_tally g (by simp only [RegId.off, RegId.row]; omega)
  unfold State.logErr State.logErrAt
  refine State.same_ite (·.tally g) ?_ (hlost s)
  exact State.same_ite (·.tally g) (((State.tally_aside g).irqIf _ _ _ _).trans (State.same_ite (·.tally g) (hlost _) rfl))
    (State.same_ite (·.tally g) (hlost _) rfl)

/-- An underrun of a group that plays its table opens an episode for the entry that was due, and is counted. -/
theorem State.underrun_tally {s : State} {g : Nat} (h : s.deciding g = true) (cause due : Nat) :
    (s.underrun g cause (some due)).tally g = ({ s.grp g with
      episode := some ⟨(s.grp g).n, none, due⟩, due := due, dueHeld := none
      lasting := (s.grp g).lasting || (s.grp g).sinceResume.isSome, sinceResume := none }, satInc (s.rd .Gn_CNT_UNDERRUN g)) := by
  simp only [State.deciding, Bool.and_eq_true, Bool.not_eq_true'] at h
  obtain ⟨⟨hplays, hfb⟩, hep⟩ := h
  have hcount : ∀ x : Group, ((((s.setGrp g x).bump .Gn_CNT_UNDERRUN g).bump .ERR_CNT_UNDERRUN)).tally g =
      (x, satInc (s.rd .Gn_CNT_UNDERRUN g)) := fun x => by
    rw [State.bump_tally _ g (by simp only [RegId.off, RegId.row]; omega)]
    exact Prod.ext (s.grp_setGrp_same g x) (State.rd_wr_same (s.setGrp g x) .Gn_CNT_UNDERRUN g 0 _)
  have hlasting : ∀ (p : State) (blk inst code status d0 d1 : Nat), (p.lasting blk inst code status d0 d1).tally g = p.tally g :=
    fun p _ _ _ _ _ _ => (State.logErr_tally _ _ _ _ _ _ _ _ _).trans (p.bump_tally g (by simp only [RegId.off, RegId.row]; omega))
  unfold State.underrun
  simp only [hplays, hfb, hep, Bool.false_eq_true, if_false, and_self, if_true, Option.getD_some]
  exact State.same_ite (·.tally g) ((hlasting _ _ _ _ _ _ _).trans (hcount _)) ((State.logErr_tally _ _ _ _ _ _ _ _ _).trans (hcount _))

end Sys2Proof.Machine
end
section
/-!
PROOF. DURATION_END, SWITCH, DELAYED_SWITCH and TARGET_HELD (R174 to R181, R191, R195).
-/
namespace Sys2Proof.Machine

/-! ### DURATION_END -/

section
variable {s u : State} {g : Fin 8} {t : Nat} (h : s.AtDecision g t u) (hd : u.deciding g = true)
  (hn : (u.grp g).startN < (u.grp g).n) (hend : u.durEnd g t = true)
include hd hn hend

/-- What becomes of an entry at the end of a play (R174, R175, R181). -/
theorem State.durationEnd_eq : u.durationEnd g t =
    if 0 < (u.grp g).plays then u.tryStart g (u.grp g).entry t 0 swDuration ((u.grp g).plays - 1)
    else if eLast (u.entry g (u.grp g).entry) then u
    else if u.regionHeld g 1 then u.tryStart g (eNext (u.entry g (u.grp g).entry)) t 0 swDuration
      (eRepeat (u.entry g (eNext (u.entry g (u.grp g).entry))))
    else u.underrun g 6 (some (eNext (u.entry g (u.grp g).entry))) := by
  simp only [State.durationEnd, hd, hn, hend, decide_true, Bool.and_self, if_true]

/-- The entry plays again, or its held successor starts. -/
theorem State.durationEnd_starts {next plays : Nat} (hok : u.entryOk g (u.entry g next) = true)
    (hnext : (0 < (u.grp g).plays ∧ next = (u.grp g).entry ∧ plays = (u.grp g).plays - 1) ∨
      ((u.grp g).plays = 0 ∧ eLast (u.entry g (u.grp g).entry) = false ∧ u.regionHeld g 1 = true ∧
        next = eNext (u.entry g (u.grp g).entry) ∧ plays = eRepeat (u.entry g next))) :
    u.durationEnd g t = u.entryStart g next t 0 swDuration plays := by
  have hstart : u.tryStart g next t 0 swDuration plays = u.entryStart g next t 0 swDuration plays := if_pos hok
  rw [State.durationEnd_eq hd hn hend, ← hstart]
  rcases hnext with ⟨hplays, rfl, rfl⟩ | ⟨hplays, hlast, hheld, rfl, rfl⟩
  · rw [if_pos hplays]
  · simp only [hplays, hlast, hheld, Nat.lt_irrefl, Bool.false_eq_true, if_false, if_true]

include h

theorem durationEnd_starts {next plays : Nat} (hok : u.entryOk g (u.entry g next) = true)
    (hnext : (0 < (u.grp g).plays ∧ next = (u.grp g).entry ∧ plays = (u.grp g).plays - 1) ∨
      ((u.grp g).plays = 0 ∧ eLast (u.entry g (u.grp g).entry) = false ∧ u.regionHeld g 1 = true ∧
        next = eNext (u.entry g (u.grp g).entry) ∧ plays = eRepeat (u.entry g next))) :
    ∃ v, exec (.durationEnd g t) s = .next v ∧
      v.grp g = (u.started g next t plays).switched next (u.grp g).entry 0 swDuration t ∧
      v.rd .Gn_CNT_SWITCH g = satInc (u.rd .Gn_CNT_SWITCH g) ∧ KMap.agreeBut u.groups v.groups [g.val] ∧
      KMap.agreeBut u.regs v.regs [RegId.off .Gn_CNT_SWITCH g 0] ∧
      { v with groups := u.groups, ev := u.ev, markers := u.markers, regs := u.regs, sent := u.sent, msixPend := u.msixPend } = u := by
  have hv := u.entryStart_eq g next t 0 swDuration plays
  refine ⟨_, (h.exec (f := fun u => u.durationEnd g t) rfl).trans
    (congrArg Host.Outcome.next (State.durationEnd_starts hd hn hend hok hnext)), State.entering_grp hv,
    State.entering_count hv, State.entering_groups hv, State.entering_regs hv, ?_⟩
  obtain ⟨ev, markers, pend, sent, heq⟩ := hv
  rw [heq]
  rfl

/-- A successor that is not held makes an underrun. -/
theorem durationEnd_underruns (hplays : (u.grp g).plays = 0) (hlast : eLast (u.entry g (u.grp g).entry) = false)
    (hheld : u.regionHeld g 1 = false) :
    ∃ v, exec (.durationEnd g t) s = .next v ∧ v.rd .Gn_CNT_UNDERRUN g = satInc (u.rd .Gn_CNT_UNDERRUN g) ∧
      (v.grp g).episode = some ⟨(u.grp g).n, none, eNext (u.entry g (u.grp g).entry)⟩ ∧ (v.grp g).entry = (u.grp g).entry := by
  have hunder : u.durationEnd g t = u.underrun g 6 (some (eNext (u.entry g (u.grp g).entry))) := by
    rw [State.durationEnd_eq hd hn hend]
    simp only [hplays, hlast, hheld, Nat.lt_irrefl, Bool.false_eq_true, if_false]
  have htally := State.underrun_tally hd 6 (eNext (u.entry g (u.grp g).entry))
  have hgrp := congrArg Prod.fst htally
  exact ⟨_, (h.exec (f := fun u => u.durationEnd g t) rfl).trans (congrArg Host.Outcome.next hunder), congrArg Prod.snd htally, (congrArg Group.episode hgrp :),
    (congrArg Group.entry hgrp :)⟩

end

/-! ### SWITCH and DELAYED_SWITCH -/

/-- Of a state, its groups and its registers. -/
def State.ledger (s : State) : KMap Group × KMap Word := (s.groups, s.regs)

theorem State.decide1_ledger (s : State) (c : CmdRef) (status : Nat) (result : List Word) (dev : Nat) :
    (s.decide1 c status result dev).ledger = s.ledger := by
  unfold State.decide1
  dsimp only
  split
  · rfl
  · exact State.same_ite State.ledger rfl rfl

theorem State.bcastTry_ledger (s : State) (num : Nat) : (s.bcastTry num).ledger = s.ledger := by
  unfold State.bcastTry
  split
  · exact State.same_ite State.ledger (State.decide1_ledger _ _ _ _ _) rfl
  · rfl

theorem State.finish_ledger (s : State) (c : CmdRef) (status : Nat) (result : List Word) : (s.finish c status result).ledger = s.ledger := by
  unfold State.finish
  split
  · exact State.same_ite State.ledger rfl (State.bcastTry_ledger _ _)
  · exact State.decide1_ledger _ _ _ _ _

/-- A reply changes no group and no register. -/
theorem State.finishOpt_ledger (s : State) (c : Option CmdRef) (status : Nat) (result : List Word) :
    (s.finishOpt c status result).ledger = s.ledger := by
  unfold State.finishOpt
  split
  · exact s.finish_ledger _ _ _
  · rfl

theorem State.resolveEv_ledger (s : State) (ev : Option Nat) (g : Nat) (acted coinc : Bool) (t : Nat) :
    (s.resolveEv ev g acted coinc t).ledger = s.ledger := by
  unfold State.resolveEv
  split <;> rfl

theorem State.resolveEv_holding (s : State) (ev : Option Nat) (g : Nat) (acted coinc : Bool) (t : Nat) :
    (s.resolveEv ev g acted coinc t).holding = s.holding := by
  unfold State.resolveEv
  split <;> rfl

/-- The cause and the condition index of the switch that a jump makes (R195). -/
def Trig.swIndex (y : Trig) : Nat := if y.cmd.isSome then 0 else y.idx

def Trig.swCause (y : Trig) : Nat := if y.cmd.isSome then swForce else swCondition

/-- The group without the jumps that claim its sample. -/
def State.unclaimed (u : State) (g : Nat) (cl : List Trig) : State :=
  u.setGrp g { u.grp g with trigs := (u.grp g).trigs.filter fun z => !cl.contains z }

/-- The state in which a jump that claimed its sample alone has started its target. -/
def State.jumped (u : State) (g t : Nat) (y : Trig) : State :=
  (u.unclaimed g [y]).entryStart g y.target t y.swIndex y.swCause (eRepeat (u.entry g y.target))

section
variable {u : State} {g t : Nat} {y : Trig}

theorem State.jumped_grp : (u.jumped g t y).grp g = ((u.unclaimed g [y]).started g y.target t (eRepeat (u.entry g y.target))).switched
    y.target (u.grp g).entry y.swIndex y.swCause t := by
  have hx : (u.unclaimed g [y]).grp g = { u.grp g with trigs := (u.grp g).trigs.filter fun z => !([y] : List Trig).contains z } :=
    u.grp_setGrp_same g _
  have h := State.entering_grp ((u.unclaimed g [y]).entryStart_eq g y.target t y.swIndex y.swCause (eRepeat (u.entry g y.target)))
  rw [hx] at h
  exact h

/-- The one jump that claims a sample starts its target, and its command is answered (R176, R181, R194). -/
theorem State.switch_one (hd : u.deciding g = true) {delayed : Option Bool} (hcl : u.claims g t delayed = [y])
    (hok : u.entryOk g (u.entry g y.target) = true) : u.switch g t delayed =
      ((u.jumped g t y).resolveEv y.ev g true false t).finishOpt y.cmd stOK (timeWords t) := by
  have hok' : (u.unclaimed g [y]).entryOk g ((u.unclaimed g [y]).entry g y.target) = true := hok
  have hstart : (u.unclaimed g [y]).tryStart g y.target t y.swIndex y.swCause (eRepeat (u.entry g y.target)) = u.jumped g t y := if_pos hok'
  have hep : ((u.jumped g t y).grp g).episode = ((u.unclaimed g [y]).grp g).episode := by
    rw [State.jumped_grp]
    rfl
  have hlosers : ([y] : List Trig).filter (fun z => z ≠ y) = [] := by simp
  unfold State.switch
  simp only [hd, hcl, firstTrig, hlosers, List.foldl_nil, Bool.not_true, Bool.false_eq_true, if_false]
  rw [State.unclaimed] at hep hstart
  rw [Trig.swIndex, Trig.swCause] at hstart
  simp only [hstart, hep, if_true]

theorem State.jumped_groups : KMap.agreeBut u.groups (u.jumped g t y).groups [g] :=
  KMap.agreeBut_trans (u.setGrp_agreeBut g _) (State.entering_groups (State.entryStart_eq _ _ _ _ _ _ _))

theorem State.jumped_count : (u.jumped g t y).rd .Gn_CNT_SWITCH g = satInc (u.rd .Gn_CNT_SWITCH g) :=
  State.entering_count (s := u.unclaimed g [y])
    (State.entryStart_eq (u.unclaimed g [y]) g y.target t y.swIndex y.swCause (eRepeat (u.entry g y.target)))

theorem State.jumped_trigs : y ∉ ((u.jumped g t y).grp g).trigs := by
  have htrigs : ((u.jumped g t y).grp g).trigs = ((u.unclaimed g [y]).grp g).trigs.filter fun z => z.cmd.isSome || z.delayed := by
    rw [State.jumped_grp]
    rfl
  rw [htrigs, State.unclaimed, State.grp_setGrp_same]
  simp

theorem State.jumped_holding : (u.jumped g t y).holding = u.holding :=
  State.entering_holding (s := u.unclaimed g [y])
    (State.entryStart_eq (u.unclaimed g [y]) g y.target t y.swIndex y.swCause (eRepeat (u.entry g y.target)))

end

theorem durationInfo (e old : Nat) : e + old * 2 ^ 16 + 0 * 2 ^ 26 + swDuration * 2 ^ 28 = e + old * 2 ^ 16 + 2 ^ 28 := by
  simp only [swDuration, Nat.zero_mul, Nat.one_mul, Nat.add_zero]

theorem Trig.switchInfo (y : Trig) (e old : Nat) : e + old * 2 ^ 16 + y.swIndex * 2 ^ 26 + y.swCause * 2 ^ 28 =
    e + old * 2 ^ 16 + (if y.cmd.isSome then 3 * 2 ^ 28 else y.idx * 2 ^ 26 + 2 * 2 ^ 28) := by
  unfold Trig.swIndex Trig.swCause swForce swCondition
  split <;> omega

section
variable {s u : State} {g : Fin 8} {t : Nat} {y : Trig} (h : s.AtDecision g t u)
include h

/-- SWITCH and DELAYED_SWITCH take the claims of their kind. -/
theorem exec_switches (delayed : Bool) : (if delayed then exec (.delayedSwitch g t) s else exec (.switch g t) s) =
    .next (u.switch g t (some delayed)) := by
  cases delayed with
  | true =>
    rw [if_pos rfl]
    exact h.exec (f := fun u => u.switch g t (some true)) rfl
  | false =>
    rw [if_neg Bool.false_ne_true]
    exact h.exec (f := fun u => u.switch g t (some false)) rfl

theorem switch_starts {delayed : Bool} (hd : u.deciding g = true) (hcl : u.claims g t (some delayed) = [y])
    (hok : u.entryOk g (u.entry g y.target) = true) :
    ∃ v, (if delayed then exec (.delayedSwitch g t) s else exec (.switch g t) s) = .next v ∧
      v.grp g = (u.jumped g t y).grp g ∧ v.rd .Gn_CNT_SWITCH g = satInc (u.rd .Gn_CNT_SWITCH g) ∧
      KMap.agreeBut u.groups v.groups [g.val] ∧
      (∀ (q : Fin 10) (k : Nat), y.cmd = some ⟨q, k⟩ → u.Waits q k → u.Replied v q k stOK (timeWords t)) := by
  have hledger : (((u.jumped g t y).resolveEv y.ev g true false t).finishOpt y.cmd stOK (timeWords t)).ledger = (u.jumped g t y).ledger :=
    (State.finishOpt_ledger _ _ _ _).trans (State.resolveEv_ledger _ _ _ _ _ _)
  obtain ⟨hgroups, hregs⟩ := Prod.ext_iff.mp hledger
  simp only [State.ledger] at hgroups hregs
  refine ⟨_, (exec_switches h delayed).trans (congrArg Host.Outcome.next (State.switch_one hd hcl hok)), State.grp_of_groups hgroups g,
    ?_, ?_, fun q k hcmd hw => ?_⟩
  · rw [State.rd, hregs]
    exact State.jumped_count
  · rw [hgroups]
    exact State.jumped_groups
  · rw [hcmd]
    exact (State.finish_waits hw ((State.resolveEv_holding _ _ _ _ _ _).trans State.jumped_holding) _ _).1

end

/-! ### TARGET_HELD -/

/-- The content of entry `e` that a group wants and does not hold yet (R179, R187). -/
def State.newlyHeld (u : State) (g e : Nat) : List HeldRec :=
  (((u.wants g).filter fun p => p.1 = e && u.holdable g p.2.2).map fun p => heldRec p.2.1 p.2.2).filter fun h =>
    !(u.grp g).held.contains h

/-- A group whose entry `e` is held from `t` on, in its regions and for its jumps (R179, R181, R194, R448). -/
def Group.holding (x : Group) (e t : Nat) (l : List HeldRec) : Group :=
  { x with
    held := x.held ++ l
    trigs := x.trigs.map fun z => if z.target = e && z.heldAt.isNone then { z with heldAt := some t } else z
    dueHeld := if (x.fb || x.episode.isSome) && x.due = e && x.dueHeld.isNone then some t else x.dueHeld }

/-- Where an entry may be held, its content is in each region that wants it. -/
theorem State.newlyHeld_wants {u : State} {g e t : Nat} {p : Nat × Nat × List Word} (hp : p ∈ u.wants g) (he : p.1 = e)
    (hok : u.holdable g p.2.2 = true) : heldRec p.2.1 p.2.2 ∈ ((u.grp g).holding e t (u.newlyHeld g e)).held := by
  rw [Group.holding, List.mem_append]
  by_cases hheld : heldRec p.2.1 p.2.2 ∈ (u.grp g).held
  · exact .inl hheld
  · refine .inr (List.mem_filter.mpr ⟨List.mem_map.mpr ⟨p, List.mem_filter.mpr ⟨hp, ?_⟩, rfl⟩, ?_⟩)
    · simp [he, hok]
    · simpa using hheld

/-- A jump to a held entry knows since when it is held. -/
theorem Group.holding_trigs {x : Group} {e t : Nat} {l : List HeldRec} {y : Trig} (hy : y ∈ (x.holding e t l).trigs) (he : y.target = e) :
    y.heldAt.isSome = true := by
  obtain ⟨z, -, hz⟩ := List.mem_map.mp hy
  split at hz
  case isTrue => rw [← hz]; rfl
  case isFalse hc =>
    subst hz
    simpa [he, Option.isSome_iff_ne_none, Option.isNone_iff_eq_none] using hc

theorem State.modGrp_setGrp (s : State) (g : Nat) (x : Group) (f : Group → Group) : (s.setGrp g x).modGrp g f = s.setGrp g (f x) := by
  rw [State.modGrp, State.grp_setGrp_same]
  simp only [State.setGrp, KMap.insert_insert]

section
variable {s u : State} {g e t : Nat} (hu : u = s.reach t) (hok : u.holdable g (u.entry g e) = true)
include hu hok

/-- TARGET_HELD of an entry that may be held (R179, R191). -/
theorem State.targetHeld_eq : s.targetHeld g e t =
    if (u.grp g).armCmd.isSome && (u.grp g).startEntry = e && !(u.grp g).st.plays
    then (u.setGrp g ((u.grp g).holding e t (u.newlyHeld g e))).armed g
    else u.setGrp g ((u.grp g).holding e t (u.newlyHeld g e)) := by
  unfold State.targetHeld
  rw [← hu]
  simp only [hok, Bool.not_true, Bool.false_eq_true, if_false, State.modGrp_setGrp]
  rfl

end

section
variable {s u : State} {g : Fin 8} {e t : Nat} (hrst : s.mgt.rst = false) (hu : u = s.reach t)
  (hok : u.holdable g (u.entry g e) = true)
include hrst hu hok

theorem targetHeld_unarmed (harm : (u.grp g).armCmd = none) :
    ∃ v, exec (.targetHeld g e t none) s = .next v ∧
      (∀ p ∈ u.wants g, p.1 = e → u.holdable g p.2.2 = true → heldRec p.2.1 p.2.2 ∈ (v.grp g).held) ∧
      (∀ y ∈ (v.grp g).trigs, y.target = e → y.heldAt.isSome = true) ∧ (v.grp g).st = (u.grp g).st ∧
      KMap.agreeBut u.groups v.groups [g.val] ∧ { v with groups := u.groups } = u := by
  have hheld := State.targetHeld_eq hu hok
  rw [harm, Option.isSome_none, Bool.false_and, Bool.false_and, if_neg Bool.false_ne_true] at hheld
  refine ⟨_, exec_main rfl hrst hheld, ?_, ?_, ?_, u.setGrp_agreeBut g _, rfl⟩ <;> rw [State.grp_setGrp_same]
  · exact fun p hp => State.newlyHeld_wants hp
  · exact fun y hy => Group.holding_trigs hy
  · rfl

theorem targetHeld_armed {k : Nat} {q : Fin 10} (harm : (u.grp g).armCmd = some ⟨q, k⟩) (he : (u.grp g).startEntry = e)
    (hst : (u.grp g).st = .stopped ∨ (u.grp g).st = .armed) (hsafe : u.err.safe = false) (hw : u.Waits q k) :
    ∃ v, exec (.targetHeld g e t none) s = .next v ∧ (v.grp g).st = .armed ∧ (v.grp g).armCmd = none ∧
      (∀ p ∈ u.wants g, p.1 = e → u.holdable g p.2.2 = true → heldRec p.2.1 p.2.2 ∈ (v.grp g).held) ∧
      u.Replied v q k stOK [] ∧ KMap.agreeBut u.groups v.groups [g.val] ∧
      { v with groups := u.groups, queues := u.queues, chans := u.chans } = u := by
  have hheld := State.targetHeld_eq hu hok
  have hplays : (u.grp g).st.plays = false := by
    rcases hst with hst | hst <;> rw [hst] <;> rfl
  have hx := u.grp_setGrp_same g ((u.grp g).holding e t (u.newlyHeld g e))
  obtain ⟨chans, harmed⟩ := State.armed_arms (s := u.setGrp g ((u.grp g).holding e t (u.newlyHeld g e))) (g := g) hsafe
    (by rw [hx]; exact hst)
  rw [if_pos (by simp [harm, he, hplays]), harmed, hx] at hheld
  have hcmd : ((u.grp g).holding e t (u.newlyHeld g e)).armCmd = some ⟨q, k⟩ := harm
  rw [hcmd] at hheld
  obtain ⟨hreply, queues, heq⟩ := State.finish_waits (s := ({ u.setGrp g ((u.grp g).holding e t (u.newlyHeld g e)) with
    chans := chans } : State).setGrp g ((u.grp g).holding e t (u.newlyHeld g e)).arms) hw rfl stOK []
  rw [heq] at hreply
  refine ⟨_, exec_main rfl hrst (hheld.trans heq), ?_, ?_, ?_, hreply,
    KMap.agreeBut_trans (u.setGrp_agreeBut g _) (State.setGrp_agreeBut _ g _), rfl⟩
  · exact congrArg Group.st (State.grp_setGrp_same _ g _)
  · exact congrArg Group.armCmd (State.grp_setGrp_same _ g _)
  · intro p hp hpe hpok
    exact (congrArg (fun x : Group => heldRec p.2.1 p.2.2 ∈ x.held) (State.grp_setGrp_same _ g _)).mpr
      (State.newlyHeld_wants (t := t) hp hpe hpok)

end

/-- Settles O38: each decision is the start of an entry, the opening of an episode, or the answer of the command that waited for it. -/
theorem entriesAndSwitches : Obligations.EntriesAndSwitches := by
  unfold Obligations.EntriesAndSwitches
  intro g t s u
  refine ⟨fun h hd hn hend => ⟨fun next plays hok hnext => ?_, durationEnd_underruns h hd hn hend⟩,
    fun delayed y h hd hcl hok => ?_, fun e hrst hu hok => ⟨targetHeld_unarmed hrst hu hok, fun k q => targetHeld_armed hrst hu hok⟩⟩
  · obtain ⟨v, hexec, hgrp, hcount, hgroups, hregs, hframe⟩ := durationEnd_starts h hd hn hend hok hnext
    refine ⟨v, hexec, ?_, ?_, ?_, ?_, ?_, ?_, ?_, hcount, hgroups, hregs, hframe⟩ <;> rw [hgrp]
    case refine_6 => exact congrArg mkW (durationInfo _ _)
    all_goals rfl
  · obtain ⟨v, hexec, hgrp, hcount, hgroups, hreply⟩ := switch_starts h hd hcl hok
    have hn : ((u.unclaimed g [y]).grp g).n = (u.grp g).n := by
      rw [State.unclaimed, State.grp_setGrp_same]
    refine ⟨v, hexec, ?_, ?_, ?_, ?_, hgrp ▸ State.jumped_trigs, ?_, hcount, hgroups, hreply⟩ <;> rw [hgrp, State.jumped_grp]
    case refine_3 => exact hn
    case refine_5 => exact congrArg mkW (y.switchInfo _ _)
    all_goals rfl

end Sys2Proof.Machine
end
section
/-!
PROOF. What an event does (R200 to R208): the jumps that it adds to every group, its number and its count; its overrides, its records and its
message on the chain leave them alone.
-/
namespace Sys2Proof.Machine

/-! ### What overrides, records and messages leave alone -/

/-- A register that records and messages of events do not count in. -/
def unlogged (off : Nat) : Prop := off ≠ RegId.off .EVT_CNT_LOST 0 0 ∧ off ≠ RegId.off .CHN_CNT_SUPPR 0 0

/-- What events are made of and act on. -/
structure Sources where
  groups : KMap Group
  bins : KMap BinIn
  tables : KMap (List Word)
  tb : Timebase
  nextId : Nat
  fired : Word
  past : Word
  regs : ∀ off, unlogged off → Option Word

def State.sources (s : State) : Sources :=
  ⟨s.groups, s.bins, s.tables, s.tb, s.ev.nextId, s.ev.tmFired, s.ev.tmPast, fun off _ => KMap.find? s.regs off⟩

section
variable {s t : State} (h : t.sources = s.sources)
include h

theorem State.find_of_sources {off : Nat} (ho : unlogged off) : KMap.find? t.regs off = KMap.find? s.regs off :=
  congrFun (congrFun (congrArg Sources.regs h) off) ho

theorem State.rd_of_sources {r : RegId} {i j : Nat} (ho : unlogged (r.off i j)) : t.rd r i j = s.rd r i j := by
  simp only [State.rd, KMap.getD, State.find_of_sources h ho]

theorem State.grp_of_sources (g : Nat) : t.grp g = s.grp g := State.grp_of_groups (congrArg Sources.groups h) g

end

theorem State.bump_sources (s : State) {r : RegId} (hr : ¬unlogged (r.off 0 0)) : (s.bump r).sources = s.sources := by
  have hregs : (s.bump r).sources.regs = s.sources.regs := by
    funext off ho
    exact KMap.find?_put_ne _ _ _ fun he => hr (he ▸ ho)
  exact congrArg (fun f => ({ s.sources with regs := f } : Sources)) hregs

theorem State.lost_sources (s : State) : (s.bump .EVT_CNT_LOST).sources = s.sources := s.bump_sources fun h => h.1 rfl

theorem State.irqIf_sources (s : State) (r : RegId) (i en : Nat) : (s.irqIf r i en).sources = s.sources := by
  obtain ⟨pend, sent, h⟩ := s.irqIf_eq r i en
  rw [h]
  rfl

theorem State.logEvent_sources (s : State) (r : EvRec) : (s.logEvent r).sources = s.sources := by
  unfold State.logEvent
  exact State.same_ite State.sources ((State.irqIf_sources _ _ _ _).trans (State.same_ite State.sources (State.lost_sources _) rfl))
    (State.same_ite State.sources (State.lost_sources _) rfl)

theorem State.flushLog_sources (s : State) : s.flushLog.sources = s.sources := by
  unfold State.flushLog
  exact State.same_ite State.sources (State.foldl_same State.sources State.logEvent_sources _ _) rfl

/-- An observation moves device time, and writes records. -/
theorem State.reach_sources (s : State) (t : Nat) : ∃ tb, (s.reach t).sources = ({ s with tb := tb } : State).sources := by
  unfold State.reach
  split
  · exact ⟨_, State.flushLog_sources _⟩
  · exact ⟨s.tb, rfl⟩

theorem State.reach_off {s : State} (h : s.evtOn = false) (t : Nat) : ∃ tb, s.reach t = { s with tb := tb } := by
  unfold State.reach
  split
  · exact ⟨_, if_neg (by rw [Bool.not_eq_true]; exact h)⟩
  · exact ⟨s.tb, rfl⟩

theorem State.overrides_sources (s : State) (src : Nat) (level : Option Bool) : (s.overrides src level).sources = s.sources := by
  refine State.foldl_same State.sources (fun s n => ?_) _ s
  exact State.same_ite State.sources rfl rfl

theorem State.settlePairs_sources (s : State) (t : Nat) : (s.settlePairs t).sources = s.sources := by
  refine State.foldl_same State.sources (fun s k => ?_) _ s
  unfold State.settlePair
  exact State.same_ite State.sources (State.same_ite State.sources rfl rfl) rfl

theorem State.sendData_sources {s t : State} {p vc : Nat} {body : List Byte} (h : s.sendData p vc body = some t) :
    t.sources = s.sources := by
  unfold State.sendData at h
  dsimp only at h
  split at h
  · split at h
    · exact Option.some.inj h ▸ rfl
    · cases h
  · cases h

theorem State.pump_sources (s : State) (p n : Nat) : (s.pump p n).sources = s.sources := by
  induction n generalizing s with
  | zero => rfl
  | succ n ih =>
    unfold State.pump
    dsimp only
    split
    case h_4 => rfl
    case h_1 | h_2 | h_3 =>
      rename_i h
      split at h
      · obtain ⟨u, hu, rfl⟩ := Option.map_eq_some_iff.mp h
        exact (ih _).trans (State.sendData_sources (t := u) hu)
      · cases h

theorem State.flood_sources (s : State) (from_ : Nat) (body : List Byte) : (s.flood from_ body).sources = s.sources := by
  refine State.foldl_same State.sources (fun s p => State.same_ite State.sources ?_ rfl) _ s
  unfold State.sendBodies
  exact State.same_ite State.sources (State.pump_sources _ _ _) rfl

theorem State.sendChainEvent_sources (s : State) (num time : Nat) : (s.sendChainEvent num time).sources = s.sources := by
  have hchain : ∀ (u : State) (l : List ChainEv), ({ u with ev := { u.ev with chain := l } } : State).sources = u.sources := fun _ _ => rfl
  unfold State.sendChainEvent
  refine State.same_ite State.sources rfl (State.same_ite State.sources ?_ (s.bump_sources fun h => h.2 rfl))
  exact (hchain _ _).trans (State.flood_sources _ _ _)

/-! ### Jumps that an event triggers (R176, R202) -/

theorem State.newTrigs_congr {s p : State} {g : Nat} (hgrp : p.grp g = s.grp g) (htables : p.tables = s.tables)
    (hcond : ∀ i < 32, p.rd .EVT_COND_g_i g i = s.rd .EVT_COND_g_i g i) (src time earliest : Nat) (level : Option Bool) (ev : Nat) :
    p.newTrigs g src time earliest level ev = s.newTrigs g src time earliest level ev := by
  have hins : p.inputsTrue g src level = s.inputsTrue g src level := by
    refine List.filter_congr fun i hi => ?_
    rw [State.rb, State.rf, State.rf, State.rb, State.rf, State.rf, hcond i (List.mem_range.mp hi)]
  simp only [State.newTrigs, hgrp, hins, State.entry, htables]

/-- A group with jumps added. -/
def Group.jumping (x : Group) (l : List Trig) : Group := { x with trigs := x.trigs ++ l }

/-- An event triggers its jumps in one group, and notes it in its open record. -/
theorem State.trigGroup_eq (s : State) (g src time earliest : Nat) (level : Option Bool) (ev : Nat) :
    (∃ groups open_, s.trigGroup g src time earliest level ev = { s with groups := groups, ev := { s.ev with open_ := open_ } }) ∧
      ∀ h, (s.trigGroup g src time earliest level ev).grp h =
        if h = g then (s.grp h).jumping (s.newTrigs g src time earliest level ev) else s.grp h := by
  unfold State.trigGroup
  dsimp only
  split
  case isTrue hnone =>
    refine ⟨⟨s.groups, s.ev.open_, rfl⟩, fun h => ?_⟩
    rw [List.isEmpty_iff.mp hnone, Group.jumping, List.append_nil, ite_self]
  case isFalse =>
    refine ⟨⟨_, _, rfl⟩, fun h => ?_⟩
    by_cases hh : h = g
    · subst hh
      rw [if_pos rfl]
      exact s.grp_setGrp_same h _
    · rw [if_neg hh]
      exact s.grp_setGrp_ne _ hh

/-- An event triggers its jumps in the groups below `m`. -/
theorem State.trigGroups_eq (s : State) (src time earliest : Nat) (level : Option Bool) (ev m : Nat) :
    (∃ groups open_, (List.range m).foldl (fun s g => s.trigGroup g src time earliest level ev) s =
        { s with groups := groups, ev := { s.ev with open_ := open_ } }) ∧
      ∀ h, ((List.range m).foldl (fun s g => s.trigGroup g src time earliest level ev) s).grp h =
        if h < m then (s.grp h).jumping (s.newTrigs h src time earliest level ev) else s.grp h := by
  induction m with
  | zero => exact ⟨⟨s.groups, s.ev.open_, rfl⟩, fun h => by simp⟩
  | succ m ih =>
    obtain ⟨⟨groups, open_, heq⟩, hgrp⟩ := ih
    rw [List.range_succ, List.foldl_append]
    generalize (List.range m).foldl (fun s g => s.trigGroup g src time earliest level ev) s = p at heq hgrp
    obtain ⟨⟨groups', open', heq'⟩, hgrp'⟩ := p.trigGroup_eq m src time earliest level ev
    have hm : p.grp m = s.grp m := (hgrp m).trans (if_neg (Nat.lt_irrefl m))
    have hnew : p.newTrigs m src time earliest level ev = s.newTrigs m src time earliest level ev :=
      State.newTrigs_congr hm (by rw [heq]) (fun i _ => by rw [heq]; rfl) _ _ _ _ _
    refine ⟨⟨groups', open', heq'.trans (by rw [heq])⟩, fun h => (hgrp' h).trans ?_⟩
    rw [hnew, hgrp h]
    by_cases hh : h = m
    · subst hh
      rw [if_pos rfl, if_neg (Nat.lt_irrefl h), if_pos (Nat.lt_succ_self h)]
    · rw [if_neg hh]
      exact if_congr (by omega) rfl rfl

/-! ### Events (R200, R201) -/

/-- An event of a source stamped at `time` has been delivered: every group has the jumps that it triggers there. -/
structure State.Fires (s v : State) (src time : Nat) (level : Option Bool) : Prop where
  trigs : ∀ g : Fin 8, (v.grp g).trigs = (s.grp g).trigs ++ s.newTrigs g src time (time + 40 * 256) level s.ev.nextId
  nextId : v.ev.nextId = s.ev.nextId + 1
  fired : v.ev.tmFired = s.ev.tmFired
  tb : v.tb = s.tb
  bins : v.bins = s.bins
  count : v.rd .EVT_CNT_EVENTS = satInc (s.rd .EVT_CNT_EVENTS)
  regs : ∀ off, unlogged off → off ≠ RegId.off .EVT_CNT_EVENTS 0 0 → KMap.find? v.regs off = KMap.find? s.regs off

theorem State.event_off {s : State} (h : s.evtOn = false) (src time : Nat) (level : Option Bool) (detail : Word) (flags : Nat) :
    s.event src time level detail flags = s := by
  simp only [State.event, h, Bool.false_eq_true, if_false]

/-- The open records with that of a new event, where its class is logged (R208, R211). -/
def State.opening (s : State) (r : EvRec) : List EvRec := if s.evLogged r.src then s.ev.open_ ++ [r] else s.ev.open_

/-- The state in which an event has been counted and numbered, with its record open. -/
def State.numbered (s : State) (l : List EvRec) : State :=
  { s.bump .EVT_CNT_EVENTS with ev := { s.ev with nextId := s.ev.nextId + 1, open_ := l } }

theorem State.event_sources {s : State} (h : s.evtOn = true) (src time : Nat) (level : Option Bool) (detail : Word) (flags : Nat) :
    ∃ l, (s.event src time level detail flags).sources =
      ((List.range 8).foldl (fun p g => p.trigGroup g src time (time + 40 * 256) level s.ev.nextId) (s.numbered l)).sources := by
  have hdeliver : ∃ l, ((s.bump .EVT_CNT_EVENTS).deliver src time (time + ticks 40) level detail flags).sources =
      ((List.range 8).foldl (fun p g => p.trigGroup g src time (time + 40 * 256) level s.ev.nextId) (s.numbered l)).sources := by
    refine ⟨(s.bump .EVT_CNT_EVENTS).opening ⟨s.ev.nextId, src, time, level.getD false, detail, flags, [], [], [], []⟩, ?_⟩
    unfold State.deliver
    exact (State.flushLog_sources _).trans ((State.settlePairs_sources _ _).trans (State.overrides_sources _ _ _))
  obtain ⟨l, hl⟩ := hdeliver
  refine ⟨l, Eq.trans ?_ hl⟩
  simp only [State.event, h, if_true]
  exact State.foldl_same State.sources (fun s n => State.same_ite State.sources (s.sendChainEvent_sources _ _) rfl) _ _

/-- While EVT runs an event adds to every group the jumps that it triggers there, and counts. -/
theorem State.event_fires {s : State} (h : s.evtOn = true) (src time : Nat) (level : Option Bool) (detail : Word) (flags : Nat) :
    s.Fires (s.event src time level detail flags) src time level := by
  obtain ⟨l, hsrc⟩ := s.event_sources h src time level detail flags
  obtain ⟨⟨groups, open_, heq⟩, hgrp⟩ := (s.numbered l).trigGroups_eq src time (time + 40 * 256) level s.ev.nextId 8
  generalize s.event src time level detail flags = v at hsrc
  generalize (List.range 8).foldl (fun p g => p.trigGroup g src time (time + 40 * 256) level s.ev.nextId) (s.numbered l) = p at hsrc heq hgrp
  have hcount : p.rd .EVT_CNT_EVENTS = satInc (s.rd .EVT_CNT_EVENTS) := by
    rw [heq]
    exact s.rd_wr_same .EVT_CNT_EVENTS 0 0 _
  refine ⟨fun g => ?_, ?_, ?_, ?_, ?_, ?_, fun off ho hne => ?_⟩
  · have hnew : (s.numbered l).newTrigs g src time (time + 40 * 256) level s.ev.nextId =
        s.newTrigs g src time (time + 40 * 256) level s.ev.nextId := by
      refine State.newTrigs_congr (s := s) (p := s.numbered l) rfl rfl (fun i hi => State.rd_wr_ne s _ ?_) _ _ _ _ _
      simp only [RegId.off, RegId.row]
      omega
    rw [State.grp_of_sources hsrc, hgrp, if_pos g.isLt, hnew]
    rfl
  · exact (congrArg Sources.nextId hsrc).trans (by rw [heq]; rfl)
  · exact (congrArg Sources.fired hsrc).trans (by rw [heq]; rfl)
  · exact (congrArg Sources.tb hsrc).trans (by rw [heq]; rfl)
  · exact (congrArg Sources.bins hsrc).trans (by rw [heq]; rfl)
  · rw [State.rd_of_sources hsrc (by unfold unlogged; decide), hcount]
  · rw [State.find_of_sources hsrc ho, heq]
    exact KMap.find?_put_ne _ _ _ hne

/-- An event leaves inputs alone, and registers that it does not count in. -/
theorem State.event_keeps (s : State) (src time : Nat) (level : Option Bool) (detail : Word) (flags : Nat) :
    (s.event src time level detail flags).bins = s.bins ∧ ∀ off, unlogged off → off ≠ RegId.off .EVT_CNT_EVENTS 0 0 →
      KMap.find? (s.event src time level detail flags).regs off = KMap.find? s.regs off := by
  by_cases h : s.evtOn = true
  · have hfires := s.event_fires h src time level detail flags
    exact ⟨hfires.bins, hfires.regs⟩
  · rw [State.event_off (by simpa using h)]
    exact ⟨rfl, fun _ _ _ => rfl⟩

end Sys2Proof.Machine
end
section
/-!
PROOF. Binary inputs, soft events and time matches (R200, R201, R207, R280, R281).
-/
namespace Sys2Proof.Machine

/-! ### Binary inputs (R280, R281) -/

/-- An input whose debounced state has inverted at the tick `t`. -/
def BinIn.inverted (x : BinIn) (t : Nat) : BinIn := { x with state := !x.state, raw := !x.state, time := t }

section
variable {s : State} {n : Fin 32}

theorem binaryInput_off (hrst : s.mgt.rst = false) (hoff : s.binOn n = false) (t : Nat) :
    exec (.binaryInputChange n t) s = .next s ∧ exec (.bounce n) s = .next s ∧
      ∀ level : Bool, exec (.binaryInputStart n level) s = .next s := by
  refine ⟨exec_main rfl hrst ?_, exec_main rfl hrst ?_, fun level => exec_main rfl hrst ?_⟩
  · simp only [State.binChange, hoff, Bool.false_and, Bool.false_eq_true, if_false]
  · simp only [State.binBounce, hoff, Bool.false_and, Bool.false_eq_true, if_false]
  · simp only [State.binStable, hoff, Bool.false_and, Bool.false_eq_true, if_false]

theorem bounce_counts (hrst : s.mgt.rst = false) (hon : s.binOn n = true) (hvalid : (s.bin n).valid = true) :
    exec (.bounce n) s = .next ((s.setBin n { s.bin n with raw := (s.bin n).state }).wr .BIN_CNT_BOUNCE_n n 0
      (satInc (s.rd .BIN_CNT_BOUNCE_n n))) := by
  have hbounce : s.binBounce n = (s.setBin n { s.bin n with raw := (s.bin n).state }).bump .BIN_CNT_BOUNCE_n n := by
    simp only [State.binBounce, hon, hvalid, Bool.and_self, if_true]
  exact exec_main rfl hrst hbounce

theorem binaryInputStart_sets (hrst : s.mgt.rst = false) (hon : s.binOn n = true) (hvalid : (s.bin n).valid = false) (level : Bool) :
    exec (.binaryInputStart n level) s = .next (s.setBin n { s.bin n with state := level, raw := level, valid := true }) := by
  have hstart : s.binStable n level = s.setBin n { s.bin n with state := level, raw := level, valid := true } := by
    simp only [State.binStable, hon, hvalid, Bool.not_false, Bool.and_self, if_true]
  exact exec_main rfl hrst hstart

/-- The state in which an edge of an input has been taken and counted. -/
def State.edged (u : State) (n : Nat) (x : BinIn) : State := (u.setBin n x).bump .BIN_CNT_EDGE_n n

/-- An edge of a valid input is taken at its time, and is an event. -/
theorem State.binChange_eq (hon : s.binOn n = true) (hvalid : (s.bin n).valid = true) (t : Nat) : s.binChange n t =
    ((s.reach t).edged n ((s.bin n).inverted (t / 256 * 256))).event (srcOf 1 n) (t / 256 * 256) (some (!(s.bin n).state)) 0 := by
  simp only [State.binChange, hon, hvalid, Bool.and_self, if_true, State.edged, BinIn.inverted]

theorem edge_unlogged (n : Fin 32) : unlogged (RegId.off .BIN_CNT_EDGE_n n 0) ∧
    RegId.off .BIN_CNT_EDGE_n n 0 ≠ RegId.off .EVT_CNT_EVENTS 0 0 := by
  simp only [unlogged, RegId.off, RegId.row]
  omega

theorem binaryInputChange_edge (hrst : s.mgt.rst = false) (hon : s.binOn n = true) (hvalid : (s.bin n).valid = true) {t : Nat} {u : State}
    (hu : u = s.reach t) : ∃ v, exec (.binaryInputChange n t) s = .next v ∧ v.bin n = (s.bin n).inverted (t / 256 * 256) ∧
      v.rd .BIN_CNT_EDGE_n n = satInc (s.rd .BIN_CNT_EDGE_n n) ∧ KMap.agreeBut s.bins v.bins [n.val] ∧
      (s.evtOn = false → { v with bins := s.bins, regs := s.regs } = u) ∧
      (s.evtOn = true → v.rd .EVT_CNT_EVENTS = satInc (s.rd .EVT_CNT_EVENTS) ∧ v.ev.nextId = s.ev.nextId + 1 ∧
        ∀ g : Fin 8, (v.grp g).trigs = (s.grp g).trigs ++ u.newTrigs g (srcOf 1 n) (t / 256 * 256)
          (t / 256 * 256 + 40 * 256) (some (!(s.bin n).state)) s.ev.nextId) := by
  subst hu
  obtain ⟨hedge, hevents⟩ := edge_unlogged n
  obtain ⟨tb, hsrc⟩ := s.reach_sources t
  have hbins : (s.reach t).bins = s.bins := congrArg Sources.bins hsrc
  have hrd : ∀ {r : RegId} {i j : Nat}, unlogged (r.off i j) → (s.reach t).rd r i j = s.rd r i j := fun ho => State.rd_of_sources hsrc ho
  have hkeeps := ((s.reach t).edged n ((s.bin n).inverted (t / 256 * 256))).event_keeps (srcOf 1 n) (t / 256 * 256)
    (some (!(s.bin n).state)) 0 0
  obtain ⟨hvbins, hvregs⟩ := hkeeps
  have hcount : ((s.reach t).edged n ((s.bin n).inverted (t / 256 * 256))).rd .BIN_CNT_EDGE_n n = satInc (s.rd .BIN_CNT_EDGE_n n) := by
    rw [← hrd hedge]
    exact State.rd_wr_same (s.reach t) .BIN_CNT_EDGE_n n 0 _
  have hrun : ((s.reach t).edged n ((s.bin n).inverted (t / 256 * 256))).evtOn = s.evtOn := by
    refine congrArg (bit · 9) ((State.rd_wr_ne (s.reach t) _ ?_).trans (hrd ?_)) <;>
      · simp only [unlogged, RegId.off, RegId.row]
        omega
  refine ⟨_, exec_main rfl hrst (State.binChange_eq hon hvalid t), ?_, ?_, ?_, fun hoff => ?_, fun hevt => ?_⟩
  · rw [State.bin, hvbins]
    exact State.bin_setBin_same _ _ _
  · rw [← hcount]
    simp only [State.rd, KMap.getD, hvregs _ hedge hevents]
  · rw [hvbins, ← hbins]
    exact fun j hj => KMap.find?_insert_ne _ _ (by simpa using hj)
  · obtain ⟨tb', hreach⟩ := State.reach_off hoff t
    rw [State.event_off (hrun.trans hoff), hreach]
    rfl
  · obtain ⟨htrigs, hid, -, -, -, hevt, -⟩ := State.event_fires (hrun.trans hevt) (srcOf 1 n) (t / 256 * 256) (some (!(s.bin n).state)) 0 0
    have hnext : ((s.reach t).edged n ((s.bin n).inverted (t / 256 * 256))).ev.nextId = s.ev.nextId := congrArg Sources.nextId hsrc
    refine ⟨?_, ?_, fun g => ?_⟩
    · rw [hevt]
      refine congrArg satInc ((State.rd_wr_ne (s.reach t) _ ?_).trans (hrd ?_))
      · exact Ne.symm hevents
      · unfold unlogged; decide
    · rw [hid, hnext]
    · have hgrp : ((s.reach t).edged n ((s.bin n).inverted (t / 256 * 256))).grp g = s.grp g := State.grp_of_sources hsrc g
      have hnew := State.newTrigs_congr (s := s.reach t) (p := (s.reach t).edged n ((s.bin n).inverted (t / 256 * 256))) (g := g) rfl rfl
        (fun i hi => State.rd_wr_ne (s.reach t) _ (by simp only [RegId.off, RegId.row]; omega)) (srcOf 1 n) (t / 256 * 256)
        (t / 256 * 256 + 40 * 256) (some (!(s.bin n).state)) s.ev.nextId
      rw [htrigs, hnext, hgrp, hnew]

end

/-! ### Direct writes of the event block -/

theorem KMap.agreeBut.mono {α : Type} {m m' : KMap α} {ks ks' : List Nat} (h : KMap.agreeBut m m' ks) (hs : ks ⊆ ks') :
    KMap.agreeBut m m' ks' := fun j hj => h j fun hk => hj (hs hk)

/-- The registers of the event block that act as they are written. -/
def eventRegs : List RegId := [.EVT_SOFT, .EVT_TM_CTL_k]

theorem at?_event {r : RegId} (hr : r ∈ eventRegs) {i : Nat} (hi : i < r.row.n1) :
    RegId.at? (r.off i 0) = some (r, i, 0) ∧ regOffset (r.off i 0) = true := by
  have hall : ∀ r ∈ eventRegs, ∀ i < 8, i < r.row.n1 → RegId.at? (r.off i 0) = some (r, i, 0) ∧ regOffset (r.off i 0) = true := by
    decide +kernel
  have h8 : ∀ r ∈ eventRegs, r.row.n1 ≤ 8 := by decide
  exact hall r hr i (hi.trans_le (h8 r hr)) hi

/-- A permitted write of a register of the event block takes effect at once. -/
theorem State.directWrite_event {s : State} {r : RegId} (hr : r ∈ eventRegs) {i : Nat} (hi : i < r.row.n1) {v : Word}
    (hok : r = .EVT_TM_CTL_k → bit v 0 = true → s.tmArmOk i = true) :
    s.directWrite (r.off i 0) v = s.writeNow false none (r, i, 0) v := by
  obtain ⟨hat, hoff⟩ := at?_event hr hi
  have hcause : s.writeCause false (r.off i 0) v = none := by
    simp only [eventRegs, List.mem_cons, List.not_mem_nil, or_false] at hr
    rcases hr with rfl | rfl
    · simp [State.writeCause, hat, RegId.row, State.notPermitted, RegId.q8, touches, State.gainDenied, State.routeMoves,
        State.requestPending]
    · simp only [forall_const] at hok
      simp [State.writeCause, hat, RegId.row, State.notPermitted, touches, State.gainDenied, State.routeMoves,
        State.requestPending]
      exact hok
  rw [State.directWrite_taken hoff hat hcause]
  simp only [eventRegs, List.mem_cons, List.not_mem_nil, or_false] at hr
  rcases hr with rfl | rfl <;>
    simp [State.directTaken, State.writeCfg, State.stageGroup, RegId.row, State.confineAt, hat]

/-! ### Soft events (R200) -/

/-- Where only the step for `k` can act, the steps are that one. -/
theorem foldl_range_one {σ : Type} {f : σ → Nat → σ} {k : Nat} (h : ∀ s j, j ≠ k → f s j = s) {n : Nat} (hk : k < n) (s : σ) :
    (List.range n).foldl f s = f s k := by
  induction n with
  | zero => cases hk
  | succ n ih =>
    rw [List.range_succ, List.foldl_append, List.foldl_cons, List.foldl_nil]
    by_cases hn : k = n
    · rw [hn, foldl_fixed fun j hj => h s j (by rw [hn]; exact Nat.ne_of_lt (List.mem_range.mp hj))]
    · rw [ih (by omega), h _ _ (Ne.symm hn)]

theorem exec_hostSoftEvent {s : State} (hrst : s.mgt.rst = false) (v : Word) :
    exec (.hostSoftEvent v) s = .next (s.softEvents v) :=
  exec_main rfl hrst (State.directWrite_event (r := .EVT_SOFT) (i := 0) (by decide) (by decide) (by intro h; cases h))

/-- Bit `k` of EVT_SOFT alone raises soft event `k`. -/
theorem State.softEvents_one (s : State) (k : Fin 32) :
    s.softEvents (mkW (2 ^ k.val)) = s.event (srcOf 8 k) (s.now / 256 * 256) none 0 := by
  have hbit : ∀ j, bit (mkW (2 ^ k.val)) j = decide (j = k.val) := fun j => by
    rw [bit_mkW, Nat.testBit_two_pow]
    by_cases hj : j = k.val
    · simp [hj]
    · simp [hj, Ne.symm hj]
  refine (foldl_range_one (k := k) (fun s j hj => ?_) k.isLt s).trans ?_
  · rw [hbit, decide_eq_false hj, if_neg Bool.false_ne_true]
  · rw [hbit, decide_eq_true rfl, if_pos rfl]

theorem hostSoftEvent_fires {s : State} (hrst : s.mgt.rst = false) (k : Fin 32) (hon : s.evtOn = true) :
    ∃ v, exec (.hostSoftEvent (mkW (2 ^ k.val))) s = .next v ∧ v.rd .EVT_CNT_EVENTS = satInc (s.rd .EVT_CNT_EVENTS) ∧
      v.ev.nextId = s.ev.nextId + 1 ∧ ∀ g : Fin 8, (v.grp g).trigs = (s.grp g).trigs ++
        s.newTrigs g (srcOf 8 k) (s.now / 256 * 256) (s.now / 256 * 256 + 40 * 256) none s.ev.nextId := by
  obtain ⟨htrigs, hid, -, -, -, hcount, -⟩ := State.event_fires hon (srcOf 8 k) (s.now / 256 * 256) none 0 0
  exact ⟨_, (exec_hostSoftEvent hrst _).trans (congrArg Host.Outcome.next (s.softEvents_one k)), hcount, hid, htrigs⟩

theorem hostSoftEvent_off {s : State} (hrst : s.mgt.rst = false) (hoff : s.evtOn = false) (w : Word) :
    exec (.hostSoftEvent w) s = .next s := by
  refine (exec_hostSoftEvent hrst w).trans (congrArg Host.Outcome.next (foldl_fixed fun k _ => ?_))
  rw [State.event_off hoff, ite_self]

/-! ### Time matches (R207) -/

section
variable {s : State} (hrst : s.mgt.rst = false) (k : Fin 8)
include hrst

theorem exec_timeMatchArm {on : Bool} (hok : on = true → s.tmArmOk k = true) :
    exec (.timeMatchArm k on) s = .next (s.tmArm k on) := by
  have hbit : ∀ w : Word, bit (setBit w 0 on) 0 = on := fun w => bit_setBit_same (by decide) w on
  have hwrite : s.directBit .EVT_TM_CTL_k k 0 on = s.tmArm k on := by
    rw [State.directBit, State.directWrite_event (r := .EVT_TM_CTL_k) (by decide) k.isLt fun _ h => hok ((hbit _).symm.trans h)]
    have hmask : bit (setBit (s.rd .EVT_TM_CTL_k k) 0 on &&& mkW RegId.EVT_TM_CTL_k.row.mask) 0 = on :=
      (bit_and_mask (by decide) (by decide) _).trans (hbit _)
    simp only [State.writeNow, hmask]
  exact exec_main rfl hrst hwrite

omit hrst in
/-- ARM of a time match as it has been written. -/
theorem State.wrb_arm (on : Bool) : (s.wrb .EVT_TM_CTL_k k 0 0 on).rb .EVT_TM_CTL_k k 0 0 = on :=
  (congrArg (bit · 0) (State.rd_wr_same s .EVT_TM_CTL_k k 0 _)).trans (bit_setBit_same (by decide) _ _)

omit hrst in
theorem State.tmTime_congr {p : State} (hlo : p.rd .EVT_TM_LO_k k = s.rd .EVT_TM_LO_k k) (hhi : p.rd .EVT_TM_HI_k k = s.rd .EVT_TM_HI_k k)
    (hxhi : p.rd .EVT_TM_XHI_k k = s.rd .EVT_TM_XHI_k k) : p.tmTime k = s.tmTime k := by
  simp only [State.tmTime, State.rf, hlo, hhi, hxhi]

omit hrst in
/-- A write of ARM is no write of a match time, nor of a running bit. -/
theorem State.tmTime_wrb (on : Bool) : (s.wrb .EVT_TM_CTL_k k 0 0 on).tmTime k = s.tmTime k ∧
    (s.wrb .EVT_TM_CTL_k k 0 0 on).evtOn = s.evtOn := by
  have hrd : ∀ {r : RegId} {i : Nat}, r.off i 0 ≠ RegId.off .EVT_TM_CTL_k k 0 →
      (s.wrb .EVT_TM_CTL_k k 0 0 on).rd r i = s.rd r i := fun h => State.rd_wr_ne s _ h
  refine ⟨State.tmTime_congr k (hrd ?_) (hrd ?_) (hrd ?_), congrArg (bit · 9) (hrd ?_)⟩ <;>
    · simp only [RegId.off, RegId.row]
      omega

omit hrst in
/-- ARM judges a match where its ARM starts. -/
theorem State.tmArm_judges (hold : s.rb .EVT_TM_CTL_k k 0 0 = false) : s.tmArm k true =
    if s.evtOn = true ∧ s.tmTime k ≤ s.now then
      { s.wrb .EVT_TM_CTL_k k 0 0 true with ev := { s.ev with tmPast := setBit s.ev.tmPast k true } }.bump .EVT_CNT_TM_PAST
    else s.wrb .EVT_TM_CTL_k k 0 0 true := by
  obtain ⟨htime, hrun⟩ := State.tmTime_wrb (s := s) k true
  have harm : s.tmArm k true = (s.wrb .EVT_TM_CTL_k k 0 0 true).tmJudge k := by
    simp only [State.tmArm, hold, Bool.not_false, Bool.and_self, if_true]
  rw [harm, State.tmJudge, htime, hrun, State.wrb_arm]
  refine if_congr ?_ rfl rfl
  simp only [Bool.and_true, Bool.and_eq_true, decide_eq_true_eq]
  rfl

/-- A match that is armed when its time has come is past, and counts. -/
theorem timeMatchArm_sets (hold : s.rb .EVT_TM_CTL_k k 0 0 = false) (hok : s.tmArmOk k = true) :
    ∃ v, exec (.timeMatchArm k true) s = .next v ∧ v.rb .EVT_TM_CTL_k k 0 0 = true ∧
      (s.evtOn = true → s.tmTime k ≤ s.now → bit v.ev.tmPast k = true ∧ v.rd .EVT_CNT_TM_PAST = satInc (s.rd .EVT_CNT_TM_PAST)) ∧
      (s.evtOn = false ∨ s.now < s.tmTime k → v.ev = s.ev) ∧ v.ev.tmFired = s.ev.tmFired ∧ { v with regs := s.regs, ev := s.ev } = s ∧
      KMap.agreeBut s.regs v.regs [RegId.off .EVT_TM_CTL_k k 0, RegId.off .EVT_CNT_TM_PAST 0 0] := by
  have hne : RegId.off .EVT_TM_CTL_k k 0 ≠ RegId.off .EVT_CNT_TM_PAST 0 0 := by
    simp only [RegId.off, RegId.row]
    omega
  have hctl : KMap.agreeBut s.regs (s.wrb .EVT_TM_CTL_k k 0 0 true).regs
      [RegId.off .EVT_TM_CTL_k k 0, RegId.off .EVT_CNT_TM_PAST 0 0] :=
    (s.wr_agreeBut .EVT_TM_CTL_k k 0 _).mono (by simp)
  refine ⟨_, (exec_timeMatchArm hrst k fun _ => hok).trans (congrArg Host.Outcome.next (State.tmArm_judges k hold)), ?_⟩
  have hset := State.wrb_arm (s := s) k true
  have hcnt : (s.wrb .EVT_TM_CTL_k k 0 0 true).rd .EVT_CNT_TM_PAST = s.rd .EVT_CNT_TM_PAST := State.rd_wr_ne s _ (Ne.symm hne)
  have hev : (s.wrb .EVT_TM_CTL_k k 0 0 true).ev = s.ev := rfl
  have hframe : { s.wrb .EVT_TM_CTL_k k 0 0 true with regs := s.regs, ev := s.ev } = s := rfl
  generalize s.wrb .EVT_TM_CTL_k k 0 0 true = w at hctl hset hcnt hev hframe
  split
  case isTrue hpast =>
    obtain ⟨hon, htime⟩ := hpast
    refine ⟨(congrArg (bit · 0) (State.rd_wr_ne w _ hne)).trans hset, fun _ _ => ⟨bit_setBit_same (by omega) _ _, ?_⟩, fun hn => ?_, rfl,
      hframe, KMap.agreeBut_trans hctl ((w.wr_agreeBut .EVT_CNT_TM_PAST 0 0 _).mono (by simp))⟩
    · exact (State.rd_wr_same w .EVT_CNT_TM_PAST 0 0 _).trans (congrArg satInc hcnt)
    · rcases hn with hn | hn
      · rw [hon] at hn
        cases hn
      · omega
  case isFalse hpast =>
    exact ⟨hset, fun hon htime => absurd ⟨hon, htime⟩ hpast, fun _ => hev, congrArg Events.tmFired hev, hframe, hctl⟩

theorem timeMatchArm_clears (hold : s.rb .EVT_TM_CTL_k k 0 0 = true) :
    ∃ v, exec (.timeMatchArm k false) s = .next v ∧ v.rb .EVT_TM_CTL_k k 0 0 = false ∧
      bit v.ev.tmFired k = false ∧ bit v.ev.tmPast k = false ∧ { v with regs := s.regs, ev := s.ev } = s ∧
      KMap.agreeBut s.regs v.regs [RegId.off .EVT_TM_CTL_k k 0] := by
  have harm : s.tmArm k false = (s.wrb .EVT_TM_CTL_k k 0 0 false).tmDisarm k := by
    simp only [State.tmArm, hold, Bool.false_and, Bool.not_false, Bool.and_self, Bool.false_eq_true, if_false, if_true]
  refine ⟨_, (exec_timeMatchArm hrst k (by intro h; cases h)).trans (congrArg Host.Outcome.next harm), State.wrb_arm k false, ?_, ?_, rfl,
    s.wr_agreeBut .EVT_TM_CTL_k k 0 _⟩
  · exact bit_setBit_same (by omega) _ _
  · exact bit_setBit_same (by omega) _ _

theorem timeMatch_idle (hopen : s.tmOpen k = false) : exec (.timeMatch k) s = .next s := by
  refine exec_main rfl hrst ?_
  simp only [State.timeMatch, hopen, Bool.false_eq_true, if_false]

omit hrst in
theorem tmRegs_unlogged : unlogged (RegId.off .EVT_TM_CTL_k k 0) ∧ unlogged (RegId.off .EVT_TM_LO_k k 0) ∧
    unlogged (RegId.off .EVT_TM_HI_k k 0) ∧ unlogged (RegId.off .EVT_TM_XHI_k k 0) := by
  simp only [unlogged, RegId.off, RegId.row]
  omega

/-- A match whose time is reached fires once. -/
theorem timeMatch_fires (hopen : s.tmOpen k = true) (htime : s.tmTime k ≤ (s.reach (s.tmTime k)).now) :
    ∃ v, exec (.timeMatch k) s = .next v ∧ v.now = (s.reach (s.tmTime k)).now ∧ bit v.ev.tmFired k = true ∧
      v.tmOpen k = false ∧ v.rd .EVT_CNT_EVENTS = satInc (s.rd .EVT_CNT_EVENTS) := by
  obtain ⟨tb, hsrc⟩ := s.reach_sources (s.tmTime k)
  obtain ⟨-, hlo, hhi, hxhi⟩ := tmRegs_unlogged k
  have hat : (s.reach (s.tmTime k)).tmTime k = s.tmTime k :=
    State.tmTime_congr k (State.rd_of_sources hsrc hlo) (State.rd_of_sources hsrc hhi) (State.rd_of_sources hsrc hxhi)
  have hmatch : s.timeMatch k = (s.reach (s.tmTime k)).tmFire k (s.tmTime k) 0 := by
    simp only [State.timeMatch, hopen, if_true, hat, htime]
  have hon : (s.reach (s.tmTime k)).evtOn = true := by
    simp only [State.tmOpen, Bool.and_eq_true] at hopen
    obtain ⟨⟨⟨hon, -⟩, -⟩, -⟩ := hopen
    exact (congrArg (bit · 9) (State.rd_of_sources hsrc (by unfold unlogged; decide))).trans hon
  have hcnt : (s.reach (s.tmTime k)).rd .EVT_CNT_EVENTS = s.rd .EVT_CNT_EVENTS :=
    State.rd_of_sources hsrc (by unfold unlogged; decide)
  generalize s.reach (s.tmTime k) = u at hmatch hon hcnt
  obtain ⟨-, -, hfired, htb, -, hcount, -⟩ := State.event_fires
    (s := { u with ev := { u.ev with tmFired := setBit u.ev.tmFired k true } }) hon (srcOf 6 k) (s.tmTime k) none 0 0
  have hbit : bit (u.tmFire k (s.tmTime k) 0).ev.tmFired k = true :=
    (congrArg (bit · k.val) hfired).trans (bit_setBit_same (by omega) _ _)
  refine ⟨_, exec_main rfl hrst hmatch, congrArg Timebase.now htb, hbit, ?_, hcount.trans (congrArg satInc hcnt)⟩
  simp only [State.tmOpen, hbit, Bool.not_true, Bool.and_false, Bool.false_and]

end

/-- Settles O41: each source is computed to the edge, the bounce, the event or the ARM that it comes to; what an event adds to every group
is `State.event_fires`. -/
theorem eventSources : Obligations.EventSources := by
  unfold Obligations.EventSources
  intro s hrst
  refine ⟨fun n t u hu => ⟨fun hoff => binaryInput_off hrst hoff t, fun hon hvalid => ⟨bounce_counts hrst hon hvalid,
      binaryInputChange_edge hrst hon hvalid hu⟩, fun level hon hvalid => binaryInputStart_sets hrst hon hvalid level⟩,
    hostSoftEvent_fires hrst, hostSoftEvent_off hrst, fun k => ⟨timeMatchArm_sets hrst k, timeMatchArm_clears hrst k, timeMatch_idle hrst k,
      timeMatch_fires hrst k⟩⟩

end Sys2Proof.Machine
end
section
/-!
PROOF. Safe state and the groups that stop with it leave the island alone (R427 to R430, R452).
-/
namespace Sys2Proof.Machine

theorem State.mgt_aside : State.Aside State.mgt := ⟨fun _ => rfl, fun _ _ => rfl, fun _ _ => rfl, fun _ _ => rfl, fun _ _ => rfl,
  fun _ _ _ => rfl⟩

/-! ### Logs and replies -/

theorem State.logErr_mgt (s : State) (cls blk inst code status d0 d1 : Nat) :
    (s.logErr cls blk inst code status d0 d1).mgt = s.mgt := by
  unfold State.logErr State.logErrAt
  refine State.same_ite State.mgt ?_ rfl
  exact State.same_ite State.mgt ((State.mgt_aside.irqIf _ _ _ _).trans (State.same_ite State.mgt rfl rfl))
    (State.same_ite State.mgt rfl rfl)

theorem State.decide1_mgt (s : State) (c : CmdRef) (status : Nat) (result : List Word) (dev : Nat) :
    (s.decide1 c status result dev).mgt = s.mgt := by
  unfold State.decide1
  dsimp only
  split
  · rfl
  · exact State.same_ite State.mgt rfl rfl

theorem State.bcastTry_mgt (s : State) (num : Nat) : (s.bcastTry num).mgt = s.mgt := by
  unfold State.bcastTry
  split
  · exact State.same_ite State.mgt (State.decide1_mgt _ _ _ _ _) rfl
  · rfl

theorem State.finish_mgt (s : State) (c : CmdRef) (status : Nat) (result : List Word) : (s.finish c status result).mgt = s.mgt := by
  unfold State.finish
  split
  · exact State.same_ite State.mgt rfl (State.bcastTry_mgt _ _)
  · exact State.decide1_mgt _ _ _ _ _

theorem State.finishOpt_mgt (s : State) (c : Option CmdRef) (status : Nat) (result : List Word) :
    (s.finishOpt c status result).mgt = s.mgt := by
  unfold State.finishOpt
  split
  · exact s.finish_mgt _ _ _
  · rfl

theorem State.dropTrig_mgt (s : State) (g : Nat) (y : Trig) : (s.dropTrig g y).mgt = s.mgt := by
  unfold State.dropTrig State.resolveEv
  refine State.same_ite State.mgt (s.finishOpt_mgt _ _ _) ?_
  split <;> rfl

/-! ### Outputs -/

theorem State.dacRamp_mgt (s : State) (d g : Nat) : (s.dacRamp d g).mgt = s.mgt := State.same_ite State.mgt rfl rfl

theorem State.dacGain_mgt (s : State) (d : Nat) : (s.dacGain d).mgt = s.mgt := by
  unfold State.dacGain
  dsimp only
  split
  · exact State.same_ite State.mgt rfl rfl
  · rfl
  · exact State.same_ite State.mgt rfl rfl

theorem State.chanStop_mgt (s : State) (c g : Nat) (ramp : Bool) : (s.chanStop c g ramp).mgt = s.mgt := by
  unfold State.chanStop
  refine (State.foldl_same State.mgt (f := fun s d => if s.dacSrc d = some c then (if ramp then s.dacRamp d g else s.dacMid d) else s)
    (fun s d => ?_) _ _).trans (State.foldl_same State.mgt (fun s k => ?_) _ s)
  · exact State.same_ite State.mgt (State.same_ite State.mgt (s.dacRamp_mgt d g) rfl) rfl
  · unfold State.cwStop
    exact State.same_ite State.mgt (State.mgt_aside.irqIf _ _ _ _) rfl

theorem State.mkLow_mgt (s : State) (m : Nat) : (s.mkLow m).mgt = s.mgt := State.same_ite State.mgt rfl rfl

theorem State.markersLow_mgt (s : State) (g : Nat) : (s.markersLow g).mgt = s.mgt :=
  State.foldl_same State.mgt (fun s m => State.same_ite State.mgt (s.mkLow_mgt m) rfl) _ s

theorem State.rampsMid_mgt (s : State) (g : Nat) : (s.rampsMid g).mgt = s.mgt := by
  refine State.foldl_same State.mgt (fun s d => ?_) _ s
  split
  · exact State.same_ite State.mgt rfl rfl
  · rfl

theorem State.lanesStop_mgt (s : State) (g : Nat) : (s.lanesStop g).mgt = s.mgt := by
  refine State.foldl_same State.mgt (fun s n => ?_) _ s
  exact State.same_ite State.mgt rfl rfl

theorem State.settlePairs_mgt (s : State) (t : Nat) : (s.settlePairs t).mgt = s.mgt := by
  refine State.foldl_same State.mgt (fun s k => ?_) _ s
  unfold State.settlePair
  exact State.same_ite State.mgt (State.same_ite State.mgt rfl rfl) rfl

theorem State.outputsStop_mgt (s : State) (g : Nat) (ramp : Bool) : (s.outputsStop g ramp).mgt = s.mgt := by
  have hchans : ((s.chansOf g).foldl (fun s c => s.chanStop c g ramp) s).mgt = s.mgt :=
    State.foldl_same State.mgt (fun s c => s.chanStop_mgt c g ramp) _ s
  have hgrp : ∀ (p : State) (f : Group → Group), (p.modGrp g f).mgt = p.mgt := fun _ _ => rfl
  unfold State.outputsStop
  dsimp only
  rw [State.settlePairs_mgt, State.markersLow_mgt, State.lanesStop_mgt, hgrp]
  exact State.same_ite State.mgt hchans ((State.rampsMid_mgt _ g).trans hchans)

/-! ### Commits (R188) -/

theorem State.applyRoute_mgt (s : State) (d : Nat) (val : Word) : (s.applyRoute d val).mgt = s.mgt := by
  have hwr : (s.wr .OUT_DAC_SRC_d d 0 val).mgt = s.mgt := rfl
  unfold State.applyRoute
  dsimp only
  split
  · exact (State.dacRamp_mgt _ _ _).trans hwr
  · exact hwr
  · exact (State.dacGain_mgt _ _).trans hwr
  · exact State.same_ite State.mgt hwr ((State.dacRamp_mgt _ _ _).trans hwr)

theorem State.applyStaged_mgt (s : State) (off : Nat) (val : Word) : (s.applyStaged off val).mgt = s.mgt := by
  unfold State.applyStaged
  split
  · rfl
  · dsimp only
    split
    case h_1 => exact State.applyRoute_mgt _ _ _
    case h_8 => rfl
    all_goals exact State.same_ite State.mgt rfl rfl

theorem State.confineAt_mgt (s : State) (off : Nat) : (s.confineAt off).mgt = s.mgt := by
  unfold State.confineAt
  split <;> rfl

theorem State.applySet_mgt (s : State) (g : Nat) (x : StageSet) (t status : Nat) : (s.applySet g x t status).mgt = s.mgt := by
  have hwrites : (s.applyWrites x.writes).mgt = s.mgt :=
    (State.foldl_same State.mgt (f := fun s (w : Nat × Word) => s.confineAt w.1) (fun s w => s.confineAt_mgt w.1) _ _).trans
      (State.foldl_same State.mgt (f := fun s (w : Nat × Word) => s.applyStaged w.1 w.2) (fun s w => s.applyStaged_mgt w.1 w.2) _ s)
  unfold State.applySet
  dsimp only
  split
  · rw [State.finishOpt_mgt, State.logErr_mgt]
    rfl
  · have hset : (x.entries.foldl (fun s e => s.setEntry g e.1 e.2) ((s.applyWrites x.writes).takeStep g x.writes)).mgt = s.mgt :=
      (State.foldl_same State.mgt (f := fun s (e : Nat × List Word) => s.setEntry g e.1 e.2) (fun _ _ => rfl) _ _).trans
        (State.same_ite State.mgt hwrites hwrites)
    exact State.same_ite State.mgt hset ((State.finishOpt_mgt _ _ _ _).trans hset)

theorem State.commitAll_mgt (s : State) (g t : Nat) : (s.commitAll g t).mgt = s.mgt := by
  have hzero : ∀ p : State, ((p.zeroStep g).modGrp g fun y => { y with cF := none, cD := none, cStep := 0, bnd := none }).mgt = p.mgt :=
    fun p => State.same_ite State.mgt rfl rfl
  have hsets : ∀ (l : List StageSet) (p : State), (l.foldl (fun s y => s.applySet g y t stOK) p).mgt = p.mgt :=
    State.foldl_same State.mgt fun s y => s.applySet_mgt g y t stOK
  unfold State.commitAll
  dsimp only
  rw [hzero]
  refine (State.foldl_same State.mgt (fun s c => State.same_ite State.mgt rfl (s.finishOpt_mgt _ _ _)) _ _).trans ?_
  exact State.same_ite State.mgt (hsets _ _) ((State.applySet_mgt _ _ _ _ _).trans (hsets _ _))

/-! ### Changes that wait for groups to stop -/

theorem State.drmSettle_mgt (s : State) : s.drmSettle.mgt = s.mgt := by
  have hrun : ∀ p : State, p.drmRun.mgt = p.mgt := fun p => by
    unfold State.drmRun State.mapMake
    exact State.same_ite State.mgt rfl rfl
  have hstart : ∀ p : State, p.drmStart.mgt = p.mgt := fun p =>
    State.same_ite State.mgt rfl (State.same_ite State.mgt (hrun p) rfl)
  have hstop : ∀ p : State, p.drmStop.mgt = p.mgt := fun p => by
    have h : (if p.drmOn && !p.drm.selfref then p.bump .DRM_CNT_SR else p).mgt = p.mgt := State.same_ite State.mgt rfl rfl
    exact h
  unfold State.drmSettle
  exact State.same_ite State.mgt (hstart _) (hstop _)

theorem State.dacBlock_mgt (s : State) (on : Bool) : (s.dacBlock on).mgt = s.mgt := by
  have hoff : ∀ p : State, ((p.setRunning 6 false).wrb .DAC_STATUS 0 0 1 false).mgt = p.mgt := fun _ => rfl
  unfold State.dacBlock
  refine State.same_ite State.mgt (State.same_ite State.mgt rfl rfl) ?_
  rw [hoff]
  exact State.foldl_same State.mgt (f := fun s d => State.dacMid s d) (fun _ _ => rfl) (List.range 32) s

theorem State.enTake_mgt (s : State) (b : Nat) : (s.enTake State.dacBlock b).mgt = s.mgt := by
  unfold State.enTake
  exact State.same_ite State.mgt rfl (State.same_ite State.mgt (s.dacBlock_mgt _) rfl)

theorem State.settleEnables_mgt (s : State) : (s.settleEnables State.dacBlock).mgt = s.mgt := by
  have hplls : ((List.range 2).foldl (fun s x => if (s.pll x).stopPending && !s.anyOn x then (s.pllStop x).slackRestart else s) s).mgt =
      s.mgt := by
    refine State.foldl_same State.mgt (fun s x => ?_) _ s
    exact State.same_ite State.mgt rfl rfl
  have htaken : ∀ q : State, (q.enWait.foldl (fun s b => State.enTake s State.dacBlock b) { q with enWait := [] }).mgt = q.mgt := fun q =>
    State.foldl_same State.mgt (f := fun s b => s.enTake State.dacBlock b) (fun s b => s.enTake_mgt b) q.enWait { q with enWait := [] }
  unfold State.settleEnables
  dsimp only
  generalize (List.range 2).foldl (fun s x => if (s.pll x).stopPending && !s.anyOn x then (s.pllStop x).slackRestart else s) s = p at hplls ⊢
  have hq : (if p.tb.stopPending then p.pllAStop else p).mgt = s.mgt := State.same_ite State.mgt hplls hplls
  refine State.same_ite State.mgt hplls ?_
  exact State.same_ite State.mgt ((State.drmSettle_mgt _).trans ((htaken _).trans hq)) ((htaken _).trans hq)

/-! ### Stops and safe state (R193, R452) -/

theorem State.stopOne_mgt (s : State) (g t : Nat) (ramp : Bool) : (s.stopOne g t ramp).mgt = s.mgt := by
  have hafter : ∀ p : State, (p.afterStop g ramp).mgt = p.mgt := fun p => by
    have hsettle : ∀ u : State, u.exclSettle.mgt = u.mgt := fun u => State.same_ite State.mgt rfl rfl
    have hslack : ∀ u : State, u.slackRestart.mgt = u.mgt := fun _ => rfl
    rw [State.afterStop, hsettle, hslack, State.settleEnables_mgt, State.mgt_aside.flushLog, State.outputsStop_mgt]
  have hgrp : ∀ (p : State) (f : Group → Group), (p.modGrp g f).mgt = p.mgt := fun _ _ => rfl
  unfold State.stopOne
  refine (hafter _).trans ?_
  rw [hgrp, State.finishOpt_mgt, State.finishOpt_mgt]
  refine (State.foldl_same State.mgt (f := fun (s : State) (y : StopReq) => s.finishOpt y.cmd stOK (timeWords t))
    (fun s _ => s.finishOpt_mgt _ _ _) _ _).trans ?_
  exact (State.foldl_same State.mgt (fun s y => s.dropTrig_mgt g y) _ _).trans (s.commitAll_mgt g t)

theorem State.stopGroup_mgt (s : State) (g t : Nat) (ramp : Bool) : (s.stopGroup g t ramp).mgt = s.mgt :=
  (State.foldl_same State.mgt (fun s h => State.same_ite State.mgt (s.stopOne_mgt h t ramp) rfl) _ _).trans (s.stopOne_mgt g t ramp)

/-- A crash record is written in registers alone. -/
theorem State.crash_eq (s : State) (cause : Nat) : ∃ regs, s.crash cause = { s with regs := regs } := by
  have hwrites : ∀ (f : Nat → Nat) (w : Nat → Word) (l : List Nat), ∃ regs,
      l.foldl (fun s i => s.wr .MGT_CRASH_i (f i) 0 (w i)) s = { s with regs := regs } := fun f w l =>
    List.foldlRecOn l _ (motive := fun p : State => ∃ regs, p = { s with regs := regs }) ⟨s.regs, rfl⟩
      fun p hp i _ => by
        obtain ⟨regs, rfl⟩ := hp
        exact ⟨_, rfl⟩
  unfold State.crash
  dsimp only
  obtain ⟨regs, h⟩ := hwrites (fun i => (s.rd .MGT_CRASH_SEQ).toNat % 4 * 16 + i) (fun i => mkW (leAt (crashBytes
    (s.rd .MGT_CRASH_SEQ).toNat cause s.mainDown (if s.mainDown then s.mgt.hb else s.vitals)) (4 * i) 4)) (List.range 16)
  rw [h]
  exact ⟨_, rfl⟩

theorem State.crash_mgt (s : State) (cause : Nat) : (s.crash cause).mgt = s.mgt := by
  obtain ⟨regs, h⟩ := s.crash_eq cause
  rw [h]

theorem State.svCatchUp_mgt (s : State) (t : Nat) : (s.svCatchUp t).mgt = s.mgt :=
  State.foldl_same State.mgt (fun _ _ => State.same_ite State.mgt (State.mgt_aside.svTo _ _ _ _) rfl) _ s

theorem State.safeEntry_mgt (s : State) (cause : Nat) : (s.safeEntry cause).mgt = s.mgt := by
  have hstops : ∀ p : State, ((List.range 8).foldl (fun s g => if (s.grp g).st.isRunning then s.stopGroup g s.now false else s)
      p).mgt = p.mgt :=
    State.foldl_same State.mgt (fun s g => State.same_ite State.mgt (s.stopGroup_mgt g s.now false) rfl) _
  have hdacs : ∀ p : State, ((List.range 32).foldl (fun s d => s.dacMid d) p).mgt = p.mgt :=
    State.foldl_same State.mgt (f := fun s d => s.dacMid d) (fun _ _ => rfl) _
  have hmarkers : ∀ p : State, ((List.range 16).foldl (fun s m => s.mkLow m) p).mgt = p.mgt :=
    State.foldl_same State.mgt State.mkLow_mgt _
  have hcount : ∀ p : State, (p.bump .ERR_CNT_SAFE).mgt = p.mgt := fun _ => rfl
  unfold State.safeEntry
  dsimp only
  rw [State.mgt_aside.irqIf, State.crash_mgt, State.logErr_mgt, hcount, State.settlePairs_mgt, hmarkers, hdacs, hstops,
    State.svCatchUp_mgt]

theorem State.safeCauseRaise_mgt (s : State) (cause : Nat) : (s.safeCauseRaise cause).mgt = s.mgt := by
  unfold State.safeCauseRaise
  exact State.same_ite State.mgt rfl (s.safeEntry_mgt cause)

/-- The safe request sets SAFE_REQ and changes nothing else of the island. -/
theorem State.safeRequest_mgt (s : State) : s.safeRequest.mgt = { s.mgt with safeReq := true } := by
  unfold State.safeRequest
  exact State.same_ite State.mgt rfl (State.safeCauseRaise_mgt _ 2)

end Sys2Proof.Machine
end
section
/-!
PROOF. The tables after the resets of the main side (R172, R430, R476).
-/
namespace Sys2Proof.Machine

/-! ### What the main reset leaves of the tables -/

/-- The main reset clears every table. -/
theorem State.assertReset_tables {s : State} (h : s.mgt.rst = false) : s.assertReset.tables = [] := by
  simp [State.assertReset, h, State.reset]

/-- RESET_MAIN resets a main side that is out of reset: the safe request before it does not assert the reset, and the crash record
after it does not write the tables. -/
theorem State.resetMainNow_tables {s : State} (h : s.mgt.rst = false) : s.resetMainNow.tables = [] := by
  have hrst : ((s.safeRequest).irqIf .MGT_INT 0 0).mgt.rst = false := by
    rw [State.mgt_aside.irqIf, State.safeRequest_mgt]
    exact h
  unfold State.resetMainNow
  obtain ⟨regs, hcrash⟩ := (((s.safeRequest).irqIf .MGT_INT 0 0).assertReset).crash_eq 4
  rw [hcrash]
  exact State.assertReset_tables hrst

/-- An entry of a table in which nothing has been written. -/
theorem State.entry_of_tables {s : State} (h : s.tables = []) (g e : Nat) : s.entry g e = resetEntry := by
  unfold State.entry
  rw [h]
  rfl

/-! ### The way of a RESET_MAIN packet through the island -/

theorem State.islandReset_tables {s : State} (hpwr : s.mgt.mainPwr = true) (hrst : s.mgt.rst = false) (c : Cmd) (b : List Byte) :
    (s.islandReset c b).tables = [] := by
  simp [State.islandReset, hpwr, State.resetMainNow_tables hrst]

/-- The island executes the RESET_MAIN that it takes. -/
theorem State.resetMain_of_islandTakes {s : State} {b : List Byte} (h : s.IslandTakes b 0x0103) (k : Nat) :
    s.resetMain 8 k b = s.islandReset (mkCmd 0 b 0 65536) b := by
  obtain ⟨hoff, hop, hisland, hchecks, hdest, hflags, hinflight8, hinflight, htag, hskips, hlen, hwindow, hrstCmds⟩ := h
  generalize hc : mkCmd 0 b 0 65536 = c at *
  have hnew : s.mgt.window.find? (fun (e : MgtEntry) => e.seq = c.hdr.seq) = none := by
    simpa [List.find?_eq_none] using hwindow
  have hfirst : (s.mgt.rstCmds.any fun p => packetSeq p = c.hdr.seq) = false := by
    simpa [List.any_eq_false] using hrstCmds
  have hrun : s.islandRun c b [] = s.islandReset c b := by
    simp [State.islandRun, hop, hlen, htag, hskips]
  calc s.resetMain 8 k b
      = s.mgtPacket b [] := by simp [State.resetMain, State.islandOr, hoff, hc, hop]
    _ = s.islandExec c b [] := by
        simp [State.mgtPacket, hc, hisland, hchecks, hdest, hflags, Nat.not_le.mpr hinflight8, Nat.not_le.mpr hinflight]
    _ = s.islandRun c b [] := by simp [State.islandExec, hnew, hfirst]
    _ = s.islandReset c b := hrun

/-- Settles O9: RST_N low and RESET_MAIN both assert the main reset, which leaves no entry written. -/
theorem tableAfterReset : Obligations.TableAfterReset := by
  unfold Obligations.TableAfterReset
  refine ⟨State.entry_of_tables rfl, fun s hrst => ?_, fun s k b htakes hpwr hrst => ?_, by decide, by decide, by decide, by decide,
    by decide⟩
  · have hdown : ({ s with mgt := { s.mgt with down := true } } : State).mgt.rst = false := hrst
    exact ⟨s.rstN true, rfl, State.entry_of_tables (State.assertReset_tables hdown)⟩
  · refine ⟨s.resetMain 8 k b, rfl, State.entry_of_tables ?_⟩
    rw [State.resetMain_of_islandTakes htakes]
    exact State.islandReset_tables hpwr hrst _ b

end Sys2Proof.Machine
end
section
/-!
PROOF. LOG_READ and CHAIN_EVENT_EXECUTION (R204, R205, R209, R210).
-/
namespace Sys2Proof.Machine

/-! ### LOG_READ (R210) -/

/-- The read pointer of the event log after `n` records from `first` on have been moved. -/
def State.logRdAfter (s : State) (first : Word) (n : Nat) (consume : Bool) : Word :=
  if consume && decide (0 < n ∧ (s.ev.wr - (first + mkW n)).toNat < (s.ev.wr - s.ev.rd).toNat) then first + mkW n else s.ev.rd

/-- The state in which `n` records from `first` on have been moved to host memory. -/
def State.logMoved (s : State) (addr : Nat) (first : Word) (n : Nat) (consume : Bool) : State :=
  { s with sent := if n = 0 then s.sent else .dma addr (s.logBytes first n) :: s.sent
           ev := { s.ev with rd := s.logRdAfter first n consume } }

/-- A LOG_READ that nothing refuses asks for records from `from_` on, to `addr` in host memory: `avail` have been written since, of those it
asks for `lost` are overwritten, and `n` are moved. -/
structure State.LogAsked (s : State) (c : Cmd) (count addr : Nat) (from_ : Word) (avail lost n : Nat) : Prop where
  count_eq : count = fld (wAt c.payload 1) 11 0
  addr_eq : addr = (join64 (wAt c.payload 2) (wAt c.payload 3)).toNat
  count_pos : 1 ≤ count
  count_le : count ≤ 2048
  reserved15 : fld (wAt c.payload 1) 15 12 = 0
  reserved31 : fld (wAt c.payload 1) 31 17 = 0
  aligned : addr % 64 = 0
  from_eq : from_ = if wAt c.payload 0 = 0xFFFFFFFF then s.ev.rd else wAt c.payload 0
  avail_eq : avail = (s.ev.wr - from_).toNat
  lost_eq : lost = min (min count avail) (avail - min avail s.ev.log.length)
  moved_eq : n = min count avail - lost

section
variable {s : State} {q : Fin 10} {k : Nat} {c : Cmd} (h : s.Runs q k 0x0802 c)
include h

theorem logRead_refused {count addr : Nat} (hcount : count = fld (wAt c.payload 1) 11 0)
    (haddr : addr = (join64 (wAt c.payload 2) (wAt c.payload 3)).toNat)
    (hbad : count = 0 ∨ 2048 < count ∨ fld (wAt c.payload 1) 15 12 ≠ 0 ∨ fld (wAt c.payload 1) 31 17 ≠ 0 ∨ addr % 64 ≠ 0) :
    ∃ t, exec (.logRead q k) s = .next t ∧ s.RepliedOnly t q k stBadParam [] := by
  subst hcount haddr
  have hread : s.logRead q k = (s.begun ⟨q, k⟩).finish ⟨q, k⟩ stBadParam [] := by
    rw [State.logRead, State.run_of_runs h]
    exact if_pos (by simpa [or_assoc] using hbad)
  exact ⟨_, exec_main rfl h.rst hread, State.finish_begun h _ _⟩

variable {count addr : Nat} {from_ : Word} {avail lost n : Nat} (hask : s.LogAsked c count addr from_ avail lost n)
include hask

theorem State.logRead_eq : s.logRead q k =
    if avail = 0 ∨ 2 ^ 31 < avail then (s.begun ⟨q, k⟩).finish ⟨q, k⟩ stOK [0, from_, 0]
    else ((s.begun ⟨q, k⟩).logMoved addr (from_ + mkW lost) n (bit (wAt c.payload 1) 16)).finish ⟨q, k⟩ stOK
      [mkW n, from_ + mkW lost, mkW lost] := by
  obtain ⟨rfl, rfl, hpos, hle, h15, h31, halign, hfrom, havail, hlost, hn⟩ := hask
  have hev : (s.begun ⟨q, k⟩).ev = s.ev := by
    obtain ⟨queues, tag, hp⟩ := h.begun_eq
    rw [hp]
    rfl
  rw [← hev] at hfrom havail hlost
  rw [State.logRead, State.run_of_runs h]
  generalize s.begun ⟨q, k⟩ = p at hfrom havail hlost
  dsimp only
  rw [if_neg (by simp [h15, h31, halign, Nat.one_le_iff_ne_zero.mp hpos, Nat.not_lt.mpr hle]), ← hfrom, ← havail, ← hlost, ← hn]
  refine if_congr (by simp) rfl (congrArg (State.finish · ⟨q, k⟩ stOK _) ?_)
  by_cases hzero : n = 0
  · simp [State.logMoved, State.logRdAfter, hzero]
  · simp only [State.logMoved, State.logRdAfter, hzero, if_false, State.put, Bool.decide_and, Bool.and_assoc]
    split <;> rfl

theorem logRead_empty (hempty : avail = 0 ∨ 2 ^ 31 < avail) :
    ∃ t, exec (.logRead q k) s = .next t ∧ s.RepliedOnly t q k stOK [0, from_, 0] :=
  ⟨_, exec_main rfl h.rst ((State.logRead_eq h hask).trans (if_pos hempty)), State.finish_begun h _ _⟩

theorem logRead_moves (hone : 1 ≤ avail) (hback : avail ≤ 2 ^ 31) :
    ∃ t, exec (.logRead q k) s = .next t ∧ s.Replied t q k stOK [mkW n, from_ + mkW lost, mkW lost] ∧
      t.sent = (if n = 0 then s.sent else .dma addr (s.logBytes (from_ + mkW lost) n) :: s.sent) ∧
      t.ev = { s.ev with rd := s.logRdAfter (from_ + mkW lost) n (bit (wAt c.payload 1) 16) } ∧
      { s.sansReply t with sent := s.sent, ev := s.ev } = s := by
  obtain ⟨queues, tag, hp⟩ := h.begun_eq
  obtain ⟨hreply, queues', heq⟩ := h.answered
    (v := (s.begun ⟨q, k⟩).logMoved addr (from_ + mkW lost) n (bit (wAt c.payload 1) 16)) rfl stOK [mkW n, from_ + mkW lost, mkW lost]
  refine ⟨_, exec_main rfl h.rst ((State.logRead_eq h hask).trans (if_neg (by omega))), hreply, ?_⟩
  rw [heq, hp]
  exact ⟨rfl, rfl, rfl⟩

end

/-! ### What leaves the waiting chain events alone -/

theorem State.logEvent_chain (s : State) (r : EvRec) : (s.logEvent r).ev.chain = s.ev.chain := by
  have hirq : ∀ (u : State) (x : RegId) (i en : Nat), (u.irqIf x i en).ev.chain = u.ev.chain := fun u x i en => by
    obtain ⟨pend, sent, h⟩ := u.irqIf_eq x i en
    rw [h]
  unfold State.logEvent
  exact State.same_ite (·.ev.chain) ((hirq _ _ _ _).trans (State.same_ite (·.ev.chain) rfl rfl)) (State.same_ite (·.ev.chain) rfl rfl)

theorem State.flushLog_chain (s : State) : s.flushLog.ev.chain = s.ev.chain := by
  unfold State.flushLog
  exact State.same_ite (·.ev.chain) (State.foldl_same (·.ev.chain) State.logEvent_chain _ _) rfl

theorem State.reach_chain (s : State) (t : Nat) : (s.reach t).ev.chain = s.ev.chain := by
  unfold State.reach
  exact State.same_ite (·.ev.chain) (State.flushLog_chain _) rfl

theorem State.overrides_chain (s : State) (src : Nat) (level : Option Bool) : (s.overrides src level).ev.chain = s.ev.chain := by
  refine State.foldl_same (·.ev.chain) (fun s n => ?_) _ s
  exact State.same_ite (·.ev.chain) rfl rfl

theorem State.settlePairs_chain (s : State) (t : Nat) : (s.settlePairs t).ev.chain = s.ev.chain := by
  refine State.foldl_same (·.ev.chain) (fun s k => ?_) _ s
  unfold State.settlePair
  exact State.same_ite (·.ev.chain) (State.same_ite (·.ev.chain) rfl rfl) rfl

/-! ### Delivery (R202, R204) -/

/-- The state in which an event that is not counted has taken its number, with its record open. -/
def State.received (s : State) (l : List EvRec) : State := { s with ev := { s.ev with nextId := s.ev.nextId + 1, open_ := l } }

section
variable (s : State) (src time earliest : Nat) (level : Option Bool) (detail : Word) (flags : Nat)

/-- A delivery triggers jumps in every group; what follows leaves groups and the chain events that wait alone. -/
theorem State.deliver_sources : ∃ l p,
    p = (List.range 8).foldl (fun p g => p.trigGroup g src time earliest level s.ev.nextId) (s.received l) ∧
    (s.deliver src time earliest level detail flags).sources = p.sources ∧
    (s.deliver src time earliest level detail flags).ev.chain = p.ev.chain := by
  refine ⟨s.opening ⟨s.ev.nextId, src, time, level.getD false, detail, flags, [], [], [], []⟩, _, rfl, ?_, ?_⟩
  · unfold State.deliver
    exact (State.flushLog_sources _).trans ((State.settlePairs_sources _ _).trans (State.overrides_sources _ _ _))
  · unfold State.deliver
    rw [State.flushLog_chain, State.settlePairs_chain, State.overrides_chain]
    rfl

/-- A delivery adds to every group the jumps that the event triggers there and takes a number; the chain events that wait stay. -/
theorem State.deliver_fires : (s.deliver src time earliest level detail flags).ev.chain = s.ev.chain ∧
    (s.deliver src time earliest level detail flags).ev.nextId = s.ev.nextId + 1 ∧
    ∀ g : Fin 8, ((s.deliver src time earliest level detail flags).grp g).trigs =
      (s.grp g).trigs ++ s.newTrigs g src time earliest level s.ev.nextId := by
  obtain ⟨l, p, hp, hsrc, hchain⟩ := s.deliver_sources src time earliest level detail flags
  obtain ⟨⟨groups, open_, heq⟩, hgrp⟩ := (s.received l).trigGroups_eq src time earliest level s.ev.nextId 8
  rw [← hp] at heq hgrp
  refine ⟨hchain.trans (by rw [heq]; rfl), (congrArg Sources.nextId hsrc).trans (by rw [heq]; rfl), fun g => ?_⟩
  have hnew := State.newTrigs_congr (s := s) (p := s.received l) (g := g) rfl rfl (fun _ _ => rfl) src time earliest level s.ev.nextId
  rw [State.grp_of_sources hsrc, hgrp, if_pos g.isLt, hnew]
  rfl

end

/-! ### CHAIN_EVENT_EXECUTION (R204, R205) -/

/-- The state in which a chain event no longer waits. -/
def State.unchained (s : State) (x : ChainEv) : State := { s with ev := { s.ev with chain := s.ev.chain.erase x } }

section
variable {s : State} (hrst : s.mgt.rst = false)
include hrst

theorem chainEvent_none (hnone : s.ev.chain = []) : exec .chainEventExecution s = .next s := by
  refine exec_main rfl hrst ?_
  simp only [State.chainEventExec, hnone, firstChainEv]

/-- The earliest waiting chain event leaves the list at its execution time, and is delivered while EVT runs. -/
theorem chainEvent_executes {x : ChainEv} {u : State} (hx : firstChainEv s.ev.chain = some x) (hu : u = s.reach (x.time + usec 3)) :
    ∃ v, exec .chainEventExecution s = .next v ∧ v.ev.chain = s.ev.chain.erase x ∧
      (s.evtOn = false → { v with ev := s.ev } = u) ∧
      (s.evtOn = true → v.ev.nextId = s.ev.nextId + 1 ∧ ∀ g : Fin 8, (v.grp g).trigs = (s.grp g).trigs ++
        u.newTrigs g (srcOf 5 x.num) x.time (x.time + usec 3) none s.ev.nextId) := by
  obtain ⟨tb, hsrc⟩ := s.reach_sources (x.time + usec 3)
  have hchain : u.ev.chain = s.ev.chain := hu ▸ s.reach_chain _
  have hoff : s.evtOn = false → ∃ tb, u = { s with tb := tb } := fun h => hu ▸ State.reach_off h _
  rw [← hu] at hsrc
  have hrun : (u.unchained x).evtOn = s.evtOn := congrArg (bit · 9) (State.rd_of_sources hsrc (by unfold unlogged; decide))
  have hexec : s.chainEventExec = if s.evtOn then (u.unchained x).deliver (srcOf 5 x.num) x.time (x.time + usec 3) none (mkW x.origin) 0
      else u.unchained x := by
    rw [← hrun]
    simp only [State.chainEventExec, hx, hu, State.unchained]
  cases hevt : s.evtOn with
  | false =>
    obtain ⟨tb, rfl⟩ := hoff hevt
    rw [hevt, if_neg Bool.false_ne_true] at hexec
    exact ⟨_, exec_main rfl hrst hexec, rfl, fun _ => rfl, nofun⟩
  | true =>
    rw [hevt, if_pos rfl] at hexec
    obtain ⟨hstay, hid, htrigs⟩ := (u.unchained x).deliver_fires (srcOf 5 x.num) x.time (x.time + usec 3) none (mkW x.origin) 0
    have hnext : (u.unchained x).ev.nextId = s.ev.nextId := congrArg Sources.nextId hsrc
    have hgrp : ∀ g, (u.unchained x).grp g = s.grp g := fun g => State.grp_of_sources hsrc g
    refine ⟨_, exec_main rfl hrst hexec, hstay.trans (congrArg (List.erase · x) hchain), nofun, fun _ => ⟨?_, fun g => ?_⟩⟩
    · rw [hid, hnext]
    · rw [htrigs, hnext, hgrp]
      exact congrArg _ (State.newTrigs_congr (s := u) (p := u.unchained x) rfl rfl (fun _ _ => rfl) _ _ _ _ _)

end

/-- Settles O42: each form of LOG_READ is computed to the reply or the delivery that it comes to, and a chain event that executes to what
its delivery adds to every group. -/
theorem eventLog : Obligations.EventLog := by
  unfold Obligations.EventLog
  refine fun s => ⟨fun q k count addr c h hcount haddr => ⟨logRead_refused h hcount haddr, ?_⟩, chainEvent_none,
    fun x u hrst => chainEvent_executes hrst⟩
  intro hpos hle h15 h31 halign from_ avail lost n hfrom havail hlost hn
  have hask : s.LogAsked c count addr from_ avail lost n := ⟨hcount, haddr, hpos, hle, h15, h31, halign, hfrom, havail, hlost, hn⟩
  refine ⟨logRead_empty h hask, fun hone hback => ?_⟩
  obtain ⟨t, ht, hreply, hsent, hev, hframe⟩ := logRead_moves h hask hone hback
  refine ⟨t, ht, hreply, hsent, fun nx rd hnx hrd => ?_, hframe⟩
  rw [hev, hrd, hnx]
  rfl

end Sys2Proof.Machine
end
section
/-!
PROOF. CHECK_WINDOW_SET and CHECK_WINDOW_CLOSE (R245, R246, R247).
-/
namespace Sys2Proof.Machine

/-! ### One window -/

theorem State.setWin_agreeBut (s : State) (i : Nat) (x : CheckWin) : KMap.agreeBut s.wins (s.setWin i x).wins [i] :=
  fun _ hj => KMap.find?_insert_ne _ _ (by simpa using hj)

/-- The window that a CHECK_WINDOW_SET which nothing refuses makes of a window without a shadow (R247). -/
def cwLoad (w : CheckWin) (x : CwSet) : CheckWin :=
  if w.st = .openw then { w with shadow := some x } else ⟨.armed, x, none, 0, 0, false, false⟩

theorem cwLoad_open {w : CheckWin} (h : w.st = .openw) (x : CwSet) : cwLoad w x = { w with shadow := some x } := if_pos h

theorem cwLoad_closed {w : CheckWin} (h : w.st ≠ .openw) (x : CwSet) : cwLoad w x = ⟨.armed, x, none, 0, 0, false, false⟩ := if_neg h

/-- The window after its DISARM (R246). -/
def cwDisarmed (w : CheckWin) : CheckWin := { w with st := if w.st = .openw then .aborted else .idle, shadow := none }

theorem cwResult_cwDisarmed (w : CheckWin) : cwResult (cwDisarmed w) = [if w.st = .openw then 5 else 0] := by
  by_cases hopen : w.st = .openw <;> simp [cwResult, cwDisarmed, hopen, CwSt.code, mkW]

theorem cwShadow_of_open {w : CheckWin} (h : w.st = .openw) (t : Nat) : cwShadow w t = w := by
  simp only [cwShadow, h]

theorem cwShadow_of_none {w : CheckWin} (h : w.shadow = none) (t : Nat) : cwShadow w t = w := by
  unfold cwShadow
  split
  case h_1 => rfl
  case h_2 hx _ => cases h.symm.trans hx
  case h_3 => rfl

/-- A window that is not OPEN takes its shadow, and misses a start that has passed. -/
theorem cwShadow_of_some {w : CheckWin} {x : CwSet} (hst : w.st ≠ .openw) (hx : w.shadow = some x) (t : Nat) :
    cwShadow w t = ⟨if x.start < t then .aborted else .armed, x, none, 0, 0, false, decide (x.start < t)⟩ := by
  unfold cwShadow
  split
  case h_1 hopen => exact absurd hopen hst
  case h_2 y hy _ =>
    obtain rfl : y = x := Option.some.inj (hy.symm.trans hx)
    by_cases hpast : y.start < t <;> simp [hpast]
  case h_3 hnone _ => cases hx.symm.trans hnone

/-- A window that enters a state other than PASS and FAIL sends a message at most. -/
theorem State.cwEnd_eq (s : State) (c : Nat) {new : CwSt} (hpass : new ≠ .pass) (hfail : new ≠ .fail) :
    ∃ pend sent, s.cwEnd c new = { s with msixPend := pend, sent := sent } := by
  cases new with
  | pass => exact absurd rfl hpass
  | fail => exact absurd rfl hfail
  | aborted => exact s.irqIf_eq .OUT_CTL 0 0
  | idle | armed | openw => exact ⟨s.msixPend, s.sent, rfl⟩

/-- DISARM changes the window, and sends a message at most. -/
theorem State.cwDisarm_eq (s : State) (i : Nat) :
    ∃ pend sent, s.cwDisarm i = { s.setWin i (cwDisarmed (s.win i)) with msixPend := pend, sent := sent } :=
  State.cwEnd_eq _ _ (by split <;> decide) (by split <;> decide)

/-- The close of a window that takes its shadow changes the window, and sends a message at most. -/
theorem State.cwClose_takes {s : State} {i : Nat} {x : CwSet} (hst : (s.win i).st ≠ .openw) (hx : (s.win i).shadow = some x) (t : Nat) :
    ∃ pend sent, s.cwClose i t =
      { s.setWin i ⟨if x.start < t then .aborted else .armed, x, none, 0, 0, false, decide (x.start < t)⟩ with
        msixPend := pend, sent := sent } := by
  have hshadow := cwShadow_of_some hst hx t
  have hmoves : cwShadow (s.win i) t ≠ s.win i := fun hsame => by
    rw [← hsame, hshadow] at hx
    cases hx
  have hclose : s.cwClose i t = (s.setWin i (cwShadow (s.win i) t)).cwEnd (i / 4) (cwShadow (s.win i) t).st := if_neg hmoves
  rw [hclose, hshadow]
  exact State.cwEnd_eq _ _ (by dsimp only; split <;> decide) (by dsimp only; split <;> decide)

/-! ### CHECK_WINDOW_SET (R246, R247) -/

/-- What a CHECK_WINDOW_SET that does not disarm asks a window to be set with. -/
def cwAsked (p : List Word) : CwSet :=
  ⟨mkTime ((wAt p 1).toNat + 2 ^ 32 * fld (wAt p 2) 15 0) (fld (wAt p 3) 29 0) 0, (wAt p 4).toNat, wAt p 5⟩

/-- Word 0 sets a reserved bit. -/
def cwReserved (p : List Word) : Prop := fld (wAt p 0) 7 5 ≠ 0 ∨ fld (wAt p 0) 15 10 ≠ 0 ∨ fld (wAt p 0) 31 17 ≠ 0

/-- A window may not be set with what words 1 to 5 ask for at this time. -/
def State.cwBad (s : State) (p : List Word) : Prop :=
  fld (wAt p 2) 31 16 ≠ 0 ∨ fld (wAt p 3) 31 30 ≠ 0 ∨ 800000000 ≤ fld (wAt p 3) 29 0 ∨ wAt p 4 = 0 ∨ (cwAsked p).start < s.now + usec 20

section
variable {s : State} {q : Fin 10} {k : Nat} {c : Cmd} (h : s.Runs q k 0x0803 c)
include h

theorem State.Runs.begun_win (i : Nat) : (s.begun ⟨q, k⟩).win i = s.win i := by
  rw [State.begun_eq h.find]
  rfl

theorem State.Runs.begun_now : (s.begun ⟨q, k⟩).now = s.now := by
  rw [State.begun_eq h.find]
  rfl

/-- A command that sets a window, and sends a message at most, is answered. -/
theorem State.Runs.answered_setWin {v : State} {i : Nat} {x : CheckWin} {pend : List Nat} {sent : List Sent}
    (hv : v = { (s.begun ⟨q, k⟩).setWin i x with msixPend := pend, sent := sent }) (status : Nat) (result : List Word) :
    s.Replied (v.finish ⟨q, k⟩ status result) q k status result ∧ KMap.agreeBut s.wins (v.finish ⟨q, k⟩ status result).wins [i] ∧
      (v.finish ⟨q, k⟩ status result).win i = x ∧
      { s.sansReply (v.finish ⟨q, k⟩ status result) with wins := s.wins } = { s with msixPend := pend, sent := sent } := by
  obtain ⟨hreply, queues, heq⟩ := h.answered (v := v) (hv ▸ rfl) status result
  refine ⟨hreply, ?_⟩
  rw [heq, hv, State.begun_eq h.find]
  exact ⟨s.setWin_agreeBut i x, s.win_setWin_same i x, rfl⟩

theorem checkWindowSet_bad (hbad : cwReserved c.payload ∨ bit (wAt c.payload 0) 16 = false ∧ s.cwBad c.payload) :
    ∃ t, exec (.checkWindowSet q k) s = .next t ∧ s.RepliedOnly t q k stBadParam [] := by
  have hset : s.checkWindowSet q k = (s.begun ⟨q, k⟩).finish ⟨q, k⟩ stBadParam [] := by
    rw [State.checkWindowSet, State.run_of_runs h]
    dsimp only
    by_cases hres : cwReserved c.payload
    · exact if_pos (by simpa [cwReserved, or_assoc] using hres)
    · obtain ⟨hdis, hargs⟩ := hbad.resolve_left hres
      rw [if_neg (by simpa [cwReserved, and_assoc] using hres), if_neg (by simp [hdis]), h.begun_now]
      exact if_pos (by simpa [State.cwBad, cwAsked, or_assoc] using hargs)
  exact ⟨_, exec_main rfl h.rst hset, State.finish_begun h _ _⟩

variable {i : Nat} (hi : i = 4 * fld (wAt c.payload 0) 4 0 + fld (wAt c.payload 0) 9 8) (hres : ¬ cwReserved c.payload)
include hi hres

theorem checkWindowSet_disarms (hdis : bit (wAt c.payload 0) 16 = true) :
    ∃ t, exec (.checkWindowSet q k) s = .next t ∧ KMap.agreeBut s.wins t.wins [i] ∧ t.win i = cwDisarmed (s.win i) ∧
      s.Replied t q k stOK (cwResult (cwDisarmed (s.win i))) ∧
      { s.sansReply t with wins := s.wins, sent := s.sent, msixPend := s.msixPend } = s := by
  obtain ⟨pend, sent, hdisarm⟩ := (s.begun ⟨q, k⟩).cwDisarm_eq i
  rw [h.begun_win] at hdisarm
  have hwin : ((s.begun ⟨q, k⟩).cwDisarm i).win i = cwDisarmed (s.win i) := by
    rw [hdisarm]
    exact State.win_setWin_same _ _ _
  have hset : s.checkWindowSet q k = ((s.begun ⟨q, k⟩).cwDisarm i).finish ⟨q, k⟩ stOK (cwResult (cwDisarmed (s.win i))) := by
    rw [State.checkWindowSet, State.run_of_runs h]
    dsimp only
    rw [if_neg (by simpa [cwReserved, and_assoc] using hres), if_pos hdis, ← hi, hwin]
  obtain ⟨hreply, hagree, hnew, hframe⟩ := h.answered_setWin hdisarm stOK (cwResult (cwDisarmed (s.win i)))
  exact ⟨_, exec_main rfl h.rst hset, hagree, hnew, hreply,
    congrArg (fun u : State => { u with sent := s.sent, msixPend := s.msixPend }) hframe⟩

variable (hdis : bit (wAt c.payload 0) 16 = false) (hok : ¬ s.cwBad c.payload)
include hdis hok

/-- A CHECK_WINDOW_SET that asks for what is allowed is answered BUSY by a window with a shadow, and else loads the window. -/
theorem State.checkWindowSet_eq : s.checkWindowSet q k =
    if (s.win i).shadow.isSome then (s.begun ⟨q, k⟩).finish ⟨q, k⟩ stBusy []
    else ((s.begun ⟨q, k⟩).setWin i (cwLoad (s.win i) (cwAsked c.payload))).finish ⟨q, k⟩ stOK
      (cwResult (cwLoad (s.win i) (cwAsked c.payload))) := by
  rw [State.checkWindowSet, State.run_of_runs h]
  dsimp only
  rw [if_neg (by simpa [cwReserved, and_assoc] using hres), if_neg (by simp [hdis]), h.begun_now,
    if_neg (by simpa [State.cwBad, cwAsked, and_assoc] using hok), ← hi, h.begun_win]
  refine if_ctx_congr Iff.rfl (fun _ => rfl) fun hnone => ?_
  rw [cwLoad, Option.not_isSome_iff_eq_none.mp hnone]
  rfl

theorem checkWindowSet_busy (hshadow : (s.win i).shadow ≠ none) :
    ∃ t, exec (.checkWindowSet q k) s = .next t ∧ s.RepliedOnly t q k stBusy [] :=
  ⟨_, exec_main rfl h.rst ((State.checkWindowSet_eq h hi hres hdis hok).trans (if_pos (Option.isSome_iff_ne_none.mpr hshadow))),
    State.finish_begun h _ _⟩

theorem checkWindowSet_loads (hshadow : (s.win i).shadow = none) :
    ∃ t, exec (.checkWindowSet q k) s = .next t ∧ KMap.agreeBut s.wins t.wins [i] ∧ { s.sansReply t with wins := s.wins } = s ∧
      t.win i = cwLoad (s.win i) (cwAsked c.payload) ∧ s.Replied t q k stOK (cwResult (cwLoad (s.win i) (cwAsked c.payload))) := by
  have hset := State.checkWindowSet_eq h hi hres hdis hok
  rw [hshadow, if_neg (by decide)] at hset
  have hload : (s.begun ⟨q, k⟩).setWin i (cwLoad (s.win i) (cwAsked c.payload)) =
      { (s.begun ⟨q, k⟩).setWin i (cwLoad (s.win i) (cwAsked c.payload)) with msixPend := s.msixPend, sent := s.sent } := by
    rw [State.begun_eq h.find]
    rfl
  obtain ⟨hreply, hagree, hnew, hframe⟩ := h.answered_setWin hload stOK (cwResult (cwLoad (s.win i) (cwAsked c.payload)))
  exact ⟨_, exec_main rfl h.rst hset, hagree, hframe, hnew, hreply⟩

end

/-! ### CHECK_WINDOW_CLOSE (R245, R247) -/

section
variable {c : Fin 32} {k : Fin 4} {t i : Nat} {s : State} (hi : i = 4 * c.val + k.val) (hrst : s.mgt.rst = false)
include hi hrst

/-- A window that is OPEN or has no shadow stays as it is. -/
theorem checkWindowClose_stays (hstay : (s.win i).st = .openw ∨ (s.win i).shadow = none) :
    exec (.checkWindowClose c k t) s = .next s := by
  subst hi
  exact exec_main rfl hrst (if_pos (hstay.elim (cwShadow_of_open · t) (cwShadow_of_none · t)))

theorem checkWindowClose_takes {x : CwSet} (hst : (s.win i).st ≠ .openw) (hx : (s.win i).shadow = some x) :
    ∃ v, exec (.checkWindowClose c k t) s = .next v ∧ KMap.agreeBut s.wins v.wins [i] ∧
      v.win i = ⟨if x.start < t then .aborted else .armed, x, none, 0, 0, false, decide (x.start < t)⟩ ∧
      { v with wins := s.wins, sent := s.sent, msixPend := s.msixPend } = s := by
  subst hi
  obtain ⟨pend, sent, hclose⟩ := State.cwClose_takes hst hx t
  exact ⟨_, exec_main rfl hrst hclose, s.setWin_agreeBut _ _, s.win_setWin_same _ _, rfl⟩

end

/-- Settles O43: each form of CHECK_WINDOW_SET and CHECK_WINDOW_CLOSE is computed to the window and the reply that it comes to. -/
theorem checkWindows : Obligations.CheckWindows := by
  unfold Obligations.CheckWindows
  refine ⟨fun q k c s h hbad => checkWindowSet_bad h (by rw [cwReserved, or_assoc, or_assoc]; exact hbad),
    fun q k i c s x h h75 h1510 h3117 hi => ?_,
    fun c k t i s x hi hrst => ⟨checkWindowClose_stays hi hrst, checkWindowClose_takes hi hrst⟩⟩
  have hres : ¬ cwReserved c.payload := by simp [cwReserved, h75, h1510, h3117]
  refine ⟨fun hdis h2 h3 htick hcount hx hstart => ?_, fun hdis => ?_⟩
  · subst hx
    have hok : ¬ s.cwBad c.payload := by
      simp only [State.cwBad, not_or]
      exact ⟨not_not.mpr h2, not_not.mpr h3, not_le.mpr htick, hcount, not_lt.mpr hstart⟩
    refine ⟨checkWindowSet_busy h hi hres hdis hok, fun hshadow => ?_⟩
    obtain ⟨t, ht, hagree, hframe, hnew, hreply⟩ := checkWindowSet_loads h hi hres hdis hok hshadow
    refine ⟨t, ht, hagree, hframe, fun hopen => ?_, fun hclosed => ?_⟩
    · rw [cwLoad_open hopen] at hnew hreply
      rw [cwResult, hopen] at hreply
      exact ⟨hnew, hreply⟩
    · rw [cwLoad_closed hclosed] at hnew hreply
      exact ⟨hnew, hreply⟩
  · obtain ⟨t, ht, hagree, hnew, hreply, hframe⟩ := checkWindowSet_disarms h hi hres hdis
    rw [cwResult_cwDisarmed] at hreply
    exact ⟨t, ht, hagree, by rw [hnew]; rfl, by rw [hnew]; rfl, hreply, hframe⟩

end Sys2Proof.Machine
end
section
/-!
PROOF. The DACs: mid-scale ramps, the range hold, the reference, and what becomes of a reading of the sense tap (R254, R258, R260 to R263).
-/
namespace Sys2Proof.Machine

/-! ### One DAC -/

theorem State.setDac_agreeBut (s : State) (d : Nat) (x : Dac) : KMap.agreeBut s.dacs (s.setDac d x).dacs [d] :=
  fun _ hj => KMap.find?_insert_ne _ _ (by simpa using hj)

theorem State.rampEnd_ramp {s : State} {d k g : Nat} {c0 : Int} (h : (s.dac d).mode = .ramp c0 k g) :
    s.rampEnd d = s.setDac d { s.dac d with mode := .mid, code := 0 } := by
  simp only [State.rampEnd, h, State.modDac]

theorem State.rampEnd_stays {s : State} {d : Nat} (h : (s.dac d).mode = .mid ∨ (s.dac d).mode = .live) : s.rampEnd d = s := by
  rcases h with h | h <;> simp only [State.rampEnd, h]

theorem State.rangeHoldEnd_held {s : State} {d : Nat} (h : (s.dac d).hold ≠ none) :
    s.rangeHoldEnd d = s.setDac d { s.dac d with hold := none } :=
  if_pos (Option.isSome_iff_ne_none.mpr h)

theorem State.rangeHoldEnd_free {s : State} {d : Nat} (h : (s.dac d).hold = none) : s.rangeHoldEnd d = s := by
  simp only [State.rangeHoldEnd, h, Option.isSome_none, Bool.false_eq_true, if_false]

theorem State.dacRetry_off {s : State} {d : Nat} (h : (s.dac d).prot = .off) :
    s.dacRetry d = (s.reach (s.dac d).retryAt).setDac d { s.dac d with prot := .retry, overs := 0 } := if_pos h

theorem State.dacRetry_stays {s : State} {d : Nat} (h : (s.dac d).prot ≠ .off) : s.dacRetry d = s := if_neg h

theorem State.dacRetryPassed_stays {s : State} {d : Nat} (h : (s.dac d).prot ≠ .retry) : s.dacRetryPassed d = s := if_neg h

/-! ### Records of a protection's change -/

/-- A record of the error log changes the log and its count of lost records, and sends a message at most, of class 2 alone (R455, R457). -/
theorem State.logErr_writes (s : State) (cls blk inst code status d0 d1 : Nat) : ∃ regs err pend sent,
    s.logErr cls blk inst code status d0 d1 = { s with regs := regs, err := err, msixPend := pend, sent := sent } ∧
      KMap.agreeBut s.regs regs [RegId.off .ERR_CNT_LOST 0 0] ∧ (cls ≠ 2 → pend = s.msixPend ∧ sent = s.sent) := by
  have hlost : KMap.agreeBut s.regs (s.bump .ERR_CNT_LOST).regs [RegId.off .ERR_CNT_LOST 0 0] := s.wr_agreeBut .ERR_CNT_LOST 0 0 _
  have hsend : ∀ u : State, (∃ regs err, u = { s with regs := regs, err := err } ∧
      KMap.agreeBut s.regs regs [RegId.off .ERR_CNT_LOST 0 0]) → ∃ regs err pend sent,
      (if cls = 2 then u.irqIf .ERR_CTL 0 1 else u) = { s with regs := regs, err := err, msixPend := pend, sent := sent } ∧
        KMap.agreeBut s.regs regs [RegId.off .ERR_CNT_LOST 0 0] ∧ (cls ≠ 2 → pend = s.msixPend ∧ sent = s.sent) := by
    rintro u ⟨regs, err, rfl, hregs⟩
    split
    case isTrue hcls =>
      obtain ⟨pend, sent, hirq⟩ := State.irqIf_eq { s with regs := regs, err := err } .ERR_CTL 0 1
      exact ⟨regs, err, pend, sent, hirq, hregs, fun h => absurd hcls h⟩
    case isFalse => exact ⟨regs, err, s.msixPend, s.sent, rfl, hregs, fun _ => ⟨rfl, rfl⟩⟩
  unfold State.logErr State.logErrAt
  split
  · refine hsend _ ?_
    split
    · exact ⟨_, _, rfl, hlost⟩
    · exact ⟨_, _, rfl, KMap.agreeBut_refl _ _⟩
  · exact ⟨_, s.err, s.msixPend, s.sent, rfl, hlost, fun _ => ⟨rfl, rfl⟩⟩

/-- A fault that passes is counted and recorded (R436). -/
theorem State.transient_writes (s : State) (blk inst code status d0 d1 : Nat) : ∃ regs err,
    s.transient blk inst code status d0 d1 = { s with regs := regs, err := err } ∧
      ({ s with regs := regs } : State).rd .ERR_CNT_TRANSIENT = satInc (s.rd .ERR_CNT_TRANSIENT) := by
  obtain ⟨regs, err, pend, sent, heq, hagree, hquiet⟩ := (s.bump .ERR_CNT_TRANSIENT).logErr_writes 1 blk inst code status d0 d1
  obtain ⟨rfl, rfl⟩ := hquiet (by decide)
  refine ⟨regs, err, heq, ?_⟩
  exact (State.rd_of_agreeBut (s := s.bump .ERR_CNT_TRANSIENT) (t := { s with regs := regs }) hagree (by decide)).trans
    (s.rd_wr_same _ _ _ _)

theorem dacRetryPassed_passes {d : Fin 32} {s : State} (hrst : s.mgt.rst = false) (h : (s.dac d).prot = .retry) :
    ∃ v, exec (.dacRetryPassed d) s = .next v ∧ v.dac d = { s.dac d with prot := .normal, overs := 0 } ∧
      KMap.agreeBut s.dacs v.dacs [d.val] ∧ v.rd .ERR_CNT_TRANSIENT = satInc (s.rd .ERR_CNT_TRANSIENT) ∧
      { v with dacs := s.dacs, regs := s.regs, err := s.err } = s := by
  obtain ⟨regs, err, heq, hcount⟩ :=
    (s.setDac d { s.dac d with prot := .normal, overs := 0 }).transient_writes 7 d 0x0009 0xFF 0 0
  exact ⟨_, exec_main rfl hrst ((if_pos h).trans heq), s.dac_setDac_same _ _, s.setDac_agreeBut _ _, hcount, rfl⟩

/-! ### Readings of the sense tap (R261, R262) -/

/-- A reading is over limit where a leg carries 90 % of 10, 20 or 40 mA, in µA. -/
theorem State.overLimit_iff (s : State) (d legP legN : Nat) : s.overLimit d legP legN = true ↔
    s.rf .DAC_CFG_d d 0 5 4 < 3 ∧ 9 * (10000 * 2 ^ s.rf .DAC_CFG_d d 0 5 4) ≤ 10 * max legP legN := by
  unfold State.overLimit State.ilim
  generalize s.rf .DAC_CFG_d d 0 5 4 = level
  match level with
  | 0 | 1 | 2 => simp
  | n + 3 => simp

/-- A second over-limit reading in a row switches a NORMAL DAC off. -/
theorem State.dacTrip_normal {s : State} {d : Nat} (h : (s.dac d).prot = .normal) (hd : d < 32) : ∃ regs err,
    s.dacTrip d = { s.setDac d { s.dac d with prot := .off, overs := 0, retryAt := s.now + msec 1 } with regs := regs, err := err } ∧
      ({ s with regs := regs } : State).rd .DAC_CNT_SHORT_d d = satInc (s.rd .DAC_CNT_SHORT_d d) := by
  obtain ⟨regs, err, pend, sent, heq, hagree, hquiet⟩ :=
    ((s.setDac d { s.dac d with prot := .off, overs := 0, retryAt := s.now + msec 1 }).bump .DAC_CNT_SHORT_d d).logErr_writes
      0 7 d 0x0009 0xFF 1 0
  obtain ⟨rfl, rfl⟩ := hquiet (by decide)
  refine ⟨regs, err, ?_, ?_⟩
  · simp only [State.dacTrip, h]
    exact heq
  · refine (State.rd_of_agreeBut (s := s.bump .DAC_CNT_SHORT_d d) (t := { s with regs := regs }) hagree ?_).trans (s.rd_wr_same _ _ _ _)
    simp only [RegId.off, RegId.row, List.mem_singleton]
    omega

/-- A second over-limit reading in a row fences a DAC in RETRY. -/
theorem State.dacTrip_retry {s : State} {d : Nat} (h : (s.dac d).prot = .retry) : ∃ regs err pend sent,
    s.dacTrip d =
        { s.setDac d { s.dac d with prot := .fenced, overs := 0 } with regs := regs, err := err, msixPend := pend, sent := sent } ∧
      ({ s with regs := regs } : State).rd .DAC_CNT_FENCE_d d = satInc (s.rd .DAC_CNT_FENCE_d d) ∧
      ({ s with regs := regs } : State).rd .ERR_CNT_LASTING = satInc (s.rd .ERR_CNT_LASTING) := by
  obtain ⟨regs, err, pend, sent, hlog, hagree, -⟩ :=
    (((s.setDac d { s.dac d with prot := .fenced, overs := 0 }).bump .DAC_CNT_FENCE_d d).bump .ERR_CNT_LASTING).logErr_writes
      2 7 d 0x0009 0xFF 3 0
  obtain ⟨pend', sent', hirq⟩ := State.irqIf_eq
    { s.setDac d { s.dac d with prot := .fenced, overs := 0 } with regs := regs, err := err, msixPend := pend, sent := sent } .DAC_CTL 0 0
  have hne : RegId.off .DAC_CNT_FENCE_d d 0 ≠ RegId.off .ERR_CNT_LASTING 0 0 := by
    simp only [RegId.off, RegId.row]
    omega
  have hkept : ∀ {r : RegId} {i : Nat}, r.off i 0 ≠ RegId.off .ERR_CNT_LOST 0 0 →
      ({ s with regs := regs } : State).rd r i = ((s.bump .DAC_CNT_FENCE_d d).bump .ERR_CNT_LASTING).rd r i := fun hr =>
    State.rd_of_agreeBut (s := (s.bump .DAC_CNT_FENCE_d d).bump .ERR_CNT_LASTING) (t := { s with regs := regs }) hagree
      (by simpa using hr)
  refine ⟨regs, err, pend', sent', ?_, ?_, ?_⟩
  · simp only [State.dacTrip, h]
    exact (congrArg (·.irqIf .DAC_CTL 0 0) hlog).trans hirq
  · refine (hkept ?_).trans ((State.rd_wr_ne _ _ hne).trans (s.rd_wr_same _ _ _ _))
    simp only [RegId.off, RegId.row]
    omega
  · refine (hkept (by decide)).trans ((State.rd_wr_same _ _ _ _ _).trans ?_)
    exact congrArg satInc (State.rd_wr_ne _ _ hne.symm)

section
variable {d : Fin 32} {s : State} {u15 : Bool} {f legP legN : Nat} {beyond : Bool} (hrst : s.mgt.rst = false)
  (hd : d.val = (if u15 then 16 else 0) + f % 16)
include hrst hd

/-- Nothing is read while time does not count or the guard unit is not settled. -/
theorem exec_monitorSlot : exec (.monitorSlot u15 f legP legN) s = .next
    (if s.counting && (s.adc (if u15 then 15 else 14)).refReady then s.dacSense d (s.overLimit d legP legN) else s) := by
  refine exec_main rfl hrst ?_
  have hslot : ((if u15 then 15 else 14) - 14) * 16 + f % 16 = d.val := by
    rw [hd]
    cases u15 <;> rfl
  simp only [State.monitorSlot, hslot]

theorem monitorSlot_idle (h : s.counting = false ∨ (s.adc (if u15 then 15 else 14)).refReady = false ∨
    (s.dac d).prot = .off ∨ (s.dac d).prot = .fenced) : exec (.monitorSlot u15 f legP legN) s = .next s := by
  rw [exec_monitorSlot hrst hd]
  rcases h with h | h | h | h <;> simp [State.dacSense, h]

variable (hbeyond : beyond = true ↔ s.rf .DAC_CFG_d d 0 5 4 < 3 ∧ 9 * (10000 * 2 ^ s.rf .DAC_CFG_d d 0 5 4) ≤ 10 * max legP legN)
  (hcounting : s.counting = true) (hready : (s.adc (if u15 then 15 else 14)).refReady = true)
  (hprot : (s.dac d).prot = .normal ∨ (s.dac d).prot = .retry)
include hbeyond hcounting hready hprot

/-- A reading of a DAC that drives. -/
theorem monitorSlot_reads : exec (.monitorSlot u15 f legP legN) s = .next
    (if beyond then (if (s.dac d).overs = 0 then s.setDac d { s.dac d with overs := 1 } else s.dacTrip d)
      else (if (s.dac d).overs = 0 then s else s.setDac d { s.dac d with overs := 0 })) := by
  obtain rfl : beyond = s.overLimit d legP legN := Bool.eq_iff_iff.mpr (hbeyond.trans (s.overLimit_iff d legP legN).symm)
  rw [exec_monitorSlot hrst hd, hcounting, hready]
  rcases hprot with hp | hp <;> cases s.overLimit d legP legN <;> simp [State.dacSense, hp]

theorem monitorSlot_trips (hover : beyond = true) (hovers : (s.dac d).overs ≠ 0) :
    ∃ v, exec (.monitorSlot u15 f legP legN) s = .next v ∧ KMap.agreeBut s.dacs v.dacs [d.val] ∧
      { v with dacs := s.dacs, regs := s.regs, err := s.err, sent := s.sent, msixPend := s.msixPend } = s ∧
      ((s.dac d).prot = .normal → v.dac d = { s.dac d with prot := .off, overs := 0, retryAt := s.now + msec 1 } ∧
        v.rd .DAC_CNT_SHORT_d d = satInc (s.rd .DAC_CNT_SHORT_d d)) ∧
      ((s.dac d).prot = .retry → v.dac d = { s.dac d with prot := .fenced, overs := 0 } ∧
        v.rd .DAC_CNT_FENCE_d d = satInc (s.rd .DAC_CNT_FENCE_d d) ∧
        v.rd .ERR_CNT_LASTING = satInc (s.rd .ERR_CNT_LASTING)) := by
  have hexec := monitorSlot_reads hrst hd hbeyond hcounting hready hprot
  rw [if_pos hover, if_neg hovers] at hexec
  rcases hprot with hp | hp
  · obtain ⟨regs, err, htrip, hcount⟩ := State.dacTrip_normal hp d.isLt
    rw [htrip] at hexec
    exact ⟨_, hexec, s.setDac_agreeBut _ _, rfl, fun _ => ⟨s.dac_setDac_same _ _, hcount⟩, fun h => by simp [hp] at h⟩
  · obtain ⟨regs, err, pend, sent, htrip, hfence, hlasting⟩ := State.dacTrip_retry hp
    rw [htrip] at hexec
    exact ⟨_, hexec, s.setDac_agreeBut _ _, rfl, fun h => by simp [hp] at h, fun _ => ⟨s.dac_setDac_same _ _, hfence, hlasting⟩⟩

end

/-! ### All DACs at once -/

/-- A state without its DACs. -/
def State.sansDacs (s : State) : State := { s with dacs := [] }

/-- Of each DAC in its turn `f` makes what `h` says, from the DAC and the group that clocks it, and changes nothing else. -/
structure State.PerDac (f : State → Nat → State) (h : Nat → Option Nat → Dac → Dac) : Prop where
  sole : ∀ u d, (f u d).sansDacs = u.sansDacs
  own : ∀ u d, (f u d).dac d = h d (u.dacGroup d) (u.dac d)
  other : ∀ u d e, e ≠ d → (f u d).dac e = u.dac e

/-- The group that clocks a DAC is not the DAC's to change. -/
theorem State.dacGroup_of_sansDacs {s t : State} (h : t.sansDacs = s.sansDacs) (d : Nat) : t.dacGroup d = s.dacGroup d :=
  congrArg (·.dacGroup d) h

theorem State.of_sansDacs {s t : State} (h : t.sansDacs = s.sansDacs) : { t with dacs := s.dacs } = s :=
  congrArg (fun u : State => { u with dacs := s.dacs }) h

/-- A step that may make something of its DAC, where what it decides by is as `h` has it. -/
theorem State.PerDac.of_ite {c : State → Nat → Bool} {x : State → Nat → Dac} {h : Nat → Option Nat → Dac → Dac}
    (hh : ∀ u d, h d (u.dacGroup d) (u.dac d) = if c u d then x u d else u.dac d) :
    State.PerDac (fun u d => if c u d then u.setDac d (x u d) else u) h where
  sole u d := State.same_ite State.sansDacs rfl rfl
  own u d := by
    rw [hh]
    split
    · exact u.dac_setDac_same _ _
    · rfl
  other u d e he := State.same_ite (·.dac e) (u.dac_setDac_ne _ he) rfl

section
variable {f : State → Nat → State} {h : Nat → Option Nat → Dac → Dac} (hf : State.PerDac f h) (s : State)
include hf

theorem State.PerDac.foldl_sole (l : List Nat) : (l.foldl f s).sansDacs = s.sansDacs :=
  State.foldl_same State.sansDacs hf.sole l s

theorem State.PerDac.foldl_dac (e : Fin 32) : ((List.range 32).foldl f s).dac e = h e (s.dacGroup e) (s.dac e) := by
  refine State.foldl_each (Ready := fun u e => u.dacGroup e = s.dacGroup e ∧ u.dac e = s.dac e)
    (Done := fun u e => u.dac e = h e (s.dacGroup e) (s.dac e)) List.nodup_range ?_ ?_ ?_ (fun _ _ => ⟨rfl, rfl⟩) e
    (List.mem_range.mpr e.isLt)
  · rintro d - u ⟨hgroup, hdac⟩
    rw [hf.own, hgroup, hdac]
  · rintro d - u e he ⟨hgroup, hdac⟩
    exact ⟨(State.dacGroup_of_sansDacs (hf.sole u d) e).trans hgroup, (hf.other u d e he).trans hdac⟩
  · exact fun d _ u e he hdone => (hf.other u d e he).trans hdone

end

/-! ### The reference settles (R260) -/

/-- A DAC as the settled reference finds it: at mid-scale with a running source it waits for its turn boundary. -/
def dacOnRef (_ : Nat) (group : Option Nat) (x : Dac) : Dac := if group.isSome && x.mode = .mid then { x with waiting := true } else x

theorem dacRefReady_perDac : State.PerDac
    (fun u d => if (u.dacGroup d).isSome && (u.dac d).mode = .mid then u.modDac d fun x => { x with waiting := true } else u) dacOnRef :=
  State.PerDac.of_ite fun _ _ => rfl

/-- REF_READY is no part of a DAC's route, nor of a channel's group. -/
theorem State.dacGroup_wr_status (s : State) (w : Word) {d : Nat} (hd : d < 32) :
    (s.wr .DAC_STATUS 0 0 w).dacGroup d = s.dacGroup d := by
  have hroute : (s.wr .DAC_STATUS 0 0 w).rd .OUT_DAC_SRC_d d = s.rd .OUT_DAC_SRC_d d :=
    s.rd_wr_ne w (by simp only [RegId.off, RegId.row]; omega)
  have hchan : ∀ c : Nat, (s.wr .DAC_STATUS 0 0 w).rd .CHn_CTL c = s.rd .CHn_CTL c := fun c =>
    s.rd_wr_ne w (by simp only [RegId.off, RegId.row]; omega)
  have hsrc : (s.wr .DAC_STATUS 0 0 w).dacSrc d = s.dacSrc d :=
    congrArg (fun v : Word => if bit v 31 then some (fld v 4 0) else none) hroute
  have hlive : ∀ c : Nat, (s.wr .DAC_STATUS 0 0 w).chanLive c = s.chanLive c := fun c =>
    congrArg (fun v : Word => (s.chan c).run && (s.grp (fld v 6 4)).st.plays) (hchan c)
  simp only [State.dacGroup, hsrc, hlive, State.chGroup, State.rf, hchan]

theorem dacRefReady_settles {s : State} (hrst : s.mgt.rst = false) (hon : s.running 6 = true) (hclamped : s.rb .DAC_STATUS 0 0 1 = false) :
    ∃ v, exec .dacRefReady s = .next v ∧ v.rb .DAC_STATUS 0 0 1 = true ∧
      (∀ e : Fin 32, v.dac e = if (s.dacGroup e).isSome && (s.dac e).mode = .mid then { s.dac e with waiting := true } else s.dac e) ∧
      { v with regs := s.regs, dacs := s.dacs } = s := by
  have hframe := dacRefReady_perDac.foldl_sole (s.wrb .DAC_STATUS 0 0 1 true) (List.range 32)
  refine ⟨_, exec_main rfl hrst (if_pos (by rw [hon, hclamped]; rfl)), ?_, fun e => ?_, ?_⟩
  · refine (congrArg (fun u : State => u.rb .DAC_STATUS 0 0 1) hframe :).trans ?_
    exact (congrArg (bit · 1) (s.rd_wr_same .DAC_STATUS 0 0 _)).trans (bit_setBit_same (by decide) _ _)
  · refine (dacRefReady_perDac.foldl_dac _ e).trans ?_
    rw [State.wrb, State.dacGroup_wr_status s _ e.isLt]
    rfl
  · exact congrArg (fun u : State => { u with regs := s.regs, dacs := s.dacs }) hframe

/-! ### DAC_FENCE_CLR (R263) -/

/-- A DAC as a write to DAC_FENCE_CLR leaves it. -/
def dacCleared (w : Word) (d : Nat) (group : Option Nat) (x : Dac) : Dac :=
  if bit w d && x.prot = .fenced then
    { x with prot := .normal, overs := 0, mode := .mid, code := 0, hold := none, waiting := group.isSome }
  else x

theorem dacFenceClr_perDac (w : Word) : State.PerDac (fun u d => if bit w d then u.dacUnfence d else u) (dacCleared w) := by
  have hstep : (fun (u : State) (d : Nat) => if bit w d then u.dacUnfence d else u) = fun u d =>
      if bit w d && (u.dac d).prot = .fenced then u.setDac d (dacCleared w d (u.dacGroup d) (u.dac d)) else u := by
    funext u d
    by_cases hbit : bit w d <;> by_cases hp : (u.dac d).prot = .fenced <;> simp [State.dacUnfence, dacCleared, hbit, hp]
  rw [hstep]
  exact State.PerDac.of_ite fun u d => by
    unfold dacCleared
    split <;> rfl

/-- A write to DAC_FENCE_CLR that names fenced DACs alone acts at once. -/
theorem State.directWrite_dacFenceClr {s : State} {w : Word} (hok : s.dacClrBad w = false) :
    s.directWrite (RegId.off .DAC_FENCE_CLR 0 0) w = s.dacFenceClr w := by
  have hat : RegId.at? (RegId.off .DAC_FENCE_CLR 0 0) = some (.DAC_FENCE_CLR, 0, 0) := by decide +kernel
  have hcause : s.writeCause false (RegId.off .DAC_FENCE_CLR 0 0) w = none := by
    simp [State.writeCause, hat, RegId.row, State.notPermitted, hok, touches, State.gainDenied, State.routeMoves, State.requestPending]
  rw [State.directWrite_taken (by decide +kernel) hat hcause]
  simp [State.directTaken, State.writeCfg, State.stageGroup, RegId.row, State.confineAt, hat, State.writeNow]

theorem dacFenceClr_clears {s : State} (hrst : s.mgt.rst = false) {w : Word}
    (hnamed : ∀ e : Fin 32, bit w e = true → (s.dac e).prot = .fenced) :
    ∃ v, exec (.dacFenceClr w) s = .next v ∧ { v with dacs := s.dacs } = s ∧
      ∀ e : Fin 32, v.dac e = if bit w e then
        { s.dac e with prot := .normal, overs := 0, mode := .mid, code := 0, hold := none, waiting := (s.dacGroup e).isSome }
        else s.dac e := by
  have hok : s.dacClrBad w = false := by
    simp only [State.dacClrBad, List.any_eq_false, List.mem_range, Bool.and_eq_true, decide_eq_true_eq, not_and, not_not]
    exact fun d hd => hnamed ⟨d, hd⟩
  refine ⟨_, exec_main rfl hrst (State.directWrite_dacFenceClr hok), State.of_sansDacs ((dacFenceClr_perDac w).foldl_sole s _),
    fun e => ?_⟩
  rw [State.dacFenceClr, (dacFenceClr_perDac w).foldl_dac, dacCleared]
  by_cases hbit : bit w e
  · simp [hbit, hnamed e hbit]
  · simp [hbit]

/-- Settles O44: each event is computed to the DAC, the counts and the record that it comes to, and what all DACs take at once to the step
that each takes alone. -/
theorem outputProtection : Obligations.OutputProtection := by
  unfold Obligations.OutputProtection
  intro d s hrst
  refine ⟨fun c0 k g hramp => exec_main rfl hrst (State.rampEnd_ramp hramp), fun h => exec_main rfl hrst (State.rampEnd_stays h),
    fun h => exec_main rfl hrst (State.rangeHoldEnd_held h), fun h => exec_main rfl hrst (State.rangeHoldEnd_free h),
    dacRefReady_settles hrst, fun u15 f legP legN beyond hd hbeyond => ?_,
    fun h => exec_main rfl hrst (State.dacRetry_off h), fun h => exec_main rfl hrst (State.dacRetry_stays h),
    dacRetryPassed_passes hrst, fun h => exec_main rfl hrst (State.dacRetryPassed_stays h), fun w => dacFenceClr_clears hrst⟩
  refine ⟨monitorSlot_idle hrst hd, fun hcounting hready hprot => ?_⟩
  have hreads := monitorSlot_reads hrst hd hbeyond hcounting hready hprot
  refine ⟨fun hwithin => ?_, fun hover hfirst => ?_, monitorSlot_trips hrst hd hbeyond hcounting hready hprot⟩
  · subst hwithin
    exact hreads
  · rw [if_pos hover, if_pos hfirst] at hreads
    exact hreads

end Sys2Proof.Machine
end
section
/-!
PROOF. What is common to the events of pattern lanes and pins: they change pins in turn, settle the pairs, and observe a time (R262, R271).
-/
namespace Sys2Proof.Machine

/-! ### Pairs -/

/-- A state without its pairs. -/
def State.sansPairs (s : State) : State := { s with pairs := [] }

/-- To settle the pairs changes pairs alone. -/
theorem State.settlePairs_eq (s : State) (t : Nat) : ∃ pairs, s.settlePairs t = { s with pairs := pairs } := by
  have hsole : (s.settlePairs t).sansPairs = s.sansPairs := by
    refine State.foldl_same State.sansPairs (fun u k => ?_) _ s
    unfold State.settlePair
    exact State.same_ite State.sansPairs (State.same_ite State.sansPairs rfl rfl) rfl
  exact ⟨_, congrArg (fun u : State => { u with pairs := (s.settlePairs t).pairs }) hsole⟩

/-! ### Pins in turn -/

/-- A state without its pins. -/
def State.sansPins (s : State) : State := { s with pins := [] }

/-- A step to `t` makes `x` of pin `n` and changes nothing else. -/
structure State.ToPin (s t : State) (n : Nat) (x : Pin) : Prop where
  sole : t.sansPins = s.sansPins
  pin : ∀ j, t.pin j = if j = n then x else s.pin j

theorem State.setPin_toPin (s : State) (n : Nat) (x : Pin) : s.ToPin (s.setPin n x) n x := by
  refine ⟨rfl, fun j => ?_⟩
  split
  case isTrue h => exact h ▸ s.pin_setPin_same _ _
  case isFalse h => exact s.pin_setPin_ne _ h

/-- A step that may change its pin. -/
theorem State.ite_toPin (s : State) (n : Nat) (x : Pin) (c : Prop) [Decidable c] :
    s.ToPin (if c then s.setPin n x else s) n (if c then x else s.pin n) := by
  split
  · exact s.setPin_toPin n x
  · exact ⟨rfl, fun j => by split <;> simp [*]⟩

/-- Steps that each make of their own pin what `h` says make it of every pin in their range. -/
theorem State.foldl_toPin {f : State → Nat → State} {h : Nat → Pin → Pin} {s : State} {lo : Nat}
    (hf : ∀ (u : State) (i : Nat), u.sansPins = s.sansPins → u.ToPin (f u i) (lo + i) (h i (u.pin (lo + i)))) (m : Nat) :
    ((List.range m).foldl f s).sansPins = s.sansPins ∧
      ∀ j, ((List.range m).foldl f s).pin j = if lo ≤ j ∧ j < lo + m then h (j - lo) (s.pin j) else s.pin j := by
  induction m with
  | zero => exact ⟨rfl, fun j => (if_neg (by omega)).symm⟩
  | succ m ih =>
    obtain ⟨hsole, hpin⟩ := ih
    rw [List.range_succ, List.foldl_append]
    obtain ⟨hsole', hpin'⟩ := hf _ m hsole
    refine ⟨hsole'.trans hsole, fun j => (hpin' j).trans ?_⟩
    by_cases hj : j = lo + m
    · subst hj
      rw [if_pos rfl, if_pos (by omega), hpin, if_neg (by omega), Nat.add_sub_cancel_left]
    · rw [if_neg hj, hpin]
      exact if_congr (by omega) rfl rfl

/-- The first pin that a register of one half names. -/
def halfLo (high : Bool) : Nat := if high then 32 else 0

/-- As `foldl_toPin`, over the pins of one half. -/
theorem State.foldl_half {f : State → Nat → State} {h : Nat → Pin → Pin} {s : State} {high : Bool}
    (hf : ∀ (u : State) (i : Nat), u.sansPins = s.sansPins → u.ToPin (f u i) (halfLo high + i) (h i (u.pin (halfLo high + i)))) (n : Fin 64) :
    ((List.range 32).foldl f s).pin n = if decide (32 ≤ n.val) = high then h (n.val % 32) (s.pin n) else s.pin n := by
  obtain ⟨-, hpin⟩ := State.foldl_toPin hf 32
  have hn := n.isLt
  have hin : (halfLo high ≤ n.val ∧ n.val < halfLo high + 32 ↔ decide (32 ≤ n.val) = high) ∧
      (decide (32 ≤ n.val) = high → n.val - halfLo high = n.val % 32) := by
    cases high <;> simp only [halfLo, decide_eq_false_iff_not, decide_eq_true_eq, if_true, Bool.false_eq_true, if_false] <;> omega
  rw [hpin]
  by_cases hc : decide (32 ≤ n.val) = high
  · rw [if_pos (hin.1.mpr hc), if_pos hc, hin.2 hc]
  · rw [if_neg fun h => hc (hin.1.mp h), if_neg hc]

/-- What leaves all but pins alone, and then settles the pairs, leaves all but pins and pairs alone. -/
theorem State.settlePairs_frame {s u : State} (h : u.sansPins = s.sansPins) (t : Nat) :
    { u.settlePairs t with pins := s.pins, pairs := s.pairs } = s := by
  obtain ⟨pairs, hs⟩ := u.settlePairs_eq t
  rw [hs]
  exact congrArg (fun u : State => { u with pins := s.pins, pairs := s.pairs }) h

theorem State.settlePairs_pin (s : State) (t n : Nat) : (s.settlePairs t).pin n = s.pin n := by
  obtain ⟨pairs, hs⟩ := s.settlePairs_eq t
  rw [hs]
  rfl

theorem State.settlePairs_rd (s : State) (t : Nat) (r : RegId) (i j : Nat) : (s.settlePairs t).rd r i j = s.rd r i j := by
  obtain ⟨pairs, h⟩ := s.settlePairs_eq t
  rw [h]
  rfl

/-! ### A time that is observed -/

/-- The pins, and the pairs and markers that drive them. -/
structure Drives where
  pins : KMap Pin
  pairs : KMap Pair
  markers : KMap Marker

def State.drives (s : State) : Drives := ⟨s.pins, s.pairs, s.markers⟩

theorem State.bump_drives (s : State) (r : RegId) (i : Nat) : (s.bump r i).drives = s.drives := rfl

theorem State.reach_drives (s : State) (t : Nat) : (s.reach t).drives = s.drives :=
  State.Aside.reach (F := State.drives)
    ⟨fun s => s.bump_drives _ _, fun _ _ => rfl, fun _ _ => rfl, fun _ _ => rfl, fun _ _ => rfl, fun _ _ _ => rfl⟩ s t

theorem State.reach_groups (s : State) (t : Nat) : (s.reach t).groups = s.groups :=
  State.groups_aside.reach s t

theorem State.reach_pins (s : State) (t : Nat) : (s.reach t).pins = s.pins := congrArg Drives.pins (s.reach_drives t)

theorem State.reach_pairs (s : State) (t : Nat) : (s.reach t).pairs = s.pairs := congrArg Drives.pairs (s.reach_drives t)

theorem State.reach_mrk (s : State) (t m : Nat) : (s.reach t).mrk m = s.mrk m := by
  have hmarkers : (s.reach t).markers = s.markers := congrArg Drives.markers (s.reach_drives t)
  rw [State.mrk, hmarkers, State.mrk]

theorem State.reach_rd (s : State) (t : Nat) {r : RegId} {i j : Nat} (h : unlogged (r.off i j)) : (s.reach t).rd r i j = s.rd r i j := by
  obtain ⟨_, hsrc⟩ := s.reach_sources t
  exact State.rd_of_sources hsrc h

/-! ### Direct writes of the registers that clear lanes -/

/-- The registers that end overrides and fences of 32 lanes each. -/
def laneClears : List RegId := [.PAT_FENCE_CLR_LO, .PAT_FENCE_CLR_HI, .PAT_OVR_CLR_LO, .PAT_OVR_CLR_HI]

/-- A permitted write of such a register takes effect at once. -/
theorem State.directWrite_laneClear {s : State} {r : RegId} (hr : r ∈ laneClears) {v : Word}
    (hok : s.notPermitted false (r, 0, 0) v = false) : s.directWrite (r.off 0 0) v = s.writeNow false none (r, 0, 0) v := by
  have hall : ∀ r ∈ laneClears, RegId.at? (r.off 0 0) = some (r, 0, 0) ∧ regOffset (r.off 0 0) = true := by decide +kernel
  obtain ⟨hat, hoff⟩ := hall r hr
  simp only [laneClears, List.mem_cons, List.not_mem_nil, or_false] at hr
  have hcause : s.writeCause false (r.off 0 0) v = none := by
    rcases hr with rfl | rfl | rfl | rfl <;>
      simp [State.writeCause, hat, RegId.row, hok, touches, State.gainDenied, State.routeMoves, State.requestPending]
  rw [State.directWrite_taken hoff hat hcause]
  rcases hr with rfl | rfl | rfl | rfl <;>
    simp [State.directTaken, State.writeCfg, State.stageGroup, RegId.row, State.confineAt, hat]

end Sys2Proof.Machine
end
section
/-!
PROOF. Pattern steps, the dead time of pairs, markers, and the end of overrides (R267, R268, R271, R272, R274).
-/
namespace Sys2Proof.Machine

/-! ### One step of a lane (R267) -/

/-- The registers that a lane's step reads are no counters of the outputs. -/
theorem isShowCounter_of_lane {r : RegId} {n : Nat} (hr : r = .PAT_LANE_n ∧ n < 64 ∨ r = .SYS_EN_STATUS ∧ n = 0) :
    ¬isShowCounter (r.off n 0) = true := by
  rw [isShowCounter_iff]
  rintro ⟨r', hr', i', hi', e⟩
  simp only [showCounters, List.mem_cons, List.not_mem_nil, or_false] at hr'
  rcases hr with ⟨rfl, hn⟩ | ⟨rfl, rfl⟩ <;>
    rcases hr' with rfl | rfl | rfl | rfl | rfl | rfl | rfl | rfl <;>
      · simp only [RegId.off, RegId.row] at e
        omega

/-- A pin as step `k` of its group's segment leaves it. -/
def State.stepped (s : State) (g seg k n : Nat) (x : Pin) : Pin :=
  if (dMask (s.segDesc seg)).getLsbD n ∧ s.laneGroup n = g ∧ s.rf .PAT_LANE_n n 0 2 1 = 0 ∧ (s.patOn && x.en) = true ∧ x.ovr = none
  then { x with level := some (s.patBit seg n k) } else x

theorem State.laneStep_toPin (s : State) (g seg k n : Nat) : s.ToPin (s.laneStep g seg k n) n (s.stepped g seg k n (s.pin n)) := by
  have hstep : s.laneStep g seg k n = if (dMask (s.segDesc seg)).getLsbD n ∧ s.laneGroup n = g ∧ s.rf .PAT_LANE_n n 0 2 1 = 0 ∧
      (s.patOn && (s.pin n).en) = true ∧ (s.pin n).ovr = none
      then s.setPin n { s.pin n with level := some (s.patBit seg n k) } else s := by
    unfold State.laneStep
    refine if_congr ?_ rfl rfl
    simp only [Bool.and_eq_true, decide_eq_true_eq, Option.isNone_iff_eq_none, and_assoc, State.pinRuns]
  rw [hstep]
  exact s.ite_toPin n _ _

/-- A step of a lane reads the content and the settings. -/
theorem State.stepped_congr {s t : State} (hcontent : t.content = s.content) (hregs : t.settings = s.settings) {n : Nat} (hn : n < 64)
    (g seg k : Nat) (x : Pin) : t.stepped g seg k n x = s.stepped g seg k n x := by
  have hlane : t.rd .PAT_LANE_n n = s.rd .PAT_LANE_n n := State.rd_of_settings hregs (isShowCounter_of_lane (.inl ⟨rfl, hn⟩))
  have hon : t.rd .SYS_EN_STATUS = s.rd .SYS_EN_STATUS := State.rd_of_settings hregs (isShowCounter_of_lane (.inr ⟨rfl, rfl⟩))
  have hbit : t.patBit seg n k = s.patBit seg n k := by
    simp only [State.patBit, State.segDesc_congr hcontent, State.byteAt_congr hcontent]
  unfold State.stepped
  refine if_congr ?_ (by rw [hbit]) rfl
  simp only [State.segDesc_congr hcontent, State.laneGroup, State.rf, hlane, State.patOn, State.running, State.rb, hon]

/-! ### PATTERN_STEP (R267, R268) -/

/-- The state in which step `k` of a group's segment has been taken. -/
def State.stepAt (s : State) (g seg t0 k : Nat) : State :=
  (s.reach (t0 + k * dFine (s.segDesc seg) * 256)).modGrp g fun x => { x with pat := some (seg, t0, k + 1) }

section
variable {s : State} {g seg t0 k : Nat}

theorem State.stepAt_grp : (s.stepAt g seg t0 k).grp g = { s.grp g with pat := some (seg, t0, k + 1) } := by
  refine (State.grp_setGrp_same _ _ _).trans ?_
  rw [State.grp_of_groups (s.reach_groups _)]

theorem State.stepAt_content : (s.stepAt g seg t0 k).content = s.content :=
  (State.content_of_scene ((State.scene_aside 0).reach s (t0 + k * dFine (s.segDesc seg) * 256)) :)

theorem State.stepAt_settings : (s.stepAt g seg t0 k).settings = s.settings :=
  (State.settings_of_base (State.base_of_core (State.core_aside.reach s (t0 + k * dFine (s.segDesc seg) * 256))) :)

theorem State.stepAt_segSt : (s.stepAt g seg t0 k).segSt seg = s.segSt seg := by
  simp only [State.segSt, State.seg_of_content State.stepAt_content]

theorem State.stepAt_pins : (s.stepAt g seg t0 k).pins = s.pins := s.reach_pins _

/-- Without a group and the pins and pairs, a taken step is an observation of its time. -/
theorem State.stepAt_frame : { s.stepAt g seg t0 k with groups := s.groups, pins := s.pins, pairs := s.pairs } =
    s.reach (t0 + k * dFine (s.segDesc seg) * 256) := by
  rw [← s.reach_groups (t0 + k * dFine (s.segDesc seg) * 256), ← s.reach_pins (t0 + k * dFine (s.segDesc seg) * 256),
    ← s.reach_pairs (t0 + k * dFine (s.segDesc seg) * 256)]
  rfl

/-- A step that falls due while its group drives. -/
theorem State.patternStep_due (hpat : (s.grp g).pat = some (seg, t0, k)) (hdrives : s.groupDrives g = true)
    (hk : k < dCount (s.segDesc seg)) (absent : Bool) : s.patternStep g absent =
    if absent = true ∨ (s.grp g).patLost = true ∨ s.segSt seg ≠ .valid then (s.stepAt g seg t0 k).underrun g 4 none
    else ((List.range 64).foldl (fun u n => u.laneStep g seg k n) (s.stepAt g seg t0 k)).settlePairs
      (t0 + k * dFine (s.segDesc seg) * 256) := by
  have hlost : ((s.stepAt g seg t0 k).grp g).patLost = (s.grp g).patLost := by rw [State.stepAt_grp]
  simp only [State.patternStep, hpat, hdrives, hk, decide_true, Bool.and_self, if_true]
  refine if_congr ?_ rfl rfl
  rw [← hlost, ← State.stepAt_segSt (s := s) (g := g) (t0 := t0) (k := k)]
  simp only [Bool.or_eq_true, decide_eq_true_eq, or_assoc]
  rfl

theorem State.patternStep_idle (absent : Bool) (h : (s.grp g).pat = none ∨ s.groupDrives g = false ∨
    ∃ seg t0 k, (s.grp g).pat = some (seg, t0, k) ∧ dCount (s.segDesc seg) ≤ k) : s.patternStep g absent = s := by
  unfold State.patternStep
  rcases h with h | h | ⟨seg, t0, k, hpat, hk⟩
  · rw [h]
  · split
    · simp [h]
    · rfl
  · simp [hpat, Nat.not_lt.mpr hk]

end

theorem patternStep_drives {s : State} (hrst : s.mgt.rst = false) {g : Fin 8} {seg t0 k : Nat} (hpat : (s.grp g).pat = some (seg, t0, k))
    (hdrives : s.groupDrives g = true) (hk : k < dCount (s.segDesc seg)) (hlost : (s.grp g).patLost = false)
    (hvalid : s.segSt seg = .valid) :
    ∃ v, exec (.patternStep g false) s = .next v ∧ v.grp g = { s.grp g with pat := some (seg, t0, k + 1) } ∧
      (∀ n : Fin 64, v.pin n =
        if (dMask (s.segDesc seg)).getLsbD n ∧ s.laneGroup n = g ∧ s.rf .PAT_LANE_n n 0 2 1 = 0 ∧ s.pinRuns n = true ∧ (s.pin n).ovr = none
        then { s.pin n with level := some (s.patBit seg n k) } else s.pin n) ∧
      KMap.agreeBut s.groups v.groups [g.val] ∧
      { v with groups := s.groups, pins := s.pins, pairs := s.pairs } = s.reach (t0 + k * dFine (s.segDesc seg) * 256) := by
  have hdue := State.patternStep_due hpat hdrives hk false
  rw [if_neg (by simp [hlost, hvalid])] at hdue
  obtain ⟨hsole, hpin⟩ := State.foldl_toPin (s := s.stepAt g seg t0 k) (f := fun u n => u.laneStep g seg k n) (lo := 0)
    (h := (s.stepAt g seg t0 k).stepped g seg k) (fun u n hu => by
      have hsame : ∀ x, u.stepped g seg k n x = (s.stepAt g seg t0 k).stepped g seg k n x := fun x =>
        (congrArg (·.stepped g seg k n x) hu :)
      rw [Nat.zero_add, ← hsame]
      exact u.laneStep_toPin g seg k n) 64
  generalize (List.range 64).foldl (fun u n => u.laneStep g seg k n) (s.stepAt g seg t0 k) = w at hdue hsole hpin
  obtain ⟨pairs, hsettle⟩ := w.settlePairs_eq (t0 + k * dFine (s.segDesc seg) * 256)
  have hgroups : w.groups = (s.stepAt g seg t0 k).groups := (congrArg State.groups hsole :)
  refine ⟨_, exec_main rfl hrst (hdue.trans hsettle), ?_, fun n => ?_, ?_, ?_⟩
  · rw [← State.stepAt_grp]
    exact congrArg (fun m => KMap.getD m g {}) hgroups
  · refine (hpin n).trans ?_
    rw [if_pos (by omega), Nat.sub_zero, State.stepped_congr State.stepAt_content State.stepAt_settings n.isLt, State.pin,
      State.stepAt_pins]
    rfl
  · refine (hgroups ▸ ?_ : KMap.agreeBut s.groups w.groups [g.val])
    rw [← s.reach_groups (t0 + k * dFine (s.segDesc seg) * 256)]
    exact State.setGrp_agreeBut _ _ _
  · rw [← State.stepAt_frame (g := g)]
    exact congrArg (fun u : State => { u with groups := s.groups, pins := s.pins, pairs := s.pairs }) hsole

theorem State.logErr_drives (s : State) (cls blk inst code status d0 d1 : Nat) :
    (s.logErr cls blk inst code status d0 d1).drives = s.drives := by
  obtain ⟨_, _, _, _, heq, -⟩ := s.logErr_writes cls blk inst code status d0 d1
  rw [heq]
  rfl

/-- An underrun and its record are no change of a pin. -/
theorem State.underrun_drives (s : State) (g cause : Nat) (due : Option Nat) : (s.underrun g cause due).drives = s.drives := by
  have hcount : ∀ x : Group, (((s.setGrp g x).bump .Gn_CNT_UNDERRUN g).bump .ERR_CNT_UNDERRUN).drives = s.drives := fun _ =>
    (State.bump_drives ..).trans (State.bump_drives ..)
  unfold State.underrun
  dsimp only
  refine State.same_ite State.drives (State.same_ite State.drives (hcount _) rfl)
    (State.same_ite State.drives (State.same_ite State.drives ?_ ?_) rfl)
  · exact (State.logErr_drives ..).trans ((State.bump_drives ..).trans (hcount _))
  · exact (State.logErr_drives ..).trans (hcount _)

theorem State.underrun_entry (s : State) (g cause : Nat) :
    s.underrun g cause none = s.underrun g cause (some (s.grp g).entry) := by
  simp only [State.underrun, Option.getD_none, Option.getD_some]

theorem patternStep_underruns {s : State} (hrst : s.mgt.rst = false) {g : Fin 8} {seg t0 k : Nat} {absent : Bool}
    (hpat : (s.grp g).pat = some (seg, t0, k)) (hdrives : s.groupDrives g = true) (hk : k < dCount (s.segDesc seg))
    (hlost : absent = true ∨ (s.grp g).patLost = true ∨ s.segSt seg ≠ .valid) (hep : (s.grp g).episode = none) :
    ∃ v, exec (.patternStep g absent) s = .next v ∧ (v.grp g).episode.isSome = true ∧
      v.rd .Gn_CNT_UNDERRUN g = satInc (s.rd .Gn_CNT_UNDERRUN g) ∧ v.pins = s.pins := by
  have hdue := State.patternStep_due hpat hdrives hk absent
  rw [if_pos hlost, State.underrun_entry] at hdue
  have hdeciding : (s.stepAt g seg t0 k).deciding g = true := by
    simp only [State.groupDrives, Bool.and_eq_true, Bool.not_eq_true'] at hdrives
    simp [State.deciding, State.stepAt_grp, hdrives, hep]
  have htally := State.underrun_tally hdeciding 4 ((s.stepAt g seg t0 k).grp g).entry
  have hpins := (congrArg Drives.pins ((s.stepAt g seg t0 k).underrun_drives g 4 (some ((s.stepAt g seg t0 k).grp g).entry))).trans
    (State.stepAt_pins (g := g))
  generalize (s.stepAt g seg t0 k).underrun g 4 (some ((s.stepAt g seg t0 k).grp g).entry) = v at hdue htally hpins
  obtain ⟨hgrp, hcount⟩ := Prod.mk.inj htally
  have hbefore : (s.stepAt g seg t0 k).rd .Gn_CNT_UNDERRUN g = s.rd .Gn_CNT_UNDERRUN g :=
    State.rd_of_settings State.stepAt_settings (isShowCounter_of_group (by simp))
  exact ⟨v, exec_main rfl hrst hdue, by rw [hgrp]; rfl, by rw [hcount, hbefore], hpins⟩

/-! ### Pairs and markers (R271, R274) -/

theorem State.pairMake_due {s : State} {k t : Nat} (h : (s.pair k).due = some t) : s.pairMake k = (s.reach t).setPair k
    (if (s.pair k).makeA then { s.pair k with a := true, due := none } else { s.pair k with b := true, due := none }) := by
  simp only [State.pairMake, h]

theorem State.pairMake_idle {s : State} {k : Nat} (h : (s.pair k).due = none) : s.pairMake k = s := by
  simp only [State.pairMake, h]

theorem State.markerEnd_high {s : State} {m : Nat} (h : (s.mrk m).high = true) :
    s.markerEnd m = (s.reach (s.mrk m).until_).setMrk m ⟨false, 0⟩ := by
  simp only [State.markerEnd, State.mkLow, s.reach_mrk, h, if_true]

theorem State.markerEnd_low {s : State} {m : Nat} (h : (s.mrk m).high = false) : s.markerEnd m = s := by
  simp only [State.markerEnd, h, Bool.false_eq_true, if_false]

/-! ### PAT_OVR_CLR (R272) -/

/-- A pin whose override bit `i` of a write to PAT_OVR_CLR may end. -/
def Pin.unforced (w : Word) (i : Nat) (x : Pin) : Pin :=
  if bit w i = true ∧ x.ovr ≠ none then { x with level := if x.level.isSome then x.ovr else none, ovr := none } else x

theorem State.writeHalf_patOvrClr (s : State) (high : Bool) (w : Word) :
    s.writeHalf .PAT_OVR_CLR_LO .PAT_OVR_CLR_HI high w = s.patOvrClr (halfLo high) w := by
  cases high
  · exact State.directWrite_laneClear (r := .PAT_OVR_CLR_LO) (by decide) rfl
  · exact State.directWrite_laneClear (r := .PAT_OVR_CLR_HI) (by decide) rfl

/-- The step for bit `i` of a write to PAT_OVR_CLR. -/
theorem State.ovrClr_toPin (u : State) (lo i : Nat) (w : Word) :
    u.ToPin (if bit w i && (u.pin (lo + i)).ovr.isSome then
      u.setPin (lo + i) { u.pin (lo + i) with
        level := if (u.pin (lo + i)).level.isSome then (u.pin (lo + i)).ovr else none, ovr := none } else u)
      (lo + i) ((u.pin (lo + i)).unforced w i) := by
  have hc : (bit w i && (u.pin (lo + i)).ovr.isSome) = true ↔ bit w i = true ∧ (u.pin (lo + i)).ovr ≠ none := by
    rw [Bool.and_eq_true, Option.isSome_iff_ne_none]
  rw [if_congr hc rfl rfl]
  exact u.ite_toPin _ _ _

theorem patOvrClr_clears {s : State} (hrst : s.mgt.rst = false) (high : Bool) (w : Word) :
    ∃ v, exec (.patOvrClr high w) s = .next v ∧ { v with pins := s.pins, pairs := s.pairs } = s ∧
      ∀ n : Fin 64, v.pin n =
        if decide (32 ≤ n.val) = high ∧ bit w (n.val % 32) = true ∧ (s.pin n).ovr ≠ none
        then { s.pin n with level := if (s.pin n).level.isSome then (s.pin n).ovr else none, ovr := none } else s.pin n := by
  have hstep := fun (u : State) (i : Nat) (_ : u.sansPins = s.sansPins) => u.ovrClr_toPin (halfLo high) i w
  obtain ⟨hsole, -⟩ := State.foldl_toPin (h := fun i x => x.unforced w i) hstep 32
  refine ⟨_, exec_main rfl hrst (s.writeHalf_patOvrClr high w), State.settlePairs_frame hsole _, fun n => ?_⟩
  refine (State.settlePairs_pin _ _ _).trans ((State.foldl_half (h := fun i x => x.unforced w i) hstep n).trans ?_)
  by_cases hhalf : decide (32 ≤ n.val) = high
  · rw [if_pos hhalf]
    exact if_congr (and_iff_right hhalf).symm rfl rfl
  · rw [if_neg hhalf, if_neg fun h => hhalf h.1]

/-- Settles O45: a step of a group is an observation of its time with each lane's own step, or an underrun; overrides end lane by
lane. -/
theorem patternSteps : Obligations.PatternSteps := by
  unfold Obligations.PatternSteps
  intro s hrst
  exact ⟨fun _ _ _ _ hpat hdrives hk hlost hvalid => patternStep_drives hrst hpat hdrives hk hlost hvalid,
    fun _ _ _ _ _ hpat hdrives hk hlost hep => patternStep_underruns hrst hpat hdrives hk hlost hep,
    fun _ absent h => exec_main rfl hrst (State.patternStep_idle absent h),
    fun _ => ⟨fun _ h => exec_main rfl hrst (State.pairMake_due h), fun h => exec_main rfl hrst (State.pairMake_idle h)⟩,
    fun _ => ⟨fun h => exec_main rfl hrst (State.markerEnd_high h), fun h => exec_main rfl hrst (State.markerEnd_low h)⟩,
    patOvrClr_clears hrst⟩

end Sys2Proof.Machine
end
section
/-!
PROOF. The protection of pins: mismatches, retries and fences (R276 to R278).
-/
namespace Sys2Proof.Machine

theorem State.setPin_agreeBut (s : State) (n : Nat) (x : Pin) : KMap.agreeBut s.pins (s.setPin n x).pins [n] :=
  fun _ hj => KMap.find?_insert_ne _ _ (by simpa using hj)

/-! ### A mismatch before it is judged (R276) -/

theorem State.event_now (s : State) (src time : Nat) (level : Option Bool) (detail : Word) (flags : Nat) :
    (s.event src time level detail flags).now = s.now := by
  by_cases h : s.evtOn = true
  · exact congrArg Timebase.now (State.event_fires h src time level detail flags).tb
  · rw [State.event_off (by simpa using h)]

/-- A register that neither events nor their records count in. -/
def eventless (off : Nat) : Prop := unlogged off ∧ off ≠ RegId.off .EVT_CNT_EVENTS 0 0

theorem State.event_rd (s : State) {r : RegId} {i j : Nat} (h : eventless (r.off i j)) (src time : Nat) (level : Option Bool)
    (detail : Word) (flags : Nat) : (s.event src time level detail flags).rd r i j = s.rd r i j := by
  obtain ⟨hlogged, hcounted⟩ := h
  obtain ⟨-, hregs⟩ := s.event_keeps src time level detail flags
  simp only [State.rd, KMap.getD, hregs _ hlogged hcounted]

/-- The state in which a mismatch of pin `n` at `t` has been counted and has raised its event. -/
def State.mismatched (s : State) (n t : Nat) : State :=
  ((s.reach t).bump .PAT_CNT_MISM_n n).event (srcOf 7 n) (t / 256 * 256) none 0

theorem State.mismatched_now (s : State) (n t : Nat) : (s.mismatched n t).now = (s.reach t).now := State.event_now ..

theorem State.mismatched_rd (s : State) {n : Nat} (t : Nat) {r : RegId} {i : Nat} (h : eventless (r.off i 0))
    (hne : r.off i 0 ≠ RegId.off .PAT_CNT_MISM_n n 0) : (s.mismatched n t).rd r i = s.rd r i :=
  (State.event_rd _ h _ _ _ _ _).trans ((State.rd_wr_ne _ _ hne).trans (s.reach_rd t h.1))

theorem State.mismatched_count (s : State) (n : Fin 64) (t : Nat) :
    (s.mismatched n t).rd .PAT_CNT_MISM_n n = satInc (s.rd .PAT_CNT_MISM_n n) := by
  have hmism : eventless (RegId.off .PAT_CNT_MISM_n n 0) := by
    simp only [eventless, unlogged, RegId.off, RegId.row]
    omega
  refine (State.event_rd _ hmism _ _ _ _ _).trans ((State.rd_wr_same _ _ _ _ _).trans ?_)
  rw [s.reach_rd t hmism.1]

/-- A pin that is not driven, or that a keeper holds, has no mismatch. -/
theorem State.pinMismatch_idle {s : State} {n : Nat} (h : s.pinLevel n = none ∨ (s.pin n).keeper ≠ none) (t : Nat) :
    s.pinMismatch n t = s := by
  refine if_neg ?_
  rcases h with h | h <;> simp [h]

/-! ### The protection acts (R277) -/

theorem State.pin_of_drives {s t : State} (h : t.drives = s.drives) (n : Nat) : t.pin n = s.pin n := by
  have hpins : t.pins = s.pins := congrArg Drives.pins h
  rw [State.pin, hpins, State.pin]

theorem State.irqIf_drives (s : State) (r : RegId) (i en : Nat) : (s.irqIf r i en).drives = s.drives := by
  obtain ⟨_, _, h⟩ := s.irqIf_eq r i en
  rw [h]
  rfl

theorem State.irqIf_rd (s : State) (r : RegId) (i en : Nat) (r' : RegId) (i' j' : Nat) :
    (s.irqIf r i en).rd r' i' j' = s.rd r' i' j' := by
  obtain ⟨_, _, h⟩ := s.irqIf_eq r i en
  rw [h]
  rfl

theorem State.logErr_rd (s : State) (cls blk inst code status d0 d1 : Nat) {r : RegId} {i j : Nat}
    (h : r.off i j ≠ RegId.off .ERR_CNT_LOST 0 0) : (s.logErr cls blk inst code status d0 d1).rd r i j = s.rd r i j := by
  obtain ⟨_, _, _, _, heq, hagree, -⟩ := s.logErr_writes cls blk inst code status d0 d1
  rw [heq]
  exact State.rd_of_agreeBut hagree (by simpa using h)

/-- A mismatch has switched pin `n` off. -/
def State.pinOff (s : State) (n : Nat) : State :=
  (s.modPin n fun p => { p with prot := .off, retryAt := s.now + msec 1 }).logErr 0 8 n 0x0009 0xFF 1 0

/-- A mismatch has fenced pin `n`. -/
def State.pinFence (s : State) (n : Nat) : State :=
  (((s.modPin n fun p => { p with prot := .fenced }).bump .PAT_CNT_FENCE_n n).lasting 8 n 0x0009 0xFF 3 0).irqIf .PAT_CTL 0 0

/-- The next state of a mismatch of a driven pin that is on. -/
theorem State.pinMismatch_driven {s : State} {n : Nat} (t : Nat) (hlevel : (s.pinLevel n).isSome = true)
    (hkeeper : (s.pin n).keeper = none) :
    ((s.pin n).prot = .normal →
      s.pinMismatch n t = ((s.mismatched n t).pinOff n).settlePairs ((s.mismatched n t).pinOff n).now) ∧
    ((s.pin n).prot = .retry →
      s.pinMismatch n t = ((s.mismatched n t).pinFence n).settlePairs ((s.mismatched n t).pinFence n).now) := by
  constructor <;>
    · intro hprot
      simp only [State.pinMismatch, hlevel, hkeeper, hprot, Prot.isOff, Option.isNone_none, Bool.not_false, Bool.and_self, if_true]
      rfl

theorem State.pinOff_pin (s : State) (n : Nat) : (s.pinOff n).pin n = { s.pin n with prot := .off, retryAt := s.now + msec 1 } :=
  (State.pin_of_drives (State.logErr_drives ..) n).trans (s.pin_setPin_same _ _)

theorem State.pinOff_rd (s : State) (n : Nat) {r : RegId} {i : Nat} (h : r.off i 0 ≠ RegId.off .ERR_CNT_LOST 0 0) :
    (s.pinOff n).rd r i = s.rd r i := State.logErr_rd _ _ _ _ _ _ _ _ h

theorem State.pinFence_pin (s : State) (n : Nat) : (s.pinFence n).pin n = { s.pin n with prot := .fenced } := by
  have hdrives : (s.pinFence n).drives = (s.modPin n fun p => { p with prot := .fenced }).drives := by
    refine (State.irqIf_drives ..).trans ((State.logErr_drives ..).trans ?_)
    rw [State.bump_drives, State.bump_drives]
  exact (State.pin_of_drives hdrives n).trans (s.pin_setPin_same _ _)

/-- What a fence counts. -/
theorem State.pinFence_rd (s : State) (n : Nat) {r : RegId} {i : Nat} (h : r.off i 0 ≠ RegId.off .ERR_CNT_LOST 0 0) :
    (s.pinFence n).rd r i = ((s.bump .PAT_CNT_FENCE_n n).bump .ERR_CNT_LASTING).rd r i :=
  (State.irqIf_rd ..).trans (State.logErr_rd _ _ _ _ _ _ _ _ h)

section
variable {n : Fin 64} {s : State} {t : Nat} (hrst : s.mgt.rst = false) (hlevel : (s.pinLevel n).isSome = true)
  (hkeeper : (s.pin n).keeper = none)
include hrst hlevel hkeeper

theorem pinMismatch_normal (hprot : (s.pin n).prot = .normal) :
    ∃ v, exec (.pinMismatch n t) s = .next v ∧ v.rd .PAT_CNT_MISM_n n = satInc (s.rd .PAT_CNT_MISM_n n) ∧
      (v.pin n).prot = .off ∧ (v.pin n).retryAt = (s.reach t).now + msec 1 := by
  obtain ⟨htrip, -⟩ := State.pinMismatch_driven t hlevel hkeeper
  refine ⟨_, exec_main rfl hrst (htrip hprot), ?_, ?_⟩
  · rw [State.settlePairs_rd, State.pinOff_rd _ _ (by simp only [RegId.off, RegId.row]; omega), s.mismatched_count]
  · rw [State.settlePairs_pin, State.pinOff_pin, s.mismatched_now]
    exact ⟨rfl, rfl⟩

theorem pinMismatch_retry (hprot : (s.pin n).prot = .retry) :
    ∃ v, exec (.pinMismatch n t) s = .next v ∧ v.rd .PAT_CNT_MISM_n n = satInc (s.rd .PAT_CNT_MISM_n n) ∧
      (v.pin n).prot = .fenced ∧ v.rd .PAT_CNT_FENCE_n n = satInc (s.rd .PAT_CNT_FENCE_n n) ∧
      v.rd .ERR_CNT_LASTING = satInc (s.rd .ERR_CNT_LASTING) := by
  obtain ⟨hmism, hfence, hlasting, hne⟩ : RegId.off .PAT_CNT_MISM_n n 0 < RegId.off .ERR_CNT_LASTING 0 0 ∧
      RegId.off .PAT_CNT_FENCE_n n 0 < RegId.off .ERR_CNT_LASTING 0 0 ∧
      RegId.off .ERR_CNT_LASTING 0 0 < RegId.off .ERR_CNT_LOST 0 0 ∧
      RegId.off .PAT_CNT_FENCE_n n 0 ≠ RegId.off .PAT_CNT_MISM_n n 0 := by
    simp only [RegId.off, RegId.row]
    omega
  obtain ⟨hquietFence, hquietLasting⟩ : eventless (RegId.off .PAT_CNT_FENCE_n n 0) ∧ eventless (RegId.off .ERR_CNT_LASTING 0 0) := by
    simp only [eventless, unlogged, RegId.off, RegId.row]
    omega
  obtain ⟨-, htrip⟩ := State.pinMismatch_driven t hlevel hkeeper
  refine ⟨_, exec_main rfl hrst (htrip hprot), ?_, ?_, ?_, ?_⟩
  · rw [State.settlePairs_rd, State.pinFence_rd _ _ (hmism.trans hlasting).ne, State.bump, State.rd_wr_ne _ _ hmism.ne, State.bump,
      State.rd_wr_ne _ _ hne.symm, s.mismatched_count]
  · rw [State.settlePairs_pin, State.pinFence_pin]
  · rw [State.settlePairs_rd, State.pinFence_rd _ _ (hfence.trans hlasting).ne, State.bump, State.rd_wr_ne _ _ hfence.ne, State.bump,
      State.rd_wr_same, s.mismatched_rd t hquietFence hne]
  · rw [State.settlePairs_rd, State.pinFence_rd _ _ hlasting.ne, State.bump, State.rd_wr_same, State.bump, State.rd_wr_ne _ _ hfence.ne',
      s.mismatched_rd t hquietLasting hmism.ne']

end

/-! ### Retries and fences (R277, R278) -/

theorem State.pinRetry_stays {s : State} {n : Nat} (h : (s.pin n).prot ≠ .off) : s.pinRetry n = s := if_neg h

theorem State.pinRetryPassed_stays {s : State} {n : Nat} (h : (s.pin n).prot ≠ .retry) : s.pinRetryPassed n = s := if_neg h

theorem pinRetry_drives {n : Fin 64} {s : State} (hrst : s.mgt.rst = false) (h : (s.pin n).prot = .off) :
    ∃ v, exec (.pinRetry n) s = .next v ∧ v.pin n = { s.pin n with prot := .retry } ∧ KMap.agreeBut s.pins v.pins [n.val] ∧
      { v with pins := s.pins, pairs := s.pairs } = s.reach (s.pin n).retryAt := by
  have hpins := s.reach_pins (s.pin n).retryAt
  have hpairs := s.reach_pairs (s.pin n).retryAt
  have hretry : ∃ now, s.pinRetry n = ((s.reach (s.pin n).retryAt).setPin n { s.pin n with prot := .retry }).settlePairs now :=
    ⟨_, if_pos h⟩
  obtain ⟨now, hretry⟩ := hretry
  generalize s.reach (s.pin n).retryAt = u at hretry hpins hpairs
  obtain ⟨pairs, hsettle⟩ := (u.setPin n { s.pin n with prot := .retry }).settlePairs_eq now
  refine ⟨_, exec_main rfl hrst (hretry.trans hsettle), u.pin_setPin_same _ _, ?_, ?_⟩
  · exact hpins ▸ u.setPin_agreeBut _ _
  · rw [← hpins, ← hpairs]
    rfl

theorem pinRetryPassed_passes {n : Fin 64} {s : State} (hrst : s.mgt.rst = false) (h : (s.pin n).prot = .retry) :
    ∃ v, exec (.pinRetryPassed n) s = .next v ∧ v.pin n = { s.pin n with prot := .normal } ∧ KMap.agreeBut s.pins v.pins [n.val] ∧
      v.rd .ERR_CNT_TRANSIENT = satInc (s.rd .ERR_CNT_TRANSIENT) ∧
      { v with pins := s.pins, pairs := s.pairs, regs := s.regs, err := s.err } = s := by
  obtain ⟨regs, err, heq, hcount⟩ := (s.setPin n { s.pin n with prot := .normal }).transient_writes 8 n 0x0009 0xFF 0 0
  have hpass : s.pinRetryPassed n =
      State.settlePairs { s.setPin n { s.pin n with prot := .normal } with regs := regs, err := err } s.now := by
    refine (if_pos h).trans ?_
    rw [heq]
    rfl
  obtain ⟨pairs, hsettle⟩ := State.settlePairs_eq { s.setPin n { s.pin n with prot := .normal } with regs := regs, err := err } s.now
  exact ⟨_, exec_main rfl hrst (hpass.trans hsettle), s.pin_setPin_same _ _, s.setPin_agreeBut _ _, hcount, rfl⟩

/-- A fenced pin that bit `i` of a write to PAT_FENCE_CLR may return to NORMAL. -/
def Pin.unfenced (w : Word) (i : Nat) (x : Pin) : Pin :=
  if bit w i = true ∧ x.prot = .fenced then { x with prot := .normal } else x

/-- The step for bit `i` of a write to PAT_FENCE_CLR. -/
theorem State.fenceClr_toPin (u : State) (lo i : Nat) (w : Word) :
    u.ToPin (if bit w i && (u.pin (lo + i)).prot = .fenced then u.modPin (lo + i) fun p => { p with prot := .normal } else u)
      (lo + i) ((u.pin (lo + i)).unfenced w i) := by
  rw [if_congr (Q := bit w i = true ∧ (u.pin (lo + i)).prot = .fenced) (by simp) rfl rfl]
  exact u.ite_toPin _ _ _

theorem State.writeHalf_patFenceClr {s : State} {high : Bool} {w : Word} (hok : s.patClrBad (halfLo high) w = false) :
    s.writeHalf .PAT_FENCE_CLR_LO .PAT_FENCE_CLR_HI high w = s.patFenceClr (halfLo high) w := by
  cases high
  · exact State.directWrite_laneClear (r := .PAT_FENCE_CLR_LO) (by decide) hok
  · exact State.directWrite_laneClear (r := .PAT_FENCE_CLR_HI) (by decide) hok

theorem patFenceClr_clears {s : State} (hrst : s.mgt.rst = false) (high : Bool) (w : Word)
    (hnamed : ∀ m : Fin 64, decide (32 ≤ m.val) = high → bit w (m.val % 32) = true → (s.pin m).prot = .fenced) :
    ∃ v, exec (.patFenceClr high w) s = .next v ∧ { v with pins := s.pins, pairs := s.pairs } = s ∧
      ∀ m : Fin 64, v.pin m =
        if decide (32 ≤ m.val) = high ∧ bit w (m.val % 32) = true then { s.pin m with prot := .normal } else s.pin m := by
  have hok : s.patClrBad (halfLo high) w = false := by
    simp only [State.patClrBad, List.any_eq_false, List.mem_range, Bool.and_eq_true, decide_eq_true_eq, not_and, not_not]
    intro i hi hbit
    have hlo : halfLo high + i < 64 ∧ decide (32 ≤ halfLo high + i) = high ∧ (halfLo high + i) % 32 = i := by
      cases high <;> simp [halfLo] <;> omega
    obtain ⟨hlt, hhalf, hmod⟩ := hlo
    exact hnamed ⟨_, hlt⟩ hhalf (hmod.symm ▸ hbit)
  have hstep := fun (u : State) (i : Nat) (_ : u.sansPins = s.sansPins) => u.fenceClr_toPin (halfLo high) i w
  obtain ⟨hsole, -⟩ := State.foldl_toPin (h := fun i x => x.unfenced w i) hstep 32
  refine ⟨_, exec_main rfl hrst (State.writeHalf_patFenceClr hok), State.settlePairs_frame hsole _, fun m => ?_⟩
  refine (State.settlePairs_pin _ _ _).trans ((State.foldl_half (h := fun i x => x.unfenced w i) hstep m).trans ?_)
  by_cases hhalf : decide (32 ≤ m.val) = high
  · rw [if_pos hhalf]
    exact if_congr ⟨fun h => ⟨hhalf, h.1⟩, fun h => ⟨h.2, hnamed m hhalf h.2⟩⟩ rfl rfl
  · rw [if_neg hhalf, if_neg fun h => hhalf h.1]

/-- Settles O46: the mismatch is counted and its event raised before the pin's state decides; the other events are computed to the pin, its
count and the pairs. -/
theorem pinProtection : Obligations.PinProtection := by
  unfold Obligations.PinProtection
  intro n s hrst
  refine ⟨fun t u hu => ⟨fun h => exec_main rfl hrst (State.pinMismatch_idle h t), fun hlevel hkeeper => ?_⟩,
    pinRetry_drives hrst, fun h => exec_main rfl hrst (State.pinRetry_stays h), pinRetryPassed_passes hrst,
    fun h => exec_main rfl hrst (State.pinRetryPassed_stays h), patFenceClr_clears hrst⟩
  subst hu
  exact ⟨pinMismatch_normal hrst hlevel hkeeper, pinMismatch_retry hrst hlevel hkeeper⟩

end Sys2Proof.Machine
end
